-- ==== Sys2Proof/Word.lean ====
section
/-! DEFINITION. The word types and their plainest arithmetic: bytes, 32-bit register words, the
two-fold index of rule R23 (string, ring, host port, bus, slot) and a two-fold store indexed by it. -/

namespace Sys2Proof

/-- One byte. -/
abbrev Byte := BitVec 8

/-- One BAR0 register word. -/
abbrev Word := BitVec 32

/-- An IEEE 754 binary32 value as its 32 bits. -/
abbrev F32 := BitVec 32

/-- The two-fold index of Table 0-6: string 0 or 1, ring 0 or 1, host port A or B, bus 0 or 1, slot A or B. -/
inductive Ix where
  | zero
  | one
  deriving DecidableEq, Repr

/-- The number of an index. -/
def Ix.num : Ix → Nat
  | .zero => 0
  | .one => 1

/-- The index numbered 0, and 1 for every other number. -/
def Ix.ofNum : Nat → Ix
  | 0 => .zero
  | _ => .one

/-- The other index. -/
def Ix.other : Ix → Ix
  | .zero => .one
  | .one => .zero

/-- Two values of one kind, one for each index. -/
structure Two (α : Type) where
  zero : α
  one : α
  deriving DecidableEq, Repr

/-- The value at an index. -/
def Two.get {α : Type} (t : Two α) : Ix → α
  | .zero => t.zero
  | .one => t.one

/-- The pair with the value at one index replaced. -/
def Two.set {α : Type} (t : Two α) (i : Ix) (a : α) : Two α :=
  match i with
  | .zero => { t with zero := a }
  | .one => { t with one := a }

/-- The pair with the value at one index changed by a function. -/
def Two.modify {α : Type} (t : Two α) (i : Ix) (f : α → α) : Two α :=
  t.set i (f (t.get i))

/-- Both values the same. -/
def Two.both {α : Type} (a : α) : Two α := { zero := a, one := a }

/-- Both values changed by one function. -/
def Two.map {α β : Type} (f : α → β) (t : Two α) : Two β := { zero := f t.zero, one := f t.one }

/-- One bit as a number. -/
def bit (b : Bool) : Nat := if b then 1 else 0

/-- Bit `i` of a number. -/
def testBit (n i : Nat) : Bool := (n >>> i) % 2 == 1

/-- Bits `hi:lo` of a number. -/
def bits (n hi lo : Nat) : Nat := (n >>> lo) % 2 ^ (hi + 1 - lo)

/-- Saturation at an upper bound. -/
def sat (bound n : Nat) : Nat := if n ≤ bound then n else bound

/-- A register field: its low bit, its width and its value, cut to the width. -/
structure Field where
  lo : Nat
  width : Nat
  val : Nat
  deriving DecidableEq, Repr

/-- The register word that a list of disjoint fields forms; every bit outside them is 0 (R21). -/
def packWord (fs : List Field) : Word :=
  BitVec.ofNat 32 (fs.foldl (fun acc f => acc + (f.val % 2 ^ f.width) * 2 ^ f.lo) 0)

end Sys2Proof
end

