-- ==== Sys2Proof/Machine/Bytes.lean ====
section
/-! DEFINITION. Byte order, checksums and byte lists: R22 (most significant byte first on the links, little-endian at
the host), the CRC-16 of R71 and R93, the CRC-32C of R346, R405, R420 and R443, and sparse byte memory. -/

namespace Sys2Proof

/-- The low byte of a number. -/
def toByte (n : Nat) : Byte := BitVec.ofNat 8 n

/-- `n` bytes of a number, least significant first (R22). -/
def leBytes : (n v : Nat) → List Byte
  | 0, _ => []
  | n + 1, v => toByte v :: leBytes n (v / 256)

/-- `n` bytes of a number, most significant first (R22). -/
def beBytes (n v : Nat) : List Byte := (leBytes n v).reverse

/-- The number that bytes spell, least significant first. -/
def ofLe : List Byte → Nat
  | [] => 0
  | b :: bs => b.toNat + 256 * ofLe bs

/-- The number that bytes spell, most significant first. -/
def ofBe (bs : List Byte) : Nat := ofLe bs.reverse

/-- `len` bytes from offset `off`. -/
def slice (bs : List Byte) (off len : Nat) : List Byte := (bs.drop off).take len
/-- The number in `len` bytes at `off`, most significant first. -/
def beAt (bs : List Byte) (off len : Nat) : Nat := ofBe (slice bs off len)
/-- The number in `len` bytes at `off`, least significant first. -/
def leAt (bs : List Byte) (off len : Nat) : Nat := ofLe (slice bs off len)
/-- The byte at `off` as a number, 0 beyond the end. -/
def byteAt (bs : List Byte) (off : Nat) : Nat := ((bs[off]?).getD 0).toNat

/-- A number of `w` bits read as two's complement. -/
def toSigned (w v : Nat) : Int := if v < 2 ^ (w - 1) then (v : Int) else (v : Int) - 2 ^ w
/-- Two's complement of an integer in `w` bits. -/
def ofSigned (w : Nat) (i : Int) : Nat := (i % 2 ^ w).toNat

/-- The bitwise complement of a number in `len` bytes. -/
def complement (len v : Nat) : Nat := 256 ^ len - 1 - v % 256 ^ len

/-- One bit step of the CRC-16 with polynomial 0x1021. -/
def crc16Step (c : Nat) : Nat :=
  if c / 32768 % 2 = 1 then (c * 2 % 65536) ^^^ 0x1021 else c * 2 % 65536
/-- The CRC-16 after one more byte. -/
def crc16Byte (c : Nat) (b : Byte) : Nat :=
  crc16Step (crc16Step (crc16Step (crc16Step (crc16Step (crc16Step (crc16Step (crc16Step (c ^^^ (b.toNat * 256)))))))))
/-- CRC-16 of R71: polynomial 0x1021, initial value 0xFFFF. -/
def crc16 (bs : List Byte) : Nat := bs.foldl crc16Byte 0xFFFF

/-- One bit step of the reflected CRC-32C. -/
def crc32cStep (c : Nat) : Nat := if c % 2 = 1 then (c / 2) ^^^ 0x82F63B78 else c / 2
/-- The CRC-32C after one more byte. -/
def crc32cByte (c : Nat) (b : Byte) : Nat :=
  crc32cStep (crc32cStep (crc32cStep (crc32cStep (crc32cStep (crc32cStep (crc32cStep (crc32cStep (c ^^^ b.toNat))))))))
/-- CRC-32C (Castagnoli). PRESUMED: initial value and final inversion of all ones, reflected, as the name CRC-32C means. -/
def crc32c (bs : List Byte) : Nat := (bs.foldl crc32cByte 0xFFFFFFFF) ^^^ 0xFFFFFFFF

/-- Sparse byte memory: addresses strictly rising, no entry equal to what an unlisted address reads as. -/
abbrev Mem := List (Nat × Byte)

/-- The byte at an address; an unlisted address reads as `dflt`. -/
def Mem.read (dflt : Byte) : Mem → Nat → Byte
  | [], _ => dflt
  | (k, b) :: m, a => if k = a then b else if a < k then dflt else Mem.read dflt m a

/-- Writing one byte keeps the canonical form; writing `dflt` removes the entry. -/
def Mem.write (dflt : Byte) : Mem → Nat → Byte → Mem
  | [], a, v => if v = dflt then [] else [(a, v)]
  | (k, b) :: m, a, v =>
    if k = a then (if v = dflt then m else (a, v) :: m)
    else if a < k then (if v = dflt then (k, b) :: m else (a, v) :: (k, b) :: m)
    else (k, b) :: Mem.write dflt m a v

/-- Writing a run of bytes from an address upward. -/
def Mem.writeAll (dflt : Byte) : Mem → Nat → List Byte → Mem
  | m, _, [] => m
  | m, a, v :: vs => Mem.writeAll dflt (Mem.write dflt m a v) (a + 1) vs

/-- `len` bytes from an address. -/
def Mem.readAll (dflt : Byte) (m : Mem) (a : Nat) : Nat → List Byte
  | 0 => []
  | n + 1 => Mem.read dflt m a :: Mem.readAll dflt m (a + 1) n

/-- Returning a range of addresses to the unlisted value (an erase). -/
def Mem.erase (m : Mem) (a len : Nat) : Mem := m.filter fun p => p.1 < a || a + len ≤ p.1

/-- The canonical form above a bound: addresses rise strictly from `lo`, and no listed byte is `dflt`. -/
def Mem.wfFrom (dflt : Byte) : Nat → Mem → Bool
  | _, [] => true
  | lo, (k, b) :: m => decide (lo ≤ k) && b != dflt && Mem.wfFrom dflt (k + 1) m

/-- The canonical form. -/
def Mem.wf (dflt : Byte) (m : Mem) : Bool := Mem.wfFrom dflt 0 m

/-- A finite map as a list of keys and values, at most one entry for a key. -/
abbrev KV (κ α : Type) := List (κ × α)

/-- The value of a key. -/
def KV.get? {κ α : Type} [DecidableEq κ] (m : KV κ α) (k : κ) : Option α :=
  (m.find? fun p => p.1 = k).map (·.2)

/-- The map with a key's value replaced or added. -/
def KV.put {κ α : Type} [DecidableEq κ] (m : KV κ α) (k : κ) (v : α) : KV κ α :=
  if m.any (fun p => p.1 = k) then m.map (fun p => if p.1 = k then (k, v) else p) else m ++ [(k, v)]

/-- The map without a key. -/
def KV.drop {κ α : Type} [DecidableEq κ] (m : KV κ α) (k : κ) : KV κ α := m.filter fun p => p.1 ≠ k

/-- Replacing the element at a position of a list; out of range nothing changes. -/
def setAt {α : Type} : List α → Nat → α → List α
  | [], _, _ => []
  | _ :: xs, 0, a => a :: xs
  | x :: xs, n + 1, a => x :: setAt xs n a

/-- Changing the element at a position of a list. -/
def modAt {α : Type} : List α → Nat → (α → α) → List α
  | [], _, _ => []
  | x :: xs, 0, f => f x :: xs
  | x :: xs, n + 1, f => x :: modAt xs n f

end Sys2Proof
end

