-- ==== Sys2Proof/Machine/Types.lean ====
section
/-! DEFINITION. The names and small records that commands carry and the state holds: modes, ports, frames as they arrive,
front-end inputs of a tick, findings of an enumeration, and host command headers. -/

namespace Sys2Proof

/-- Role of a module (Table 1-3). -/
inductive Role where
  | standby | active | isolated
  deriving DecidableEq, Repr
/-- Encoding of MODE_STAT.ROLE (Table 1-3). -/
def Role.code : Role → Nat
  | .standby => 0
  | .active => 1
  | .isolated => 2

/-- Hold state (Table 1-2). -/
inductive HoldMode where
  | off | member | shadowLead | lead
  deriving DecidableEq, Repr
/-- Encoding of MODE_STAT.HOLD (Table 1-3). -/
def HoldMode.code : HoldMode → Nat
  | .off => 0
  | .member => 1
  | .shadowLead => 2
  | .lead => 3

/-- Update state (Table 1-2, R454). -/
inductive UpdState where
  | idle | receiving | verified | scheduled | trial
  deriving DecidableEq, Repr
/-- Encoding of MODE_STAT.UPDATE (Table 1-3). -/
def UpdState.code : UpdState → Nat
  | .idle => 0
  | .receiving => 1
  | .verified => 2
  | .scheduled => 3
  | .trial => 4

/-- CAN bus state (R364). -/
inductive CanState where
  | listenOnly | normal | scheduled
  deriving DecidableEq, Repr
/-- Encoding of MODE_STAT.CAN0 (Table 1-3). -/
def CanState.code : CanState → Nat
  | .listenOnly => 0
  | .normal => 1
  | .scheduled => 2

/-- Fault confinement state (Table 13-11). -/
inductive FcState where
  | errorActive | errorPassive | busOff
  deriving DecidableEq, Repr
/-- Encoding of CANn_STAT.FC_STATE. -/
def FcState.code : FcState → Nat
  | .errorActive => 0
  | .errorPassive => 1
  | .busOff => 2

/-- The four clock domains that stop and restart (R58). -/
inductive Domain where
  | cpu | eng | fab | ctl
  deriving DecidableEq, Repr
/-- Bit of a domain in CLK_STAT.FORCED_DOM, counted from bit 10 (Table 2-6). -/
def Domain.bitNo : Domain → Nat
  | .cpu => 0
  | .eng => 1
  | .fab => 2
  | .ctl => 3

/-- A stream of waymarks: the upstream ports U0 and U1, and the peer link under R505. -/
inductive UpPort where
  | u0 | u1 | peer
  deriving DecidableEq, Repr
/-- A port that faces downward, or the peer link. -/
inductive DnPort where
  | d0 | d1 | peer
  deriving DecidableEq, Repr

/-- Die temperature band (Table 8-6). -/
inductive Band where
  | cold | normal | warm | hot
  deriving DecidableEq, Repr
/-- Encoding of TEMP_STAT.BAND (Table 8-7). -/
def Band.code : Band → Nat
  | .cold => 0
  | .normal => 1
  | .warm => 2
  | .hot => 3

/-- STATE of a string (Table 11-9). -/
inductive StrState where
  | opened | precharge | closed | opening | held | tripped
  deriving DecidableEq, Repr
/-- Encoding of PROTn_STAT.STATE (Table 11-9). -/
def StrState.code : StrState → Nat
  | .opened => 0
  | .precharge => 1
  | .closed => 2
  | .opening => 3
  | .held => 4
  | .tripped => 5
/-- The STATE a code names; reserved codes read as OPEN. -/
def StrState.decode : Nat → StrState
  | 1 => .precharge
  | 2 => .closed
  | 3 => .opening
  | 4 => .held
  | 5 => .tripped
  | _ => .opened

/-- Holds of Table 11-6. -/
inductive HoldCause where
  | none | heartbeat | takeover | clockless | restart
  deriving DecidableEq, Repr
/-- Encoding of OUTR_STAT.HOLD_CAUSE (Table 11-8). -/
def HoldCause.regCode : HoldCause → Nat
  | .none => 0
  | .heartbeat => 1
  | .takeover => 2
  | .clockless => 3
  | .restart => 3
/-- Cause in EV 196 (R333). -/
def HoldCause.evCode : HoldCause → Nat
  | .none => 0
  | .heartbeat => 1
  | .takeover => 2
  | .clockless => 3
  | .restart => 4

/-- The three coils of a string (R3). -/
inductive Coil where
  | kPos | kNeg | pre
  deriving DecidableEq, Repr
/-- Number of a coil (Table 11-10). -/
def Coil.num : Coil → Nat
  | .kPos => 0
  | .kNeg => 1
  | .pre => 2

/-- Level of a coil node (R319). -/
inductive Node where
  | low | mid | high
  deriving DecidableEq, Repr
/-- Encoding of a node level (Table 11-11). -/
def Node.code : Node → Nat
  | .low => 0
  | .mid => 1
  | .high => 2

/-- Reading of the ownership line (Table 12-1). -/
inductive OwnLine where
  | free | aOwns | bOwns
  deriving DecidableEq, Repr

/-- The comparators of a string in the order of OUTR_CAUSE (Table 11-9). -/
inductive Comparator where
  | iChg | iDis | vpOv | vpUv | vlOv
  deriving DecidableEq, Repr
/-- Number of a comparator. -/
def Comparator.num : Comparator → Nat
  | .iChg => 0
  | .iDis => 1
  | .vpOv => 2
  | .vpUv => 3
  | .vlOv => 4

/-- State of a measurement source (Table 6-2). -/
inductive SrcState where
  | valid | missing | unaligned | convicted
  deriving DecidableEq, Repr
/-- Position of a source state in Table 6-2. -/
def SrcState.code : SrcState → Nat
  | .valid => 0
  | .missing => 1
  | .unaligned => 2
  | .convicted => 3

/-- Mailbox status codes (Tables 14-4 and 17-10). -/
inductive Status where
  | pending | ok | accepted | timeout | busy | refused | unsupported | outOfRange | conflict | stateLocked
  | stateRejected | calRejected | cancelled | tooLate | badOpcode | badLength | failed | aborted
  | updCrc | updManifest | updSignature | updIncomplete | updState | updLead | updPair | updNoSync
  deriving DecidableEq, Repr
/-- The 16-bit code of a status. -/
def Status.code : Status → Nat
  | .pending => 0x0000
  | .ok => 0x0001
  | .accepted => 0x0002
  | .timeout => 0x0003
  | .busy => 0x0004
  | .refused => 0x0005
  | .unsupported => 0x0006
  | .outOfRange => 0x0007
  | .conflict => 0x0008
  | .stateLocked => 0x0009
  | .stateRejected => 0x000A
  | .calRejected => 0x000B
  | .cancelled => 0x000C
  | .tooLate => 0x000D
  | .badOpcode => 0x000E
  | .badLength => 0x000F
  | .failed => 0x0010
  | .aborted => 0x0011
  | .updCrc => 0x0020
  | .updManifest => 0x0021
  | .updSignature => 0x0022
  | .updIncomplete => 0x0023
  | .updState => 0x0024
  | .updLead => 0x0025
  | .updPair => 0x0026
  | .updNoSync => 0x0027

/-- A point on the mains-angle grid with the position within the tick in 1/512 tick (R14, R413). -/
structure Stamp where
  cycle : Nat
  tick : Nat
  pos : Nat
  deriving DecidableEq, Repr
/-- The 64-bit layout of a stamp: the waymark word of Table 2-8 with bits 8:0 the position (R414). -/
def Stamp.word (s : Stamp) : Nat := s.cycle * 65536 + s.tick % 128 * 512 + s.pos % 512
/-- The zero stamp of R413. -/
def Stamp.zero : Stamp := { cycle := 0, tick := 0, pos := 0 }

/-- A waymark frame as it arrives: the 64-bit word and the CRC-16 received (R71). -/
structure WmFrame where
  word : Nat
  crc : Nat
  deriving DecidableEq, Repr

/-- An ordinary Ryran frame as it arrives (R71). -/
structure RyrFrame where
  type : Byte
  len : Byte
  payload : List Byte
  crc : Nat
  deriving DecidableEq, Repr

/-- A native caravan frame as it arrives (Table 3-2). -/
structure CarFrame where
  dst : Byte
  type : Byte
  src : Byte
  seq : Byte
  len : Nat
  payload : List Byte
  crc : Nat
  deriving DecidableEq, Repr

/-- A compatibility frame as it arrives (R94). -/
structure Car12Frame where
  hop : Byte
  type : Byte
  len : Byte
  payload : List Byte
  crc : Nat
  deriving DecidableEq, Repr

/-- A peer link frame as it arrives (R346). -/
structure PeerFrame where
  type : Byte
  len : Nat
  payload : List Byte
  crc : Nat
  deriving DecidableEq, Repr

/-- A CAN frame as it is received (R366, Table 14-11); `err` marks a receive error in place of a frame, `rtr` a remote frame (Table 13-1). -/
structure CanFrame where
  id : Nat
  ext : Bool
  fdf : Bool
  brs : Bool
  esi : Bool
  data : List Byte
  err : Bool
  rtr : Bool := false
  deriving DecidableEq, Repr

/-- What ended a CAN transmission (R376, R383, R384). -/
inductive CanResult where
  | success | ackError | bitError | otherError | lostArbitration
  deriving DecidableEq, Repr

/-- What one front-end channel's modulator delivers over a tick interval (R149, R153, R162): the sum of its bits, the
measurement sample as a raw code, and the side on which it left its linear range, if any. -/
structure ChanIn where
  bitSum : Int
  sample : Int
  ovr : Option Bool
  deriving DecidableEq, Repr

/-- The inputs of one string front end over a tick: I_SHUNT, I_HALL, V_PACK, V_LINK and the number of MOD cycles. -/
structure FeIn where
  shunt : ChanIn
  hall : ChanIn
  vpack : ChanIn
  vlink : ChanIn
  modCycles : Nat
  deriving DecidableEq, Repr

/-- The two samples of one grid reference channel in a tick (R163), as raw codes, and its over-range side. -/
structure GrefIn where
  first : Int
  second : Int
  ovr : Option Bool
  deriving DecidableEq, Repr

/-- What a tick brings: its measured length in 1/8 ns (R77), the front ends' inputs and the grid
channels' samples. -/
structure TickIn where
  len : Nat
  fe0 : FeIn
  fe1 : FeIn
  gref : List GrefIn
  deriving DecidableEq, Repr

/-- The answers a hop measurement received on one port: round trips in 1/8 ns and the content of the last ECHO_REP (R74). -/
structure EchoRun where
  rtts : List Nat
  pos : Nat
  depth : Nat
  dUp : Nat
  cycleMax : Nat
  source : Bool
  sync : Bool
  deriving DecidableEq, Repr

/-- An IDENT reply (Table 3-14). -/
structure Ident where
  gen16 : Bool
  serial : Nat
  fwVer : Nat
  cells : Nat
  deriving DecidableEq, Repr

/-- What an enumeration of one ring finds (Table 3-3): lock at each end, the COUNT that returned, the IDENT replies by hop,
the NEXT that ENUM returned, the round trips of each unit's echo probes from either end in 1/2 ns, L_ring in 1/2 ns, and for a ring with
one end only the units reached from end A; the attempts made. -/
structure RingFind where
  lockA : Bool
  lockB : Bool
  count : Option Nat
  idents : List (Option Ident)
  enumNext : Option Nat
  rtA : List (List Nat)
  rtB : List (List Nat)
  lRing : Nat
  fromA : Nat
  attempts : Nat
  deriving DecidableEq, Repr

/-- The header of a host command (Table 14-3): port, ring, TAG and whether it asks for a vector. -/
structure Hdr where
  port : Ix
  ring : Nat
  tag : Nat
  raise : Bool
  deriving DecidableEq, Repr

/-- What the module reads of a mailbox entry when a doorbell hands it over (R399): opcode, LEN, TAG and FLAGS bit 0. -/
structure MbxEntry where
  opcode : Nat
  len : Nat
  tag : Nat
  raise : Bool
  deriving DecidableEq, Repr

/-- A stream descriptor (Table 14-8). -/
structure Desc where
  addr : Nat
  len : Nat
  raise : Bool
  tag : Nat
  deriving DecidableEq, Repr

/-- A CAPTURE payload (Table 14-9). -/
structure CaptureReq where
  stringMask : Nat
  grefMask : Nat
  watch : Nat
  pre : Nat
  post : Nat
  trigger : Nat
  evt : Nat
  cyc : Nat
  deriving DecidableEq, Repr

/-- A readback of one coil at a test or a change of command (R319): node levels, current in mA, current limit reached. -/
structure CoilRead where
  a : Node
  b : Node
  ma : Nat
  limit : Bool
  deriving DecidableEq, Repr

/-- How a port went down or was reset (EV 050). -/
inductive LinkCause where
  | link | perst | hotReset | flr | d3hot
  deriving DecidableEq, Repr
/-- Encoding of the cause in EV 050, in the order first listed (Table 15-3). -/
def LinkCause.code : LinkCause → Nat
  | .link => 1
  | .perst => 2
  | .hotReset => 3
  | .flr => 4
  | .d3hot => 5

/-- Findings of Table 12-5. -/
inductive SelfFinding where
  | isoLost | ringLost | noStream | selfTest
  deriving DecidableEq, Repr
/-- Bit of a finding in par 0x0C:02 SELF_RELEASE. -/
def SelfFinding.bitNo : SelfFinding → Nat
  | .isoLost => 0
  | .ringLost => 1
  | .noStream => 2
  | .selfTest => 3

end Sys2Proof
end

