-- ==== Sys2Proof/Syntax.lean ====
section
/-! DEFINITION. The commands of the block: one constructor for each row of the spec's table of operations and events,
with what the command brings from outside (a frame as it arrives, a reading, a value written, a payload). -/

namespace Sys2Proof

/-- The commands, in the order of the spec's table. -/
inductive Instr where
  /-- POWER_GOOD: The 12 V output of the hot-swap controller comes into range after HS_EN# debounce; the outrider latches SLOT_ID and HOLD_STRAP and power-up step 2 begins. [R478] -/
  | powerGood (slotB : Bool) (strap2s : Bool) (partnerPresent : Bool)
  /-- WITHDRAWAL: HS_EN# opens on withdrawal; the card turns off every coil switch and transmitter within 10 µs and switches its supply off. [R479] -/
  | withdrawal
  /-- SUPPLY_LOSS: The 12 V input stays below 10.0 V for longer than 1 ms; the output turns off and the card drives nothing. [R477] -/
  | supplyLoss
  /-- REFERENCE_DETECT: A reference input counts as present after 1,024 valid consecutive periods; at power-up this ends step 2. [R52] -/
  | referenceDetect (r : Ix)
  /-- REFERENCE_LOST: The missing-edge detector finds no edge for 40 ns; the module moves to the other reference if it is present. [R53] -/
  | referenceLost (r : Ix)
  /-- REF_FREQ_COMPARE: At the end of each block of 1,048,576 periods the two references are compared, and REF_DIFF and EV 004 are set on a difference above 600 ppm. [R54] -/
  | refFreqCompare (otherPeriods : Nat)
  /-- BYPASS_RUN: Power-up step 3: the domains run in bypass and the boot loader starts from NOR flash, retried every 1 s on failure. [R47] -/
  | bypassRun (loaderRuns : Bool)
  /-- PLL_LOCK: The phase error stays within ±200 ps for 4,096 reference cycles; LOCK is set and the domains return to the PLL when the control engine is idle. [R55] -/
  | pllLock
  /-- PLL_LOCK_LOST: Loss of lock is detected; the CPU, ENG, FAB and CTL domains move to bypass, LOCK_LOST is set and EV 001 is raised. [R61] -/
  | pllLockLost
  /-- DOMAIN_SWITCH_DONE: A domain completes stop, switch and restart onto its new source and the next queued switch starts. [R58] -/
  | domainSwitchDone
  /-- DOMAIN_SWITCH_TIMEOUT: A switch whose old source has stopped completes after 32 destination cycles; FORCED and FORCED_DOM are set and EV 002 is raised. [R59] -/
  | domainSwitchTimeout
  /-- PLL_EN_WRITE: A write of CLK_CTRL.PLL_EN moves the domains to bypass (0) or lets the PLL lock and the domains return (1). [R499] -/
  | pllEnWrite (w : Word)
  /-- APPLY: A write of CLK_CTRL.APPLY applies REF_PREF and CLK_DIV through stop, switch and restart, or refuses and sets DIV_REJECT when a divider is below its minimum. [R63] -/
  | apply (w : Word)
  /-- WATCHDOG_EXPIRY: The firmware watchdog is not served for 100 ms and restarts the module from power-up step 3 with restart cause 2. [R500] -/
  | watchdogExpiry
  /-- CLOCKLESS_HOLD: Both references are absent; processor and interfaces stop and the outrider holds the contactors for the strap time. [R62] -/
  | clocklessHold
  /-- REFERENCE_RETURN_RESTART: A reference returns during clockless hold; the restart hold begins and the module restarts from power-up step 3. [R36] -/
  | referenceReturnRestart (r : Ix)
  /-- FIRMWARE_BOOT: Power-up step 5: the boot loader reads the boot selector, counts trial boots or falls back, verifies the image and starts it. [R451] -/
  | firmwareBoot (selfTest : Bool)
  /-- LEDGER_SCAN: At power-up step 5 every ledger slot is scanned, the next SEQ and the floor are found, and EV 253, deferred records and EV 254 are written. [R424] -/
  | ledgerScan
  /-- OWNERSHIP_ARBITRATION: At the end of the 2 s arbitration window the module becomes standby or asserts ownership and becomes active. [R48] -/
  | ownershipArbitration
  /-- RYRAN_ENUMERATION: Power-up step 7: echo measurement on each upstream port, computation of D and depth, LOOP_TRACE, and the R87 budget check at the route head. [R74] -/
  | ryranEnumeration (e0 : Option EchoRun) (e1 : Option EchoRun)
  /-- CARAVAN_ENUMERATION: Power-up step 8: each enabled ring is enumerated through COUNT, IDENT, checks, ENUM, delay measurement, configuration and CYCLE. [R101] -/
  | caravanEnumeration (f0 : RingFind) (f1 : RingFind)
  /-- STATE_RECORD_RESTORE_TIMEOUT: No record is accepted within 60 s after step 8 and the module proceeds unseeded. [R47] -/
  | stateRecordRestoreTimeout
  /-- JOIN_DISPATCH: Power-up step 11: at a holding-period boundary once R39 and R40 permit, the module takes its configured Hold state and CAN0 scheduled. [R47] -/
  | joinDispatch
  /-- DUAL_ACTIVE_RESOLVED: The firmware has believed itself active with OWNER = 0 for 1 cycle; it drops to standby and raises EV 042. [R34] -/
  | dualActiveResolved
  /-- TICK_TRIGGER: The module fires its tick trigger at T_arr − D + A × P, or by extrapolation, and front ends, grid channels and cycle-start actions run on it. [R77] -/
  | tickTrigger (t : TickIn)
  /-- ANGLE_SOURCE_TICK: The angle source reaches a tick boundary, sends the waymark A ticks ahead on D0, D1 and the peer link, and fires its own trigger. [R69] -/
  | angleSourceTick (t : TickIn)
  /-- VIRTUAL_MAINS_ENTRY: No valid voted reference for 4 half-cycle records or frequency out of range for 4 cycles; the angle source runs virtual mains and raises EV 014. [R66] -/
  | virtualMainsEntry
  /-- VIRTUAL_MAINS_EXIT: A valid reference has stayed in range for 50 cycles; the angle source returns to tracking, slews and clears VIRT. [R66]
  `off` is an angle reading handed in with the command; the machine takes the angle from the voted records and does not use it (log 132). -/
  | virtualMainsExit (off : Nat)
  /-- WAYMARK_RECEIVED: A waymark frame arrives on an upstream port and is checked, counted toward acquisition, forwarded cut-through and used for the trigger. [R80] -/
  | waymarkReceived (port : UpPort) (f : WmFrame) (arr : Nat)
  /-- WAYMARK_MISSED: An expected waymark has not arrived 2 µs after its instant; it is discarded and counted, and acceptance ends after 8 consecutive discards. [R80] -/
  | waymarkMissed (port : UpPort)
  /-- UNSYNCHRONISED: COAST_AGE reaches 8; SYNC = 0, EV 010 is raised and R40 applies. [R82] -/
  | unsynchronised
  /-- RESYNCHRONISE: At the feature-frame boundary after a stream is accepted again, the module adopts the received cycle, steps its trigger and sets SYNC = 1. [R83] -/
  | resynchronise (off : Int)
  /-- UPSTREAM_RETURN: U0 has stayed valid for UPSTREAM_RETURN cycles and is selected again at a cycle boundary. [R84] -/
  | upstreamReturn
  /-- SUCCESSOR_BECOMES_SOURCE: A position of rank r coasts with COAST_AGE = r and becomes angle source and lead, with EV 098. [R297] -/
  | successorBecomesSource
  /-- ECHO_REQ: An ECHO_REQ arrives on a D port or the peer link and the module answers with ECHO_REP exactly 1,200 ns later. [R75] -/
  | echoReq (port : DnPort) (f : RyrFrame) (inWaymark : Bool)
  /-- ECHO_REP: An ECHO_REP arrives and its round trip enters the mean of the measurement. [R74] -/
  | echoRep (port : Ix) (f : RyrFrame) (rtt : Nat)
  /-- ECHO_TIMEOUT: An echo has not returned within 10 µs and counts lost; with fewer than 48 of 64 echoes the measurement is repeated. [R75] -/
  | echoTimeout (port : UpPort)
  /-- HOP_REMEASURE: Every 60 s in service the echo measurement is repeated on each upstream port and D in use moves toward it by at most 0.5 ns per cycle. [R76] -/
  | hopRemeasure
  /-- LOOP_TRACE: A LOOP_TRACE frame arrives and is forwarded on the selected upstream port with HOPS raised, or discarded by the angle source. [R86] -/
  | loopTrace (port : Ix) (f : RyrFrame)
  /-- TRIGGER_SEND: At the first character boundary at or after T_trig − 32 µs the module sends the trigger sequence with its ADJ on the ring. [R97] -/
  | triggerSend (ring : Ix) (waitNs : Nat)
  /-- SNAP_SEND: At the trigger of tick 0 the module broadcasts SNAP on a compatibility ring and then reads the units with READ_V and READ_T. [R115] -/
  | snapSend (ring : Ix)
  /-- FEATURE_REC: A FEATURE_REC from a unit arrives and is stored for its frame. [R108] -/
  | featureRec (ring : Ix) (f : CarFrame)
  /-- DELIVERY_DEADLINE: At tick 4 of cycle c + 2 the module sends RESEND for each missing record and marks a unit lost after 8 consecutive misses. [R108] -/
  | deliveryDeadline (ring : Ix)
  /-- TRANSACTION_TIMEOUT: A command reply does not arrive within CAR_TXN_TIMEOUT; the command is resent with the same SEQ, or the unit is marked lost with EV 068. [R106] -/
  | transactionTimeout (ring : Ix) (seq : Nat)
  /-- LOST_UNIT_POLL: Every 64 cycles the module sends STATUS_REQ once to each lost unit. [R107] -/
  | lostUnitPoll (ring : Ix)
  /-- STATUS_REP: A STATUS_REP arrives; a lost unit returns to service and a reference disagreement over 1.5 mV raises EV 083. [R135] -/
  | statusRep (ring : Ix) (f : CarFrame)
  /-- STATUS_POLL: The module reads STATUS_REP from every unit at least once per 1,024 cycles. [R135] -/
  | statusPoll (ring : Ix)
  /-- ACK: An ACK from a unit arrives; for a BALANCE its STATUS is compared with the BSEQ sent. [R236] -/
  | ack (ring : Ix) (f : CarFrame)
  /-- NAK: A unit answers a CONFIG with NAK and keeps its previous configuration. [R105] -/
  | nak (ring : Ix) (f : CarFrame)
  /-- WATCH_STREAM: A WATCH_STREAM frame arrives and its samples are placed; a gap in WSEQ is detected. [R109] -/
  | watchStream (ring : Ix) (f : CarFrame)
  /-- TICK_SUM_SEND: 40 µs after the start of tick t + 1 the module sends TICK_SUM for tick t with empty extremes. [R110] -/
  | tickSumSend (ring : Ix)
  /-- TICK_SUM: The merged TICK_SUM returns; the processor path judges cell voltages and blindness and the power limits are published. [R308] -/
  | tickSum (ring : Ix) (endB : Bool) (f : CarFrame)
  /-- WRAP_NOTICE: A WRAP_NOTICE arrives; the module declares a break, sets SPLIT and BREAK_AFTER, raises EV 065 and serves both ends. [R118] -/
  | wrapNotice (ring : Ix) (f : CarFrame)
  /-- RING_LOCK_LOSS: Character lock is lost at a ring end for 8 characters and a break is declared. [R118] -/
  | ringLockLoss (ring : Ix) (endB : Bool)
  /-- RING_TRIGGER_TIMEOUT: A trigger sent on end A is not received at end B within 2 × L_ring and a break is declared. [R118] -/
  | ringTriggerTimeout (ring : Ix) (reached : Nat)
  /-- RING_RESTORE: Both ends have held lock for 1 s and the wrapped units report live; CLEAR_WRAP is sent, L_ring is checked and EV 067 is raised. [R120] -/
  | ringRestore (ring : Ix) (lRing : Nat)
  /-- COMPAT_REENUM: Every 64 cycles enumeration is re-run on a broken compatibility ring until it is served again. [R117] -/
  | compatReenum (ring : Ix) (find : RingFind)
  /-- BALANCE_REFRESH: The module sends BALANCE to each unit in rotation at least every BAL_TO × 16 ms. [R112] -/
  | balanceRefresh (ring : Ix)
  /-- BAL12_REFRESH: Every 256 ms the module sends BAL12 to each unit of a compatibility ring. [R115] -/
  | bal12Refresh (ring : Ix)
  /-- FAULT_LOOP_OPEN: The fault loop current falls below 4 mA; the outrider trips the string and FLT_LOOP and EV 073 follow. [R315] -/
  | faultLoopOpen (ring : Ix)
  /-- FAULT_LOOP_CLOSE: The fault loop closes again; CARn_STAT.FLT_LOOP returns to 0 and EV 073 is raised again. [R501] -/
  | faultLoopClose (ring : Ix)
  /-- OPENWIRE_SCHEDULE: The routine schedule sends at most one OPENWIRE_REQ per ring per cycle so that each unit is tested once per OW_PERIOD. [R141] -/
  | openwireSchedule (ring : Ix)
  /-- OPENWIRE_REP: An OPENWIRE_REP arrives and each tested wire is classified intact, degraded or open. [R139] -/
  | openwireRep (ring : Ix) (f : CarFrame)
  /-- ISO_OK_CHANGE: A front end's isolated supply leaves or returns to range; EV 089 is raised and ticks with ISO_OK = 0 are coulomb gaps. [R169] -/
  | isoOkChange (string : Ix) (ok : Bool)
  /-- LATCHED_LO_READ: A read of a _LO register of a latch pair latches all 64 bits for the reading port. [R491] -/
  | latchedLoRead (port : Ix) (offset : Nat)
  /-- CAL_POINT: Command CAL_POINT starts averaging the cycle means of a channel for a zero or span point. [R167] -/
  | calPoint (h : Hdr) (target : Nat) (channel : Nat) (span : Bool) (value : F32)
  /-- CAL_POINT_DONE: The averaging of a calibration point completes and the point is accepted or rejected UNSTABLE or SPAN_LOW. [R168] -/
  | calPointDone (target : Nat) (channel : Nat)
  /-- CAL_SOLVE: Command CAL_SOLVE computes O and G from the two points, checks them and stages them. [R167] -/
  | calSolve (h : Hdr) (target : Nat) (channel : Nat)
  /-- FRAME_CLOSE: At tick 65 of cycle c + 2 the module places frame c, forms string means and bins, accepts impedances, runs checks and votes, and evaluates the model. [R189] -/
  | frameClose (evaluated : Nat)
  /-- CURRENT_VOTE: At the end of holding period k + 1 the shunt, Hall and PCS currents of period k are voted. [R175] -/
  | currentVote (string : Ix)
  /-- SOURCE_CLEAR: Command SOURCE_CLEAR returns a named convicted source to VALID. [R181] -/
  | sourceClear (h : Hdr) (kind : Nat) (string : Nat) (unit : Nat) (index : Nat)
  /-- TICK_PROPAGATION: Once Q_T of a tick end is available every cell filter is propagated, reported values are moved and early warnings are judged. [R196] -/
  | tickPropagation
  /-- DISCHARGE_STOP: s has stayed above s_lo + 0.20 for 1 s and the string stops discharging. [R203] -/
  | dischargeStop (string : Ix)
  /-- FRAME_UPDATE: The records of frame c arrive at the estimation engine; each cell is corrected, R_str updated and rest, references, seeding and learning judged. [R199] -/
  | frameUpdate
  /-- LEARNING_DURATION_EXPIRY: 72 h pass since the anchor and the open learning cycle is disqualified with reason DURATION. [R211] -/
  | learningDurationExpiry (string : Ix)
  /-- REFERENCE_STARVED: 48 h pass since the last reference; the string becomes reference starved and EV 164 is raised. [R215] -/
  | referenceStarved (string : Ix)
  /-- STATE_RECORD_CAPTURE: At tick 0 at least 1 s after the last capture, the active captures a state record and writes it to host ports and the peer link. [R218] -/
  | stateRecordCapture
  /-- STATE_OFFER: Command STATE_OFFER reads a host record by DMA and accepts or rejects it for restore, or declares none. [R223] -/
  | stateOffer (h : Hdr) (addr : Nat) (len : Nat) (data : List Byte)
  /-- BALANCE_REVIEW: At the first frame update after BAL_REVIEW_S the balancing selection of each string is reviewed and duties sent. [R231] -/
  | balanceReview
  /-- THERMAL_INPUT_TIMEOUT: A thermal loop's controlled variable is missing for TH_INPUT_TIMEOUT_S; the loop tracks its fallback and EV 180 is raised. [R243] -/
  | thermalInputTimeout (slot : Nat)
  /-- THERMAL_NODE_LOST: No status from a thermal node for TH_NODE_TIMEOUT_S; EV 179 is raised and the node-lost factor applies. [R244] -/
  | thermalNodeLost (node : Nat)
  /-- DIE_READING: Each tick the die diode is read, T_d formed, the band judged with hysteresis, and the diode judged broken or not. [R247] -/
  | dieReading (reading : Int)
  /-- DIE_TEMP: A DIE_TEMP frame from the partner arrives and becomes the valid partner reference. [R249] -/
  | dieTemp (f : PeerFrame)
  /-- TEMP_HOST_WRITE: A write to TEMP_HOST sets the slot temperature and restarts its 10 s validity. [R249] -/
  | tempHostWrite (w : Word)
  /-- CONTROL_LATCH: At L = T_trig + 25 µs late evaluations are abandoned, due slots latch their inputs, bank requests apply and every due slot is evaluated. [R254] -/
  | controlLatch (late : Nat) (torn : Nat)
  /-- SLOT_INPUT_TIMEOUT: A slot's input stays invalid for INPUT_TIMEOUT; the slot enters tracking on FALLBACK and raises EV 114. [R260] -/
  | slotInputTimeout (slot : Nat)
  /-- CTL_BANK_REQ_WRITE: A write to CTL_BANK_REQ_LO or _HI requests banks that slots take at their next due tick. [R270] -/
  | ctlBankReqWrite (hi : Bool) (w : Word)
  /-- LAT_CLR: A write of 1 to CTL_STAT.LAT_CLR clears LAT_MAX. [R493] -/
  | latClr (w : Word)
  /-- CTL_SWAP: Command CTL_SWAP requests a bank for a 48-bit slot mask. [R262] -/
  | ctlSwap (h : Hdr) (mask : Nat) (bankB : Bool)
  /-- CTL_READ_SLOT: Command CTL_READ_SLOT returns the last completed evaluation of a slot. [R271] -/
  | ctlReadSlot (h : Hdr) (slot : Nat)
  /-- PHASOR_RECORD_FORM: A reference-set owner forms the phasor record of half cycle (c, h) and sends it upstream within 500 µs. [R276] -/
  | phasorRecordForm
  /-- PHASOR_RECORD: A PHASOR_RECORD arrives and is forwarded upward within 640 ns, or held by the angle source for the vote. [R277] -/
  | phasorRecord (port : Ix) (f : RyrFrame)
  /-- VOTE: At tick 64h + VOTE_DELAY the lead votes the reference-set records of (c, h) and updates convictions. [R279] -/
  | vote
  /-- HOLDING_PERIOD_BOUNDARY: At each holding-period boundary the module applies a fraction, latches U, D and QC, forms references and sends its own sum when no child is expected. [R287] -/
  | holdingPeriodBoundary
  /-- HEADROOM_SUM: A HEADROOM_SUM arrives on a D port and is merged, or forwarded if the module already sent its own. [R289] -/
  | headroomSum (port : Ix) (f : RyrFrame)
  /-- SUM_SEND_DEADLINE: The instant W is reached before every child has reported and the module sends its sum. [R289] -/
  | sumSendDeadline
  /-- ROUND_CLOSE: At B_k + D_max + 2 µs the lead closes the round, computes φ and ψ and sends FRACTION. [R290] -/
  | roundClose
  /-- FRACTION: A FRACTION arrives; the first good copy is forwarded and sets the string demands, compared by shadow leads. [R291] -/
  | fraction (port : Ix) (f : RyrFrame)
  /-- FRACTION_HOLD_EXPIRY: FRAC_HOLD_MS passes without a fraction and the string demands ramp toward 0, with EV 103. [R293] -/
  | fractionHoldExpiry
  /-- PLAN_CLOSE: At B_(k+1) − t_slot the module fixes the SETPOINT plan and loads the transmit buffers of the next basic cycle. [R378] -/
  | planClose
  /-- HOLD_SET: Command HOLD_SET carries P_SET and Q_SET with an effective cycle. [R283] -/
  | holdSet (h : Hdr) (p : F32) (q : F32) (cycle : Nat)
  /-- LEAD_MOVE: Command LEAD_MOVE names a target position and a cycle at least 8 cycles ahead. [R300] -/
  | leadMove (h : Hdr) (target : Nat) (cycle : Nat)
  /-- LEAD_MOVE_EXECUTE: At c:0 the current angle source stops and becomes shadow lead and the target becomes angle source. [R300] -/
  | leadMoveExecute
  /-- COMPARATOR_TRIP: An outrider comparator input lies beyond its threshold for 100 ns to 150 ns; both switches of every coil of the string go off and OUTR_TRIP latches. [R312] -/
  | comparatorTrip (string : Ix) (c : Comparator)
  /-- COMPARATOR_RELEASE: A comparator input returns inside its threshold by the hysteresis and the comparator releases. [R312] -/
  | comparatorRelease (string : Ix) (c : Comparator)
  /-- OUTRIDER_TRIP_REPORT: The processor path observes an outrider latch and raises EV 192 within 1 tick. [R312] -/
  | outriderTripReport (string : Ix)
  /-- BLIND_STRING: A string stays blind for PROT_BLIND_MS and the processor path trips it with cause 9. [R307] -/
  | blindString (string : Ix)
  /-- THRESHOLD_WRITE: The firmware writes an OUTR_THR code with its complement; the outrider takes it or sets THR_REJECT with EV 206. [R313] -/
  | thresholdWrite (k : Nat) (w : Word)
  /-- PROTECTION_BOUNDARY: At the second tick boundary after a group 0x0B COMMIT the processor limits change, with outward and inward threshold writes around it. [R442] -/
  | protectionBoundary
  /-- COMPARATOR_PROOF: The outrider proves the five comparators and the fault loop of a string within 5 ms, or fails with EV 204. [R316] -/
  | comparatorProof (string : Ix) (failed : Option Nat)
  /-- COIL_TEST: Every 833 ms one switch of a coil is pulsed and read back at 100 µs and the finding is acted on. [R320] -/
  | coilTest (rd : CoilRead)
  /-- TEST_OVERDUE: A switch of an energised coil goes untested for 120 s; EV 198 is raised and the string is opened in order. [R320] -/
  | testOverdue (string : Ix) (coil : Coil) (highSide : Bool)
  /-- CONTACTOR_DROPOUT: A contactor reads de-energised while STATE is CLOSED and the string trips with cause 11. [R325] -/
  | contactorDropout (string : Ix) (coil : Coil) (rd : CoilRead)
  /-- COMPARATOR_TEST_DUE: Once per day while a string stays CLOSED beyond COMP_TEST_DAYS, EV 208 is raised. [R316] -/
  | comparatorTestDue (string : Ix)
  /-- STRING_OPEN: Command STRING_OPEN sets the string demand to 0 and starts the orderly open. [R322] -/
  | stringOpen (h : Hdr) (string : Nat)
  /-- OPEN_CURRENT_LOW: The current has stayed at most I_OPEN_A for 1 tick, or OPEN_RAMP_MS passes, and all three coils are de-energised. [R322] -/
  | openCurrentLow (string : Ix)
  /-- WELD_CHECK: 100 ms after an opening or trip the Hall current is checked and EV 203 with CLOSE_INHIBIT follows if it is too high. [R322] -/
  | weldCheck (string : Ix)
  /-- STRING_CLOSE: Command STRING_CLOSE checks its conditions and starts the close sequence with a comparator proof. [R324] -/
  | stringClose (h : Hdr) (string : Nat)
  /-- K_NEG_SETTLED: K− reads back closed after CLOSE_SETTLE_MS and the precharge coil is energised. [R324] -/
  | kNegSettled (string : Ix) (rd : CoilRead)
  /-- PRECHARGE_REACHED: V_PACK and V_LINK come within PRECHG_TOL_V and K+ is energised. [R324] -/
  | prechargeReached (string : Ix)
  /-- PRECHARGE_FAIL: PRECHG_MAX_MS passes without precharge; the sequence aborts, every coil opens and EV 202 is raised. [R324] -/
  | prechargeFail (string : Ix)
  /-- K_POS_SETTLED: K+ reads back closed after CLOSE_SETTLE_MS; the precharge coil is de-energised and STATE becomes CLOSED. [R324] -/
  | kPosSettled (string : Ix) (rd : CoilRead)
  /-- PROT_RESET: Command PROT_RESET clears latched trips and inhibits whose conditions have cleared, running a proof if needed. [R323] -/
  | protReset (h : Hdr) (string : Nat) (proof : Option Nat)
  /-- COIL_SUPPLY: COIL_SUPPLY_OK changes and EV 205 is raised. [R338] -/
  | coilSupply (mv : Nat)
  /-- HEARTBEAT_ANSWER: The firmware writes a heartbeat answer; the outrider accepts it and advances CHAL, or judges the heartbeat failed. [R327] -/
  | heartbeatAnswer (answer : Nat) (elapsedUs : Nat)
  /-- HEARTBEAT_LATE: The 20 ms bound passes without an answer; the heartbeat fails and the owner releases or begins a heartbeat hold. [R327] -/
  | heartbeatLate
  /-- OWNERSHIP_LINE_FREE: The ownership line falls free; a standby outrider with a GOOD heartbeat asserts it within 5 µs and enters the takeover hold. [R328] -/
  | ownershipLineFree
  /-- OWNER_QUALIFIED: After asserting and reading its own level for 1 µs the outrider becomes owner and lifts its blocks. [R341] -/
  | ownerQualified
  /-- RELEASE_OVERLAP_END: 20 µs after the partner asserts, or at 100 µs, the releasing outrider stops driving its coils. [R331] -/
  | releaseOverlapEnd
  /-- RELEASE_RETAKE: 2 s after a release with no partner assertion, a standby outrider may assert the line again and take over with cause 4. [R504] -/
  | releaseRetake
  /-- HOLD_EXPIRY: The strap time or restart-hold time of a hold expires; every coil is de-energised and HOLD_EXP latches on both strings. [R330] -/
  | holdExpiry
  /-- HOLD_ACK: The processor sets its requests to the hold bits and writes HOLD_ACK, ending the hold; trips and inhibits are adopted. [R332] -/
  | holdAck
  /-- HOLD_DROP: The firmware clears the hold bits of a string and its coils de-energise. [R330] -/
  | holdDrop (string : Ix)
  /-- TAKEOVER: The processor reads OWNER = 1, becomes active, raises EV 044 and takes up links, rings, CAN, restore and control within 96 ticks. [R353] -/
  | takeover
  /-- HANDOVER: Command HANDOVER requests an orderly release at the next boundary if the partner is fit. [R352] -/
  | handover (h : Hdr)
  /-- ORDERLY_RELEASE: At boundary B the owner silences its buses and links, releases the line and becomes standby. [R352] -/
  | orderlyRelease
  /-- SELF_RELEASE: A self-release finding holds; the owner releases, immediately for a failed self-test, and becomes isolated or standby. [R351] -/
  | selfRelease (finding : SelfFinding) (string : Ix)
  /-- EJECTOR_OPEN: The owner's ejector latch opens and requests an orderly release with reason 5. [R360] -/
  | ejectorOpen
  /-- PARTNER_PRESENCE: The partner presence pin changes and EV 046 is raised. [R359] -/
  | partnerPresence (present : Bool)
  /-- ISOLATE: Command ISOLATE moves the module to isolated. [R33] -/
  | isolate (h : Hdr)
  /-- REJOIN: Command REJOIN moves an isolated module to standby when the cause has cleared. [R33] -/
  | rejoin (h : Hdr)
  /-- PEER_STATUS: A PEER_STATUS frame arrives and updates partner fitness, findings, trips and STATE. [R346] -/
  | peerStatus (f : PeerFrame)
  /-- PEER_STATUS_SEND: Every 10 ms the module sends PEER_STATUS on the peer link. [R346] -/
  | peerStatusSend
  /-- PEER_LINK_DOWN: No PEER_STATUS for 30 ms or lock lost for 16 characters; the peer link is down and EV 045 is raised. [R346] -/
  | peerLinkDown
  /-- PAIR_PARAM_MISMATCH: The digests have differed for 1 s; PARAM_MATCH = 0 and EV 043 is raised. [R349] -/
  | pairParamMismatch
  /-- STATE_REC: A STATE_REC frame arrives and the standby writes it into the named buffer. [R348] -/
  | stateRec (f : PeerFrame)
  /-- UNIT_TABLE: A UNIT_TABLE frame arrives and the standby holds the owner's unit table. [R104] -/
  | unitTable (f : PeerFrame)
  /-- HOP_COMP: A HOP_COMP frame arrives and the standby takes the owner's D and depth. [R49] -/
  | hopComp (f : PeerFrame)
  /-- HOLD_STATE: A HOLD_STATE frame arrives and the standby of a head position keeps the lead's hold state. [R296] -/
  | holdState (f : PeerFrame)
  /-- RELEASE: A RELEASE frame arrives and the standby records the reason for its takeover cause. [R350] -/
  | release (f : PeerFrame)
  /-- PEER_ECHO_REQ: A PEER_ECHO_REQ arrives at the owner, which answers with PEER_ECHO_REP 1,200 ns later. [R505] -/
  | peerEchoReq (f : PeerFrame) (inWaymark : Bool)
  /-- PEER_ECHO_REP: A PEER_ECHO_REP arrives at the standby and enters its peer-link delay measurement. [R505] -/
  | peerEchoRep (f : PeerFrame) (rtt : Nat)
  /-- CAN_FRAME: A CAN frame is received, used for rate detection, recorded for the standby, and delivered to the CAN_RX stream. [R366] -/
  | canFrame (bus : Ix) (f : CanFrame)
  /-- RATE_DWELL_EXPIRY: RD_DWELL_MS passes without confirmation and detection moves to the next candidate. [R366] -/
  | rateDwellExpiry (bus : Ix)
  /-- RATE_SILENT_EXPIRY: RD_SILENT_MS passes with no frame or a sweep confirms nothing; the default candidate is adopted as assumed. [R367] -/
  | rateSilentExpiry (bus : Ix)
  /-- BASIC_CYCLE_START: A basic cycle begins; a bus enters scheduled when allowed and PCS status loss is counted. [R369] -/
  | basicCycleStart (bus : Ix)
  /-- CAN_WINDOW_START: A window starts and its message is sent if it fits, or the window counts as missed with EV 231. [R373] -/
  | canWindowStart (bus : Ix) (window : Nat) (leftNs : Nat)
  /-- CAN_TX_DONE: A CAN transmission ends in success, error or lost arbitration, and ordinary messages are retried or dropped. [R376] -/
  | canTxDone (bus : Ix) (result : CanResult)
  /-- CAN_BUS_OFF: The bus goes off; EV 228 is raised, a scheduled bus falls to normal and recovery starts. [R382] -/
  | canBusOff (bus : Ix)
  /-- BUS_OFF_RECOVERY: Recovery of 128 occurrences of 11 recessive bits completes and the bus resumes. [R382] -/
  | busOffRecovery (bus : Ix)
  /-- CAN_POST: Command CAN_POST queues a host message for an ordinary slot or a HOST window. [R390] -/
  | canPost (h : Hdr) (bus : Nat) (format : Nat) (length : Nat) (buffer : Nat) (id : Nat) (data : List Byte)
  /-- CAN_CANCEL: Command CAN_CANCEL removes a message before its SOF or suppresses its retries. [R380] -/
  | canCancel (h : Hdr) (handle : Nat)
  /-- PERST: PERST#, a hot reset or a function-level reset resets the host interface of one port. [R394] -/
  | perst (port : Ix) (cause : LinkCause)
  /-- HOST_LINK_DOWN: A port goes down; its DMA, streams and pending entries are abandoned and EV 050 is raised. [R395] -/
  | hostLinkDown (port : Ix) (cause : LinkCause)
  /-- HOST_LINK_UP: A port comes up again with its BAR2, indices and streams reset, and EV 050 is raised. [R395] -/
  | hostLinkUp (port : Ix) (speed : Nat) (wide : Bool)
  /-- MBX_DOORBELL: A write of MBX_DBn.PROD hands entries to the module, or is ignored with DB_ERR. [R399] -/
  | mbxDoorbell (port : Ix) (ring : Nat) (w : Word) (entries : List MbxEntry)
  /-- COMMAND_TIMEOUT: An ordinary command cannot finish within 50 ms and writes TIMEOUT with no effect. [R401] -/
  | commandTimeout (h : Hdr) (opcode : Nat)
  /-- LONG_DONE: A long command ends; its result is kept and EV 051 is raised. [R402] -/
  | longDone (id : Nat)
  /-- LONG_RESULT_EXPIRY: A long command result reaches LONG_KEEP_S and is dropped. [R402] -/
  | longResultExpiry (id : Nat)
  /-- NOP: Command NOP completes with OK. [R403] -/
  | nop (h : Hdr)
  /-- IDENTIFY: Command IDENTIFY returns board identity, versions, port, slot and role. [R403] -/
  | identify (h : Hdr)
  /-- LONG_QUERY: Command LONG_QUERY returns a long command's result or PENDING. [R402] -/
  | longQuery (h : Hdr) (id : Nat)
  /-- STREAM_OPEN: Command STREAM_OPEN opens a stream on a descriptor ring. [R404] -/
  | streamOpen (h : Hdr) (type : Nat) (addr : Nat) (entries : Nat) (descs : List Desc)
  /-- STREAM_CLOSE: Command STREAM_CLOSE closes a stream and returns its lost count. [R404] -/
  | streamClose (h : Hdr) (type : Nat)
  /-- STRM_TAIL_WRITE: A write of STRM_TAILm hands descriptors to the module. [R404] -/
  | strmTailWrite (port : Ix) (stream : Nat) (w : Word)
  /-- DESCRIPTOR_FETCH_DONE: A descriptor fetch completes and the next buffer is filled. [R404] -/
  | descriptorFetchDone (port : Ix) (stream : Nat) (d : Desc)
  /-- DESCRIPTOR_FETCH_FAIL: A descriptor fetch times out or fails; it is retried, and after FETCH_RETRIES the stream stops with EV 052 and EV 054. [R407] -/
  | descriptorFetchFail (port : Ix) (stream : Nat) (addr : Nat)
  /-- DESC_STARVED: A stream waits DESC_TIMEOUT_MS without a descriptor and drops its oldest record with EV 053. [R408] -/
  | descStarved (port : Ix) (stream : Nat)
  /-- BUFFER_WRITE_DONE: A stream buffer write completes in three steps and the stream's vector is raised if requested. [R405] -/
  | bufferWriteDone (port : Ix) (stream : Nat)
  /-- CANRX_FLUSH: CANRX_FLUSH_CYCLES after its first record a CAN_RX buffer is closed. [R404] -/
  | canrxFlush (port : Ix)
  /-- CAPTURE: Command CAPTURE starts a waveform capture from the 256-cycle record. [R409] -/
  | capture (h : Hdr) (req : CaptureReq)
  /-- CAPTURE_TRIGGER: A capture's trigger cycle or event occurs and its samples are written to the WAVEFORM stream. [R409] -/
  | captureTrigger (port : Ix)
  /-- HOST_READ_DEFERRED: A WAVEFORM or LEDGER_EXPORT write waits more than 1 ms behind a state record and EV 161 is raised. [R409] -/
  | hostReadDeferred (port : Ix) (stream : Nat) (delayMs : F32)
  /-- REGISTER_WRITE: A BAR0 write to a register without a row of its own, including W1C bits, takes effect or is ignored. [R397] -/
  | registerWrite (port : Ix) (offset : Nat) (w : Word)
  /-- EV_MASK_WRITE: A write of EV_MASKg unmasks events and sends the vector for any event still pending. [R418] -/
  | evMaskWrite (port : Ix) (group : Nat) (w : Word)
  /-- LEDGER_RECORD_WRITE: A queued occurrence is written to the ledger in three steps and read back, or the slot is left invalid with EV 252. [R422] -/
  | ledgerRecordWrite (first : Bool) (second : Bool)
  /-- EV_LAST: Command EV_LAST returns the newest occurrence record of an event. [R415] -/
  | evLast (h : Hdr) (evt : Nat)
  /-- LEDGER_READ: Command LEDGER_READ returns present ledger records from a first SEQ. [R425] -/
  | ledgerRead (h : Hdr) (first : Nat) (count : Nat)
  /-- LEDGER_EXPORT: Command LEDGER_EXPORT writes a SEQ range of records into the LEDGER_EXPORT stream. [R426] -/
  | ledgerExport (h : Hdr) (first : Nat) (last : Nat)
  /-- LEDGER_FREEZE: Command LEDGER_FREEZE freezes ledger writing for a duration. [R427] -/
  | ledgerFreeze (h : Hdr) (ms : Nat)
  /-- LEDGER_UNFREEZE: Command LEDGER_UNFREEZE from the holder ends the freeze. [R427] -/
  | ledgerUnfreeze (h : Hdr)
  /-- FREEZE_EXPIRY: The freeze duration or 10 s passes and the freeze ends with its summary. [R427] -/
  | freezeExpiry
  /-- LEDGER_CLEAR: Command LEDGER_CLEAR raises the floor and raises EV 249. [R428] -/
  | ledgerClear (h : Hdr) (upto : Nat)
  /-- LEDGER_INFO: Command LEDGER_INFO returns the ledger range, floor, freeze state and counts. [R425] -/
  | ledgerInfo (h : Hdr)
  /-- EV_TEST: Command EV_TEST raises EV 255 with 8 host bytes. [R412] -/
  | evTest (h : Hdr) (data : List Byte)
  /-- PAR_READ: Command PAR_READ returns parameters of a range from a chosen source. [R430] -/
  | parRead (h : Hdr) (group : Nat) (first : Nat) (count : Nat) (source : Nat)
  /-- PAR_WRITE: Command PAR_WRITE checks and stages parameter entries, opening or taking over a session. [R435] -/
  | parWrite (h : Hdr) (data : List Byte)
  /-- COMMIT: Command COMMIT checks the candidate dictionary, installs it, schedules each change and starts persistence. [R436] -/
  | commit (h : Hdr)
  /-- PAR_DISCARD: Command PAR_DISCARD ends the staging session and discards the staging copy. [R434] -/
  | parDiscard (h : Hdr)
  /-- PERSISTENCE_DONE: Persistence of the dictionary into the other bank ends with VALID programmed and the old bank erased, or fails with PERSIST_FAULT. [R444] -/
  | persistenceDone (verified : Bool)
  /-- SAFETY_SCAN: Once per second every class 1 pair is checked and reloaded, or a failed self-test follows. [R440] -/
  | safetyScan
  /-- UPD_OPEN: Command UPD_OPEN opens or resumes an update session and erases the target. [R456] -/
  | updOpen (h : Hdr) (imgType : Nat) (brk : Bool) (imageLen : Nat) (version : Nat) (manifestCrc : Nat)
  /-- UPD_BLOCK: Command UPD_BLOCK reads, checks, programs and marks a 4 KiB block. [R458] -/
  | updBlock (h : Hdr) (offset : Nat) (addr : Nat) (crc : Nat) (data : List Byte)
  /-- UPD_VERIFY: Command UPD_VERIFY checks the manifest and signature and moves to verified, stages a model, or ends the session. [R459] -/
  | updVerify (h : Hdr)
  /-- UPD_SCHEDULE: Command UPD_SCHEDULE names an activation cycle and moves to scheduled if accepted. [R460] -/
  | updSchedule (h : Hdr) (cycle : Nat)
  /-- UPD_CANCEL: Command UPD_CANCEL cancels a session or schedule, with or without DISCARD. [R454] -/
  | updCancel (h : Hdr) (discard : Bool)
  /-- UPD_CONFIRM: Command UPD_CONFIRM confirms a trial image and raises EV 245. [R463] -/
  | updConfirm (h : Hdr) (version : Nat)
  /-- UPD_CLOSE: Command UPD_CLOSE releases the session lock. [R455] -/
  | updClose (h : Hdr)
  /-- UPD_INFO: Command UPD_INFO returns the selector, journal, versions and block bitmap. [R456] -/
  | updInfo (h : Hdr)
  /-- ACTIVATION: At C_act:0 the module activates by role, writes a trial selector record and restarts, or lapses. [R461] -/
  | activation
  /-- CONFIRM_WINDOW_EXPIRY: The confirmation window ends without confirmation and the module restarts toward fallback. [R464] -/
  | confirmWindowExpiry
  /-- CARAVAN_REENUM: Host command CARAVAN_REENUM re-enumerates the rings of its mask and reports a FINDING per ring, leaving rings of disabled strings untouched. [R101] -/
  | caravanReenum (h : Hdr) (mask : Nat) (f0 : RingFind) (f1 : RingFind)
  /-- COMPATIBILITY_REPLY: A CU-12 reply of TYPE 0xC0 to 0xFF (READ_V, READ_T, BAL12, CONFIG12) arrives and its voltages, temperatures, USTAT12 or status are taken. [R116] -/
  | compatibilityReply (ring : Ix) (f : Car12Frame)
  /-- PARTNER_READY_CHANGE: The partner outrider's READY input changes; during a heartbeat hold the owner releases the line when the partner becomes READY. [R331] -/
  | partnerReadyChange (ready : Bool)
  /-- OWNERSHIP_LINE_ASSERTED: The ownership line comes to an owned level; slot B losing a tie releases, a fault pattern sets LINE_FAULT, and a partner's assertion is seen. [R343] -/
  | ownershipLineAsserted (line : OwnLine)
  /-- DIE_TEMP_SEND: Every 100 ms the module sends its T_d to the partner in a DIE_TEMP frame. [R249] -/
  | dieTempSend
  /-- PCIE_ERROR: An AER error is detected on a host port and EV 056 PCIE_ERROR is raised with its status. [R393] -/
  | pcieError (port : Ix) (status : Nat) (uncorrectable : Bool)
  /-- ACTIVATION_OPEN_TIMEOUT: 10 s after an unpartnered active began opening its strings for activation, the selector is written and the module restarts even if the strings do not read OPEN. [R461] -/
  | activationOpenTimeout
  /-- CHARGE_PUMP_STEP: After a band change the PLL charge-pump current moves one 5 µA step per 4,096 reference cycles until it reaches the band setting. [R247] -/
  | chargePumpStep
  deriving DecidableEq, Repr

end Sys2Proof
end

