-- ==== Sys2Proof/Decode.lean ====
section
/-! DEFINITION. The decoder of table words. The spec's table of operations gives no row any bits: a command reaches the
block as a frame, a register access, a command entry or an event, never as a word of the table. -/

namespace Sys2Proof

/-- The command that a word of `nbits` bits spells by the table's bits: none, for the table gives its rows none. -/
def decodeTableWord (_nbits _w : Nat) : Option Instr := none

end Sys2Proof
end

