-- ==== Sys2Proof/Config.lean ====
section
/-! DEFINITION. What the spec leaves to the implementation or gives by name only: free values and functions with no
body, so that no proof can use a value of theirs. -/

namespace Sys2Proof.Config

/-- The position within the tick, in 1/512 tick, at the n-th stamp the module takes (R413). The model's steps have no finer
time than the tick, so the position is free. -/
opaque subTick : Nat → BitVec 9

/-- The n-th handle the module gives a long command (R401) or a CAN message (R403); the spec gives no numbering. -/
opaque handle : Nat → BitVec 32

/-- The argument of the complex number 0, in radians; the spec gives none (R185 CODE 0x05, R276). -/
opaque argZero : Rat

/-- The vendor image key held with the boot loader (R452). -/
opaque vendorImageKey : List (BitVec 8)

/-- The vendor model key held in the firmware (R185). -/
opaque vendorModelKey : List (BitVec 8)

/-- The dictionary format whose parameters the running firmware converts from (R467); the spec defines DICT_FORMAT 1 only. -/
opaque dictFormatKnown : Nat → Bool

/-- The result an estimator or model value takes where the spec states none: a division by zero variance, an inverse
OCV outside the table's reach. First argument the place, second the operand. -/
opaque unstated : Nat → BitVec 32 → BitVec 32

end Sys2Proof.Config
end

