-- ==== Sys2Proof/Machine/Float.lean ====
section
/-! DEFINITION. IEEE 754 binary32 arithmetic on 32-bit words, round to nearest with ties to even, as the
estimation engine (R193) and, with subnormals flushed to zero, the control engine (R257) use it. -/

namespace Sys2Proof

/-- Magnitude of a rational. -/
def absR (x : Rat) : Rat := if x < 0 then -x else x

/-- What a binary32 word stands for: a NaN, an infinity, or the finite value `(-1)^neg * m * 2^e`. -/
inductive FVal where
  | nan
  | inf (neg : Bool)
  | fin (neg : Bool) (m : Nat) (e : Int)
  deriving DecidableEq, Repr

/-- Bits of the integer square root from bit `k - 1` downward, beginning with the root so far. -/
def isqrtFrom (n : Nat) : (k r : Nat) → Nat
  | 0, r => r
  | k + 1, r => isqrtFrom n k (if (r + 2 ^ k) * (r + 2 ^ k) ≤ n then r + 2 ^ k else r)
/-- The integer square root. -/
def isqrt (n : Nat) : Nat := isqrtFrom n (n.log2 / 2 + 1) 0

namespace F32

/-- The sign bit. -/
def neg? (x : F32) : Bool := testBit x.toNat 31
/-- The exponent field. -/
def expo (x : F32) : Nat := bits x.toNat 30 23
/-- The fraction field. -/
def frac (x : F32) : Nat := bits x.toNat 22 0

/-- The value of a word. -/
def unpack (x : F32) : FVal :=
  if expo x = 255 then (if frac x = 0 then .inf (neg? x) else .nan)
  else if expo x = 0 then .fin (neg? x) (frac x) (-149)
  else .fin (neg? x) (frac x + 2 ^ 23) ((expo x : Int) - 150)

/-- The word with the given sign, exponent field and fraction field. -/
def build (neg : Bool) (e m : Nat) : F32 :=
  BitVec.ofNat 32 (bit neg * 2 ^ 31 + e * 2 ^ 23 + m)

/-- Positive zero. -/
def zero : F32 := 0
/-- One. -/
def one : F32 := 0x3F800000#32
/-- The quiet NaN the model writes. -/
def qNaN : F32 := 0x7FC00000#32
/-- An infinity. -/
def infinity (neg : Bool) : F32 := build neg 255 0

/-- `n * 2^k / d` for an integer power, as a quotient and whether the remainder is below, at or above one half. -/
def scaledDiv (n d : Nat) (k : Int) : Nat × Nat × Nat :=
  let n' := if 0 ≤ k then n * 2 ^ k.toNat else n
  let d' := if 0 ≤ k then d else d * 2 ^ (-k).toNat
  (n' / d', n' % d', d')

/-- Quotient rounded to nearest, ties to even. -/
def rne (q r d : Nat) : Nat :=
  if 2 * r < d then q else if d < 2 * r then q + 1 else if q % 2 = 0 then q else q + 1

/-- The exponent `k` for which `n / d` lies from `2^(k+23)` up to `2^(k+24)`, at least -149. -/
def pickExp (n d : Nat) : Int :=
  let k0 : Int := (n.log2 : Int) - (d.log2 : Int) - 23
  let (q, _, _) := scaledDiv n d (-k0)
  let k := if q < 2 ^ 23 then k0 - 1 else k0
  if k < -149 then -149 else k

/-- The binary32 word nearest to `(-1)^neg * n / d`. -/
def ofRatio (neg : Bool) (n d : Nat) : F32 :=
  if n = 0 ∨ d = 0 then build neg 0 0
  else
    let k := pickExp n d
    let (q, r, d') := scaledDiv n d (-k)
    let m := rne q r d'
    let (m, k) := if m = 2 ^ 24 then (2 ^ 23, k + 1) else (m, k)
    if m < 2 ^ 23 then build neg 0 m
    else
      let e := (k + 150).toNat
      if 255 ≤ e then infinity neg else build neg e (m - 2 ^ 23)

/-- Rounding of `(-1)^neg * m * 2^e`. -/
def ofScaled (neg : Bool) (m : Nat) (e : Int) : F32 :=
  if 0 ≤ e then ofRatio neg (m * 2 ^ e.toNat) 1 else ofRatio neg m (2 ^ (-e).toNat)

/-- The value is finite. -/
def isFinite (x : F32) : Bool := expo x != 255
/-- The word is a NaN. -/
def isNaN (x : F32) : Bool := expo x == 255 && frac x != 0

/-- Sign change. -/
def negate (x : F32) : F32 := x ^^^ 0x80000000#32
/-- Magnitude. -/
def abs (x : F32) : F32 := x &&& 0x7FFFFFFF#32

/-- The signed integer `(-1)^neg * m`. -/
def signed (neg : Bool) (m : Nat) : Int := if neg then -(m : Int) else (m : Int)

/-- Sum. -/
def add (x y : F32) : F32 :=
  match unpack x, unpack y with
  | .nan, _ => qNaN
  | _, .nan => qNaN
  | .inf a, .inf b => if a = b then infinity a else qNaN
  | .inf a, _ => infinity a
  | _, .inf b => infinity b
  | .fin a m e, .fin b n f =>
    let k := min e f
    let s := signed a m * 2 ^ (e - k).toNat + signed b n * 2 ^ (f - k).toNat
    if s = 0 then build (a && b) 0 0
    else ofScaled (decide (s < 0)) s.natAbs k

/-- Difference. -/
def sub (x y : F32) : F32 := add x (negate y)

/-- Product. -/
def mul (x y : F32) : F32 :=
  match unpack x, unpack y with
  | .nan, _ => qNaN
  | _, .nan => qNaN
  | .inf a, .inf b => infinity (a != b)
  | .inf a, .fin b n _ => if n = 0 then qNaN else infinity (a != b)
  | .fin a m _, .inf b => if m = 0 then qNaN else infinity (a != b)
  | .fin a m e, .fin b n f => ofScaled (a != b) (m * n) (e + f)

/-- Quotient. -/
def div (x y : F32) : F32 :=
  match unpack x, unpack y with
  | .nan, _ => qNaN
  | _, .nan => qNaN
  | .inf _, .inf _ => qNaN
  | .inf a, .fin b _ _ => infinity (a != b)
  | .fin a _ _, .inf b => build (a != b) 0 0
  | .fin a m e, .fin b n f =>
    if n = 0 then (if m = 0 then qNaN else infinity (a != b))
    else
      let k := e - f
      if 0 ≤ k then ofRatio (a != b) (m * 2 ^ k.toNat) n else ofRatio (a != b) m (n * 2 ^ (-k).toNat)

/-- Square root, by an integer root with 32 guard bits and a sticky bit. -/
def sqrt (x : F32) : F32 :=
  match unpack x with
  | .nan => qNaN
  | .inf a => if a then qNaN else infinity false
  | .fin a m e =>
    if m = 0 then build a 0 0
    else if a then qNaN
    else
      let m' := if e % 2 = 0 then m * 2 ^ 64 else m * 2 ^ 65
      let e' : Int := if e % 2 = 0 then e - 64 else e - 65
      let r := isqrt m'
      let sticky := if r * r = m' then 0 else 1
      ofScaled false (2 * r + sticky) (e' / 2 - 1)

/-- The exact value; 0 for an infinity or a NaN. -/
def toRat (x : F32) : Rat :=
  match unpack x with
  | .fin a m e =>
    let v : Rat := if 0 ≤ e then ((m * 2 ^ e.toNat : Nat) : Rat) else mkRat (m : Int) (2 ^ (-e).toNat)
    if a then -v else v
  | _ => 0

/-- The binary32 word nearest to a rational. -/
def ofRat (q : Rat) : F32 := ofRatio (decide (q.num < 0)) q.num.natAbs q.den

/-- The binary32 word nearest to an integer. -/
def ofInt (i : Int) : F32 := ofRatio (decide (i < 0)) i.natAbs 1

/-- Comparison `x < y`; false when either is a NaN. -/
def lt (x y : F32) : Bool :=
  match unpack x, unpack y with
  | .nan, _ => false
  | _, .nan => false
  | .inf a, .inf b => a && !b
  | .inf a, _ => a
  | _, .inf b => !b
  | .fin a m e, .fin b n f =>
    let k := min e f
    decide (signed a m * 2 ^ (e - k).toNat < signed b n * 2 ^ (f - k).toNat)

/-- Comparison `x ≤ y`; false when either is a NaN. -/
def le (x y : F32) : Bool := !isNaN x && !isNaN y && !lt y x

/-- The greater of two. -/
def maxOf (x y : F32) : F32 := if lt x y then y else x
/-- The lesser of two. -/
def minOf (x y : F32) : F32 := if lt y x then y else x
/-- Clamp to `lo … hi`. -/
def clamp (x lo hi : F32) : F32 := minOf (maxOf x lo) hi

/-- Flush a subnormal to a zero of its sign (R257). -/
def ftz (x : F32) : F32 := if expo x = 0 then build (neg? x) 0 0 else x
/-- Sum with subnormal operands and results flushed (R257). -/
def addZ (x y : F32) : F32 := ftz (add (ftz x) (ftz y))
/-- Difference, flushed. -/
def subZ (x y : F32) : F32 := ftz (sub (ftz x) (ftz y))
/-- Product, flushed. -/
def mulZ (x y : F32) : F32 := ftz (mul (ftz x) (ftz y))
/-- Quotient, flushed. -/
def divZ (x y : F32) : F32 := ftz (div (ftz x) (ftz y))

end F32
end Sys2Proof
end

