-- ==== Sys2Proof/Machine/Math.lean ====
section
/-! DEFINITION. The functions of mathematics that the spec uses by name: e to a power (R194, R224), π, √2, √3, sine, cosine and the
argument (R128, R185, R276). Each is formed as a rational far finer than binary32 (log 20), and rounded once where a binary32 value is
asked for. -/

namespace Sys2Proof.Math

/-- The scale of the fixed-point numbers of this file. -/
def unit_ : Nat := 2 ^ 160

/-- π to 60 decimal places. -/
def pi : Rat :=
  mkRat 3141592653589793238462643383279502884197169399375105820974945 (10 ^ 60)
/-- The square root of a small number. -/
def rootOf (n : Nat) : Rat := mkRat (isqrt (n * unit_ * unit_) : Nat) unit_

/-- The terms of a power series: each is the one before times `x`, over `unit_`, divided by the numbers that `den` gives; `sign` alternates
their signs where it is set. -/
def series (x : Int) (den : Nat → Int) : (fuel k : Nat) → (term : Int) → Int
  | 0, _, _ => 0
  | fuel + 1, k, term => term + series x den fuel (k + 1) (term * x / (unit_ : Int) / den k)

/-- A fixed-point number squared `n` times. -/
def squareTimes : Nat → Nat → Nat
  | 0, v => v
  | n + 1, v => squareTimes n (v * v / unit_)

/-- e to the power of a rational of 0 or more, below 128: by e^(q/256), squared 8 times. -/
def expPos (q : Rat) : Nat :=
  let x : Int := (q * unit_ / 256).floor
  squareTimes 8 (series x (fun k => (k : Int) + 1) 40 0 unit_).toNat
/-- e to a binary32 power. -/
def exp32 (x : F32) : F32 :=
  if F32.isNaN x then F32.qNaN
  else if F32.lt x 0xC2D20000#32 then 0
  else if F32.lt 0x42B40000#32 x then F32.infinity false
  else
    let q := F32.toRat x
    let v := expPos (absR q)
    if q < 0 then F32.ofRatio false unit_ v else F32.ofRatio false v unit_

/-- Sine of an angle in fixed point, from 0 to a quarter turn. -/
def sinFix (x : Int) : Int := series (x * x / (unit_ : Int)) (fun k => -((2 * (k : Int) + 2) * (2 * k + 3))) 30 0 x
/-- Cosine of an angle in fixed point, from 0 to a quarter turn. -/
def cosFix (x : Int) : Int := series (x * x / (unit_ : Int)) (fun k => -((2 * (k : Int) + 1) * (2 * k + 2))) 30 0 unit_
/-- Sine and cosine of `num / den` of a full turn, the quarter turns exact. -/
def turn (num den : Nat) : Rat × Rat :=
  let n := 4 * (num % den)
  let x : Int := (pi / 2 * mkRat (n % den : Nat) den * unit_).floor
  let s := mkRat (sinFix x) unit_
  let c := mkRat (cosFix x) unit_
  match n / den with
  | 0 => (s, c)
  | 1 => (c, -s)
  | 2 => (-s, -c)
  | _ => (-c, s)
/-- Sine of `num / den` of a full turn. -/
def sinTurn (num den : Nat) : Rat := (turn num den).1
/-- Cosine of `num / den` of a full turn. -/
def cosTurn (num den : Nat) : Rat := (turn num den).2

/-- The tangent of half the angle of a tangent, in fixed point. -/
def halfTan (z : Int) : Int := z * unit_ / ((unit_ : Int) + (isqrt ((unit_ : Int) * unit_ + z * z).toNat : Int))
/-- The angle of a tangent from 0 to 1, in fixed point: eight times that of the angle's eighth. -/
def atanFix (z : Int) : Int :=
  let t := halfTan (halfTan (halfTan z))
  let w := t * t / (unit_ : Int)
  8 * (List.range 40).foldl (fun (a : Int × Int) (k : Nat) => (a.1 + a.2 / (2 * k + 1 : Int), -(a.2 * w / unit_))) (0, t) |>.1
/-- The argument of a complex number in radians, above -π and up to π; that of 0 is free. -/
def arg (re im : Rat) : Rat :=
  if re = 0 ∧ im = 0 then Config.argZero else
  let a := absR re
  let b := absR im
  let at_ (p q : Rat) : Rat := mkRat (atanFix (p / q * unit_).floor) unit_
  let t := if b ≤ a then at_ b a else pi / 2 - at_ a b
  let t := if re < 0 then pi - t else t
  if im < 0 then -t else t

end Sys2Proof.Math
end

