-- ==== Sys2Proof/Machine/StBase.lean ====
section
/-! DEFINITION. State of the card's supply and power-up order, the clocks, the mains-angle grid and the Ryran ports. -/

namespace Sys2Proof.Machine

/-- Identity of the card, set at the factory (Table 19-3). -/
structure IdentState where
  /-- ID_BOARD.VARIANT, 1 MSC2-D15, 2 MSC2-S15 [Table 19-3; reset DESIGN CHOICE 1 (log 3)] -/
  variant : Nat := 1
  /-- ID_BOARD.BOARD_REV [Table 19-3; reset DESIGN CHOICE 0 (log 3)] -/
  boardRev : Nat := 0
  /-- ID_BOARD.DIE_REV [Table 19-3; reset DESIGN CHOICE 0 (log 3)] -/
  dieRev : Nat := 0
  /-- ID_SERIAL, 64 bits [Table 19-3; reset DESIGN CHOICE 0 (log 3)] -/
  serial : Nat := 0
  /-- ID_BL_VER, 32 bits [Table 19-3; reset DESIGN CHOICE 0 (log 3)] -/
  blVer : Nat := 0
  deriving DecidableEq, Repr

/-- Supply, straps, power-up order and restart bookkeeping. -/
structure ElecState where
  /-- the 12 V output is good [R477, R478; reset false] -/
  powered : Bool := false
  /-- the step of Table 1-7 in progress, 0 before power-good [R47; reset 0] -/
  step : Nat := 0
  /-- the firmware of an image runs [R451; reset false] -/
  fw : Bool := false
  /-- the boot loader runs with no image started (RESET_CAUSE.LOADER) [R451; reset false] -/
  loader : Bool := false
  /-- the card is in clockless hold [R62; reset false] -/
  clockless : Bool := false
  /-- SLOT_ID strap as latched, true for slot B [R339; reset DESIGN CHOICE slot A (log 4)] -/
  slotB : Bool := false
  /-- HOLD_STRAP as latched, true for 2 s [R311; reset DESIGN CHOICE 0.5 s (log 4)] -/
  strap2s : Bool := false
  /-- the ledger has been scanned in this boot [R424; reset false] -/
  scanned : Bool := false
  /-- RESET_CAUSE.CAUSE, cause of the last restart [Table 19-4; reset 0] -/
  cause : Nat := 0
  /-- RESET_CAUSE.IMAGE_SLOT, image slot booted [Table 19-4; reset slot A] -/
  imageSlot : Ix := .zero
  /-- RESET_CAUSE.RESTARTS, kept in MRAM, saturating at 0xFFFF [Table 19-4; reset DESIGN CHOICE 0 (log 5)] -/
  restarts : Nat := 0
  /-- time since power-up step 3 in 1/8 ns (UPTIME) [Table 19-4; reset 0] -/
  uptime : Nat := 0
  /-- the last completed tick as cycle times 128 plus tick, kept in MRAM [R157; reset DESIGN CHOICE none (log 5)] -/
  lastTick : Option Nat := none
  /-- the tick stored before a restart, whose coulomb gap is not yet reported [R157; reset none] -/
  gapFrom : Option Nat := none
  /-- the numbering since the restart was started by this module as angle source [R157; reset false] -/
  ownNumbering : Bool := false
  /-- reason of isolation that still stands: 0 none, 1 variant, 2 self-test, 3 command [R33, R403; reset 0] -/
  isolation : Nat := 0
  /-- the firmware's last self-test passed [R47; reset true] -/
  selfTestOk : Bool := true
  deriving DecidableEq, Repr

/-- One queued source change of a domain (R60). -/
structure DomSwitch where
  dom : Domain
  toPll : Bool
  deriving DecidableEq, Repr

/-- Dividers of CLK_DIV (Table 2-7). -/
structure Dividers where
  cpu : Nat := 4
  eng : Nat := 6
  fab : Nat := 12
  ctl : Nat := 12
  mod : Nat := 240
  deriving DecidableEq, Repr

/-- Reference clocks, PLL and domains. -/
structure ClkState where
  /-- CLK_STAT.REFA_OK and REFB_OK [Table 2-6; reset 0] -/
  refOk : Two Bool := { zero := false, one := false }
  /-- CLK_STAT.REF_SEL [Table 2-6; reset 0] -/
  sel : Ix := .zero
  /-- CLK_CTRL.PLL_EN [Table 2-5; reset 1] -/
  pllEn : Bool := true
  /-- CLK_CTRL.REF_PREF as last written [Table 2-5; reset 0] -/
  refPref : Ix := .zero
  /-- CLK_CTRL.APPLY in progress [Table 2-5; reset 0] -/
  applying : Bool := false
  /-- CLK_STAT.LOCK [Table 2-6; reset 0] -/
  lock : Bool := false
  /-- MODE_STAT.CLOCK, true for bypass [Table 1-3; reset 1] -/
  bypass : Bool := true
  /-- CLK_STAT.FORCED [Table 2-6; reset 0] -/
  forced : Bool := false
  /-- CLK_STAT.LOCK_LOST [Table 2-6; reset 0] -/
  lockLost : Bool := false
  /-- CLK_STAT.REF_LOST [Table 2-6; reset 0] -/
  refLost : Bool := false
  /-- CLK_STAT.REF_DIFF [Table 2-6; reset 0] -/
  refDiff : Bool := false
  /-- CLK_STAT.DIV_REJECT [Table 2-6; reset 0] -/
  divReject : Bool := false
  /-- CLK_STAT.FORCED_DOM, 6 bits, bit 0 CPU to bit 5 MOD [Table 2-6; reset 0] -/
  forcedDom : Nat := 0
  /-- CLK_STAT.LOCK_LOSS_CNT, saturating at 0xFFFF [Table 2-6; reset 0] -/
  lockLossCnt : Nat := 0
  /-- CLK_DIV as written [Table 2-7; reset 4, 6, 12, 12, 240] -/
  div : Dividers := {}
  /-- dividers in force since the last APPLY [R63; reset 4, 6, 12, 12, 240] -/
  divActing : Dividers := {}
  /-- CLK_DIV as it stood at the last accepted APPLY, in force once the switches complete [R63; reset 4, 6, 12, 12, 240] -/
  divTaken : Dividers := {}
  /-- CPU runs from the PLL [R56; reset false] -/
  cpuPll : Bool := false
  /-- ENG runs from the PLL [R56; reset false] -/
  engPll : Bool := false
  /-- FAB runs from the PLL [R56; reset false] -/
  fabPll : Bool := false
  /-- CTL runs from the PLL [R56; reset false] -/
  ctlPll : Bool := false
  /-- source changes requested and not completed, oldest first [R60; reset none] -/
  queue : List DomSwitch := []
  /-- the reference that an APPLY moves to once the domains are in bypass [R499; reset none] -/
  refMove : Option Ix := none
  /-- MOD stalled in the tick in progress [R58, R157; reset false] -/
  modStalled : Bool := false
  /-- PLL charge-pump current in µA [R247; reset 160, the HOT setting in force] -/
  pump : Nat := 160
  /-- charge-pump stepping waits for lock to be judged again [R248; reset false] -/
  pumpWait : Bool := false
  deriving DecidableEq, Repr

/-- An echo measurement in progress on one port (R74, R75). -/
structure EchoState where
  /-- echoes sent in the measurement [R74; reset 0] -/
  sent : Nat := 0
  /-- echoes received [R75; reset 0] -/
  got : Nat := 0
  /-- echoes counted lost [R75; reset 0] -/
  lost : Nat := 0
  /-- sum of the round trips received, 1/8 ns [R75; reset 0] -/
  sum : Nat := 0
  /-- content of the last ECHO_REP [R75; reset none] -/
  last : Option EchoRun := none
  /-- a measurement is running [R76; reset false] -/
  busy : Bool := false
  /-- measurements repeat once per cycle until two agree [R298; reset false] -/
  settling : Bool := false
  /-- the previous settled result in 1/8 ns [R298; reset none] -/
  previous : Option Nat := none
  /-- a settled result in 1/8 ns that awaits the next feature-frame boundary [R298; reset none] -/
  adopt : Option Nat := none
  deriving DecidableEq, Repr

/-- One stream of waymarks: an upstream port, or the peer link on the standby of an angle source (R505). -/
structure StreamState where
  /-- link receiving valid symbols (RYR_STAT.LINK_UP bit) [Table 2-13; reset 0] -/
  linkUp : Bool := false
  /-- stream accepted [R80; reset false] -/
  accepted : Bool := false
  /-- consecutive consistent waymarks counted in acquisition [R80; reset 0] -/
  acq : Nat := 0
  /-- the tick the next waymark must name, as cycle times 128 plus tick [R80; reset none] -/
  next : Option Nat := none
  /-- consecutive discarded waymarks [R80; reset 0] -/
  discards : Nat := 0
  /-- the other port named a different tick and is out of selection [R85; reset false] -/
  inconsistent : Bool := false
  /-- ticks this port has agreed with the selected one since [R85; reset 0] -/
  agree : Nat := 0
  /-- cumulative delay in use, 1/8 ns (RYR_DELAY_Ux) [R74, R88; reset 0] -/
  d : Nat := 0
  /-- measured delay toward which the delay in use moves [R76; reset 0] -/
  dGoal : Nat := 0
  /-- depth of the answering module [R74; reset 0] -/
  upDepth : Nat := 0
  /-- highest cycle number named by enumeration replies [R67; reset 0] -/
  cycleMax : Nat := 0
  /-- arrival instants of the last waymarks, newest first, at most 5, 1/8 ns [R77; reset none] -/
  arrivals : List Nat := []
  /-- COAST of the last waymark received [R81; reset false] -/
  coast : Bool := false
  /-- COAST_AGE of the last waymark received [R81; reset 0] -/
  coastAge : Nat := 0
  /-- whole ticks U0 has stayed valid since it was left [R84; reset 0] -/
  validTicks : Nat := 0
  /-- the echo measurement of the port [R75; reset idle] -/
  echo : EchoState := {}
  /-- RYR_ERR FRAME_DISC of the port, saturating at 0xFFFF [Table 19-5; reset 0] -/
  frameDisc : Nat := 0
  /-- RYR_ERR WM_DISC of the port, saturating at 0xFFFF [Table 19-5; reset 0] -/
  wmDisc : Nat := 0
  /-- the last waymark named by this stream, as cycle times 128 plus tick, within the synchronised run [R15, R67; reset none] -/
  lastNamed : Option Nat := none
  /-- the word of the last valid waymark, from which a module that changes to this stream takes its flags [R84; reset 0] -/
  lastWord : Nat := 0
  deriving DecidableEq, Repr

/-- A LEAD_MOVE that awaits its cycle (R300). -/
structure MoveReq where
  target : Nat
  cycle : Nat
  deriving DecidableEq, Repr

/-- The grid of mains-angle ticks, waymark reception and the angle source. -/
structure GridState where
  /-- the module holds a grid of its own (WAY_NOW counts) [R413, R495; reset false] -/
  on : Bool := false
  /-- the current tick, cycle times 128 plus tick [R495; reset 0] -/
  now : Nat := 0
  /-- instant of the trigger of tick `named` against the local time base, 1/8 ns [R77; reset 0] -/
  trig : Nat := 0
  /-- the tick whose trigger instant is `trig`: the last one whose waymark was followed, sent or extrapolated [R69, R77, R81; reset 0] -/
  named : Nat := 0
  /-- mean of the last 4 waymark intervals, 1/8 ns [R77; reset 0] -/
  period : Rat := 0
  /-- MODE_STAT.SYNC [Table 1-3; reset 0] -/
  sync : Bool := false
  /-- U0 stream [R80; reset idle] -/
  u0 : StreamState := {}
  /-- U1 stream [R80; reset idle] -/
  u1 : StreamState := {}
  /-- peer-link stream of an angle-source position's standby [R505; reset idle] -/
  peer : StreamState := {}
  /-- RYR_STAT.UP_SEL, 0 U0, 1 U1 [Table 2-13; reset 0] -/
  sel : Ix := .zero
  /-- RYR_STAT.LINK_UP bits of D0 and D1 [Table 2-13; reset 0] -/
  downUp : Two Bool := { zero := false, one := false }
  /-- RYR_ERR_D0 and RYR_ERR_D1 FRAME_DISC [Table 19-5; reset 0] -/
  downDisc : Two Nat := { zero := 0, one := 0 }
  /-- RYR_STAT.COAST [Table 2-13; reset 0] -/
  coast : Bool := false
  /-- RYR_STAT.COAST_AGE [Table 2-13; reset 0] -/
  coastAge : Nat := 0
  /-- ticks since this module's own coasting began [R81; reset 0] -/
  coastTicks : Nat := 0
  /-- RYR_STAT.VIRT [Table 2-13; reset 0] -/
  virt : Bool := false
  /-- RYR_STAT.SLEW [Table 2-13; reset 0] -/
  slew : Bool := false
  /-- F60 of the last waymark [Table 2-8; reset 0] -/
  f60 : Bool := false
  /-- RYR_STAT.HEAD, this module is the angle source [Table 2-13; reset 0] -/
  head : Bool := false
  /-- RYR_STAT.U1_LOOP [Table 2-13; reset 0] -/
  u1Loop : Bool := false
  /-- RYR_STAT.DEPTH [Table 2-13; reset 0] -/
  depth : Nat := 0
  /-- instant the module sent its own LOOP_TRACE, by UPTIME [R86; reset none] -/
  traceAt : Option Nat := none
  /-- a stream accepted again awaits the feature-frame boundary: 0 U0, 1 U1, 2 peer link [R83; reset none] -/
  resync : Option Nat := none
  /-- feature-frame boundary at which an unsynchronised module sets SYNC, once the stream it follows carries COAST = 0 again [R83; reset none] -/
  syncAt : Option Nat := none
  /-- frames marked irregular, newest first [R83, R298; reset none] -/
  irregular : List Nat := []
  /-- the waymark advance of the tree is too short [R78; reset false] -/
  advShort : Bool := false
  /-- the holding-period budget failed at the route head [R87; reset false] -/
  budgetShort : Bool := false
  /-- highest cycle number found in ledger and state records [R67; reset 0] -/
  foundCycle : Nat := 0
  /-- consecutive half-cycle records with no valid voted reference [R66; reset 0] -/
  badRefs : Nat := 0
  /-- consecutive valid half-cycle records whose frequency lies outside 45.0 Hz to 66.0 Hz [R66; reset 0] -/
  outRefs : Nat := 0
  /-- consecutive half-cycle records with a valid voted reference in range [R66; reset 0] -/
  goodRefs : Nat := 0
  /-- a valid vote was made since the half cycle before was judged [R66; reset false] -/
  refSeen : Bool := false
  /-- frequency that the angle source makes, Hz [R65, R66; reset 0, set when the module becomes angle source] -/
  freq : Rat := 0
  /-- angle by which mains leads the grid of the angle source, in ticks, as the last vote found it and the slew has left it [R64, R65; reset 0] -/
  angErr : Rat := 0
  /-- a LEAD_MOVE accepted and not yet executed [R300; reset none] -/
  move : Option MoveReq := none
  /-- a yield under R299 waits for the feature-frame boundary [R299; reset false] -/
  yielding : Bool := false
  /-- cycle from which Hold may return after synchronisation was regained [R40; reset none] -/
  holdFrom : Option Nat := none
  /-- greatest DMAX of the last closed round, 1/8 ns [R290; reset 0] -/
  dMax : Nat := 0
  deriving DecidableEq, Repr

end Sys2Proof.Machine
end

