-- ==== Sys2Proof/Machine/StCtl.lean ====
section
/-! DEFINITION. State of the control engine, the point hold, the processor protection path, the outrider and the pair. -/

namespace Sys2Proof.Machine

/-- One loop slot of the control engine (R252). -/
structure SlotState where
  /-- integrator I [R252; reset DESIGN CHOICE 0 (log 7)] -/
  i : F32 := 0
  /-- D_prev [R252; reset DESIGN CHOICE 0 (log 7)] -/
  dPrev : F32 := 0
  /-- y_prev [R252; reset DESIGN CHOICE 0 (log 7)] -/
  yPrev : F32 := 0
  /-- u_prev [R252; reset DESIGN CHOICE 0 (log 7)] -/
  uPrev : F32 := 0
  /-- UPTIME of the latch of the last completed evaluation, 1/8 ns [R252; reset none] -/
  evalUp : Option Nat := none
  /-- output register u (CTL_OUTs) [Table 19-7; reset 0] -/
  out : F32 := 0
  /-- slot in tracking (CTL_TRACK bit) [R260; reset 0] -/
  tracking : Bool := false
  /-- the slot starts at its next due tick: 0 no, 1 keep u_prev, 2 by START, 3 start value given [R261; reset 2] -/
  start : Nat := 2
  /-- the start value of case 3 [R281, R295, R296; reset 0] -/
  startVal : F32 := 0
  /-- tick since which every input has stayed valid, judged at every latch [R260; reset none] -/
  validFrom : Option Nat := none
  /-- tick and UPTIME since which an input has stayed invalid, judged at every latch [R243, R260; reset none] -/
  badFrom : Option (Nat × Nat) := none
  /-- bank in force before a COMMIT changed it at the due tick of the next latch [R263, R264; reset none] -/
  oldBank : Option (List F32) := none
  /-- the input that failed last: 1 MEAS, 2 SP, 3 FF [EV 114; reset 0] -/
  badInput : Nat := 0
  /-- bank in force, true for B (CTL_BANK_ACT bit) [R262; reset A] -/
  bankB : Bool := false
  /-- e of the last completed evaluation [R271; reset 0] -/
  e : F32 := 0
  /-- P of the last completed evaluation [R271; reset 0] -/
  p : F32 := 0
  /-- D of the last completed evaluation [R271; reset 0] -/
  d : F32 := 0
  /-- v of the last completed evaluation [R271; reset 0] -/
  v : F32 := 0
  /-- I of the last completed evaluation [R271; reset 0] -/
  iEval : F32 := 0
  /-- u of the last completed evaluation [R271; reset 0] -/
  uEval : F32 := 0
  /-- cycle:tick of the last completed evaluation [R271; reset zero] -/
  evalAt : Stamp := Stamp.zero
  /-- late evaluations since the last restart [R271; reset 0] -/
  lateN : Nat := 0
  /-- non-finite evaluations since the last restart [R271; reset 0] -/
  nonfN : Nat := 0
  /-- input losses since the last restart [R271; reset 0] -/
  lostN : Nat := 0
  deriving DecidableEq, Repr

/-- The control engine. -/
structure CtlState where
  /-- slots 0 to 47 [R252; reset R269] -/
  slots : List SlotState := List.replicate 48 {}
  /-- the slots as they stood before their evaluations of the last latch, to which a late evaluation returns [R267; reset R269] -/
  before : List SlotState := List.replicate 48 {}
  /-- slots due at the last latch, 48 bits [R267; reset 0] -/
  lastDue : Nat := 0
  /-- tick of the last latch [R267; reset 0] -/
  lastAt : Nat := 0
  /-- evaluations of the last latch that do not complete, counted at the next one, 48 bits [R59, R267; reset 0] -/
  lateNow : Nat := 0
  /-- CTL_BANK_REQ, 48 bits [Table 9-11; reset 0] -/
  bankReq : Nat := 0
  /-- CTL_LATE, 48 bits [Table 9-13; reset 0] -/
  late : Nat := 0
  /-- CTL_OVR_CNT, saturating at 0xFFFF_FFFF [Table 9-10; reset 0] -/
  ovrCnt : Nat := 0
  /-- CTL_STAT.LATE [Table 9-9; reset 0] -/
  lateBit : Bool := false
  /-- CTL_STAT.NONFINITE [Table 9-9; reset 0] -/
  nonfBit : Bool := false
  /-- CTL_STAT.PARITY [Table 9-9; reset 0] -/
  parityBit : Bool := false
  /-- CTL_STAT.LAT_MAX, 5 ns [Table 9-9; reset 0] -/
  latMax : Nat := 0
  /-- late evaluations of the cycle in progress: cycle, first late tick, count, mask [R267; reset none] -/
  lateRun : Option (Nat × Nat × Nat × Nat) := none
  deriving DecidableEq, Repr

/-- A HEADROOM_SUM as merged or received (Table 10-6). -/
structure SumRec where
  nmod : Nat
  dmax : Nat
  u : Nat
  dn : Nat
  qc : Nat
  deriving DecidableEq, Repr

/-- A FRACTION as accepted (Table 10-7). -/
structure FracRec where
  hpn : Nat
  pos : Nat
  flags : Nat
  vote : Nat
  nmod : Nat
  phi : Int
  psi : Int
  pDem : F32
  qDem : F32
  voted : List F32
  deriving DecidableEq, Repr

/-- A PHASOR_RECORD held for the vote (Table 10-2). -/
structure PhasorRec where
  set : Nat
  flags : Nat
  pos : Nat
  cyc : Nat
  half : Nat
  p : F32
  q : F32
  v : F32
  ang : F32
  f : F32
  deriving DecidableEq, Repr

/-- Conviction of one reference set (R280). -/
structure SetRec where
  outvoted : Nat := 0
  convicted : Bool := false
  rehab : Nat := 0
  deriving DecidableEq, Repr

/-- A HOLD_STATE frame's content kept by a head position's standby (Table 12-13). -/
structure HoldCopy where
  vote : Nat
  convicted : Nat
  pTot : F32
  qTot : F32
  pSet : F32
  qSet : F32
  sums : Nat × Nat × Nat
  outs : List F32
  voted : List F32
  outvotes : List Nat
  rehab : List Nat
  deriving DecidableEq, Repr

/-- Point hold. -/
structure HoldState where
  /-- MODE_STAT.HOLD [Table 1-3; reset off] -/
  mode : HoldMode := .off
  /-- U_n, D_n, QC_n latched for the round in progress, in kW and kvar [R287, R288; reset 0] -/
  head : Two (Rat × Rat × Rat) := { zero := (0, 0, 0), one := (0, 0, 0) }
  /-- a round has begun since the module became active [R289; reset false] -/
  began : Bool := false
  /-- HPN of the round in progress [R289; reset 0] -/
  round : Nat := 0
  /-- sums of the round received on D0 and D1 [R289; reset none] -/
  got : Two (Option SumRec) := { zero := none, one := none }
  /-- D ports that delivered a sum in the previous round [R289; reset none] -/
  prevGot : Two Bool := { zero := false, one := false }
  /-- the module has sent its own sum of the round [R289; reset false] -/
  sent : Bool := false
  /-- that sum went out on a port that was up with its stream accepted [R292; reset false] -/
  delivered : Bool := false
  /-- the round is closed on the lead [R290; reset false] -/
  closed : Bool := false
  /-- the round is closed and its FRACTION waits for the outputs of the boundary's latch [R290, Table 10-8; reset false] -/
  fracDue : Bool := false
  /-- a FRACTION of the round has been accepted and forwarded [R291; reset false] -/
  seen : Bool := false
  /-- P_DEM and Q_DEM of the last FRACTION sent or accepted [R281, R295; reset 0] -/
  lastDem : F32 × F32 := (0, 0)
  /-- the FRACTION accepted for the round [R291; reset none] -/
  frac : Option FracRec := none
  /-- the plan of the next basic cycle is closed; a FRACTION is late [R291, R378; reset false] -/
  planClosed : Bool := false
  /-- string demands P_n in force, kW [R291; reset 0] -/
  p : Two Rat := { zero := 0, one := 0 }
  /-- string demands Q_n in force, kvar [R291; reset 0] -/
  q : Two Rat := { zero := 0, one := 0 }
  /-- UPTIME of the boundary at which a fraction last applied [R293; reset 0] -/
  fracUp : Nat := 0
  /-- HPN_LO of the last fraction applied [EV 103; reset 0] -/
  fracHpn : Nat := 0
  /-- HOLD_STAT.FRAC_VALID [Table 10-12; reset 0] -/
  fracValid : Bool := false
  /-- HOLD_STAT.FRAC_HOLD [Table 10-12; reset 0] -/
  fracHold : Bool := false
  /-- HOLD_STAT.FRAC_RAMP [Table 10-12; reset 0] -/
  fracRamp : Bool := false
  /-- HOLD_PHI [Table 10-13; reset 0] -/
  phi : Int := 0
  /-- HOLD_PSI [Table 10-13; reset 0] -/
  psi : Int := 0
  /-- P_SET in force, binary32 kW [R283; reset par 0x0A:1A] -/
  pSet : F32 := 0
  /-- Q_SET in force, binary32 kvar [R283; reset par 0x0A:1B] -/
  qSet : F32 := 0
  /-- HOLD_SET values that await their boundary: its tick, P_SET, Q_SET [R17, R283; reset none] -/
  sets : List (Nat × F32 × F32) := []
  /-- P_REF of R282 [reset DESIGN CHOICE 0 (log 7)] -/
  pRef : F32 := 0
  /-- Q_REF of R282 [reset DESIGN CHOICE 0 (log 7)] -/
  qRef : F32 := 0
  /-- HOLD_PTOT [Table 19-7; reset 0] -/
  pTot : F32 := 0
  /-- HOLD_QTOT [Table 19-7; reset 0] -/
  qTot : F32 := 0
  /-- HOLD_SUMU, HOLD_SUMD, HOLD_SUMQC, 0.1 kW and 0.1 kvar [Table 19-8; reset 0] -/
  sums : Nat × Nat × Nat := (0, 0, 0)
  /-- U, D and QC of the last HEADROOM_SUM sent [Table 19-8; reset 0] -/
  sentSum : Nat × Nat × Nat := (0, 0, 0)
  /-- the last closed round has given ΣU, ΣD and ΣQC on the lead [R286; reset false] -/
  sumsValid : Bool := false
  /-- voted P, Q, F, V_PU and ANG; none when invalid [R279, R284; reset none] -/
  voted : Option (List F32) := none
  /-- HOLD_STAT.SETS_VALID, 3 bits [Table 10-12; reset 0] -/
  setsValid : Nat := 0
  /-- HOLD_STAT.VOTE_MODE [Table 10-12; reset 0] -/
  voteMode : Nat := 0
  /-- HOLD_STAT.CONTESTED [Table 10-12; reset 0] -/
  contested : Bool := false
  /-- reference sets A, B and C [R280; reset not convicted] -/
  sets3 : List SetRec := [{}, {}, {}]
  /-- records that arrived for the vote in progress [R278; reset none] -/
  recs : List PhasorRec := []
  /-- ANG of the position's own record before, binary32 rad [R276; reset none] -/
  lastAng : Option F32 := none
  /-- HOLD_STAT.SHORTFALL [Table 10-12; reset 0] -/
  shortfall : Bool := false
  /-- HOLD_STAT.NOT_DELIVERED [Table 10-12; reset 0] -/
  notDelivered : Bool := false
  /-- HOLD_STAT.LATE_SUM [Table 10-12; reset 0] -/
  lateSum : Bool := false
  /-- sums discarded in the cycle in progress [EV 104; reset 0] -/
  lateCnt : Nat := 0
  /-- HOLD_STAT.DIVERGE [Table 10-12; reset 0] -/
  diverge : Bool := false
  /-- consecutive rounds of disagreement of a shadow lead [R295; reset 0] -/
  divergeRun : Nat := 0
  /-- HOLD_STAT.NMOD [Table 10-12; reset 0] -/
  nmod : Nat := 0
  /-- greatest DMAX received in the previous round, 1/8 ns [R289; reset 0] -/
  dSub : Nat := 0
  /-- greatest DMAX received in the round in progress, 1/8 ns [R289; reset 0] -/
  dSubNow : Nat := 0
  /-- the last HOLD_STATE of the owner [R296, R344; reset none] -/
  copy : Option HoldCopy := none
  deriving DecidableEq, Repr

/-- One coil as its two switches and nodes stand (R317 to R319). -/
structure CoilState where
  /-- processor request for the high-side switch [R318; reset false] -/
  reqHs : Bool := false
  /-- processor request for the low-side switch [R318; reset false] -/
  reqLs : Bool := false
  /-- node A as last read [Table 11-11; reset L, as COILn_STAT reads 0x00] -/
  a : Node := .low
  /-- node B as last read [Table 11-11; reset L] -/
  b : Node := .low
  /-- energised under R319 [Table 11-11; reset false] -/
  energised : Bool := false
  /-- fault finding standing [Table 11-11; reset false] -/
  fault : Bool := false
  /-- signature of the finding standing, Table 11-4 [R321; reset 0] -/
  sig : Nat := 0
  /-- the finding standing came from a test of the high side [R321; reset false] -/
  sigHs : Bool := false
  /-- a PROT_RESET has come since the finding [R321; reset false] -/
  sigReset : Bool := false
  /-- hold bit of the outrider [R330; reset false] -/
  holdBit : Bool := false
  /-- UPTIME of the last test of the high side and low side [R320; reset 0] -/
  hsUp : Nat := 0
  lsUp : Nat := 0
  /-- tested since the last HOLD_ACK: high side, low side [R323; reset false] -/
  hsDone : Bool := false
  lsDone : Bool := false
  deriving DecidableEq, Repr

/-- A close sequence in progress (Table 11-5): its LONG_ID, its stage (0 proof, 1 K−, 2 precharge, 3 K+), the UPTIME precharge began and
the time it took in ms, and the UPTIME at which the contactor of the stage was energised (R319). -/
structure CloseSeq where
  id : Nat
  stage : Nat
  preUp : Nat
  preMs : Nat := 0
  up : Nat := 0
  deriving DecidableEq, Repr

/-- An orderly open in progress (R322): the LONG_IDs of the commands that asked for it, none when the module opens by itself, and the
UPTIME it began. -/
structure OpenSeq where
  ids : List Nat
  up : Nat
  deriving DecidableEq, Repr

/-- Protection of one string, processor path and outrider latches. -/
structure ProtState where
  /-- PROTn_STAT.OUTR_TRIP [Table 11-9; reset 0] -/
  outrTrip : Bool := false
  /-- PROTn_STAT.PROC_TRIP [Table 11-9; reset 0] -/
  procTrip : Bool := false
  /-- PROTn_STAT.OUTR_CAUSE, 5 bits [Table 11-9; reset 0] -/
  outrCause : Nat := 0
  /-- PROTn_STAT.FLT_LOOP [Table 11-9; reset 0] -/
  fltLoop : Bool := false
  /-- PROTn_STAT.HOLD_EXP [Table 11-9; reset 0] -/
  holdExp : Bool := false
  /-- PROTn_STAT.LIVE, 5 bits [Table 11-9; reset 0] -/
  live : Nat := 0
  /-- PROTn_STAT.LOOP_LIVE [Table 11-9; reset 0] -/
  loopLive : Bool := false
  /-- PROTn_STAT.PROC_CAUSE [Table 11-9; reset 0] -/
  procCause : Nat := 0
  /-- PROTn_STAT.STATE [Table 11-9; reset OPEN] -/
  st : StrState := .opened
  /-- PROTn_STAT.CLOSE_INHIBIT by cause: R316 and R336 proof, R321 coil, R322 weld, R356 adopted [Table 11-9; reset 0] -/
  inhProof : Bool := false
  inhCoil : Bool := false
  inhWeld : Bool := false
  inhAdopted : Bool := false
  /-- PROTn_STAT.PROOF_OK [Table 11-9; reset 0] -/
  proofOk : Bool := false
  /-- a comparator proof passed since HOLD_ACK [R323; reset false] -/
  proofSinceAck : Bool := false
  /-- PROTn_TRIP stamp [Table 19-4; reset 0] -/
  tripStamp : Stamp := Stamp.zero
  /-- coils K+, K− and precharge [R317; reset off] -/
  kPos : CoilState := {}
  kNeg : CoilState := {}
  pre : CoilState := {}
  /-- a contactor did not read back closed, or precharge was not open, at an instant of the tick in progress [R175; reset true] -/
  linkBroken : Bool := true
  /-- COILn_STAT.SIG [Table 11-10; reset 0] -/
  sig : Nat := 0
  /-- COILn_STAT.SIG_COIL [Table 11-10; reset 0] -/
  sigCoil : Nat := 0
  /-- consecutive judgements for which each condition 1 to 10 of Table 11-2 has held [R307; reset 0] -/
  confirm : List Nat := List.replicate 11 0
  /-- consecutive ticks in which each comparator did not trip with its reading beyond the threshold [R336; reset 0] -/
  suspectRun : List Nat := List.replicate 5 0
  /-- UPTIME since which the string is blind [R308; reset none] -/
  blindUp : Option Nat := none
  /-- a TICK_SUM, or a frame of a compatibility ring, has arrived since the module became active [R310; reset false] -/
  seen : Bool := false
  /-- highest and lowest cell voltage the processor path judges, mV [R308, R310; reset 0] -/
  vmax : Rat := 0
  vmin : Rat := 0
  /-- L_min and L_max of code 0x0D, kW [R310; reset 0] -/
  lMin : F32 := 0
  lMax : F32 := 0
  /-- close sequence [R324; reset none] -/
  close : Option CloseSeq := none
  /-- orderly open [R322; reset none] -/
  openSeq : Option OpenSeq := none
  /-- a weld check is due, and reports to these LONG_IDs [R322, R403; reset none] -/
  weldFor : Option (List Nat) := none
  /-- UPTIME at which the coils whose weld check is due were de-energised [R322; reset 0] -/
  weldUp : Nat := 0
  /-- the Hall current has fallen to at most I_OPEN_A since then [R322; reset false] -/
  weldLow : Bool := false
  /-- UPTIME of precharge attempts within the last 600 s [R324; reset none] -/
  attempts : List Nat := []
  /-- UPTIME of the last comparator proof [R316; reset 0] -/
  proofUp : Nat := 0
  /-- outrider latches not yet reported, a mask: bits 0 to 4 the comparators, 5 the loop, 6 HOLD_EXP [R312; reset 0] -/
  report : Nat := 0
  /-- live comparators whose EV 200 has been raised since they went live, a mask [R336; reset 0] -/
  unconf : Nat := 0
  /-- comparators found suspect [R336; reset 0] -/
  suspect : Nat := 0
  /-- UPTIME at which the string was last closed [R316; reset 0] -/
  closedUp : Nat := 0
  deriving DecidableEq, Repr

/-- K+ and K− read back closed and precharge is open (R175, R319). -/
def ProtState.linkClosed (p : ProtState) : Bool :=
  p.kPos.energised && p.kNeg.energised && !p.pre.energised && !(p.pre.a == .high && p.pre.b == .low)

/-- The outrider and the ownership line. -/
structure OutrState where
  /-- OUTR_STAT.OWNER [Table 11-8; reset 0] -/
  owner : Bool := false
  /-- the outrider pulls the line [R340; reset false] -/
  asserting : Bool := false
  /-- reading of the line [Table 12-1; reset free] -/
  line : OwnLine := .free
  /-- the line was read owned by the partner in the arbitration window [R48; reset false] -/
  seenOwned : Bool := false
  /-- OUTR_STAT.HB_GOOD [Table 11-8; reset 0] -/
  hbGood : Bool := false
  /-- OUTR_STAT.HB_FAIL [Table 11-8; reset 0] -/
  hbFail : Bool := false
  /-- OUTR_STAT.HOLD and HOLD_CAUSE: the hold in progress [Table 11-8; reset none] -/
  hold : HoldCause := .none
  /-- OUTR_STAT.BLOCK [Table 11-8; reset 0] -/
  block : Bool := false
  /-- OUTR_STAT.RESTART [Table 11-8; reset 0] -/
  restart : Bool := false
  /-- OUTR_STAT.THR_REJECT [Table 11-8; reset 0] -/
  thrReject : Bool := false
  /-- OUTR_STAT.COIL_SUPPLY_OK [Table 11-8; reset 0] -/
  coilOk : Bool := false
  /-- OUTR_STAT.PARTNER_READY [Table 11-8; reset 0] -/
  partnerReady : Bool := false
  /-- OUTR_STAT.HB_CHAL [Table 11-8; reset 0x01] -/
  chal : Nat := 1
  /-- OUTR_STAT.HB_FAIL_CNT, saturating at 0xFF [Table 11-8; reset 0] -/
  failCnt : Nat := 0
  /-- consecutive accepted answers, up to 3 [R327; reset 0] -/
  goodRun : Nat := 0
  /-- there is an accepted answer to time from [R327; reset false] -/
  timed : Bool := false
  /-- OUTR_THR0 to OUTR_THR9 codes [Table 11-12; reset 0xFFF for OV and charge, 0x000 for UV and discharge] -/
  thr : List Nat := [0xFFF, 0, 0xFFF, 0, 0xFFF, 0xFFF, 0, 0xFFF, 0, 0xFFF]
  /-- the outrider drives its coils in the release overlap [R331; reset false] -/
  overlap : Bool := false
  /-- UPTIME of a release after which the partner has not been read owning [R504; reset none] -/
  released : Option Nat := none
  /-- place of the coil test rotation, 0 to 11 [R320; reset 0] -/
  testRot : Nat := 0
  deriving DecidableEq, Repr

/-- What the partner's last PEER_STATUS said (Table 12-13). -/
structure PeerRec where
  slotB : Bool
  role : Nat
  flags : Nat
  variant : Nat
  version : Nat
  upd : Nat
  findings : Nat
  digest : Nat
  str : Two (Nat × Nat × Nat)
  deriving DecidableEq, Repr

/-- An orderly release (R352): its cause, its boundary, the LONG_IDs of the HANDOVERs it serves, and whether the line has been released and
the takeover is awaited. -/
structure ReleaseReq where
  cause : Nat
  at_ : Nat
  ids : List Nat
  gone : Bool
  deriving DecidableEq, Repr

/-- The pair. -/
structure PairState where
  /-- MODE_STAT.ROLE [Table 1-3; reset standby] -/
  role : Role := .standby
  /-- PAIR_STAT.PARTNER_PRESENT [Table 12-9; reset 0] -/
  present : Bool := false
  /-- PAIR_STAT.PEER_LINK_UP [Table 12-9; reset 0] -/
  linkUp : Bool := false
  /-- the step 7 to 10 work of R49 is complete [R345; reset false] -/
  stepsDone : Bool := false
  /-- PAIR_STAT.PARAM_MATCH [Table 12-9; reset 0] -/
  paramMatch : Bool := false
  /-- PAIR_STAT.IMAGE_MATCH [Table 12-9; reset 0] -/
  imageMatch : Bool := false
  /-- PAIR_STAT.VARIANT_MATCH [Table 12-9; reset 0] -/
  variantMatch : Bool := false
  /-- PAIR_STAT.EJECT [Table 12-9; reset 0] -/
  eject : Bool := false
  /-- PAIR_STAT.EJECT_REFUSED [Table 12-9; reset 0] -/
  ejectRefused : Bool := false
  /-- PAIR_STAT.LINE_FAULT [Table 12-9; reset 0] -/
  lineFault : Bool := false
  /-- PAIR_STAT.TAKEOVER [Table 12-9; reset 0] -/
  takeover : Bool := false
  /-- PAIR_STAT.TAKEOVER_CNT [Table 12-9; reset 0] -/
  takeoverCnt : Nat := 0
  /-- PAIR_GAP.GAP, µs [Table 12-10; reset 0] -/
  gap : Nat := 0
  /-- PAIR_GAP.CAUSE [Table 12-10; reset 0] -/
  gapCause : Nat := 0
  /-- the partner's last PEER_STATUS [R346; reset none] -/
  peer : Option PeerRec := none
  /-- PEER_ERR.DISC [Table 19-5; reset 0] -/
  disc : Nat := 0
  /-- PEER_ERR.DOWN_CNT [Table 19-5; reset 0] -/
  downCnt : Nat := 0
  /-- reason of the last RELEASE frame received [R350; reset none] -/
  reason : Option Nat := none
  /-- an orderly release accepted, until the takeover that ends it [R352; reset none] -/
  req : Option ReleaseReq := none
  /-- UPTIME and stamp of the detection instant t0 of the takeover in progress [R350; reset none] -/
  t0 : Option (Nat × Stamp) := none
  /-- the line was taken back under R504, so the cause is 4 [R504; reset false] -/
  retake : Bool := false
  /-- the outrider asserted under the arbitration of step 6 and is not owner yet [R48, R341; reset false] -/
  arbitrating : Bool := false
  /-- UPTIME since which ISO_OK of an enabled string is 0 [R351, Table 12-5; reset none] -/
  isoLost : Two (Option Nat) := { zero := none, one := none }
  /-- tick since which an enabled ring has character lock at neither end [R351, Table 12-5; reset none] -/
  ringLost : Two (Option Nat) := { zero := none, one := none }
  /-- tick since which neither upstream port has an accepted stream [R351, Table 12-5; reset none] -/
  streamLost : Option Nat := none
  /-- UPTIME since which the digests differ [R349; reset none] -/
  digestUp : Option Nat := none
  /-- CYCLE of the record restored at the takeover [EV 044; reset 0] -/
  recCycle : Nat := 0
  /-- HOP_COMP of the owner: D through U0 and U1, depth, selected port, stream states [R49; reset none] -/
  hop : Option (Nat × Nat × Nat × Nat × Nat) := none
  deriving DecidableEq, Repr

end Sys2Proof.Machine
end

