-- ==== Sys2Proof/Machine/StEst.lean ====
section
/-! DEFINITION. State of the fusion engine, the estimation engine, balancing, the thermal loops and the die sensor. -/

namespace Sys2Proof.Machine

/-- A source of a cross-check (R173, R175). -/
inductive SrcKey where
  | shunt (s : Ix) | hall (s : Ix) | pcs (s : Ix) | vpack (s : Ix) | vlink (s : Ix) | cellSum (s : Ix)
  | cell (s : Ix) (unit idx : Nat) | therm (s : Ix) (unit ch : Nat) | watch (s : Ix) (unit idx : Nat)
  | timp (s : Ix) (unit ch : Nat)
  deriving DecidableEq, Repr

/-- A quantity a cross-check votes on (R180). -/
inductive QtyKey where
  | current (s : Ix) | voltage (s : Ix) | cellV (s : Ix) (unit idx : Nat) | temp (s : Ix) (unit ch : Nat)
  deriving DecidableEq, Repr

/-- What the module holds about one source. -/
structure SrcRec where
  /-- state of Table 6-2 [R173; reset missing] -/
  state : SrcState := .missing
  /-- consecutive evaluations in which it was outvoted [R179; reset 0] -/
  outvoted : Nat := 0
  /-- consecutive clean trial votes while convicted [R181; reset 0] -/
  rehab : Nat := 0
  /-- aligned items in a row while unaligned [R172; reset 0] -/
  aligned : Nat := 0
  /-- it was outvoted in the last vote [R182; reset false] -/
  last : Bool := false
  deriving DecidableEq, Repr

/-- A quantity that stands contested (R180). -/
structure Contest where
  /-- consecutive contested evaluations [R180; reset none] -/
  n : Nat
  /-- the two sources with their readings [R180; reset none] -/
  a : SrcKey
  b : SrcKey
  va : Rat
  vb : Rat
  deriving DecidableEq, Repr

/-- One thermistor channel of a fused frame: its unit and channel, the reading while VALID, the mean of the valid T_IMP of its cells, the voted
value, and whether it is contested (R175, R177, R180), all in °C. -/
structure TempFrame where
  unit : Nat
  ch : Nat
  therm : Option Rat
  timp : Option Rat
  voted : Option Rat
  contested : Bool
  deriving DecidableEq, Repr

/-- One cell's record of a fused frame, as handed to the estimation engine (R189). -/
structure CellFrame where
  unit : Nat
  idx : Nat
  state : SrcState
  /-- VMEAN in volts, after substitution by W where R179 says so -/
  v : F32
  /-- VMEAN as received, in 5 µV units -/
  code : Nat
  /-- accepted impedances in mΩ, by bin -/
  z : List (Option (F32 × F32))
  /-- model outputs and their validity -/
  outs : List (F32 × Bool)
  /-- thermistor reading of the cell, °C, if its channel is VALID -/
  therm : Option F32
  vContested : Bool
  tContested : Bool
  balStopped : Bool
  deriving DecidableEq, Repr

/-- One string's record of a fused frame (R189). -/
structure StrFrame where
  frame : Nat
  irregular : Bool
  cells : List CellFrame
  /-- cycle means of the four channels -/
  means : List F32
  /-- voted current cycle mean; none when missing -/
  cur : Option F32
  curContested : Bool
  /-- voted string voltage; none when missing -/
  volt : Option F32
  /-- cell sum of the string-voltage check, V; none when missing -/
  sum : Option Rat
  /-- thermistor channels of the string's units -/
  temps : List TempFrame
  /-- greatest tick mean of the voted current in absolute value -/
  curPeak : F32
  deriving DecidableEq, Repr

/-- The values published for a tick (R502). -/
structure PubRec where
  /-- published string current; none when missing -/
  cur : Option F32 := none
  /-- protection value; none when there is none -/
  prot : Option F32 := none
  deriving DecidableEq, Repr

/-- The fusion engine. -/
structure FusState where
  /-- sources with a record other than the initial one [R173; reset none] -/
  srcs : KV SrcKey SrcRec := []
  /-- contested quantities [R180; reset none] -/
  contested : KV QtyKey Contest := []
  /-- by how much each string's cell sum departed from the string voltage in the last frame, where beyond the tolerance [R144, R175; reset none] -/
  sumDep : Two (Option Rat) := { zero := none, one := none }
  /-- values published for the current tick [R502; reset none] -/
  pub : Two PubRec := { zero := {}, one := {} }
  /-- current voted for the last holding period, per string [R175, R502; reset none] -/
  voted : Two (Option F32) := { zero := none, one := none }
  /-- voted current of the last tick that had one, per string [Table 7-2; reset 0] -/
  lastCur : Two F32 := { zero := 0, one := 0 }
  /-- the last fused frame of each string [R189; reset none] -/
  frames : Two (Option StrFrame) := { zero := none, one := none }
  /-- a fused frame has been handed over and not taken by the estimation engine [R199; reset false] -/
  handed : Bool := false
  /-- parameter set in force [R185; reset none] -/
  model : Option (List Byte) := none
  /-- verified parameter set that awaits a COMMIT (MODEL_STAGED) [R185; reset none] -/
  modelStaged : Option (List Byte) := none
  /-- a COMMIT has released the staged set for the next frame close [R185; reset false] -/
  modelDue : Bool := false
  /-- string cell, counted over both strings, at which the next model stage starts [R191; reset 0] -/
  rotation : Nat := 0
  /-- outputs of the previous frame by string times 448 plus cell minus 1 [R185 CODE 0x0D; reset none] -/
  outputs : KV Nat (List (F32 × Bool)) := []
  /-- VMEAN in volts of each cell's previous VALID frame [R185 CODE 0x02; reset none] -/
  prevV : KV Nat F32 := []
  /-- consecutive frames above ANOMALY_LIMIT, negative for frames below, and whether EV 135 stands [R188; reset none] -/
  anomaly : KV Nat (Int × Bool) := []
  /-- cells shown over range, saturated or otherwise reported and not yet cleared, by event and key [R148; reset none] -/
  shown : List (Nat × Nat) := []
  /-- FUS_STAT.OVERRUN [Table 6-10; reset 0] -/
  overrun : Bool := false
  /-- FUS_STAT.LAST_FRAME [Table 6-10; reset 0] -/
  lastFrame : Nat := 0
  /-- cycle at which this module began to run fusion [R171; reset none] -/
  startCycle : Option Nat := none
  deriving DecidableEq, Repr

/-- State of a cell filter (Table 7-1). -/
structure CellX where
  s : F32
  v1 : F32
  v2 : F32
  h : F32
  t : F32
  deriving DecidableEq, Repr

/-- The frame-end state X_c of a cell with the factors that carry a correction forward (R199). -/
structure CellSnap where
  frame : Nat
  x : CellX
  cov : List (List F32)
  yMean : F32
  f1 : F32
  f2 : F32
  fh : F32
  ft : F32
  deriving DecidableEq, Repr

/-- One cell's estimate. -/
structure CellEst where
  /-- serial of the unit and cell within it, the physical channel [R503; reset none] -/
  chan : Nat × Nat
  /-- filter state S, V1, V2, h, T [Table 7-1; reset at initialisation R216] -/
  x : CellX
  /-- 5 by 5 covariance [R193; reset at initialisation R216] -/
  cov : List (List F32)
  /-- capacity ratio κ [R193; reset 1] -/
  kappa : F32
  /-- reported state of charge S_r [R204; reset at initialisation] -/
  sr : F32
  /-- CFLAGS seeded [R503; reset false] -/
  seeded : Bool := false
  /-- propagated on the model in the last frame [Table 7-9; reset false] -/
  onModel : Bool := false
  /-- model output 6 of the last frame in which it was valid [R194; reset none] -/
  ro : Option F32 := none
  /-- sum and count of the predicted voltage y over the ticks of the frame in progress [R199; reset 0] -/
  ySum : F32 := 0
  yN : Nat := 0
  /-- frame-end states that wait for their frame update, newest first [R199; reset none] -/
  snaps : List CellSnap := []
  /-- last VALID reading in volts [R197; reset 0] -/
  vLast : F32 := 0
  /-- VALID readings of the last 600 s: UPTIME and code, newest first [R208; reset none] -/
  vHist : List (Nat × Nat) := []
  /-- UPTIME from which condition 2 of R208 counts for the cell [R234; reset 0] -/
  dvFrom : Nat := 0
  /-- balancing charge by cycle, newest first, coulombs [R197; reset none] -/
  qb : List (Nat × F32) := []
  /-- balancing charge since the anchor, coulombs [R212; reset 0] -/
  qbLearn : F32 := 0
  /-- S_ref at the anchor [R209; reset none] -/
  sRef : Option F32 := none
  /-- frames of the learning cycle in which the cell was not VALID [R211; reset 0] -/
  missed : Nat := 0
  deriving DecidableEq, Repr

/-- The predicted mean voltage of a frame, as handed to fusion (R200). -/
def CellEst.predicted (e : CellEst) (frame : Nat) : Option F32 := (e.snaps.find? fun k => k.frame == frame).map (·.yMean)

/-- A capacity C with the capacity ratio κ of each cell, and the tick from which or up to which they act (R213). -/
structure CapSet where
  at_ : Nat
  c : F32
  kappas : List F32
  deriving DecidableEq, Repr

/-- An open learning cycle (R210). -/
structure LearnState where
  anchor : Nat
  anchorUp : Nat
  /-- charge since the anchor in coulombs -/
  q : Rat
  disq : Bool
  deriving DecidableEq, Repr

/-- One string's estimate. -/
structure StrEst where
  /-- cell filters in string cell order [R193; reset none] -/
  cells : List CellEst := []
  /-- the string has been initialised [R216; reset false] -/
  init : Bool := false
  /-- string capacity C, Ah [R193; reset 0] -/
  c : F32 := 0
  /-- string resistance R_str, mΩ [R193; reset 0] -/
  r : F32 := 0
  /-- variance of R_str [R193; reset 0] -/
  varR : F32 := 0
  /-- internal S_str [R202; reset 0] -/
  sI : F32 := 0
  /-- Q_dis + Q_chg of R202 is 0 [R202; reset true] -/
  spanZero : Bool := true
  /-- reported S_str [R204; reset 0] -/
  sR : F32 := 0
  /-- published u_s, % [R205, R215; reset 0] -/
  u : F32 := 0
  /-- accepted learning result that awaits the next tick boundary [R213; reset none] -/
  learned : Option CapSet := none
  /-- C and κ before the last learning result, for the ticks before the boundary `at_` [R213; reset none] -/
  prior : Option CapSet := none
  /-- running sum of ΔQ, coulombs [R203; reset 0] -/
  qSum : Rat := 0
  /-- highest charge count s since the string last stopped discharging, % [R203; reset 0] -/
  sHi : Rat := 0
  /-- lowest s since it began discharging, % [R203; reset 0] -/
  sLo : Rat := 0
  /-- the string counts as discharging [R203; reset false] -/
  discharging : Bool := false
  /-- UPTIME since which s has stayed above s_lo + 0.20 [R203; reset none] -/
  aboveAt : Option Nat := none
  /-- the string is seeded [R217; reset false] -/
  seeded : Bool := false
  /-- UPTIME at which it was seeded or restored without a reference [R215; reset 0] -/
  seedUp : Int := 0
  /-- charge that entered the string by cycle, newest first, coulombs [R212; reset none] -/
  qCyc : List (Nat × Rat) := []
  /-- interruption ticks of the last frames, newest first, as cycle times 128 plus tick [R208; reset none] -/
  intTicks : List Nat := []
  /-- LAST_REF_CYCLE [R209; reset 0] -/
  lastRef : Nat := 0
  /-- UPTIME of the last reference; negative for one before this boot [R215; reset none] -/
  refUp : Option Int := none
  /-- charge moved since the last qualified rest, coulombs; none before one [R185 CODE 0x0C; reset none] -/
  qRest : Option Rat := none
  /-- reference starved [R215; reset false] -/
  starved : Bool := false
  /-- u_48 [R215; reset 0] -/
  u48 : F32 := 0
  /-- UPTIME at which the rest in progress began [R207; reset none] -/
  restUp : Option Nat := none
  /-- the rest in progress has given its reference [R208; reset false] -/
  restTaken : Bool := false
  /-- a tick of the rest in progress was an interruption [R208; reset false] -/
  restBroken : Bool := false
  /-- learning cycle [R210; reset none] -/
  learn : Option LearnState := none
  /-- ticks in a row on the warning side and the safe side for EV 162, and whether it stands [R206; reset 0] -/
  eoc : Nat × Nat × Bool := (0, 0, false)
  /-- likewise for EV 163 [R206; reset 0] -/
  eod : Nat × Nat × Bool := (0, 0, false)
  /-- cells initialised by a channel change await seeding alone [R503; reset false] -/
  reseed : Bool := false
  deriving DecidableEq, Repr

/-- The charge of one tick for one string, classified by Table 7-2. -/
structure TickChg where
  dq : Rat
  eq : Rat
  interrupted : Bool
  deriving DecidableEq, Repr

/-- One tick that awaits propagation (R198): its number, its length, the module's time at its end, the increment of each string's Q_T in coulombs,
and each string's charge by Table 7-2. -/
structure PendTick where
  at_ : Nat
  len : Nat
  up : Nat
  q : Two Rat
  chg : Two TickChg
  deriving DecidableEq, Repr

/-- The estimation engine. -/
structure EstState where
  /-- strings 0 and 1 [R193; reset none] -/
  str : Two StrEst := { zero := {}, one := {} }
  /-- EST_STAT.RESTORED [Table 7-11; reset 0] -/
  restored : Bool := false
  /-- EST_STAT.EXPORT_FAULT [Table 7-11; reset 0] -/
  dumpFault : Bool := false
  /-- EST_STAT.GAP [Table 7-11; reset 0] -/
  gap : Bool := false
  /-- EST_STAT.EXPORT_SEQ source: SEQ of the last record captured in this boot [Table 7-11; reset 0] -/
  lastSeq : Nat := 0
  /-- highest SEQ written or restored, kept in MRAM [R218; reset DESIGN CHOICE 0 (log 5)] -/
  maxSeq : Nat := 0
  /-- ticks that await propagation, oldest first [R196, R198; reset none] -/
  pend : List PendTick := []
  /-- estimation has begun: a further restore is refused [R50; reset false] -/
  began : Bool := false
  /-- a host declared that it holds no record [R47; reset false] -/
  declaredNone : Bool := false
  /-- MODE_STAT.SEED [Table 1-3; reset 0] -/
  seed : Bool := false
  /-- cycle of the last capture [R218; reset none] -/
  captured : Option Nat := none
  /-- UPTIME of the last capture [R218; reset 0] -/
  capturedUp : Nat := 0
  /-- destinations (0 Host A, 1 Host B, 2 peer) whose last record write is not complete [R218; reset none] -/
  writing : List Nat := []
  /-- consecutive abandonments by destination [R218; reset 0] -/
  abandoned : List Nat := [0, 0, 0]
  /-- estimation registers of a standby: SOC, C, u_s and R_str of each string from the newest record [R497; reset 0] -/
  mirror : Two (Nat × Nat × F32 × F32 × F32) := { zero := (0, 0, 0, 0, 0), one := (0, 0, 0, 0, 0) }
  /-- state-record buffers written from STATE_REC frames [R344, R348; reset empty] -/
  peerBuf : Two Mem := { zero := [], one := [] }
  /-- UPTIME at which each peer buffer became valid [R345; reset none] -/
  peerBufUp : Two (Option Nat) := { zero := none, one := none }
  /-- buffer of the next record for each destination [R218, R220; reset 0] -/
  nextBuf : List Nat := [0, 0, 0]
  /-- UPTIME of the last balancing review [R231; reset none] -/
  reviewUp : Option Nat := none
  /-- the new active has not made its first review [R240; reset false] -/
  reviewDue : Bool := false
  deriving DecidableEq, Repr

/-- One node on CAN1 (R388). -/
structure NodeState where
  /-- UPTIME of the last TH_STAT [R244; reset none] -/
  seenUp : Option Nat := none
  /-- counts as lost [R244; reset false] -/
  lost : Bool := false
  /-- STATE byte of the last TH_STAT [Table 13-9; reset 0] -/
  state : Nat := 0
  /-- VALUE_0 to VALUE_2 of the last TH_STAT [Table 13-9; reset none] -/
  values : Option (F32 × F32 × F32) := none
  /-- VALUE_1 by frame of arrival, newest first, at most 8 [R172; reset none] -/
  inlet : List (Nat × F32) := []
  /-- VALUE of the last TH_CMD heard while standby [R245, R389; reset none] -/
  heard : Option F32 := none
  /-- SEQ of the next TH_CMD [R388; reset 0] -/
  seq : Nat := 0
  deriving DecidableEq, Repr

/-- Thermal management of the strings and the die. -/
structure ThermState where
  /-- T_hot of each string [R242; reset none] -/
  hot : Two (Option F32) := { zero := none, one := none }
  /-- T_cold of each string [R242; reset none] -/
  cold : Two (Option F32) := { zero := none, one := none }
  /-- d_up of each string [R246; reset DESIGN CHOICE 1 (log 6)] -/
  up : Two F32 := { zero := F32.one, one := F32.one }
  /-- d_dn of each string [R246; reset DESIGN CHOICE 1 (log 6)] -/
  dn : Two F32 := { zero := F32.one, one := F32.one }
  /-- EV 178 stands for the string [R246; reset false] -/
  derated : Two Bool := { zero := false, one := false }
  /-- nodes 0 to 15 [R388; reset none heard] -/
  nodes : List NodeState := List.replicate 16 {}
  /-- the last 16 die readings, newest first, 0.125 °C [R247; reset none] -/
  readings : List Int := []
  /-- TEMP_STAT.DIE_T, 0.125 °C [Table 8-7; reset 0] -/
  td : Int := 0
  /-- TEMP_STAT.BAND [Table 8-7; reset NORMAL] -/
  band : Band := .normal
  /-- TEMP_STAT.BAND_IN_FORCE [Table 8-7; reset HOT] -/
  bandInForce : Band := .hot
  /-- a band judgement has been made [Table 8-7; reset false] -/
  judged : Bool := false
  /-- TEMP_STAT.BROKEN [Table 8-7; reset 0] -/
  broken : Bool := false
  /-- partner's T_d and the UPTIME of its arrival [R249; reset none] -/
  partner : Option (Int × Nat) := none
  /-- TEMP_HOST.SLOT_T, 12 bits [Table 8-8; reset 0] -/
  slotT : Nat := 0
  /-- UPTIME of the last write of TEMP_HOST [R249; reset none] -/
  hostUp : Option Nat := none
  /-- TEMP_STAT.BAND_CHG [Table 8-7; reset 0] -/
  bandChg : Bool := false
  /-- DRAM refresh interval in force, ns [Table 8-6; reset 1952, the HOT setting] -/
  dramNs : Nat := 1952
  /-- UPTIME from which a longer refresh interval may act [Table 8-6; reset none] -/
  dramAt : Option Nat := none
  /-- caravan receive sampling in force, as the band it belongs to [Table 8-6; reset HOT] -/
  rxBand : Band := .hot
  /-- chopper of the front ends and grid channels, kHz [Table 8-6; reset 50, the HOT setting] -/
  chopKhz : Nat := 50
  /-- UPTIME since which the diode agrees with a reference again [R249; reset none] -/
  agreeUp : Option Nat := none
  deriving DecidableEq, Repr

end Sys2Proof.Machine
end

