-- ==== Sys2Proof/Machine/StHost.lean ====
section
/-! DEFINITION. State of the CAN buses, the host ports, the event system, the ledger, the parameter dictionary and the
update function; and what the block puts out. -/

namespace Sys2Proof.Machine

/-- What a CAN message is for (R376). -/
inductive MsgKind where
  | trip | setpoint | thCmd | host
  deriving DecidableEq, Repr
/-- Priority class of an ordinary message (R376). -/
def MsgKind.rank : MsgKind → Nat
  | .trip => 0
  | .setpoint => 1
  | .thCmd => 1
  | .host => 2

/-- A CAN message queued or in transmission (R376, R390). -/
structure CanMsg where
  kind : MsgKind
  /-- window whose message it is, none for an ordinary host message -/
  window : Option Nat
  /-- string, node or buffer -/
  index : Nat
  id : Nat
  format : Nat
  data : List Byte
  handle : Nat
  attempts : Nat
  ackOnly : Bool
  cancelled : Bool
  /-- the cancellation that waits for the end of the frame -/
  waiter : Option Hdr
  /-- a frame of another node was received since it was queued (R383) -/
  heard : Bool := false
  deriving DecidableEq, Repr

/-- What the module knows of one PCS (R387). -/
structure PcsState where
  /-- fields of the last STATUS: P_DIS, P_CHG, Q_MAX, S_MAX [Table 13-8; reset none] -/
  status : Option (F32 × F32 × F32 × F32) := none
  /-- READY of the last STATUS [R387; reset false] -/
  ready : Bool := false
  /-- consecutive basic cycles in which no valid STATUS has arrived [R387; reset 0] -/
  since : Nat := 0
  /-- a valid STATUS has arrived in the basic cycle in progress [R387; reset false] -/
  got : Bool := false
  /-- the status counts as lost [R387; reset true until a STATUS arrives, DEDUCED (log 8)] -/
  lost : Bool := true
  /-- reports of DC current by echoed HPN_LO, converted to the sign of R26, newest first, with the tick of arrival [R172; reset none] -/
  reports : List (Nat × F32 × Nat) := []
  /-- last setpoint P_SP and Q_SP heard while standby [R389; reset none] -/
  heard : Option (F32 × F32) := none
  /-- SEQ of the next SETPOINT [Table 13-7; reset 0] -/
  seq : Nat := 0
  /-- its window was missed in the basic cycle in progress [R377; reset false] -/
  missed : Bool := false
  /-- a trip of R307 has latched and its SETPOINT has not started [R377; reset false] -/
  tripDue : Bool := false
  deriving DecidableEq, Repr

/-- One CAN bus. -/
structure CanBus where
  /-- CANn_STAT.STATE [Table 13-11; reset listen-only] -/
  st : CanState := .listenOnly
  /-- CANn_STAT.DETECTING [Table 13-11; reset 0] -/
  detecting : Bool := false
  /-- CANn_STAT.RATE [Table 13-11; reset 0] -/
  rate : Nat := 0
  /-- CANn_STAT.RATE_ASSUMED [Table 13-11; reset 0] -/
  assumed : Bool := false
  /-- CANn_STAT.FC_STATE [Table 13-11; reset error active] -/
  fc : FcState := .errorActive
  /-- CANn_STAT.WARNING [Table 13-11; reset 0] -/
  warning : Bool := false
  /-- CANn_STAT.ALONE [Table 13-11; reset 0] -/
  alone : Bool := false
  /-- CANn_STAT.SCHED_FAULT [Table 13-11; reset 0] -/
  schedFault : Bool := false
  /-- CANn_STAT.WIN_MISSED [Table 13-11; reset 0] -/
  winMissed : Bool := false
  /-- CANn_STAT.YIELDED [Table 13-11; reset 0] -/
  yielded : Bool := false
  /-- CANn_STAT.WIN_SHORT [Table 13-11; reset 0] -/
  winShort : Bool := false
  /-- CANn_STAT.BASIC_CYCLE [Table 13-11; reset 0] -/
  basic : Nat := 0
  /-- HPN of the basic cycle in progress [R369; reset 0] -/
  hpn : Nat := 0
  /-- CANn_STAT.SLOT [Table 13-11; reset 0] -/
  slot : Nat := 0
  /-- CANn_ERR.TEC [Table 13-12; reset 0] -/
  tec : Nat := 0
  /-- CANn_ERR.REC [Table 13-12; reset 0] -/
  recv : Nat := 0
  /-- CANn_ERR.COLL_CNT [Table 13-12; reset 0] -/
  collCnt : Nat := 0
  /-- CANn_ERR.BUSOFF_CNT [Table 13-12; reset 0] -/
  busoffCnt : Nat := 0
  /-- CANn_CNT.RX, modulo 65,536 [Table 19-5; reset 0] -/
  rx : Nat := 0
  /-- CANn_CNT.WIN_MISS [Table 19-5; reset 0] -/
  winMiss : Nat := 0
  /-- candidate under trial in detection, 1 to 8 [R366; reset 1] -/
  cand : Nat := 1
  /-- candidate last confirmed on the bus, kept in the settings area [R366; reset DESIGN CHOICE 1 (log 9)] -/
  lastCand : Nat := 1
  /-- consecutive frames free of error under the candidate and whether one had BRS [R366; reset 0] -/
  okRun : Nat := 0
  okBrs : Bool := false
  /-- candidates tried without confirmation in the sweep [R367; reset 0] -/
  tried : Nat := 0
  /-- UPTIME of the bus-off entries of the last 10 s [R382; reset none] -/
  offUp : List Nat := []
  /-- cycles of the collisions of the last 64 cycles [R384; reset none] -/
  collAt : List Nat := []
  /-- cycle at which EV 229 was last raised [R384; reset none] -/
  collEv : Option Nat := none
  /-- messages queued as ordinary, in order of priority [R376; reset none] -/
  queue : List CanMsg := []
  /-- the frame in transmission [R380; reset none] -/
  tx : Option CanMsg := none
  /-- payloads of the host buffers 0 to 7 [R374, R390; reset none] -/
  hostBuf : List (Option CanMsg) := List.replicate 8 none
  /-- results of frames whose handle may still be asked about [R380; reset none] -/
  done : KV Nat Bool := []
  /-- UPTIME at which the candidate's dwell began, or the wait of a bus of fixed rate after its third bus-off [R366, R382; reset 0] -/
  candUp : Nat := 0
  /-- UPTIME of the last frame or receive error, or of the start of detection [R367; reset 0] -/
  quietUp : Nat := 0
  /-- a frame or a receive error has come in the sweep [R367; reset false] -/
  sweepHeard : Bool := false
  deriving DecidableEq, Repr

/-- Both buses and the PCS of both strings. -/
structure CanBlock where
  /-- CAN0 and CAN1 [R363; reset Table 13-11] -/
  bus : Two CanBus := { zero := {}, one := {} }
  /-- PCS of string 0 and 1 [R387; reset none heard] -/
  pcs : Two PcsState := { zero := {}, one := {} }
  deriving DecidableEq, Repr

/-- One mailbox ring of a port (Table 14-6). -/
structure MbxRing where
  /-- MBX_DBn.PROD [Table 14-6; reset 0] -/
  prod : Nat := 0
  /-- MBX_STATn.DONE [Table 14-6; reset 0] -/
  done : Nat := 0
  /-- MBX_STATn.DB_ERR [Table 14-6; reset 0] -/
  dbErr : Bool := false
  /-- MBX_STATn.TO_CNT [Table 14-6; reset 0] -/
  toCnt : Nat := 0
  /-- entries handed over and not answered, oldest first [R399; reset none] -/
  waiting : List MbxEntry := []
  deriving DecidableEq, Repr

/-- A response as written into its entry (Table 14-3). -/
structure Response where
  ring : Nat
  entry : Nat
  opcode : Nat
  tag : Nat
  status : Status
  detail : Nat
  longId : Nat
  holder : Option (Nat × Nat × Nat)
  tAccept : Stamp
  tDone : Stamp
  payload : List Byte
  deriving DecidableEq, Repr

/-- A buffer being filled (R405). -/
structure StreamBuf where
  desc : Desc
  body : List Byte
  first : Stamp
  lost : Nat
  deriving DecidableEq, Repr

/-- One stream of a port (R404, Table 14-12). -/
structure StreamState14 where
  /-- STRM_STATm.OPEN [Table 14-12; reset 0] -/
  isOpen : Bool := false
  /-- STRM_STATm.STOPPED [Table 14-12; reset 0] -/
  stopped : Bool := false
  /-- STRM_STATm.STARVED [Table 14-12; reset 0] -/
  starved : Bool := false
  /-- records dropped since STREAM_OPEN; STRM_STATm.LOST shows them saturating at 0xFFFF [Table 14-12; reset 0] -/
  lost : Nat := 0
  /-- records dropped since the previous buffer [R405; reset 0] -/
  lostNow : Nat := 0
  /-- STRM_STATm.HEAD [Table 14-12; reset 0] -/
  head : Nat := 0
  /-- STRM_TAILm.TAIL [Table 14-12; reset 0] -/
  tail : Nat := 0
  /-- descriptor ring address and entries of STREAM_OPEN [R404; reset 0] -/
  addr : Nat := 0
  entries : Nat := 0
  /-- the two descriptors of STATE_RECORD [R406; reset none] -/
  fixed : List Desc := []
  /-- SEQ of the next buffer [R405; reset DESIGN CHOICE 0 (log 10)] -/
  seq : Nat := 0
  /-- a descriptor fetch is outstanding, with the retries made [R407; reset none] -/
  fetch : Option Nat := none
  /-- records that wait for a buffer, oldest first, with their stamps [R408; reset none] -/
  waiting : List (Stamp × List Byte) := []
  /-- buffer being filled [R405; reset none] -/
  buf : Option StreamBuf := none
  /-- UPTIME since which the stream has had data to write and no descriptor [R408; reset none] -/
  needUp : Option Nat := none
  /-- closed buffers whose writes are in progress, oldest first: address, bytes, whether to raise the vector [R405; reset none] -/
  writing : List (Nat × List Byte × Bool) := []
  deriving DecidableEq, Repr

/-- A capture in progress on a port (R409). -/
structure CaptureRun where
  id : Nat
  req : CaptureReq
  /-- tick at which the capture was armed -/
  armed : Nat
  /-- the tick of the trigger -/
  triggered : Option Nat
  /-- every sample has been handed to the stream -/
  full : Bool
  /-- buffers closed and written -/
  buffers : Nat
  /-- records the stream had lost before the capture -/
  lost0 : Nat
  deriving DecidableEq, Repr

/-- A ledger dump in progress on a port (R426). -/
structure DumpRun where
  id : Nat
  /-- SEQs of the range, present at acceptance, that are not yet written, ascending -/
  left : List Nat
  /-- how many there were at acceptance -/
  total : Nat
  /-- records overwritten or found invalid before they were written -/
  lost : Nat
  /-- records the stream had lost before the dump -/
  lost0 : Nat
  deriving DecidableEq, Repr

/-- One entry of a port's MSI-X table (R393). -/
structure MsixEntry where
  addr : Nat := 0
  data : Nat := 0
  /-- vector control bit 0, masked [PCI Express; reset masked, PRESUMED (log 11)] -/
  masked : Bool := true
  pend : Bool := false
  deriving DecidableEq, Repr

/-- One host port. -/
structure PortState where
  /-- HOST_STAT.LINK [Table 14-2; reset 0] -/
  up : Bool := false
  /-- HOST_STAT.SPEED [Table 14-2; reset 0] -/
  speed : Nat := 0
  /-- HOST_STAT.WIDTH [Table 14-2; reset 0] -/
  wide : Bool := false
  /-- HOST_STAT.CPL_TO [Table 14-2; reset 0] -/
  cplTo : Bool := false
  /-- HOST_STAT.DESC_TO [Table 14-2; reset 0] -/
  descTo : Bool := false
  /-- HOST_STAT.OTHER_LOST [Table 14-2; reset 0] -/
  otherLost : Bool := false
  /-- HOST_STAT.DOWN_CNT [Table 14-2; reset 0] -/
  downCnt : Nat := 0
  /-- SCRATCH [Table 19-3; reset 0] -/
  scratch : Nat := 0
  /-- mailbox rings 0 to 7 [R398; reset Table 14-6] -/
  rings : List MbxRing := List.replicate 8 {}
  /-- responses the module has written into the port's BAR2, newest first [R398; reset none] -/
  responses : List Response := []
  /-- streams 0 to 4 [R404; reset Table 14-12] -/
  streams : List StreamState14 := List.replicate 5 {}
  /-- MSI-X table [R393; reset masked] -/
  msix : List MsixEntry := List.replicate 32 {}
  /-- EV_PENDg, 8 words [Table 15-8; reset 0] -/
  pend : List Nat := List.replicate 8 0
  /-- EV_MASKg, 8 words [Table 15-8; reset 0xFFFF_FFFF] -/
  mask : List Nat := List.replicate 8 0xFFFFFFFF
  /-- upper halves latched by LO reads, by LO offset [R491; reset none] -/
  latch : KV Nat Nat := []
  /-- capture in progress [R409; reset none] -/
  capture : Option CaptureRun := none
  /-- ledger dump in progress [R426; reset none] -/
  dump : Option DumpRun := none
  /-- cycle in which the CAN_RX buffer in progress took its first record [R404; reset none] -/
  rxCycle : Option Nat := none
  deriving DecidableEq, Repr

/-- A long command (R401, R402). -/
structure LongRec where
  id : Nat
  port : Ix
  ring : Nat
  tag : Nat
  opcode : Nat
  status : Status
  detail : Nat
  resp : List Byte
  ended : Bool
  doneAt : Stamp
  doneUp : Nat
  reported : Bool
  deriving DecidableEq, Repr

/-- Host ports, long commands. -/
structure HostBlock where
  /-- Host A and Host B [R393; reset down] -/
  port : Two PortState := { zero := {}, one := {} }
  /-- long commands running and results kept, oldest first [R402; reset none] -/
  longs : List LongRec := []
  /-- CARAVAN_REENUM commands running: LONG_ID and ring mask [R101; reset none] -/
  reenums : List (Nat × Nat) := []
  deriving DecidableEq, Repr

/-- One occurrence of an event (R413). -/
structure Occ where
  evt : Nat
  at_ : Stamp
  sync : Bool
  active : Bool
  slotB : Bool
  deferred : Bool
  data : List Byte
  deriving DecidableEq, Repr

/-- A ledger record as written (Table 15-4). -/
structure LedRec where
  seq : Nat
  occ : Occ
  more : Bool
  part : Nat
  data : List Byte
  valid : Bool
  deriving DecidableEq, Repr

/-- The modes whose changes are recorded (R32). -/
inductive ModeKind where
  | role | seed | hold | clock
  deriving DecidableEq, Repr

/-- The record of one change of mode (R32). -/
structure ModeRec where
  at_ : Stamp
  mode : ModeKind
  /-- the new value, in the encoding of Table 1-3; 2 for clockless hold -/
  value : Nat
  deriving DecidableEq, Repr

/-- A freeze in force (R427). -/
structure FreezeRec where
  port : Ix
  ring : Nat
  tag : Nat
  start : Stamp
  up : Nat
  ms : Nat
  counts : List Nat
  deriving DecidableEq, Repr

/-- Events and the ledger. -/
structure EvState where
  /-- newest occurrence of each event since the last restart, by number [R415; reset none] -/
  last : KV Nat Occ := []
  /-- occurrences that wait to be written, oldest first, at most 1,024 [R423; reset none] -/
  queue : List Occ := []
  /-- records of the queue's head already written, for an occurrence of more than one record [R421; reset 0] -/
  part : Nat := 0
  /-- occurrences raised before the scan of this boot [R424; reset none] -/
  early : List Occ := []
  /-- occurrences dropped since the queue last drained [R423; reset 0] -/
  dropped : Nat := 0
  /-- SEQ of the first record after the drop [R423; reset none] -/
  afterDrop : Option Nat := none
  /-- cycle or UPTIME at which a repeated event was last raised, by event and key [R46; reset none] -/
  rate : KV (Nat × Nat) Nat := []
  /-- ledger records by slot, kept in MRAM [R420; reset DESIGN CHOICE none (log 5)] -/
  slots : KV Nat LedRec := []
  /-- LEDG_NEXT [Table 15-11; reset 0] -/
  next : Nat := 0
  /-- LEDG_FLOOR as in force [Table 15-11; reset 0] -/
  floor : Nat := 0
  /-- floor and its complement as stored in MRAM [R428; reset DESIGN CHOICE 0 and its complement (log 5)] -/
  floorMram : Nat × Nat := (0, 2 ^ 64 - 1)
  /-- LEDG_STAT.READY [Table 15-10; reset 0] -/
  ready : Bool := false
  /-- freeze in force [R427; reset none] -/
  freeze : Option FreezeRec := none
  /-- UPTIME of the end of the last freeze [R427; reset none] -/
  freezeEnd : Option Nat := none
  /-- holder of the last freeze, for LEDG_STAT [Table 15-10; reset 0] -/
  holder : Ix × Nat := (.zero, 0)
  /-- a clear that waits for the end of the freeze: UPTO, port, ring, TAG [R428; reset none] -/
  clear : Option (Nat × Nat × Nat × Nat) := none
  /-- LEDG_STAT.OVERFLOW [Table 15-10; reset 0] -/
  overflow : Bool := false
  /-- LEDG_STAT.FAULT [Table 15-10; reset 0] -/
  fault : Bool := false
  /-- LEDG_STAT.FLOOR_RESET [Table 15-10; reset 0] -/
  floorReset : Bool := false
  /-- LEDG_STAT.FRZ_CNT [Table 15-10; reset 0] -/
  frzCnt : Nat := 0
  /-- long commands that the restart cut off, to be recorded as EV 254 [R402; reset none] -/
  aborted : List (Nat × Nat × Nat × Nat × Nat) := []
  /-- changes of Role, Seed, Hold and Clock recorded, oldest first, kept in MRAM with the ledger [R32; reset DESIGN CHOICE none (log 129)] -/
  modes : List ModeRec := []
  deriving DecidableEq, Repr

/-- A parameter dictionary: values that differ from their defaults, by group times 256 plus index. -/
abbrev Dict := KV Nat Nat

/-- The boundary at which a committed change acts (R433). -/
inductive Bound where
  | tick | cycle | frameClose | frameUpdate | holding | enumeration | unit | protection0 | protection1 | basic0 | basic | session | slot (n : Nat)
  deriving DecidableEq, Repr

/-- A settings bank as persisted (Table 16-6). -/
structure Bank where
  seq : Nat
  cycle : Nat
  dict : Dict
  model : Option (List Byte)
  valid : Bool
  deriving DecidableEq, Repr

/-- The parameter dictionary. -/
structure ParState where
  /-- values last committed [R432, R436; reset defaults] -/
  committed : Dict := []
  /-- class 1 values' complements, for those that differ from the default [R440; reset defaults] -/
  comp : Dict := []
  /-- values that the blocks act on [R432, R437; reset defaults] -/
  acting : Dict := []
  /-- committed changes that await their boundary [R433, R437; reset none] -/
  pending : List (Bound × Nat × Nat) := []
  /-- tick of the protection boundary of each string, once scheduled [R442; reset none] -/
  protAt : Two (Option Nat) := { zero := none, one := none }
  /-- values of group 0x0B that still hold for a string whose protection boundary has moved [R442; reset none] -/
  overlay : Two Dict := { zero := [], one := [] }
  /-- inward threshold writes of a string are due in the tick in progress [R442; reset false] -/
  inward : Two Bool := { zero := false, one := false }
  /-- staging copy [R434; reset none] -/
  staged : Dict := []
  /-- holder of the staging session: port, ring, TAG and UPTIME of its last use [R434; reset none] -/
  holder : Option (Ix × Nat × Nat × Nat) := none
  /-- COMMIT_SEQ in force [R436; reset 0] -/
  seq : Nat := 0
  /-- COMMIT_CYCLE [Table 16-8; reset 0] -/
  cycle : Nat := 0
  /-- PERSISTED_SEQ [Table 16-8; reset 0] -/
  persistedSeq : Nat := 0
  /-- PAR_STAT.PERSISTING [Table 16-9; reset 0] -/
  persisting : Bool := false
  /-- the persistence in progress failed its verify once [R444; reset false] -/
  retried : Bool := false
  /-- the bank being programmed while a persistence runs [R444; reset none] -/
  snap : Option Bank := none
  /-- a commit was accepted while the persistence runs [R444; reset false] -/
  again : Bool := false
  /-- PAR_STAT.PERSIST_FAULT [Table 16-9; reset 0] -/
  persistFault : Bool := false
  /-- PAR_STAT.DEFAULTS [Table 16-9; reset 0] -/
  defaults : Bool := false
  /-- PAR_STAT.SAFETY_RELOAD [Table 16-9; reset 0] -/
  safetyReload : Bool := false
  /-- settings areas 0 and 1 in NOR flash, each with banks 0 and 1 [R443, R449; reset erased] -/
  areas : Two (Two (Option Bank)) := { zero := { zero := none, one := none }, one := { zero := none, one := none } }
  /-- PAR_STAT.BANK [Table 16-9; reset 0] -/
  bank : Ix := .zero
  /-- par 0x00:06 SETTINGS_AREA [Table 16-8; reset 0] -/
  area : Ix := .zero
  deriving DecidableEq, Repr

/-- A boot selector record (Table 17-2). -/
structure SelRec where
  seq : Nat
  slot : Ix
  trial : Bool
  boots : Nat
  fallbackValid : Bool
  converted : Bool
  activeVer : Nat
  fallbackVer : Nat
  actCycle : Nat
  failBoots : Nat
  deriving DecidableEq, Repr

/-- A session journal record (R457). -/
structure Journal where
  seq : Nat
  st : UpdState
  imgType : Nat
  imageLen : Nat
  version : Nat
  manifestCrc : Nat
  slot : Ix
  blocks : List Nat
  /-- CRC of each marked block, in the order of `blocks` -/
  crcs : List Nat
  verifying : Bool
  actCycle : Nat
  deriving DecidableEq, Repr

/-- Firmware and settings update. -/
structure UpdBlock where
  /-- the two selector positions in MRAM [R449, R450; reset SEQ 1, slot A, confirmed; other erased] -/
  sel : Two (Option SelRec) :=
    { zero := some { seq := 1, slot := .zero, trial := false, boots := 0, fallbackValid := false, converted := false,
                     activeVer := 0, fallbackVer := 0, actCycle := 0, failBoots := 0 }, one := none }
  /-- the two journal positions in MRAM [R457; reset DESIGN CHOICE erased (log 5)] -/
  journal : Two (Option Journal) := { zero := none, one := none }
  /-- NOR contents of image slots A and B; an erased byte reads 0xFF [R449; reset DESIGN CHOICE erased (log 12)] -/
  image : Two Mem := { zero := [], one := [] }
  /-- the slot holds the image it was shipped with, whose signature holds [R449; reset slot A true, slot B false] -/
  shipped : Two Bool := { zero := true, one := false }
  /-- model download area [Table 17-1; reset erased] -/
  modelArea : Mem := []
  /-- UPD_VER of image slots A and B [Table 19-2; reset DESIGN CHOICE 0 (log 12)] -/
  ver : Two Nat := { zero := 0, one := 0 }
  /-- session lock: port, ring, TAG and UPTIME of the holder's last session command [R455; reset none] -/
  lock : Option (Ix × Nat × Nat × Nat) := none
  /-- UPD_STAT.LAPSED [Table 17-11; reset 0] -/
  lapsed : Bool := false
  /-- UPTIME at which the confirmation window ends [R463; reset none] -/
  window : Option Nat := none
  /-- power-up step 8 was completed in this boot [R463; reset false] -/
  step8 : Bool := false
  /-- activation or window end in progress: 1 waits for the release, 2 for the strings to open; true for an activation [R461, R464; reset none] -/
  leaving : Option (Nat × Bool) := none
  /-- UPTIME at which the strings began to open for it [R461; reset 0] -/
  leaveUp : Nat := 0
  /-- VERSION of the running image (ID_FW_VER) [Table 19-3; reset 0] -/
  running : Nat := 0
  /-- the last failed boot's cause: 1 WINDOW, 2 SELF_TEST, 3 SIGNATURE [R465; reset 0] -/
  failCause : Nat := 0
  deriving DecidableEq, Repr

/-- What the block puts out: frames, triggers, vectors, writes to host memory. -/
inductive Out where
  | waymark (port : DnPort) (word : Nat)
  | ryran (down : Bool) (port : Ix) (type : Nat) (payload : List Byte)
  | trigger (ring : Ix) (endB : Bool) (tick adj : Nat)
  | probe (ring : Ix) (endB : Bool)
  | caravan (ring : Ix) (endB : Bool) (dst type seq : Nat) (payload : List Byte)
  | caravan12 (ring : Ix) (hop type : Nat) (payload : List Byte)
  | clearWrap (ring : Ix)
  | peer (type : Nat) (payload : List Byte)
  | can (bus : Ix) (id format : Nat) (data : List Byte)
  | vector (port : Ix) (n : Nat)
  | fetch (port : Ix) (stream addr : Nat)
  | dma (port : Ix) (addr : Nat) (data : List Byte)
  deriving DecidableEq, Repr

end Sys2Proof.Machine
end

