-- ==== Sys2Proof/Machine/StRing.lean ====
section
/-! DEFINITION. State of the caravan rings, the wire diagnosis, the string front ends and the grid reference channels. -/

namespace Sys2Proof.Machine

/-- One cell block of a FEATURE_REC (Table 3-8). -/
structure CellBlk where
  vmean : Nat
  ovr : Bool
  smiss : Bool
  bal : Bool
  binv : Bool
  bins : List (Int × Int)
  deriving DecidableEq, Repr

/-- A FEATURE_REC as parsed (Table 3-7). -/
structure FeatRec where
  cyc : Nat
  ustat : Nat
  orders : List Nat
  aux : List Nat
  cells : List CellBlk
  deriving DecidableEq, Repr

/-- A wire or cell suspicion of Table 4-8. -/
structure Suspicion where
  /-- true for a wire suspicion, false for a cell suspicion [R144; reset none] -/
  wire : Bool
  /-- first wire, or the cell [R144; reset none] -/
  first : Nat
  /-- last wire, or the cell [R144; reset none] -/
  last : Nat
  /-- valid frames since the signature was last seen [R145; reset none] -/
  absent : Nat
  /-- the open-wire test found its wires intact [R145; reset none] -/
  intact : Bool
  /-- the inner-wire signature, first and last wire, from which an intact test turned it [R145; reset none] -/
  turned : Option (Nat × Nat) := none
  deriving DecidableEq, Repr

/-- A sample of one watched cell placed in a frame, and whether its stream was aligned (R136, R172, R409). -/
structure WatchRec where
  frame : Nat
  cell : Nat
  samples : List Nat
  ok : Bool
  deriving DecidableEq, Repr

/-- One caravan unit of the unit table and what the module holds about it. -/
structure UnitState where
  /-- unit address [R101, R104; reset none] -/
  addr : Nat
  /-- GEN, true for a CU-16 [R104; reset none] -/
  gen16 : Bool
  /-- 8-byte serial [R104; reset none] -/
  serial : Nat
  /-- DLY_F in 2 ns units [R102; reset none] -/
  dlyF : Nat
  /-- DLY_R in 2 ns units [R102; reset none] -/
  dlyR : Nat
  /-- populated-channel mask in force for the unit [R104; reset none] -/
  pop : Nat
  /-- unit marked lost [R106, R107; reset false] -/
  lost : Bool := false
  /-- a lost unit has answered and returns at the next tick 0 [R107; reset false] -/
  returning : Bool := false
  /-- consecutive cycles in which the record missed its deadline [R107; reset 0] -/
  misses : Nat := 0
  /-- records received, by frame, newest first [R108; reset none] -/
  recs : List (Nat × FeatRec) := []
  /-- consecutive frames with matching CYC since UNALIGNED [R172; reset 0] -/
  alignRun : Nat := 0
  /-- records that carried another CYC than that of the frame expected: the frame, and the offset found, newest first, at most 4 [R172; reset none] -/
  wrongCyc : List (Nat × Int) := []
  /-- UNALIGNED state of the unit's records [R173; reset false] -/
  unaligned : Bool := false
  /-- BSEQ of the last BALANCE [R236; reset 0] -/
  bseq : Nat := 0
  /-- duties commanded, 16 nibbles, cell 1 first [R111, R235; reset all 0] -/
  duty : List Nat := List.replicate 16 0
  /-- duties acknowledged, newest first, each with the tick 0 from which it is in force, at most 8 [R237, R238; reset none] -/
  duties : List (Nat × List Nat) := []
  /-- a change of duties that awaits the next cycle, decided after tick 120 [R237; reset none] -/
  dutyHeld : Option (List Nat) := none
  /-- the BALANCE was resent once after a wrong STATUS [R236; reset false] -/
  balResent : Bool := false
  /-- UPTIME of the last acknowledged refresh, 1/8 ns [R239; reset 0] -/
  balAt : Nat := 0
  /-- cells selected for balancing [R231; reset none] -/
  selected : List Nat := []
  /-- row of Table 8-2 the unit stands in: 0 full, 1 half, 2 none [R233; reset 0] -/
  derateRow : Nat := 0
  /-- watched cells nominated [R137; reset none] -/
  watch : List Nat := []
  /-- cycle of the last change of nomination outside step 1 [R137; reset none] -/
  watchAt : Option Nat := none
  /-- rotation place of WATCH_MODE 0 [R137; reset 0] -/
  watchRot : Nat := 0
  /-- WSEQ of the last WATCH_STREAM [R109; reset none] -/
  wseq : Option Nat := none
  /-- gaps found in WSEQ [R109; reset 0] -/
  wGaps : Nat := 0
  /-- stream frames aligned in a row [R172; reset 16] -/
  wAlign : Nat := 16
  /-- watched-cell samples placed, newest first, of the last 256 cycles [R172, R409; reset none] -/
  watchRecs : List WatchRec := []
  /-- USTAT of the last record [Table 3-7; reset 0] -/
  ustat : Nat := 0
  /-- FLT bit of the unit in the last TICK_SUM [R110; reset false] -/
  flt : Bool := false
  /-- cells missing in the last closed frame [R496; reset false] -/
  missing : Bool := false
  /-- VMEAN codes of each cell's last valid frames, newest first, at most 64 [R143; reset none] -/
  refs : List (List Nat) := List.replicate 16 []
  /-- orders and bins of each cell's last frames without BINV, newest first, at most 64 [R143; reset none] -/
  binRefs : List (List (List Nat × List (Int × Int))) := List.replicate 16 []
  /-- ΔV of each cell in the last frame diagnosed, 5 µV units [R143, R148; reset none] -/
  lastDv : List (Option Rat) := []
  /-- suspicions standing [R145; reset none] -/
  suspicions : List Suspicion := []
  /-- wires confirmed open [R139; reset none] -/
  openWires : List Nat := []
  /-- wires found degraded [R139; reset none] -/
  degraded : List Nat := []
  /-- wire mask of the open-wire test requested and not answered, and the cycle requested [R141; reset none] -/
  owPending : Option (Nat × Nat) := none
  /-- wires whose test is asked for while another is unanswered [R141, R145; reset none] -/
  owQueued : Nat := 0
  /-- cycles in which the unit ran an open-wire test, newest first [R140; reset none] -/
  owCycles : List Nat := []
  /-- UPTIME of the last routine open-wire test [R141; reset none] -/
  owAt : Option Nat := none
  /-- cycle of the last STATUS_REP [R135; reset 0] -/
  statusAt : Nat := 0
  /-- CMP_OV, CMP_UV, REFCHK, DISC_F, DISC_R and LOCK_LOSS of the last STATUS_REP [Table 3-15; reset 0] -/
  status : Nat × Nat × Int × Nat × Nat × Nat := (0, 0, 0, 0, 0, 0)
  /-- firmware version of the unit, from IDENT or STATUS_REP [Tables 3-14, 3-15; reset 0] -/
  fwVer : Nat := 0
  /-- the unit refused its last CONFIG and keeps the one before [R105, R116; reset false] -/
  cfgRefused : Bool := false
  /-- TYPE and SEQ of the last command sent to the unit [R501; reset 0] -/
  lastCmd : Nat × Nat := (0, 0)
  /-- auxiliary channels with a fault raised [R148; reset none] -/
  auxFault : List Nat := []
  /-- voltages of a CU-12 by frame, newest first [R115; reset none] -/
  v12 : List (Nat × List Nat) := []
  /-- the four temperatures of a CU-12 [R115; reset none] -/
  t12 : List Nat := []
  /-- frame of the temperatures of a CU-12 [R115; reset 0] -/
  t12At : Nat := 0
  /-- frames whose replies of a CU-12 showed BAL_STOPPED, newest first, at most 4 [R116, R197; reset none] -/
  stop12 : List Nat := []
  deriving DecidableEq, Repr

/-- A command that awaits its reply (R106). -/
structure Txn where
  unit : Nat
  type : Nat
  seq : Nat
  payload : List Byte
  retries : Nat
  /-- the tick 0 at which a BALANCE takes effect [R237; 0 for another command] -/
  eff : Nat := 0
  /-- the tick at which an OPENWIRE_REQ was acknowledged [R106; none before] -/
  acked : Option Nat := none
  deriving DecidableEq, Repr

/-- The last TICK_SUM taken (Table 3-10). -/
structure TickSumRec where
  tick : Nat
  vmax : Nat
  vmaxU : Nat
  vmaxC : Nat
  vmin : Nat
  vminU : Nat
  vminC : Nat
  nunits : Nat
  flt : Nat
  deriving DecidableEq, Repr

/-- One caravan ring. -/
structure RingState where
  /-- CARn_STAT.ENUM_DONE [Table 3-13; reset 0] -/
  enumDone : Bool := false
  /-- cycle of the frames of an enumeration whose first cycle with every record has not come [R101; reset none] -/
  enumFrom : Option Nat := none
  /-- the ring has been enumerated, or its table taken, whatever was found [R308; reset false] -/
  known : Bool := false
  /-- CARn_STAT.MODE as found, true compatibility [Table 3-13; reset 0] -/
  compat : Bool := false
  /-- CARn_STAT.SPLIT [Table 3-13; reset 0] -/
  split : Bool := false
  /-- CARn_STAT.FLT_LOOP [Table 3-13; reset 0] -/
  fltLoop : Bool := false
  /-- CARn_STAT.MIXED [Table 3-13; reset 0] -/
  mixed : Bool := false
  /-- CARn_STAT.COUNT_MISMATCH [Table 3-13; reset 0] -/
  countMismatch : Bool := false
  /-- CARn_STAT.LOCK_A [Table 3-13; reset 0] -/
  lockA : Bool := false
  /-- CARn_STAT.LOCK_B [Table 3-13; reset 0] -/
  lockB : Bool := false
  /-- CARn_STAT.BREAK_AFTER [Table 3-13; reset 0] -/
  breakAfter : Nat := 0
  /-- CARn_STAT.UNITS [Table 3-13; reset 0] -/
  count : Nat := 0
  /-- ring served: its cells are measured [R103; reset false] -/
  served : Bool := false
  /-- finding of the last enumeration as CARAVAN_REENUM reports it [R403; reset 0] -/
  finding : Nat := 0
  /-- units of the ring in ring order [R104; reset none] -/
  units : List UnitState := []
  /-- serials of the previous unit table, by address [R104; reset none] -/
  oldSerials : List (Nat × Nat) := []
  /-- an enumeration changed the populated channels and the first frame after it has not closed [R503; reset false] -/
  changed : Bool := false
  /-- next SEQ of a command, modulo 256 [R93; reset 0] -/
  seq : Nat := 0
  /-- commands that await a reply [R106; reset none] -/
  txns : List Txn := []
  /-- L_ring in 1/2 ns [R102; reset 0] -/
  lRing : Nat := 0
  /-- CARn_ERR.DISC, saturating at 0xFFFF [Table 19-5; reset 0] -/
  disc : Nat := 0
  /-- CARn_ERR.LOST_CNT, saturating at 0xFF [Table 19-5; reset 0] -/
  lostCnt : Nat := 0
  /-- CARn_ERR.SPLIT_CNT, saturating at 0xFF [Table 19-5; reset 0] -/
  splitCnt : Nat := 0
  /-- cycles of the discards of the last 128 cycles, newest first [R96; reset none] -/
  discAt : List Nat := []
  /-- the rate of discards stands above its bound [R96; reset false] -/
  discHigh : Bool := false
  /-- the last TICK_SUM taken [R308; reset none] -/
  sum : Option TickSumRec := none
  /-- the TICK_SUM of one side of a split ring that awaits the other [R118; reset none] -/
  sumHalf : Option (Bool × TickSumRec) := none
  /-- the tick whose trigger the module sent last, as cycle times 128 plus tick [R110; reset none] -/
  trigSent : Option Nat := none
  /-- the first tick whose trigger the module sent since it last began to drive the ring [R110; reset none] -/
  trigFirst : Option Nat := none
  /-- the tick of the TICK_SUM that was sent and has not returned [R308; reset none] -/
  sumDue : Option Nat := none
  /-- corner filters that have acted: the first cycle and CORNER, newest first, at most 4 [R122, R130; reset none] -/
  corners : List (Nat × Nat) := []
  /-- place of the BALANCE rotation [R236; reset 0] -/
  balRot : Nat := 0
  /-- place of the routine open-wire rotation [R141; reset 0] -/
  owRot : Nat := 0
  /-- cycle of the last routine OPENWIRE_REQ [R141; reset none] -/
  owCycle : Option Nat := none
  /-- place of the STATUS_REQ rotation [R135; reset 0] -/
  statusRot : Nat := 0
  /-- unit bytes of CARn_USTATj as the last frame close left them, unit 1 first [Table 19-6, R496; reset 0] -/
  view : List Nat := []
  deriving DecidableEq, Repr

/-- One channel over one tick (Table 5-2): mean code, calibrated value, measurement sample code and value, over-range side. -/
structure ChanRec where
  mean : Int
  value : F32
  sample : Int
  sampleValue : F32
  ovr : Option Bool
  deriving DecidableEq, Repr

/-- The values of one front end over one tick (Table 5-2); `q` in 2^-32 nC. -/
structure FeRec where
  shunt : ChanRec
  hall : ChanRec
  vpack : ChanRec
  vlink : ChanRec
  q : Int
  gap : Bool
  isoOk : Bool
  deriving DecidableEq, Repr

/-- One tick of the waveform record (R409): the tick, its length in 1/8 ns, both front ends and the grid samples; `link` tells for each string
whether K+ and K− read back closed with precharge open throughout it (R175). -/
structure TickRec where
  at_ : Nat
  len : Nat
  fe : Two FeRec
  link : Two Bool
  gref : List (Int × Int)
  /-- the two samples as calibrated when they were taken -/
  grefVal : List (F32 × F32)
  grefOvr : List Bool
  deriving DecidableEq, Repr

/-- One entry of the coulomb history (R158). -/
structure QEntry where
  cycle : Nat
  q : Int
  gap : Bool
  deriving DecidableEq, Repr

/-- A calibration point held or in progress for a channel (R167). -/
structure CalPoint where
  /-- port that runs the calibration, with the ring and TAG of its last CAL_POINT [R168, R400; reset none] -/
  port : Ix
  ring : Nat := 0
  tag : Nat := 0
  /-- mean code of the finished zero point and the UPTIME it was taken [R167; reset none] -/
  zero : Option (Rat × Nat) := none
  /-- mean code and applied value of the finished span point and its UPTIME [R167; reset none] -/
  span : Option (Rat × F32 × Nat) := none
  /-- the point in progress: span or zero, applied value, LONG_ID, cycle means so far, and whether OVR or GAP occurred [R167; reset none] -/
  busy : Option (Bool × F32 × Nat × List Rat × Bool) := none
  /-- first whole cycle after the point in progress began [R167; reset 0] -/
  fromCycle : Nat := 0
  deriving DecidableEq, Repr

/-- One string front end. -/
structure FeState where
  /-- FEn_STAT.CAL_VALID of each channel [Table 5-6; reset 0] -/
  calValid : List Bool := [false, false, false, false]
  /-- the channel's committed coefficients are in use [R156, R166, R167; reset false] -/
  calUse : List Bool := [false, false, false, false]
  /-- FEn_STAT.OVR_SHUNT, OVR_HALL, OVR_VPACK, OVR_VLINK [Table 5-6; reset 0] -/
  ovr : List Bool := [false, false, false, false]
  /-- FEn_STAT.GAP [Table 5-6; reset 0] -/
  gap : Bool := false
  /-- FEn_STAT.ISO_OK [Table 5-6; reset 0] -/
  isoOk : Bool := false
  /-- ISO_OK has been 0 at an instant of the tick in progress [R157; reset true] -/
  isoLow : Bool := true
  /-- FEn_STAT.GAP_CNT [Table 5-6; reset 0] -/
  gapCnt : Nat := 0
  /-- coulomb accumulator in 2^-32 nC, 64 bits of nC and 32 of fraction [R155, R156; reset 0] -/
  acc : Int := 0
  /-- gap in progress: first tick, cause, ticks so far [R157; reset none] -/
  gapRun : Option (Nat × Nat × Nat) := none
  /-- for each channel, the last tick that carried OVR while its event stands [R162; reset none] -/
  ovrRun : List (Option Nat) := [none, none, none, none]
  /-- coulomb history, newest first, at most 512 entries [R158; reset none] -/
  history : List QEntry := []
  /-- a tick of the cycle in progress carried GAP [R158; reset false] -/
  cycleGap : Bool := false
  /-- calibration points by channel [R167; reset none] -/
  cal : KV Nat CalPoint := []
  deriving DecidableEq, Repr

/-- The eight grid reference channels. -/
structure GrefState where
  /-- GREF_STAT.OVR, 8 bits [Table 5-7; reset 0] -/
  ovr : Nat := 0
  /-- GREF_STAT.CAL_VALID, 8 bits [Table 5-7; reset 0] -/
  calValid : Nat := 0
  /-- the channel's committed coefficients are in use, 8 bits [R156, R166, R167; reset 0] -/
  calUse : Nat := 0
  /-- GREF_CHk, newest sample of each channel, binary32 [Table 19-7; reset 0] -/
  value : List F32 := List.replicate 8 0
  /-- for each channel, the last tick that carried OVR while its event stands [R162; reset none] -/
  ovrRun : List (Option Nat) := List.replicate 8 none
  /-- calibration points by channel [R167; reset none] -/
  cal : KV Nat CalPoint := []
  deriving DecidableEq, Repr

/-- Front ends, grid channels and the waveform record of the last 256 cycles. -/
structure FrontState where
  /-- string front ends 0 and 1 [R149; reset Table 5-6] -/
  fe : Two FeState := { zero := {}, one := {} }
  /-- grid reference channels [R163; reset Table 5-7] -/
  gref : GrefState := {}
  /-- waveform record, newest tick first, at most 256 cycles [R409; reset none] -/
  hist : List TickRec := []
  deriving DecidableEq, Repr

end Sys2Proof.Machine
end

