-- ==== Sys2Proof/Machine/State.lean ====
section
/-! DEFINITION. The state of the card, its state after reset, and the reasons a step can stop. -/

namespace Sys2Proof.Machine

/-- Faults of the model. None is raised: the spec gives every command an effect, if only to leave the card as it is. -/
inductive Fault where
  /-- Raised by nobody; it stands for a stop the spec would back, and there is none. Safe. -/
  | noSuchStop
  deriving DecidableEq, Repr

/-- Refusals of the model. -/
inductive Refusal where
  /-- Raised only by an arm of `exec` whose command has no meaning yet, with the command's mnemonic. Safe. -/
  | notModelled (mnemonic : String)
  deriving DecidableEq, Repr

/-- Everything the spec gives the card, the commands that wait and what the card has put out. -/
structure State where
  /-- identity of the card [Table 19-3; reset see its fields] -/
  ident : IdentState := {}
  /-- supply, straps and power-up order [R47; reset see its fields] -/
  elec : ElecState := {}
  /-- clocks [R51; reset see its fields] -/
  clk : ClkState := {}
  /-- mains-angle grid and Ryran ports [R64; reset see its fields] -/
  grid : GridState := {}
  /-- caravan rings 0 and 1 [R89; reset see their fields] -/
  ring : Two RingState := { zero := {}, one := {} }
  /-- string front ends, grid channels, waveform record [R149; reset see its fields] -/
  front : FrontState := {}
  /-- fusion engine [R171; reset see its fields] -/
  fus : FusState := {}
  /-- estimation engine [R193; reset see its fields] -/
  est : EstState := {}
  /-- thermal management [R241; reset see its fields] -/
  therm : ThermState := {}
  /-- control engine [R252; reset see its fields] -/
  ctl : CtlState := {}
  /-- point hold [R272; reset see its fields] -/
  hold : HoldState := {}
  /-- protection of strings 0 and 1 [R303; reset see their fields] -/
  prot : Two ProtState := { zero := {}, one := {} }
  /-- outrider and ownership line [R327; reset see its fields] -/
  outr : OutrState := {}
  /-- pair [R339; reset see its fields] -/
  pair : PairState := {}
  /-- CAN buses and PCS [R363; reset see its fields] -/
  can : CanBlock := {}
  /-- host ports and long commands [R393; reset see its fields] -/
  host : HostBlock := {}
  /-- events and the ledger [R412; reset see its fields] -/
  ev : EvState := {}
  /-- parameter dictionary and settings areas [R430; reset see its fields] -/
  par : ParState := {}
  /-- firmware update [R449; reset see its fields] -/
  upd : UpdBlock := {}
  /-- the commands that wait, first in, first out (the model's own field, not the spec's) [reset empty] -/
  pending : List Instr := []
  /-- what the card has put out, newest last (the model's own field: the frames, vectors and writes of the spec's rules) [reset empty] -/
  sent : List Out := []
  /-- number of free values taken so far (the model's own field) [reset DESIGN CHOICE 0 (log 13)] -/
  freeCtr : Nat := 0
  deriving DecidableEq, Repr

/-- The card as delivered, before its first power-good: every register at the value its Reset column states. -/
def State.reset : State := {}

end Sys2Proof.Machine
end

