-- ==== Sys2Proof/Machine/Params.lean ====
section
/-! DEFINITION. The parameter dictionary: every parameter's type, length, class, range and default (R430 to R433 and the
tables they name), and the values the blocks act on. An address is group times 256 plus index. -/

namespace Sys2Proof.Machine

open Sys2Proof

/-- The range of a parameter (R431). -/
inductive Rng where
  | any
  | nat (lo hi step : Nat)
  | int (lo hi : Int)
  | rat (lo hi : Rat)
  | oneOf (vs : List Nat)
  | node
  deriving DecidableEq, Repr

/-- What the dictionary says of one parameter: type code of Table 16-1, length in bytes, class of Table 16-2, range, default. -/
structure PInfo where
  ty : Nat
  len : Nat
  cls : Nat
  rng : Rng
  dflt : Nat
  deriving DecidableEq, Repr

/-- Length of the smallest unsigned integer that holds a value (R431). -/
def unsLen (hi : Nat) : Nat := if hi < 256 then 1 else if hi < 65536 then 2 else if hi < 2 ^ 32 then 4 else 8
/-- Type code of an unsigned integer of a length (Table 16-1). -/
def unsTy : Nat → Nat
  | 1 => 0x01
  | 2 => 0x02
  | 4 => 0x03
  | _ => 0x04
/-- Length of the smallest signed integer that holds a range (R431). -/
def sgnLen (lo hi : Int) : Nat :=
  if -128 ≤ lo ∧ hi ≤ 127 then 1 else if -32768 ≤ lo ∧ hi ≤ 32767 then 2 else 4
/-- Type code of a signed integer of a length (Table 16-1). -/
def sgnTy : Nat → Nat
  | 1 => 0x05
  | 2 => 0x06
  | _ => 0x07
/-- A whole-number parameter. -/
def pU (lo hi d : Nat) : Option PInfo :=
  some { ty := unsTy (unsLen hi), len := unsLen hi, cls := 0, rng := .nat lo hi 1, dflt := d }
/-- A parameter given in steps. -/
def pStep (lo hi st d : Nat) : Option PInfo :=
  some { ty := unsTy (unsLen hi), len := unsLen hi, cls := 0, rng := .nat lo hi st, dflt := d }
/-- A signed whole-number parameter. -/
def pS (lo hi d : Int) : Option PInfo :=
  some { ty := sgnTy (sgnLen lo hi), len := sgnLen lo hi, cls := 0, rng := .int lo hi,
         dflt := ofSigned (8 * sgnLen lo hi) d }
/-- A binary32 parameter with a range; its bounds are taken as binary32 values (DEDUCED, log 15). -/
def pF (lo hi d : Rat) : Option PInfo :=
  some { ty := 0x08, len := 4, cls := 0, rng := .rat lo hi, dflt := (F32.ofRat d).toNat }
/-- A binary32 parameter with no range but finiteness. -/
def pFany (d : Rat) : Option PInfo :=
  some { ty := 0x08, len := 4, cls := 0, rng := .rat (-(2 ^ 128 - 2 ^ 104)) (2 ^ 128 - 2 ^ 104), dflt := (F32.ofRat d).toNat }
/-- A byte string of fixed length. -/
def pBytes (n : Nat) : Option PInfo := some { ty := 0x09, len := n, cls := 0, rng := .any, dflt := 0 }
/-- A record with its default bytes. -/
def pRec (d : List Byte) : Option PInfo := some { ty := 0x0B, len := d.length, cls := 0, rng := .any, dflt := ofLe d }

/-- The default OCV_TABLE in 0.1 mV, S fastest (R498). -/
def ocvDefault : List Nat :=
  [24920, 30420, 31720, 32070, 32320, 32470, 32570, 32670, 32750, 32810, 32850, 32890, 32930, 32980, 33100, 33180, 33220, 33260, 33320, 33720, 35920] ++
  [24960, 30460, 31760, 32110, 32360, 32510, 32610, 32710, 32790, 32850, 32890, 32930, 32970, 33020, 33140, 33220, 33260, 33300, 33360, 33760, 35960] ++
  [25000, 30500, 31800, 32150, 32400, 32550, 32650, 32750, 32830, 32890, 32930, 32970, 33010, 33060, 33180, 33260, 33300, 33340, 33400, 33800, 36000] ++
  [25020, 30520, 31820, 32170, 32420, 32570, 32670, 32770, 32850, 32910, 32950, 32990, 33030, 33080, 33200, 33280, 33320, 33360, 33420, 33820, 36020] ++
  [25030, 30530, 31830, 32180, 32430, 32580, 32680, 32780, 32860, 32920, 32960, 33000, 33040, 33090, 33210, 33290, 33330, 33370, 33430, 33830, 36030]

/-- Nominal gain of a front-end channel, 0 I_SHUNT, 1 I_HALL, 2 V_PACK, 3 V_LINK, from SHUNT_UOHM and HALL_A_PER_V (Table 5-5). -/
def gNomFe (ch shuntUohm hallApv : Nat) : Rat :=
  match ch with
  | 0 => (75 / 1000) / (2 ^ 23 * ((shuntUohm : Rat) / 1000000))
  | 1 => 5 * hallApv / 2 ^ 23
  | _ => 2000 / 2 ^ 23
/-- Nominal gain of a grid reference channel from its scale (Table 5-5). -/
def gNomGref (scale : Rat) : Rat := 10 * scale / 2 ^ 23

/-- Bytes of a slot configuration record with FLAGS, PERIOD, COMBINE, MEAS_A, MEAS_B, SP_SRC, FF_SRC, FALLBACK, LIM_SRC,
DEST and START (Table 9-7); every two-byte field with its CODE or class first; INPUT_TIMEOUT 100, the rest 0. -/
def cfgBytes (flags period combine : Nat) (measA measB sp ff : Nat × Nat) (fallback : Rat) (lim dest : Nat × Nat)
    (start : Nat) : List Byte :=
  [toByte flags, toByte period, 0, toByte combine, toByte measA.1, toByte measA.2, toByte measB.1, toByte measB.2,
   toByte sp.1, toByte sp.2, toByte ff.1, toByte ff.2, 0, 0, 0, 0] ++ leBytes 4 (F32.ofRat fallback).toNat ++
  [toByte lim.1, toByte lim.2, toByte dest.1, toByte dest.2, 100, 0, toByte start, 0, 0, 0, 0, 0]

/-- Default configuration record of a slot (R269, R285, Tables 9-1, 9-8, 10-5). -/
def cfgDefault (slot : Nat) : List Byte :=
  match slot with
  | 0 => cfgBytes 3 0 0 (4, 0) (0, 0) (0x0A, 0) (0x0A, 0) 0 (0x0D, 0) (1, 0) 1
  | 1 => cfgBytes 3 0 0 (4, 1) (0, 0) (0x0A, 1) (0x0A, 1) 0 (0x0D, 1) (1, 1) 1
  | 16 => cfgBytes 3 0 0 (0x0B, 0) (0, 0) (0x0B, 4) (0x0B, 4) 0 (0x0D, 0x80) (3, 0) 1
  | 17 => cfgBytes 3 0 0 (0x0B, 1) (0, 0) (0x0B, 5) (0x0B, 5) 0 (0x0D, 0x81) (3, 1) 1
  | 40 => cfgBytes 3 128 0 (5, 0) (0, 0) (0x0F, 40) (0, 0) 100 (0x0E, 40) (2, 0) 1
  | 41 => cfgBytes 3 128 0 (5, 1) (0, 0) (0x0F, 41) (0, 0) 100 (0x0E, 41) (2, 1) 1
  | 42 => cfgBytes 3 128 1 (9, 40) (9, 41) (0x0F, 42) (0, 0) 12 (0x0E, 42) (2, 2) 1
  | 43 => cfgBytes 3 128 0 (8, 0x13) (0, 0) (0x0F, 43) (0, 0) 100 (0x0E, 43) (2, 3) 1
  | n => cfgBytes 0 0 0 (0, 0) (0, 0) (0, 0) (0, 0) 0 (0, 0) (if 18 ≤ n ∧ n ≤ 23 then (3, n - 16) else (0, 0)) 0

/-- Bytes of a bank: KP, KI, KD, N, KT, FF_GAIN, OUT_MIN, OUT_MAX, RATE_UP, RATE_DN (R269). -/
def bankBytes (vs : List Rat) : List Byte := vs.flatMap fun v => leBytes 4 (F32.ofRat v).toNat

/-- Default bank of a slot (Tables 9-8 and 10-5, R269). -/
def bankDefault (slot : Nat) : List Byte :=
  match slot with
  | 0 | 1 => bankBytes [1 / 5, 40, 0, 0, 200, 1, -5000, 5000, 100000, 100000]
  | 16 | 17 => bankBytes [1 / 10, 2, 0, 0, 20, 1, -20000000, 20000000, 10000000, 10000000]
  | 40 | 41 => bankBytes [8, 8 / 100, 0, 0, 1 / 100, 0, 0, 100, 5, 5]
  | 42 => bankBytes [-1 / 10, -1 / 1000, 0, 0, 1 / 100, 0, 5, 40, 1 / 20, 1 / 20]
  | 43 => bankBytes [5, 1 / 20, 0, 0, 1 / 100, 0, 0, 100, 10, 10]
  | _ => bankBytes [1, 0, 0, 0, 0, 0, 0, 1, 1000000, 1000000]

/-- A window record's bytes (Table 13-4). -/
def winBytes (kind index start len mask : Nat) : List Byte :=
  [toByte kind, toByte index, toByte start, toByte len, toByte mask, 0, 0, 0]

/-- Group 0x01 (Table 16-8); defaults follow the ordering code (R445). -/
def pGroup01 (variant i : Nat) : Option PInfo :=
  match i with
  | 1 => pU 0 1 (if variant = 2 then 0 else 1)
  | 2 => pU 0 3 (if variant = 2 then 1 else 3)
  | 3 => pU 0 0xFFFFFFFF 0
  | 4 => pBytes 32
  | _ => none
/-- Group 0x02 (Table 16-8). -/
def pGroup02 (i : Nat) : Option PInfo :=
  match i with
  | 1 => some { ty := 0x01, len := 1, cls := 0, rng := .oneOf [50, 60], dflt := 50 }
  | 2 => pU 4 128 8
  | 3 => pU 1 128 2
  | 4 => pU 0 16383 0
  | 5 => pU 1 255 8
  | _ => none
/-- Group 0x03 (Table 16-8). -/
def pGroup03 (i : Nat) : Option PInfo :=
  if i = 1 ∨ i = 2 then pU 0 32 0
  else if i = 3 ∨ i = 4 then pU 0 1 0
  else if i = 5 then pU 100 2000 400
  else if i = 6 then pU 0 7 2
  else if 0x40 ≤ i ∧ i ≤ 0x7F then pU 0 0xFFFF 0xFFFF
  else none
/-- Group 0x04 (Table 4-10). -/
def pGroup04 (i : Nat) : Option PInfo :=
  match i with
  | 0x01 | 0x02 => pU 0 2 1
  | 0x10 | 0x18 => pU 1 60 1
  | 0x11 | 0x19 => pU 1 60 2
  | 0x12 | 0x1A => pU 1 60 3
  | 0x13 | 0x1B => pU 1 60 6
  | 0x14 | 0x1C => pU 1 60 12
  | 0x15 | 0x1D => pU 1 60 15
  | 0x20 => pU 0 1 1
  | 0x21 => pU 16 4096 64
  | 0x30 => pU 10 3600 60
  | 0x31 => pU 30 150 60
  | 0x40 => pU 5 200 20
  | 0x41 => pU 1 50 5
  | 0x42 => pU 5 50 25
  | 0x43 => pU 4 64 8
  | _ => none
/-- Group 0x05 (Table 5-8). -/
def pGroup05 (i : Nat) : Option PInfo :=
  if i = 1 ∨ i = 2 then pU 10 1000 50
  else if i = 3 ∨ i = 4 then pU 10 2000 400
  else if i = 5 then pU 16 1024 64
  else if 0x10 ≤ i ∧ i ≤ 0x1F then
    (if i % 2 = 0 then pFany 0 else pFany (gNomFe ((i - 0x10) % 8 / 2) 50 400))
  else if 0x20 ≤ i ∧ i ≤ 0x2F then (if i % 2 = 0 then pFany 0 else pFany (gNomGref 1))
  else if 0x30 ≤ i ∧ i ≤ 0x37 then pF (1 / 1000) 1000000 1
  else if 0x38 ≤ i ∧ i ≤ 0x3F then pU 0 2 (if i ≤ 0x3A then 0 else if i ≤ 0x3D then 1 else 2)
  else if i = 0x40 then pU 0 1 0
  else none
/-- Group 0x06 (Table 6-11). -/
def pGroup06 (i : Nat) : Option PInfo :=
  match i with
  | 0x01 => pF (1 / 10) 50 2
  | 0x02 => pF (1 / 10) 10 1
  | 0x03 => pF (1 / 10) 20 (3 / 2)
  | 0x04 => pU 2 50 8
  | 0x05 => pU 1 20 6
  | 0x06 => pU 2 255 8
  | 0x07 => pU 1 255 2
  | 0x08 => pU 0 65535 3000
  | 0x09 => pU 0 64 16
  | 0x0A | 0x0B => pF 0 100 0
  | 0x0C => pF (1 / 10) 100 2
  | 0x0D => pF (1 / 10) 1 (8 / 10)
  | 0x0E => pU 0 3 3
  | 0x10 => pU 0 0xFFFF 0x0007
  | 0x11 => pU 0 0xFFFF 0x0038
  | 0x12 => pU 0 0xFFFF 0x01C0
  | 0x13 => pU 0 0xFFFF 0x0E00
  | 0x14 => pU 0 0xFFFF 0x3000
  | 0x15 => pU 0 0xFFFF 0xC000
  | 0x20 => pBytes 32
  | _ => none
/-- Group 0x07 (Tables 7-12 and 8-9). -/
def pGroup07 (i : Nat) : Option PInfo :=
  match i with
  | 0x01 | 0x02 => pF 10 2000 300
  | 0x03 => pF (1 / 10) 20 (3 / 2)
  | 0x04 => pU 1800 7200 1800
  | 0x05 => pU 50 2000 300
  | 0x06 => pF (1 / 10) 10 1
  | 0x07 => pF (1 / 2) 20 2
  | 0x08 => pF 1 100 4
  | 0x09 => pF 0 10 1
  | 0x0A => pF (5 / 100) (1 / 2) (1 / 4)
  | 0x0B => pF (1 / 100) 1 (1 / 10)
  | 0x0C => pF 1 10 3
  | 0x0D => pF 0 (1 / 10) (2 / 1000)
  | 0x0E => pF 6 30 13
  | 0x0F => pU 50 5000 500
  | 0x10 => pU 0 2 1
  | 0x11 => pU 1 15 15
  | 0x12 => pStep 64 4096 64 512
  | 0x13 => pU 10 10000 500
  | 0x14 => pU 0 5000 100
  | 0x15 => pF 0 5 2
  | 0x16 => pU 1 16 8
  | 0x17 => pU 10 3600 60
  | 0x18 => pU 2500 3400 3000
  | 0x19 => pU 30 80 55
  | 0x1A => pU 35 85 65
  | 0x1B => pU 0 7 7
  | 0x20 => pF 50 100 95
  | 0x21 => pU 3000 4500 3550
  | 0x22 => pF 0 50 8
  | 0x23 => pU 1500 3300 2800
  | 0x24 => pU 1 128 16
  | 0x25 => pU 5 50 25
  | 0x26 | 0x27 => pU 1 10000 112
  | 0x30 => some { ty := 0x0A, len := 210, cls := 0, rng := .any, dflt := ofLe (ocvDefault.flatMap (leBytes 2)) }
  | 0x31 => pF (1 / 100) 10 (8 / 100)
  | 0x32 => pF (1 / 10) 100 5
  | 0x33 => pF (1 / 100) 10 (12 / 100)
  | 0x34 => pU 10 10000 300
  | 0x35 => pU 0 100 20
  | 0x36 => pU 1 1000 60
  | 0x37 => pU 60 36000 1800
  | 0x38 => pU 100 100000 5500
  | _ => none
/-- Group 0x08 (Table 8-9). -/
def pGroup08 (i : Nat) : Option PInfo :=
  match i with
  | 0x01 => pF 15 45 30
  | 0x02 => pU 0 100 20
  | 0x03 => pF 5 40 12
  | 0x04 => pU 30 95 70
  | 0x05 => pF 5 40 30
  | 0x06 => pU 0 100 10
  | 0x07 => pF 20 60 35
  | 0x10 | 0x11 => pU 1 60 2
  | 0x20 => pF 30 60 45
  | 0x21 => pF 35 70 55
  | 0x22 => pF (-20) 25 10
  | 0x23 => pF (-30) 15 0
  | 0x24 => pF 0 1 (1 / 2)
  | 0x40 => pU 0 40 15
  | _ => none
/-- Group 0x09 (Tables 9-7 and 9-8). -/
def pGroup09 (i : Nat) : Option PInfo :=
  if i ≤ 0x2F then pRec (cfgDefault i)
  else if 0x40 ≤ i ∧ i ≤ 0x6F then pRec (bankDefault (i - 0x40))
  else if 0x80 ≤ i ∧ i ≤ 0xAF then pRec (bankDefault (i - 0x80))
  else none
/-- Group 0x0A (Table 10-14). -/
def pGroup0A (i : Nat) : Option PInfo :=
  match i with
  | 0x01 => pU 0 1 1
  | 0x02 | 0x03 | 0x04 | 0x05 =>
    some { ty := 0x02, len := 2, cls := 0, rng := .oneOf (0xFFFF :: List.range 16384), dflt := if i = 2 then 0 else 0xFFFF }
  | 0x06 => pU 0 3 0
  | 0x07 => pU 4 60 8
  | 0x08 | 0x0A => pU 1 100000 50
  | 0x09 => pF (1 / 10) 10 1
  | 0x0B => pF (1 / 1000) (1 / 10) (5 / 1000)
  | 0x0C => pF (1 / 1000) (1 / 2) (1 / 100)
  | 0x0D => pF (1 / 10) 10 1
  | 0x0E => pU 2 255 8
  | 0x0F => pU 0 65535 600
  | 0x10 => pF (4 / 10) 800 33
  | 0x11 => pU 1 20000000 100000
  | 0x12 => pU 1 20000000 50000
  | 0x14 => pF 1 12 4
  | 0x15 => pF 0 (1 / 2) (17 / 1000)
  | 0x16 => pU 0 20000000 100000
  | 0x17 => pF 1 20 5
  | 0x18 => pF 0 (5 / 100) (1 / 100)
  | 0x19 => pF (9 / 10) (11 / 10) 1
  | 0x1A | 0x1B => pS (-20000000) 20000000 0
  | 0x20 => pF 0 50 5
  | 0x21 => pF 50 100 95
  | 0x22 => pU 60 14400 900
  | 0x25 => pU 20 2000 200
  | 0x26 => pU 10 100000 1000
  | 0x27 => pU 1 100000 10
  | 0x28 => pU 1 255 4
  | _ => none
/-- Group 0x0B (Table 11-13). -/
def pGroup0B (i : Nat) : Option PInfo :=
  match i with
  | 0x01 => pU 3000 4500 3750
  | 0x02 => pU 1500 3200 2300
  | 0x03 => pU 3000 4400 3600
  | 0x04 => pU 1600 3300 2700
  | 0x05 => pU 3000 5000 4000
  | 0x06 => pU 1000 3000 2000
  | 0x07 => pU 30 80 60
  | 0x08 => pS (-40) 10 (-20)
  | 0x09 => pS (-20) 20 0
  | 0x0A => pU 1 8 3
  | 0x0B => pU 100 10000 2000
  | 0x0E => pU 5 50 20
  | 0x10 | 0x11 | 0x12 | 0x13 => pU 1 2000 400
  | 0x14 | 0x15 => pU 100 1600 1500
  | 0x16 | 0x17 => pU 50 1500 800
  | 0x20 | 0x21 | 0x28 | 0x29 => pU 1 2100 600
  | 0x22 | 0x2A => pU 0 2000 1600
  | 0x23 | 0x2B => pU 0 2000 700
  | 0x24 | 0x2C => pU 0 2000 1650
  | 0x30 => pU 10 500 50
  | 0x31 => pU 1 200 20
  | 0x32 => pU 100 30000 5000
  | 0x33 => pF (1 / 2) 50 5
  | 0x34 => pU 0 10000 2000
  | 0x35 => pU 1 365 30
  | _ => none
/-- Group 0x0C (Table 12-11). -/
def pGroup0C (i : Nat) : Option PInfo :=
  match i with
  | 1 => pU 1 10 3
  | 2 => pU 0 15 15
  | 3 => pU 1 255 8
  | 4 => pU 0 1 1
  | _ => none
/-- Default node records of CAN1 (Table 13-13, R388). -/
def nodeDefault : Nat → Nat
  | 0 => 0x0101
  | 1 => 0x0201
  | 2 => 0x0302
  | 3 => 0x0303
  | _ => 0
/-- Group 0x0D (Table 13-13). -/
def pGroup0D (i : Nat) : Option PInfo :=
  if i = 1 ∨ i = 2 then pU 0 8 0
  else if i = 3 then pU 100 1000 220
  else if i = 4 ∨ i = 5 then pU 1 8 1
  else if i = 6 then pU 20 500 50
  else if i = 7 then pU 500 10000 2000
  else if i = 8 then pU 1 255 16
  else if i = 9 then pU 1 127 96
  else if i = 0x0A then pU 0 0x7E0 0x100
  else if i = 0x0B then pU 0 0x7E0 0x200
  else if i = 0x0C then pU 2 64 8
  else if 0x10 ≤ i ∧ i ≤ 0x1F then some { ty := 0x0B, len := 2, cls := 0, rng := .node, dflt := nodeDefault (i - 0x10) }
  else if i = 0x40 then pRec (winBytes 1 0 2 20 0xFF)
  else if i = 0x41 then pRec (winBytes 1 1 22 20 0xFF)
  else if i = 0x60 then pRec (winBytes 2 0 2 7 0x11)
  else if i = 0x61 then pRec (winBytes 2 1 2 7 0x22)
  else if i = 0x62 then pRec (winBytes 2 2 2 7 0x44)
  else if i = 0x63 then pRec (winBytes 2 3 2 7 0x88)
  else if 0x40 ≤ i ∧ i ≤ 0x7F then pRec (winBytes 0 0 0 0 0)
  else none
/-- Group 0x0E (Table 14-13). -/
def pGroup0E (i : Nat) : Option PInfo :=
  match i with
  | 1 => pU 10 10000 500
  | 2 => pU 0 7 2
  | 3 => pU 1 64 1
  | 4 => pU 1 64 1
  | 5 => pU 60 3600 600
  | _ => none
/-- Group 0x10 (Table 16-8). -/
def pGroup10 (i : Nat) : Option PInfo :=
  match i with
  | 1 => pU 5 240 30
  | 2 => pU 1 7 3
  | 3 => pU 10 600 60
  | 4 => pBytes 32
  | 5 => pU 0 1 0
  | 6 => pU 50 1000000 3000
  | _ => none
/-- Group 0x00, read only (Table 16-8); its values come from the state. -/
def pGroup00 (i : Nat) : Option PInfo :=
  match i with
  | 1 => some { ty := 0x02, len := 2, cls := 3, rng := .any, dflt := 1 }
  | 2 => some { ty := 0x02, len := 2, cls := 3, rng := .any, dflt := 1330 }
  | 3 => some { ty := 0x04, len := 8, cls := 3, rng := .any, dflt := 0 }
  | 4 => some { ty := 0x03, len := 4, cls := 3, rng := .any, dflt := 0 }
  | 5 => some { ty := 0x0C, len := 6, cls := 3, rng := .any, dflt := 0 }
  | 6 => some { ty := 0x01, len := 1, cls := 3, rng := .any, dflt := 0 }
  | 7 => some { ty := 0x04, len := 8, cls := 3, rng := .any, dflt := 0 }
  | _ => none

/-- Class of a parameter (Table 16-2). -/
def classOf (a : Nat) : Nat :=
  if a < 0x100 then 3
  else if (0x0510 ≤ a ∧ a ≤ 0x052F) ∨ a = 0x0620 ∨ a = 0x0712 ∨ (0x0B01 ≤ a ∧ a ≤ 0x0B2C) ∨ a = 0x1004 then 1
  else if a = 0x0101 ∨ a = 0x0102 ∨ (0x0201 ≤ a ∧ a ≤ 0x0204) ∨ (0x0A02 ≤ a ∧ a ≤ 0x0A06) then 2
  else 0

/-- What the tables say of index `i` of group `g`. -/
def pTable (variant g i : Nat) : Option PInfo :=
  match g with
  | 0x00 => pGroup00 i
  | 0x01 => pGroup01 variant i
  | 0x02 => pGroup02 i
  | 0x03 => pGroup03 i
  | 0x04 => pGroup04 i
  | 0x05 => pGroup05 i
  | 0x06 => pGroup06 i
  | 0x07 => pGroup07 i
  | 0x08 => pGroup08 i
  | 0x09 => pGroup09 i
  | 0x0A => pGroup0A i
  | 0x0B => pGroup0B i
  | 0x0C => pGroup0C i
  | 0x0D => pGroup0D i
  | 0x0E => pGroup0E i
  | 0x0F => if i < 256 then pU 0 255 (0x07 + 16 * (2 * (i / 32))) else none
  | 0x10 => pGroup10 i
  | 0x16 => pU 0 0xFFFFFFFF 0
  | 0x17 => pU 0 0xFFFFFFFF 0
  | _ => none

/-- The parameter at an address, with its class (R430). -/
def pInfo (variant a : Nat) : Option PInfo :=
  (pTable variant (a / 256) (a % 256)).map fun p => { p with cls := classOf a }

/-- The default of a parameter; 0 where there is none. -/
def parDefault (variant a : Nat) : Nat := ((pInfo variant a).map (·.dflt)).getD 0

/-- Every address that exists, ascending. -/
def parAddrs (variant : Nat) : List Nat := (List.range 0x1800).filter fun a => (pInfo variant a).isSome

/-- A value lies in the parameter's range, on its step, and is finite where it is binary32 (R435 reason 3). -/
def inRange (p : PInfo) (v : Nat) : Bool :=
  match p.rng with
  | .any => true
  | .nat lo hi st => decide (lo ≤ v) && decide (v ≤ hi) && decide (v % st = 0)
  | .int lo hi => decide (lo ≤ toSigned (8 * p.len) v) && decide (toSigned (8 * p.len) v ≤ hi)
  | .rat lo hi =>
    let x : F32 := BitVec.ofNat 32 v
    F32.isFinite x && decide (F32.toRat (F32.ofRat lo) ≤ F32.toRat x) && decide (F32.toRat x ≤ F32.toRat (F32.ofRat hi))
  | .oneOf vs => vs.contains v
  | .node => decide (v % 256 ≤ 4) && decide (v / 256 ≤ 3)

/-- The address is a calibration gain G, whose default is G_nom (Table 5-8). -/
def isGain (a : Nat) : Bool := decide (0x0511 ≤ a) && decide (a ≤ 0x052F) && a % 2 == 1
/-- The default of a parameter under a dictionary: that of a gain is G_nom of the scales which the dictionary holds (Tables 5-5 and 5-8). -/
def dictDefault (variant : Nat) (d : Dict) (a : Nat) : Nat :=
  let v (b : Nat) : Nat := (KV.get? d b).getD (parDefault variant b)
  if !isGain a then parDefault variant a
  else if 0x0520 ≤ a then (F32.ofRat (gNomGref (F32.toRat (BitVec.ofNat 32 (v (0x0530 + (a - 0x0520) / 2)))))).toNat
  else
    let n := (a - 0x0510) / 8
    (F32.ofRat (gNomFe ((a - 0x0510) % 8 / 2) (v (0x0501 + n)) (v (0x0503 + n)))).toNat
/-- The value a dictionary gives a parameter. -/
def dictGet (variant : Nat) (d : Dict) (a : Nat) : Nat := (KV.get? d a).getD (dictDefault variant d a)
/-- A dictionary with a value set; a value equal to the default is not listed, except of a gain, whose default follows other parameters. -/
def dictSet (variant : Nat) (d : Dict) (a v : Nat) : Dict :=
  if v = parDefault variant a ∧ isGain a = false then KV.drop d a else KV.put d a v

/-- The acting value of a parameter as its bits (R432, R437). -/
def parN (s : State) (a : Nat) : Nat := dictGet s.ident.variant s.par.acting a
/-- The acting value of a binary32 parameter. -/
def parF (s : State) (a : Nat) : F32 := BitVec.ofNat 32 (parN s a)
/-- The acting value of a binary32 parameter as a rational. -/
def parR (s : State) (a : Nat) : Rat := F32.toRat (parF s a)
/-- The acting value of a signed parameter. -/
def parI (s : State) (a : Nat) : Int := toSigned (8 * ((pInfo s.ident.variant a).map (·.len)).getD 4) (parN s a)
/-- The acting value of a record or byte string as its bytes. -/
def parBytes (s : State) (a : Nat) : List Byte := leBytes (((pInfo s.ident.variant a).map (·.len)).getD 0) (parN s a)
/-- The committed value of a parameter. -/
def parC (s : State) (a : Nat) : Nat := dictGet s.ident.variant s.par.committed a

/-- HOLD_PERIOD in ticks. -/
def holdPeriod (s : State) : Nat := parN s 0x0202
/-- WAYMARK_ADV in ticks. -/
def waymarkAdv (s : State) : Nat := parN s 0x0203
/-- TREE_POSITION. -/
def treePosition (s : State) : Nat := parN s 0x0204
/-- Dual Strings mode acts (R37). -/
def dualStrings (s : State) : Bool := parN s 0x0101 == 1
/-- A string is enabled and not ignored by single Strings mode (R37). -/
def strEnabled (s : State) (x : Ix) : Bool :=
  testBit (parN s 0x0102) x.num && (x == .zero || dualStrings s)
/-- The strings that are enabled. -/
def enabledStrings (s : State) : List Ix := [Ix.zero, Ix.one].filter (strEnabled s)

/-- The boundary at which a committed change of a parameter acts (Table 16-3, R105, R264, R391, R416). -/
def boundOf (a : Nat) : Option Bound :=
  match a / 256 with
  | 0x02 => if a % 256 = 5 then some .cycle else none
  | 0x03 => if a % 256 = 5 ∨ a % 256 = 6 then some .tick else some .enumeration
  | 0x04 => if a % 256 < 0x20 then some .unit else some .frameClose
  | 0x05 => some .tick
  | 0x06 => some .frameClose
  | 0x07 => if 0x10 ≤ a % 256 ∧ a % 256 ≤ 0x1B then some .frameUpdate else some .tick
  | 0x08 => some .frameUpdate
  | 0x09 => if a % 256 < 0x40 then some (.slot (a % 256)) else some (.slot (a % 64))
  | 0x0A => some .holding
  | 0x0B => some .protection0
  | 0x0C => some .tick
  | 0x0D => if a % 256 ≥ 0x40 then some .basic0 else some .basic
  | 0x0E => some .tick
  | 0x10 => some .session
  | _ => none

end Sys2Proof.Machine
end

