-- ==== Sys2Proof/Machine/Ops.lean ====
section
/-! DEFINITION. The operations that commands share: guards, data encodings, events and the ledger queue, mailbox
responses, long commands, outputs, and the taking up of committed parameters. -/

namespace Sys2Proof.Machine

open Sys2Proof

/-! ### Guards -/

/-- At least one reference is present (R4, R52). -/
def refPresent (s : State) : Bool := s.clk.refOk.zero || s.clk.refOk.one
/-- The card has power and at least one reference runs it, outside clockless hold (R4, R47, R62). -/
def clocked (s : State) : Bool := s.elec.powered && !s.elec.clockless && refPresent s
/-- The firmware of an image runs (R451). -/
def running (s : State) : Bool := clocked s && s.elec.fw
/-- The module is active (Table 1-3). -/
def isActive (s : State) : Bool := s.pair.role == .active
/-- The module is active and holds the ownership line: it drives the "owner only" paths (R28, R29). -/
def drives (s : State) : Bool := running s && isActive s && s.outr.owner
/-- Synchronisation is held (MODE_STAT.SYNC). -/
def synced (s : State) : Bool := s.grid.sync

/-! ### Data encodings of Table 15-3 and little-endian payload fields -/

/-- One byte. -/
def u8 (n : Nat) : List Byte := leBytes 1 n
/-- Two bytes. -/
def u16 (n : Nat) : List Byte := leBytes 2 n
/-- Four bytes. -/
def u32 (n : Nat) : List Byte := leBytes 4 n
/-- Six bytes. -/
def u48 (n : Nat) : List Byte := leBytes 6 n
/-- Eight bytes. -/
def u64 (n : Nat) : List Byte := leBytes 8 n
/-- A binary32 value. -/
def fb (x : F32) : List Byte := leBytes 4 x.toNat
/-- A signed two-byte value. -/
def s16 (i : Int) : List Byte := leBytes 2 (ofSigned 16 i)
/-- A truth value as 1 for the first-named state and 0 for the second. -/
def ub (b : Bool) : List Byte := u8 (bit b)
/-- A string, ring, port or bus. -/
def ux (x : Ix) : List Byte := u8 x.num
/-- A stamp in the layout of R414. -/
def ustamp (t : Stamp) : List Byte := u64 t.word

/-! ### Time -/

/-- Nanoseconds in the units of UPTIME (1/8 ns). -/
def ns (n : Nat) : Nat := 8 * n
/-- Microseconds in the units of UPTIME. -/
def us (n : Nat) : Nat := 8000 * n
/-- Milliseconds in the units of UPTIME. -/
def ms (n : Nat) : Nat := 8000000 * n
/-- Seconds in the units of UPTIME. -/
def sec (n : Nat) : Nat := 8000000000 * n
/-- Time since an instant has reached a duration. -/
def passed (s : State) (since dur : Nat) : Bool := decide (since + dur ≤ s.elec.uptime)

/-- The current cycle of the module's grid. -/
def curCycle (s : State) : Nat := s.grid.now / 128
/-- The current tick within the cycle. -/
def curTick (s : State) : Nat := s.grid.now % 128
/-- The stamp of a tick given as cycle times 128 plus tick, at its start. -/
def stampOf (n : Nat) : Stamp := { cycle := n / 128, tick := n % 128, pos := 0 }
/-- The stamp of the present instant (R413): 0 before the module first has a grid; its position in the tick is free. -/
def stampNow (s : State) : Stamp :=
  if s.grid.on then { cycle := curCycle s, tick := curTick s, pos := (Config.subTick s.freeCtr).toNat } else Stamp.zero
/-- The stamp of the present tick with the position 0, as T_ACCEPT and T_DONE carry it (Table 14-3). -/
def stampTick (s : State) : Stamp := if s.grid.on then stampOf s.grid.now else Stamp.zero
/-- One free value has been taken. -/
def takeFree (s : State) : State := { s with freeCtr := s.freeCtr + 1 }
/-- A new handle, and the state after taking it (R401, R403). -/
def newHandle (s : State) : Nat × State := ((Config.handle s.freeCtr).toNat, takeFree s)

/-! ### Changes of mode (R32) -/

/-- The record of a change of Role, Seed, Hold or Clock with its cycle:tick (R32). The spec gives these records no event number and no
layout; the model keeps them as a list beside the numbered records (DESIGN CHOICE, log 129). -/
def noteMode (s : State) (m : ModeKind) (value : Nat) : State :=
  { s with ev := { s.ev with modes := s.ev.modes ++ [{ at_ := stampTick s, mode := m, value := value }] } }
/-- The same where a value has changed. -/
def noteIf (s : State) (changed : Bool) (m : ModeKind) (value : Nat) : State := if changed then noteMode s m value else s
/-- Moving to a role, recorded where it is a change. -/
def setRole (s : State) (r : Role) : State :=
  noteIf { s with pair := { s.pair with role := r } } (s.pair.role != r) .role r.code
/-- SEED of the module, recorded where it is a change. -/
def setSeed (s : State) (b : Bool) : State :=
  noteIf { s with est := { s.est with seed := b } } (s.est.seed != b) .seed (bit b)
/-- New clock state of the module, whose CLOCK is recorded where it is a change. -/
def setClk (s : State) (c : ClkState) : State :=
  noteIf { s with clk := c } (s.clk.bypass != c.bypass) .clock (bit c.bypass)

/-! ### Outputs -/

/-- Putting something out. -/
def emit (s : State) (o : Out) : State := { s with sent := s.sent ++ [o] }
/-- Putting several things out, in order. -/
def emits (s : State) (os : List Out) : State := { s with sent := s.sent ++ os }

/-! ### Host ports and MSI-X vectors (R410) -/

/-- Changing one port. -/
def modPort (s : State) (p : Ix) (f : PortState → PortState) : State :=
  { s with host := { s.host with port := s.host.port.modify p f } }
/-- The port is up (R395). -/
def portUp (s : State) (p : Ix) : Bool := (s.host.port.get p).up
/-- Sending vector `n` of a port: a masked vector is left pending, an unmasked one puts its message out (R410). -/
def sendVector (s : State) (p : Ix) (n : Nat) : State :=
  if !portUp s p then s
  else match (s.host.port.get p).msix[n]? with
    | none => s
    | some e =>
      if e.masked then modPort s p fun q => { q with msix := modAt q.msix n fun e => { e with pend := true } }
      else emit s (.vector p n)

/-! ### Events (R412 to R419) and the ledger queue (R421, R423, R427) -/

/-- The forced events (R417). -/
def forcedEvent (e : Nat) : Bool :=
  e == 3 || e == 42 || e == 44 || (192 ≤ e && e ≤ 208) || (248 ≤ e && e ≤ 250) || (252 ≤ e && e ≤ 254)

/-- An occurrence raised now. -/
def mkOcc (s : State) (evt : Nat) (data : List Byte) : Occ :=
  { evt := evt, at_ := stampNow s, sync := synced s, active := isActive s, slotB := s.elec.slotB, deferred := false,
    data := data }

/-- Records an occurrence takes: one for each 36 bytes of data, at most 3, at least 1 (R421). -/
def Occ.parts (o : Occ) : Nat := if o.data.length ≤ 36 then 1 else if o.data.length ≤ 72 then 2 else 3

/-- An occurrence enters the write queue, or is dropped when 1,024 wait (R423). -/
def enqueue (s : State) (o : Occ) : State :=
  if s.ev.queue.length < 1024 then { s with ev := { s.ev with queue := s.ev.queue ++ [o] } }
  else { s with ev := { s.ev with
    dropped := s.ev.dropped + 1, overflow := true,
    afterDrop := if s.ev.dropped = 0 then some (s.ev.next + (s.ev.queue.map Occ.parts).sum - s.ev.part)
                 else s.ev.afterDrop } }

/-- The store of R415 holds the newest occurrence of each event. -/
def storeLast (s : State) (o : Occ) : State := { s with ev := { s.ev with last := KV.put s.ev.last o.evt o } }

/-- Setting an event pending on a port and signalling vector 16 + VEC when it becomes pending unmasked (R418). -/
def signal (s : State) (p : Ix) (evt vec : Nat) : State :=
  let q := s.host.port.get p
  let g := evt / 32
  let b := evt % 32
  if !q.up then s
  else
    let was := testBit (q.pend.getD g 0) b
    let s := if was then s else modPort s p fun q => { q with pend := modAt q.pend g fun w => w + 2 ^ b }
    if !was && !testBit (q.mask.getD g 0) b then sendVector s p (16 + vec) else s

/-- Signalling an occurrence on the ports its route names (R416). -/
def signalBoth (s : State) (evt : Nat) : State :=
  let r := parN s (0x0F00 + evt)
  let s := if testBit r 1 then signal s .zero evt (r / 16) else s
  if testBit r 2 then signal s .one evt (r / 16) else s

/-- An occurrence is routed to the ledger: always for a forced event (R417). -/
def toLedger (s : State) (evt : Nat) : Bool := forcedEvent evt || testBit (parN s (0x0F00 + evt)) 0

/-- Raising an occurrence past any freeze: stored, signalled and queued. -/
def raisePast (s : State) (evt : Nat) (data : List Byte) : State :=
  let o := mkOcc s evt data
  let s := signalBoth (storeLast (takeFree s) o) evt
  if toLedger s evt then
    (if s.elec.scanned then enqueue s o else { s with ev := { s.ev with early := s.ev.early ++ [o] } })
  else s

/-- A record is present: valid, at or above the floor, and among the newest 65,536 (R425). -/
def isPresent (s : State) (r : LedRec) : Bool :=
  r.valid && decide (s.ev.floor ≤ r.seq) && decide (r.seq < s.ev.next) && decide (s.ev.next < r.seq + 65537)
/-- The present record of a SEQ. -/
def present (s : State) (seq : Nat) : Option LedRec :=
  (KV.get? s.ev.slots (seq % 65536)).filter fun r => r.seq == seq && isPresent s r

/-- A clear takes effect: the floor rises, never falls, and EV 249 follows with the records it hides (R428). -/
def applyClear (s : State) (upto port ring tag : Nat) : State :=
  let floor := max s.ev.floor (min (upto + 1) s.ev.next)
  let hidden := (s.ev.slots.filter fun p => isPresent s p.2 && decide (p.2.seq < floor)).length
  let s := { s with ev := { s.ev with floor := floor, floorMram := (floor, complement 8 floor), clear := none } }
  raisePast s 249 (u8 port ++ u8 ring ++ u32 tag ++ u64 floor ++ u64 hidden)

/-- Data of the freeze summary (Table 15-6). -/
def freezeSummary (f : FreezeRec) (cause : Nat) : List Byte :=
  ustamp f.start ++ f.counts.flatMap (fun n => u16 (sat 0xFFFF n)) ++ u32 f.counts.sum ++ ux f.port ++ u8 cause

/-- The end of a freeze: the summary is queued ahead of anything raised later, then a waiting clear takes effect (R427, R428). -/
def endFreeze (s : State) (cause : Nat) : State :=
  match s.ev.freeze with
  | none => s
  | some f =>
    let s := { s with ev := { s.ev with freeze := none, freezeEnd := some s.elec.uptime,
                                        frzCnt := sat 0xFFFF f.counts.sum } }
    let s := raisePast s 248 (freezeSummary f cause)
    match s.ev.clear with
    | none => s
    | some (u, p, r, t) => applyClear s u p r t

/-- Raising an event (R413): while the ledger is frozen a forced event ends the freeze and any other is only counted (R427). -/
def raise (s : State) (evt : Nat) (data : List Byte) : State :=
  match s.ev.freeze with
  | none => raisePast s evt data
  | some f =>
    if !toLedger s evt then raisePast s evt data
    else if forcedEvent evt then raisePast (endFreeze s 3) evt data
    else
      let o := mkOcc s evt data
      let s := signalBoth (storeLast (takeFree s) o) evt
      { s with ev := { s.ev with freeze := some { f with counts := modAt f.counts (evt / 32) (· + 1) },
                                 frzCnt := sat 0xFFFF (f.counts.sum + 1) } }

/-- Raising an event when a condition holds. -/
def raiseIf (s : State) (c : Bool) (evt : Nat) (data : List Byte) : State := if c then raise s evt data else s

/-- Raising an event at most once for each mark of time (a cycle, a second): `key` tells repeats apart, `mark` is the cycle or
the like in which it was last raised (R46 and the owning rules). -/
def raiseOnce (s : State) (evt key mark : Nat) (data : List Byte) : State :=
  if KV.get? s.ev.rate (evt, key) = some mark then s
  else raise { s with ev := { s.ev with rate := KV.put s.ev.rate (evt, key) mark } } evt data

/-- An occurrence raised for an earlier moment and written after the restart with DEFERRED = 1 (R421). -/
def raiseDeferred (s : State) (evt : Nat) (at_ : Stamp) (data : List Byte) : State :=
  let o : Occ := { mkOcc s evt data with at_ := at_, deferred := true }
  enqueue (signalBoth (storeLast (takeFree s) o) evt) o

/-- The bytes of a ledger record with the given VALID (Table 15-4). -/
def ledBytes (seq : Nat) (o : Occ) (more : Bool) (part : Nat) (data : List Byte) : List Byte :=
  let body := u64 seq ++ ustamp o.at_ ++ u8 o.evt ++
    u8 (bit o.sync + 2 * bit o.active + 4 * bit o.slotB + 8 * bit more + 16 * bit o.deferred) ++
    u8 data.length ++ u8 part ++ data ++ List.replicate (36 - data.length) 0
  body ++ u32 (crc32c body) ++ u32 ((seq % 2 ^ 32) ^^^ 0xC3C3C3C3)
/-- The bytes of a record as written. -/
def LedRec.bytes (r : LedRec) : List Byte := ledBytes r.seq r.occ r.more r.part r.data

/-- Writing one record of an occurrence at the next SEQ; a record whose two read-backs fail leaves its slot invalid (R420, R422). -/
def writeRecord (s : State) (o : Occ) (part : Nat) (ok : Bool) : State :=
  let seq := s.ev.next
  let r : LedRec := { seq := seq, occ := o, more := decide (part + 1 < o.parts), part := part,
                      data := slice o.data (36 * part) 36, valid := ok }
  { s with ev := { s.ev with slots := KV.put s.ev.slots (seq % 65536) r, next := seq + 1 } }

/-- Writing every record of an occurrence, each read back well. -/
def writeWhole (s : State) (o : Occ) : State :=
  (List.range o.parts).foldl (fun s p => writeRecord s o p true) s

/-! ### Mailbox responses (R398 to R403) -/

/-- Payload lengths a command accepts (Tables 14-16, 16-4, 15-7, 17-8); none for an opcode that does not exist (R402, R403). -/
def opcodeLens : Nat → Option (Nat → Bool)
  | 0x0001 | 0x0002 | 0x0012 | 0x0013 | 0x0020 | 0x0021 | 0x0022 | 0x0104 | 0x0106 => some (· == 0)
  | 0x0003 | 0x0105 | 0x0107 => some (· == 8)
  | 0x0008 | 0x000A | 0x0060 | 0x0102 => some (· == 16)
  | 0x0009 | 0x0030 | 0x0051 | 0x0070 | 0x0071 | 0x0072 | 0x0100 => some (· == 1)
  | 0x0010 => some (· == 5)
  | 0x0011 => some (fun n => n ≤ 4032)
  | 0x0031 | 0x0081 => some (· == 4)
  | 0x0032 => some (· == 8)
  | 0x0033 | 0x0103 => some (· == 2)
  | 0x0040 | 0x0050 | 0x0061 => some (· == 12)
  | 0x0080 => some (fun n => 8 ≤ n && n ≤ 72)
  | 0x0101 => some (· == 9)
  | 0x0120 => some (· == 18)
  | 0x0121 => some (· == 16)
  | 0x0122 | 0x0126 | 0x0127 => some (· == 0)
  | 0x0123 => some (· == 6)
  | 0x0124 => some (· == 1)
  | 0x0125 => some (· == 8)
  | _ => none

/-- What the module answers an entry at once, by OPCODE and LEN alone; none when a command is to run (R402, R403). -/
def entryVerdict (e : MbxEntry) : Option Status :=
  match opcodeLens e.opcode with
  | none => some .badOpcode
  | some f => if f e.len then none else some .badLength

/-- Changing one mailbox ring of a port. -/
def modRing (s : State) (p : Ix) (r : Nat) (f : MbxRing → MbxRing) : State :=
  modPort s p fun q => { q with rings := modAt q.rings r f }
/-- One mailbox ring of a port. -/
def mbxRing (s : State) (p : Ix) (r : Nat) : MbxRing := ((s.host.port.get p).rings[r]?).getD {}

/-- Writing one response into the entry at DONE, then DONE, then the vector of the ring if it was asked for (R399, R410). -/
def writeResponse (s : State) (h : Hdr) (op : Nat) (st : Status) (detail longId : Nat) (holder : Option (Nat × Nat × Nat))
    (payload : List Byte) : State :=
  let r := mbxRing s h.port h.ring
  let resp : Response :=
    { ring := h.ring, entry := r.done % 32, opcode := op, tag := h.tag, status := st, detail := detail, longId := longId,
      holder := holder, tAccept := stampTick s, tDone := stampTick s, payload := payload }
  let s := modPort s h.port fun q =>
    { q with responses := resp :: q.responses.filter fun x => !(x.ring == h.ring && x.entry == r.done % 32) }
  let s := modRing s h.port h.ring fun r =>
    { r with done := if r.done = r.prod then r.done else (r.done + 1) % 64, waiting := r.waiting.drop 1,
             toCnt := if st = .timeout then sat 0xFF (r.toCnt + 1) else r.toCnt }
  if h.raise then sendVector s h.port h.ring else s

/-- Entries at the head of a ring that the module answers by OPCODE and LEN alone are answered in turn (R399, R402). -/
def answerBad (p : Ix) (ring : Nat) : Nat → State → State
  | 0, s => s
  | n + 1, s =>
    match (mbxRing s p ring).waiting with
    | [] => s
    | e :: _ =>
      match entryVerdict e with
      | none => s
      | some st =>
        answerBad p ring n
          (writeResponse s { port := p, ring := ring, tag := e.tag, raise := e.raise } e.opcode st 0 0 none [])

/-- A response in full, after which bad entries behind it are answered. -/
def respondFull (s : State) (h : Hdr) (op : Nat) (st : Status) (detail longId : Nat) (holder : Option (Nat × Nat × Nat))
    (payload : List Byte) : State :=
  if !portUp s h.port then s
  else
    let s := writeResponse s h op st detail longId holder payload
    answerBad h.port h.ring 32 s
/-- OK with a payload. -/
def respondOk (s : State) (h : Hdr) (op : Nat) (payload : List Byte) : State := respondFull s h op .ok 0 0 none payload
/-- A status with a DETAIL and no payload. -/
def respond (s : State) (h : Hdr) (op : Nat) (st : Status) (detail : Nat) : State := respondFull s h op st detail 0 none []
/-- BUSY naming the holder (R400). -/
def respondBusy (s : State) (h : Hdr) (op : Nat) (holder : Nat × Nat × Nat) : State :=
  respondFull s h op .busy 0 0 (some holder) []

/-- A host command reaches the firmware: the port is up and the firmware runs (R395, R399). -/
def hostReady (s : State) (h : Hdr) : Bool := running s && portUp s h.port && decide (h.ring < 8)
/-- A host command that the boot loader answers too (R451). -/
def loaderReady (s : State) (h : Hdr) : Bool :=
  clocked s && (s.elec.fw || s.elec.loader) && portUp s h.port && decide (h.ring < 8)

/-! ### Long commands (R401, R402) -/

/-- Accepting a long command: it gets a LONG_ID and ACCEPTED is written. -/
def acceptLong (s : State) (h : Hdr) (op : Nat) : Nat × State :=
  let (id, s) := newHandle s
  let rec_ : LongRec :=
    { id := id, port := h.port, ring := h.ring, tag := h.tag, opcode := op, status := .pending, detail := 0, resp := [],
      ended := false, doneAt := Stamp.zero, doneUp := 0, reported := false }
  let s := { s with host := { s.host with longs := s.host.longs ++ [rec_] } }
  (id, respondFull s h op .accepted 0 id none [])

/-- Results kept after an end: at most 64, older ones dropped first (R402). -/
def trimLongs (ls : List LongRec) : List LongRec :=
  let excess := (ls.filter (·.ended)).length - 64
  (ls.foldl (fun (acc : Nat × List LongRec) l =>
    if l.ended && decide (0 < acc.1) then (acc.1 - 1, acc.2) else (acc.1, acc.2 ++ [l])) (excess, [])).2

/-- The end of a long command: its final status and response are kept for LONG_QUERY and for EV 051 (R402). -/
def endLong (s : State) (id : Nat) (st : Status) (detail : Nat) (resp : List Byte) : State :=
  { s with host := { s.host with longs := trimLongs (s.host.longs.map fun l =>
    if l.id = id ∧ l.ended = false then
      { l with status := st, detail := detail, resp := resp, ended := true, doneAt := stampTick s,
               doneUp := s.elec.uptime, reported := false }
    else l) } }

/-- Ending the long command of a handle, where there is one. -/
def endLongOpt (s : State) (id : Option Nat) (st : Status) (detail : Nat) (resp : List Byte) : State :=
  match id with
  | none => s
  | some i => endLong s i st detail resp

/-- A long command that ends within the step that accepts it. -/
def longAtOnce (s : State) (h : Hdr) (op : Nat) (st : Status) (detail : Nat) (resp : List Byte) : State :=
  let (id, s) := acceptLong s h op
  endLong s id st detail resp

/-! ### Committed parameters taking effect (R433, R437) -/

/-- Every committed change that waits for a boundary passing the test comes into force. -/
def applyPending (s : State) (due : Bound → Nat → Bool) : State :=
  let take := s.par.pending.filter fun p => due p.1 p.2.1
  { s with par := { s.par with
    acting := take.foldl (fun d p => dictSet s.ident.variant d p.2.1 p.2.2) s.par.acting,
    pending := s.par.pending.filter fun p => !due p.1 p.2.1 } }

/-- Every change that waits for one boundary comes into force. -/
def applyBound (s : State) (b : Bound) : State := applyPending s fun x _ => x == b

/-! ### Small updates used throughout -/

/-- Changing one ring. -/
def modCar (s : State) (r : Ix) (f : RingState → RingState) : State := { s with ring := s.ring.modify r f }
/-- Changing one string's protection. -/
def modProt (s : State) (x : Ix) (f : ProtState → ProtState) : State := { s with prot := s.prot.modify x f }
/-- Changing one string's estimate. -/
def modStr (s : State) (x : Ix) (f : StrEst → StrEst) : State :=
  { s with est := { s.est with str := s.est.str.modify x f } }
/-- Changing one front end. -/
def modFe (s : State) (x : Ix) (f : FeState → FeState) : State :=
  { s with front := { s.front with fe := s.front.fe.modify x f } }
/-- Changing one CAN bus. -/
def modBus (s : State) (b : Ix) (f : CanBus → CanBus) : State :=
  { s with can := { s.can with bus := s.can.bus.modify b f } }
/-- Changing one PCS. -/
def modPcs (s : State) (x : Ix) (f : PcsState → PcsState) : State :=
  { s with can := { s.can with pcs := s.can.pcs.modify x f } }
/-- Changing one control slot. -/
def modSlot (s : State) (n : Nat) (f : SlotState → SlotState) : State :=
  { s with ctl := { s.ctl with slots := modAt s.ctl.slots n f } }
/-- Slots of the last latch whose evaluation is late: each returns to what it was before it, and is counted at the next latch (R267). -/
def markLate (s : State) (m : Nat) : State :=
  let m := m &&& s.ctl.lastDue
  { s with ctl := { s.ctl with
    lateNow := s.ctl.lateNow ||| m,
    slots := (s.ctl.slots.zip s.ctl.before).mapIdx fun n p =>
      if testBit m n then
        { p.2 with bankB := p.1.bankB, tracking := p.1.tracking, validFrom := p.1.validFrom, badFrom := p.1.badFrom, badInput := p.1.badInput,
                   nonfN := p.1.nonfN, lostN := p.1.lostN, lateN := p.1.lateN }
      else p.1 } }
/-- The engine stops evaluating and keeps no loop state (R253); banks in force, the last completed evaluations and the counts stay. -/
def stopLoops (s : State) : State :=
  { s with ctl := { s.ctl with
    lastDue := 0, lateNow := 0,
    slots := s.ctl.slots.map fun k =>
      { bankB := k.bankB, e := k.e, p := k.p, d := k.d, v := k.v, iEval := k.iEval, uEval := k.uEval, evalAt := k.evalAt,
        lateN := k.lateN, nonfN := k.nonfN, lostN := k.lostN } } }

end Sys2Proof.Machine
end

