-- ==== Sys2Proof/Machine/Outrider.lean ====
section
/-! DEFINITION. The outrider's shared operations: coil switches, hold bits and holds, the ownership line, changes of STATE,
and trips (R304 to R343). -/

namespace Sys2Proof.Machine

open Sys2Proof

/-- One coil of a string. -/
def ProtState.coil (p : ProtState) : Coil → CoilState
  | .kPos => p.kPos
  | .kNeg => p.kNeg
  | .pre => p.pre
/-- Changing one coil of a string. -/
def ProtState.modCoil (p : ProtState) (c : Coil) (f : CoilState → CoilState) : ProtState :=
  match c with
  | .kPos => { p with kPos := f p.kPos }
  | .kNeg => { p with kNeg := f p.kNeg }
  | .pre => { p with pre := f p.pre }
/-- The three coils. -/
def coils : List Coil := [.kPos, .kNeg, .pre]
/-- Changing every coil of a string. -/
def ProtState.allCoils (p : ProtState) (f : CoilState → CoilState) : ProtState :=
  { p with kPos := f p.kPos, kNeg := f p.kNeg, pre := f p.pre }

/-- The string is the module's at all: on the MSC2-S15 and in single Strings mode string 1, its ring and its coils are ignored (R8, R37). -/
def coilsFitted (s : State) (x : Ix) : Bool := x == .zero || (s.ident.variant != 2 && dualStrings s)
/-- An outrider latch keeps the string's coils off (R312, R330). -/
def outrLatched (p : ProtState) : Bool := p.outrTrip || p.holdExp
/-- A trip of the string stands (R326). -/
def tripped (p : ProtState) : Bool := p.outrTrip || p.procTrip || p.holdExp

/-- The outrider drives from its hold bits: a hold is in progress, or the overlap of a release runs (R330, R331). -/
def fromHoldBits (s : State) : Bool := s.outr.hold != .none || s.outr.overlap

/-- The high-side switch of a coil conducts (R318, R330). -/
def hsOn (s : State) (x : Ix) (c : Coil) : Bool :=
  let p := s.prot.get x
  let k := p.coil c
  s.elec.powered && coilsFitted s x && !outrLatched p &&
    (if fromHoldBits s then (s.outr.owner || s.outr.overlap) && k.holdBit else s.outr.owner && k.reqHs)
/-- The low-side switch of a coil conducts (R318, R329, R330). -/
def lsOn (s : State) (x : Ix) (c : Coil) : Bool :=
  let p := s.prot.get x
  let k := p.coil c
  s.elec.powered && coilsFitted s x && !outrLatched p &&
    (if fromHoldBits s then (s.outr.owner || s.outr.overlap) && k.holdBit else s.outr.owner && k.reqLs && !p.procTrip)

/-- Node levels that Table 11-4 expects from what the switches do. -/
def expectNodes : Bool → Bool → Node × Node
  | false, false => (.mid, .mid)
  | true, false => (.high, .high)
  | false, true => (.low, .low)
  | true, true => (.high, .low)

/-- After any change of drive: the nodes stand as the switches put them, a coil whose switches are off is no longer energised,
and on an owner in no hold each hold bit follows the module's own drive (R319, R330). -/
def settleString (s : State) (x : Ix) : State :=
  let upd (c : Coil) (k : CoilState) : CoilState :=
    let h := hsOn s x c
    let l := lsOn s x c
    let n := expectNodes h l
    { k with a := n.1, b := n.2, energised := k.energised && h && l,
             holdBit := if s.outr.owner && !fromHoldBits s then h && l else k.holdBit }
  let s := if s.outr.owner || s.outr.overlap then
      modProt s x fun p => { p with kPos := upd .kPos p.kPos, kNeg := upd .kNeg p.kNeg, pre := upd .pre p.pre }
    else s
  modProt s x fun p => { p with linkBroken := p.linkBroken || !p.linkClosed }
/-- Both strings after a change of drive. -/
def settleCoils (s : State) : State := settleString (settleString s .zero) .one

/-- The processor's requests of one coil (R318). -/
def setReq (s : State) (x : Ix) (c : Coil) (hs ls : Bool) : State :=
  settleString (modProt s x fun p => p.modCoil c fun k => { k with reqHs := hs, reqLs := ls }) x
/-- Withdrawing every request of a string (R306, R322). -/
def dropReqs (s : State) (x : Ix) : State :=
  settleString (modProt s x fun p => p.allCoils fun k => { k with reqHs := false, reqLs := false }) x
/-- Clearing the hold bits of a string (R330). -/
def dropHoldBits (s : State) (x : Ix) : State :=
  settleString (modProt s x fun p => p.allCoils fun k => { k with holdBit := false }) x

/-- The held coils as the mask of R333: K+, K−, precharge of string 0 in bits 0 to 2, of string 1 in bits 3 to 5. -/
def heldMask (s : State) : Nat :=
  let m (p : ProtState) : Nat := bit p.kPos.holdBit + 2 * bit p.kNeg.holdBit + 4 * bit p.pre.holdBit
  m s.prot.zero + 8 * m s.prot.one

/-- Raising an event that the processor records at once while its firmware runs, and after the next restart otherwise (R333, R421). -/
def raiseOrDefer (s : State) (evt : Nat) (data : List Byte) : State :=
  if running s then raise s evt data
  else
    let o : Occ := { mkOcc s evt data with deferred := true }
    takeFree { s with ev := { s.ev with early := s.ev.early ++ [o] } }

/-- A change of STATE with its EV 201, cause coded under R326. -/
def setStrState (s : State) (x : Ix) (st : StrState) (cause : Nat) : State :=
  let old := (s.prot.get x).st
  if old = st then s
  else
    let s := modProt s x fun p => { p with st := st, closedUp := if st = .closed then s.elec.uptime else p.closedUp }
    raiseOrDefer s 201 (ux x ++ u8 old.code ++ u8 st.code ++ u8 cause)

/-- A change of STATE on the module that owns the line; a non-owner raises no EV 201 (R326). -/
def ownState (s : State) (x : Ix) (st : StrState) (cause : Nat) : State := if s.outr.owner then setStrState s x st cause else s
/-- What STATE reads on a module that does not own the line: the partner's last, and OPEN while the peer link is down (R326). -/
def partnerState (s : State) (x : Ix) : StrState :=
  if s.pair.linkUp then (s.pair.peer.map fun r => StrState.decode (r.str.get x).2.2).getD .opened else .opened
/-- Both strings of a module that does not own the line read the partner's STATE (R326). -/
def readPartner (s : State) : State :=
  if s.outr.owner then s
  else { s with prot := { zero := { s.prot.zero with st := partnerState s .zero }, one := { s.prot.one with st := partnerState s .one } } }
/-- A weld check falls due 100 ms from now, for these LONG_IDs beside those that wait already (R322). -/
def weldDue (s : State) (x : Ix) (ids : List Nat) : State :=
  modProt s x fun p => { p with weldFor := some (p.weldFor.getD [] ++ ids), weldUp := s.elec.uptime, weldLow := false }
/-- An orderly open in progress ends here: its commands are answered by the weld check that follows (R322). -/
def openToWeld (s : State) (x : Ix) : State :=
  weldDue (modProt s x fun p => { p with openSeq := none }) x ((((s.prot.get x).openSeq).map (·.ids)).getD [])

/-- STATE as the readback shows it (R326). -/
def readbackState (p : ProtState) : Option StrState :=
  let on (k : CoilState) : Bool := k.a == .high && k.b == .low
  if on p.kPos && on p.kNeg && !on p.pre then some .closed
  else if !on p.kPos && !on p.kNeg && !on p.pre then some .opened
  else none

/-- STATE of a string on a module that owns the line, where the processor has not driven it: tripped by a latch, held while a hold drives it, else
as the readback shows (R326). -/
def judgeState (s : State) (x : Ix) : State :=
  if !coilsFitted s x then s
  else
    let p := s.prot.get x
    if tripped p then ownState s x .tripped 2
    else if s.outr.hold != .none then ownState s x .held 3
    else ownState s x ((readbackState p).getD .opened) 4

/-- A hold begins: the outrider drives both switches of every coil from the hold bits, strings without a trip read held, and
EV 196 is raised (R326, R330, R333). -/
def beginHold (s : State) (c : HoldCause) : State :=
  let s := { s with outr := { s.outr with hold := c, restart := c == .restart } }
  let s := settleCoils s
  let s := judgeState (judgeState s .zero) .one
  raiseOrDefer s 196 (u8 c.evCode ++ u8 (heldMask s) ++ u8 1 ++ u8 0)

/-- After a hold a string takes the STATE its readback shows, with cause 3; a tripped one, such as one whose trip the new active adopts, reads
tripped; one that shows neither CLOSED nor OPEN is opened through HOLD_DROP with the cause given (R326, R356). -/
def stateAfterHold (s : State) (x : Ix) (cause : Nat) : State :=
  let p := s.prot.get x
  if p.st != .held then s
  else if tripped p then ownState (dropReqs (dropHoldBits s x) x) x .tripped 2
  else match readbackState p with
    | some st => ownState s x st 3
    | none => ownState (dropReqs (dropHoldBits s x) x) x .opened cause

/-- A hold ends: 1 acknowledged, 2 expired, 3 released, 4 reference returned (R333). -/
def endHold (s : State) (how cause : Nat) : State :=
  if s.outr.hold = .none then s
  else
    let c := s.outr.hold
    let mask := heldMask s
    let s := { s with outr := { s.outr with hold := .none } }
    let s := raiseOrDefer s 196 (u8 c.evCode ++ u8 mask ++ u8 0 ++ u8 how)
    let s := stateAfterHold (stateAfterHold s .zero cause) .one cause
    settleCoils s

/-- The reading of the line that means this module owns it. -/
def ownReading (s : State) : OwnLine := if s.elec.slotB then .bOwns else .aOwns
/-- The reading of the line that means the partner owns it. -/
def partnerReading (s : State) : OwnLine := if s.elec.slotB then .aOwns else .bOwns
/-- The partner asserts the line (OUTR_STAT.PARTNER_OWNS). -/
def partnerOwns (s : State) : Bool := s.outr.line == partnerReading s

/-- A processor that believes itself active without the line: BLOCK and EV 207 with the role, OWNER and PARTNER_OWNS (R329). -/
def judgeBlock (s : State) : State :=
  if running s && isActive s && !s.outr.owner && !s.outr.block then
    raise { s with outr := { s.outr with block := true } } 207 (u8 s.pair.role.code ++ ub s.outr.owner ++ ub (partnerOwns s))
  else s

/-- Releasing the line: the outrider drives on from its hold bits in the release overlap, a hold in progress ends, and a takeover that follows is
absorbed in an orderly release already accepted (R331, R342, R352). -/
def releaseLine (s : State) : State :=
  let s := settleCoils s
  let c := s.outr.hold
  let s := if c = .none then s else raiseOrDefer s 196 (u8 c.evCode ++ u8 (heldMask s) ++ u8 0 ++ u8 3)
  let s := settleCoils { s with
    outr := { s.outr with owner := false, asserting := false, line := .free, overlap := true, hold := .none, released := some s.elec.uptime },
    pair := { s.pair with req := s.pair.req.map fun q => { q with gone := true } } }
  judgeBlock (readPartner s)

/-- The threshold code that a parameter value gives (R313): current through HALL_A_PER_V, voltage through 200 V per V. -/
def roundHalfUp (q : Rat) : Int := (q + 1 / 2).floor
/-- Code of a current threshold, `amps` negative for discharge (R313). -/
def currentCode (amps : Rat) (hall : Nat) : Nat := (roundHalfUp ((amps / hall + 21 / 4) * 390)).toNat % 4096
/-- Code of a voltage threshold (R313). -/
def voltageCode (v : Nat) : Nat := (roundHalfUp (((v : Rat) / 200 + 21 / 2) * 195)).toNat % 4096
/-- The code of OUTR_THRk that the acting parameters give; k = 5 × string + comparator (R313). -/
def thrCode (s : State) (k : Nat) : Nat :=
  let x := k / 5
  let c := k % 5
  let v := parN s (0x0B20 + 8 * x + c)
  let hall := parN s (0x0503 + x)
  match c with
  | 0 => currentCode v hall
  | 1 => currentCode (-(v : Rat)) hall
  | _ => voltageCode v
/-- The threshold that a code sets, in A or V at the string (Table 11-3). -/
def thrValue (s : State) (k : Nat) : Rat :=
  let c : Rat := (s.outr.thr[k]?).getD 0
  if k % 5 < 2 then (-(21 / 4) + c * (21 / 2) / 4095) * parN s (0x0503 + k / 5) else (-(21 / 2) + c * 21 / 4095) * 200
/-- Loading every threshold from the acting parameters. -/
def loadThresholds (s : State) : State :=
  { s with outr := { s.outr with thr := (List.range 10).map (thrCode s) } }

/-- Aborting a close sequence: every coil opens and its long command ends FAILED with the cause in DETAIL bits 15:8 (R324, Table 14-16). -/
def abortClose (s : State) (x : Ix) (cause : Nat) : State :=
  match (s.prot.get x).close with
  | none => s
  | some q =>
    let s := modProt s x fun p => { p with close := none }
    let s := dropReqs s x
    endLong s q.id .failed (cause * 256) (u8 (s.prot.get x).st.code ++ u16 0)

/-- A trip of the processor path (R307): requests withdrawn, PROC_TRIP and PROC_CAUSE latched, stamp taken, EV 193 raised, a
close sequence aborted, STATE tripped, and the check for a weld to follow (R322, R326). -/
def procTrip (s : State) (x : Ix) (cause : Nat) (value : F32) (unitNo cell : Nat) : State :=
  if (s.prot.get x).procTrip then s
  else
    let s := openToWeld (modProt s x fun p => { p with procTrip := true, procCause := cause, tripStamp := stampNow s }) x
    let s := modPcs s x fun c => { c with tripDue := true }
    let s := dropHoldBits (dropReqs s x) x
    let s := raise s 193 (ux x ++ u8 cause ++ fb value ++ u8 unitNo ++ u8 cell)
    let s := abortClose s x 1
    ownState s x .tripped 2

end Sys2Proof.Machine
end

