-- ==== Sys2Proof/Machine/Restart.lean ====
section
/-! DEFINITION. Restarts and loss of power: what the card keeps (MRAM, NOR flash, the outrider) and what returns to its reset
value (R47, R362, R494). -/

namespace Sys2Proof.Machine

open Sys2Proof

/-- Long commands that a restart cuts off, kept for EV 254 (R402). -/
def cutLongs (s : State) : List (Nat × Nat × Nat × Nat × Nat) :=
  s.ev.aborted ++ (s.host.longs.filter fun l => !l.ended).map fun l => (l.port.num, l.ring, l.tag, l.opcode, l.id)

/-- A restart disqualifies an open learning cycle: EV 166 with reason INTERRUPTED, to be written after the restart (R211, R421). -/
def cutLearning (s : State) (x : Ix) : List Occ :=
  match (s.est.str.get x).learn with
  | none => []
  | some l =>
    if l.disq then []
    else [{ mkOcc s 166 (ux x ++ u8 5 ++ ustamp (stampOf s.grid.now) ++ u16 0 ++ fb 0) with deferred := true }]

/-- The changes of mode that a restart brings: every mode returns to its reset value (R32, R36). -/
def restartModes (s : State) : List ModeRec :=
  let note (changed : Bool) (m : ModeKind) (value : Nat) : List ModeRec :=
    if changed then [{ at_ := stampTick s, mode := m, value := value }] else []
  note (s.pair.role != .standby) .role 0 ++ note s.est.seed .seed 0 ++ note (s.hold.mode != .off) .hold 0 ++ note (!s.clk.bypass) .clock 1

/-- What the ledger keeps in MRAM over a restart, with the occurrences that wait to be written as deferred (R32, R420, R421, R428). -/
def keepLedger (s : State) (powerLost : Bool) : EvState :=
  { slots := s.ev.slots, floorMram := s.ev.floorMram,
    modes := if powerLost then s.ev.modes else s.ev.modes ++ restartModes s,
    early := if powerLost then [] else s.ev.early.filter (·.deferred) ++ cutLearning s .zero ++ cutLearning s .one,
    aborted := if powerLost then [] else cutLongs s }

/-- What the settings areas in NOR flash keep (R443, R449). -/
def keepPar (s : State) : ParState := { areas := s.par.areas, area := s.par.area }
/-- What NOR flash and MRAM keep of updates (R449, R450, R457). -/
def keepUpd (s : State) : UpdBlock :=
  { sel := s.upd.sel, journal := s.upd.journal, image := s.upd.image, shipped := s.upd.shipped, modelArea := s.upd.modelArea,
    ver := s.upd.ver, failCause := s.upd.failCause }
/-- The candidate last confirmed on a bus is kept in the settings area (R366). -/
def keepBus (b : CanBus) : CanBus := { lastCand := b.lastCand, cand := b.lastCand }
/-- The outrider's part of a string's protection, which a restart of the processor leaves as it is (R304, R312, R323); an owner's STATE stays
tripped or held, any other reads OPEN until the peer link is up (R326). -/
def keepProt (owner : Bool) (p : ProtState) : ProtState :=
  let k (c : CoilState) : CoilState := { a := c.a, b := c.b, energised := c.energised, holdBit := c.holdBit }
  { outrTrip := p.outrTrip, outrCause := p.outrCause, fltLoop := p.fltLoop, holdExp := p.holdExp, live := p.live,
    loopLive := p.loopLive, tripStamp := Stamp.zero, kPos := k p.kPos, kNeg := k p.kNeg, pre := k p.pre,
    st := if !owner then .opened else if outrLatched p then .tripped else if p.st = .held then .held else .opened, report := p.report }

/-- A restart from power-up step 3 with a restart cause of Table 15-2: every register returns to its reset value, the outrider
and what MRAM and NOR flash hold stay (R36, R47, R494). -/
def restart (s : State) (cause : Nat) : State :=
  { ident := s.ident,
    elec := { powered := true, step := 3, slotB := s.elec.slotB, strap2s := s.elec.strap2s, cause := cause,
              restarts := sat 0xFFFF (s.elec.restarts + 1), lastTick := s.elec.lastTick, gapFrom := s.elec.lastTick },
    clk := { refOk := s.clk.refOk, sel := s.clk.sel },
    fus := { modelStaged := s.fus.modelStaged },
    est := { maxSeq := max s.est.maxSeq s.est.lastSeq },
    prot := s.prot.map (keepProt s.outr.owner),
    outr := { s.outr with block := false, released := none },
    pair := { present := s.pair.present, eject := s.pair.eject },
    can := { bus := s.can.bus.map keepBus },
    ev := keepLedger s false,
    par := keepPar s,
    upd := keepUpd s,
    pending := s.pending, sent := s.sent, freeCtr := s.freeCtr + 1 }

/-- The card without power: it drives nothing and keeps only what MRAM, NOR flash and its straps hold (R477, R479). -/
def powerOff (s : State) : State :=
  { ident := s.ident,
    elec := { restarts := s.elec.restarts, lastTick := s.elec.lastTick },
    fus := { modelStaged := s.fus.modelStaged },
    est := { maxSeq := max s.est.maxSeq s.est.lastSeq },
    can := { bus := s.can.bus.map keepBus },
    ev := keepLedger s true,
    par := keepPar s,
    upd := keepUpd s,
    pending := s.pending, sent := s.sent, freeCtr := s.freeCtr }

/-- Power-good: the outrider latches the straps, the presence pin is read, and power-up step 2 begins (R339, R478). -/
def powerUp (s : State) (slotB strap2s present : Bool) : State :=
  { ident := s.ident,
    elec := { powered := true, step := 2, slotB := slotB, strap2s := strap2s, cause := 1,
              restarts := sat 0xFFFF (s.elec.restarts + 1), lastTick := s.elec.lastTick, gapFrom := s.elec.lastTick },
    fus := { modelStaged := s.fus.modelStaged },
    est := { maxSeq := s.est.maxSeq },
    pair := { present := present },
    can := { bus := s.can.bus.map keepBus },
    ev := keepLedger s true,
    par := keepPar s,
    upd := keepUpd s,
    pending := s.pending, sent := s.sent, freeCtr := s.freeCtr }

end Sys2Proof.Machine
end

