-- ==== Sys2Proof/Machine/Modes.lean ====
section
/-! DEFINITION. Changes of mode that several families share: Hold and the head role (R272, R297, R299), CAN bus states (R364),
the loss and return of synchronisation (R40, R83), and the lapse of a schedule (R462). -/

namespace Sys2Proof.Machine

open Sys2Proof

/-- Rank of a position: its index in LEAD_ORDER, 0 for none (R272). -/
def rankOf (s : State) (pos : Nat) : Nat :=
  if parN s 0x0A02 = pos then 1 else if parN s 0x0A03 = pos then 2 else if parN s 0x0A04 = pos then 3
  else if parN s 0x0A05 = pos then 4 else 0
/-- Rank of this module's own position. -/
def ownRank (s : State) : Nat := rankOf s (treePosition s)

/-- Hold state that the position gives its active module (Table 10-1). -/
def configuredHold (s : State) : HoldMode :=
  if s.grid.head then .lead else if ownRank s ≠ 0 then .shadowLead else if parN s 0x0A01 = 1 then .member else .off

/-- A change of Hold, recorded under R32; a change of lead raises EV 098 with position, rank, new role and cause: 1 power-up, 2 takeover, 3 head loss,
4 yield, 5 LEAD_MOVE (R297). -/
def setHold (s : State) (m : HoldMode) (cause : Nat) : State :=
  let was := s.hold.mode
  let s := noteIf { s with hold := { s.hold with mode := m } } (was != m) .hold m.code
  if (was == .lead) != (m == .lead) then
    raise s 98 (u16 (treePosition s) ++ u8 (ownRank s) ++ u8 m.code ++ u8 cause)
  else s

/-- Cancelling every pending message of a bus; a frame already committed completes and is not retried (R380). -/
def cancelAll (c : CanBus) : CanBus :=
  let gone := c.queue ++ c.hostBuf.filterMap id
  { c with queue := [], hostBuf := List.replicate 8 none, tx := c.tx.map fun m => { m with cancelled := true },
           done := (gone.filter (·.kind == .host)).foldl (fun d m => KV.put d m.handle false) c.done }

/-- A change of a CAN bus state with its EV 225. The cause is the row of Table 13-2: 1 restart, 2 active and rate known, 3 start of a basic
cycle, 4 SYNC = 0, 5 bus-off, 6 transition to standby or isolated, 7 detection rerun. -/
def setCan (s : State) (b : Ix) (st : CanState) (cause : Nat) : State :=
  let old := (s.can.bus.get b).st
  if old = st then s
  else raise (modBus s b fun c => { (if st = .listenOnly then cancelAll c else c) with st := st }) 225
    (ux b ++ u8 old.code ++ u8 st.code ++ u8 cause)

/-- A scheduled bus falls to normal when synchronisation is lost (R40). -/
def canUnsync (s : State) : State :=
  let f (s : State) (b : Ix) : State := if (s.can.bus.get b).st = .scheduled then setCan s b .normal 4 else s
  f (f s .zero) .one

/-- Both buses go to listen-only before a module becomes standby or isolated (R44). -/
def canSilent (s : State) : State := setCan (setCan s .zero .listenOnly 6) .one .listenOnly 6

/-- The newer journal record (R457). -/
def journalOf (s : State) : Option Journal :=
  match s.upd.journal.zero, s.upd.journal.one with
  | some a, some b => if a.seq < b.seq then some b else some a
  | some a, none => some a
  | none, b => b
/-- The update state (R454): trial when the selector says so, else what the journal holds. -/
def selOf (s : State) : Option SelRec :=
  match s.upd.sel.zero, s.upd.sel.one with
  | some a, some b => if a.seq < b.seq then some b else some a
  | some a, none => some a
  | none, b => b
/-- MODE_STAT.UPDATE (Table 1-3). -/
def updState (s : State) : UpdState :=
  if (selOf s).any (·.trial) then .trial else ((journalOf s).map (·.st)).getD .idle

/-- Writing the journal record with the next SEQ into the older position (R457). -/
def writeJournal (s : State) (j : Journal) : State :=
  let seq := (((journalOf s).map (·.seq)).getD 0) + 1
  let pos : Ix := match s.upd.journal.zero, s.upd.journal.one with
    | none, _ => .zero
    | _, none => .one
    | some a, some b => if a.seq < b.seq then .zero else .one
  { s with upd := { s.upd with journal := s.upd.journal.set pos (some { j with seq := seq }) } }
/-- Writing the selector record with the next SEQ into the older position (R450). -/
def writeSel (s : State) (r : SelRec) : State :=
  let seq := (((selOf s).map (·.seq)).getD 0) + 1
  let pos : Ix := match s.upd.sel.zero, s.upd.sel.one with
    | none, _ => .zero
    | _, none => .one
    | some a, some b => if a.seq < b.seq then .zero else .one
  { s with upd := { s.upd with sel := s.upd.sel.set pos (some { r with seq := seq }) } }

/-- A schedule lapses to verified with EV 243: 3 lapsed, C_act, reason 1 SYNC, 2 PAIR, 3 MISSED (R462). -/
def lapseSchedule (s : State) (reason : Nat) : State :=
  match journalOf s with
  | none => s
  | some j =>
    if j.st ≠ .scheduled then s
    else
      let s := writeJournal s { j with st := .verified }
      raise { s with upd := { s.upd with lapsed := true } } 243 (u8 3 ++ u48 j.actCycle ++ u8 reason)

/-- SYNC becomes 0 (R40, R67, R82): Hold off, scheduled buses fall to normal, the record of the last accepted cycle is cleared. -/
def loseSync (s : State) : State :=
  let f (t : StreamState) : StreamState := { t with lastNamed := none }
  let g := s.grid
  let s := { s with grid := { g with sync := false, holdFrom := none, syncAt := none, u0 := f g.u0, u1 := f g.u1, peer := f g.peer } }
  canUnsync (setHold s .off 4)

/-- SYNC becomes 1; Hold may return at the first holding-period boundary at least 8 cycles later (R40, R83). A module whose waymark
advance is too short stays unsynchronised (R78). -/
def regainSync (s : State) : State :=
  if s.grid.sync || s.grid.advShort then s
  else { s with grid := { s.grid with sync := true, syncAt := none, holdFrom := some (curCycle s + 8) } }

/-- Own cumulative delay in 1/8 ns: 0 at the angle source, else that of the selected port (R74). -/
def ownDelay (s : State) : Nat :=
  if s.grid.head then 0 else match s.grid.sel with | .zero => s.grid.u0.d | .one => s.grid.u1.d

/-- The highest cycle number the module holds (R67, R74). -/
def highestCycle (s : State) : Nat :=
  max (max s.grid.foundCycle (if s.grid.on then curCycle s else 0)) (max s.grid.u0.cycleMax s.grid.u1.cycleMax)

/-- H × P_66 of R87 in ns does not exceed 2 × D_max + t_lead + t_slot, with D_max in 1/8 ns. -/
def budgetFails (s : State) (dMax : Nat) : Bool :=
  decide (8 * (holdPeriod s * 118371) ≤ 2 * dMax + 8 * 50000 + 8 * 1000 * parN s 0x0D03)
/-- The least H that satisfies R87, at least 4. -/
def leastH (s : State) (dMax : Nat) : Nat :=
  max 4 ((2 * dMax + 8 * 50000 + 8 * 1000 * parN s 0x0D03) / (8 * 118371) + 1)
/-- The check of R87 at the route head; EV 016 carries the least H, once while the finding stands. -/
def budgetCheck (s : State) (dMax : Nat) : State :=
  let short := budgetFails s dMax
  let s' := { s with grid := { s.grid with budgetShort := short } }
  if short then
    let s' := if s.grid.budgetShort then s' else raise s' 16 (u16 (leastH s dMax))
    setHold s' .off 4
  else s'

/-- Beginning to act as angle source (R67): the grid and its numbers continue while synchronisation is held, and start at one more
than the highest cycle number found otherwise; its frequency is that of the grid it held, else the nominal one. A cause other than power-up makes
its active module lead at once; at power-up it becomes lead at step 11. -/
def becomeHead (s : State) (cause : Nat) : State :=
  if s.grid.head then s
  else
    let cont := s.grid.sync && s.grid.on
    let hz : Rat := if 0 < s.grid.period then 8000000000 / (128 * s.grid.period) else parN s 0x0201
    let g := { s.grid with
      freq := max 45 (min 66 hz), angErr := 0, badRefs := 0, outRefs := 0, goodRefs := 0, refSeen := false, slew := false, virt := false,
      head := true, coast := false, coastAge := 0, coastTicks := 0, depth := 0, resync := none, yielding := false, syncAt := none,
      on := true, sync := true, now := if cont then s.grid.now else (highestCycle s + 1) * 128,
      holdFrom := if cont then s.grid.holdFrom else some 0 }
    let s' := { s with grid := g, elec := { s.elec with ownNumbering := s.elec.ownNumbering || !cont } }
    let s' := budgetCheck s' s'.grid.dMax
    if cause ≠ 1 && isActive s' && !s'.grid.budgetShort then setHold s' .lead cause else s'

/-- The position ceases to act as angle source and becomes shadow lead; with no upstream port connected it stays unsynchronised (R40, R299, R300). -/
def leaveHead (s : State) (cause : Nat) : State :=
  if !s.grid.head then s
  else
    let s := { s with grid := { s.grid with head := false, yielding := false } }
    if !s.grid.u0.linkUp && !s.grid.u1.linkUp then
      let s := setHold s .off cause
      if s.grid.sync then raise (loseSync s) 10 [] else s
    else setHold s (if isActive s && s.grid.sync then .shadowLead else .off) cause

end Sys2Proof.Machine
end

