-- ==== Sys2Proof/Machine/Caravan.lean ====
section
/-! DEFINITION. Meanings of the caravan ring commands: enumeration, triggers, records, transactions, lost units, ring breaks and the
refreshing of balancing (chapter 3). -/

namespace Sys2Proof

/-- A native frame passes its CRC, has the type expected and a LEN that agrees with its length and the type's (R93, R96). -/
def CarFrame.good (f : CarFrame) (type : Nat) (lens : List Nat) : Bool :=
  f.crc == crc16 ([f.dst, f.type, f.src, f.seq] ++ beBytes 2 f.len ++ f.payload) && f.type.toNat == type &&
    f.len == f.payload.length && lens.contains f.len
/-- A compatibility frame passes its CRC and its LEN agrees with its length (R94, R96). -/
def Car12Frame.good (f : Car12Frame) (len : Nat) : Bool :=
  f.crc == crc16 ([f.hop, f.type, f.len] ++ f.payload) && f.len.toNat == f.payload.length && f.payload.length == len

end Sys2Proof

namespace Sys2Proof.Machine

open Sys2Proof

/-- The ring of the module. -/
def car (s : State) (r : Ix) : RingState := s.ring.get r
/-- Changing the unit of an address. -/
def modUnit (s : State) (r : Ix) (addr : Nat) (f : UnitState → UnitState) : State :=
  modCar s r fun c => { c with units := c.units.map fun u => if u.addr = addr then f u else u }
/-- The unit of an address. -/
def unitAt (s : State) (r : Ix) (addr : Nat) : Option UnitState := (car s r).units.find? fun u => u.addr == addr
/-- The module drives the ring's traffic: it drives its outputs, has a grid and serves the ring in a given mode. -/
def drivesRing (s : State) (r : Ix) (compat : Bool) : Bool := drives s && (car s r).served && (car s r).compat == compat

/-- A frame discarded on a ring, and EV 075 when more than 16 fall within 128 cycles (R96). -/
def discardCar (s : State) (r : Ix) : State :=
  let c := curCycle s
  let at_ := (c :: (car s r).discAt).filter fun d => decide (c < d + 128)
  let high := decide (16 < at_.length)
  let was := (car s r).discHigh
  let s := modCar s r fun k => { k with disc := sat 0xFFFF (k.disc + 1), discAt := at_, discHigh := high }
  raiseIf s (high && !was) 75 (ux r ++ u16 at_.length)

/-- The end on which a unit is reached: end B beyond a break (R118). -/
def unitEnd (s : State) (r : Ix) (addr : Nat) : Bool := (car s r).split && decide ((car s r).breakAfter < addr)
/-- The ends on which broadcasts go out: end A, and both in split operation (R97, R118). -/
def ringEnds (s : State) (r : Ix) : List Bool := if (car s r).split then [false, true] else [false]
/-- Taking the next SEQ of a ring. -/
def nextSeq (s : State) (r : Ix) : Nat × State := ((car s r).seq, modCar s r fun c => { c with seq := (c.seq + 1) % 256 })

/-- The tick 0 at which a BALANCE sent now takes effect: the next one, or the one after it once the trigger of that tick is on its way
(R237). -/
def balanceFrom (s : State) (r : Ix) : Nat :=
  let n := (curCycle s + 1) * 128
  if (car s r).trigSent.any fun t => decide (n ≤ t) then n + 128 else n
/-- Sending a native command to a unit; each expects a reply and is remembered for its timeout (Table 3-5, R106). -/
def sendUnit (s : State) (r : Ix) (addr type : Nat) (payload : List Byte) : State :=
  let (q, s) := nextSeq s r
  let s := modCar s r fun c =>
    { c with txns := c.txns ++ [{ unit := addr, type := type, seq := q, payload := payload, retries := 0,
                                  eff := if type = 0x08 then balanceFrom s r else 0 }] }
  let s := modUnit s r addr fun u => { u with lastCmd := (type, q) }
  emit s (.caravan r (unitEnd s r addr) addr type q payload)
/-- Sending a native broadcast on the ends in use. -/
def sendAll (s : State) (r : Ix) (type : Nat) (payload : List Byte) : State :=
  let (q, s) := nextSeq s r
  emits s ((ringEnds s r).map fun e => .caravan r e 0xFF type q payload)
/-- Sending a compatibility command to the unit of an address, by its hop count (R114). -/
def sendHop (s : State) (r : Ix) (addr type : Nat) (payload : List Byte) : State :=
  let (q, s) := nextSeq s r
  let s := modCar s r fun c =>
    { c with txns := c.txns ++ [{ unit := addr, type := type, seq := q, payload := payload, retries := 0 }] }
  let s := modUnit s r addr fun u => { u with lastCmd := (type, q) }
  emit s (.caravan12 r addr type payload)

/-- Data of EV 068: TYPE and SEQ of the last command sent to the unit, the cause, lost or returned (R501). -/
def lostData (r : Ix) (u : UnitState) (cause : Nat) (lost : Bool) : List Byte :=
  ux r ++ u8 u.addr ++ u8 u.lastCmd.1 ++ u8 u.lastCmd.2 ++ u8 cause ++ ub lost
/-- Marking a unit lost: EV 068 with cause 1 retries spent or 2 deadline missed (R106, R107, R501). -/
def markLost (s : State) (r : Ix) (addr cause : Nat) : State :=
  match unitAt s r addr with
  | none => s
  | some u =>
    if u.lost then s
    else
      let s := modUnit s r addr fun u => { u with lost := true, returning := false, misses := 0, owPending := none, owQueued := 0 }
      let s := modCar s r fun c => { c with lostCnt := sat 0xFF (c.lostCnt + 1), txns := c.txns.filter fun t => t.unit != addr }
      raise s 68 (lostData r u cause true)
/-- A lost unit that has answered returns to service at tick 0 (R107, R501). -/
def returnUnits (s : State) (r : Ix) : State :=
  let back := (car s r).units.filter fun u => u.lost && u.returning
  back.foldl (fun s u =>
    raise (modUnit s r u.addr fun v => { v with lost := false, returning := false, misses := 0 }) 68 (lostData r u 0 false)) s

/-- Eight duty bytes from 16 nibbles, cell 1 in the high nibble of byte 0 (R111). -/
def dutyBytes : List Nat → List Byte
  | a :: b :: rest => toByte (a * 16 + b) :: dutyBytes rest
  | _ => []
/-- BALANCE to a unit with its BSEQ and duties in force (R236). -/
def sendBalance (s : State) (r : Ix) (addr : Nat) : State :=
  match unitAt s r addr with
  | none => s
  | some u => sendUnit s r addr 0x08 (toByte u.bseq :: dutyBytes u.duty)
/-- The 16 nibbles of eight duty bytes. -/
def readDuties : List Byte → List Nat
  | [] => []
  | b :: rest => b.toNat / 16 :: b.toNat % 16 :: readDuties rest
/-- The duties in force at tick `n`: those acknowledged last of the ones that took effect at or before it (R237, R238). -/
def dutyAt (u : UnitState) (n : Nat) : List Nat := ((u.duties.find? fun p => decide (p.1 ≤ n)).map (·.2)).getD []
/-- Time after its last acknowledged refresh at which a unit stops balancing (R112, R239). -/
def balLimit (s : State) (r : Ix) : Nat := if (car s r).compat then ms 2048 else ms (parN s 0x0712)
/-- Acknowledged duties enter the record with the tick 0 from which they are in force; a unit that had stopped begins with them. -/
def withDuty (s : State) (r : Ix) (u : UnitState) (eff : Nat) (d : List Nat) : UnitState :=
  let old := if passed s u.balAt (balLimit s r) then [] else u.duties
  { u with duties := if old.head?.any (fun p => p.2 == d) then old else ((eff, d) :: old).take 8, balAt := s.elec.uptime }
/-- The mask of BAL12: every cell with a duty on (R239). -/
def bal12Mask (u : UnitState) : Nat :=
  ((u.duty.take 12).zipIdx.map fun p => if p.1 = 0 then 0 else 2 ^ p.2).sum
/-- A change of duties of a unit: a new BSEQ on a native ring, BAL12 on a compatibility ring (R236, R239). -/
def setDuty (s : State) (r : Ix) (addr : Nat) (duty : List Nat) : State :=
  let s := modUnit s r addr fun u => { u with duty := duty, bseq := (u.bseq + 1) % 256, balResent := false, dutyHeld := none }
  if (car s r).compat then
    match unitAt s r addr with
    | none => s
    | some u => sendHop s r addr 0x85 (beBytes 2 (bal12Mask u))
  else sendBalance s r addr

/-- Populated-channel mask configured for a unit (R104). -/
def popParam (s : State) (r : Ix) (addr : Nat) : Nat :=
  parN s ((if r = .zero then 0x0340 else 0x0360) + (addr - 1))
/-- The WATCH and WATCH_EN bytes for the nominated cells, numbered from 1 (Table 3-6). -/
def watchBytes (cells : List Nat) : Nat × Nat :=
  match cells with
  | [] => (0, 0)
  | [a] => ((a - 1) * 16, 1)
  | a :: b :: _ => ((a - 1) * 16 + (b - 1), 3)
/-- CONFIG payload of a unit, with the values last committed: they act at the unit's next tick 0 (Table 3-6, R105). -/
def configPayload (s : State) (r : Ix) (u : UnitState) : List Byte :=
  let w := watchBytes u.watch
  let bto := parC s 0x0712 / 64
  let ov := parC s 0x0B05
  let uv := parC s 0x0B06
  let base := if r = .zero then 0x0410 else 0x0418
  [toByte (parC s (0x0401 + r.num))] ++ (List.range 6).map (fun k => toByte (parC s (base + k))) ++ [toByte w.1] ++
    beBytes 2 u.pop ++ [toByte bto, toByte (complement 1 bto)] ++ beBytes 2 ov ++ beBytes 2 (complement 2 ov) ++
    beBytes 2 uv ++ beBytes 2 (complement 2 uv) ++ [toByte w.2]
/-- CONFIG12 payload of a unit (Table 3-14). -/
def config12Payload (s : State) (u : UnitState) : List Byte :=
  beBytes 2 (parC s 0x0B05) ++ beBytes 2 (parC s 0x0B06) ++ beBytes 2 (u.pop % 4096)
/-- Sending a unit its configuration. -/
def sendConfig (s : State) (r : Ix) (addr : Nat) : State :=
  match unitAt s r addr with
  | none => s
  | some u => if u.gen16 then sendUnit s r addr 0x06 (configPayload s r u) else sendHop s r addr 0x86 (config12Payload s u)

/-! ### Enumeration (R101 to R104) -/

/-- DLY in 2 ns units from the round trips of an end in 1/2 ns: that of their mean, rounded to the nearest integer, 0 where none was measured
(R102). -/
def dlyOf (rts : List Nat) : Nat :=
  let n := rts.length
  if n = 0 then 0 else ((130000 + 4) * n - rts.sum) / (8 * n)

/-- What step 2, 3 or 5 of Table 3-3 leaves as the failed step of a ring with lock at both ends; none when all three agree. -/
def enumFault (f : RingFind) : Option Nat :=
  match f.count with
  | none => some 2
  | some n => if f.idents.length ≠ n ∨ f.idents.any (·.isNone) = true then some 3 else none

/-- A unit of a ring that is not served: no record of it counts. -/
def dropRecs (u : UnitState) : UnitState := 
  { u with recs := [], v12 := [], t12 := [], owPending := none, owQueued := 0, dutyHeld := none }
/-- The ring is not served: the units of its table stay and every cell of theirs is missing (R103, R117). -/
def ringUnserved (s : State) (r : Ix) (finding : Nat) : State :=
  modCar s r fun c => { c with served := false, enumDone := false, enumFrom := none, known := true, finding := finding,
                               units := c.units.map dropRecs, split := false, breakAfter := 0, txns := [], sumDue := none }

/-- Step 5 of Table 3-3: ENUM with CLEAR, then ENUM with NEXT = 1. Two points are the model's choice (log 133): the NEXT of the ENUM with CLEAR
is 1, and on a ring enumerated as two sides both frames go out on both ends with NEXT = 1. -/
def enumAddresses (s : State) (r : Ix) : State := sendAll (sendAll s r 0x01 [1, 1]) r 0x01 [0, 1]
/-- The 16 echo probes of one end. -/
def probes (s : State) (r : Ix) (endB : Bool) : State := emits s (List.replicate 16 (.probe r endB))
/-- The delay measurement of a unit (R102): LOOP with mode 1, 16 probes from end A and mode 0; then the same from end B with mode 2. -/
def measureUnit (s : State) (r : Ix) (addr : Nat) : State :=
  let loop (s : State) (m : Nat) : State := sendUnit s r addr 0x04 [toByte m]
  loop (probes (loop (loop (probes (loop s 1) r false) 0) 2) r true) 0
/-- The frames that steps 6 to 8 of Table 3-3 send on a native ring. -/
def enumNative (s : State) (r : Ix) (units : List UnitState) : State :=
  let s := units.foldl (fun s u => measureUnit s r u.addr) s
  let s := units.foldl (fun s u =>
    let s := sendUnit s r u.addr 0x05 (beBytes 2 u.dlyF ++ beBytes 2 u.dlyR)
    sendBalance (sendConfig s r u.addr) r u.addr) s
  sendAll s r 0x07 (beBytes 4 (curCycle s + 1))

/-- The frames of step 7 on a compatibility ring. -/
def enumCompat (s : State) (r : Ix) (units : List UnitState) : State :=
  units.foldl (fun s u => sendHop (sendConfig s r u.addr) r u.addr 0x85 [0, 0]) s

/-- The unit table that an enumeration gives, with what the module already held of a unit of the same serial (R104, R503). -/
def tableOf (s : State) (r : Ix) (f : RingFind) : List UnitState :=
  let old := (car s r).units
  f.idents.zipIdx.filterMap fun (i, k) =>
    i.map fun d =>
      let addr := k + 1
      let base : UnitState := (old.find? fun u => u.serial == d.serial && u.gen16 == d.gen16).getD
        { addr := addr, gen16 := d.gen16, serial := d.serial, dlyF := 0, dlyR := 0, pop := 0 }
      let pop := if d.gen16 then popParam s r addr else popParam s r addr % 4096
      { base with addr := addr, dlyF := dlyOf (f.rtA.getD k []), dlyR := dlyOf (f.rtB.getD k []), pop := pop, lost := false,
                  returning := false, misses := 0, duty := List.replicate 16 0, dutyHeld := none, fwVer := d.fwVer,
                  balResent := false, owPending := none, owQueued := 0, selected := [] }

/-- A new unit table has other units or populated channels than the one before (R503). -/
def tableDiffers (s : State) (r : Ix) (units : List UnitState) : Bool :=
  let key (us : List UnitState) : List (Nat × Nat) := us.map fun u => (u.serial, u.pop)
  !(car s r).units.isEmpty && decide (key (car s r).units ≠ key units)

/-- EV 074 for each address whose serial differs from the previous table (R104). -/
def serialEvents (s : State) (r : Ix) (old : List (Nat × Nat)) (units : List UnitState) : State :=
  units.foldl (fun s u =>
    match KV.get? old u.addr with
    | none => s
    | some o => raiseIf s (o != u.serial) 74 (ux r ++ u8 u.addr ++ u64 o ++ u64 u.serial)) s

/-- The ring is served with the units found (Table 3-4); the enumeration ends at the first cycle with every record received (Table 3-3). -/
def ringServed (s : State) (r : Ix) (f : RingFind) (compat split : Bool) : State :=
  let units := tableOf s r f
  let n := units.length
  let want := parN s (0x0301 + r.num)
  let mismatch := decide (want ≠ 0) && want != n
  let old := (car s r).oldSerials
  let differ := tableDiffers s r units
  let s := modCar s r fun c =>
    { c with enumDone := false, enumFrom := some (curCycle s), known := true, compat := compat, mixed := false, split := split, breakAfter := if split then min f.fromA n else 0,
             countMismatch := c.countMismatch || mismatch, count := n, served := true, units := units,
             oldSerials := units.map fun u => (u.addr, u.serial), changed := c.changed || differ, txns := [], lRing := f.lRing,
             finding := if split then 3 else if mismatch then 1 else 0, trigFirst := none, trigSent := none, sumDue := none, sumHalf := none }
  let s := serialEvents s r old units
  let s := raiseIf s mismatch 71 (ux r ++ u8 n ++ u8 want)
  let s := raiseIf s split 65 (ux r ++ u8 (min f.fromA n) ++ u8 4)
  let s := if split then modCar s r fun c => { c with splitCnt := sat 0xFF (c.splitCnt + 1) } else s
  if compat then enumCompat s r units else enumNative s r units

/-- The byte of a unit in CARn_USTATj at tick `n` (Table 19-6); bits 3 to 7 stay 0 on a module that does not drive the ring (R496), and WRAPPED is a
flag of a CU-16 alone (Table 3-7, R116). -/
def unitByte (u : UnitState) (n : Nat) (live : Bool) : Nat :=
  let l (b : Bool) (i : Nat) : Nat := if live && b then 2 ^ i else 0
  1 + 2 * bit u.gen16 + 4 * bit u.lost + l u.flt 3 + l u.missing 4 + l ((dutyAt u n).any (· != 0)) 5 +
    l (u.gen16 && (testBit u.ustat 13 || testBit u.ustat 12)) 6 + l (!u.suspicions.isEmpty) 7
/-- The 32 unit bytes of a ring as its table stands at tick `n`. -/
def unitBytes (c : RingState) (n : Nat) (live : Bool) : List Nat :=
  (List.range 32).map fun i => match c.units.find? fun u => u.addr == i + 1 with
    | some u => unitByte u n live
    | none => 0

/-- Payload of a UNIT_TABLE frame (Table 12-13). -/
def unitTableBytes (c : RingState) (r : Ix) : List Byte :=
  beBytes 1 r.num ++ beBytes 1 c.units.length ++ beBytes 4 c.lRing ++ c.units.flatMap fun u =>
    beBytes 1 u.addr ++ beBytes 1 (if u.gen16 then 0x16 else 0x12) ++ beBytes 8 u.serial ++ beBytes 2 u.dlyF ++ beBytes 2 u.dlyR ++ beBytes 2 u.pop
/-- The owner passes a ring's unit table to the standby after an enumeration and each change (R104, Table 12-3). -/
def sendUnitTable (s : State) (r : Ix) : State :=
  if drives s && s.pair.linkUp then emit s (.peer 0x33 (unitTableBytes (car s r) r)) else s

/-- Steps 2 and 3 of Table 3-3 as often as they were attempted, and step 5 with them on a native ring where step 3 was answered; that an attempt
repeats all of them is the model's choice (log 133). -/
def enumAttempts (s : State) (r : Ix) (f : RingFind) (step5 : Bool) : State :=
  (List.range (max 1 f.attempts)).foldl (fun s _ =>
    let s := emit s (.caravan12 r 0 0x80 [])
    let s := emits s ((List.range (f.count.getD f.idents.length)).map fun k => .caravan12 r (k + 1) 0x81 [])
    if step5 then enumAddresses s r else s) s

/-- Enumeration of one ring (Table 3-3): the findings of Table 3-4 decide whether it is served. The units of a mixed ring are known and all
their cells missing. -/
def enumerate (s : State) (r : Ix) (f : RingFind) : State :=
  if !strEnabled s r then modCar s r fun c => { c with finding := 5 }
  else
    let split := f.lockA != f.lockB
    let was := car s r
    let s := modCar (applyBound s .enumeration) r fun c => { c with lockA := f.lockA, lockB := f.lockB, split := split }
    let ids := f.idents.filterMap id
    let n16 := (ids.filter (·.gen16)).length
    let n12 := ids.length - n16
    let compat := parN s (0x0303 + r.num) == 1
    let fault := if split then none else if f.lockA then enumFault f else some 2
    let other := decide ((if compat then n16 else n12) ≠ 0)
    let s := enumAttempts s r f (!compat && fault.isNone && !other)
    let bad (step : Nat) : State := raise (ringUnserved s r 4) 64 (ux r ++ u8 step ++ u8 f.attempts)
    match fault with
    | some step => bad step
    | none =>
      if other then
        let units := (tableOf s r f).map dropRecs
        let differ := tableDiffers s r units
        raise (modCar (ringUnserved s r 2) r fun c =>
          { c with mixed := true, count := ids.length, compat := n16 = 0, units := units, changed := c.changed || differ }) 70
          (ux r ++ u8 n16 ++ u8 n12)
      else if compat && split then
        raiseIf (modCar (ringUnserved s r 3) r fun c => { c with compat := true, count := ids.length })
          (was.served || was.finding != 3) 65 (ux r ++ u8 0 ++ u8 5)
      else if !compat && !split && f.enumNext ≠ some (ids.length + 1) then bad 5
      else sendUnitTable (ringServed s r f compat split) r

/-- What CARAVAN_REENUM reports of a ring (R403). -/
def reenumReport (s : State) (mask : Nat) (r : Ix) : List Byte :=
  if testBit mask r.num then ux r ++ u8 (car s r).count ++ u8 (car s r).finding ++ u8 0 else []
/-- The CARAVAN_REENUM commands all of whose rings are done end (R101, R402). -/
def endReenums (s : State) : State :=
  let waits (m : Nat) : Bool := [Ix.zero, Ix.one].any fun r => testBit m r.num && (car s r).enumFrom.isSome
  let s := (s.host.reenums.filter fun p => !waits p.2).foldl (fun s p =>
    endLong s p.1 .ok 0 (reenumReport s p.2 .zero ++ reenumReport s p.2 .one)) s
  { s with host := { s.host with reenums := s.host.reenums.filter fun p => waits p.2 } }
/-- The enumeration of a ring ends (Table 3-3). -/
def enumEnds (s : State) (r : Ix) (done : Bool) : State := endReenums (modCar s r fun c => { c with enumDone := done, enumFrom := none })
/-- After a record or reply of frame `c`: an enumeration ends once every unit in service has sent its record of one frame (Table 3-3, R101). -/
def enumProgress (s : State) (r : Ix) (c : Nat) : State :=
  let k := car s r
  if k.enumFrom.any (fun a => decide (a ≤ c)) &&
      k.units.all fun u => u.lost || u.recs.any (fun p => p.1 == c) || u.v12.any (fun p => p.1 == c) then enumEnds s r true
  else s
/-- At a cycle boundary: an enumeration ends with the units found when its 64 cycles are over, and a module that no longer drives the ring
ends none (R47, R101). -/
def enumBound (s : State) (r : Ix) : State :=
  match (car s r).enumFrom with
  | none => s
  | some a => if !drives s then enumEnds s r false else if a + 64 ≤ curCycle s then enumEnds s r true else s

/-- CARAVAN_ENUMERATION (R101): each enabled ring at power-up step 8; a standby takes the owner's unit table instead (R49). -/
def execCaravanEnumeration (f0 f1 : RingFind) (s : State) : Host.Outcome State Fault Refusal :=
  .next (
    if !running s || s.elec.step ≠ 8 then s
    else
      let s := if drives s then enumerate (enumerate s .zero f0) .one f1 else s
      { s with elec := { s.elec with step := 9 }, upd := { s.upd with step8 := true },
               pair := { s.pair with stepsDone := true } })

/-- CARAVAN_REENUM (R101, R403): the rings of the mask are enumerated again, and when the enumerations end a FINDING is reported for each; a module
that does not drive the rings reports them as they stand. -/
def execCaravanReenum (h : Hdr) (mask : Nat) (f0 f1 : RingFind) (s : State) : Host.Outcome State Fault Refusal :=
  .next (
    if !hostReady s h then s
    else
      let (id, s) := acceptLong s h 0x0030
      let one (s : State) (r : Ix) (f : RingFind) : State :=
        if !testBit mask r.num then s
        else if !strEnabled s r then modCar s r fun c => { c with finding := 5 }
        else if drives s then enumerate s r f else s
      let s := one (one s .zero f0) .one f1
      endReenums { s with host := { s.host with reenums := s.host.reenums ++ [(id, mask)] } })

/-- COMPAT_REENUM (R117): enumeration of a broken compatibility ring is re-run every 64 cycles until it is served again. -/
def execCompatReenum (ring : Ix) (find : RingFind) (s : State) : Host.Outcome State Fault Refusal :=
  .next (if drives s && (car s ring).compat && !(car s ring).served then enumerate s ring find else s)

/-! ### Triggers and records -/

/-- TRIGGER_SEND (R97): the trigger of the next tick with ADJ in 2 ns, on end A or on both ends of a split ring; the trigger of tick 127
is followed by CYCLE with the next cycle number. -/
def execTriggerSend (ring : Ix) (waitNs : Nat) (s : State) : Host.Outcome State Fault Refusal :=
  .next (
    if drivesRing s ring false && s.grid.on then
      let n := s.grid.now + 1
      let adj := min 167 ((waitNs + 1) / 2)
      let s := emits s ((ringEnds s ring).map fun e => .trigger ring e (n % 128) adj)
      let s := modCar s ring fun c => { c with trigSent := some n, trigFirst := some (c.trigFirst.getD n) }
      if n % 128 = 127 then sendAll s ring 0x07 (beBytes 4 (n / 128 + 1)) else s
    else s)

/-- SNAP_SEND (R115): SNAP at the trigger of tick 0, then READ_V and READ_T to every unit. -/
def execSnapSend (ring : Ix) (s : State) : Host.Outcome State Fault Refusal :=
  .next (
    if drivesRing s ring true && s.grid.on && curTick s == 0 then
      let s := emit s (.caravan12 ring 0xFF 0x82 (beBytes 4 (curCycle s)))
      (car s ring).units.foldl (fun s u => sendHop (sendHop s ring u.addr 0x83 []) ring u.addr 0x84 []) s
    else s)

/-- The whole cycle number at or below the current one with the given low 16 bits. -/
def fullCycle (s : State) (low : Nat) : Nat := curCycle s - (curCycle s + 65536 - low % 65536) % 65536

/-- One cell block of 240 bits (Table 3-8). -/
def readCell (v : Nat) : CellBlk :=
  { vmean := bits v 239 220, ovr := testBit v 219, smiss := testBit v 218, bal := testBit v 217, binv := testBit v 216,
    bins := (List.range 6).map fun k =>
      (toSigned 18 (bits v (215 - 36 * k) (198 - 36 * k)), toSigned 18 (bits v (197 - 36 * k) (180 - 36 * k))) }
/-- A FEATURE_REC payload (Table 3-7); one with FRAME_MISSING carries only CYC and USTAT. -/
def readFeature (s : State) (b : List Byte) : FeatRec :=
  { cyc := fullCycle s (beAt b 0 2), ustat := beAt b 2 2, orders := (List.range 6).map fun k => byteAt b (4 + k),
    aux := if b.length < 506 then [] else (List.range 8).map fun k => beAt b (10 + 2 * k) 2,
    cells := if b.length < 506 then [] else (List.range 16).map fun k => readCell (beAt b (26 + 30 * k) 30) }

/-- The duty in force over a frame has the cell's resistor on (R238). -/
def dutyOn (u : UnitState) (frame k : Nat) : Bool := decide ((dutyAt u (frame * 128)).getD k 0 ≠ 0)

/-- A record or reply shows BAL_STOPPED that the module did not command: EV 072 and the duties in force at once (R112, R238). -/
def balStopped (s : State) (r : Ix) (addr frame : Nat) : State :=
  let s := raise s 72 (ux r ++ u8 addr ++ u48 frame)
  if (car s r).compat then
    match unitAt s r addr with
    | none => s
    | some u => sendHop s r addr 0x85 (beBytes 2 (bal12Mask u))
  else sendBalance s r addr

/-- The record of a frame is there. -/
def hasRec (u : UnitState) (c : Nat) : Bool := u.recs.any fun p => p.1 == c
/-- A RESEND of the unit's record of a frame is unanswered (R108). -/
def resendWaits (s : State) (r : Ix) (u : UnitState) (c : Nat) : Bool :=
  (car s r).txns.any fun t => t.unit == u.addr && t.type == 0x0D && t.payload == beBytes 2 (c % 65536)
/-- The frame whose record is due (R107, R108, R172): that of the cycle before; that of two cycles before while its record is missing, up to the
delivery deadline and while its RESEND is unanswered. -/
def frameExpected (s : State) (r : Ix) (u : UnitState) (c : Nat) : Bool :=
  !hasRec u c && (c + 1 == curCycle s || (c + 2 == curCycle s && (decide (curTick s ≤ 4) || resendWaits s r u c)))
/-- The frame against which a CYC that names none expected is held (R172). -/
def expectedFrame (s : State) (r : Ix) (u : UnitState) : Nat :=
  let c := curCycle s - 2
  if frameExpected s r u c && (decide (curTick s ≤ 4) || hasRec u (c + 1)) then c else curCycle s - 1

/-- A record as it arrives is stored for its frame and answers a RESEND; a CYC that names no frame expected is noted (R108, R172); BAL_STOPPED,
or a resistor off that the module holds on, makes the module send the duties again (R238). -/
def storeFeature (s : State) (r : Ix) (u : UnitState) (f : FeatRec) : State :=
  if u.recs.contains (f.cyc, f) then s
  else if !frameExpected s r u f.cyc then
    let e := expectedFrame s r u
    modUnit s r u.addr fun u => { u with wrongCyc := ((e, toSigned 16 (f.cyc % 65536 + 65536 - e % 65536)) :: u.wrongCyc).take 4 }
  else
    let s := modUnit s r u.addr fun u =>
      { u with recs := ((f.cyc, f) :: u.recs.filter fun p => p.1 != f.cyc).take 4, ustat := f.ustat, flt := testBit f.ustat 11 }
    let s := modCar s r fun c => { c with txns := c.txns.filter fun t =>
      !(t.unit == u.addr && t.type == 0x0D && t.payload == beBytes 2 (f.cyc % 65536)) }
    let s := enumProgress s r f.cyc
    let idle := f.cells.zipIdx.any fun (b, k) => dutyOn u f.cyc k && !b.bal && testBit u.pop k
    if testBit f.ustat 10 then balStopped s r u.addr f.cyc
    else if idle then sendBalance s r u.addr else s

/-- DELIVERY_DEADLINE (R107, R108): at tick 4 of cycle c + 2 a RESEND goes out for each missing record of frame c, and the eighth miss in
a row marks the unit lost. For the missing record of a unit that is lost already none goes out (the model's choice, log 134). -/
def execDeliveryDeadline (ring : Ix) (s : State) : Host.Outcome State Fault Refusal :=
  .next (
    if drivesRing s ring false && decide (2 ≤ curCycle s) then
      let c := curCycle s - 2
      (car s ring).units.foldl (fun s u =>
        if u.lost then s
        else if u.recs.any (fun p => p.1 == c) then modUnit s ring u.addr fun u => { u with misses := 0 }
        else
          let s := modUnit s ring u.addr fun u => { u with misses := u.misses + 1 }
          let s := sendUnit s ring u.addr 0x0D (beBytes 2 (c % 65536))
          if 8 ≤ u.misses + 1 then markLost s ring u.addr 2 else s) s
    else s)

/-- The reply of a command may still come: an OPENWIRE_REP follows the ACK within 4 cycles (R106). -/
def replyMayCome (s : State) (t : Txn) : Bool := t.acked.any fun n => decide (s.grid.now < n + 512)
/-- TRANSACTION_TIMEOUT (R106): the command is sent again with the same SEQ, or its retries are spent and the unit is lost. A BALANCE that is
sent again takes effect as the one sent last does (log 135). -/
def execTransactionTimeout (ring : Ix) (seq : Nat) (s : State) : Host.Outcome State Fault Refusal :=
  .next (
    match (car s ring).txns.find? fun t => t.seq == seq with
    | none => s
    | some t =>
      if !drives s || replyMayCome s t then s
      else if t.retries < parN s 0x0306 then
        let eff := balanceFrom s ring
        let s := modCar s ring fun c =>
          { c with txns := c.txns.map fun x =>
              if x.seq = seq then { x with retries := x.retries + 1, eff := if x.type = 0x08 then eff else 0, acked := none } else x }
        let s := modUnit s ring t.unit fun u => { u with lastCmd := (t.type, t.seq) }
        if t.type ≥ 0x80 then emit s (.caravan12 ring t.unit t.type t.payload)
        else emit s (.caravan ring (unitEnd s ring t.unit) t.unit t.type seq t.payload)
      else
        let s := modCar s ring fun c => { c with txns := c.txns.filter fun x => x.seq != seq }
        markLost s ring t.unit 1)

/-- LOST_UNIT_POLL (R107): STATUS_REQ once to each lost unit. -/
def execLostUnitPoll (ring : Ix) (s : State) : Host.Outcome State Fault Refusal :=
  .next (
    if drivesRing s ring false then
      ((car s ring).units.filter (·.lost)).foldl (fun s u => sendUnit s ring u.addr 0x13 []) s
    else s)

/-- STATUS_POLL (R135): STATUS_REQ to the next unit of the rotation. -/
def execStatusPoll (ring : Ix) (s : State) : Host.Outcome State Fault Refusal :=
  .next (
    if drivesRing s ring false && !(car s ring).units.isEmpty then
      let k := (car s ring).statusRot % (car s ring).units.length
      let s := modCar s ring fun c => { c with statusRot := k + 1 }
      match (car s ring).units[k]? with
      | none => s
      | some u => if u.lost then s else sendUnit s ring u.addr 0x13 []
    else s)

/-- The ACK of the BALANCE `t`: where its STATUS is the BSEQ sent, the duties sent are in force from the tick 0 at which they take effect
(R236 to R238). -/
def ackBalance (s : State) (r : Ix) (t : Txn) (status : Nat) : State :=
  let addr := t.unit
  match unitAt s r addr with
  | none => s
  | some u =>
    if status = byteAt t.payload 0 then
      modUnit s r addr fun u => { withDuty s r u t.eff (readDuties (t.payload.drop 1)) with balResent := false }
    else if !u.balResent then sendBalance (modUnit s r addr fun u => { u with balResent := true }) r addr
    else setDuty (raise s 177 (ux r ++ u8 addr ++ u8 u.bseq ++ u8 status)) r addr (List.replicate 16 0)

/-- ACK (R106, R236): the command is answered; for a BALANCE its STATUS is compared with the BSEQ sent. -/
def execAck (ring : Ix) (f : CarFrame) (s : State) : Host.Outcome State Fault Refusal :=
  .next (
    if !drivesRing s ring false then s
    else if !f.good 0x09 [3] then discardCar s ring
    else
      let type := byteAt f.payload 0
      let seq := byteAt f.payload 1
      match (car s ring).txns.find? fun t => t.unit == f.src.toNat && t.type == type && t.seq == seq with
      | none => s
      | some t =>
        let s := if type = 0x0B then
            modCar s ring fun c => { c with txns := c.txns.map fun x => if x.seq = seq then { x with acked := some s.grid.now } else x }
          else modCar s ring fun c => { c with txns := c.txns.filter fun t => t.seq != seq }
        let s := if type = 0x06 then modUnit s ring t.unit fun u => { u with cfgRefused := false } else s
        if type = 0x08 then ackBalance s ring t (byteAt f.payload 2) else s)

/-- NAK (R105): a refused CONFIG leaves the unit's previous configuration in force; the command is answered. -/
def execNak (ring : Ix) (f : CarFrame) (s : State) : Host.Outcome State Fault Refusal :=
  .next (
    if !drivesRing s ring false then s
    else if !f.good 0x0A [3] then discardCar s ring
    else
      let mine (t : Txn) : Bool := t.unit == f.src.toNat && t.type == byteAt f.payload 0 && t.seq == byteAt f.payload 1
      let refused := (car s ring).txns.any fun t => mine t && t.type == 0x06
      let s := modCar s ring fun c => { c with txns := c.txns.filter fun t => !mine t }
      if refused then modUnit s ring f.src.toNat fun u => { u with cfgRefused := true } else s)

/-- TICK_SUM_SEND (R110): TICK_SUM with empty extremes for the tick that has ended, if the module sent that tick's trigger. -/
def execTickSumSend (ring : Ix) (s : State) : Host.Outcome State Fault Refusal :=
  .next (
    let c := car s ring
    let t := s.grid.now - 1
    let own := c.trigFirst.any (fun a => decide (a ≤ t)) && c.trigSent.any fun b => decide (t ≤ b)
    if drivesRing s ring false && s.grid.on && decide (0 < s.grid.now) && own then
      let s := sendAll s ring 0x12 ([toByte (t % 128), 0, 0, 0, 0, 0xFF, 0xFF, 0, 0, 0] ++ [0, 0, 0, 0])
      modCar s ring fun c => { c with sumDue := some t, sumHalf := none }
    else s)

/-! ### Ring breaks (R117 to R120) -/

/-- A break is declared: a native ring is split, a compatibility ring is no longer served. Cause: 1 WRAP_NOTICE, 2 lock loss,
3 trigger timeout, 5 compatibility ring (Table 3-16). -/
def declareBreak (s : State) (r : Ix) (after cause : Nat) : State :=
  if !(car s r).served || (car s r).split then s
  else if (car s r).compat then
    raise (modCar (ringUnserved s r 3) r fun c => { c with splitCnt := sat 0xFF (c.splitCnt + 1) }) 65 (ux r ++ u8 0 ++ u8 5)
  else
    raise (modCar s r fun c => { c with split := true, breakAfter := after, splitCnt := sat 0xFF (c.splitCnt + 1), sumHalf := none }) 65
      (ux r ++ u8 after ++ u8 cause)

/-- WRAP_NOTICE (R118): SIDE 1 comes from the last unit before the break, SIDE 2 from the first unit after it. -/
def execWrapNotice (ring : Ix) (f : CarFrame) (s : State) : Host.Outcome State Fault Refusal :=
  .next (
    if !drivesRing s ring false then s
    else if !f.good 0x0E [1] then discardCar s ring
    else match byteAt f.payload 0 with
      | 1 => declareBreak s ring f.src.toNat 1
      | 2 => declareBreak s ring (f.src.toNat - 1) 1
      | _ => s)

/-- RING_LOCK_LOSS (R118): character lock lost at an end for 8 characters. -/
def execRingLockLoss (ring : Ix) (endB : Bool) (s : State) : Host.Outcome State Fault Refusal :=
  .next (
    if !running s then s
    else
      let s := modCar s ring fun c => if endB then { c with lockB := false } else { c with lockA := false }
      if drives s then declareBreak s ring (if endB then (car s ring).count else 0) 2 else s)

/-- RING_TRIGGER_TIMEOUT (R118): a trigger sent on end A is not received at end B; `reached` units answer from end A. -/
def execRingTriggerTimeout (ring : Ix) (reached : Nat) (s : State) : Host.Outcome State Fault Refusal :=
  .next (if drives s then declareBreak s ring (min reached (car s ring).count) 3 else s)

/-- RING_RESTORE (R120): CLEAR_WRAP to both wrapped units, normal operation, and the check of L_ring within 4 ns. -/
def execRingRestore (ring : Ix) (lRing : Nat) (s : State) : Host.Outcome State Fault Refusal :=
  .next (
    let c := car s ring
    if drivesRing s ring false && c.split then
      let k := c.breakAfter
      let s := if 1 ≤ k then sendUnit s ring k 0x0F [] else s
      let s := if k + 1 ≤ c.count then sendUnit s ring (k + 1) 0x0F [] else s
      let d : Int := (lRing : Int) - c.lRing
      let s := modCar s ring fun c => { c with split := false, breakAfter := 0, lockA := true, lockB := true, sumHalf := none }
      raise s 67 (ux ring ++ leBytes 4 (ofSigned 32 d) ++ u8 (bit (decide (8 < d.natAbs))))
    else s)

/-! ### Refreshing of balancing -/

/-- BALANCE_REFRESH (R112, R236): the next unit of the rotation gets its BSEQ and duties in force again. -/
def execBalanceRefresh (ring : Ix) (s : State) : Host.Outcome State Fault Refusal :=
  .next (
    if drivesRing s ring false && !(car s ring).units.isEmpty then
      let k := (car s ring).balRot % (car s ring).units.length
      let s := modCar s ring fun c => { c with balRot := k + 1 }
      match (car s ring).units[k]? with
      | none => s
      | some u => if u.lost then s else sendBalance s ring u.addr
    else s)

/-- BAL12_REFRESH (R115, R239). -/
def execBal12Refresh (ring : Ix) (s : State) : Host.Outcome State Fault Refusal :=
  .next (
    if drivesRing s ring true then
      (car s ring).units.foldl (fun s u => if u.lost then s else sendHop s ring u.addr 0x85 (beBytes 2 (bal12Mask u))) s
    else s)

end Sys2Proof.Machine
end

