-- ==== Sys2Proof/Machine/CellDiag.lean ====
section
/-! DEFINITION. Cell records, watched cells, open-wire tests and the diagnosis of wires and cells (chapter 4). -/

namespace Sys2Proof.Machine

open Sys2Proof

/-- A condition shown once when it arises and once when it clears (R148): the list of conditions that stand, by event and key. -/
def showEvent (s : State) (evt key : Nat) (stands : Bool) (data : Bool → List Byte) : State :=
  let was := s.fus.shown.contains (evt, key)
  if was = stands then s
  else
    let l := s.fus.shown.filter (· ≠ (evt, key))
    raise { s with fus := { s.fus with shown := if stands then l ++ [(evt, key)] else l } } evt (data stands)
/-- A key for a cell, wire or channel of a unit. -/
def cellKey (r : Ix) (addr k : Nat) : Nat := (r.num * 256 + addr) * 256 + k

/-- Ticks of a cycle in the waveform record, newest first. -/
def ticksOf (s : State) (c : Nat) : List TickRec := s.front.hist.filter fun t => t.at_ / 128 == c
/-- Mains frequency f_c of frame `c` in Hz, from the mean of its tick intervals (R77, R130); the grid's present period where none of its ticks is
at hand. -/
def frameHz (s : State) (c : Nat) : Rat :=
  let ls := (ticksOf s c).map (·.len)
  if ls.sum = 0 then (if s.grid.period = 0 then 0 else 8000000000 / (128 * s.grid.period))
  else 8000000000 * ls.length / (128 * ls.sum)
/-- CORNER under which a ring's frame `c` was sampled (R122, R130). -/
def cornerAt (s : State) (r : Ix) (c : Nat) : Nat :=
  (((car s r).corners.find? fun p => decide (p.1 ≤ c)).map (·.2)).getD (parN s (0x0401 + r.num))
/-- The corner filter that acts from cycle `c` on. -/
def noteCorner (s : State) (r : Ix) (c : Nat) : State :=
  let k := parN s (0x0401 + r.num)
  if ((car s r).corners.head?).any fun p => p.2 == k then s
  else modCar s r fun x => { x with corners := ((c, k) :: x.corners).take 4 }
/-- Corner frequency in Hz (Table 4-1). -/
def cornerHz : Nat → Rat
  | 0 => 400
  | 1 => 1200
  | _ => 3000
/-- An order lies in the passband and its alias image in the stopband at a frequency (R130). -/
def orderValidAt (corner h : Nat) (f : Rat) : Bool :=
  decide (h * f ≤ 87 / 100 * cornerHz corner) && decide (3 / 2 * cornerHz corner ≤ (128 - (h : Rat)) * f)
/-- Bin `j` (from 0) of a cell is valid for its frame (R130). -/
def binValid (s : State) (r : Ix) (f : FeatRec) (b : CellBlk) (j : Nat) : Bool :=
  !b.binv && orderValidAt (cornerAt s r f.cyc) (f.orders.getD j 1) (frameHz s f.cyc)
/-- Cells of a unit. -/
def UnitState.cellCount (u : UnitState) : Nat := if u.gen16 then 16 else 12

/-- Reference of a cell's VMEAN code over the last DIAG_REF_FRAMES valid frames; none before there are that many (R143). -/
def vRef (s : State) (u : UnitState) (k : Nat) : Option Rat :=
  let n := parN s 0x0443
  let l := (u.refs.getD k []).take n
  if l.length < n then none else some ((l.sum : Rat) / n)
/-- Reference of bin `j` of order `h` over the last valid frames that carry it (R143). -/
def bRef (s : State) (u : UnitState) (k j h : Nat) : Option (Rat × Rat) :=
  let n := parN s 0x0443
  let l := (((u.binRefs.getD k []).filter fun p => p.1.getD j 0 == h).take n).map fun p => p.2.getD j (0, 0)
  if l.length < n then none else some (((l.map (·.1)).sum : Rat) / n, ((l.map (·.2)).sum : Rat) / n)

/-- Insertion into a rising list of numbers. -/
def insertRat (x : Rat) : List Rat → List Rat
  | [] => [x]
  | y :: ys => if x ≤ y then x :: y :: ys else y :: insertRat x ys
/-- Rising order. -/
def sortRat (l : List Rat) : List Rat := l.foldr insertRat []
/-- Median; the mean of the middle two of an even number. -/
def median (l : List Rat) : Rat :=
  let l := sortRat l
  let n := l.length
  if n % 2 = 1 then l.getD (n / 2) 0 else (l.getD (n / 2 - 1) 0 + l.getD (n / 2) 0) / 2
/-- Squared magnitude of a complex number. -/
def sq2 (z : Rat × Rat) : Rat := z.1 * z.1 + z.2 * z.2
/-- Sum of complex numbers. -/
def sumC (l : List (Rat × Rat)) : Rat × Rat := ((l.map (·.1)).sum, (l.map (·.2)).sum)

/-- ΔV of each cell in 5 µV units; none where the cell is not tested in the frame (R143). -/
def deviations (s : State) (u : UnitState) (f : FeatRec) : List (Option Rat) :=
  let raw := f.cells.zipIdx.map fun (b, k) =>
    if testBit u.pop k && !b.ovr && !b.smiss then (vRef s u k).map fun v => (b.vmean : Rat) - v else none
  let m := median (raw.filterMap id)
  raw.map fun x => x.map (· - m)
/-- ΔB of a cell at bin `j` (R143). -/
def binChange (s : State) (r : Ix) (u : UnitState) (f : FeatRec) (k j : Nat) : Option (Rat × Rat) :=
  match f.cells[k]? with
  | none => none
  | some b =>
    if binValid s r f b j then
      let z := b.bins.getD j (0, 0)
      (bRef s u k j (f.orders.getD j 1)).map fun p => ((z.1 : Rat) - p.1, (z.2 : Rat) - p.2)
    else none
/-- Bins for which each of a run of cells has a change. -/
def sharedBins (s : State) (r : Ix) (u : UnitState) (f : FeatRec) (ks : List Nat) : List (List (Rat × Rat)) :=
  (List.range 6).filterMap fun j =>
    let l := ks.filterMap fun k => binChange s r u f k j
    if l.length = ks.length then some l else none
/-- The bin changes of a run of cells cancel to within M times the greatest of them (R144). For a run of more than two cells, 'unchanged' has no
tolerance of its own in Table 4-8; that of the mirrored pair is the model's choice (DESIGN CHOICE, log 138). -/
def mirrored (s : State) (r : Ix) (u : UnitState) (f : FeatRec) (ks : List Nat) : Bool :=
  let m : Rat := (parN s 0x0442 : Rat) / 100
  (sharedBins s r u f ks).all fun l => decide (sq2 (sumC l) ≤ m * m * (l.map sq2).foldl max 0)
/-- A cell's bins alone move: above 10 % of its own reference while every neighbour's stays within 10 % of its own (R144). -/
def binsAlone (s : State) (r : Ix) (u : UnitState) (f : FeatRec) (k : Nat) : Bool :=
  let big (i j : Nat) : Option Bool :=
    match binChange s r u f i j, bRef s u i j (f.orders.getD j 1) with
    | some d, some b => some (decide (sq2 b / 100 < sq2 d))
    | _, _ => none
  let near := (if k = 0 then [] else [k - 1]) ++ (if k + 1 = u.cellCount then [] else [k + 1])
  (List.range 6).any fun j => big k j == some true && near.all fun i => big i j != some true
/-- Some valid bin of the cell has fallen below its reference (R144, outer wires); without a valid bin the other conditions decide. That one
valid bin suffices for 'that cell's fall' is the model's choice (DESIGN CHOICE, log 139). -/
def binsFall (s : State) (r : Ix) (u : UnitState) (f : FeatRec) (k : Nat) : Bool :=
  let js := (List.range 6).filter fun j => (binChange s r u f k j).isSome
  js.isEmpty || js.any fun j =>
    match f.cells[k]?, bRef s u k j (f.orders.getD j 1) with
    | some b, some p =>
      let z := b.bins.getD j (0, 0)
      decide (sq2 ((z.1 : Rat), (z.2 : Rat)) < sq2 p)
    | _, _ => false

/-- The departure of the string's cell sum from the string voltage in the last frame closed, in V; none where it agrees (R144, R175). -/
def sumDeparts (s : State) (r : Ix) : Option Rat := s.fus.sumDep.get r
/-- The last watched-cell check found the watched cell to disagree with VMEAN: one of them outvoted or convicted, or the two contested (R144,
R175, R180). -/
def watchDiffers (s : State) (r : Ix) (addr k : Nat) : Bool :=
  let bad (q : SrcKey) : Bool := (KV.get? s.fus.srcs q).any fun x => x.last || x.state == .convicted
  bad (.cell r addr k) || bad (.watch r addr k) || (KV.get? s.fus.contested (.cellV r addr k)).isSome

/-- Suspicions that a unit's frame shows (Table 4-8), cells and wires numbered as in the table; the last wire of a CU-12 is wire 12. The sum
departs 'by that cell's ΔV' when the two differ by at most V_TOL_V, the tolerance of that check (DEDUCED, log 140). -/
def signatures (s : State) (r : Ix) (u : UnitState) (f : FeatRec) : List Suspicion :=
  let dv := deviations s u f
  let d : Rat := 200 * parN s 0x0440
  let t : Rat := 200 * parN s 0x0441
  let at_ (k : Nat) : Option Rat := (dv.getD k none)
  let low (k : Nat) : Bool := (at_ k).any fun x => decide (x ≤ -d)
  let high (k : Nat) : Bool := (at_ k).any fun x => decide (d ≤ x)
  let quiet (ks : List Nat) : Bool := ks.all fun k => !watchDiffers s r u.addr (k + 1)
  let dep := sumDeparts s r
  let departs := dep.isSome
  let n := u.cellCount
  -- inner wire k and adjacent wires k to m: cells k to m fall, cell m + 1 rises (cells counted from 1)
  let inner := (List.range (n - 1)).flatMap fun a => (List.range (n - 1)).filterMap fun b =>
    let k := a + 1
    let m := b + 1
    let ks := (List.range (m + 2 - k)).map (fun i => k - 1 + i)
    if k ≤ m && (List.range (m + 1 - k)).all (fun i => low (k - 1 + i)) && high m && !(decide (2 ≤ k) && low (k - 2)) &&
        decide (absR ((ks.filterMap at_).sum) ≤ t) && mirrored s r u f ks && !departs && quiet ks then
      some ({ wire := true, first := k, last := m, absent := 0, intact := false } : Suspicion)
    else none
  let outer := [(0, 0, 1), (n, n - 1, n - 2)].filterMap fun (w, c, near) =>
    let byCell := dep.any fun q => (at_ c).any fun x => decide (absR (q - x / 200000) ≤ parR s 0x0603)
    if low c && !((at_ near).any fun x => decide (d < absR x)) && binsFall s r u f c && byCell && quiet [c] then
      some ({ wire := true, first := w, last := w, absent := 0, intact := false } : Suspicion)
    else none
  let cells := (List.range n).filterMap fun c =>
    let near := ((if c = 0 then [] else [c - 1]) ++ (if c + 1 = n then [] else [c + 1])).filterMap at_
    let some_ := (List.range 6).any fun j => (binChange s r u f c j).isSome
    let byV := (at_ c).any fun x => decide (d < absR x) && near.all (fun y => decide (t < absR (x + y))) &&
      (!some_ || binsAlone s r u f c)
    let byB := (at_ c).any (fun x => decide (absR x ≤ d)) && binsAlone s r u f c
    if testBit u.pop c && (byV || byB) && !departs && quiet [c] then
      some ({ wire := false, first := c + 1, last := c + 1, absent := 0, intact := false } : Suspicion)
    else none
  inner ++ outer ++ cells

/-- Same wires or cell. -/
def Suspicion.same (a b : Suspicion) : Bool := a.wire == b.wire && a.first == b.first && a.last == b.last
/-- Cells that a suspicion concerns, from 1, in a unit of `n` cells. -/
def Suspicion.cells (x : Suspicion) (n : Nat) : List Nat :=
  if !x.wire then [x.first] else if x.first = 0 then [1] else if x.first = n then [n]
  else (List.range (x.last + 2 - x.first)).map (fun i => x.first + i)
/-- Wires that a suspicion has tested: its own with their neighbours, or the cell's two wires (R145). -/
def Suspicion.wires (x : Suspicion) : List Nat :=
  if !x.wire then [x.first - 1, x.first] else (List.range 17).filter fun w => decide (x.first ≤ w + 1) && decide (w ≤ x.last + 1)
/-- The signature that keeps a suspicion standing is among those found (R145); for one turned from an inner-wire suspicion it is that wire's. -/
def Suspicion.shownBy (x : Suspicion) (found : List Suspicion) : Bool :=
  found.any fun y => x.same y || (y.wire && x.turned == some (y.first, y.last))

/-- A request for an open-wire test of a CU-16; while another of the unit is unanswered the wires wait for its end (R141, R145). -/
def requestTest (s : State) (r : Ix) (addr mask : Nat) : State :=
  match unitAt s r addr with
  | none => s
  | some u =>
    if !u.gen16 || mask == 0 then s
    else if u.owPending.isSome then modUnit s r addr fun u => { u with owQueued := u.owQueued ||| mask }
    else sendUnit (modUnit s r addr fun u => { u with owPending := some (mask, curCycle s) }) r addr 0x0B (beBytes 3 mask)

/-- The last valid frame of a unit with its cells. -/
def lastValid (u : UnitState) : Option FeatRec :=
  (u.recs.find? fun p => !testBit p.2.ustat 15 && !p.2.cells.isEmpty).map (·.2)
/-- Cells of a unit, from 1, whose converter stands convicted (R179). -/
def convictedCells (s : State) (r : Ix) (addr : Nat) : List Nat :=
  ((List.range 16).map (· + 1)).filter fun k => (KV.get? s.fus.srcs (.cell r addr k)).any fun x => x.state == .convicted
/-- Cells that step 1 of R137 names: suspected ones, and those whose converter stands convicted (R179). -/
def namedCells (s : State) (r : Ix) (u : UnitState) : List Nat :=
  (u.suspicions.flatMap (Suspicion.cells · u.cellCount) ++ convictedCells s r u.addr).filter fun k => testBit u.pop (k - 1)

/-- The cells that R137 nominates for a unit. Where the greatest or the least VMEAN is shared, the lowest cell is taken, and one cell named by
step 1 leaves the second slot without a nomination: the model's choices (DESIGN CHOICE, log 141). -/
def nominate (s : State) (r : Ix) (u : UnitState) : List Nat :=
  let sus := namedCells s r u
  let pop := (List.range 16).filter fun k => testBit u.pop k
  if !sus.isEmpty then ((List.range 17).filter fun k => sus.contains k).take 2
  else if parN s 0x0420 = 1 then
    match lastValid u with
    | none => u.watch
    | some f =>
      match pop.filterMap fun k => (f.cells[k]?).map fun b => (b.vmean, k + 1) with
      | [] => u.watch
      | v :: rest =>
        let hi := rest.foldl (fun a b => if a.1 < b.1 then b else a) v
        let lo := rest.foldl (fun a b => if b.1 < a.1 then b else a) v
        if hi.2 = lo.2 then [hi.2] else [hi.2, lo.2]
  else
    let n := pop.length
    if n = 0 then [] else if n = 1 then pop.map (· + 1)
    else [pop.getD (u.watchRot % n) 0 + 1, pop.getD ((u.watchRot + 1) % n) 0 + 1]

/-- A new nomination goes out by CONFIG, outside step 1 at most once per WATCH_HOLD cycles (R137). -/
def renominate (s : State) (r : Ix) (addr : Nat) : State :=
  match unitAt s r addr with
  | none => s
  | some u =>
    let cells := nominate s r u
    let urgent := !(namedCells s r u).isEmpty
    if !u.gen16 ∨ cells = u.watch ∨ (urgent = false ∧ u.watchAt.any (fun c => decide (curCycle s < c + parN s 0x0421)) = true) then s
    else
      let rot := if !urgent && parN s 0x0420 = 0 then u.watchRot + 2 else u.watchRot
      sendConfig (modUnit s r addr fun u =>
        { u with watch := cells, watchAt := if urgent then u.watchAt else some (curCycle s), watchRot := rot }) r addr

/-- EV 076 or EV 079 for a suspicion (Table 4-11): ΔV in 5 µV units for wires, in volts for cells. -/
def suspectEvent (s : State) (r : Ix) (addr : Nat) (dv : List (Option Rat)) (x : Suspicion) : State :=
  let v (k : Nat) : Rat := (dv.getD (k - 1) none).getD 0
  let cells := ((unitAt s r addr).map (·.cellCount)).getD 16
  if x.wire then
    raise s 76 (ux r ++ u8 addr ++ u8 x.first ++ u8 x.last ++ (x.cells cells).flatMap fun k => fb (F32.ofRat (v k)))
  else
    let volt (q : Rat) : List Byte := fb (F32.ofRat (q / 200000))
    let pair (n : Nat) : List Byte := if n = 0 ∨ n = cells + 1 then volt 0 else volt (v x.first + v n)
    raise s 79 (ux r ++ u8 addr ++ u8 x.first ++ volt (v x.first) ++ pair (x.first - 1) ++ pair (x.first + 1))

/-- The frame's readings enter the references (R143): VMEAN codes free of OVR and SMISS, and bins without BINV. -/
def takeRefs (u : UnitState) (f : FeatRec) : UnitState :=
  let cell (k : Nat) (g : CellBlk → Bool) : Option CellBlk := (f.cells[k]?).filter fun b => testBit u.pop k && g b
  { u with
    refs := u.refs.zipIdx.map fun (l, k) => match cell k fun b => !b.ovr && !b.smiss with
      | some b => (b.vmean :: l).take 64
      | none => l
    binRefs := u.binRefs.zipIdx.map fun (l, k) => match cell k fun b => !b.binv with
      | some b => ((f.orders, b.bins) :: l).take 64
      | none => l }

/-- The diagnosis of a unit's frame (R143 to R145): new suspicions are raised and acted on, standing ones clear when absent for
DIAG_REF_FRAMES valid frames, and the frame enters the references. -/
def diagnose (s : State) (r : Ix) (addr : Nat) (f : FeatRec) : State :=
  match unitAt s r addr with
  | none => s
  | some u =>
    let found := signatures s r u f
    let dv := deviations s u f
    let fresh := found.filter fun x => !u.suspicions.any (fun y => y.same x || (x.wire && y.turned == some (x.first, x.last))) &&
      !(x.wire && (List.range 17).any fun w => decide (x.first ≤ w) && decide (w ≤ x.last) && u.openWires.contains w)
    let stay := u.suspicions.map fun x => if x.shownBy found then { x with absent := 0 } else { x with absent := x.absent + 1 }
    let gone := stay.filter fun x => decide (parN s 0x0443 ≤ x.absent)
    let kept := stay.filter fun x => decide (x.absent < parN s 0x0443)
    let s := modUnit s r addr fun u => { takeRefs u f with suspicions := kept ++ fresh, lastDv := dv }
    let s := gone.foldl (fun s x => suspectEvent s r addr dv x) s
    let s := fresh.foldl (fun s x => suspectEvent s r addr dv x) s
    requestTest s r addr ((fresh.flatMap Suspicion.wires).foldl (fun m w => m ||| 2 ^ w) 0)

/-- EV 082 for each thermistor channel that is open or shorted, and again when it is neither (R134, R148). Its fourth field in the second raising,
for which Table 4-11 gives no value, is the channel's code (DESIGN CHOICE, log 142). -/
def thermFaults (s : State) (r : Ix) (addr : Nat) (codes : List Nat) : State :=
  codes.zipIdx.foldl (fun s (a, k) =>
    let bad := a == 0x7FFF || a == 0x8000
    let s := showEvent s 82 (cellKey r addr k) bad fun _ => ux r ++ u8 addr ++ u8 (k + 1) ++ u16 a
    modUnit s r addr fun u => { u with auxFault := if bad then (if u.auxFault.contains (k + 1) then u.auxFault else u.auxFault ++ [k + 1])
                                                  else u.auxFault.filter (· ≠ k + 1) }) s
/-- The flags of a unit's record that raise events of their own (R126, R129, R134, R148). The record does not say on which side a cell left its
range; EV 080 carries 1, high, where VMEAN is at least 0x80000, else 2, low, and 0 when it clears (DESIGN CHOICE, log 137). -/
def recordFlags (s : State) (r : Ix) (addr : Nat) (f : FeatRec) : State :=
  match unitAt s r addr with
  | none => s
  | some u =>
    let s := f.cells.zipIdx.foldl (fun s (b, k) =>
      if !testBit u.pop k then s
      else
        let s := showEvent s 80 (cellKey r addr k) b.ovr fun on =>
          ux r ++ u8 addr ++ u8 (k + 1) ++ u48 f.cyc ++ u8 (if !on then 0 else if 0x80000 ≤ b.vmean then 1 else 2)
        let full (p : Int × Int) : Bool := b.binv && (p.1 == 131071 || p.1 == -131072 || p.2 == 131071 || p.2 == -131072)
        b.bins.zipIdx.foldl (fun s (p, j) =>
          showEvent s 81 (cellKey r addr k * 8 + j) (full p) fun _ => ux r ++ u8 addr ++ u8 (k + 1) ++ u8 (j + 1)) s) s
    thermFaults s r addr (f.aux.take 6)

/-- FEATURE_REC (R108, R145): the record is stored for its frame, and a valid one is diagnosed, once. -/
def execFeatureRec (ring : Ix) (f : CarFrame) (s : State) : Host.Outcome State Fault Refusal :=
  .next (
    if !drivesRing s ring false then s
    else if !f.good 0x10 [4, 506] then discardCar s ring
    else match unitAt s ring f.src.toNat with
      | none => s
      | some u =>
        let r := readFeature s f.payload
        let takes := frameExpected s ring u r.cyc && !testBit r.ustat 15 && !r.cells.isEmpty
        let s := storeFeature s ring u r
        if takes then renominate (diagnose (recordFlags s ring u.addr r) ring u.addr r) ring u.addr else s)

/-- STATUS_REP (R107, R135): a lost unit returns at the next tick 0; references apart by more than 1.5 mV raise EV 083. -/
def execStatusRep (ring : Ix) (f : CarFrame) (s : State) : Host.Outcome State Fault Refusal :=
  .next (
    if !drivesRing s ring false then s
    else if !f.good 0x14 [16] then discardCar s ring
    else match unitAt s ring f.src.toNat with
      | none => s
      | some u =>
        let chk := toSigned 16 (beAt f.payload 6 2)
        let s := modCar s ring fun c => { c with txns := c.txns.filter fun t => !(t.unit == u.addr && t.type == 0x13) }
        let s := modUnit s ring u.addr fun u => { u with
          statusAt := curCycle s, returning := u.lost, ustat := beAt f.payload 0 2, fwVer := beAt f.payload 14 2,
          status := (beAt f.payload 2 2, beAt f.payload 4 2, chk, beAt f.payload 8 2, beAt f.payload 10 2, beAt f.payload 12 2) }
        showEvent s 83 (cellKey ring u.addr 0) (decide (15 < chk.natAbs)) fun _ => ux ring ++ u8 u.addr ++ fb (F32.ofInt chk))

/-- A unit's routine test is due (R141): none has run, or all but the last second of OW_PERIOD has passed since it, so that every unit of the
ring has its turn within the period at one test per cycle (DESIGN CHOICE, log 136). -/
def testDue (s : State) (u : UnitState) : Bool :=
  u.gen16 && !u.lost && u.owPending.isNone && u.owAt.all fun t => passed s t (sec (parN s 0x0430 - 1))
/-- OPENWIRE_SCHEDULE (R141): a full-mask test of the next unit of the rotation that is due, at most one per ring and cycle. -/
def execOpenwireSchedule (ring : Ix) (s : State) : Host.Outcome State Fault Refusal :=
  .next (
    let c := car s ring
    let n := c.units.length
    if drivesRing s ring false && c.owCycle != some (curCycle s) then
      match ((List.range n).map fun i => (c.owRot + i) % n).find? fun k => (c.units[k]?).any (testDue s) with
      | none => s
      | some k =>
        let s := modCar s ring fun c => { c with owRot := k + 1, owCycle := some (curCycle s) }
        match c.units[k]? with
        | none => s
        | some u => requestTest (modUnit s ring u.addr fun u => { u with owAt := some s.elec.uptime }) ring u.addr 0x1FFFF
    else s)

/-- What one tested wire's shift does (Table 4-7): 0 intact, 1 degraded, 2 open. -/
def wireVerdict (s : State) (shift : Int) : Nat :=
  if shift.natAbs ≤ parN s 0x0431 then 0 else if shift.natAbs ≤ 200 then 1 else 2
/-- The verdict on a wire takes effect (R139). -/
def judgeWire (s : State) (r : Ix) (addr w : Nat) (shift : Int) : State :=
  let v := wireVerdict s shift
  let data (_ : Bool) : List Byte := ux r ++ u8 addr ++ u8 w ++ fb (F32.ofInt shift)
  let s := modUnit s r addr fun u =>
    { u with openWires := if v = 2 then (if u.openWires.contains w then u.openWires else u.openWires ++ [w]) else
               (if v = 0 then u.openWires.filter (· ≠ w) else u.openWires),
             degraded := if v = 1 then (if u.degraded.contains w then u.degraded else u.degraded ++ [w]) else u.degraded.filter (· ≠ w) }
  let s := showEvent s 78 (cellKey r addr w) (v == 1) data
  if v = 1 then s else showEvent s 77 (cellKey r addr w) (v == 2) data

/-- After a test: a confirmed open wire replaces a suspicion, an intact result ends a wire suspicion and turns one of the inner-wire rows
into EV 079 for its cells, and leaves a cell suspicion standing with its wires intact (R145). -/
def settleSuspicions (s : State) (r : Ix) (addr : Nat) (shifts : List (Nat × Nat)) : State :=
  match unitAt s r addr with
  | none => s
  | some u =>
    let verdict (w : Nat) : Option Nat := KV.get? shifts w
    let own (x : Suspicion) : List Nat := (List.range 17).filter fun w => decide (x.first ≤ w) && decide (w ≤ x.last)
    let opened (x : Suspicion) : Bool := x.wire && (own x).any fun w => verdict w == some 2
    let intact (x : Suspicion) : Bool := x.wire && (own x).all fun w => verdict w == some 0
    let done := u.suspicions.filter fun x => opened x || intact x
    let keep := (u.suspicions.filter fun x => !(opened x || intact x)).map fun x =>
      if !x.wire && x.wires.all (fun w => verdict w == some 0) then { x with intact := true } else x
    let turned := ((done.filter fun x => intact x && decide (1 ≤ x.first) && decide (x.last ≤ 15)).flatMap fun x =>
      (x.cells 16).map fun c =>
        ({ wire := false, first := c, last := c, absent := 0, intact := true, turned := some (x.first, x.last) } : Suspicion)).filter
      fun x => !keep.any x.same
    let s := modUnit s r addr fun u => { u with suspicions := keep ++ turned }
    let s := done.foldl (fun s x => suspectEvent s r addr u.lastDv x) s
    turned.foldl (fun s x => suspectEvent s r addr u.lastDv x) s

/-- OPENWIRE_REP (R139, R145): each tested wire is classified, and the suspicions on the unit are settled. -/
def execOpenwireRep (ring : Ix) (f : CarFrame) (s : State) : Host.Outcome State Fault Refusal :=
  .next (
    if !drivesRing s ring false then s
    else if !f.good 0x0C [34] then discardCar s ring
    else match unitAt s ring f.src.toNat with
      | none => s
      | some u =>
        match u.owPending with
        | none => s
        | some (mask, c) =>
          let s := modCar s ring fun k => { k with txns := k.txns.filter fun t => !(t.unit == u.addr && t.type == 0x0B) }
          let ran := (List.range (curCycle s - c)).map fun i => curCycle s - i
          let s := modUnit s ring u.addr fun u => { u with owPending := none, owQueued := 0, owCycles := (ran ++ u.owCycles).take 16 }
          let wires := (List.range 17).filter fun w => testBit mask w
          let shift (w : Nat) : Int := toSigned 16 (beAt f.payload (2 * w) 2)
          let s := wires.foldl (fun s w => judgeWire s ring u.addr w (shift w)) s
          let s := settleSuspicions s ring u.addr (wires.map fun w => (w, wireVerdict s (shift w)))
          renominate (requestTest s ring u.addr u.owQueued) ring u.addr)

/-- The unit runs an open-wire test in a frame (R140, R176). -/
def testRuns (u : UnitState) (frame : Nat) : Bool :=
  u.owCycles.contains frame || u.owPending.any fun p => decide (p.2 < frame)

/-- A cell (from 1) that a confirmed open wire reads through (R146). -/
def throughOpenWire (u : UnitState) (k : Nat) : Bool :=
  u.openWires.contains k && decide (k ≤ 15) || (decide (1 ≤ k - 1) && u.openWires.contains (k - 1)) ||
    (k == 1 && u.openWires.contains 0) || (k == 16 && u.openWires.contains 16)

/-! ### Replies of compatibility units -/

/-- Length of a compatibility reply and the command it answers (Table 3-14). -/
def reply12 : Nat → Option (Nat × Nat)
  | 0xC1 => some (12, 0x81)
  | 0xC3 => some (28, 0x83)
  | 0xC4 => some (12, 0x84)
  | 0xC5 => some (2, 0x85)
  | 0xC6 => some (1, 0x86)
  | _ => none

/-- The snapshot of a CU-12 as a record for the diagnosis, without bins; its diagnosis stops at suspicion (R115, R141). -/
def rec12 (c ust : Nat) (codes : List Nat) : FeatRec :=
  { cyc := c, ustat := ust, orders := [], aux := [],
    cells := codes.map fun v => { vmean := v * 20, ovr := false, smiss := v == 0xFFFF, bal := false, binv := true, bins := [] } }

/-- COMPATIBILITY_REPLY (R116, R141): the reply answers the oldest command of its kind that waits on the ring. -/
def execCompatibilityReply (ring : Ix) (f : Car12Frame) (s : State) : Host.Outcome State Fault Refusal :=
  .next (
    if !drivesRing s ring true then s
    else match reply12 f.type.toNat with
      | none => discardCar s ring
      | some (len, cmd) =>
        if !f.good len then discardCar s ring
        else match (car s ring).txns.find? fun t => t.type == cmd with
          | none => s
          | some t =>
            let s := modCar s ring fun c => { c with txns := c.txns.filter fun x => x.seq != t.seq }
            let s := modUnit s ring t.unit fun u => { u with returning := u.lost }
            let b := f.payload
            let c := fullCycle s (beAt b 0 2)
            let ust := beAt b 2 2
            let flags (s : State) : State :=
              let s := modUnit s ring t.unit fun u =>
                { u with ustat := ust, flt := testBit ust 14,
                         stop12 := if testBit ust 13 && !u.stop12.contains c then (c :: u.stop12).take 4 else u.stop12 }
              if testBit ust 13 then balStopped s ring t.unit c else s
            match f.type.toNat with
            | 0xC3 =>
              let codes := (List.range 12).map fun k => beAt b (4 + 2 * k) 2
              let fresh := (unitAt s ring t.unit).all fun u => u.v12.all fun p => p.1 != c
              let s := modUnit s ring t.unit fun u =>
                { u with v12 := ((c, codes) :: u.v12.filter fun p => p.1 != c).take 4, misses := 0 }
              let s := enumProgress (flags s) ring c
              if fresh then diagnose s ring t.unit (rec12 c ust codes) else s
            | 0xC4 =>
              let codes := (List.range 4).map fun k => beAt b (4 + 2 * k) 2
              flags (thermFaults (modUnit s ring t.unit fun u => { u with t12 := codes, t12At := c }) ring t.unit codes)
            | 0xC5 =>
              let d := (List.range 16).map fun k => if testBit (beAt b 0 2) k && decide (k < 12) then 15 else 0
              modUnit s ring t.unit fun u => withDuty s ring u (balanceFrom s ring) d
            | 0xC6 => modUnit s ring t.unit fun u => { u with cfgRefused := byteAt b 0 == 1 }
            | _ => s)

end Sys2Proof.Machine
end

