-- ==== Sys2Proof/Machine/Crypto.lean ====
section
/-! DEFINITION. SHA-512 (Table 7-7) and Ed25519 verification (R184, R452), which the spec uses by their names alone: PRESUMED as FIPS 180-4 and
RFC 8032 define them (log 20). -/

namespace Sys2Proof.Crypto

/-! ### SHA-512 -/

/-- The first 80 primes. -/
def primes : List Nat :=
  (List.range 410).filter fun n => decide (2 ≤ n) && (List.range 21).all fun d => decide (d < 2) || n % d != 0 || n == d
/-- Bits of the integer cube root from bit `k - 1` downward. -/
def icbrtFrom (n : Nat) : (k r : Nat) → Nat
  | 0, r => r
  | k + 1, r => icbrtFrom n k (if (r + 2 ^ k) * (r + 2 ^ k) * (r + 2 ^ k) ≤ n then r + 2 ^ k else r)
/-- Round constants: the first 64 bits of the fractions of the cube roots of the first 80 primes. -/
def roundConsts : List Nat := (primes.take 80).map fun p => icbrtFrom (p * 2 ^ 192) 68 0 % 2 ^ 64
/-- Starting hash: the first 64 bits of the fractions of the square roots of the first 8 primes. -/
def start : List Nat := (primes.take 8).map fun p => isqrt (p * 2 ^ 128) % 2 ^ 64

/-- Rotation of a 64-bit word to the right. -/
def rotr (x n : Nat) : Nat := x >>> n ||| (x <<< (64 - n)) % 2 ^ 64
/-- The message schedule: `n` further words after the last 16, newest first. -/
def schedule : (n : Nat) → List Nat → List Nat
  | 0, w => w
  | n + 1, w =>
    let at_ (k : Nat) : Nat := w.getD (k - 1) 0
    let a := at_ 15
    let b := at_ 2
    let s0 := rotr a 1 ^^^ rotr a 8 ^^^ a >>> 7
    let s1 := rotr b 19 ^^^ rotr b 61 ^^^ b >>> 6
    schedule n ((at_ 16 + s0 + at_ 7 + s1) % 2 ^ 64 :: w)
/-- One round on the eight working words. -/
def round (v : List Nat) (kw : Nat) : List Nat :=
  match v with
  | [a, b, c, d, e, f, g, h] =>
    let s1 := rotr e 14 ^^^ rotr e 18 ^^^ rotr e 41
    let ch := (e &&& f) ^^^ ((2 ^ 64 - 1 - e) &&& g)
    let t1 := h + s1 + ch + kw
    let s0 := rotr a 28 ^^^ rotr a 34 ^^^ rotr a 39
    let maj := (a &&& b) ^^^ (a &&& c) ^^^ (b &&& c)
    [(t1 + s0 + maj) % 2 ^ 64, a, b, c, (d + t1) % 2 ^ 64, e, f, g]
  | _ => v
/-- One block of 128 bytes. -/
def block (h : List Nat) (b : List Byte) : List Nat :=
  let w := (List.range 16).map fun k => beAt b (8 * k) 8
  let ws := (schedule 64 w.reverse).reverse
  let v := (List.zipWith (· + ·) roundConsts ws).foldl round h
  List.zipWith (fun x y => (x + y) % 2 ^ 64) h v
/-- `n` blocks in turn. -/
def blocks : (n : Nat) → List Nat → List Byte → List Nat
  | 0, h, _ => h
  | n + 1, h, m => blocks n (block h (m.take 128)) (m.drop 128)
/-- SHA-512: 64 bytes. -/
def sha512 (m : List Byte) : List Byte :=
  let fill := (239 - m.length % 128) % 128
  let p := m ++ toByte 0x80 :: List.replicate fill 0 ++ beBytes 16 (8 * m.length)
  (blocks (p.length / 128) start p).flatMap (beBytes 8)

/-! ### Ed25519 -/

/-- The prime of the field. -/
def p : Nat := 2 ^ 255 - 19
/-- The order of the base point. -/
def order : Nat := 2 ^ 252 + 27742317777372353535851937790883648493
/-- A power in the field, by the low `n` bits of the exponent. -/
def powMod (x : Nat) : (n e : Nat) → Nat
  | 0, _ => 1
  | n + 1, e =>
    let h := powMod x n (e / 2)
    let q := h * h % p
    if e % 2 = 1 then q * x % p else q
/-- The inverse in the field. -/
def inv (x : Nat) : Nat := powMod x 255 (p - 2)
/-- Difference in the field. -/
def subP (a b : Nat) : Nat := (a + p - b % p) % p
/-- The constant d of the curve: -121665 / 121666. -/
def curveD : Nat := (p - 121665) * inv 121666 % p

/-- A point in extended coordinates X, Y, Z, T. -/
structure Point where
  x : Nat
  y : Nat
  z : Nat
  t : Nat
  deriving DecidableEq, Repr

/-- The neutral point. -/
def neutral : Point := { x := 0, y := 1, z := 1, t := 0 }
/-- Sum of two points. -/
def Point.add (d2 : Nat) (a b : Point) : Point :=
  let aa := subP a.y a.x * subP b.y b.x % p
  let bb := (a.y + a.x) * (b.y + b.x) % p
  let c := a.t * d2 % p * b.t % p
  let d := 2 * a.z * b.z % p
  let e := subP bb aa
  let f := subP d c
  let g := (d + c) % p
  let h := (bb + aa) % p
  { x := e * f % p, y := g * h % p, z := f * g % p, t := e * h % p }
/-- A multiple of a point, by the low `n` bits of the factor. -/
def Point.times (d2 : Nat) (a : Point) : (n k : Nat) → Point
  | 0, _ => neutral
  | n + 1, k =>
    let h := Point.times d2 a n (k / 2)
    let q := h.add d2 h
    if k % 2 = 1 then q.add d2 a else q
/-- Two points are the same. -/
def Point.same (a b : Point) : Bool := (a.x * b.z) % p == (b.x * a.z) % p && (a.y * b.z) % p == (b.y * a.z) % p

/-- The point that 32 bytes encode: y, and the low bit of x in the top bit. -/
def decodePoint (b : List Byte) : Option Point :=
  let v := leAt b 0 32
  let y := v % 2 ^ 255
  let sign := v / 2 ^ 255
  let u := subP (y * y) 1
  let w := (curveD * (y * y % p) + 1) % p
  let x2 := u * inv w % p
  let r := powMod x2 253 ((p + 3) / 8)
  let r := if r * r % p = x2 then r else r * powMod 2 253 ((p - 1) / 4) % p
  if b.length ≠ 32 ∨ p ≤ y ∨ r * r % p ≠ x2 ∨ (r = 0 ∧ sign = 1) then none
  else
    let x := if r % 2 = sign then r else p - r
    some { x := x, y := y, z := 1, t := x * y % p }
/-- The base point: y = 4 / 5, x even. -/
def basePoint : Option Point := decodePoint (leBytes 32 (4 * inv 5 % p))

/-- Ed25519 verification of a 64-byte signature over a message under a key. Of the two group equations that RFC 8032 allows, the one with the
cofactor 8. -/
def verify (key msg sig : List Byte) : Bool :=
  let rb := sig.take 32
  let sc := leAt sig 32 32
  match decodePoint key, decodePoint rb, basePoint with
  | some a, some r, some b =>
    let d2 := 2 * curveD % p
    let k := leAt (sha512 (rb ++ key ++ msg)) 0 64 % order
    let eight (q : Point) : Point := q.times d2 4 8
    sig.length == 64 && decide (sc < order) &&
      (eight (b.times d2 256 sc)).same (eight (r.add d2 (a.times d2 256 k)))
  | _, _, _ => false

end Sys2Proof.Crypto
end

