-- ==== Sys2Proof/Machine/FrontEnd.lean ====
section
/-! DEFINITION. String front ends and grid reference channels: conversion, the coulomb accumulator, gaps, over-range and
calibration (chapter 5). -/

namespace Sys2Proof.Machine

open Sys2Proof

/-- A front end is fitted (R151), and its string not ignored by single Strings mode (R37). -/
def feFitted (s : State) (x : Ix) : Bool := coilsFitted s x
/-- Address of O of a channel; G follows it. Targets 0 and 1 are the front ends, 2 the grid channels (Table 5-8). -/
def calAddr (target ch : Nat) : Nat := if target = 2 then 0x0520 + 2 * ch else 0x0510 + 8 * target + 2 * ch
/-- Nominal gain of a channel under the scales in force (Table 5-5). -/
def gNom (s : State) (target ch : Nat) : Rat :=
  if target = 2 then gNomGref (parR s (0x0530 + ch)) else gNomFe ch (parN s (0x0501 + target)) (parN s (0x0503 + target))
/-- CAL_VALID of a channel (R166). -/
def calValid (s : State) (target ch : Nat) : Bool :=
  if target = 2 then testBit s.front.gref.calValid ch else ((s.front.fe.get (Ix.ofNum target)).calValid.getD ch false)
/-- The committed coefficients of a channel are in use (R156, R166). -/
def calInUse (s : State) (target ch : Nat) : Bool :=
  if target = 2 then testBit s.front.gref.calUse ch else ((s.front.fe.get (Ix.ofNum target)).calUse.getD ch false)
/-- Coefficients that a COMMIT installed, or took out of use, act from a tick boundary (R156, R167). -/
def takeCal (s : State) : State :=
  let s := modFe (modFe s .zero fun f => { f with calUse := f.calValid }) .one fun f => { f with calUse := f.calValid }
  { s with front := { s.front with gref := { s.front.gref with calUse := s.front.gref.calValid } } }
/-- O and G in use: 0 and G_nom until the channel has been calibrated (R166). -/
def calCoef (s : State) (target ch : Nat) : Rat × Rat :=
  if calInUse s target ch then (parR s (calAddr target ch), parR s (calAddr target ch + 1)) else (0, gNom s target ch)
/-- Calibrated value of a code: G × (code − O) (R166). -/
def calValue (s : State) (target ch : Nat) (code : Rat) : Rat :=
  let c := calCoef s target ch
  c.2 * (code - c.1)

/-- Codes clamp at full scale (R149). -/
def clampCode (c : Int) : Int := max (-8388608) (min 8388607 c)
/-- The code that a modulator density of 1 represents (R155). -/
def cFs : Int := 10485760
/-- Mean code of a tick from the sum of its modulator bits, to the nearest code (R153). -/
def meanCode (bitSum : Int) (n : Nat) : Int := if n = 0 then 0 else clampCode (roundHalfUp ((bitSum * cFs : Int) / (n : Rat)))
/-- One channel over a tick. -/
def chanRec (s : State) (target ch : Nat) (c : ChanIn) (n : Nat) : ChanRec :=
  let m := meanCode c.bitSum n
  let p := clampCode c.sample
  { mean := m, value := F32.ofRat (calValue s target ch m), sample := p, sampleValue := F32.ofRat (calValue s target ch p), ovr := c.ovr }
/-- Charge that a tick's bits add, in 2^-32 nC (R155). -/
def chargeOf (s : State) (x : Ix) (c : ChanIn) (n : Nat) : Int :=
  let k := calCoef s x.num 0
  (k.2 * ((c.bitSum * cFs : Int) - n * k.1) * 50 * 2 ^ 32).floor

/-- An over-range of a channel that begins or has stayed away for one cycle: EV 084 or EV 088 with direction 1 positive, 2 negative, 0 back in
range (R162). -/
def ovrEvent (s : State) (tick : Nat) (run : Option Nat) (ovr : Option Bool) (evt : Nat) (who : List Byte) : State × Option Nat :=
  match ovr, run with
  | some pos, none => (raise s evt (who ++ ustamp (stampOf tick) ++ u8 (if pos then 1 else 2)), some tick)
  | some _, some _ => (s, some tick)
  | none, some t => if t + 128 ≤ tick then (raise s evt (who ++ ustamp (stampOf t) ++ u8 0), none) else (s, run)
  | none, none => (s, none)

/-- A coulomb gap that begins, continues or ends with a tick; its end raises EV 085 with cause 1 OVR, 2 supply, 4 MOD stall (R157). Where causes
hold together OVR goes before supply and supply before the stall, and a gap keeps the cause of its first tick (DESIGN CHOICE, log 143). -/
def gapTick (s : State) (x : Ix) (tick : Nat) (cause : Nat) : State :=
  let f := s.front.fe.get x
  if cause ≠ 0 then
    match f.gapRun with
    | none => modFe s x fun f => { f with gap := true, cycleGap := true, gapRun := some (tick, cause, 1), gapCnt := sat 0xFFFF (f.gapCnt + 1) }
    | some (t, c, n) => modFe s x fun f => { f with gap := true, cycleGap := true, gapRun := some (t, c, n + 1) }
  else match f.gapRun with
    | none => s
    | some (t, c, n) =>
      raise (modFe s x fun f => { f with gapRun := none }) 85 (ux x ++ ustamp (stampOf t) ++ u32 n ++ u8 c)

/-- One front end over the tick interval of `tick` (R153 to R157, R162): what it delivers, and the state after it. -/
def feTick (s : State) (x : Ix) (tick : Nat) (i : FeIn) : State × FeRec :=
  if !feFitted s x then
    let z : ChanRec := { mean := 0, value := 0, sample := 0, sampleValue := 0, ovr := none }
    (s, { shunt := z, hall := z, vpack := z, vlink := z, q := 0, gap := false, isoOk := false })
  else
    let f := s.front.fe.get x
    let n := i.modCycles
    let c (k : Nat) (ci : ChanIn) : ChanRec := chanRec s x.num k ci n
    let acc := f.acc + chargeOf s x i.shunt n
    let iso := f.isoOk && !f.isoLow
    let cause := if i.shunt.ovr.isSome then 1 else if !iso then 2 else if s.clk.modStalled then 4 else 0
    let r : FeRec := { shunt := c 0 i.shunt, hall := c 1 i.hall, vpack := c 2 i.vpack, vlink := c 3 i.vlink, q := acc,
                       gap := cause != 0, isoOk := iso }
    let ins := [i.shunt, i.hall, i.vpack, i.vlink]
    let s := modFe s x fun f => { f with acc := acc, isoLow := !f.isoOk, ovr := (f.ovr.zip ins).map fun p => p.1 || p.2.ovr.isSome }
    let s := gapTick s x tick cause
    let s := (ins.zipIdx).foldl (fun s (ci, k) =>
      let (s, run) := ovrEvent s tick (((s.front.fe.get x).ovrRun.getD k none)) ci.ovr 84 (ux x ++ u8 k)
      modFe s x fun f => { f with ovrRun := setAt f.ovrRun k run }) s
    (s, r)

/-- The grid reference channels over a tick (R162, R163). -/
def grefTick (s : State) (tick : Nat) (ins : List GrefIn) : State :=
  ins.zipIdx.foldl (fun s (g, k) =>
    if 8 ≤ k then s
    else
      let v := F32.ofRat (calValue s 2 k (clampCode g.second))
      let (s, run) := ovrEvent s tick (s.front.gref.ovrRun.getD k none) g.ovr 88 (u8 k)
      { s with front := { s.front with gref :=
        { s.front.gref with
          value := setAt s.front.gref.value k v, ovrRun := setAt s.front.gref.ovrRun k run,
          ovr := if g.ovr.isSome then s.front.gref.ovr ||| 2 ^ k else s.front.gref.ovr } } }) s

/-- Records of a cycle's ticks, oldest first. -/
def cycleTicks (s : State) (c : Nat) : List TickRec := (s.front.hist.filter fun t => t.at_ / 128 == c).reverse
/-- The channel of a front-end record. -/
def FeRec.chan (f : FeRec) : Nat → ChanRec
  | 0 => f.shunt
  | 1 => f.hall
  | 2 => f.vpack
  | _ => f.vlink
/-- Mean of a list of rationals, 0 for none. -/
def meanRat (l : List Rat) : Rat := if l.isEmpty then 0 else l.sum / l.length
/-- Cycle mean code of a channel from the measurement samples of ticks 0 to 127 (R154); for a grid channel of its two samples per tick. -/
def cycleMeanCode (s : State) (target ch c : Nat) : Rat :=
  let ts := cycleTicks s c
  if target = 2 then meanRat (ts.map fun t => let p := t.gref.getD ch (0, 0); (((p.1 + p.2 : Int) : Rat) / 2))
  else meanRat (ts.map fun t => (((t.fe.get (Ix.ofNum target)).chan ch).sample : Rat))
/-- Cycle mean of a string channel in A or V, of its samples as they were calibrated when taken (R154, R156). -/
def cycleMean (s : State) (x : Ix) (ch c : Nat) : Rat :=
  meanRat ((cycleTicks s c).map fun t => F32.toRat ((t.fe.get x).chan ch).sampleValue)
/-- A code at full scale, whose value is a bound only (R162). -/
def fullScale (code : Int) : Bool := code == 8388607 || code == -8388608
/-- OVR or GAP marked a tick of the cycle on the channel. -/
def cycleFlawed (s : State) (target ch c : Nat) : Bool :=
  (cycleTicks s c).any fun t =>
    if target = 2 then t.grefOvr.getD ch false
    else
      let f := t.fe.get (Ix.ofNum target)
      (f.chan ch).ovr.isSome || !f.isoOk || (ch == 0 && f.gap)

/-- Calibration points held by a target. -/
def calOf (s : State) (target : Nat) : KV Nat CalPoint :=
  if target = 2 then s.front.gref.cal else (s.front.fe.get (Ix.ofNum target)).cal
/-- Setting the calibration points of a target. -/
def setCal (s : State) (target : Nat) (m : KV Nat CalPoint) : State :=
  if target = 2 then { s with front := { s.front with gref := { s.front.gref with cal := m } } }
  else modFe s (Ix.ofNum target) fun f => { f with cal := m }

/-- Each calibration in progress takes the mean of the cycle that has ended, up to CAL_AVG_CYCLES (R167). -/
def calCycle (s : State) (c : Nat) : State :=
  [0, 1, 2].foldl (fun s target =>
    setCal s target ((calOf s target).map fun (ch, p) =>
      match p.busy with
      | none => (ch, p)
      | some (span, v, id, ms, bad) =>
        if c < p.fromCycle ∨ parN s 0x0505 ≤ ms.length then (ch, p)
        else (ch, { p with busy := some (span, v, id, ms ++ [cycleMeanCode s target ch c], bad || cycleFlawed s target ch c) }))) s

/-- The channel number of EV 086 and EV 087: 0 to 7 the front ends' channels, 8 to 15 the grid channels, as the coefficient pairs stand in group
0x05 (R166). -/
def calChannel (target ch : Nat) : Nat := 4 * target + ch
/-- Channels of a target. -/
def calExists (s : State) (target ch : Nat) : Bool :=
  (target == 2 && decide (ch < 8)) || (decide (target < 2) && decide (ch < 4) && feFitted s (Ix.ofNum target))
/-- A finished point that CAL_SOLVE still accepts (R168). -/
def pointStands (s : State) (u : Nat) : Bool := !passed s u (sec 600 + 1)
/-- The calibration of a channel is in progress: a point is being taken, or one stands unsolved (R168; log 154). -/
def calInProgress (s : State) (p : CalPoint) : Bool :=
  p.busy.isSome || p.zero.any (fun q => pointStands s q.2) || p.span.any fun q => pointStands s q.2.2
/-- CAL_POINT or CAL_SOLVE from one port while the other's calibration of the channel is in progress (R168). -/
def calHolder (s : State) (h : Hdr) (target ch : Nat) : Option (Nat × Nat × Nat) :=
  (KV.get? (calOf s target) ch).bind fun p =>
    if p.port = h.port ∨ calInProgress s p = false then none else some (p.port.num, p.ring, p.tag)

/-- CAL_POINT (R167): accepted in every role, it begins to average the cycle means of the channel. One from the same port while a point of the
channel is being taken ends the earlier command CANCELLED (DESIGN CHOICE, log 144); points of another port that no longer stand are dropped. -/
def execCalPoint (h : Hdr) (target channel : Nat) (span : Bool) (value : F32) (s : State) : Host.Outcome State Fault Refusal :=
  .next (
    if !hostReady s h then s
    else if !calExists s target channel then respond s h 0x0032 .outOfRange 0
    else match calHolder s h target channel with
      | some who => respondBusy s h 0x0032 who
      | none =>
        let (id, s) := acceptLong s h 0x0032
        let p := (((KV.get? (calOf s target) channel).filter fun p => p.port = h.port)).getD { port := h.port }
        let s := match p.busy with
          | some (_, _, old, _, _) => endLong s old .cancelled 0 []
          | none => s
        setCal s target (KV.put (calOf s target) channel
          { p with ring := h.ring, tag := h.tag, busy := some (span, value, id, [], false), fromCycle := curCycle s + 1 }))

/-- Variance of the averaged cycle means, whose square root is the standard deviation of R168. The rule does not say whether the sum is divided by
the number of means or by one less; the model divides by their number (DESIGN CHOICE, log 145). -/
def varianceRat (l : List Rat) : Rat :=
  let m := meanRat l
  meanRat (l.map fun x => (x - m) * (x - m))

/-- CAL_POINT_DONE (R168): after CAL_AVG_CYCLES the point is kept, or rejected UNSTABLE (standard deviation above 0.05 % of full scale, or OVR or
GAP) or SPAN_LOW (below 40 % of full scale). -/
def execCalPointDone (target channel : Nat) (s : State) : Host.Outcome State Fault Refusal :=
  .next (
    match KV.get? (calOf s target) channel with
    | none => s
    | some p =>
      match p.busy with
      | none => s
      | some (span, value, id, ms, bad) =>
        let n := parN s 0x0505
        if !running s || decide (ms.length < n) then s
        else
          let mean := meanRat ms
          let var := varianceRat ms
          let limit : Rat := 5 / 10000 * 8388608
          let reject (k : Nat) : State :=
            let s := setCal s target (KV.put (calOf s target) channel { p with busy := none })
            endLong (raise s 86 (u8 (calChannel target channel) ++ u8 k)) id .calRejected k []
          if bad || decide (limit * limit < var) then reject 1
          else if span && decide (F32.toRat value < 4 / 10 * (8388608 * gNom s target channel)) then reject 2
          else
            let q := if span then { p with busy := none, span := some (mean, value, s.elec.uptime) }
                     else { p with busy := none, zero := some (mean, s.elec.uptime) }
            let s := setCal s target (KV.put (calOf s target) channel q)
            endLong s id .ok 0 (fb (F32.ofRat mean) ++ fb (F32.sqrt (F32.ofRat var)) ++ u16 n))

/-! ### The staging session (R434) -/

/-- The client other than `h` that holds the staging session, unless its session has been idle for 60 s. -/
def stagingHolder (s : State) (h : Hdr) (idleToo : Bool) : Option (Nat × Nat × Nat) :=
  match s.par.holder with
  | none => none
  | some (p, r, t, u) =>
    if p = h.port ∧ r = h.ring then none
    else if idleToo && passed s u (sec 60) then none
    else some (p.num, r, t)
/-- Staging entries for a client: its own session goes on, another's idle session ends with its staging copy. -/
def stage (s : State) (h : Hdr) (es : List (Nat × Nat)) : State :=
  let own := match s.par.holder with
    | some (p, r, _, _) => p = h.port && r == h.ring
    | none => false
  let base := if own then s.par.staged else []
  { s with par := { s.par with
    staged := es.foldl (fun d e => KV.put d e.1 e.2) base, holder := some (h.port, h.ring, h.tag, s.elec.uptime) } }

/-- CAL_SOLVE (R167, R168): O = c_z and G = y_s ÷ (c_s − c_z) from the two points, checked and staged. -/
def execCalSolve (h : Hdr) (target channel : Nat) (s : State) : Host.Outcome State Fault Refusal :=
  .next (
    if !hostReady s h then s
    else if !calExists s target channel then respond s h 0x0033 .outOfRange 0
    else match calHolder s h target channel with
      | some who => respondBusy s h 0x0033 who
      | none =>
        let reject (k : Nat) : State :=
          respond (raise s 86 (u8 (calChannel target channel) ++ u8 k)) h 0x0033 .calRejected k
        match KV.get? (calOf s target) channel with
        | none => reject 5
        | some p =>
          match p.zero, p.span with
          | some (cz, uz), some (cs, y, us_) =>
            if passed s (min uz us_) (sec 600 + 1) then reject 5
            else if 167772 < absQ cz then reject 3
            else
              let g : Rat := if cs = cz then 0 else F32.toRat y / (cs - cz)
              let n := gNom s target channel
              if g ≤ 0 ∨ n * 5 / 100 < absQ (g - n) then reject 4
              else match stagingHolder s h true with
                | some who => respondBusy s h 0x0033 who
                | none =>
                  let o := F32.ofRat cz
                  let gf := F32.ofRat g
                  let a := calAddr target channel
                  let s := stage s h [(a, o.toNat), (a + 1, gf.toNat)]
                  let s := setCal s target (KV.drop (calOf s target) channel)
                  respondOk s h 0x0033 (fb o ++ fb gf)
          | _, _ => reject 5)
where
  /-- Magnitude. -/
  absQ (x : Rat) : Rat := if x < 0 then -x else x

/-- ISO_OK_CHANGE (R169): EV 089 with the string and the new state. -/
def execIsoOkChange (string : Ix) (ok : Bool) (s : State) : Host.Outcome State Fault Refusal :=
  .next (
    if clocked s && feFitted s string && decide (3 ≤ s.elec.step) && (s.front.fe.get string).isoOk != ok then
      raise (modFe s string fun f => { f with isoOk := ok, isoLow := true }) 89 (ux string ++ ub ok)
    else s)

end Sys2Proof.Machine
end

