-- ==== Sys2Proof/Machine/Model.lean ====
section
/-! DEFINITION. The learned feature model: its parameter set, the checks that admit it, and its evaluation (R183 to R187). -/

namespace Sys2Proof.Machine

open Sys2Proof

/-- One entry of the input table (Table 6-6). -/
structure MInput where
  code : Nat
  arg : Nat
  mean : F32
  scale : F32
  deriving DecidableEq, Repr

/-- One entry of the layer table. -/
structure MLayer where
  units : Nat
  relu : Bool
  shift : Nat
  wOff : Nat
  bOff : Nat
  deriving DecidableEq, Repr

/-- One entry of the output table. -/
structure MOutput where
  scale : F32
  offset : F32
  lo : F32
  hi : F32
  dep : Nat
  deriving DecidableEq, Repr

/-- A parameter set as read. -/
structure MSet where
  int16 : Bool
  id : Nat
  inputs : List MInput
  layers : List MLayer
  outputs : List MOutput
  bytes : List Byte
  deriving DecidableEq, Repr

/-- The binary32 value at an offset. -/
def f32At (b : List Byte) (off : Nat) : F32 := BitVec.ofNat 32 (leAt b off 4)

/-- Reading a parameter set by Table 6-6. -/
def readModel (b : List Byte) : MSet :=
  let nIn := leAt b 6 2
  let nHid := byteAt b 8
  let lay := 64 + 12 * nIn
  let out := lay + 16 * (nHid + 1)
  { int16 := byteAt b 9 == 1, id := leAt b 12 8, bytes := b,
    inputs := (List.range nIn).map fun i =>
      let o := 64 + 12 * i
      { code := leAt b o 2, arg := leAt b (o + 2) 2, mean := f32At b (o + 4), scale := f32At b (o + 8) },
    layers := (List.range (nHid + 1)).map fun i =>
      let o := lay + 16 * i
      { units := leAt b o 2, relu := byteAt b (o + 2) == 1, shift := byteAt b (o + 3), wOff := leAt b (o + 4) 4, bOff := leAt b (o + 8) 4 },
    outputs := (List.range 8).map fun i =>
      let o := out + 24 * i
      { scale := f32At b o, offset := f32At b (o + 4), lo := f32At b (o + 8), hi := f32At b (o + 12), dep := leAt b (o + 16) 8 } }

/-- Number of inputs of each layer. -/
def layerIns (nIn : Nat) (ls : List MLayer) : List Nat := nIn :: ls.map (·.units)

/-- The catalogue holds the code, with an ARG the table allows (Table 6-7). -/
def inputOk (i : MInput) : Bool :=
  match i.code with
  | 0x04 | 0x05 | 0x06 | 0x07 => decide (1 ≤ i.arg) && decide (i.arg ≤ 6)
  | 0x0D => decide (i.arg ≤ 7)
  | 0x01 | 0x02 | 0x03 | 0x08 | 0x09 | 0x0A | 0x0B | 0x0C | 0x0E => true
  | _ => false

/-- Why a parameter set is refused: 1 signature, 2 hardware type, 3 field, 4 offset; none when every check of R185 holds. -/
def modelFault (variant : Nat) (integrator : List Byte) (b : List Byte) : Option Nat :=
  let total := leAt b 24 4
  let m := readModel b
  let sig := slice b (total - 64) 64
  let body := b.take (total - 64)
  let signed := Crypto.verify Config.vendorModelKey body sig ||
    (integrator.any (fun x => x != 0) && Crypto.verify integrator body sig)
  let nIn := leAt b 6 2
  let nHid := byteAt b 8
  let w := if m.int16 then 2 else 1
  let fields := leAt b 0 4 == 0x4D464C47 && leAt b 4 2 == 1 && decide (1 ≤ nIn) && decide (nIn ≤ 64) && decide (1 ≤ nHid) &&
    decide (nHid ≤ 4) && decide (byteAt b 9 ≤ 1) && (slice b 28 36).all (· == 0) && (slice b 10 2).all (· == 0) && total == b.length && decide (total ≤ 131072) &&
    m.inputs.all (fun i => inputOk i && F32.isFinite i.mean && F32.isFinite i.scale && decide (F32.toRat i.scale ≠ 0)) &&
    m.layers.zipIdx.all (fun (l, k) =>
      let at_ := 64 + 12 * nIn + 16 * k
      decide (byteAt b (at_ + 2) ≤ 1) && (slice b (at_ + 12) 4).all (· == 0) && decide (l.shift ≤ 31) && decide (1 ≤ l.units) && (if k = nHid then l.units == 8 && !l.relu else decide (l.units ≤ 128))) &&
    m.outputs.all (fun o => F32.isFinite o.scale && F32.isFinite o.offset && !F32.isNaN o.lo && !F32.isNaN o.hi)
  let offsets := (m.layers.zip (layerIns nIn m.layers)).all fun (l, n) =>
    decide (l.wOff + l.units * n * w + 64 ≤ total) && decide (l.bOff + 4 * l.units + 64 ≤ total)
  if total < 128 ∨ b.length < 128 then some 3
  else if !signed then some 1
  else if leAt b 20 4 ≠ variant then some 2
  else if !fields then some 3
  else if !offsets then some 4
  else none

/-- Rounding to the nearest integer, ties away from zero. -/
def roundAway (q : Rat) : Int := if q < 0 then -((-q + 1 / 2).floor) else (q + 1 / 2).floor
/-- Saturation to the range of the precision. -/
def satPrec (int16 : Bool) (v : Int) : Int := if int16 then max (-32768) (min 32767 v) else max (-128) (min 127 v)
/-- A weight. -/
def weightAt (m : MSet) (off : Nat) : Int := if m.int16 then toSigned 16 (leAt m.bytes off 2) else toSigned 8 (byteAt m.bytes off)

/-- One layer (R186). -/
def layerStep (m : MSet) (l : MLayer) (q : List Int) : List Int :=
  let w := if m.int16 then 2 else 1
  (List.range l.units).map fun u =>
    let acc := toSigned 32 (leAt m.bytes (l.bOff + 4 * u) 4) +
      (q.zipIdx.map fun (x, i) => weightAt m (l.wOff + (u * q.length + i) * w) * x).sum
    let a := satPrec m.int16 (roundAway ((acc : Rat) / 2 ^ l.shift))
    if l.relu && decide (a < 0) then 0 else a

/-- The eight outputs with their validity and whether each was clamped, from the inputs (R186). -/
def evalModel (m : MSet) (xs : List (Option F32)) : List (F32 × Bool × Bool) :=
  let q := (m.inputs.zip xs).map fun (i, x) =>
    match x with
    | none => (0 : Int)
    | some v => satPrec m.int16 (roundAway ((F32.toRat v - F32.toRat i.mean) / F32.toRat i.scale))
  let q := m.layers.foldl (fun q l => layerStep m l q) q
  let bad : Nat := ((xs.zipIdx).map fun (x, i) => if x.isNone then 2 ^ i else 0).sum
  m.outputs.zipIdx.map fun (o, k) =>
    let y := F32.add (F32.mul o.scale (F32.ofInt (q.getD k 0))) o.offset
    let inside := F32.le o.lo y && F32.le y o.hi
    (F32.clamp y o.lo o.hi, inside && (o.dep &&& bad) == 0, !inside)

end Sys2Proof.Machine
end

