-- ==== Sys2Proof/Machine/Fusion.lean ====
section
/-! DEFINITION. The fusion engine: placement of sources, cross-checks, votes, the model stage and the values published (chapter 6). -/

namespace Sys2Proof.Machine

open Sys2Proof

/-! ### Sources -/

/-- Number of a source in events, in the order in which Table 6-3 first lists them. -/
def SrcKey.kind : SrcKey → Nat
  | .shunt _ => 1
  | .hall _ => 2
  | .pcs _ => 3
  | .vpack _ => 4
  | .vlink _ => 5
  | .cellSum _ => 6
  | .cell _ _ _ => 7
  | .watch _ _ _ => 8
  | .therm _ _ _ => 9
  | .timp _ _ _ => 10
/-- String, unit and cell of a source; 0 where they do not apply. -/
def SrcKey.place : SrcKey → Nat × Nat × Nat
  | .shunt s | .hall s | .pcs s | .vpack s | .vlink s | .cellSum s => (s.num, 0, 0)
  | .cell s u i | .watch s u i | .therm s u i | .timp s u i => (s.num, u, i)
/-- Source, string, unit and cell as event bytes (Table 6-12). -/
def SrcKey.bytes (k : SrcKey) : List Byte := u8 k.kind ++ u8 k.place.1 ++ u8 k.place.2.1 ++ u8 k.place.2.2
/-- Number of a quantity: 1 current, 2 string voltage, 3 cell voltage, 4 temperature. -/
def QtyKey.kind : QtyKey → Nat
  | .current _ => 1
  | .voltage _ => 2
  | .cellV _ _ _ => 3
  | .temp _ _ _ => 4
/-- String, unit and cell of a quantity. -/
def QtyKey.place : QtyKey → Nat × Nat × Nat
  | .current s | .voltage s => (s.num, 0, 0)
  | .cellV s u i | .temp s u i => (s.num, u, i)

/-- The record of a source. -/
def src (s : State) (k : SrcKey) : SrcRec := (KV.get? s.fus.srcs k).getD {}
/-- Setting the record of a source. -/
def setSrc (s : State) (k : SrcKey) (r : SrcRec) : State := { s with fus := { s.fus with srcs := KV.put s.fus.srcs k r } }
/-- A source stands convicted. -/
def convicted (s : State) (k : SrcKey) : Bool := (src s k).state == .convicted
/-- A quantity stands contested (R180). -/
def contested (s : State) (q : QtyKey) : Bool := (KV.get? s.fus.contested q).isSome

/-- An alignment judgement of a source: EV 128 when it fails with the offset found, EV 129 after `count` aligned items in a row (R172, R173). -/
def alignSource (s : State) (k : SrcKey) (ok : Bool) (count : Nat) (offset : Rat) : State :=
  let r := src s k
  if ok then
    if r.state = .unaligned then
      if count ≤ r.aligned + 1 then raise (setSrc s k { r with state := .valid, aligned := 0 }) 129 k.bytes
      else setSrc s k { r with aligned := r.aligned + 1 }
    else s
  else if r.state = .unaligned then setSrc s k { r with aligned := 0 }
  else if r.state = .convicted then s
  else raise (setSrc s k { r with state := .unaligned, aligned := 0 }) 128 (k.bytes ++ fb (F32.ofRat offset))

/-! ### Votes (R177 to R182) -/

/-- What a vote finds. -/
structure VoteOut where
  value : Option Rat
  out : Option SrcKey
  contest : Option ((SrcKey × Rat) × (SrcKey × Rat))

/-- Table 6-4, for readings that agree when their difference lies within the tolerance. -/
def vote (agree : Rat → Rat → Bool) (rs : List (SrcKey × Rat)) : VoteOut :=
  match rs with
  | [] => { value := none, out := none, contest := none }
  | [a] => { value := some a.2, out := none, contest := none }
  | [a, b] =>
    if agree a.2 b.2 then { value := some ((a.2 + b.2) / 2), out := none, contest := none }
    else { value := none, out := none, contest := some (a, b) }
  | a :: b :: c :: _ =>
    let ab := agree a.2 b.2
    let ac := agree a.2 c.2
    let bc := agree b.2 c.2
    match ab, ac, bc with
    | true, true, true => { value := some (median [a.2, b.2, c.2]), out := none, contest := none }
    | true, false, false => { value := some ((a.2 + b.2) / 2), out := some c.1, contest := none }
    | false, true, false => { value := some ((a.2 + c.2) / 2), out := some b.1, contest := none }
    | false, false, true => { value := some ((b.2 + c.2) / 2), out := some a.1, contest := none }
    | true, true, false => { value := some a.2, out := none, contest := none }
    | true, false, true => { value := some b.2, out := none, contest := none }
    | false, true, true => { value := some c.2, out := none, contest := none }
    | false, false, false =>
      let l := [a, b, c]
      let lo := l.foldl (fun m x => if x.2 < m.2 then x else m) a
      let hi := l.foldl (fun m x => if m.2 < x.2 then x else m) a
      { value := none, out := none, contest := some (lo, hi) }

/-- The record of one source after an evaluation (R179, R181): `present` its reading, `out` whether the vote outvoted it, `trial` whether a trial
vote with it would neither have outvoted it nor been contested. -/
def judgeSource (s : State) (k : SrcKey) (present : Option Rat) (out : Bool) (trial : Bool) (voted : Option Rat) : State :=
  let r := src s k
  match present with
  | none =>
    if r.state = .convicted then setSrc s k { r with rehab := 0, last := false }
    else if r.state = .unaligned then setSrc s k { r with outvoted := 0, last := false }
    else setSrc s k { r with state := .missing, outvoted := 0, last := false }
  | some x =>
    if r.state = .convicted then
      let n := if trial then r.rehab + 1 else 0
      let need := parN s 0x0608
      if need ≠ 0 ∧ need ≤ n then raise (setSrc s k { state := .valid }) 131 (u8 k.kind ++ u8 1)
      else setSrc s k { r with rehab := n, last := false }
    else if out then
      let n := r.outvoted + 1
      if parN s 0x0606 ≤ n then
        raise (setSrc s k { state := .convicted, last := true }) 130
          (k.bytes ++ fb (F32.ofRat x) ++ fb (F32.ofRat (voted.getD 0)))
      else setSrc s k { r with state := .valid, outvoted := n, last := true }
    else setSrc s k { r with state := .valid, outvoted := 0, last := false }

/-- A quantity's contest: counted, and raised as EV 132 after DISAGREE_COUNT evaluations and once per cycle from then (R180). -/
def judgeContest (s : State) (q : QtyKey) (c : Option ((SrcKey × Rat) × (SrcKey × Rat))) (prot : Rat) : State :=
  match c with
  | none => { s with fus := { s.fus with contested := KV.drop s.fus.contested q } }
  | some (a, b) =>
    let n := ((KV.get? s.fus.contested q).map (·.n)).getD 0 + 1
    let c : Contest := { n := n, a := a.1, b := b.1, va := a.2, vb := b.2 }
    let s := { s with fus := { s.fus with contested := KV.put s.fus.contested q c } }
    if n < parN s 0x0607 then s
    else
      let p := q.place
      raiseOnce s 132 (((q.kind * 2 + p.1) * 256 + p.2.1) * 256 + p.2.2) (curCycle s)
        (u8 p.1 ++ u8 p.2.1 ++ u8 p.2.2 ++ u8 q.kind ++ u8 a.1.kind ++ u8 b.1.kind ++ fb (F32.ofRat a.2) ++ fb (F32.ofRat b.2) ++
          fb (F32.ofRat prot))

/-- One evaluation of a check over its sources: the vote among the VALID ones, convictions, rehabilitation and contest. -/
def runCheck (s : State) (q : QtyKey) (agree : Rat → Rat → Bool) (all : List (SrcKey × Option Rat)) (prot : Rat → Rat → Rat) :
    State × VoteOut :=
  let voters := all.filterMap fun (k, x) => if convicted s k then none else x.map fun v => (k, v)
  let v := vote agree voters
  let s' := all.foldl (fun st (k, x) =>
    let trial := match x with
      | none => false
      | some y =>
        let t := vote agree (all.filterMap fun (j, z) =>
          if j = k then some (k, y) else if convicted s j then none else z.map fun w => (j, w))
        t.out != some k && t.contest.isNone
    judgeSource st k x (v.out == some k) trial v.value) s
  let p := match v.contest with
    | some (a, b) => prot a.2 b.2
    | none => 0
  (judgeContest s' q v.contest p, v)

/-- The reading of greater magnitude (R180). -/
def greaterMag (a b : Rat) : Rat := if absR a < absR b then b else a
/-- The reading with the smaller margin to the nearer of two limits (R180). -/
def nearerLimit (lo hi : Rat) (a b : Rat) : Rat :=
  let margin (x : Rat) : Rat := min (x - lo) (hi - x)
  if margin b < margin a then b else a

/-! ### Currents (R175, R502) -/

/-- Ticks of a holding period. -/
def periodTicks (s : State) (k : Nat) : List TickRec := s.front.hist.filter fun t => t.at_ / holdPeriod s == k
/-- A channel's tick is VALID: no OVR, no GAP, its supply good, its frame not irregular (R157, R172, R173). -/
def chanValid (s : State) (t : TickRec) (x : Ix) (ch : Nat) : Bool :=
  let f := t.fe.get x
  (f.chan ch).ovr.isNone && f.isoOk && !(ch == 0 && f.gap) && !s.grid.irregular.contains (t.at_ / 128)
/-- A channel's tick is VALID and no code of it stands at full scale. A full-scale code with OVR = 0 is a bound (R162): it counts charge and is
published, and the means and votes that need a value leave its tick out as missing (DESIGN CHOICE, log 146). -/
def chanExact (s : State) (t : TickRec) (x : Ix) (ch : Nat) : Bool :=
  let c := (t.fe.get x).chan ch
  chanValid s t x ch && !fullScale c.mean && !fullScale c.sample
/-- Mean of a channel over a holding period; none unless every tick of it is there and exact. -/
def periodMean (s : State) (k : Nat) (x : Ix) (ch : Nat) : Option Rat :=
  let ts := periodTicks s k
  if ts.length = holdPeriod s && ts.all (fun t => chanExact s t x ch) then
    some (meanRat (ts.map fun t => F32.toRat ((t.fe.get x).chan ch).value))
  else none

/-- A PCS report of DC current, converted to the sign of R26, is placed by the low 16 bits of the HPN it echoes (Table 6-1). -/
def placePcsReport (s : State) (x : Ix) (hpnLo : Nat) (amps : F32) : State :=
  if !isActive s then s
  else
    let h := holdPeriod s
    let cur := s.grid.now / h
    let p := cur - (cur + 65536 - hpnLo % 65536) % 65536
    let endTick := (p + 1) * h
    let ok := decide (endTick ≤ s.grid.now) && decide (s.grid.now ≤ endTick + 128)
    let s := alignSource s (.pcs x) ok 4 ((s.grid.now : Rat) - endTick)
    if ok then modPcs s x fun c => { c with reports := ((p, amps, s.grid.now) :: c.reports.filter fun r => r.1 != p).take 64 } else s

/-- Tolerance of the current check (Table 6-3). -/
def agreeI (s : State) (a b : Rat) : Bool :=
  decide (absR (a - b) ≤ parR s 0x0601 + parR s 0x0602 / 100 * max (absR a) (absR b))

/-- CURRENT_VOTE (R175): at the end of holding period k + 1 the currents of period k are voted. -/
def execCurrentVote (string : Ix) (s : State) : Host.Outcome State Fault Refusal :=
  .next (
    let cur := s.grid.now / holdPeriod s
    if !drives s || !strEnabled s string || cur < 2 then s
    else
      let k := cur - 2
      let p := if (src s (.pcs string)).state = .unaligned then none
        else ((s.can.pcs.get string).reports.find? fun r => r.1 == k).map fun r => F32.toRat r.2.1
      let (s, v) := runCheck s (.current string) (agreeI s)
        [(.shunt string, periodMean s k string 0), (.hall string, periodMean s k string 1), (.pcs string, p)] greaterMag
      { s with fus := { s.fus with voted := s.fus.voted.set string (v.value.map F32.ofRat) } })

/-- The current published for a tick and the value given to protection (R180, R502). -/
def publish (s : State) (x : Ix) (t : TickRec) : PubRec :=
  let f := t.fe.get x
  let sOk := chanValid s t x 0
  let hOk := chanValid s t x 1
  let sGood := sOk && !convicted s (.shunt x) && !(src s (.shunt x)).last
  let hGood := hOk && !convicted s (.hall x)
  let cont := contested s (.current x)
  let cur := if sOk && cont then some f.shunt.value else if sGood then some f.shunt.value else if hGood then some f.hall.value else none
  let prot :=
    if cont && sOk && hOk then
      some (if absR (F32.toRat f.shunt.value) < absR (F32.toRat f.hall.value) then f.hall.value else f.shunt.value)
    else match cur with
      | some v => some v
      | none => if sOk then some f.shunt.value else none
  { cur := cur, prot := prot }

/-! ### Frame close (R189) -/

/-- Populated cells of a string in string cell order: unit address and channel from 0 (R25). -/
def strCells (s : State) (x : Ix) : List (Nat × Nat) :=
  (car s x).units.flatMap fun u => ((List.range 16).filter fun k => testBit u.pop k).map fun k => (u.addr, k)
/-- The record of a unit for a frame. -/
def recOf (u : UnitState) (c : Nat) : Option FeatRec := (u.recs.find? fun p => p.1 == c).map (·.2)
/-- VMEAN code of a cell in a frame and whether it is free of OVR and SMISS; a CU-12 delivers its snapshot (R115). -/
def cellReading (u : UnitState) (c k : Nat) : Option (Nat × Bool) :=
  if u.gen16 then
    match recOf u c with
    | none => none
    | some f => if testBit f.ustat 15 then none else (f.cells[k]?).map fun b => (b.vmean, !b.ovr && !b.smiss)
  else ((u.v12.find? fun p => p.1 == c).bind fun p => p.2[k]?).map fun v => (v * 20, v != 0xFFFF)
/-- State of a cell's converter in a frame, short of conviction (R146, R173). -/
def cellBase (s : State) (u : UnitState) (c k : Nat) : SrcState :=
  if s.grid.irregular.contains c || u.lost || throughOpenWire u (k + 1) then .missing
  else if u.unaligned then .unaligned
  else match cellReading u c k with
    | some (_, true) => .valid
    | _ => .missing

/-- Alignment of each unit's record of the frame that closes (R172, R173): EV 128 with the offset found where the record expected carried another
CYC, EV 129 after two frames in a row whose record carries theirs. -/
def alignUnits (s : State) (x : Ix) (c : Nat) : State :=
  (car s x).units.foldl (fun s u =>
    let key : SrcKey := .cell x u.addr 0
    let here := hasRec u c
    let bad := if here then none else (u.wrongCyc.find? fun p => p.1 == c).map (·.2)
    let run := if here then u.alignRun + 1 else 0
    let back := u.unaligned && decide (2 ≤ run)
    let s := modUnit s x u.addr fun u =>
      { u with wrongCyc := u.wrongCyc.filter fun p => decide (c < p.1), alignRun := run, unaligned := bad.isSome || (u.unaligned && !back) }
    match bad with
    | some d => if u.unaligned then s else raise s 128 (key.bytes ++ fb (F32.ofInt d))
    | none => raiseIf s back 129 key.bytes) s

/-- VMEAN in volts. -/
def codeVolts (code : Nat) : F32 := F32.ofRat ((code : Rat) / 200000)
/-- Temperature of a thermistor channel (from 1) in °C; none for a fault or no conversion. -/
def thermC (u : UnitState) (c ch : Nat) : Option Rat :=
  let raw := if u.gen16 then (recOf u c).bind fun f => f.aux[ch - 1]? else u.t12[ch - 1]?
  match raw with
  | none => none
  | some a => if a = 0x7FFF ∨ a = 0x8000 then none else some ((toSigned 16 a : Rat) / 100)
/-- A thermistor reading of frame `c` while its channel is VALID (R173): from an aligned record, or the last temperatures of a CU-12. -/
def thermValid (s : State) (u : UnitState) (c ch : Nat) : Option Rat :=
  if u.lost || u.unaligned || s.grid.irregular.contains c then none else thermC u c ch
/-- Thermistor channels of a unit; a CU-12 has four. -/
def UnitState.thermCount (u : UnitState) : Nat := if u.gen16 then 6 else 4
/-- Channels of a unit whose mask holds a cell (from 0), lowest first; a CU-12 has four. -/
def thermChans (s : State) (u : UnitState) (k : Nat) : List Nat :=
  ((List.range u.thermCount).filter fun n => testBit (parN s (0x0610 + n)) k).map (· + 1)

/-- Cycle mean of a channel of frame `c` while it is VALID and exact throughout (R154). -/
def chanCycleMean (s : State) (x : Ix) (ch c : Nat) : Option Rat :=
  let ts := cycleTicks s c
  if ts.length == 128 && ts.all (fun t => chanExact s t x ch) then some (cycleMean s x ch c) else none
/-- The string current's cycle mean as voted: the shunt's while it may be published, else the Hall's (R175, R502). -/
def votedCycleMean (s : State) (x : Ix) (c : Nat) : Option Rat :=
  let sh := if convicted s (.shunt x) || (src s (.shunt x)).last then none else chanCycleMean s x 0 c
  let ha := if convicted s (.hall x) then none else chanCycleMean s x 1 c
  match sh with
  | some v => some v
  | none => ha

/-- Current bin of order `h` for a cycle, in A (R128, R154). -/
def currentBin (s : State) (x : Ix) (h c : Nat) : Option (Rat × Rat) :=
  let ts := cycleTicks s c
  if (car s x).compat || ts.length ≠ 128 || ts.any (fun t => !chanExact s t x 0) || !orderValidAt (cornerAt s x c) h (frameHz s c) then none
  else
    let xs := ts.map fun t => F32.toRat ((t.fe.get x).shunt).sampleValue
    some ((xs.zipIdx.map fun (v, n) => v * Math.cosTurn (h * n) 128).sum / 64,
          -((xs.zipIdx.map fun (v, n) => v * Math.sinTurn (h * n) 128).sum / 64))
/-- Impedance of a cell at bin `j` in mΩ, where R174 accepts it. -/
def impedance (s : State) (x : Ix) (f : FeatRec) (b : CellBlk) (bins : List (Option (Rat × Rat))) (j : Nat) : Option (F32 × F32) :=
  match bins.getD j none with
  | none => none
  | some i =>
    let z := b.bins.getD j (0, 0)
    let m := sq2 i
    let lim := parR s 0x060C
    if binValid s x f b j && decide (lim * lim ≤ m) && decide (m ≠ 0) then
      let re : Rat := ((z.1 : Rat) * i.1 + z.2 * i.2) / m / 1000
      let im : Rat := ((z.2 : Rat) * i.1 - z.1 * i.2) / m / 1000
      some (F32.ofRat re, F32.ofRat im)
    else none

/-- Samples of a watched cell placed in a frame (R136, R172). -/
def watchSamples (u : UnitState) (c k : Nat) : List WatchRec := u.watchRecs.filter fun w => w.frame == c && w.cell == k + 1
/-- Mean W of a cell's watched samples of a frame in volts while that source is VALID: its stream aligned, and no open-wire test in the frame
(R140, R173, R175, R176). -/
def watchMean (s : State) (x : Ix) (u : UnitState) (c k : Nat) : Option Rat :=
  let xs := ((watchSamples u c k).filter (·.ok)).flatMap (·.samples)
  if testRuns u c || (src s (.watch x u.addr (k + 1))).state == .unaligned || decide (xs.length < 16) then none
  else some ((xs.sum : Rat) / xs.length / 10000)

/-- One cell in the string-voltage check: unit and channel, state, reading, and the estimator's prediction for the frame. -/
structure SumTerm where
  addr : Nat
  k : Nat
  state : SrcState
  v : Option Rat
  pred : Option Rat
  deriving DecidableEq, Repr

/-- The cell is of the pair that a confirmed open inner wire reads through (R146, R176). -/
def innerPair (u : UnitState) (k : Nat) : Bool :=
  u.openWires.any fun w => decide (1 ≤ w) && decide (w < u.cellCount) && (w == k + 1 || w == k)
/-- What a cell contributes to the sum, and whether it is substituted (R176): its reading while VALID or of an inner-wire pair, else the
prediction. -/
def SumTerm.part (s : State) (x : Ix) (t : SumTerm) : Option Rat × Bool :=
  if t.v.isSome && (t.state == .valid || (t.state == .missing && (unitAt s x t.addr).any fun u => innerPair u t.k)) then (t.v, false)
  else (t.pred, true)

/-- The string-voltage check of a frame (R175, R176): the vote, and the sum of cells. How far the sum lies from the string voltage, where that is
beyond the tolerance, is kept for the wire diagnosis (R144). -/
def voltageCheck (s : State) (x : Ix) (c : Nat) (cells : List SumTerm) (cur : Option Rat) : State × VoteOut × Option Rat :=
  let parts := cells.map (SumTerm.part s x)
  let substN := (parts.filter (·.2)).length
  let rConn := parR s (0x060A + x.num) / 1000
  let sum : Option Rat :=
    if cells.isEmpty || parts.any (·.1.isNone) || decide (parN s 0x0609 < substN) || (cur.isNone && decide (rConn ≠ 0)) then none
    else some ((parts.filterMap (·.1)).sum + (cur.getD 0) * rConn)
  let linkOk := (cycleTicks s c).length == 128 && (cycleTicks s c).all fun t => t.link.get x
  let tol := parR s 0x0603 + 5 / 100 * substN
  let pack := chanCycleMean s x 2 c
  let link := if linkOk then chanCycleMean s x 3 c else none
  let (s, v) := runCheck s (.voltage x) (fun a b => decide (absR (a - b) ≤ tol)) [(.vpack x, pack), (.vlink x, link), (.cellSum x, sum)]
    (nearerLimit (parN s (0x0B16 + x.num)) (parN s (0x0B14 + x.num)))
  let volt := match v.value, pack with
    | some y, _ => some y
    | none, some y => some y
    | none, none => link
  let dep : Option Rat := match sum, volt with
    | some a, some b => if tol < absR (a - b) then some (a - b) else none
    | _, _ => none
  ({ s with fus := { s.fus with sumDep := s.fus.sumDep.set x dep } }, v, sum)

/-- The watched-cell check of one cell with at least 16 samples in the frame (R175, R178, R181): `vmean` and `w` are the readings of the sources
that are VALID, or were but for a conviction. -/
def watchCheck (s : State) (x : Ix) (a k : Nat) (vmean w : Option Rat) (vv : VoteOut) (sum : Option Rat) : State :=
  let kc : SrcKey := .cell x a (k + 1)
  let kw : SrcKey := .watch x a (k + 1)
  let q : QtyKey := .cellV x a (k + 1)
  let tol := parR s 0x0604 / 1000
  let wasConv := convicted s kc
  let differ := match vmean, w with
    | some m, some y => decide (tol < absR (m - y))
    | _, _ => false
  let blame := differ && vv.out == some (.cellSum x) && (match vmean, w, vv.value, sum with
    | some m, some y, some volt, some sg => decide (absR ((sg - volt) - (m - y)) ≤ parR s 0x0603)
    | _, _, _, _ => false)
  let s := judgeSource s kc vmean (blame && !wasConv) (!differ) w
  let s := judgeSource s kw w false false none
  match vmean, w with
  | some m, some y =>
    judgeContest s q (if differ && !blame && !wasConv then some ((kc, m), (kw, y)) else none)
      (nearerLimit ((parN s 0x0B02 : Rat) / 1000) ((parN s 0x0B01 : Rat) / 1000) m y)
  | _, _ => judgeContest s q none 0

/-- Key of a cell by string and string cell number from 1. -/
def cellNo (x : Ix) (n : Nat) : Nat := x.num * 448 + (n - 1)

/-- The lowest-numbered CAN1 node of a kind that serves a string (R388). -/
def nodeFor (s : State) (kind : Nat) (x : Option Ix) : Option Nat :=
  (List.range 16).find? fun n =>
    let v := parN s (0x0D10 + n)
    v % 256 == kind && x.all fun i => testBit (v / 256) i.num
/-- Coolant inlet temperature of a string as it stood in frame `c`: VALUE_1 of its flow node, placed by its arrival (R172, R388). -/
def inletTemp (s : State) (x : Ix) (c : Nat) : Option F32 :=
  (nodeFor s 1 (some x)).bind fun n => (s.therm.nodes[n]?).bind fun d =>
    if d.lost then none else (d.inlet.find? fun p => decide (p.1 ≤ c)).map (·.2)

/-- The estimate of a string cell (from 1). -/
def cellEst (s : State) (x : Ix) (n : Nat) : Option CellEst := (s.est.str.get x).cells[n - 1]?

/-- What the frame holds of one cell before the model stage. -/
structure CellWork where
  addr : Nat
  k : Nat
  no : Nat
  state : SrcState
  v : Option F32
  z : List (Option (F32 × F32))
  therm : Option F32
  deriving DecidableEq, Repr

/-- One model input of a cell (Table 6-7). -/
def modelInput (s : State) (x : Ix) (c : Nat) (cur : Option Rat) (med : Option F32) (w : CellWork) (i : MInput) : Option F32 :=
  let z := (w.z.getD (i.arg - 1) none)
  let valid (v : Option F32) : Option F32 := if w.state = .valid then v else none
  let st := s.est.str.get x
  match i.code with
  | 0x01 => valid w.v
  | 0x02 => match valid w.v, KV.get? s.fus.prevV (cellNo x w.no) with
    | some a, some b => some (F32.sub a b)
    | _, _ => none
  | 0x03 => cur.map F32.ofRat
  | 0x04 => z.map fun p => F32.sqrt (F32.ofRat (sq2 (F32.toRat p.1, F32.toRat p.2)))
  | 0x05 => z.map fun p => F32.ofRat (Math.arg (F32.toRat p.1) (F32.toRat p.2) * 180 / Math.pi)
  | 0x06 => z.map (·.1)
  | 0x07 => z.map (·.2)
  | 0x08 => w.therm
  | 0x09 => inletTemp s x c
  | 0x0A => (cellEst s x w.no).map (·.sr)
  | 0x0B => st.refUp.map fun u => F32.ofRat (min 86400 ((((s.elec.uptime : Int) - u : Int) : Rat) / 8000000000))
  | 0x0C => st.qRest.map fun q => F32.ofRat (q / 3600)
  | 0x0D => ((KV.get? s.fus.outputs (cellNo x w.no)).bind fun l => l[i.arg]?).bind fun p => if p.2 then some p.1 else none
  | 0x0E => med
  | _ => none

/-- EV 135 after 4 frames above ANOMALY_LIMIT, and again after 4 frames below it by 0.1 (R188). -/
def anomalyJudge (s : State) (x : Ix) (no c : Nat) (score : Option F32) : State :=
  let key := cellNo x no
  let (n, on) := (KV.get? s.fus.anomaly key).getD (0, false)
  let lim := parR s 0x060D
  let put (s : State) (v : Int × Bool) : State := { s with fus := { s.fus with anomaly := KV.put s.fus.anomaly key v } }
  let ev (s : State) (y : F32) : State := raise s 135 (ux x ++ u16 no ++ fb y ++ u48 c)
  match score with
  | none => if n = 0 then s else put s (0, on)
  | some y =>
    let v := F32.toRat y
    if !on && decide (lim < v) then
      if 3 ≤ n then ev (put s (0, true)) y else put s (max n 0 + 1, on)
    else if on && decide (v < lim - 1 / 10) then
      if n ≤ -3 then ev (put s (0, false)) y else put s (min n 0 - 1, on)
    else if n = 0 then s else put s (0, on)

/-- The model applies to a string's ring (R183); on a compatibility ring it gives the outputs that need no bins (R41, R186). -/
def modelApplies (s : State) (x : Ix) : Bool := s.fus.model.isSome && testBit (parN s 0x060E) x.num && (car s x).served

/-- The temperature check of a unit's channel (R175, R177, R180): the thermistor against the mean of the valid T_IMP of the cells of its mask, and
what the frame holds of the channel. On a compatibility ring there is no such check (R41). -/
def tempCheck (s : State) (x : Ix) (u : UnitState) (c ch : Nat) (timp : List Rat) : State × TempFrame :=
  let k : SrcKey := .therm x u.addr ch
  let q : QtyKey := .temp x u.addr ch
  let a := thermValid s u c ch
  let b := if timp.isEmpty || (car s x).compat then none else some (meanRat timp)
  let s := judgeSource s k a false false none
  let differ := match a, b with
    | some t, some m => decide (parR s 0x0605 < absR (t - m))
    | _, _ => false
  let t : TempFrame :=
    { unit := u.addr, ch := ch, therm := a, timp := b, contested := differ,
      voted := match a, b with
        | some t, some m => if differ then none else some ((t + m) / 2)
        | some t, none => some t
        | none, m => m }
  let s := match a, b with
    | some v, some m =>
      judgeContest s q (if differ then some ((k, v), (.timp x u.addr ch, m)) else none)
        (nearerLimit (parI s 0x0B08 : Rat) (parI s 0x0B07 : Rat) v m)
    | _, _ => judgeContest s q none 0
  (s, t)

/-- A verified set that a COMMIT has released comes into force at the close of a frame, with EV 133 (R185). -/
def modelIntoForce (s : State) (c : Nat) : State :=
  if !s.fus.modelDue then s
  else match s.fus.modelStaged with
    | none => { s with fus := { s.fus with modelDue := false } }
    | some m =>
      raise { s with fus := { s.fus with model := some m, modelStaged := none, modelDue := false, outputs := [] } } 133
        (u64 (readModel m).id ++ u48 c)

/-- A cell's reading in a frame in volts where its record is usable; that of a cell read through an open wire stands too (R146, R176). -/
def cellRead (s : State) (u : UnitState) (c k : Nat) : Option F32 :=
  if u.lost || u.unaligned || s.grid.irregular.contains c then none
  else match cellReading u c k with
    | some (v, true) => some (codeVolts v)
    | _ => none
/-- What placement finds for every cell of a string in frame `c` (R172 to R174). -/
def placeCells (s : State) (x : Ix) (c : Nat) : List CellWork :=
  (strCells s x).zipIdx.filterMap fun ((a, k), i) =>
    (unitAt s x a).map fun u =>
      let st := cellBase s u c k
      let f := recOf u c
      let bins := match f with
        | some f => f.orders.map fun h => currentBin s x h c
        | none => []
      let z := match f with
        | some f => match f.cells[k]? with
          | some b => (List.range 6).map fun j => if st == .valid then impedance s x f b bins j else none
          | none => []
        | none => []
      { addr := a, k := k, no := i + 1, state := st, v := cellRead s u c k, z := z,
        therm := (thermChans s u k).head?.bind fun n => (thermValid s u c n).map F32.ofRat }
/-- A convicted converter's reading and bins are no longer used (R173, R179). -/
def CellWork.judged (s : State) (x : Ix) (w : CellWork) : CellWork :=
  if w.state == .valid && convicted s (.cell x w.addr (w.k + 1)) then { w with state := .convicted, z := [] } else w

/-- The watched-cell checks of a string's frame; a cell that is watched no longer has but one source, and is not contested (R175, R180; DEDUCED,
log 147). -/
def watchChecks (s : State) (x : Ix) (c : Nat) (works : List CellWork) (vv : VoteOut) (sum : Option Rat) : State :=
  works.foldl (fun s w =>
    match unitAt s x w.addr with
    | none => s
    | some u =>
      if !u.watch.contains (w.k + 1) then
        (if contested s (.cellV x w.addr (w.k + 1)) then judgeContest s (.cellV x w.addr (w.k + 1)) none 0 else s)
      else if ((watchSamples u c w.k).flatMap (·.samples)).length < 16 then s
      else watchCheck s x w.addr w.k (if w.state = .valid then w.v.map F32.toRat else none) (watchMean s x u c w.k) vv sum) s

/-- The temperature checks of a string's frame (R175). -/
def tempChecks (s : State) (x : Ix) (c : Nat) (timp : Nat → Nat → List Rat) : State × List TempFrame :=
  (car s x).units.foldl (fun (p : State × List TempFrame) u =>
    (List.range u.thermCount).foldl (fun (p : State × List TempFrame) n =>
      let mask := parN p.1 (0x0610 + n)
      let (s, t) := tempCheck p.1 x u c (n + 1) (if mask = 0 then [] else timp u.addr mask)
      (s, p.2 ++ [t])) p) (s, [])

/-- One cell's record as handed to the estimation engine (R189): a converter that is convicted, or that this frame's evaluation outvotes, gives
way to W while that is VALID (R179, R182). -/
def cellFrame (s : State) (x : Ix) (c : Nat) (w : CellWork) (o : List (F32 × Bool × Bool)) : CellFrame :=
  let u := unitAt s x w.addr
  let key : SrcKey := .cell x w.addr (w.k + 1)
  let wm := u.bind fun u => if u.watch.contains (w.k + 1) then watchMean s x u c w.k else none
  let away := w.state == .convicted || (w.state == .valid && (src s key).last)
  { unit := w.addr, idx := w.k,
    state := if away then (if wm.isSome then .valid else .convicted) else w.state,
    v := if away then F32.ofRat (wm.getD 0) else w.v.getD 0,
    code := ((u.bind fun u => cellReading u c w.k).map (·.1)).getD 0, z := w.z, outs := o.map fun p => (p.1, p.2.1),
    therm := w.therm, vContested := contested s (.cellV x w.addr (w.k + 1)),
    tContested := ((u.map fun u => (thermChans s u w.k).take 1).getD []).any fun n => contested s (.temp x w.addr n),
    balStopped := u.any fun u => u.stop12.contains c || (recOf u c).any fun f =>
      testBit f.ustat 10 || (f.cells[w.k]?).any fun b => !b.bal }

/-- The frame of one string is closed: checks, votes and the records handed to the estimation engine, with `evaluate` telling for which cells
(counted over both strings from `base`) the model stage finished. -/
def closeString (s : State) (x : Ix) (c base : Nat) (evaluate : Nat → Bool) : State :=
  let s := alignUnits s x c
  let placed := placeCells s x c
  let cur := votedCycleMean s x c
  let pred (w : CellWork) : Option Rat := (cellEst s x w.no).bind fun e => (e.predicted c).map F32.toRat
  let (s, vv, sum) := voltageCheck s x c (placed.map fun w =>
    let w' := w.judged s x
    { addr := w.addr, k := w.k, state := w'.state, v := w.v.map F32.toRat, pred := pred w }) cur
  let s := watchChecks s x c placed vv sum
  let works := placed.map (CellWork.judged s x)
  -- the model stage
  let m := s.fus.model.map readModel
  let med (a : Nat) : Option F32 :=
    let l := works.filterMap fun w => if w.addr = a ∧ w.state = .valid then w.v.map F32.toRat else none
    if l.isEmpty then none else some (F32.ofRat (median l))
  let outs := works.map fun w =>
    match m with
    | some m =>
      if modelApplies s x && evaluate (base + w.no - 1) then evalModel m (m.inputs.map (modelInput s x c cur (med w.addr) w)) else []
    | none => []
  let clamped := (works.zip outs).flatMap fun (w, o) => (o.zipIdx.filter fun p => p.1.2.2).map fun p => (w.no, p.2)
  let s := match clamped with
    | [] => s
    | (n, k) :: _ => raiseOnce s 136 x.num (curCycle s) (ux x ++ u16 n ++ u8 k ++ u16 clamped.length)
  let s := (works.zip outs).foldl (fun s (w, o) =>
    let s := anomalyJudge s x w.no c ((o[7]?).bind fun p => if p.2.1 then some p.1 else none)
    let key := cellNo x w.no
    { s with fus := { s.fus with
      outputs := if o.isEmpty then KV.drop s.fus.outputs key else KV.put s.fus.outputs key (o.map fun p => (p.1, p.2.1)),
      prevV := match w.v with
        | some v => if w.state = .valid then KV.put s.fus.prevV key v else s.fus.prevV
        | none => s.fus.prevV } }) s
  let (s, temps) := tempChecks s x c fun a mask => (works.zip outs).filterMap fun (w, o) =>
    if w.addr = a ∧ testBit mask w.k = true then (o[0]?).bind fun p => if p.2.1 then some (F32.toRat p.1) else none else none
  let ts := cycleTicks s c
  let peak := (ts.map fun t => absR (F32.toRat ((publish s x t).cur.getD 0))).foldl max 0
  let fr : StrFrame :=
    { frame := c, irregular := s.grid.irregular.contains c, cells := (works.zip outs).map fun (w, o) => cellFrame s x c w o,
      means := (List.range 4).map fun ch => F32.ofRat (cycleMean s x ch c),
      cur := cur.map F32.ofRat, curContested := contested s (.current x), volt := vv.value.map F32.ofRat, sum := sum, temps := temps,
      curPeak := F32.ofRat peak }
  let s := modCar s x fun r => { r with units := r.units.map fun u => { u with missing := (recOf u c).isNone && (u.v12.all fun p => p.1 != c) } }
  let s := modCar s x fun r => { r with view := unitBytes r s.grid.now true }
  { s with fus := { s.fus with frames := s.fus.frames.set x (some fr) } }

/-! ### Watched-cell streams and host command SOURCE_CLEAR -/

/-- WATCH_STREAM (R109, R136, R172): the samples are placed on the mains grid by CYC, TICK and PHASE. -/
def execWatchStream (ring : Ix) (f : CarFrame) (s : State) : Host.Outcome State Fault Refusal :=
  .next (
    if !drivesRing s ring false then s
    else if !f.good 0x11 [72] then discardCar s ring
    else match unitAt s ring f.src.toNat with
      | none => s
      | some u =>
        let b := f.payload
        let p := if s.grid.period = 0 then 1250000 else s.grid.period
        let first : Rat := (fullCycle s (beAt b 2 2) * 128 + byteAt b 4 : Nat) + (byteAt b 5 : Rat) / 256
        let us (x : Rat) : Rat := 8000 * x / p
        let both := byteAt b 7
        let sets := both % 32
        let lag := (s.grid.now : Rat) - (first + us (((sets - 1 : Nat) : Rat) * 15625 / 30 + (if testBit both 7 then 625 / 30 else 0)))
        let ok := decide (-1 < lag) && decide (lag ≤ 128)
        let gap := u.wseq.any fun q => (q + 1) % 65536 != beAt b 0 2
        let cells : List (Nat × Nat × Rat) := (if testBit both 6 then [(byteAt b 6 / 16 + 1, 8, 0)] else []) ++
          (if testBit both 7 then [(byteAt b 6 % 16 + 1, 40, 625 / 30)] else [])
        let s := modUnit s ring u.addr fun u =>
          { u with wseq := some (beAt b 0 2), wGaps := u.wGaps + bit gap, wAlign := if ok then u.wAlign + 1 else 0 }
        let s := cells.foldl (fun s (k, _, _) => alignSource s (.watch ring u.addr k) ok 16 lag) s
        let recs := cells.flatMap fun (k, off, d) => (List.range sets).map fun (i : Nat) =>
          ({ frame := ((first + us (d + (i : Rat) * 15625 / 30)) / 128).floor.toNat, cell := k, samples := [beAt b (off + 2 * i) 2],
             ok := ok } : WatchRec)
        modUnit s ring u.addr fun u =>
          { u with watchRecs := (recs ++ u.watchRecs).filter fun w => decide (curCycle s ≤ w.frame + 256) })

/-- The source that SOURCE_CLEAR names (Table 14-16), if it exists; KIND 9 is a reference set. -/
def namedSource (s : State) (kind string unitNo index : Nat) : Option SrcKey :=
  let x := Ix.ofNum string
  if 1 < string ∨ strEnabled s x = false then none
  else match kind with
    | 1 => some (.shunt x)
    | 2 => some (.hall x)
    | 3 => some (.pcs x)
    | 4 => some (.vpack x)
    | 5 => some (.vlink x)
    | 6 => some (.cellSum x)
    | 7 => if (unitAt s x unitNo).any (fun u => decide (1 ≤ index) && testBit u.pop (index - 1)) then some (.cell x unitNo index) else none
    | 8 => if (unitAt s x unitNo).any (fun u => decide (1 ≤ index) && decide (index ≤ if u.gen16 then 6 else 4)) then some (.therm x unitNo index)
           else none
    | _ => none

/-- SOURCE_CLEAR (R181, R280): the named source returns to VALID; the response says whether it was convicted. -/
def execSourceClear (h : Hdr) (kind string unitNo index : Nat) (s : State) : Host.Outcome State Fault Refusal :=
  .next (
    if !hostReady s h then s
    else if kind = 9 then
      if 1 ≤ unitNo ∧ unitNo ≤ 3 then
        let was := ((s.hold.sets3[unitNo - 1]?).map (·.convicted)).getD false
        let s := if was then raise { s with hold := { s.hold with sets3 := setAt s.hold.sets3 (unitNo - 1) {} } } 102 (u8 unitNo ++ u8 2) else s
        respondOk s h 0x0031 (ub was)
      else respond s h 0x0031 .outOfRange 0
    else match namedSource s kind string unitNo index with
      | none => respond s h 0x0031 .outOfRange 0
      | some k =>
        let was := convicted s k
        let s := if was then raise (setSrc s k { state := .valid }) 131 (u8 k.kind ++ u8 2) else s
        respondOk s h 0x0031 (ub was))

end Sys2Proof.Machine
end

