-- ==== Sys2Proof/Machine/CellFilter.lean ====
section
/-! DEFINITION. The arithmetic of the cell and string filters in binary32: OCV and its inverse, the cell model of a tick, scalar
measurement updates, the reported value and the string's state of charge (R193 to R204). Each formula is evaluated in the order in which it
is written, with one rounding per operation. -/

namespace Sys2Proof.Machine

open Sys2Proof
open Sys2Proof.F32 (add sub mul div)

/-- A rational constant as binary32. -/
def fq (q : Rat) : F32 := F32.ofRat q
/-- The square of a value. -/
def fsq (x : F32) : F32 := mul x x
/-- Sum of a list, first to last. -/
def fsum (l : List F32) : F32 := l.foldl add 0
/-- Least of a list; the given value for none. -/
def fmin (d : F32) : List F32 → F32
  | [] => d
  | a :: l => l.foldl F32.minOf a
/-- Greatest of a list; the given value for none. -/
def fmax (d : F32) : List F32 → F32
  | [] => d
  | a :: l => l.foldl F32.maxOf a
/-- Sign of a value. -/
def fsgn (x : F32) : F32 := if F32.lt 0 x then F32.one else if F32.lt x 0 then F32.negate F32.one else 0
/-- A time in 1/8 ns as seconds. -/
def fsec (t : Nat) : F32 := fq ((t : Rat) / 8000000000)

/-! ### OCV (R194, R498) -/

/-- Entry of OCV_TABLE for temperature column `j` and state-of-charge row `i`, in volts. -/
def ocvEntry (s : State) (j i : Nat) : F32 := fq (((parN s 0x0730 / 65536 ^ (21 * j + i) % 65536 : Nat) : Rat) / 10000)
/-- The temperatures of the columns. -/
def ocvTemp (j : Nat) : Rat := [0, 10, 25, 40, 55].getD j 55
/-- Column below a temperature and the share of the way to the next, clamped at the table's edges. -/
def ocvCol (t : F32) : Nat × F32 :=
  if F32.lt t 0 || F32.isNaN t then (0, 0)
  else if F32.le (fq 55) t then (3, F32.one)
  else
    let j := if F32.le (fq 40) t then 3 else if F32.le (fq 25) t then 2 else if F32.le (fq 10) t then 1 else 0
    (j, div (sub t (fq (ocvTemp j))) (fq (ocvTemp (j + 1) - ocvTemp j)))
/-- Row below a state of charge and the share of the way to the next, clamped at the table's edges. -/
def ocvRow (x : F32) : Nat × F32 :=
  if F32.lt x 0 || F32.isNaN x then (0, 0)
  else if F32.le (fq 100) x then (19, F32.one)
  else
    let i := min 19 (F32.toRat x / 5).floor.toNat
    (i, div (sub x (fq (5 * i))) (fq 5))
/-- Linear interpolation. -/
def lerp (a b w : F32) : F32 := add a (mul w (sub b a))
/-- OCV of one row at a temperature. -/
def ocvAt (s : State) (i : Nat) (t : F32) : F32 :=
  let c := ocvCol t
  lerp (ocvEntry s c.1 i) (ocvEntry s (c.1 + 1) i) c.2
/-- OCV(S, T) in volts. -/
def ocv (s : State) (x t : F32) : F32 :=
  let r := ocvRow x
  lerp (ocvAt s r.1 t) (ocvAt s (r.1 + 1) t) r.2
/-- The inverse of OCV in S at a temperature; beyond the table's ends the spec states no value. -/
def ocvInv (s : State) (v t : F32) : F32 :=
  if F32.lt v (ocvAt s 0 t) || F32.lt (ocvAt s 20 t) v || F32.isNaN v then Config.unstated 0 v
  else
    let i := ((List.range 20).find? fun i => F32.le v (ocvAt s (i + 1) t)).getD 19
    let a := ocvAt s i t
    add (fq (5 * i)) (mul (fq 5) (div (sub v a) (sub (ocvAt s (i + 1) t) a)))
/-- Slope of OCV in S, in V per %, of the segment at S; 0 where OCV is clamped. -/
def ocvSlope (s : State) (x t : F32) : F32 :=
  if F32.lt x 0 || F32.lt (fq 100) x then 0
  else
    let r := ocvRow x
    div (sub (ocvAt s (r.1 + 1) t) (ocvAt s r.1 t)) (fq 5)
/-- Slope of OCV in T, in V per °C; 0 where OCV is clamped. -/
def ocvSlopeT (s : State) (x t : F32) : F32 :=
  if F32.lt t 0 || F32.lt (fq 55) t then 0
  else
    let c := ocvCol t
    let r := ocvRow x
    let at_ (j : Nat) : F32 := lerp (ocvEntry s j r.1) (ocvEntry s j (r.1 + 1)) r.2
    div (sub (at_ (c.1 + 1)) (at_ c.1)) (fq (ocvTemp (c.1 + 1) - ocvTemp c.1))

/-! ### The state vector and scalar updates -/

/-- The filter state as a vector S, V1, V2, h, T. -/
def CellX.vec (x : CellX) : List F32 := [x.s, x.v1, x.v2, x.h, x.t]
/-- The filter state of a vector. -/
def CellX.ofVec (l : List F32) : CellX :=
  { s := l.getD 0 0, v1 := l.getD 1 0, v2 := l.getD 2 0, h := l.getD 3 0, t := l.getD 4 0 }
/-- The held ranges of Table 7-1. -/
def clampX (s : State) (x : CellX) : CellX :=
  let hm := fq (parN s 0x0735)
  { s := F32.clamp x.s (fq (-5)) (fq 105), v1 := F32.clamp x.v1 (fq (-500)) (fq 500), v2 := F32.clamp x.v2 (fq (-500)) (fq 500),
    h := F32.clamp x.h (F32.negate hm) hm, t := F32.clamp x.t (fq (-50)) (fq 150) }
/-- Scalar product. -/
def fdot (a b : List F32) : F32 := fsum (List.zipWith mul a b)
/-- The element of a matrix. -/
def mAt (p : List (List F32)) (i j : Nat) : F32 := (p.getD i []).getD j 0
/-- A 5 by 5 matrix from its elements. -/
def mMk (f : Nat → Nat → F32) : List (List F32) := (List.range 5).map fun i => (List.range 5).map (f i)
/-- A diagonal matrix. -/
def mDiag (d : List F32) : List (List F32) := mMk fun i j => if i = j then d.getD i 0 else 0

/-- One scalar measurement: innovation, gain, state and covariance after it (R199). A zero innovation variance has no stated gain. -/
def scalarUpdate (s : State) (x : CellX) (p : List (List F32)) (h : List F32) (z pred r : F32) : CellX × List (List F32) :=
  let ph := p.map fun row => fdot row h
  let v := add (fdot h ph) r
  let k := ph.map fun a => if F32.le v 0 then Config.unstated 6 a else div a v
  let hp := (List.range 5).map fun j => fsum ((List.range 5).map fun i => mul (h.getD i 0) (mAt p i j))
  let y := sub z pred
  (clampX s (CellX.ofVec (List.zipWith (fun a b => add a (mul b y)) x.vec k)),
    mMk fun i j => sub (mAt p i j) (mul (k.getD i 0) (hp.getD j 0)))

/-! ### Propagation (R194, R196, R197) -/

/-- The capacity of a cell in coulombs: 3,600 × κ × C. -/
def cellCoul (e : CellEst) (c : F32) : F32 := mul (mul (fq 3600) e.kappa) c
/-- Ohmic resistance of a cell: model output 6, or R_str ÷ N_pop (R194). -/
def cellRo (e : CellEst) (r : F32) (n : Nat) : F32 := e.ro.getD (div r (fq n))

/-- What one interval brings to a string: its ticks, length, charge, the charge's uncertainty, mean current, inlet temperature. -/
structure Interval where
  ticks : Nat
  dt : F32
  dq : F32
  eq : F32
  i : F32
  tin : Option F32
  deriving DecidableEq, Repr

/-- One cell carried over an interval during which balancing draws `qb` coulombs. -/
def propagateCell (s : State) (e : CellEst) (c r : F32) (n : Nat) (w : Interval) (qb : F32) : CellEst :=
  let cap := cellCoul e c
  let a1 := Math.exp32 (F32.negate (div w.dt (parF' 0x0732)))
  let a2 := Math.exp32 (F32.negate (div w.dt (fq (parN s 0x0734))))
  let be := Math.exp32 (F32.negate (div (mul (fq (parN s 0x0736)) (F32.abs w.dq)) cap))
  let tt := div w.dt (fq (parN s 0x0737))
  let ro := cellRo e r n
  let x := e.x
  let y := add (ocv s x.s x.t) (div (add (add (add x.h x.v1) x.v2) (mul ro w.i)) (fq 1000))
  let heat := div (mul (mul (mul (fsq w.i) ro) (fq (1 / 1000))) w.dt) (fq (parN s 0x0738))
  let warm := match w.tin with
    | some ti => add x.t (mul tt (sub ti x.t))
    | none => x.t
  let x' : CellX :=
    { s := add x.s (div (mul (fq 100) (sub w.dq qb)) cap),
      v1 := add (mul a1 x.v1) (mul (mul (sub F32.one a1) (parF' 0x0731)) w.i),
      v2 := add (mul a2 x.v2) (mul (mul (sub F32.one a2) (parF' 0x0733)) w.i),
      h := add (mul be x.h) (mul (mul (sub F32.one be) (fq (parN s 0x0735))) (fsgn w.i)),
      t := add warm heat }
  let ft := sub F32.one tt
  let phi := [F32.one, a1, a2, be, if w.tin.isSome then ft else F32.one]
  let noise := [fsq (div (mul (fq 100) w.eq) cap), fsq (fq (5 / 100)), fsq (fq (5 / 100)), fsq (fq (5 / 100)), fsq (fq (1 / 100))]
  let cov := mMk fun i j =>
    let v := mul (mul (phi.getD i 0) (mAt e.cov i j)) (phi.getD j 0)
    if i = j then add v (noise.getD i 0) else v
  { e with
    x := clampX s x', cov := cov, ySum := add e.ySum (mul (fq w.ticks) y), yN := e.yN + w.ticks,
    snaps := e.snaps.map fun k => { k with f1 := mul k.f1 a1, f2 := mul k.f2 a2, fh := mul k.fh be, ft := mul k.ft ft },
    qbLearn := add e.qbLearn qb }
where
  /-- An acting binary32 parameter. -/
  parF' (a : Nat) : F32 := parF s a

/-- The reported value moved by one interval (R204). -/
def moveReported (s : State) (disc : Bool) (sr si dsc dt : F32) : F32 :=
  let ab := parF s 0x070A
  let dev := parF s 0x070C
  let slew := mul (parF s 0x070B) dt
  let down := F32.minOf dsc 0
  let r :=
    if disc then
      if F32.le sr si then add sr (mul (sub F32.one ab) down)
      else F32.maxOf si (add sr (mul (add F32.one ab) down))
    else
      let r := add sr dsc
      let r := add r (F32.clamp (sub si r) (F32.negate slew) slew)
      F32.maxOf r (sub si dev)
  let r := F32.minOf r (add si dev)
  let r := if F32.le si 0 then 0 else r
  F32.clamp r 0 (fq 100)

/-- Q_dis and Q_chg of a cell in Ah, with S clamped to 0 to 100 (R202, R230). -/
def cellSpan (c : F32) (e : CellEst) : F32 × F32 :=
  let x := F32.clamp e.x.s 0 (fq 100)
  let k := mul e.kappa c
  (div (mul x k) (fq 100), div (mul (sub (fq 100) x) k) (fq 100))
/-- Q_dis and Q_chg of the string (R202). -/
def stringSpan (st : StrEst) : F32 × F32 :=
  let l := st.cells.map (cellSpan st.c)
  (fmin 0 (l.map (·.1)), fmin 0 (l.map (·.2)))
/-- The internal string state of charge; kept where the span is 0 (R202). -/
def withStringSoc (st : StrEst) : StrEst :=
  let p := stringSpan st
  let t := add p.1 p.2
  if F32.le t 0 then { st with spanZero := true }
  else { st with spanZero := false, sI := div (mul (fq 100) p.1) t }

/-- σ_S of a cell (R205). -/
def sigmaS (e : CellEst) : F32 := F32.sqrt (F32.maxOf (mAt e.cov 0 0) 0)
/-- The largest σ_S of a string. -/
def maxSigma (st : StrEst) : F32 := fmax 0 (st.cells.map sigmaS)

/-- Seconds since the last reference of a string, or since seeding when it has none (R195, R215). -/
def sinceRef (s : State) (st : StrEst) : Rat := (((s.elec.uptime : Int) - st.refUp.getD st.seedUp : Int) : Rat) / 8000000000
/-- The published u_s (R205, R215). -/
def uOf (s : State) (st : StrEst) : F32 :=
  let m := maxSigma st
  if st.starved then
    let t := sinceRef s st
    let g := add st.u48 (mul (parF s 0x0709) (fq ((t - 172800) / 86400)))
    F32.minOf (fq 50) (F32.maxOf m g)
  else m

/-- A state of charge at an interface, in 0.01 % (R205). -/
def socCode (x : F32) : Nat := (roundHalfUp (F32.toRat (F32.clamp x 0 (fq 100)) * 100)).toNat
/-- A state of charge at an interface, rounded to 0.01 %. -/
def socRounded (x : F32) : F32 := fq ((socCode x : Rat) / 100)

/-- An accepted learning result takes effect at a tick boundary; the values before it stay for the ticks that await propagation (R213). -/
def applyLearned (s : State) (x : Ix) : State :=
  match (s.est.str.get x).learned with
  | none => s
  | some l => modStr s x fun st =>
      if l.kappas.length = st.cells.length then
        { st with
          c := l.c, cells := List.zipWith (fun (e : CellEst) (k : F32) => { e with kappa := k }) st.cells l.kappas, learned := none,
          prior := some { at_ := s.grid.now, c := st.c, kappas := st.cells.map (·.kappa) } }
      else { st with learned := none }
/-- The string with the C and κ that acted before tick `at_` of its last learning result. -/
def StrEst.capsAt (st : StrEst) (n : Nat) : StrEst :=
  match st.prior with
  | some p =>
    if n < p.at_ ∧ p.kappas.length = st.cells.length then
      { st with c := p.c, cells := List.zipWith (fun (e : CellEst) (k : F32) => { e with kappa := k }) st.cells p.kappas }
    else st
  | none => st

/-! ### Table 7-3 -/

/-- A frame's measurements of a cell. -/
structure CellMeas where
  cell : CellFrame
  ref : Bool
  deriving DecidableEq, Repr

/-- A valid model output of a cell. -/
def CellFrame.out (f : CellFrame) (k : Nat) : Option F32 := (f.outs[k]?).bind fun p => if p.2 then some p.1 else none

/-- Orders 1 to 7 of Table 7-3 on a frame-end state. -/
def correct (s : State) (m : CellMeas) (snap : CellSnap) : CellX × List (List F32) :=
  let f := m.cell
  let oT : List F32 := [0, 0, 0, 0, F32.one]
  let milli := fq (1 / 1000)
  let volt (x : CellX) (v h : F32) : List F32 := [ocvSlope s x.s x.t, v, v, h, ocvSlopeT s x.s x.t]
  let valid := decide (f.state = .valid) && !f.vContested
  let st0 := (snap.x, snap.cov)
  let st1 := match f.therm with
    | some t => if f.tContested then st0 else scalarUpdate s st0.1 st0.2 oT t st0.1.t (fq (1 / 4))
    | none => st0
  let st2 := match f.out 0 with
    | some t => if f.tContested then st1 else scalarUpdate s st1.1 st1.2 oT t st1.1.t ((f.outs[1]?.map (·.1)).getD 0)
    | none => st1
  let use3 := m.ref && valid
  let rest (x : CellX) : F32 := add (ocv s x.s x.t) (div x.h (fq 1000))
  let st3 := if use3 then scalarUpdate s st2.1 st2.2 (volt st2.1 0 milli) f.v (rest st2.1) (fsq (div (parF s 0x0707) (fq 1000))) else st2
  let st4 := match f.out 2 with
    | some v => if use3 then st3
      else scalarUpdate s st3.1 st3.2 (volt st3.1 0 0) v (ocv s st3.1.s st3.1.t)
        (div (mul ((f.outs[3]?.map (·.1)).getD 0) (parF s 0x0708)) (fq 1000000))
    | none => st3
  let st5 := if valid then
      scalarUpdate s st4.1 st4.2 (volt st4.1 milli milli) f.v snap.yMean (fsq (fq ((parN s 0x070F : Rat) / 1000000)))
    else st4
  let st6 := match f.out 4 with
    | some v => scalarUpdate s st5.1 st5.2 [0, F32.one, F32.one, 0, 0] v (add st5.1.v1 st5.1.v2) (fq 25)
    | none => st5
  match f.out 5 with
  | some v => scalarUpdate s st6.1 st6.2 [0, 0, 0, F32.one, 0] v st6.1.h (fq 25)
  | none => st6

/-- A correction of a frame-end state carried to the current state (R199). -/
def carry (s : State) (e : CellEst) (snap : CellSnap) (c : CellX × List (List F32)) : CellEst :=
  let fac := [F32.one, snap.f1, snap.f2, snap.fh, snap.ft]
  let d := List.zipWith sub c.1.vec snap.x.vec
  let x := List.zipWith add e.x.vec (List.zipWith mul fac d)
  { e with
    x := clampX s (CellX.ofVec x),
    cov := mMk fun i j =>
      add (mAt e.cov i j) (mul (mul (fac.getD i 0) (sub (mAt c.2 i j) (mAt snap.cov i j))) (fac.getD j 0)) }

end Sys2Proof.Machine
end

