-- ==== Sys2Proof/Machine/Balance.lean ====
section
/-! DEFINITION. Balancing: targets, eligibility, unit limits, selection and its review (R229 to R240). -/

namespace Sys2Proof.Machine

open Sys2Proof
open Sys2Proof.F32 (add sub mul div)

/-- One cell of a string as balancing sees it. -/
structure BalCell where
  unit : Nat
  k : Nat
  no : Nat
  est : CellEst
  frame : CellFrame
  /-- E_k in Ah (Table 8-1) -/
  e : F32
  deriving DecidableEq, Repr

/-- E_k of every cell of a string (R230), with the frame's record of each. -/
def balCells (s : State) (x : Ix) : List BalCell :=
  let st := s.est.str.get x
  let spans := st.cells.map (cellSpan st.c)
  let disMin := fmin 0 (spans.map (·.1))
  let chgMax := fmax 0 (spans.map (·.2))
  let mode := parN s 0x0710
  match s.fus.frames.get x with
  | none => []
  | some fr =>
    (st.cells.zip fr.cells).zipIdx.map fun ((e, f), i) =>
      let sp := cellSpan st.c e
      let t := match mode with
        | 1 => F32.maxOf 0 (sub (sub sp.1 disMin) (mul (sub e.kappa F32.one) st.c))
        | 2 => sub chgMax sp.2
        | _ => 0
      { unit := f.unit, k := f.idx, no := i + 1, est := e, frame := f, e := t }

/-- The rest in progress is frozen (R234). -/
def restFrozen (s : State) (x : Ix) : Bool :=
  let st := s.est.str.get x
  !st.restTaken && st.restUp.any fun u => passed s u (sec (parN s 0x0704 - 600))

/-- The string's state is allowed by BAL_STATES (R232). -/
def balStateOk (s : State) (x : Ix) : Bool :=
  let m := parN s 0x071B
  if (s.est.str.get x).restUp.isSome then testBit m 0
  else match (s.fus.frames.get x).bind (·.cur) with
    | none => false
    | some c => if F32.lt 0 c then testBit m 1 else if F32.lt c 0 then testBit m 2 else false

/-- A cell meets the conditions of R232 but that on a frozen rest, which keeps cells from starting (R234). -/
def balEligible (s : State) (x : Ix) (b : BalCell) : Bool :=
  let st := s.est.str.get x
  let u := unitAt s x b.unit
  decide (b.frame.state = .valid) && !(u.any fun u => throughOpenWire u (b.k + 1)) &&
    !(u.any fun u => u.suspicions.any fun p => (p.cells u.cellCount).contains (b.k + 1)) && !convicted s (.cell x b.unit (b.k + 1)) &&
    decide (1000 * parN s 0x0718 ≤ 5 * b.frame.code) && !st.eod.2.2 && !(car s x).fltLoop && balStateOk s x

/-- Temperature of a unit: its highest valid thermistor, else the highest cell temperature (R233). -/
def unitTemp (s : State) (u : UnitState) (bs : List BalCell) : F32 :=
  let c := s.fus.lastFrame
  let th := (List.range u.thermCount).filterMap fun n => (thermValid s u c (n + 1)).map fq
  let l := if th.isEmpty then (bs.filter fun b => b.unit == u.addr).map (·.est.x.t) else th
  fmax (fq (-273)) l
/-- Row of Table 8-2 with the 2 °C by which a boundary must be passed. -/
def derateRow (s : State) (old : Nat) (t : F32) : Nat :=
  let d := parN s 0x0719
  let z := parN s 0x071A
  let q := F32.toRat t
  let now := if q < d then 0 else if q < z then 1 else 2
  if old < now then (if ((if old = 0 then d else z : Nat) : Rat) + 2 ≤ q then now else old)
  else if now < old then (if q ≤ ((if old = 2 then z else d : Nat) : Rat) - 2 then now else old)
  else old
/-- N_u of a row. -/
def unitLimit (s : State) (row : Nat) : Nat :=
  match row with
  | 0 => parN s 0x0716
  | 1 => parN s 0x0716 / 2
  | _ => 0

/-- Cells in descending order of E_k, the lower cell number first on equal E_k (R231). -/
def insertBal (b : BalCell) : List BalCell → List BalCell
  | [] => [b]
  | a :: l => if F32.lt a.e b.e || (!F32.lt b.e a.e && decide (b.no < a.no)) then b :: a :: l else a :: insertBal b l
/-- Sorting by E_k. -/
def sortBal (l : List BalCell) : List BalCell := l.foldr insertBal []

/-- The duties that a selection asks for (R235, R239). -/
def dutiesOf (s : State) (x : Ix) (sel : List Nat) : List Nat :=
  let d := if (car s x).compat then 15 else parN s 0x0711
  (List.range 16).map fun k => if sel.contains k then d else 0

/-- A unit's selection: its duties go out when they change (R236). After tick 120 of a cycle only what turns cells off still goes out in it, and the
rest of the change in the next (R237). -/
def select (s : State) (x : Ix) (addr : Nat) (sel : List Nat) : State :=
  let s := modUnit s x addr fun u => { u with selected := sel }
  let d := dutiesOf s x sel
  match unitAt s x addr with
  | none => s
  | some u =>
    let now := if curTick s ≤ 120 then d else List.zipWith (fun a b => if b = 0 then 0 else a) u.duty d
    let s := if now = u.duty then s else setDuty s x addr now
    modUnit s x addr fun u => { u with dutyHeld := if now = d then none else some d }

/-- Every duty of a ring 0 (R229, R240). -/
def balanceOff (s : State) (x : Ix) : State := (car s x).units.foldl (fun s u => select s x u.addr []) s
/-- Every unit of a ring gets a BALANCE with every duty 0, whatever went before, and no duty of an earlier time is charged (R240). -/
def balanceZero (s : State) (x : Ix) : State :=
  (car s x).units.foldl (fun s u =>
    setDuty (modUnit s x u.addr fun u => { u with selected := [], duties := [] }) x u.addr (List.replicate 16 0)) s

/-- Deselections at a frame update (R232, R233): cells no longer eligible, and, outside a frozen rest, the cells of least E_k beyond a
fallen unit limit. A deselection in a frozen rest restarts the cell's window of R208 (R234). -/
def balDeselect (s : State) (x : Ix) : State :=
  let st := s.est.str.get x
  if !st.seeded || !s.est.seed then balanceOff s x
  else
    let bs := balCells s x
    let frozen := restFrozen s x
    (car s x).units.foldl (fun s u =>
      let row := derateRow s u.derateRow (unitTemp s u bs)
      let s := modUnit s x u.addr fun u => { u with derateRow := row }
      let mine := bs.filter fun b => b.unit == u.addr && u.selected.contains b.k
      let kept := mine.filter (balEligible s x)
      let kept := if frozen then kept else (sortBal kept).take (unitLimit s row)
      let sel := kept.map (·.k)
      if sel.length = u.selected.length then s
      else
        let s := select s x u.addr (u.selected.filter sel.contains)
        if frozen then
          let gone (i : Nat) : Bool := mine.any fun b => b.no == i + 1 && !sel.contains b.k
          modStr s x fun st =>
            { st with cells := st.cells.zipIdx.map fun p => if gone p.2 then { p.1 with dvFrom := s.elec.uptime } else p.1 }
        else s) s

/-- The review of one string (R231). -/
def balReview (s : State) (x : Ix) : State :=
  let st := s.est.str.get x
  let inhibited (s : State) (cause n : Nat) : State := raiseIf s (decide (n ≠ 0)) 176 (ux x ++ u8 cause ++ u16 n)
  let bins (s : State) : State :=
    if !(car s x).compat && decide (parN s 0x0711 < 15) then inhibited s 1 ((car s x).units.map fun u => u.selected.length).sum else s
  if !st.seeded || !s.est.seed then inhibited (balanceOff s x) 5 st.cells.length
  else if restFrozen s x then bins s
  else
    let bs := balCells s x
    let startAh : F32 := fq ((parN s 0x0713 : Rat) / 1000)
    let stopAh : F32 := fq ((parN s 0x0714 : Rat) / 1000)
    let wants (b : BalCell) : Bool :=
      F32.le startAh (sub b.e (div (mul (mul (mul (parF s 0x0715) (sigmaS b.est)) b.est.kappa) st.c) (fq 100)))
    let selected (b : BalCell) : Bool := (unitAt s x b.unit).any fun u => u.selected.contains b.k
    let step := fun (acc : State × Nat) (u : UnitState) =>
      let (s, cut) := acc
      let row := derateRow s u.derateRow (unitTemp s u bs)
      let s := modUnit s x u.addr fun u => { u with derateRow := row }
      let mine := bs.filter fun b => b.unit == u.addr
      let keep := sortBal (mine.filter fun b => selected b && balEligible s x b && F32.lt stopAh b.e)
      let cand := sortBal (mine.filter fun b => !selected b && balEligible s x b && wants b)
      let all := keep ++ cand
      let n := unitLimit s row
      (select s x u.addr ((all.take n).map (·.k)), cut + if row = 0 then 0 else all.length - n)
    let (s, cut) := (car s x).units.foldl step (s, 0)
    let wanting := (bs.filter fun b => decide (b.frame.state = .valid) && (selected b || wants b)).length
    let s := bins s
    let s := if st.eod.2.2 then inhibited s 2 wanting else s
    let s := if (car s x).fltLoop then inhibited s 3 wanting else s
    inhibited s 4 cut

/-- BALANCE_REVIEW (R231, R240): at the first frame update that follows BAL_REVIEW_S since the last review, or a takeover. -/
def execBalanceReview (s : State) : Host.Outcome State Fault Refusal :=
  .next (
    let due := s.est.reviewDue || s.est.reviewUp.all fun u => passed s u (sec (parN s 0x0717))
    if drives s && s.est.began && due then
      let s := { s with est := { s.est with reviewUp := some s.elec.uptime, reviewDue := false } }
      let s := if strEnabled s .zero then balReview s .zero else s
      if strEnabled s .one then balReview s .one else s
    else s)

end Sys2Proof.Machine
end

