-- ==== Sys2Proof/Machine/PowerClock.lean ====
section
/-! DEFINITION. Meanings of the supply, reference, PLL, clock and watchdog commands (chapters 1, 2 and 18). -/

namespace Sys2Proof.Machine

open Sys2Proof

/-- CLK_STAT as a register word (Table 2-6). -/
def clkStat (s : State) : Word :=
  let c := s.clk
  packWord [⟨0, 1, bit c.refOk.zero⟩, ⟨1, 1, bit c.refOk.one⟩, ⟨2, 1, c.sel.num⟩, ⟨3, 1, bit c.lock⟩, ⟨4, 1, bit c.forced⟩,
    ⟨5, 1, bit c.lockLost⟩, ⟨6, 1, bit c.refLost⟩, ⟨7, 1, bit (!c.queue.isEmpty)⟩, ⟨8, 1, bit c.refDiff⟩,
    ⟨9, 1, bit c.divReject⟩, ⟨10, 6, c.forcedDom⟩, ⟨16, 16, c.lockLossCnt⟩]

/-- A domain runs from the PLL. -/
def ClkState.onPll (c : ClkState) : Domain → Bool
  | .cpu => c.cpuPll
  | .eng => c.engPll
  | .fab => c.fabPll
  | .ctl => c.ctlPll
/-- Moving a domain to a source. -/
def ClkState.setDom (c : ClkState) (d : Domain) (pll : Bool) : ClkState :=
  match d with
  | .cpu => { c with cpuPll := pll }
  | .eng => { c with engPll := pll }
  | .fab => { c with fabPll := pll }
  | .ctl => { c with ctlPll := pll }
/-- Any stopped domain runs from the PLL. -/
def ClkState.anyPll (c : ClkState) : Bool := c.cpuPll || c.engPll || c.fabPll || c.ctlPll
/-- Requesting source changes, behind those already requested (R60). -/
def ClkState.ask (c : ClkState) (ds : List Domain) (pll : Bool) : ClkState :=
  { c with queue := c.queue ++ ds.map fun d => { dom := d, toPll := pll } }
/-- Requesting that each domain stops and restarts on the source it has, as new dividers need it (R58, R63). -/
def ClkState.askAgain (c : ClkState) (ds : List Domain) : ClkState :=
  { c with queue := c.queue ++ ds.map fun d => { dom := d, toPll := c.onPll d } }

/-- Order of the move to bypass on a loss of lock, as Table 2-4 names the domains. -/
def lossOrder : List Domain := [.cpu, .eng, .fab, .ctl]
/-- Order of the move to bypass on purpose (R499). -/
def purposeOrder : List Domain := [.cpu, .eng, .ctl, .fab]
/-- Order of the return to the PLL (R61). -/
def returnOrder : List Domain := [.fab, .ctl, .eng, .cpu]

/-- The switch at the head of the queue completes: the domain runs on its new source and the next switch starts; with the last one
a reference change, new dividers and the CLOCK state take effect (R58, R60, R63, R499). -/
def finishSwitch (c : ClkState) : ClkState :=
  match c.queue with
  | [] => c
  | q :: rest =>
    let c := { c.setDom q.dom q.toPll with queue := rest }
    if !rest.isEmpty then c
    else
      let c := { c with bypass := !(c.cpuPll && c.engPll && c.fabPll && c.ctlPll) }
      let c := match c.refMove with
        | none => c
        | some r => { c with sel := if c.refOk.get r then r else c.sel, refMove := none }
      if c.applying then { c with applying := false, divActing := c.divTaken } else c

/-- PLL charge-pump current of a band, in µA (Table 8-6). -/
def pumpOf : Band → Nat
  | .cold => 80
  | .normal => 100
  | .warm => 120
  | .hot => 160
/-- A loss of lock during a charge-pump step sequence stops the sequence (R248). -/
def pumpStop (was : Bool) (s : State) : State :=
  if was && !s.clk.lock && s.clk.pump != pumpOf s.therm.bandInForce then { s with clk := { s.clk with pumpWait := true } } else s

/-- Loss of lock on purpose: every domain goes to bypass, and neither LOCK_LOST nor LOCK_LOSS_CNT moves (R499). -/
def toBypass (c : ClkState) : ClkState := { c.ask purposeOrder false with lock := false, bypass := true }

/-- A divider field lies below its stated minimum (Table 2-7). -/
def dividerBad (d : Dividers) : Bool := d.cpu < 4 || d.eng < 6 || d.fab < 12 || d.ctl < 6 || d.mod < 96

/-- A write of CLK_CTRL: PLL_EN acts at the write, REF_PREF is held, APPLY applies REF_PREF and CLK_DIV or sets DIV_REJECT (Table 2-5,
R63, R499). -/
def writeClkCtrl (c : ClkState) (w : Nat) : ClkState :=
  let en := testBit w 0
  let c := { c with refPref := Ix.ofNum (bits w 1 1) }
  let c := if !en && (c.anyPll || c.queue.any (·.toPll)) then toBypass c else c
  let c := { c with pllEn := en, lock := c.lock && en }
  if !testBit w 2 then c
  else if dividerBad c.div then { c with divReject := true, applying := false }
  else if c.refPref ≠ c.sel ∧ c.refOk.get c.refPref = true then
    { toBypass c with applying := true, divTaken := c.div, refMove := some c.refPref }
  else { c.askAgain purposeOrder with applying := true, divTaken := c.div }

/-- POWER_GOOD (R478): the outrider latches SLOT_ID and HOLD_STRAP and power-up step 2 begins. -/
def execPowerGood (slotB strap2s present : Bool) (s : State) : Host.Outcome State Fault Refusal :=
  .next (if s.elec.powered then s else powerUp s slotB strap2s present)

/-- WITHDRAWAL (R479): every coil switch and transmitter turns off and the supply follows. -/
def execWithdrawal (s : State) : Host.Outcome State Fault Refusal :=
  .next (if s.elec.powered then powerOff s else s)

/-- SUPPLY_LOSS (R477): the output turns off and the card drives nothing. -/
def execSupplyLoss (s : State) : Host.Outcome State Fault Refusal :=
  .next (if s.elec.powered then powerOff s else s)

/-- REFERENCE_DETECT (R52): a reference counts as present; at power-up this ends step 2, REFCLK_A chosen when both are present. A module
that has lost both references after step 2 leaves clockless hold by a restart alone (R36). -/
def execReferenceDetect (r : Ix) (s : State) : Host.Outcome State Fault Refusal :=
  .next (
    if !s.elec.powered || s.elec.clockless || !(s.elec.step == 2 || refPresent s) then s
    else
      let ok := s.clk.refOk.set r true
      let c := { s.clk with refOk := ok }
      if s.elec.step = 2 then
        { s with clk := { c with sel := if ok.zero then .zero else .one }, elec := { s.elec with step := 3 } }
      else { s with clk := c })

/-- REFERENCE_LOST (R53): the module moves to the other reference if it is present; in bypass PER and MOD stall, which counts as a
forced switch (R58, R59). A move of APPLY to a reference that is lost does not take place (R60). -/
def execReferenceLost (r : Ix) (s : State) : Host.Outcome State Fault Refusal :=
  .next (
    if !clocked s || !s.clk.refOk.get r then s
    else
      let c := { s.clk with refOk := s.clk.refOk.set r false, refMove := if s.clk.refMove = some r then none else s.clk.refMove }
      if r ≠ c.sel then { s with clk := c }
      else
        let c := { c with refLost := true }
        if !c.refOk.get r.other then { s with clk := c }
        else
          let c := { c with sel := r.other }
          if c.bypass then
            let c := { c.ask lossOrder false with forced := true, forcedDom := c.forcedDom ||| 0x30, modStalled := true }
            raise { s with clk := c } 2 []
          else { s with clk := c })

/-- REF_FREQ_COMPARE (R54): a difference above 600 ppm over 1,048,576 periods sets REF_DIFF and raises EV 004. -/
def execRefFreqCompare (other : Nat) (s : State) : Host.Outcome State Fault Refusal :=
  .next (
    let d : Nat := (other - 1048576) + (1048576 - other)
    if clocked s && s.clk.refOk.zero && s.clk.refOk.one && decide (d * 1000000 > 600 * 1048576) then
      raise { s with clk := { s.clk with refDiff := true } } 4 []
    else s)

/-- BYPASS_RUN (R47 step 3): the boot loader starts, or the step is repeated every 1 s. -/
def execBypassRun (loaderRuns : Bool) (s : State) : Host.Outcome State Fault Refusal :=
  .next (
    if clocked s && s.elec.step == 3 && (s.clk.refOk.zero || s.clk.refOk.one) && loaderRuns then
      { s with elec := { s.elec with step := 4, loader := true, uptime := 0 } }
    else s)

/-- PLL_LOCK (R55): LOCK is set and the stopped domains return in the order FAB, CTL, ENG, CPU (R61). -/
def execPllLock (s : State) : Host.Outcome State Fault Refusal :=
  .next (
    if clocked s && decide (4 ≤ s.elec.step) && s.clk.pllEn && !s.clk.lock then
      { s with clk := { (s.clk.ask returnOrder true) with lock := true, pumpWait := false },
               elec := { s.elec with step := if s.elec.step = 4 then 5 else s.elec.step } }
    else s)

/-- PLL_LOCK_LOST (R61): the domains move to bypass, LOCK_LOST is set and EV 001 carries CLK_STAT (Table 2-4). -/
def execPllLockLost (s : State) : Host.Outcome State Fault Refusal :=
  .next (
    if clocked s && s.clk.lock then
      let c := { s.clk.ask lossOrder false with
        lock := false, bypass := true, lockLost := true, lockLossCnt := sat 0xFFFF (s.clk.lockLossCnt + 1) }
      let s := pumpStop true (setClk s c)
      raise s 1 (u32 (clkStat s).toNat)
    else s)

/-- DOMAIN_SWITCH_DONE (R58). -/
def execDomainSwitchDone (s : State) : Host.Outcome State Fault Refusal :=
  .next (if clocked s then setClk s (finishSwitch s.clk) else s)

/-- DOMAIN_SWITCH_TIMEOUT (R59): the switch completes by timeout; FORCED and the domain's bit of FORCED_DOM are set, EV 002. -/
def execDomainSwitchTimeout (s : State) : Host.Outcome State Fault Refusal :=
  .next (
    match s.clk.queue with
    | [] => s
    | q :: _ =>
      if clocked s then
        let c := finishSwitch s.clk
        let s := if q.dom = .ctl then markLate s s.ctl.lastDue else s
        raise (setClk s { c with forced := true, forcedDom := c.forcedDom ||| 2 ^ q.dom.bitNo }) 2 []
      else s)

/-- PLL_EN_WRITE (R499): a write of CLK_CTRL. -/
def execPllEnWrite (w : Word) (s : State) : Host.Outcome State Fault Refusal :=
  .next (if clocked s then pumpStop s.clk.lock (setClk s (writeClkCtrl s.clk w.toNat)) else s)

/-- APPLY (R63): a write of CLK_CTRL with APPLY = 1. -/
def execApply (w : Word) (s : State) : Host.Outcome State Fault Refusal :=
  .next (if clocked s then pumpStop s.clk.lock (setClk s (writeClkCtrl s.clk (w.toNat ||| 4))) else s)

/-- WATCHDOG_EXPIRY (R500): a restart from step 3 with restart cause 2. -/
def execWatchdogExpiry (s : State) : Host.Outcome State Fault Refusal :=
  .next (if running s then restart s 2 else s)

/-- The stamp of the last waymark before the present instant (R62): the last one that an angle source has sent, else the last one of the
stream that the module keeps to, which on a standby may be the peer link's (R505); without one, the module's own tick. -/
def lastWaymark (s : State) : Stamp :=
  let t := if !isActive s && s.grid.peer.accepted then s.grid.peer else match s.grid.sel with | .zero => s.grid.u0 | .one => s.grid.u1
  if s.grid.head then stampOf s.grid.named
  else match t.lastNamed with
    | some n => stampOf n
    | none => stampTick s

/-- CLOCKLESS_HOLD (R62): with both references absent everything but the outrider stops; an outrider that owns the line holds the
contactors; EV 003 waits for the restart with the stamp of the last waymark. -/
def execClocklessHold (s : State) : Host.Outcome State Fault Refusal :=
  .next (
    if !s.elec.powered || s.elec.clockless || refPresent s || s.elec.step < 3 then s
    else
      let at_ := lastWaymark s
      let s := stopLoops { s with elec := { s.elec with clockless := true } }
      let o : Occ := { mkOcc s 3 (ustamp at_) with at_ := at_, deferred := true }
      let s := takeFree { s with ev := { s.ev with early := s.ev.early ++ [o] } }
      if s.outr.owner then beginHold s .clockless else s)

/-- REFERENCE_RETURN_RESTART (R36): a reference returns during clockless hold; a clockless hold gives way to the restart hold and the
module restarts from step 3 with restart cause 3. -/
def execReferenceReturnRestart (r : Ix) (s : State) : Host.Outcome State Fault Refusal :=
  .next (
    if !(s.elec.powered && s.elec.clockless) then s
    else
      let held := s.outr.hold == .clockless
      let mask := heldMask s
      let s := restart { s with clk := { s.clk with refOk := ({ zero := false, one := false } : Two Bool).set r true, sel := r } } 3
      if held then
        let s := raiseOrDefer s 196 (u8 3 ++ u8 mask ++ u8 0 ++ u8 4)
        beginHold { s with outr := { s.outr with hold := .none } } .restart
      else s)

end Sys2Proof.Machine
end

