-- ==== Sys2Proof/Machine/Thermal.lean ====
section
/-! DEFINITION. Thermal management: the strings' temperatures and derate factors, thermal nodes, and the die temperature with its bands
(R242 to R249); and the checks every peer link frame passes (R346, R347). -/

namespace Sys2Proof

/-- A peer link frame passes its CRC, has the type expected and a LEN that agrees with its length and the type's (R346, R347). -/
def PeerFrame.good (f : PeerFrame) (type : Nat) (ok : Nat → Bool) : Bool :=
  f.crc == crc32c (f.type :: beBytes 2 f.len ++ f.payload) && f.type.toNat == type && f.len == f.payload.length && ok f.len

end Sys2Proof

namespace Sys2Proof.Machine

open Sys2Proof
open Sys2Proof.F32 (add sub mul div)

/-- A peer link frame discarded and counted (R346, R347). -/
def discardPeer (s : State) : State := { s with pair := { s.pair with disc := sat 0xFFFF (s.pair.disc + 1) } }

/-! ### Strings -/

/-- The two candidates of each contested temperature of a cell: its thermistor and the mean of T_IMP (R180, R242). -/
def tempCandidates (s : State) (fr : StrFrame) (f : CellFrame) : List F32 :=
  (fr.temps.filter fun t => t.contested && t.unit == f.unit && testBit (parN s (0x0610 + (t.ch - 1))) f.idx).flatMap fun t =>
    (t.therm.toList ++ t.timp.toList).map F32.ofRat
/-- T_hot and T_cold of a string (R242); for a contested temperature the candidate on the hotter and on the colder side. -/
def stringTemps (s : State) (x : Ix) : Option F32 × Option F32 :=
  let st := s.est.str.get x
  match s.fus.frames.get x with
  | none => (none, none)
  | some fr =>
    let l := ((st.cells.zip fr.cells).filter fun p => p.2.state == .valid || p.1.onModel).flatMap fun (e, f) =>
      let c := tempCandidates s fr f
      if c.isEmpty then [e.x.t] else c
    match l with
    | [] => (none, none)
    | a :: r => (some (r.foldl F32.maxOf a), some (r.foldl F32.minOf a))

/-- h(T) of R246. -/
def derateHot (s : State) (t : F32) : F32 :=
  let a := parF s 0x0820
  let z := parF s 0x0821
  if F32.le t a then F32.one else if F32.le z t then 0 else div (sub z t) (sub z a)
/-- c(T) of R246. -/
def derateCold (s : State) (t : F32) : F32 :=
  let a := parF s 0x0822
  let z := parF s 0x0823
  if F32.le a t then F32.one else if F32.le t z then 0 else div (sub t z) (sub a z)
/-- A node that serves a string is lost (R244, R246). -/
def nodeLostFor (s : State) (x : Ix) : Bool :=
  (List.range 16).any fun n =>
    let v := parN s (0x0D10 + n)
    decide (v % 256 ≠ 0) && testBit (v / 256) x.num && (s.therm.nodes[n]?).any (·.lost)
/-- A factor moves toward its target by at most 0.02 per frame (R246). -/
def stepFactor (old new : F32) : F32 :=
  let d := fq (2 / 100)
  F32.clamp new (sub old d) (add old d)

/-- T_hot, T_cold and the derate factors of a string at a frame update, with EV 178 (R242, R246). A string with no temperature keeps its factors. -/
def thermalDerate (s : State) (x : Ix) : State :=
  let (hot, cold) := stringTemps s x
  let t := s.therm
  let s := { s with therm := { t with hot := t.hot.set x hot, cold := t.cold.set x cold } }
  match hot, cold with
  | some th, some tc =>
    let m := if nodeLostFor s x then parF s 0x0824 else F32.one
    let h := derateHot s th
    let up := stepFactor (t.up.get x) (mul h m)
    let dn := stepFactor (t.dn.get x) (mul (mul h (derateCold s tc)) m)
    let low := F32.lt up F32.one || F32.lt dn F32.one
    let was := t.derated.get x
    let s := { s with therm := { s.therm with up := s.therm.up.set x up, dn := s.therm.dn.set x dn, derated := s.therm.derated.set x low } }
    raiseIf s (low != was) 178 (ux x ++ fb up ++ fb dn ++ fb th ++ fb tc ++ ub low)
  | _, _ => s

/-- Changing one node of CAN1. -/
def modNode (s : State) (n : Nat) (f : NodeState → NodeState) : State :=
  { s with therm := { s.therm with nodes := modAt s.therm.nodes n f } }

/-- THERMAL_NODE_LOST (R244): no status of a configured node for TH_NODE_TIMEOUT_S. -/
def execThermalNodeLost (node : Nat) (s : State) : Host.Outcome State Fault Refusal :=
  .next (
    let v := parN s (0x0D10 + node)
    match s.therm.nodes[node]? with
    | none => s
    | some d =>
      if running s && isActive s && decide (v % 256 ≠ 0) && !d.lost && passed s (d.seenUp.getD 0) (sec (parN s 0x0811)) then
        raise (modNode s node fun d => { d with lost := true }) 179 (u8 node ++ u8 (v / 256) ++ u8 1)
      else s)

/-! ### Die temperature -/

/-- The partner's reading is valid (R249). -/
def partnerValid (s : State) : Bool := s.therm.partner.any fun p => !passed s p.2 (sec 1)
/-- TEMP_HOST is valid (R249). -/
def hostTempValid (s : State) : Bool := s.therm.hostUp.any fun u => !passed s u (sec 10)
/-- H of TEMP_HOST in 0.125 °C. -/
def slotTemp (s : State) : Int := toSigned 12 s.therm.slotT
/-- A temperature in 0.125 °C as binary32 °C. -/
def degC (t : Int) : F32 := fq ((t : Rat) / 8)

/-- Rank of a band. -/
def bandUp : Int → Band
  | t => if 960 ≤ t then .hot else if 680 ≤ t then .warm else if -40 ≤ t then .normal else .cold
/-- The measured band with its 4 °C hysteresis (R247). -/
def nextBand (old : Band) (t : Int) : Band :=
  let up := bandUp t
  if old.code < up.code then up
  else
    let low (b : Band) : Int := match b with | .hot => 960 | .warm => 680 | .normal => -40 | .cold => -100000
    let fall (b : Band) : Band :=
      if t ≤ low b - 32 then (match b with | .hot => .warm | .warm => .normal | _ => .cold) else b
    fall (fall (fall old))

/-- DRAM refresh interval of a band, ns (Table 8-6). -/
def dramOf (b : Band) : Nat := if b = .cold ∨ b = .normal then 3904 else 1952
/-- Chopper of a band, kHz (Table 8-6). -/
def chopOf (b : Band) : Nat := if b = .cold ∨ b = .normal then 100 else 50

/-- The band in force, its settings and EV 020 (R247, R248). -/
def applyBand (s : State) : State :=
  let t := s.therm
  let b := if t.broken then .hot else t.band
  let s :=
    if b = t.bandInForce then s
    else
      let n := dramOf b
      let longer := decide (t.dramNs < n)
      raise { s with therm := { t with
          bandInForce := b, bandChg := true, rxBand := b, dramNs := if longer then t.dramNs else n,
          dramAt := if longer then some (s.elec.uptime + ms 64) else none } } 20
        (u8 t.bandInForce.code ++ u8 b.code ++ fb (degC t.td))
  match s.therm.dramAt with
  | some u => if u ≤ s.elec.uptime then
      { s with therm := { s.therm with dramNs := dramOf s.therm.bandInForce, dramAt := none } } else s
  | none => s

/-- The judgement of the diode (R249); `jump` is the difference of two successive readings. -/
def judgeDiode (s : State) (jump : Nat) : State :=
  let t := s.therm
  let p := if partnerValid s then t.partner.map (·.1) else none
  let h := if hostTempValid s then some (slotTemp s + 8 * parN s 0x0840) else none
  let inside := decide (-440 ≤ t.td) && decide (t.td ≤ 1200)
  let far (r : Int) (d : Nat) : Bool := decide (d < (t.td - r).natAbs)
  let event (s : State) (b : Bool) : State :=
    raise s 21 (fb (degC t.td) ++ fb (degC ((t.partner.map (·.1)).getD 0)) ++ fb (degC (slotTemp s)) ++ ub b)
  if !t.broken then
    let bad := match p, h with
      | some a, some b => far a 120 && far b 120
      | _, _ => !inside || decide (80 < jump)
    if bad then event { s with therm := { t with broken := true, agreeUp := none } } true else s
  else
    let near (r : Option Int) : Bool := r.any fun a => !far a 96
    if inside && (near p || near h) then
      match t.agreeUp with
      | none => { s with therm := { t with agreeUp := some s.elec.uptime } }
      | some u =>
        if passed s u (sec 10) then event { s with therm := { t with broken := false, agreeUp := none } } false else s
    else { s with therm := { t with agreeUp := none } }

/-- DIE_READING (R247, R248, R249): T_d is the mean of the last 16 readings, to the nearest 0.125 °C. -/
def execDieReading (reading : Int) (s : State) : Host.Outcome State Fault Refusal :=
  .next (
    if !running s then s
    else
      let t := s.therm
      let rs := (reading :: t.readings).take 16
      let td := roundHalfUp ((rs.sum : Rat) / rs.length)
      let jump := match t.readings with
        | [] => 0
        | r :: _ => (reading - r).natAbs
      let s := { s with therm := { t with readings := rs, td := td, band := nextBand t.band td, judged := true } }
      applyBand (judgeDiode s jump))

/-- DIE_TEMP (R249): the partner's T_d becomes the reference P. -/
def execDieTemp (f : PeerFrame) (s : State) : Host.Outcome State Fault Refusal :=
  .next (
    if !running s then s
    else if !f.good 0x31 (· == 4) then discardPeer s
    else { s with therm := { s.therm with partner := some (toSigned 16 (beAt f.payload 0 2), s.elec.uptime) } })

/-- TEMP_HOST_WRITE (R249): the slot temperature and its 10 s of validity. -/
def execTempHostWrite (w : Word) (s : State) : Host.Outcome State Fault Refusal :=
  .next (if clocked s then { s with therm := { s.therm with slotT := w.toNat % 4096, hostUp := some s.elec.uptime } } else s)

/-- DIE_TEMP_SEND (R249): T_d to the partner every 100 ms. -/
def execDieTempSend (s : State) : Host.Outcome State Fault Refusal :=
  .next (
    if running s then emit s (.peer 0x31 (beBytes 2 (ofSigned 16 s.therm.td) ++ [toByte (bit s.therm.broken), 0])) else s)

/-- CHARGE_PUMP_STEP (R247, R248): one 5 µA step toward the setting of the band in force. -/
def execChargePumpStep (s : State) : Host.Outcome State Fault Refusal :=
  .next (
    let p := s.clk.pump
    let g := pumpOf s.therm.bandInForce
    if clocked s && !s.clk.pumpWait && p != g then
      { s with clk := { s.clk with pump := if p < g then p + 5 else p - 5 } }
    else s)

end Sys2Proof.Machine
end

