-- ==== Sys2Proof/Machine/Control.lean ====
section
/-! DEFINITION. The control engine: slot schedule, inputs, the loop equations, tracking and start, coefficient banks, late
evaluations (R252 to R271), and the timeouts of invalid inputs (R243, R260). -/

namespace Sys2Proof.Machine

open Sys2Proof
open Sys2Proof.F32 (addZ subZ mulZ divZ)

/-! ### Configuration records and banks (Table 9-7, R269) -/

/-- The configuration record of a slot in force. -/
def slotCfg (s : State) (n : Nat) : List Byte := parBytes s (0x0900 + n)
/-- A bank of a slot as its ten coefficients. -/
def bankOf (s : State) (n : Nat) (b : Bool) : List F32 :=
  let bs := parBytes s ((if b then 0x0980 else 0x0940) + n)
  (List.range 10).map fun k => BitVec.ofNat 32 (leAt bs (4 * k) 4)
/-- EN. -/
def cfgEn (b : List Byte) : Bool := testBit (byteAt b 0) 0
/-- BUMPLESS. -/
def cfgBumpless (b : List Byte) : Bool := testBit (byteAt b 0) 1
/-- A binary32 field of a record. -/
def cfgF (b : List Byte) (off : Nat) : F32 := BitVec.ofNat 32 (leAt b off 4)
/-- DEST class and index. -/
def cfgDest (b : List Byte) : Nat × Nat := (byteAt b 22, byteAt b 23)

/-- A tick is due for a record (R254, R16): PERIOD 0 at each holding-period boundary. -/
def slotDue (s : State) (b : List Byte) : Bool :=
  let p := byteAt b 1
  if p = 0 then decide (s.grid.now % holdPeriod s = 0) else decide (s.grid.now % p = byteAt b 2)
/-- The slot's period in seconds, at the mean tick interval (R257). -/
def slotPeriod (s : State) (b : List Byte) : Rat :=
  let p := byteAt b 1
  (if p = 0 then (holdPeriod s : Rat) else (p : Rat)) * s.grid.period / 8000000000

/-- The module evaluates the slot (R253, Table 9-1). -/
def slotRuns (s : State) (n : Nat) : Bool :=
  cfgEn (slotCfg s n) &&
  (if n = 0 ∨ n = 40 then strEnabled s .zero
   else if n = 1 then dualStrings s
   else if n = 41 then strEnabled s .one
   else if 16 ≤ n ∧ n ≤ 23 then s.hold.mode == .lead || s.hold.mode == .shadowLead
   else true)

/-! ### Inputs (R255, R256, Tables 9-2 and 10-4) -/

/-- The tick that ended at the trigger of the current tick, as recorded. -/
def endedTick (s : State) : Option TickRec :=
  (s.front.hist.head?).filter fun t => t.at_ + 1 == s.grid.now
/-- Tick mean of V_PACK or V_LINK while its source is VALID. -/
def tickVolt (s : State) (x : Ix) (ch : Nat) : Option F32 :=
  let key : SrcKey := if ch = 2 then .vpack x else .vlink x
  (endedTick s).bind fun t => if chanValid s t x ch && !convicted s key then some ((t.fe.get x).chan ch).value else none
/-- The newest grid reference sample available at L (R163): the sample `k` half-ticks before the trigger. -/
def grefAtLatch (s : State) (ch : Nat) : Option F32 :=
  let late (k : Nat) : Bool := decide ((us 420 : Rat) ≤ k * s.grid.period / 2 + us 25)
  ((List.range 32).map (· + 1)).find? late |>.bind fun k =>
    (s.front.hist.find? fun t => t.at_ + (k + 1) / 2 == s.grid.now).bind fun t =>
      (t.grefVal[ch]?).bind fun g => if (t.grefOvr.getD ch false) then none else some (if k % 2 = 0 then g.1 else g.2)
/-- Tenths of a kW or kvar as binary32. -/
def tenths (n : Nat) : F32 := F32.ofRat ((n : Rat) / 10)
/-- A point hold quantity (Table 10-4). -/
def holdQuantity (s : State) (i : Nat) : Option F32 :=
  let lead := s.hold.mode == .lead
  if !lead && s.hold.mode != .shadowLead then none
  else match i with
    | 0 | 1 | 2 | 3 => s.hold.voted.bind fun l => l[i]?
    | 4 => some s.hold.pRef
    | 5 => some s.hold.qRef
    | 6 => if lead && s.hold.sumsValid then some (tenths s.hold.sums.1) else none
    | 7 => if lead && s.hold.sumsValid then some (tenths s.hold.sums.2.1) else none
    | 8 => if lead && s.hold.sumsValid then some (tenths s.hold.sums.2.2) else none
    | _ => none
/-- Value reported by a CAN1 node, while the node reports (Table 9-1, R244). -/
def nodeValue (s : State) (arg : Nat) : Option F32 :=
  (s.therm.nodes[arg % 16]?).bind fun n =>
    if n.lost then none
    else n.values.bind fun v => match arg / 16 % 4 with
      | 0 => some v.1
      | 1 => some v.2.1
      | 2 => some v.2.2
      | _ => none
/-- The thermal setpoint of a slot (Table 8-4). -/
def thermalSetpoint (s : State) (n : Nat) : F32 :=
  if n = 40 ∨ n = 41 then parF s 0x0801 else if n = 42 then F32.ofRat (parN s 0x0804) else parF s 0x0807
/-- The thermal limits of a slot (Table 8-4). -/
def thermalLimits (s : State) (n : Nat) : F32 × F32 :=
  if n = 40 ∨ n = 41 then (F32.ofRat (parN s 0x0802), F32.ofRat 100)
  else if n = 42 then (parF s 0x0803, parF s 0x0805)
  else (F32.ofRat (parN s 0x0806), F32.ofRat 100)
/-- The value an input source holds at L; none when it is invalid (R256). -/
def slotInput (s : State) (code arg : Nat) : Option F32 :=
  let x := Ix.ofNum arg
  let v : Option F32 := match code with
    | 0x01 => tickVolt s x 2
    | 0x02 => tickVolt s x 3
    | 0x03 => (s.fus.pub.get x).cur
    | 0x04 => match tickVolt s x 2, (s.fus.pub.get x).cur with
      | some u, some i => some (F32.negate (divZ (mulZ u i) (F32.ofRat 1000)))
      | _, _ => none
    | 0x05 => s.therm.hot.get x
    | 0x06 => s.therm.cold.get x
    | 0x07 => grefAtLatch s arg
    | 0x08 => nodeValue s arg
    | 0x09 => (s.ctl.slots[arg]?).map (·.out)
    | 0x0A => some (F32.ofRat (s.hold.p.get x))
    | 0x0B => holdQuantity s arg
    | 0x0C => if (s.est.str.get x).init then some (s.est.str.get x).sR else none
    | 0x0F => some (thermalSetpoint s arg)
    | _ => none
  if code = 0x09 then v else v.filter F32.isFinite
/-- The measured value (R256). -/
def slotMeasured (s : State) (b : List Byte) : Option F32 :=
  let a := slotInput s (byteAt b 4) (byteAt b 5)
  if byteAt b 3 = 0 then a
  else match a, slotInput s (byteAt b 6) (byteAt b 7) with
    | some p, some q =>
      if byteAt b 3 = 1 then some (F32.maxOf p q)
      else if byteAt b 3 = 2 then some (F32.minOf p q)
      else some (divZ (addZ p q) (F32.ofRat 2))
    | some p, none => some p
    | none, q => q
/-- The dynamic limits of LIM_SRC; none for no limit (R259, R286). -/
def slotLimits (s : State) (b : List Byte) : Option (F32 × F32) :=
  let arg := byteAt b 21
  let sums := s.hold.mode == .lead && s.hold.sumsValid
  if byteAt b 20 = 0x0D then
    if arg = 0x80 then (if sums then some (F32.negate (tenths s.hold.sums.2.1), tenths s.hold.sums.1) else none)
    else if arg = 0x81 then (if sums then some (F32.negate (tenths s.hold.sums.2.2), tenths s.hold.sums.2.2) else none)
    else
      let p := s.prot.get (Ix.ofNum arg)
      some (p.lMin, p.lMax)
  else if byteAt b 20 = 0x0E then some (thermalLimits s arg)
  else none
/-- lo and hi of R259, subnormal operands flushed (R257). -/
def slotRange (bank : List F32) (lim : Option (F32 × F32)) : F32 × F32 :=
  let a := F32.ftz (bank.getD 6 0)
  let z := F32.ftz (bank.getD 7 0)
  match lim with
  | none => (a, z)
  | some (l, h) =>
    let l := F32.ftz l
    let h := F32.ftz h
    let lo := F32.maxOf a l
    let hi := F32.minOf z h
    if F32.lt hi lo then (l, h) else (lo, hi)
/-- The fallback output of a slot (R260, Table 8-5). -/
def slotFallback (s : State) (n : Nat) : F32 :=
  if n = 42 then parF s 0x0803 else if n = 40 ∨ n = 41 ∨ n = 43 then F32.ofRat 100 else cfgF (slotCfg s n) 16
/-- The last value heard for the slot's destination while standby (R245, R261, R296). -/
def slotHeard (s : State) (n : Nat) : Option F32 :=
  let d := cfgDest (slotCfg s n)
  match d.1 with
  | 1 => (s.can.pcs.get (Ix.ofNum d.2)).heard.map (·.1)
  | 2 => (s.therm.nodes[d.2]?).bind (·.heard)
  | 3 => s.hold.copy.bind fun c => c.outs[d.2]?
  | _ => none

/-! ### The loop (R257, R258, R261, R263) -/

/-- What one evaluation reads. -/
structure LoopIn where
  bank : List F32
  ts : F32
  r : F32
  f : F32
  y : F32
  lo : F32
  hi : F32
  deriving DecidableEq, Repr

/-- A coefficient of the bank. -/
def LoopIn.c (x : LoopIn) (k : Nat) : F32 := x.bank.getD k 0
/-- e. -/
def LoopIn.e (x : LoopIn) : F32 := subZ x.r x.y
/-- P. -/
def LoopIn.p (x : LoopIn) : F32 := mulZ (x.c 0) x.e
/-- F. -/
def LoopIn.ff (x : LoopIn) : F32 := mulZ (x.c 5) x.f
/-- D from a slot's D_prev and y_prev. -/
def LoopIn.d (x : LoopIn) (sl : SlotState) : F32 :=
  divZ (subZ sl.dPrev (mulZ (mulZ (x.c 2) (x.c 3)) (subZ x.y sl.yPrev))) (addZ F32.one (mulZ (x.c 3) x.ts))

/-- The equations of R257 in their order; the second part is the stage at which a value that is not finite arose, 0 for none
(1 Ts, 2 e, 3 P, 4 D, 5 F, 6 v, 7 w, 8 u, 9 I). -/
def evalSlot (x : LoopIn) (sl : SlotState) : SlotState × Nat :=
  let e := x.e
  let p := x.p
  let d := x.d sl
  let f := x.ff
  let v := addZ (addZ (addZ f p) sl.i) d
  let dn := subZ sl.uPrev (mulZ (x.c 9) x.ts)
  let up := addZ sl.uPrev (mulZ (x.c 8) x.ts)
  let w := F32.clamp v dn up
  let u := F32.clamp w x.lo x.hi
  let ki := mulZ (mulZ (x.c 1) x.ts) e
  let kt := mulZ (x.c 4) x.ts
  let i := addZ (addZ sl.i ki) (mulZ (F32.minOf kt F32.one) (subZ u v))
  let dy := mulZ (mulZ (x.c 2) (x.c 3)) (subZ x.y sl.yPrev)
  let stages : List (Nat × F32) :=
    [(1, x.ts), (2, e), (3, p), (4, dy), (4, mulZ (x.c 3) x.ts), (4, d), (5, f), (6, addZ f p), (6, addZ (addZ f p) sl.i), (6, v), (7, dn), (7, up),
     (7, w), (8, u), (9, ki), (9, kt), (9, subZ u v), (9, i)]
  match stages.find? fun q => !F32.isFinite q.2 with
  | some q => (sl, q.1)
  | none =>
    ({ sl with i := i, dPrev := d, yPrev := x.y, uPrev := u, out := u, e := e, p := p, d := d, v := v, iEval := i,
               uEval := u, start := 0 }, 0)

/-- The state from which a starting slot is evaluated (R261). -/
def startSlot (x : LoopIn) (sl : SlotState) (val : F32) : SlotState :=
  { sl with uPrev := val, yPrev := x.y, dPrev := 0, i := subZ (subZ val x.ff) x.p }
/-- A bank change at a due tick (R263). -/
def changeBank (bumpless : Bool) (old : List F32) (x : LoopIn) (sl : SlotState) : SlotState :=
  if !bumpless then sl
  else
    let kdOld := old.getD 2 0
    let sl := { sl with dPrev := if F32.ftz kdOld = 0 ∨ F32.ftz kdOld = F32.negate 0 then 0 else mulZ sl.dPrev (divZ (x.c 2) kdOld) }
    { sl with i := subZ (subZ (subZ sl.uPrev x.ff) x.p) (x.d sl) }

/-- The start value of R261; a slot that starts otherwise keeps u_prev. -/
def startValue (s : State) (n : Nat) (sl : SlotState) : F32 :=
  if sl.start = 3 then sl.startVal
  else if sl.start = 2 then
    match (if byteAt (slotCfg s n) 26 = 1 then slotHeard s n else none) with
    | some v => v
    | none => slotFallback s n
  else sl.uPrev

/-- The event of an input lost or returned: EV 180 for slots 40 to 43, EV 114 for the others (R243, R260). -/
def inputEvent (s : State) (n input : Nat) (lost : Bool) : State :=
  if 40 ≤ n ∧ n ≤ 43 then raise s 180 (u8 n ++ fb (slotFallback s n) ++ ub lost)
  else raise s 114 (u8 n ++ u8 input ++ fb (slotFallback s n) ++ ub lost)

/-! ### The latch (R254, R260 to R268) -/

/-- One slot of the engine. -/
def slotAt (s : State) (n : Nat) : SlotState := (s.ctl.slots[n]?).getD {}

/-- A committed configuration record that takes effect (R264): the slot starts there under R261. -/
def takeConfig (s : State) (n : Nat) : State :=
  let was := cfgEn (slotCfg s n)
  let s := applyPending s fun b a => b == .slot n && a == 0x0900 + n
  if !cfgEn (slotCfg s n) then s
  else modSlot s n fun sl =>
    if was then { sl with start := if sl.start = 0 then 1 else sl.start }
    else { sl with start := 2, tracking := false, validFrom := none, badFrom := none, badInput := 0 }
/-- A slot's committed changes at a tick boundary (R264): its configuration record where the tick is due under the new one, its bank not in force
in any tick, and its bank in force where the tick is due. What a COMMIT brings later within the tick so waits for the next. -/
def slotBound (s : State) (n : Nat) : State :=
  if !s.par.pending.any (fun p => p.1 == .slot n) then s
  else
    let s := match s.par.pending.find? fun p => p.1 == .slot n && p.2.1 == 0x0900 + n with
      | some (_, _, v) => if slotDue s (leBytes 32 v) then takeConfig s n else s
      | none => s
    let b := (slotAt s n).bankB
    let act := (if b then 0x0980 else 0x0940) + n
    let s := applyPending s fun k p => k == .slot n && p != 0x0900 + n && p != act
    if slotDue s (slotCfg s n) && s.par.pending.any (fun p => p.1 == .slot n && p.2.1 == act) then
      let old := bankOf s n b
      modSlot (applyPending s fun k p => k == .slot n && p == act) n fun sl => { sl with oldBank := some old }
    else s
/-- Every slot's committed changes at a tick boundary. -/
def slotBounds (s : State) : State := if s.par.pending.isEmpty then s else (List.range 48).foldl slotBound s

/-- The output of a slot in tracking (R260). -/
def trackSlot (s : State) (n : Nat) (range : F32 × F32) (sl : SlotState) : SlotState :=
  let fbk := slotFallback s n
  let u := F32.clamp fbk range.1 range.2
  { sl with out := u, uPrev := u, i := fbk, dPrev := 0 }

/-- Running totals of one latch: slots evaluated, slots moved and their banks, as masks. -/
structure LatchAcc where
  st : State
  /-- slots of this latch whose evaluation does not complete before the next -/
  late : Nat
  due : Nat
  moved : Nat
  banks : Nat
  deriving DecidableEq, Repr

/-- The evaluation of a due slot whose inputs are valid (R257, R258, R261, R263). `old` is the bank in force at its last evaluation,
`held` the bank after a COMMIT and before a bank request, each where it changed. -/
def runSlot (s : State) (n : Nat) (y r f : F32) (range : F32 × F32) (old held : Option (List F32)) : State :=
  let cfg := slotCfg s n
  let sl := slotAt s n
  let tPer := slotPeriod s cfg
  let start := sl.start ≠ 0
  let ts : Rat := if start then tPer else match sl.evalUp with
    | some u => min (((s.elec.uptime - u : Nat) : Rat) / 8000000000) (4 * tPer)
    | none => 4 * tPer
  let x (bank : List F32) : LoopIn := { bank := bank, ts := F32.ofRat ts, r := r, f := f, y := y, lo := range.1, hi := range.2 }
  let bank := bankOf s n sl.bankB
  let from_ :=
    if start then startSlot (x bank) sl (startValue s n sl)
    else
      let mid := held.getD bank
      let a := match old with
        | some o => changeBank (cfgBumpless cfg) o (x mid) sl
        | none => sl
      match held with
      | some h => changeBank (cfgBumpless cfg) h (x bank) a
      | none => a
  let res := evalSlot (x bank) from_
  if res.2 ≠ 0 then
    let s := modSlot s n fun sl => { sl with nonfN := sl.nonfN + 1 }
    raise { s with ctl := { s.ctl with nonfBit := true } } 116 (u8 n ++ ustamp (stampOf s.grid.now) ++ u8 res.2)
  else
    let s := modSlot s n fun _ => { res.1 with evalUp := some s.elec.uptime, evalAt := stampOf s.grid.now }
    let d := F32.toRat r
    let u := F32.toRat res.1.out
    let bound := u == F32.toRat range.1 || u == F32.toRat range.2
    if n < 2 ∧ bound ∧ ((0 < d ∧ u < d) ∨ (d < 0 ∧ d < u)) then
      raiseOnce s 96 (2 + n) (curCycle s) (fb (F32.ofRat (absR (d - u))) ++ fb 0 ++ u8 2 ++ u8 n)
    else s

/-- The inputs y, r and f of a slot at L (R256). -/
def slotReads (s : State) (cfg : List Byte) : Option F32 × Option F32 × Option F32 :=
  let sin (off : Nat) : Option F32 := slotInput s (byteAt cfg off) (byteAt cfg (off + 1))
  (slotMeasured s cfg, if byteAt cfg 8 = 0 then (some (cfgF cfg 12)).filter F32.isFinite else sin 8,
    if byteAt cfg 10 = 0 then some 0 else sin 10)
/-- Since when a slot's inputs have stayed valid or invalid, judged at every latch of a slot that runs (R243, R260). -/
def watchInputs (s0 s : State) (n : Nat) : State :=
  let q := slotReads { s with ctl := { s.ctl with slots := s0.ctl.slots } } (slotCfg s n)
  if q.1.isSome && q.2.1.isSome && q.2.2.isSome then
    modSlot s n fun sl => { sl with validFrom := some (sl.validFrom.getD s.grid.now), badFrom := none }
  else
    modSlot s n fun sl =>
      { sl with validFrom := none, badFrom := some (sl.badFrom.getD (s.grid.now, s.elec.uptime)),
                badInput := if q.1.isNone then 1 else if q.2.1.isNone then 2 else 3 }

/-- A due slot's evaluation on the values that `s0` held before the latch (R255, R257, R260): in tracking its fallback until every input has stayed
valid for 4 cycles; with every input valid the equations; else what it holds. A late evaluation writes nothing (R267). -/
def latchEval (s0 s : State) (n : Nat) (late : Bool) (cfg : List Byte) (range : F32 × F32) (old held : Option (List F32)) : State :=
  match slotReads { s with ctl := { s.ctl with slots := s0.ctl.slots } } cfg with
  | (some y, some r, some f) =>
    let sl := slotAt s n
    if sl.tracking && decide (s.grid.now < sl.validFrom.getD s.grid.now + 512) then modSlot s n fun sl => trackSlot s n range sl
    else
      let s := modSlot s n fun sl => { sl with tracking := false, badInput := 0, start := if sl.tracking && sl.start == 0 then 1 else sl.start }
      let s := if sl.tracking then inputEvent s n sl.badInput false else s
      let s := { s with ctl := { s.ctl with before := setAt s.ctl.before n (slotAt s n) } }
      if late then s else runSlot s n y r f range old held
  | _ => modSlot s n fun sl => if sl.tracking then trackSlot s n range sl else sl

/-- One slot at the latch: its inputs are judged, and if it is due a bank request acts and it is evaluated; inputs come from the state `s0` before
any slot of the tick was evaluated (R255, R262). The changes of a COMMIT have acted at the tick's boundary, and so first (R264). -/
def latchSlot (s0 : State) (a : LatchAcc) (n : Nat) : LatchAcc :=
  let s := if slotRuns a.st n then watchInputs s0 a.st n else a.st
  let cfg := slotCfg s n
  if !slotDue s cfg then { a with st := s }
  else
    let b0 := (slotAt s n).bankB
    let old := (slotAt s n).oldBank
    let ask := testBit s.ctl.bankReq n
    let move := ask != b0
    let held := if move then some (bankOf s n b0) else none
    let s := modSlot s n fun sl => { sl with bankB := ask, oldBank := none }
    let a := { a with st := s, moved := a.moved + bit move * 2 ^ n, banks := a.banks + bit (move && ask) * 2 ^ n }
    if !slotRuns s n then a
    else
      let range := slotRange (bankOf s n ask) (slotLimits s cfg)
      { a with st := latchEval s0 s n (testBit a.late n) cfg range old held, due := a.due + 2 ^ n }

/-- Raising EV 112 for the late evaluations of a cycle that has ended (R267). -/
def closeLateRun (s : State) : State :=
  match s.ctl.lateRun with
  | some (c, t, k, m) =>
    if c = curCycle s then s
    else raise { s with ctl := { s.ctl with lateRun := none } } 112 (ustamp (stampOf t) ++ u16 (sat 0xFFFF k) ++ leBytes 6 m)
  | none => s

/-- Late evaluations abandoned at the latch of the next tick (R267). -/
def abandonLate (s : State) : State :=
  let m := s.ctl.lateNow
  if m = 0 then s
  else
    let slots := s.ctl.slots.mapIdx fun n (sl : SlotState) => if testBit m n then { sl with lateN := sl.lateN + 1 } else sl
    let k := ((List.range 48).filter (testBit m)).length
    let c := s.ctl.lastAt / 128
    let run := match s.ctl.lateRun with
      | some (c0, t0, k0, m0) => if c0 = c then (c0, t0, k0 + k, m0 ||| m) else (c, s.ctl.lastAt, k, m)
      | none => (c, s.ctl.lastAt, k, m)
    { s with ctl := { s.ctl with slots := slots, late := s.ctl.late ||| m, lateBit := true, lateNow := 0,
                                 ovrCnt := sat 0xFFFFFFFF (s.ctl.ovrCnt + k), lateRun := some run } }

/-- Time from L to the last output for `n` slots, in 5 ns units at the clock state (R266); the PLL runs at 4,800 MHz before its dividers. In bypass this
time alone changes, to 3.76 µs for 48 slots (R268). -/
def latchTime (s : State) (n : Nat) : Nat :=
  let c := s.clk
  let cycle (pll : Bool) (div : Nat) : Nat := if pll then div else 48
  (48 * cycle c.fabPll c.divActing.fab + (6 * n + 40) * cycle c.ctlPll c.divActing.ctl) / 24

/-- P_tot and Q_tot of a lead or shadow lead (R281, R285): the outputs of slots 16 and 17, or with no valid vote the set values, and the
adders of the enabled slots. -/
def formTotals (s : State) : State :=
  if s.hold.mode ≠ .lead ∧ s.hold.mode ≠ .shadowLead then s
  else
    let adders (ns : List Nat) (b : F32) : F32 :=
      (ns.filter fun n => cfgEn (slotCfg s n)).foldl (fun a n => addZ a (slotAt s n).out) b
    let base := if s.hold.voted.isNone then (s.hold.pSet, s.hold.qSet) else ((slotAt s 16).out, (slotAt s 17).out)
    { s with hold := { s.hold with pTot := adders [18, 19, 20] base.1, qTot := adders [21, 22, 23] base.2 } }

/-- The latch of a tick (R254 to R268, R285): `late` and `torn` are the slots whose evaluation at this latch does not complete before the next, or
is torn and caught by its parity bit. The lateness acts in this tick, and is counted at the next latch (R267; log 157). -/
def latchAll (late torn : Nat) (s : State) : State :=
  let s := closeLateRun (abandonLate s)
  let s := { s with ctl := { s.ctl with before := s.ctl.slots } }
  let a := (List.range 48).foldl (latchSlot s) { st := s, late := late ||| torn, due := 0, moved := 0, banks := 0 }
  let n := ((List.range 48).filter (testBit a.due)).length
  let c := a.st.ctl
  let s := { a.st with ctl := { c with lastDue := a.due, lastAt := s.grid.now, lateNow := (late ||| torn) &&& a.due,
                                       parityBit := c.parityBit || decide (torn &&& a.due ≠ 0),
                                       latMax := if n = 0 then c.latMax else max c.latMax (sat 0xFFF (latchTime s n)) } }
  let s := if a.moved = 0 then s else raise s 113 (ustamp (stampOf s.grid.now) ++ leBytes 6 a.moved ++ leBytes 6 a.banks)
  formTotals s

/-! ### Timeouts and host access -/

/-- An input of the slot has stayed invalid for its timeout: INPUT_TIMEOUT in cycles, TH_INPUT_TIMEOUT_S for slots 40 to 43 (R243, R260). -/
def inputTimedOut (s : State) (n : Nat) : Bool :=
  (slotAt s n).badFrom.any fun b =>
    if 40 ≤ n ∧ n ≤ 43 then passed s b.2 (sec (parN s 0x0810)) else decide (b.1 + 128 * leAt (slotCfg s n) 24 2 ≤ s.grid.now)
/-- A slot enters tracking on its fallback (R243, R260). -/
def enterTracking (s : State) (n : Nat) : State :=
  let sl := slotAt s n
  if sl.tracking || !inputTimedOut s n || !slotRuns s n then s
  else
    let s := modSlot s n fun sl => { sl with tracking := true, i := slotFallback s n, dPrev := 0, lostN := sl.lostN + 1 }
    inputEvent s n sl.badInput true

/-- SLOT_INPUT_TIMEOUT (R260). -/
def execSlotInputTimeout (slot : Nat) (s : State) : Host.Outcome State Fault Refusal :=
  .next (if !running s || !isActive s || decide (48 ≤ slot) || (decide (40 ≤ slot) && decide (slot ≤ 43)) then s
         else enterTracking s slot)

/-- THERMAL_INPUT_TIMEOUT (R243). -/
def execThermalInputTimeout (slot : Nat) (s : State) : Host.Outcome State Fault Refusal :=
  .next (if !running s || !isActive s || !(decide (40 ≤ slot) && decide (slot ≤ 43)) then s else enterTracking s slot)

/-- CTL_BANK_REQ_WRITE (R262, R270). -/
def execCtlBankReqWrite (hi : Bool) (w : Word) (s : State) : Host.Outcome State Fault Refusal :=
  .next (
    if !clocked s then s
    else
      let r := s.ctl.bankReq
      let v := if hi then (w.toNat % 2 ^ 16) * 2 ^ 32 + r % 2 ^ 32 else r / 2 ^ 32 * 2 ^ 32 + w.toNat
      { s with ctl := { s.ctl with bankReq := v } })

/-- LAT_CLR (Table 9-9, R493): bit 5 of CTL_STAT. -/
def execLatClr (w : Word) (s : State) : Host.Outcome State Fault Refusal :=
  .next (if clocked s && testBit w.toNat 5 then { s with ctl := { s.ctl with latMax := 0 } } else s)

/-- CTL_SWAP (R262). -/
def execCtlSwap (h : Hdr) (mask : Nat) (bankB : Bool) (s : State) : Host.Outcome State Fault Refusal :=
  .next (
    if !hostReady s h then s
    else if mask / 2 ^ 48 ≠ 0 then respond s h 0x0050 .outOfRange 1
    else
      let r := s.ctl.bankReq
      let v := if bankB then r ||| mask else r - (r &&& mask)
      respondOk { s with ctl := { s.ctl with bankReq := v } } h 0x0050 [])

/-- CTL_READ_SLOT (R271). -/
def execCtlReadSlot (h : Hdr) (slot : Nat) (s : State) : Host.Outcome State Fault Refusal :=
  .next (
    if !hostReady s h then s
    else if 48 ≤ slot then respond s h 0x0051 .outOfRange 1
    else
      let sl := slotAt s slot
      respondOk s h 0x0051 (fb sl.e ++ fb sl.p ++ fb sl.iEval ++ fb sl.d ++ fb sl.v ++ fb sl.uEval ++ ub sl.bankB ++ ub sl.tracking ++
        u16 0 ++ ustamp sl.evalAt ++ u32 sl.lateN ++ u32 sl.nonfN ++ u32 sl.lostN))

end Sys2Proof.Machine
end

