-- ==== Sys2Proof/Machine/Grid.lean ====
section
/-! DEFINITION. Meanings of the Ryran commands: enumeration and hop measurement, waymark reception, coasting, resynchronisation,
dual homing, virtual mains and traces (chapter 2, with R297, R298 and R505). -/

namespace Sys2Proof

/-- Number of a stream as RYRAN and peer payloads name it: 0 U0, 1 U1, 2 the peer link (Table 2-14, R505). -/
def UpPort.num : UpPort → Nat
  | .u0 => 0
  | .u1 => 1
  | .peer => 2
/-- The stream a number names. -/
def UpPort.ofNum : Nat → UpPort
  | 0 => .u0
  | 1 => .u1
  | _ => .peer
/-- The frame passes its CRC (R71). -/
def WmFrame.good (f : WmFrame) : Bool := f.crc == crc16 (beBytes 8 f.word)
/-- An ordinary Ryran frame passes its CRC, has the type expected, and its LEN agrees with its length and the type's (R71, R73). -/
def RyrFrame.good (f : RyrFrame) (type len : Nat) : Bool :=
  f.crc == crc16 (f.type :: f.len :: f.payload) && f.type.toNat == type && f.len.toNat == f.payload.length && f.payload.length == len

end Sys2Proof

namespace Sys2Proof.Machine

open Sys2Proof

/-- One stream. -/
def stream (s : State) : UpPort → StreamState
  | .u0 => s.grid.u0
  | .u1 => s.grid.u1
  | .peer => s.grid.peer
/-- Changing one stream. -/
def modStream (s : State) (p : UpPort) (f : StreamState → StreamState) : State :=
  { s with grid := match p with
    | .u0 => { s.grid with u0 := f s.grid.u0 }
    | .u1 => { s.grid with u1 := f s.grid.u1 }
    | .peer => { s.grid with peer := f s.grid.peer } }
/-- The upstream port that an index selects. -/
def upOf : Ix → UpPort
  | .zero => .u0
  | .one => .u1
/-- The port's stream is received at all: U1 not disabled by R86, the peer link on a standby only (R505). -/
def portUsed (s : State) : UpPort → Bool
  | .u0 => true
  | .u1 => !s.grid.u1Loop
  | .peer => !isActive s
/-- The stream the module keeps to: on a standby an accepted peer-link stream, else the selected upstream port (R84, R505). -/
def curStream (s : State) : UpPort :=
  if !isActive s && s.grid.peer.accepted then .peer else upOf s.grid.sel
/-- The other upstream port, where the stream in use is an upstream port. -/
def othStream : UpPort → Option UpPort
  | .u0 => some .u1
  | .u1 => some .u0
  | .peer => none
/-- The highest cycle number of a waymark accepted within the synchronised run, on any stream: the module's own record of the last accepted
cycle number (R15, R67). -/
def recordCycle (s : State) : Option Nat :=
  ([s.grid.u0.lastNamed, s.grid.u1.lastNamed, s.grid.peer.lastNamed].filterMap id).foldl (fun a n => some (max (a.getD 0) (n / 128))) none
/-- The stream has delivered a valid waymark for a tick. -/
def StreamState.delivered (t : StreamState) (n : Nat) : Bool := t.lastNamed.any fun m => decide (n ≤ m)
/-- The stream may still deliver a tick. -/
def StreamState.awaits (t : StreamState) (n : Nat) : Bool := t.accepted && t.next.any fun k => decide (k ≤ n)

/-- Fields of a waymark word (Table 2-8): tick named, VIRT, SLEW, F60, COAST, COAST_AGE with 9 to 15 read as 8. -/
structure WmFields where
  tick : Nat
  virt : Bool
  slew : Bool
  f60 : Bool
  coast : Bool
  age : Nat
  deriving DecidableEq, Repr

/-- Reading a waymark word. -/
def readWaymark (w : Nat) : WmFields :=
  { tick := (bits w 63 16) * 128 + bits w 15 9, virt := testBit w 8, slew := testBit w 7, f60 := testBit w 6, coast := testBit w 5,
    age := min 8 (bits w 4 1) }
/-- Forming a waymark word (R68). -/
def waymarkWord (f : WmFields) : Nat :=
  (f.tick / 128 % 2 ^ 48) * 65536 + f.tick % 128 * 512 + 256 * bit f.virt + 128 * bit f.slew + 64 * bit f.f60 + 32 * bit f.coast + 2 * f.age
/-- A Ryran frame discarded on a D port (R73). -/
def discardDown (s : State) (p : Ix) : State :=
  { s with grid := { s.grid with downDisc := s.grid.downDisc.modify p fun n => sat 0xFFFF (n + 1) } }
/-- An ordinary frame discarded on an upstream port (R73). -/
def discardUp (s : State) (p : Ix) : State := modStream s (upOf p) fun t => { t with frameDisc := sat 0xFFFF (t.frameDisc + 1) }

/-- Mean of the last 4 intervals between arrivals (R77). DESIGN CHOICE (log 130): where fewer than 4 are at hand, as after a discard, which
breaks the sequence and clears the stored arrivals, it is the mean of those there are; with none there is no mean, and the module keeps the
last P. -/
def meanInterval (as : List Nat) : Option Rat :=
  match as with
  | a :: b :: rest =>
    let l := (b :: rest).getLastD b
    some (((a : Rat) - l) / (rest.length + 1))
  | _ => none

/-- The two upstream streams measure their hops again, once per cycle until two results agree (R298). -/
def settleAgain (s : State) : State :=
  let again (t : StreamState) : StreamState := { t with echo := { t.echo with settling := true, previous := none } }
  { s with grid := { s.grid with u0 := again s.grid.u0, u1 := again s.grid.u1 } }

/-- Selecting another stream in place of the one in use, with EV 011 (R84, R298). -/
def switchTo (s : State) (p : UpPort) : State :=
  if p = .peer ∨ curStream s = p then s
  else
    let t := stream s p
    let s := { s with grid := { s.grid with sel := if p = .u1 then .one else .zero, depth := if s.grid.head then 0 else t.upDepth + 1 } }
    raise (modStream s .u0 fun t => { t with validTicks := 0 }) 11 []

/-- The frame in progress at tick `n`, or the one that ends there when `n` is a tick 0 (R83). -/
def frameAt (n : Nat) : Nat := if n % 128 = 0 then n / 128 - 1 else n / 128
/-- Marking a frame irregular. -/
def markIrregular (s : State) (frame : Nat) : State :=
  { s with grid := { s.grid with irregular := (frame :: s.grid.irregular.filter (· ≠ frame)).take 8 } }

/-- The instant at which the grid in use fires the trigger of tick `n`, extrapolated at the last P (R77, R81). -/
def predicted (s : State) (n : Nat) : Rat := (s.grid.trig : Rat) + ((n : Rat) - s.grid.named) * s.grid.period
/-- The trigger instant that a waymark on a stream gives the tick it names: T_arr − D + A × P (R77). -/
def trigOf (s : State) (p : UpPort) (arr : Nat) : Rat := (arr : Rat) - (stream s p).d + waymarkAdv s * s.grid.period

/-- Taking the trigger and the flags from a valid waymark of the stream in use (R77, R81): a step of the trigger above 1 µs marks the
frame irregular that ends at, or holds, the tick boundary A ticks before the tick named, at which the stream stepped (R83). A module that is
not synchronised sets SYNC at the feature-frame boundary at which the stream first carries COAST = 0 again: at once where the waymark
was sent at that boundary, else at the next one. -/
def follow (s : State) (p : UpPort) (f : WmFields) (arr : Nat) : State :=
  let t := stream s p
  let sent := f.tick - waymarkAdv s
  let expected := predicted s f.tick
  let s := { s with grid := { s.grid with period := (meanInterval t.arrivals).getD s.grid.period } }
  let trig := (trigOf s p arr).floor.toNat
  let off : Rat := (trig : Rat) - expected
  let step := decide (2 ≤ t.arrivals.length) && decide (0 < s.grid.trig) && decide (8000 < max off (-off))
  let back := !s.grid.sync && !f.coast && s.grid.syncAt.isNone
  let s := { s with grid := { s.grid with
    trig := trig, named := f.tick, virt := f.virt, slew := f.slew, f60 := f.f60, coast := f.coast,
    coastAge := if f.coast then f.age else 0, coastTicks := 0,
    syncAt := if back then some ((sent + 127) / 128 * 128) else s.grid.syncAt } }
  let s := if back && decide (sent % 128 = 0) then regainSync s else s
  if step then markIrregular s (frameAt sent) else s

/-- The module drives D0 and D1 and forwards a waymark on both (R73, R29). -/
def forward (s : State) (word : Nat) : State := emits s [.waymark .d0 word, .waymark .d1 word]

/-- The waymark of tick `n` by extrapolation at the last P, forwarded by an owner with COAST = 1 and the COAST_AGE held (R81). -/
def extrapolate (s : State) (n : Nat) : State :=
  let s := { s with grid := { s.grid with trig := (predicted s n).floor.toNat, named := n } }
  if drives s then
    forward s (waymarkWord { tick := n, virt := s.grid.virt, slew := s.grid.slew, f60 := s.grid.f60, coast := true, age := s.grid.coastAge })
  else s

/-- Tick `n` has no valid waymark on any port (R81): the module starts to coast, with EV 009, and forwards the waymark of the tick itself with
COAST = 1 where none has gone out for it. -/
def coastMiss (s : State) (n : Nat) : State :=
  let s := if s.grid.coast then s
    else raise { s with grid := { s.grid with coast := true, coastAge := 0, coastTicks := 0 } } 9 []
  if s.grid.named < n then extrapolate s n else s

/-- Taking up the last waymark of a stream that is changed to after it has delivered: its trigger and flags act from that waymark, and an owner
forwards one waymark for each tick not yet forwarded, up to the tick it names (R84). -/
def takeUp (s : State) (p : UpPort) : State :=
  let t := stream s p
  match t.lastNamed, t.arrivals.head? with
  | some m, some arr =>
    let from_ := s.grid.named
    let f := readWaymark t.lastWord
    let s := follow s p f arr
    if drives s then
      (List.range (min (m - from_) 128)).foldl (fun s k => forward s (waymarkWord { f with tick := m - (min (m - from_) 128) + k + 1 })) s
    else s
  | _, _ => s

/-- No valid waymark for tick `n` came on a port: the other port serves the tick, or may still, or the module coasts (R81, R84). -/
def afterMiss (s : State) (n : Nat) : State :=
  if s.grid.head || !s.grid.on || s.grid.resync.isSome then s
  else
    let p := curStream s
    let t := stream s p
    let lost := !t.delivered n && !t.awaits n
    if !lost then s
    else match othStream p with
      | none => coastMiss s n
      | some q =>
        let u := stream s q
        if u.accepted && !u.inconsistent && u.delivered n then takeUp (switchTo s q) q
        else if u.awaits n && !u.inconsistent then s
        else coastMiss s n

/-- A waymark of an accepted stream is discarded: counted, and the eighth in a row ends acceptance. The discard affects its own tick alone: the
stream expects the next tick after it (R80). -/
def discardWaymark (s : State) (p : UpPort) : State :=
  let n := (stream s p).next
  let s := modStream s p fun t =>
    let t := { t with wmDisc := sat 0xFFFF (t.wmDisc + 1), discards := t.discards + 1, next := t.next.map (· + 1), validTicks := 0,
                      arrivals := [], agree := 0 }
    if t.discards = 8 then { t with accepted := false, acq := 0, discards := 0, next := none } else t
  match n with
  | none => s
  | some k => afterMiss s k

/-- A waymark that names a tick already past on its port, one discarded as missing or one delivered: it is discarded and counted, and consumes no
tick, since its own tick has had its discard or its waymark (R80; log 85). -/
def discardLate (s : State) (p : UpPort) : State := modStream s p fun t => { t with wmDisc := sat 0xFFFF (t.wmDisc + 1) }

/-- A waymark names a lower cycle than the last accepted: acceptance ends at once, with EV 008 (R15, R80). -/
def waymarkFault (s : State) (p : UpPort) : State :=
  let n := if (stream s p).accepted then (stream s p).next else none
  let s := modStream s p fun t =>
    { t with accepted := false, acq := 0, discards := 0, next := none, arrivals := [], validTicks := 0,
             wmDisc := sat 0xFFFF (t.wmDisc + 1) }
  let s := raise s 8 []
  match n with
  | none => s
  | some k => afterMiss s k

/-- The missed activation of R462: a module that finds the scheduled cycle passed when it first accepts a stream after a restart. -/
def missedSchedule (s : State) : State :=
  match journalOf s with
  | some j => if j.st = .scheduled ∧ j.actCycle ≤ curCycle s then lapseSchedule s 3 else s
  | none => s

/-- A stream is accepted (R80). The first since a restart gives the module its grid; a later one on the stream in use is moved onto at
the next feature-frame boundary, and the hops are measured again (R83, R298). -/
def streamAccepted (s : State) (p : UpPort) (f : WmFields) : State :=
  let s := modStream s p fun t => { t with accepted := true, discards := 0, inconsistent := false, agree := 0 }
  if s.grid.head then s
  else if !s.grid.on then
    let s := if p = .peer then s
      else { s with grid := { s.grid with sel := if p = .u1 then .one else .zero, depth := (stream s p).upDepth + 1 } }
    let s := { s with grid := { s.grid with on := true, now := f.tick - waymarkAdv s, named := f.tick } }
    let s := if s.grid.advShort || f.coast then s
      else { s with grid := { s.grid with sync := true, holdFrom := some 0 } }
    missedSchedule s
  else if curStream s = p || !(stream s (curStream s)).accepted then
    let s := settleAgain (if p = .peer then s else switchTo s p)
    { s with grid := { s.grid with resync := some p.num } }
  else s

/-- Two ports name different ticks where the trigger that one gives a tick lies at least half a tick from the trigger that the stream in use
gives it, each with its own D (R85). -/
def namesOther (s : State) (p : UpPort) (n arr : Nat) : Bool :=
  let off := trigOf s p arr - predicted s n
  decide (0 < s.grid.period) && decide (s.grid.period ≤ 2 * max off (-off))

/-- A conflict between the ports, or its end after one cycle of agreement (R85). -/
def judgeConflict (s : State) (p : UpPort) (n arr : Nat) : State :=
  let c := curStream s
  let t := stream s c
  if c = p || c = .peer || p = .peer || !t.accepted || t.arrivals.isEmpty || s.grid.head || s.grid.resync.isSome then s
  else if !namesOther s p n arr then
    modStream s p fun u =>
      if u.inconsistent then
        if u.agree + 1 ≥ 128 then { u with inconsistent := false, agree := 0 } else { u with agree := u.agree + 1 }
      else u
  else if (stream s p).inconsistent then modStream s p fun u => { u with agree := 0 }
  else raise (modStream s p fun u => { u with inconsistent := true, agree := 0 }) 12 []

/-- A valid waymark of an accepted stream (R77, R81, R84, R298). A module that leaves a coasting stream for one that does not coast, or whose
own stream ceases to coast, follows a new angle source and measures its hops again (R298). -/
def validWaymark (s : State) (p : UpPort) (f : WmFields) (word arr : Nat) : State :=
  let wasCoast := (stream s p).coast
  let s := modStream s p fun t =>
    { t with discards := 0, next := some (f.tick + 1), lastNamed := some f.tick, arrivals := (arr :: t.arrivals).take 5,
             coast := f.coast, coastAge := f.age, lastWord := word, validTicks := t.validTicks + 1 }
  let s := judgeConflict s p f.tick arr
  if s.grid.head || s.grid.resync.isSome then s
  else
    let c := curStream s
    let t := stream s c
    let u := stream s p
    -- the tick is missing on the port in use, or that port's stream coasts and this one does not
    let other := c ≠ p && p ≠ .peer && c ≠ .peer && !u.inconsistent
    let live := other && t.coast && !f.coast && t.accepted
    let s := if other && ((!t.delivered f.tick && !t.awaits f.tick) || live) then switchTo s p else s
    let s := if live || (curStream s = p && wasCoast && !f.coast) then settleAgain s else s
    if curStream s = p then
      let fresh := decide (s.grid.named < f.tick)
      let s := follow s p f arr
      if drives s && fresh then forward s word else s
    else s

/-- WAYMARK_RECEIVED (R80). A port's accepted stream is judged against its own last waymark, a stream in acquisition against the module's record
(R15, R67; log 131). -/
def execWaymarkReceived (port : UpPort) (f : WmFrame) (arr : Nat) (s : State) : Host.Outcome State Fault Refusal :=
  .next (
    if !running s || !portUsed s port then s
    else
      let t := stream s port
      if !f.good then
        if t.accepted then discardWaymark s port
        else modStream s port fun t => { t with acq := 0, next := none, arrivals := [], wmDisc := sat 0xFFFF (t.wmDisc + 1) }
      else
        let w := readWaymark f.word
        let s := modStream s port fun t => { t with linkUp := true }
        let last := if t.accepted then t.lastNamed.map (· / 128) else recordCycle s
        if last.any (fun m => decide (w.tick / 128 < m)) then waymarkFault s port
        else if t.accepted then
          if t.next = some w.tick then validWaymark s port w f.word arr
          else if t.next.any (fun n => decide (w.tick < n)) then discardLate s port
          else discardWaymark s port
        else
          let run := if t.next = some w.tick then t.acq + 1 else 1
          let s := modStream s port fun t =>
            { t with acq := run, next := some (w.tick + 1),
                     arrivals := if run = 1 then [arr] else (arr :: t.arrivals).take 5 }
          if run < 16 then s
          else
            let s := modStream s port fun t =>
              { t with lastNamed := some w.tick, coast := w.coast, coastAge := w.age, lastWord := f.word, validTicks := 1 }
            let s := streamAccepted s port w
            if s.grid.resync.isNone && !s.grid.head && curStream s = port then
              let s := follow s port w arr
              if drives s then forward s f.word else s
            else s)

/-- WAYMARK_MISSED (R80): the expected waymark has not arrived 2 µs after its instant. -/
def execWaymarkMissed (port : UpPort) (s : State) : Host.Outcome State Fault Refusal :=
  .next (
    if running s && portUsed s port && (stream s port).accepted && (stream s port).next.isSome then discardWaymark s port
    else s)

/-- UNSYNCHRONISED (R82): COAST_AGE has reached 8. -/
def execUnsynchronised (s : State) : Host.Outcome State Fault Refusal :=
  .next (
    if running s && !s.grid.head && s.grid.sync && s.grid.coast && decide (8 ≤ s.grid.coastAge) then
      raise (loseSync s) 10 []
    else s)

/-- RESYNCHRONISE (R83): at the feature-frame boundary the module moves onto the stream accepted again, its trigger stepping by
`off` in 1/8 ns; an angle source that yields leaves its role here (R299). -/
def execResynchronise (off : Int) (s : State) : Host.Outcome State Fault Refusal :=
  .next (
    match s.grid.resync with
    | none => s
    | some k =>
      let p := UpPort.ofNum k
      let t := stream s p
      let stepped : Int := match t.arrivals.head? with
        | some arr => (trigOf s p arr).floor
        | none => (s.grid.trig : Int) + off
      match t.lastNamed with
      | none => s
      | some n =>
        if !running s || !t.accepted || (s.grid.head && !s.grid.yielding) then s
        else
          let s := leaveHead s 4
          let now := n - waymarkAdv s
          let odd := decide (8000 < off.natAbs) || now != s.grid.now
          let s := if odd then markIrregular s (frameAt s.grid.now) else s
          let s := { s with grid := { s.grid with
            now := now, trig := stepped.toNat, named := n, coast := t.coast, coastAge := if t.coast then t.coastAge else 0,
            coastTicks := 0, resync := none, period := (meanInterval t.arrivals).getD s.grid.period,
            depth := t.upDepth + 1 } }
          if decide (8 ≤ t.coastAge) && t.coast then s else regainSync s)

/-- UPSTREAM_RETURN (R84): U0 has stayed valid for UPSTREAM_RETURN cycles and is selected again at a cycle boundary. -/
def execUpstreamReturn (s : State) : Host.Outcome State Fault Refusal :=
  .next (
    let t := s.grid.u0
    if running s && s.grid.sel == .one && t.accepted && !t.inconsistent && decide (128 * parN s 0x0205 ≤ t.validTicks) &&
        curTick s == 0 && !s.grid.head then
      switchTo s .u0
    else s)

/-- SUCCESSOR_BECOMES_SOURCE (R297): a position of rank r from 2 to 4 that coasts with COAST_AGE = r becomes angle source and lead. -/
def execSuccessorBecomesSource (s : State) : Host.Outcome State Fault Refusal :=
  .next (
    let r := ownRank s
    if drives s && !s.grid.head && s.grid.coast && decide (2 ≤ r) && s.grid.coastAge == r && s.grid.sync then becomeHead s 3
    else s)

/-- The condition of virtual mains: no valid voted reference for 4 consecutive half-cycle records, or a frequency outside 45.0 Hz to 66.0 Hz
for 4 cycles, which hold 8 records (R66). -/
def referenceGone (s : State) : Bool := decide (4 ≤ s.grid.badRefs) || decide (8 ≤ s.grid.outRefs)
/-- VIRTUAL_MAINS_ENTRY (R66). -/
def execVirtualMainsEntry (s : State) : Host.Outcome State Fault Refusal :=
  .next (
    if running s && s.grid.head && !s.grid.virt && referenceGone s then
      raise { s with grid := { s.grid with virt := true, slew := false } } 14 []
    else s)

/-- The angle source slews its angle until it lies within 1/4 tick of the measured mains, then clears SLEW and VIRT (R65, R66). -/
def slewJudge (s : State) : State :=
  if absR s.grid.angErr ≤ 1 / 4 then { s with grid := { s.grid with slew := false, virt := false } }
  else { s with grid := { s.grid with slew := true } }

/-- VIRTUAL_MAINS_EXIT (R66): once a valid reference has stayed in range for 50 cycles, 100 half-cycle records, the angle source returns to
tracking and slews. The angle is that of the voted records (R64), not the operand (log 132). -/
def execVirtualMainsExit (_off : Nat) (s : State) : Host.Outcome State Fault Refusal :=
  .next (
    if running s && s.grid.head && s.grid.virt && !s.grid.slew && decide (100 ≤ s.grid.goodRefs) then raise (slewJudge s) 14 [] else s)

/-! ### The angle source (R64 to R66) -/

/-- A half-cycle record judged on the angle source: a tick after the vote instant, a half cycle without a valid vote counts (R66). -/
def judgeHalf (s : State) : State :=
  if s.grid.now % 64 ≠ (parN s 0x0A07 + 1) % 64 then s
  else if s.grid.refSeen then { s with grid := { s.grid with badRefs := 0, refSeen := false } }
  else { s with grid := { s.grid with badRefs := s.grid.badRefs + 1, outRefs := 0, goodRefs := 0 } }

/-- Moving a rational toward another by at most a step. -/
def toward (x goal step : Rat) : Rat := if x < goal then min goal (x + step) else max goal (x - step)
/-- The frequency that the angle source makes in the next tick: toward the voted one, within 45.0 Hz to 66.0 Hz and by at most 10 Hz/s, or in
virtual mains toward MAINS_NOMINAL at 1 Hz/s (R65, R66). The way in which it follows is the model's (DESIGN CHOICE, log 132). -/
def sourceFreq (s : State) : Rat :=
  let f := s.grid.freq
  let dt := if 0 < f then 1 / (128 * f) else 0
  if s.grid.virt && !s.grid.slew then toward f (parN s 0x0201) dt
  else match s.hold.voted with
    | some l => toward f (max 45 (min 66 (F32.toRat (l.getD 2 0)))) (10 * dt)
    | none => f
/-- Length of the next tick of the angle source in 1/8 ns, at frequency `f`: while it slews, moved by at most 1 tick per cycle toward the measured
angle; between successive ticks the length changes by at most 1 part in 4,096 (R65). -/
def sourceLen (s : State) (f : Rat) : Nat :=
  let base : Rat := 8000000000 / (128 * f)
  let gain := if s.grid.slew then max (-1 / 128) (min (1 / 128) s.grid.angErr) else 0
  let want := (base * (1 - gain)).floor
  let p := s.grid.period
  if p ≤ 0 then want.toNat else (max (p * 4095 / 4096).ceil (min (p * 4097 / 4096).floor want)).toNat
/-- The angle source makes its next tick: slew, frequency, length, and the angle that remains to be moved (R64 to R66). -/
def makeTick (s : State) : State × Nat :=
  let s := if s.grid.virt && !s.grid.slew then s else slewJudge s
  let f := sourceFreq s
  let len := sourceLen s f
  let moved := 1 - (len : Rat) * (128 * f) / 8000000000
  ({ s with grid := { s.grid with freq := f, period := len, f60 := parN s 0x0201 == 60, angErr := s.grid.angErr - moved } }, len)

/-- Payload of an ECHO_REP (Table 2-14). -/
def echoPayload (s : State) (eseq port : Nat) : List Byte :=
  [toByte eseq, toByte port] ++ beBytes 2 (treePosition s) ++ beBytes 2 s.grid.depth ++ beBytes 4 (ownDelay s) ++
    beBytes 6 (highestCycle s) ++ [toByte (bit s.grid.head + 2 * bit s.grid.sync), 0]

/-- ECHO_REQ (R75): the answer leaves exactly 1,200 ns later, unless its K28.2 would fall inside a waymark frame. -/
def execEchoReq (port : DnPort) (f : RyrFrame) (inWaymark : Bool) (s : State) : Host.Outcome State Fault Refusal :=
  .next (
    let good := f.good 0x04 4
    let reply := echoPayload s (byteAt f.payload 2) (byteAt f.payload 3)
    let answer (s : State) (p : Ix) : State :=
      if !good then discardDown s p else if inWaymark then s else emit s (.ryran true p 0x05 reply)
    if !drives s then s
    else match port with
      | .d0 => answer { s with grid := { s.grid with downUp := { s.grid.downUp with zero := true } } } .zero
      | .d1 => answer { s with grid := { s.grid with downUp := { s.grid.downUp with one := true } } } .one
      | .peer =>
        if !good then { s with pair := { s.pair with disc := sat 0xFFFF (s.pair.disc + 1) } }
        else if inWaymark then s else emit s (.peer 0x38 reply))

/-- Cumulative delay through a port from D_up and the mean round trip, in 1/8 ns, to the nearest unit below (R74, R505). -/
def hopDelay (dUp sum n : Nat) : Nat := dUp + 8 * 640 + (sum - 8 * 1200 * n) / (2 * n)

/-- A measurement of 64 echoes has ended: with at least 48 it gives the delay toward which the one in use moves (R75, R76), or settles it
(R298); with fewer it gives nothing. -/
def endEcho (t : StreamState) : StreamState :=
  let e := t.echo
  if e.got + e.lost < 64 then t
  else if e.got < 48 then { t with echo := { e with got := 0, lost := 0, sum := 0 } }
  else
    let run := e.last
    let d := hopDelay ((run.map (·.dUp)).getD 0) e.sum e.got
    let close (v : Nat) : Bool := decide (v ≤ d + 16) && decide (d ≤ v + 16)
    let settled := e.settling && e.previous.any close
    { t with
      dGoal := d, upDepth := (run.map (·.depth)).getD t.upDepth, cycleMax := max t.cycleMax ((run.map (·.cycleMax)).getD 0),
      echo := { e with got := 0, lost := 0, sum := 0, busy := false, settling := e.settling && !settled,
                       previous := if e.settling && !settled then some d else none,
                       adopt := if settled then some d else e.adopt } }

/-- Payload of an echo request (Table 2-14). -/
def echoReqPayload (s : State) (eseq port : Nat) : List Byte := beBytes 2 (treePosition s) ++ [toByte eseq, toByte port]

/-- The 64 echo requests of a measurement on a port (R74). -/
def echoRequests (s : State) (p : UpPort) : List Out :=
  (List.range 64).map fun k => match p with
    | .u0 => .ryran false .zero 0x04 (echoReqPayload s k 0)
    | .u1 => .ryran false .one 0x04 (echoReqPayload s k 1)
    | .peer => .peer 0x37 (echoReqPayload s k 2)

/-- Starting a measurement of 64 echoes on a port. -/
def startEcho (s : State) (p : UpPort) : State :=
  let s := modStream s p fun t => { t with echo := { t.echo with sent := 64, got := 0, lost := 0, sum := 0, last := none, busy := true } }
  emits s (echoRequests s p)

/-- The module measures through a stream's port: an owner on its connected upstream ports, a standby on the peer link (R76, R505). -/
def measures (s : State) (p : UpPort) : Bool :=
  if p = .peer then running s && !isActive s && s.pair.linkUp else drives s && (stream s p).linkUp && portUsed s p

/-- What follows an echo received or lost: a measurement with fewer than 48 echoes is repeated (R75), and the depth of the module follows that
of its selected upstream (R74). -/
def echoCounted (s : State) (p : UpPort) : State :=
  let e := (stream s p).echo
  let again := decide (64 ≤ e.got + e.lost) && decide (e.got < 48)
  let s := modStream s p endEcho
  let s := if upOf s.grid.sel = p && !s.grid.head then { s with grid := { s.grid with depth := (stream s p).upDepth + 1 } } else s
  if again && measures s p then startEcho s p else s

/-- An echo reply of a measurement in progress. -/
def takeEcho (s : State) (p : UpPort) (b : List Byte) (rtt : Nat) : State :=
  let run : EchoRun :=
    { rtts := [], pos := beAt b 2 2, depth := beAt b 4 2, dUp := beAt b 6 4, cycleMax := beAt b 10 6,
      source := testBit (byteAt b 16) 0, sync := testBit (byteAt b 16) 1 }
  if !(stream s p).echo.busy then s
  else echoCounted (modStream s p fun t => { t with echo := { t.echo with got := t.echo.got + 1, sum := t.echo.sum + rtt, last := some run } }) p

/-- ECHO_REP (R74). -/
def execEchoRep (port : Ix) (f : RyrFrame) (rtt : Nat) (s : State) : Host.Outcome State Fault Refusal :=
  .next (
    if !running s then s
    else if !f.good 0x05 18 || byteAt f.payload 1 != port.num then discardUp s port
    else takeEcho s (upOf port) f.payload rtt)

/-- ECHO_TIMEOUT (R75): an echo has not returned within 10 µs. -/
def execEchoTimeout (port : UpPort) (s : State) : Host.Outcome State Fault Refusal :=
  .next (
    if running s && (stream s port).echo.busy then
      echoCounted (modStream s port fun t => { t with echo := { t.echo with lost := t.echo.lost + 1 } }) port
    else s)

/-- HOP_REMEASURE (R76, R505): the echo measurement is repeated on each connected upstream port, and on the peer link by the standby. -/
def execHopRemeasure (s : State) : Host.Outcome State Fault Refusal :=
  .next ([UpPort.u0, .u1, .peer].foldl (fun s p => if measures s p then startEcho s p else s) s)

/-- LOOP_TRACE (R86): forwarded with HOPS raised, discarded by the angle source, or found to be the module's own within 1 s. -/
def execLoopTrace (port : Ix) (f : RyrFrame) (s : State) : Host.Outcome State Fault Refusal :=
  .next (
    if !drives s then s
    else if !f.good 0x06 4 then discardDown s port
    else
      let origin := beAt f.payload 0 2
      let hops := beAt f.payload 2 2
      let own := origin == treePosition s && s.grid.traceAt.any fun u => decide (s.elec.uptime ≤ u + sec 1)
      if own then
        let s := modStream s .u1 fun t => { t with accepted := false, acq := 0, next := none, arrivals := [] }
        let s := { s with grid := { s.grid with u1Loop := true, traceAt := none } }
        raise (if s.grid.sel = .one then switchTo s .u0 else s) 13 []
      else if s.grid.head || decide (0xFFFF ≤ hops) then s
      else emit s (.ryran false s.grid.sel 0x06 (beBytes 2 origin ++ beBytes 2 (hops + 1))))

/-- The measurement of one port at enumeration (R74, R75): 64 requests go out on a connected port, and their answers give D; with fewer than
48 the measurement is repeated. No answer means the port is not connected, and nothing goes out on it. -/
def enumPort (s : State) (p : UpPort) (e : Option EchoRun) : State :=
  match e with
  | none => modStream s p fun t => { t with linkUp := false, d := 0, dGoal := 0 }
  | some r =>
    let s := emits s (echoRequests s p)
    if r.rtts.length < 48 then startEcho (modStream s p fun t => { t with linkUp := true }) p
    else
      let d := hopDelay r.dUp r.rtts.sum r.rtts.length
      modStream s p fun t => { t with linkUp := true, d := d, dGoal := d, upDepth := r.depth, cycleMax := max t.cycleMax r.cycleMax }

/-- The delay of a port leaves too little of the waymark advance: D + 2 µs > A × 118.371 µs (R78). -/
def advanceShort (s : State) (d : Nat) : Bool := decide (8 * 118371 * waymarkAdv s < d + 8 * 2000)

/-- Payload of a HOP_COMP frame (Table 12-13). -/
def hopCompBytes (s : State) : List Byte :=
  let g := s.grid
  beBytes 4 g.u0.d ++ beBytes 4 g.u1.d ++ beBytes 2 g.depth ++ beBytes 1 g.sel.num ++
    beBytes 1 (bit g.u0.accepted + 2 * bit g.u1.accepted + 4 * bit g.u1.inconsistent + 8 * bit g.u1Loop) ++ beBytes 4 0
/-- The owner sends HOP_COMP after enumeration and at each change of D in use (Table 12-3). -/
def sendHopComp (s : State) : State :=
  if drives s && s.pair.linkUp then emit s (.peer 0x34 (hopCompBytes s)) else s

/-- RYRAN_ENUMERATION (R47 step 7, R74, R78, R86, R87, R273): the measurement of each port at the end of the step's bound of 2 s, repeated
every 1 s while the module is unsynchronised; a rank 1 position that has accepted no stream within step 7 becomes angle source; a standby takes the owner's delays instead (R49). -/
def execRyranEnumeration (e0 e1 : Option EchoRun) (s : State) : Host.Outcome State Fault Refusal :=
  .next (
    if !running s || s.elec.step < 7 || (s.elec.step ≠ 7 ∧ s.grid.sync = true) then s
    else
      let first := s.elec.step == 7
      let s := if first then { s with elec := { s.elec with step := 8 } } else s
      if !drives s then
        match s.pair.hop with
        | none => s
        | some (d0, d1, depth, sel, _) =>
          { s with grid := { s.grid with
              depth := depth, sel := Ix.ofNum sel,
              u0 := { s.grid.u0 with d := d0, dGoal := d0 }, u1 := { s.grid.u1 with d := d1, dGoal := d1 } } }
      else
        let s := enumPort (enumPort s .u0 e0) .u1 e1
        let s := if !s.grid.on && !s.grid.u0.linkUp && s.grid.u1.linkUp then { s with grid := { s.grid with sel := .one } } else s
        let t := stream s (upOf s.grid.sel)
        let s := { s with grid := { s.grid with depth := if s.grid.head || !t.linkUp then 0 else t.upDepth + 1 } }
        let short := (s.grid.u0.linkUp && advanceShort s s.grid.u0.d) || (s.grid.u1.linkUp && advanceShort s s.grid.u1.d)
        let s := raiseIf { s with grid := { s.grid with advShort := short } } (short && !s.grid.advShort) 15 []
        let s := if s.grid.u1.linkUp && !s.grid.u1Loop then
            emit { s with grid := { s.grid with traceAt := some s.elec.uptime } }
              (.ryran false .one 0x06 (beBytes 2 (treePosition s) ++ beBytes 2 0))
          else s
        let s := if first && ownRank s = 1 && !s.grid.head && !s.grid.u0.accepted && !s.grid.u1.accepted then becomeHead s 1 else s
        sendHopComp (if s.grid.head then budgetCheck s s.grid.dMax else s))

end Sys2Proof.Machine
end

