-- ==== Sys2Proof/Machine/Hold.lean ====
section
/-! DEFINITION. Point hold: phasor records, the vote, the references, headroom, the round of sums and fraction, hold without a
fraction, and movement of the lead (R272 to R303). -/

namespace Sys2Proof.Machine

open Sys2Proof

/-- The HPN of the current tick (R172). -/
def curHpn (s : State) : Nat := s.grid.now / holdPeriod s
/-- The current tick is a holding-period boundary (R16). -/
def atBoundary (s : State) : Bool := s.grid.on && decide (s.grid.now % holdPeriod s = 0)
/-- Length of a holding period at the mean tick interval, in 1/8 ns. -/
def holdLen (s : State) : Rat := holdPeriod s * s.grid.period
/-- The module has joined dispatch (Table 1-7, step 11). -/
def joined (s : State) : Bool := decide (12 ≤ s.elec.step)
/-- Big-endian binary32 on a link. -/
def bf (x : F32) : List Byte := beBytes 4 x.toNat
/-- Binary32 at an offset of a link payload. -/
def bfAt (b : List Byte) (off : Nat) : F32 := BitVec.ofNat 32 (beAt b off 4)

/-! ### Phasor records (R275 to R278) -/

/-- A complex number with rational parts. -/
structure Cx where
  re : Rat
  im : Rat
  deriving DecidableEq, Repr
/-- Sum. -/
def Cx.add (a b : Cx) : Cx := { re := a.re + b.re, im := a.im + b.im }
/-- Product. -/
def Cx.mul (a b : Cx) : Cx := { re := a.re * b.re - a.im * b.im, im := a.re * b.im + a.im * b.re }
/-- Product with a real factor. -/
def Cx.scale (k : Rat) (a : Cx) : Cx := { re := k * a.re, im := k * a.im }
/-- Product with the conjugate of the second. -/
def Cx.mulConj (a b : Cx) : Cx := a.mul { re := b.re, im := -b.im }
/-- Magnitude as binary32. -/
def Cx.abs (a : Cx) : F32 := F32.sqrt (F32.ofRat (a.re * a.re + a.im * a.im))

/-- The ticks of the window of (c, h), oldest first (R276). -/
def windowTicks (s : State) (c h : Nat) : List TickRec :=
  (s.front.hist.filter fun t => decide ((c - 1) * 128 + 64 * h ≤ t.at_) && decide (t.at_ < c * 128 + 64 * h)).reverse
/-- The 256 samples of a channel in a window by place, calibrated; a missing tick contributes nothing. -/
def windowSamples (s : State) (c h ch : Nat) : List (Nat × Rat) :=
  (windowTicks s c h).flatMap fun t =>
    let m := 2 * (t.at_ - ((c - 1) * 128 + 64 * h))
    match t.grefVal[ch]? with
    | some g => [(m, F32.toRat g.1), (m + 1, F32.toRat g.2)]
    | none => []
/-- A channel's phasor (R276). -/
def chanPhasor (s : State) (c h ch : Nat) : Cx :=
  let sum := (windowSamples s c h ch).foldl (fun (a : Cx) (p : Nat × Rat) =>
    a.add { re := p.2 * Math.cosTurn p.1 256, im := -(p.2 * Math.sinTurn p.1 256) }) { re := 0, im := 0 }
  sum.scale ((if h = 0 then 1 else -1) * (2 / 256))
/-- The symmetrical component of three phasors; `neg` for the negative sequence. -/
def sequence (neg : Bool) (a b c : Cx) : Cx :=
  let r1 : Cx := { re := Math.cosTurn 1 3, im := Math.sinTurn 1 3 }
  let r2 := r1.mul r1
  let (p, q) := if neg then (r2, r1) else (r1, r2)
  ((a.add (p.mul b)).add (q.mul c)).scale (1 / 3)
/-- A phase difference wrapped to ±π. -/
def wrapPi (x : Rat) : Rat := if Math.pi < x then x - 2 * Math.pi else if x < -Math.pi then x + 2 * Math.pi else x

/-- The record of (c, h): its fields as bytes (Table 10-2), and its angle. -/
def phasorRecord (s : State) (c h : Nat) : List Byte × F32 :=
  let ph (ch : Nat) := chanPhasor s c h ch
  let va := ph 0; let vb := ph 1; let vc := ph 2
  let ia := ph 3; let ib := ph 4; let ic := ph 5
  let v1 := sequence false va vb vc
  let v2 := sequence true va vb vc
  let i1 := sequence false ia ib ic
  let perUnit (m : F32) : F32 := F32.ofRat (F32.toRat m * Math.rootOf 3 / (Math.rootOf 2 * 1000 * parR s 0x0A10))
  let pw := ((va.mulConj ia).add (vb.mulConj ib)).add (vc.mulConj ic)
  let ang := F32.ofRat (Math.arg v1.re v1.im)
  let ts := windowTicks s c h
  let pt := (ts.map (·.len)).sum
  let fc : Rat := (ts.length : Rat) * 8000000000 / (128 * (pt : Rat))
  let f := match s.hold.lastAng with
    | some a => F32.ofRat (fc * (1 + wrapPi (F32.toRat ang - F32.toRat a) / Math.pi))
    | none => Config.unstated 10 ang
  let ovr := ts.any fun t => (t.grefOvr.take 6).any id
  let flags := bit ovr + 2 * bit ((List.range 6).all (calValid s 2)) + 4 * bit s.grid.sync + 8 * bit s.grid.coast +
    16 * bit (decide (ts.length ≠ 128))
  ([toByte (parN s 0x0A06), toByte flags] ++ beBytes 2 (treePosition s) ++ beBytes 4 (c % 2 ^ 32) ++ [toByte h, 0, 0, 0] ++
   bf (F32.ofRat (pw.re / 2000)) ++ bf (F32.ofRat (pw.im / 2000)) ++ bf (perUnit v1.abs) ++ bf ang ++ bf f ++ bf (perUnit v2.abs) ++
   bf (F32.ofRat (F32.toRat i1.abs / Math.rootOf 2)), ang)

/-- A PHASOR_RECORD as the angle source reads it. -/
def readPhasor (b : List Byte) : PhasorRec :=
  { set := byteAt b 0, flags := byteAt b 1, pos := beAt b 2 2, cyc := beAt b 4 4, half := byteAt b 8,
    p := bfAt b 12, q := bfAt b 16, v := bfAt b 20, ang := bfAt b 24, f := bfAt b 28 }
/-- A record held by the angle source for the vote. -/
def holdRecord (s : State) (b : List Byte) : State := { s with hold := { s.hold with recs := s.hold.recs ++ [readPhasor b] } }

/-- PHASOR_RECORD_FORM (R275 to R277): the record of the half cycle that begins with tick 0 or 64 of the current cycle. -/
def execPhasorRecordForm (s : State) : Host.Outcome State Fault Refusal :=
  .next (
    let h := curTick s / 64
    if !drives s || !s.grid.on || parN s 0x0A06 == 0 || parN s 0x0540 == 0 || curCycle s == 0 then s
    else
      let (b, ang) := phasorRecord s (curCycle s) h
      let s := { s with hold := { s.hold with lastAng := some ang } }
      let s := if s.hold.lastAng.isSome then takeFree s else s
      if s.grid.head then holdRecord s b else emit s (.ryran false s.grid.sel 0x10 b))

/-- PHASOR_RECORD (R73, R277). -/
def execPhasorRecord (port : Ix) (f : RyrFrame) (s : State) : Host.Outcome State Fault Refusal :=
  .next (
    if !drives s then s
    else if !f.good 0x10 40 then discardDown s port
    else if s.grid.head then holdRecord s f.payload
    else emit s (.ryran false s.grid.sel 0x10 f.payload))

/-! ### The vote (R278 to R281) -/

/-- A quantity of the vote: its reading, its agreement and its conservative distance. -/
structure VoteQty where
  read : PhasorRec → F32
  agree : Rat → Rat → Bool
  dist : Rat → Rat

/-- The five quantities in the order of R279: P, Q, V_PU, F, ANG. -/
def voteQtys (s : State) : List VoteQty :=
  let within (tol : Rat → Rat → Rat) (a b : Rat) : Bool := decide (absR (a - b) ≤ tol a b)
  let big (a b : Rat) : Rat := max (absR a) (absR b)
  let pct := parR s 0x0A09 / 100
  let near (c : Rat) (a : Rat) : Rat := absR (a - c)
  [{ read := (·.p), agree := within fun a b => parN s 0x0A08 + pct * big a b, dist := near (F32.toRat s.hold.pRef) },
   { read := (·.q), agree := within fun a b => parN s 0x0A0A + pct * big a b, dist := near (F32.toRat s.hold.qRef) },
   { read := (·.v), agree := within fun _ _ => parR s 0x0A0B, dist := near (parR s 0x0A19) },
   { read := (·.f), agree := within fun _ _ => parR s 0x0A0C, dist := near (parN s 0x0201) },
   { read := (·.ang), agree := within fun _ _ => parR s 0x0A0D * Math.pi / 180, dist := near 0 }]

/-- The vote of one quantity (Table 10-3): the voted value, the set outvoted (0 none), and when contested the two extremes. -/
structure QtyVote where
  value : Option Rat
  out : Nat
  contest : Option ((Nat × Rat) × (Nat × Rat))
  deriving DecidableEq, Repr

/-- The reading of two that asks for the smaller correction; the first on a tie. -/
def conservative (q : VoteQty) (a b : Rat) : Rat := if q.dist b < q.dist a then b else a

/-- Table 10-3 on the readings present. -/
def voteOne (q : VoteQty) (rs : List (Nat × Rat)) : QtyVote :=
  match rs with
  | [] => { value := none, out := 0, contest := none }
  | [a] => { value := some a.2, out := 0, contest := none }
  | [a, b] =>
    if q.agree a.2 b.2 then { value := some ((a.2 + b.2) / 2), out := 0, contest := none }
    else { value := some (conservative q a.2 b.2), out := 0, contest := some (a, b) }
  | a :: b :: c :: _ =>
    let ab := q.agree a.2 b.2
    let ac := q.agree a.2 c.2
    let bc := q.agree b.2 c.2
    let n := bit ab + bit ac + bit bc
    if 2 ≤ n then { value := some (max (min a.2 b.2) (min (max a.2 b.2) c.2)), out := 0, contest := none }
    else if ab then { value := some ((a.2 + b.2) / 2), out := c.1, contest := none }
    else if ac then { value := some ((a.2 + c.2) / 2), out := b.1, contest := none }
    else if bc then { value := some ((b.2 + c.2) / 2), out := a.1, contest := none }
    else
      let lo := if a.2 ≤ b.2 ∧ a.2 ≤ c.2 then a else if b.2 ≤ c.2 then b else c
      let hi := if b.2 ≤ a.2 ∧ c.2 ≤ a.2 then a else if c.2 ≤ b.2 then b else c
      { value := some (conservative q lo.2 hi.2), out := 0, contest := some (lo, hi) }

/-- A record may take part in the vote of (c, h) (R278); the set of the lead's own position comes from that position only. -/
def recordFit (s : State) (c h : Nat) (r : PhasorRec) : Bool :=
  r.cyc == c % 2 ^ 32 && r.half == h && decide (1 ≤ r.set) && decide (r.set ≤ 3) &&
  (parN s 0x0A06 != r.set || r.pos == treePosition s) && r.flags % 2 == 0 && testBit r.flags 1 && testBit r.flags 2 && !testBit r.flags 4
/-- The record of each set for the vote: the first that is fit. -/
def fitRecords (s : State) (c h : Nat) : List PhasorRec :=
  [1, 2, 3].filterMap fun k => s.hold.recs.find? fun r => r.set == k && recordFit s c h r
/-- A set is convicted. -/
def setConvicted (s : State) (k : Nat) : Bool := (s.hold.sets3[k - 1]?).any (·.convicted)

/-- What a vote does to the record of one set (R280): `outIn` is the quantity in which it was outvoted (1 to 5, 0 none), `here` whether its
record was fit. -/
def judgeSet (s : State) (k : Nat) (here : Bool) (outIn : Nat) (reading voted : F32) : State :=
  let r := (s.hold.sets3[k - 1]?).getD {}
  let put (s : State) (r : SetRec) : State := { s with hold := { s.hold with sets3 := setAt s.hold.sets3 (k - 1) r } }
  if r.convicted then
    let n := if here && outIn == 0 then r.rehab + 1 else 0
    if parN s 0x0A0F ≠ 0 ∧ parN s 0x0A0F ≤ n then raise (put s {}) 102 (u8 k ++ u8 1) else put s { r with rehab := n }
  else
    let n := if outIn = 0 then 0 else r.outvoted + 1
    if parN s 0x0A0E ≤ n then
      raise (put s { outvoted := n, convicted := true, rehab := 0 }) 101 (u8 k ++ u8 outIn ++ fb reading ++ fb voted)
    else put s { r with outvoted := n }

/-- The first quantity in which a set is outvoted among the records given, from 1, with its reading and the voted value. -/
def outvotedIn (qs : List VoteQty) (rs : List PhasorRec) (k : Nat) : Nat × F32 × F32 :=
  let l := qs.zipIdx.filterMap fun (q, i) =>
    let v := voteOne q (rs.map fun r => (r.set, F32.toRat (q.read r)))
    if v.out = k then some (i + 1, ((rs.find? fun r => r.set == k).map q.read).getD 0, F32.ofRat (v.value.getD 0)) else none
  l.headD (0, 0, 0)

/-- A slot starts at its next due tick at a given value, out of tracking where it was in it (R261, R281). -/
def restartSlot (s : State) (n : Nat) (v : F32) : State :=
  let sl := slotAt s n
  let s := modSlot s n fun sl => { sl with start := 3, startVal := v, tracking := false, validFrom := none, badFrom := none, badInput := 0 }
  if sl.tracking then inputEvent s n sl.badInput false else s

/-- VOTE (R278 to R281): the lead votes the records of (c, h) at tick 64h + VOTE_DELAY of cycle c. The voted frequency and angle are what an
angle source tracks (R64, R66): ANG is taken as the error of its grid, as R276 says (log 132). -/
def execVote (s : State) : Host.Outcome State Fault Refusal :=
  .next (
    let vd := parN s 0x0A07
    let h := curTick s / 64
    if !drives s || s.hold.mode != .lead || curTick s % 64 != vd then s
    else
      let c := curCycle s
      let fit := fitRecords s c h
      let rs := fit.filter fun r => !setConvicted s r.set
      let qs := voteQtys s
      let vs := qs.map fun q => voteOne q (rs.map fun r => (r.set, F32.toRat (q.read r)))
      let contested := vs.any (·.contest.isSome)
      let mask := (rs.map fun r => 2 ^ (r.set - 1)).sum
      let mode := rs.length
      let changed := mode != s.hold.voteMode || contested != s.hold.contested
      let was := s.hold.voted
      let vals := vs.map fun v => F32.ofRat (v.value.getD 0)
      let voted := if rs.isEmpty then none else some [vals.getD 0 0, vals.getD 1 0, vals.getD 3 0, vals.getD 2 0, vals.getD 4 0]
      let f := F32.toRat (vals.getD 3 0)
      let good := !rs.isEmpty && decide (45 ≤ f) && decide (f ≤ 66)
      let ref (g : GridState) : GridState :=
        if !g.head || rs.isEmpty then g
        else { g with refSeen := true, angErr := F32.toRat (vals.getD 4 0) * 64 / Math.pi,
                      outRefs := if good then 0 else g.outRefs + 1, goodRefs := if good then g.goodRefs + 1 else 0 }
      let out (k : Nat) : Nat × F32 × F32 :=
        outvotedIn qs (if setConvicted s k then fit.filter fun r => r.set == k || !setConvicted s r.set else rs) k
      let outs := [1, 2, 3].map fun k => (k, fit.any (fun r => r.set == k), out k)
      let s := { s with
        hold := { s.hold with voted := voted, setsValid := mask, voteMode := mode, contested := contested,
                              recs := s.hold.recs.filter fun r => !(r.cyc == c % 2 ^ 32 && r.half == h) },
        grid := ref s.grid }
      let s := if changed then raise s 99 (u8 mask ++ u8 (mode + 4 * bit contested)) else s
      let s := vs.zipIdx.foldl (fun s (v, i) => match v.contest with
        | some (a, b) => raiseOnce s 100 i (curCycle s)
            (u8 (i + 1) ++ u8 a.1 ++ u8 b.1 ++ fb (F32.ofRat a.2) ++ fb (F32.ofRat b.2) ++ fb (F32.ofRat (v.value.getD 0)))
        | none => s) s
      let s := outs.foldl (fun s (k, here, o) => judgeSet s k here o.1 o.2.1 o.2.2) s
      if was.isNone && voted.isSome then restartSlot (restartSlot s 16 s.hold.lastDem.1) 17 s.hold.lastDem.2 else s)

/-! ### References and headroom (R282, R287, R288) -/

/-- P_REF and Q_REF of R282; with no valid vote the droop and voltage terms are 0 (R281). -/
def formRefs (s : State) : State :=
  if s.hold.mode ≠ .lead ∧ s.hold.mode ≠ .shadowLead then s
  else
    let sgn (x : Rat) : Rat := if 0 < x then 1 else if x < 0 then -1 else 0
    let (dp, dq) : Rat × Rat := match s.hold.voted with
      | none => (0, 0)
      | some l =>
        let fn : Rat := parN s 0x0201
        let df := F32.toRat (l.getD 2 0) - fn
        let db := parR s 0x0A15
        let raw : Rat := if absR df ≤ db then 0
          else -(df - sgn df * db) / (parR s 0x0A14 / 100 * fn) * parN s 0x0A11
        let cap : Rat := parN s 0x0A16
        let dv := F32.toRat (l.getD 3 0) - parR s 0x0A19
        let vb := parR s 0x0A18
        let q : Rat := if absR dv ≤ vb then 0 else -(dv - sgn dv * vb) / (parR s 0x0A17 / 100) * parN s 0x0A12
        (max (-cap) (min cap raw), q)
    { s with hold := { s.hold with pRef := F32.ofRat (F32.toRat s.hold.pSet + dp), qRef := F32.ofRat (F32.toRat s.hold.qSet + dq) } }

/-- A power rounded down to 0.1 kW or 0.1 kvar (R288). -/
def tenthDown (q : Rat) : Rat := ((q * 10).floor : Rat) / 10
/-- K+ and K− of a string are both read back closed (R288). -/
def contactorsClosed (s : State) (x : Ix) : Bool :=
  let p := s.prot.get x
  let on (k : CoilState) : Bool := k.a == .high && k.b == .low
  on p.kPos && on p.kNeg
/-- The string has headroom at all (R288). -/
def headroomOpen (s : State) (x : Ix) : Bool :=
  let p := s.can.pcs.get x
  strEnabled s x && s.est.seed && (s.can.bus.zero.st == .scheduled) && s.grid.sync && s.hold.mode != .off &&
  !p.lost && p.ready && contactorsClosed s x && !(s.est.str.get x).spanZero
/-- U_n, D_n and QC_n of a string (R287), each rounded down to 0.1 kW or 0.1 kvar as the worked example of R292 does. -/
def headroomOf (s : State) (x : Ix) : Rat × Rat × Rat :=
  if !headroomOpen s x then (0, 0, 0)
  else match (s.can.pcs.get x).status, s.fus.frames.get x with
    | some (pDis, pChg, qMax, sMax), some fr =>
      let st := s.est.str.get x
      let p := s.prot.get x
      let v := F32.toRat (fr.means.getD 2 0)
      let soc := F32.toRat st.sR
      let u := 3 * F32.toRat st.u
      let kwh := F32.toRat st.c * v / 1000
      let eUp := max 0 (soc - parR s 0x0A20 - u) / 100 * kwh
      let eDn := max 0 (parR s 0x0A21 - soc - u) / 100 * kwh
      let tSust : Rat := parN s 0x0A22
      let up := F32.toRat (s.therm.up.get x) * min (min (F32.toRat pDis) (F32.toRat p.lMax)) (3600 * eUp / tSust)
      let dn := F32.toRat (s.therm.dn.get x) * min (min (F32.toRat pChg) (-(F32.toRat p.lMin))) (3600 * eDn / tSust)
      let pn := s.hold.p.get x
      let sq := max 0 (F32.toRat sMax * F32.toRat sMax - pn * pn)
      let root : Rat := (isqrt (sq * 100).floor.toNat : Rat) / 10
      (max 0 (tenthDown up), max 0 (tenthDown dn), max 0 (min (tenthDown (F32.toRat qMax)) root))
    | _, _ => (0, 0, 0)

/-- A value of the round in tenths. -/
def inTenths (q : Rat) : Nat := (q * 10).floor.toNat
/-- The module's own contribution to the round (R288, R289). -/
def ownSum (s : State) : SumRec :=
  let a := s.hold.head.zero
  let b := s.hold.head.one
  let u := inTenths (a.1 + b.1)
  let d := inTenths (a.2.1 + b.2.1)
  let q := inTenths (a.2.2 + b.2.2)
  { nmod := bit (decide (0 < u + d + q)), dmax := ownDelay s, u := sat 0xFFFFFFFF u, dn := sat 0xFFFFFFFF d, qc := sat 0xFFFFFFFF q }
/-- Two sums merged (R289). -/
def SumRec.merge (a b : SumRec) : SumRec :=
  { nmod := sat 0xFFFF (a.nmod + b.nmod), dmax := max a.dmax b.dmax, u := sat 0xFFFFFFFF (a.u + b.u),
    dn := sat 0xFFFFFFFF (a.dn + b.dn), qc := sat 0xFFFFFFFF (a.qc + b.qc) }
/-- The sums of the round with the module's own. -/
def roundSum (s : State) : SumRec :=
  [s.hold.got.zero, s.hold.got.one].foldl (fun a g => match g with | some b => a.merge b | none => a) (ownSum s)
/-- HEADROOM_SUM as sent (Table 10-6). -/
def sumBytes (hpn : Nat) (r : SumRec) : List Byte :=
  let pair (n : Nat) : List Byte := beBytes 4 n ++ beBytes 4 (complement 4 n)
  beBytes 2 (hpn % 65536) ++ beBytes 2 r.nmod ++ beBytes 4 r.dmax ++ pair r.u ++ pair r.dn ++ pair r.qc

/-- Sending the module's own sum of the round on its selected upstream port (R289, R292). -/
def sendSum (s : State) : State :=
  if s.hold.sent || s.grid.head || !s.grid.sync || !drives s then s
  else
    let t := stream s (upOf s.grid.sel)
    let ok := t.linkUp && t.accepted
    let r := roundSum s
    let s := emit s (.ryran false s.grid.sel 0x11 (sumBytes s.hold.round r))
    { s with hold := { s.hold with sentSum := (r.u, r.dn, r.qc), sent := true, delivered := ok, notDelivered := s.hold.notDelivered || !ok } }

/-- Every D port that delivered a sum for the previous round has delivered one for this round (R289). -/
def childrenIn (s : State) : Bool :=
  (!s.hold.prevGot.zero || s.hold.got.zero.isSome) && (!s.hold.prevGot.one || s.hold.got.one.isSome)

/-! ### The boundary (R281 to R296) -/

/-- The state passed to the standby once per holding period (R296, Table 12-13). -/
def holdStateBytes (s : State) : List Byte :=
  let h := s.hold
  let vote := h.setsValid + 8 * h.voteMode + 32 * bit h.contested
  let conv := ([1, 2, 3].map fun k => bit (setConvicted s k) * 2 ^ (k - 1)).sum
  let voted := (h.voted.getD [] ++ List.replicate 5 F32.qNaN).take 5
  beBytes 2 (h.round % 65536) ++ [toByte vote, toByte conv] ++ bf h.pTot ++ bf h.qTot ++ bf h.pSet ++ bf h.qSet ++
  beBytes 4 h.sums.1 ++ beBytes 4 h.sums.2.1 ++ beBytes 4 h.sums.2.2 ++
  ((List.range 8).flatMap fun k => bf (slotAt s (16 + k)).out) ++ (voted.flatMap bf) ++
  (h.sets3.map fun r => toByte (sat 255 r.outvoted)) ++ [0] ++ (h.sets3.flatMap fun r => beBytes 2 (sat 65535 r.rehab)) ++ [0, 0]

/-- HOLD_SET values whose boundary has come (R283). -/
def applyHoldSets (s : State) : State :=
  let due := s.hold.sets.filter fun e => decide (e.1 ≤ s.grid.now)
  due.foldl (fun s e =>
      raise { s with hold := { s.hold with pSet := e.2.1, qSet := e.2.2 } } 106 (fb e.2.1 ++ fb e.2.2 ++ ustamp (stampOf s.grid.now)))
    { s with hold := { s.hold with sets := s.hold.sets.filter fun e => !decide (e.1 ≤ s.grid.now) } }

/-- A value moved toward 0 by at most a step. -/
def towardZero (step q : Rat) : Rat := if 0 ≤ q then max 0 (q - step) else min 0 (q + step)

/-- EV 103: 1 hold entered, 2 ramp started, 3 resumed, with the last HPN_LO applied (R293). -/
def fractionEvent (s : State) (kind : Nat) : State := raise s 103 (u8 kind ++ u16 s.hold.fracHpn)

/-- A fraction sets the string demands (R291). -/
def applyFraction (s : State) (f : FracRec) : State :=
  let phi : Rat := (f.phi : Rat) / 2 ^ 30
  let psi : Rat := (f.psi : Rat) / 2 ^ 30
  let dem (x : Ix) : Rat × Rat :=
    let h := s.hold.head.get x
    if ((s.prot.get x).openSeq).isSome then (0, 0)
    else (if 0 ≤ phi then phi * h.1 else phi * h.2.1, psi * h.2.2)
  let a := dem .zero
  let b := dem .one
  let resumed := s.hold.fracHold || s.hold.fracRamp
  let s := { s with hold := { s.hold with
    p := { zero := a.1, one := b.1 }, q := { zero := a.2, one := b.2 }, fracUp := s.elec.uptime, fracHpn := f.hpn, fracValid := true,
    fracHold := false, fracRamp := false, phi := f.phi, psi := f.psi } }
  if resumed then fractionEvent s 3 else s

/-- A boundary at which no fraction applies (R293): the demands hold, and once the ramp has begun they move toward 0. -/
def withoutFraction (s : State) : State :=
  let off := s.hold.mode == .off
  let idle := s.hold.p.zero == 0 && s.hold.p.one == 0 && s.hold.q.zero == 0 && s.hold.q.one == 0
  let s := { s with hold := { s.hold with fracValid := false } }
  let s :=
    if off then
      (if idle then { s with hold := { s.hold with fracHold := false, fracRamp := false } }
       else if s.hold.fracRamp then s
       else fractionEvent { s with hold := { s.hold with fracHold := false, fracRamp := true } } 2)
    else if s.hold.fracHold || s.hold.fracRamp then s
    else fractionEvent { s with hold := { s.hold with fracHold := true } } 1
  if !s.hold.fracRamp then s
  else
    let since : Rat := if off then holdLen s else ((s.elec.uptime : Rat) - (s.hold.fracUp + ms (parN s 0x0A25) : Nat))
    let dt := max 0 (min (holdLen s) since)
    let step := (parN s 0x0A26 : Rat) * dt / 8000000000
    { s with hold := { s.hold with p := s.hold.p.map (towardZero step), q := s.hold.q.map (towardZero step) } }

/-- A module that has joined dispatch takes the Hold state of its position, as HOLD_CFG in force gives it (R272); from off once R40 permits. -/
def rejoinHold (s : State) : State :=
  let ready := s.grid.sync && (s.hold.mode != .off || s.grid.holdFrom.any fun c => decide (c ≤ curCycle s))
  if joined s && ready && s.hold.mode != configuredHold s && !(s.grid.head && s.grid.budgetShort) then setHold s (configuredHold s) 1 else s

/-- HOLDING_PERIOD_BOUNDARY (R40, R281 to R283, R287 to R293, R296). -/
def execHoldingPeriodBoundary (s : State) : Host.Outcome State Fault Refusal :=
  .next (
    if !running s || !isActive s || !atBoundary s then s
    else
      let s := applyHoldSets s
      let s := if s.hold.began then s else { s with hold := { s.hold with fracUp := s.elec.uptime } }
      let s := rejoinHold s
      let missed := s.hold.began && !s.grid.head && !s.hold.sent && s.grid.sync
      let s := { s with hold := { s.hold with notDelivered := s.hold.notDelivered || missed } }
      let s := match s.hold.frac with
        | some f => if s.hold.delivered && s.hold.mode != .off then applyFraction s f else withoutFraction s
        | none => withoutFraction s
      let newCycle := decide (curTick s < holdPeriod s)
      let s := if newCycle && decide (0 < s.hold.lateCnt) then
          raise { s with hold := { s.hold with lateCnt := 0 } } 104 (u16 (s.hold.round % 65536) ++ u16 (sat 0xFFFF s.hold.lateCnt))
        else s
      let head : Two (Rat × Rat × Rat) := { zero := headroomOf s .zero, one := headroomOf s .one }
      let got := s.hold.got
      let s := { s with hold := { s.hold with
        head := head, round := curHpn s, began := true, got := { zero := none, one := none },
        prevGot := { zero := got.zero.isSome, one := got.one.isSome }, dSub := s.hold.dSubNow, dSubNow := 0,
        sent := false, delivered := s.grid.head, closed := false, fracDue := false, seen := false, frac := none, planClosed := false } }
      let s := formRefs s
      let s := if s.hold.mode = .lead ∧ s.pair.linkUp = true ∧ drives s = true then emit s (.peer 0x35 (holdStateBytes s)) else s
      if childrenIn s then sendSum s else s)

/-- HEADROOM_SUM (R73, R289, R290). -/
def execHeadroomSum (port : Ix) (f : RyrFrame) (s : State) : Host.Outcome State Fault Refusal :=
  .next (
    if !drives s || !s.grid.sync then s
    else
      let b := f.payload
      let agree (off : Nat) : Bool := beAt b (off + 4) 4 == complement 4 (beAt b off 4)
      if !f.good 0x11 32 || !agree 8 || !agree 16 || !agree 24 then discardDown s port
      else if beAt b 0 2 ≠ s.hold.round % 65536 then
        (if s.grid.head && (beAt b 0 2 + 1) % 65536 == s.hold.round % 65536 then
          { discardDown s port with hold := { s.hold with lateSum := true, lateCnt := s.hold.lateCnt + 1 } }
         else discardDown s port)
      else
        let r : SumRec := { nmod := beAt b 2 2, dmax := beAt b 4 4, u := beAt b 8 4, dn := beAt b 16 4, qc := beAt b 24 4 }
        let s := { s with hold := { s.hold with dSubNow := max s.hold.dSubNow r.dmax } }
        let take := { s with hold := { s.hold with got := s.hold.got.modify port fun g => match g with
          | some a => some (a.merge r)
          | none => some r } }
        if s.grid.head then
          (if s.hold.closed then { s with hold := { s.hold with lateSum := true, lateCnt := s.hold.lateCnt + 1 } } else take)
        else if s.hold.sent then
          emit { s with hold := { s.hold with got := s.hold.got.modify port fun g => some (g.getD r) } } (.ryran false s.grid.sel 0x11 b)
        else if childrenIn take then sendSum take
        else take)

/-- SUM_SEND_DEADLINE (R289). -/
def execSumSendDeadline (s : State) : Host.Outcome State Fault Refusal :=
  .next (if s.hold.began then sendSum s else s)

/-- A value as Q1.30, rounded to the nearest code, half way cases away from zero (R290). -/
def toQ30 (q : Rat) : Int :=
  let x := q * 2 ^ 30
  if 0 ≤ x then (x + 1 / 2).floor else -((-x + 1 / 2).floor)

/-- φ or ψ from a total and the divisors for each sign; the second part is true when it is clamped or its divisor is 0 (R290, R294). -/
def shareOf (tot up dn : Rat) : Rat × Bool :=
  let d := if 0 ≤ tot then up else dn
  if d = 0 then (0, true)
  else
    let r := tot / d
    (max (-1) (min 1 r), decide (1 < r) || decide (r < -1))

/-- FRACTION as sent (Table 10-7). -/
def fractionBytes (s : State) (phi psi : Int) (flags : Nat) : List Byte :=
  let h := s.hold
  let pair (i : Int) : List Byte :=
    let n := ofSigned 32 i
    beBytes 4 n ++ beBytes 4 (complement 4 n)
  let v := h.voted.getD (List.replicate 5 F32.qNaN)
  beBytes 2 (h.round % 65536) ++ beBytes 2 (treePosition s) ++
  [toByte flags, toByte (h.setsValid + 8 * h.voteMode + 32 * bit h.contested)] ++ beBytes 2 h.nmod ++ pair phi ++ pair psi ++
  bf h.pTot ++ bf h.qTot ++ bf (v.getD 0 0) ++ bf (v.getD 1 0) ++ bf (v.getD 2 0) ++ bf (v.getD 3 0)

/-- The lead computes φ and ψ of the closed round and places FRACTION on both D ports (R290, R294). -/
def sendFraction (s : State) : State :=
  let h := s.hold
  let p := F32.toRat h.pTot
  let q := F32.toRat h.qTot
  let su : Rat := h.sums.1 / 10
  let sd : Rat := h.sums.2.1 / 10
  let sq : Rat := h.sums.2.2 / 10
  let (phi, cp) := shareOf p su sd
  let (psi, cq) := shareOf q sq sq
  let flags := ownRank s % 8 + 8 * bit cp + 16 * bit cq + 32 * bit h.voted.isNone
  let b := fractionBytes s (toQ30 phi) (toQ30 psi) flags
  let f : FracRec :=
    { hpn := h.round % 65536, pos := treePosition s, flags := flags, vote := byteAt b 5, nmod := h.nmod, phi := toQ30 phi,
      psi := toQ30 psi, pDem := h.pTot, qDem := h.qTot, voted := h.voted.getD [] }
  let s := { s with hold := { h with shortfall := cp || cq, fracDue := false, seen := true, lastDem := (h.pTot, h.qTot),
                                     frac := if h.planClosed then h.frac else some f } }
  let s := emits s [.ryran true .zero 0x12 b, .ryran true .one 0x12 b]
  if cp || cq then
    let sp := max 0 (absR p - (if 0 ≤ p then su else sd))
    let sqv := max 0 (absR q - sq)
    raiseOnce s 96 0 (curCycle s) (fb (F32.ofRat sp) ++ fb (F32.ofRat sqv) ++ u8 1 ++ u8 0)
  else s

/-- The outputs of the boundary's latch stand (Table 10-8): P_tot and Q_tot of the round are formed. -/
def totalsFormed (s : State) : Bool := decide (s.hold.round * holdPeriod s ≤ s.ctl.lastAt) && decide (s.ctl.lastAt ≤ s.grid.now)

/-- ROUND_CLOSE (R87, R290, R294): the lead closes the round and sends FRACTION once the outputs of the boundary's latch stand. -/
def execRoundClose (s : State) : Host.Outcome State Fault Refusal :=
  .next (
    if !drives s || !s.grid.head || s.hold.mode != .lead || s.hold.closed || !s.hold.began then s
    else
      let r := roundSum s
      let s := { s with hold := { s.hold with closed := true, sums := (r.u, r.dn, r.qc), sumsValid := true, nmod := r.nmod },
                        grid := { s.grid with dMax := r.dmax } }
      let s := budgetCheck s r.dmax
      if s.hold.mode ≠ .lead then s
      else if totalsFormed s then sendFraction s
      else { s with hold := { s.hold with fracDue := true } })

/-- CONTROL_LATCH (R254 to R268, R285): `late` and `torn` are the slots whose evaluation at this latch does not complete before the next, or is torn.
A lead whose round is closed sends FRACTION once P_tot and Q_tot of the boundary are formed (Table 10-8). -/
def execControlLatch (late torn : Nat) (s : State) : Host.Outcome State Fault Refusal :=
  .next (
    if !running s || !isActive s || !s.grid.on then s
    else
      let s := latchAll late torn s
      if s.hold.fracDue && s.hold.mode == .lead && drives s && totalsFormed s then sendFraction s else s)

/-! ### The fraction (R291, R292, R295, R299) -/

/-- Two powers agree for a shadow lead (R295). -/
def demAgree (s : State) (a b : F32) : Bool :=
  let x := F32.toRat a
  let y := F32.toRat b
  decide (absR (x - y) ≤ parN s 0x0A27 + max (absR x) (absR y) / 100)

/-- A shadow lead compares its own totals with an accepted FRACTION (R295). -/
def compareLead (s : State) (f : FracRec) : State :=
  if s.hold.mode ≠ .shadowLead ∨ testBit f.flags 5 = true then s
  else if demAgree s s.hold.pTot f.pDem && demAgree s s.hold.qTot f.qDem then { s with hold := { s.hold with divergeRun := 0 } }
  else if s.hold.divergeRun + 1 < parN s 0x0A28 then { s with hold := { s.hold with divergeRun := s.hold.divergeRun + 1 } }
  else
    let s := { s with hold := { s.hold with divergeRun := 0, diverge := true } }
    let s := raise s 105 (fb s.hold.pTot ++ fb s.hold.qTot ++ fb f.pDem ++ fb f.qDem)
    (List.range 8).foldl (fun s k =>
      let v := if k = 0 then f.pDem else if k = 1 then f.qDem else slotFallback s (16 + k)
      restartSlot s (16 + k) v) s

/-- FRACTION (R73, R291, R295, R299). -/
def execFraction (port : Ix) (f : RyrFrame) (s : State) : Host.Outcome State Fault Refusal :=
  .next (
    if !drives s then s
    else if !f.good 0x12 48 then discardUp s port
    else
      let b := f.payload
      let agree (off : Nat) : Bool := beAt b (off + 4) 4 == complement 4 (beAt b off 4)
      if !agree 8 || !agree 16 then s
      else
        let rank := byteAt b 4 % 8
        let t := stream s (upOf port)
        if s.grid.head then
          (if t.accepted && !t.coast && decide (0 < rank) && decide (rank < ownRank s) then
            { s with grid := { s.grid with yielding := true, resync := some (upOf port).num } }
           else s)
        else if s.hold.seen || beAt b 0 2 ≠ s.hold.round % 65536 then s
        else
          let flags := byteAt b 4
          let valid := !testBit flags 5
          let v := [bfAt b 32, bfAt b 36, bfAt b 40, bfAt b 44]
          let r : FracRec :=
            { hpn := beAt b 0 2, pos := beAt b 2 2, flags := flags, vote := byteAt b 5, nmod := beAt b 6 2,
              phi := toSigned 32 (beAt b 8 4), psi := toSigned 32 (beAt b 16 4), pDem := bfAt b 24, qDem := bfAt b 28, voted := v }
          let shadow := s.hold.mode == .shadowLead
          let s := { s with hold := { s.hold with
            seen := true, frac := if s.hold.planClosed then s.hold.frac else some r, nmod := r.nmod, lastDem := (r.pDem, r.qDem),
            voted := if shadow then (if valid then some v else none) else s.hold.voted,
            setsValid := if shadow then r.vote % 8 else s.hold.setsValid,
            voteMode := if shadow then r.vote / 8 % 4 else s.hold.voteMode,
            contested := if shadow then testBit r.vote 5 else s.hold.contested } }
          let s := emits s [.ryran true .zero 0x12 b, .ryran true .one 0x12 b]
          compareLead s r)

/-- FRACTION_HOLD_EXPIRY (R293). -/
def execFractionHoldExpiry (s : State) : Host.Outcome State Fault Refusal :=
  .next (
    if running s && isActive s && s.hold.mode != .off && !s.hold.fracRamp && s.hold.fracHold && passed s s.hold.fracUp (ms (parN s 0x0A25)) then
      fractionEvent { s with hold := { s.hold with fracHold := false, fracRamp := true } } 2
    else s)

/-- PLAN_CLOSE (R291, R378): the plan of the next basic cycle is fixed; a FRACTION that arrives later is absent. -/
def execPlanClose (s : State) : Host.Outcome State Fault Refusal :=
  .next (if running s && isActive s && s.hold.began then { s with hold := { s.hold with planClosed := true } } else s)

/-! ### Host commands and movement of the lead (R283, R300) -/

/-- The holding-period boundary at which a HOLD_SET takes effect (R283). -/
def holdSetBoundary (s : State) (cycle : Nat) : Nat :=
  let h := holdPeriod s
  let n := cycle * 128
  if s.grid.now < n then (n + h - 1) / h * h else (s.grid.now / h + 1) * h

/-- HOLD_SET (R283, Table 14-16). -/
def execHoldSet (h : Hdr) (p q : F32) (cycle : Nat) (s : State) : Host.Outcome State Fault Refusal :=
  .next (
    if !hostReady s h then s
    else if ownRank s = 0 then respond s h 0x0060 .unsupported 0
    else respondOk { s with hold := { s.hold with sets := s.hold.sets ++ [(holdSetBoundary s cycle, p, q)] } } h 0x0060
      (ustamp (stampOf (holdSetBoundary s cycle))))

/-- LEAD_MOVE (R300, Table 14-16). -/
def execLeadMove (h : Hdr) (target cycle : Nat) (s : State) : Host.Outcome State Fault Refusal :=
  .next (
    if !hostReady s h then s
    else if target = 0xFFFF ∨ rankOf s target = 0 then respond s h 0x0061 .refused 1
    else if cycle < curCycle s + 8 then respond s h 0x0061 .refused 2
    else if s.grid.head = false ∧ target ≠ treePosition s then respond s h 0x0061 .refused 3
    else if s.grid.sync = false then respond s h 0x0061 .refused 4
    else respondOk { s with grid := { s.grid with move := some { target := target, cycle := cycle } } } h 0x0061 [])

/-- LEAD_MOVE_EXECUTE (R300): at c:0 the angle source becomes shadow lead and the target becomes angle source; a target that is not
synchronised refuses. -/
def execLeadMoveExecute (s : State) : Host.Outcome State Fault Refusal :=
  .next (
    match s.grid.move with
    | none => s
    | some m =>
      if !running s || decide (s.grid.now < m.cycle * 128) then s
      else
        let s := { s with grid := { s.grid with move := none } }
        if m.target = treePosition s then (if drives s && s.grid.sync then becomeHead s 5 else s)
        else leaveHead s 5)

end Sys2Proof.Machine
end

