-- ==== Sys2Proof/Machine/Leaving.lean ====
section
/-! DEFINITION. The end of an activation or of a confirmation window: the selector record and the restart (R461, R464). -/

namespace Sys2Proof.Machine

open Sys2Proof

/-- The activation at C_act:0 writes the selector record for a trial of the target slot and restarts (R461). -/
def activateBoot (s : State) : State :=
  match journalOf s with
  | none => s
  | some j =>
    let r : SelRec :=
      { seq := 0, slot := j.slot, trial := true, boots := 0, fallbackValid := true, converted := false, activeVer := s.upd.ver.get j.slot,
        fallbackVer := s.upd.running, actCycle := j.actCycle, failBoots := 0 }
    restart (writeSel (writeJournal s { j with st := .trial }) r) 5

/-- The end of a confirmation window restarts the module; the next boot counts under R451 (R464). -/
def windowRestart (s : State) : State := restart { s with upd := { s.upd with failCause := 1 } } 5

/-- What the module was leaving for now happens: an activation, or the end of a window. -/
def leaveNow (s : State) : State :=
  match s.upd.leaving with
  | some (_, true) => activateBoot s
  | some (_, false) => windowRestart s
  | none => s

/-- Both strings read OPEN. -/
def bothOpen (s : State) : Bool := s.prot.zero.st == .opened && s.prot.one.st == .opened

/-- An unpartnered active that opens its strings before it leaves does so once both read OPEN (R461, R464). -/
def leaveIfOpen (s : State) : State :=
  match s.upd.leaving with
  | some (2, _) => if bothOpen s then leaveNow s else s
  | _ => s

end Sys2Proof.Machine
end

