-- ==== Sys2Proof/Machine/Estimation.lean ====
section
/-! DEFINITION. The estimation engine: propagation on ticks, frame corrections, rest references, capacity learning and seeding (R193 to R217,
R503). -/

namespace Sys2Proof.Machine

open Sys2Proof
open Sys2Proof.F32 (add sub mul div)

/-- Populated cells of a string. -/
def nPop (s : State) (x : Ix) : Nat := (strCells s x).length
/-- The unit that holds a physical channel. -/
def unitOfSerial (s : State) (x : Ix) (serial : Nat) : Option UnitState := (car s x).units.find? fun u => u.serial == serial
/-- String cell number of a unit's cell (both from 1), 0 for none. -/
def cellNumber (s : State) (x : Ix) (addr k : Nat) : Nat :=
  match (strCells s x).findIdx? fun p => p.1 == addr && p.2 + 1 == k with
  | some i => i + 1
  | none => 0

/-- The duty in force holds a cell's resistor on in a tick (R111, R235, R238). A unit that is refreshed no more stops after the tick in which its
last acknowledged refresh plus BAL_TIMEOUT lies (R239). -/
def resistorOn (s : State) (x : Ix) (u : UnitState) (k : Nat) (t : PendTick) : Bool :=
  decide (t.at_ % 128 < 128 * (dutyAt u t.at_).getD k 0 / 15) && decide (t.up < u.balAt + balLimit s x + t.len)
/-- Balancing charge of a cell over ticks, in coulombs (R197). -/
def balCharge (s : State) (x : Ix) (e : CellEst) (ts : List PendTick) : F32 :=
  match unitOfSerial s x e.chan.1 with
  | none => 0
  | some u =>
    let i := div e.vLast (parF s 0x070E)
    fsum ((ts.filter fun t => resistorOn s x u e.chan.2 t).map fun t => mul i (fsec t.len))

/-- EV 166 and the closing of the open cycle (R211). Reasons: 1 TEMP, 2 RATE, 3 COULOMB, 4 MISSING, 5 INTERRUPTED, 6 DURATION. -/
def disqualify (s : State) (x : Ix) (reason tick cell : Nat) (value : F32) : State :=
  match (s.est.str.get x).learn with
  | none => s
  | some l =>
    if l.disq then s
    else
      raise (modStr s x fun st => { st with learn := some { l with disq := true } }) 166
        (ux x ++ u8 reason ++ ustamp (stampOf tick) ++ u16 cell ++ fb value)

/-- Adding to the amount of a cycle in a list kept for the last cycles. -/
def addCycle {α : Type} (plus : α → α → α) (l : List (Nat × α)) (c : Nat) (v : α) : List (Nat × α) :=
  match l.find? fun p => p.1 == c with
  | some p => l.map fun q => if q.1 = c then (c, plus p.2 v) else q
  | none => ((c, v) :: l).take 5

/-- The charge count s of a string, % (R203). -/
def StrEst.count (st : StrEst) : Rat := 100 * st.qSum / (3600 * F32.toRat st.c)
/-- The discharge state after an interval that ended at `up` (R203). -/
def dischargeStep (up : Nat) (st : StrEst) (dq : Rat) : StrEst :=
  let st := { st with qSum := st.qSum + dq }
  let c := st.count
  if st.discharging then
    let lo := min st.sLo c
    { st with sLo := lo, aboveAt := if lo + 1 / 5 < c then some (st.aboveAt.getD up) else none }
  else
    let hi := max st.sHi c
    if c ≤ hi - 1 / 5 then { st with sHi := hi, discharging := true, sLo := c, aboveAt := none } else { st with sHi := hi }

/-- One early warning after a judgement that counts for `k` ticks: consecutive ticks on the warning and on the safe side (R206; log 158). -/
def warnStep (s : State) (k : Nat) (w : Nat × Nat × Bool) (warn safe : Bool) : (Nat × Nat × Bool) × Bool :=
  let n := parN s 0x0724
  let a := if warn then w.1 + k else 0
  let b := if safe then w.2.1 + k else 0
  if !w.2.2 && decide (n ≤ a) then ((0, 0, true), true)
  else if w.2.2 && decide (n ≤ b) then ((0, 0, false), true)
  else ((min a n, min b n, w.2.2), false)

/-- The early warnings of a string over `k` ticks from the extreme cell voltages in mV with their cells (R206). -/
def earlyWarnings (s : State) (x : Ix) (k : Nat) (hi lo : Option (Rat × Nat)) : State :=
  let st := s.est.str.get x
  let soc := F32.toRat st.sR
  let eocS := parR s 0x0720
  let eocV : Rat := parN s 0x0721
  let eodS := parR s 0x0722
  let eodV : Rat := parN s 0x0723
  let above (b : Rat) : Bool := hi.any fun p => decide (b ≤ p.1)
  let below (b : Rat) : Bool := lo.any fun p => decide (p.1 ≤ b)
  let (w, e1) := warnStep s k st.eoc (decide (eocS ≤ soc) || above eocV) (decide (soc ≤ eocS - 1 / 2) && hi.all fun p => decide (p.1 ≤ eocV - 10))
  let (v, e2) := warnStep s k st.eod (decide (soc ≤ eodS) || below eodV) (decide (eodS + 1 / 2 ≤ soc) && lo.all fun p => decide (eodV + 10 ≤ p.1))
  let s := modStr s x fun st => { st with eoc := w, eod := v }
  let data (p : Option (Rat × Nat)) (on : Bool) : List Byte :=
    ux x ++ fb (socRounded st.sR) ++ u16 ((p.map (·.2)).getD 0) ++ fb (fq (((p.map (·.1)).getD 0) / 1000)) ++ ub on
  let s := raiseIf s e1 162 (data hi w.2.2)
  raiseIf s e2 163 (data lo v.2.2)

/-- The extremes of a string's last TICK_SUM (R110, R206). -/
def tickExtremes (s : State) (x : Ix) : Option (Rat × Nat) × Option (Rat × Nat) :=
  match (car s x).sum with
  | none => (none, none)
  | some t =>
    if t.nunits = 0 then (none, none)
    else (some ((t.vmax : Rat) / 10, cellNumber s x t.vmaxU t.vmaxC), some ((t.vmin : Rat) / 10, cellNumber s x t.vminU t.vminC))

/-- The frame-end states latched at tick 0 (R199). -/
def latchCell (frame : Nat) (e : CellEst) : CellEst :=
  let y := if e.yN = 0 then 0 else div e.ySum (fq e.yN)
  let k : CellSnap := { frame := frame, x := e.x, cov := e.cov, yMean := y, f1 := F32.one, f2 := F32.one, fh := F32.one, ft := F32.one }
  { e with snaps := (k :: e.snaps).take 4, ySum := 0, yN := 0 }

/-- The charge ΔQ of ticks in coulombs: that of Table 7-2 for a tick propagated in its time; for pending ticks the difference of Q_T over
them (R196, R198; log 148). -/
def chargeIn (x : Ix) (late : Bool) (ts : List PendTick) : Rat :=
  (ts.map fun t => if late then t.q.get x else (t.chg.get x).dq).sum
/-- Ticks as one interval of a string (R194, R198). -/
def intervalOf (s : State) (x : Ix) (late : Bool) (ts : List PendTick) : Interval :=
  let dt := fsec ((ts.map (·.len)).sum)
  let dq := fq (chargeIn x late ts)
  { ticks := ts.length, dt := dt, dq := dq, eq := fq ((ts.map fun t => (t.chg.get x).eq).sum), i := div dq dt,
    tin := inletTemp s x (((ts.getLast?).map (·.at_)).getD 0 / 128) }
/-- Ticks by the cycle they lie in. -/
def byCycle (ts : List PendTick) : List (List PendTick) := ts.splitBy fun a b => a.at_ / 128 == b.at_ / 128

/-- One cell over ticks of a string of `n` cells, taken as one interval. X_c at the end of each cycle within them, with the means of y, comes from
the ticks up to it (R199, R200; DEDUCED, log 149). -/
def carryCell (s : State) (x : Ix) (late : Bool) (st : StrEst) (n : Nat) (ts : List PendTick) (e : CellEst) : CellEst :=
  let go (a : CellEst) (l : List PendTick) : CellEst :=
    let q := balCharge s x e l
    let cyc := ((l.getLast?).map (·.at_)).getD 0 / 128
    let a := { propagateCell s a st.c st.r n (intervalOf s x late l) q with qb := addCycle add a.qb cyc q }
    if (l.getLast?).any fun t => t.at_ % 128 == 127 then latchCell cyc a else a
  let side := (byCycle ts).foldl go e
  if (byCycle ts).length ≤ 1 then side
  else
    let whole := propagateCell s e st.c st.r n (intervalOf s x late ts) (balCharge s x e ts)
    { side with x := whole.x, cov := whole.cov }

/-- One string carried over ticks taken as one interval (R194 to R204); `late` where they were pending (R198). -/
def propagateString (s : State) (x : Ix) (late : Bool) (ts : List PendTick) : State :=
  let now := s.est.str.get x
  match ts.getLast? with
  | none => s
  | some last =>
    if !now.init || !strEnabled s x then s
    else
      let st := now.capsAt last.at_
      let dqR := chargeIn x late ts
      let cyc := last.at_ / 128
      let bad := (ts.filter fun t => (t.chg.get x).interrupted).map (·.at_)
      let w := intervalOf s x late ts
      let n := nPop s x
      let st' := dischargeStep last.up st dqR
      let one (p : CellEst × F32) : CellEst :=
        let e := p.1
        let e' := carryCell s x late st n ts e
        let dsc := div (mul (fq 100) (sub w.dq (balCharge s x e ts))) (cellCoul e st.c)
        { e' with sr := moveReported s st'.discharging e.sr e'.x.s dsc w.dt, kappa := p.2 }
      let st' := withStringSoc { st' with
        c := now.c, cells := (st.cells.zip (now.cells.map (·.kappa))).map one,
        prior := now.prior.filter fun p => decide (last.at_ < p.at_) }
      let dss := div (mul (fq 100) w.dq) (mul (fq 3600) st.c)
      let st' := { st' with
        sR := moveReported s st'.discharging st.sR st'.sI dss w.dt,
        qCyc := (byCycle ts).foldl (fun q (l : List PendTick) => addCycle (· + ·) q (((l.getLast?).map (fun (t : PendTick) => t.at_)).getD 0 / 128) (chargeIn x late l)) st.qCyc,
        qRest := st.qRest.map (· + dqR),
        intTicks := (bad.reverse ++ st.intTicks).filter fun t => decide (cyc ≤ t / 128 + 4),
        learn := st.learn.map fun (l : LearnState) => if l.disq then l else { l with q := l.q + dqR } }
      let st' := { st' with u := uOf s st' }
      let s := modStr s x fun _ => st'
      let s := match bad with
        | [] => s
        | t :: _ => disqualify s x 3 t 0 0
      if (car s x).compat then s
      else
        let p := tickExtremes s x
        earlyWarnings s x ts.length p.1 p.2

/-- TICK_PROPAGATION (R196, R198): ticks that are pending are taken together as one interval; the tick whose following tick is in progress is
taken by itself. -/
def execTickPropagation (s : State) : Host.Outcome State Fault Refusal :=
  .next (
    if !drives s || !s.est.began then s
    else match s.est.pend.getLast? with
      | none => s
      | some last =>
        let old := s.est.pend.dropLast
        let both (s : State) (late : Bool) (ts : List PendTick) : State := propagateString (propagateString s .zero late ts) .one late ts
        let s := { s with est := { s.est with pend := [] } }
        both (both s true old) false [last])

/-- DISCHARGE_STOP (R203). -/
def execDischargeStop (string : Ix) (s : State) : Host.Outcome State Fault Refusal :=
  .next (
    let st := s.est.str.get string
    if drives s && st.discharging && st.aboveAt.any (fun u => passed s u (sec 1)) then
      modStr s string fun st => { st with discharging := false, sHi := st.count, aboveAt := none }
    else s)

/-- LEARNING_DURATION_EXPIRY (R211): 72 h since the anchor. -/
def execLearningDurationExpiry (string : Ix) (s : State) : Host.Outcome State Fault Refusal :=
  .next (
    match (s.est.str.get string).learn with
    | some l => if drives s && passed s l.anchorUp (sec 259200) then disqualify s string 6 s.grid.now 0 (fq 72) else s
    | none => s)

/-- REFERENCE_STARVED (R215): 48 h since the last reference, or since seeding. -/
def execReferenceStarved (string : Ix) (s : State) : Host.Outcome State Fault Refusal :=
  .next (
    let st := s.est.str.get string
    if drives s && st.seeded && !st.starved && decide (172800 ≤ sinceRef s st) then
      let s := modStr s string fun st => { st with starved := true, u48 := st.u }
      raise s 164 (ux string ++ fb (fq (sinceRef s st / 3600)) ++ fb st.u ++ ub true)
    else s)

/-! ### The frame update -/

/-- One cell initialised from its record (R216): what the spec leaves open of the start (temperature, variances, a cell not VALID) is free. -/
def initCell (s : State) (chan : Nat × Nat) (f : CellFrame) : CellEst :=
  let t := F32.clamp (Config.unstated 5 (f.therm.getD 0)) (fq (-50)) (fq 150)
  let soc := match f.out 2 with
    | some v => ocvInv s v t
    | none => if f.state = .valid then ocvInv s f.v t else Config.unstated 1 0
  let x := clampX s { s := soc, v1 := 0, v2 := 0, h := 0, t := t }
  { chan := chan, x := x, kappa := F32.one, sr := F32.clamp x.s 0 (fq 100), vLast := if f.state = .valid then f.v else 0,
    cov := mDiag [fsq (fq (parN s 0x0725)), Config.unstated 2 0, Config.unstated 2 F32.one, Config.unstated 3 0, Config.unstated 4 0] }

/-- The physical channel of a string cell. -/
def chanOf (s : State) (x : Ix) (f : CellFrame) : Nat × Nat := (((unitAt s x f.unit).map (·.serial)).getD 0, f.idx)

/-- A string that starts unseeded (R216). -/
def initString (s : State) (x : Ix) (fr : StrFrame) : State :=
  let st : StrEst := withStringSoc
    { cells := fr.cells.map fun f => initCell s (chanOf s x f) f, init := true, c := parF s (0x0701 + x.num),
      r := fq (parN s (0x0726 + x.num)), varR := Config.unstated 7 0 }
  let s := modStr s x fun _ => { st with sR := st.sI, u := maxSigma st }
  modCar s x fun r => { r with changed := false }

/-- The channel set of a string has changed: estimates are kept, dropped or initialised by physical channel (R503). -/
def channelChange (s : State) (x : Ix) (fr : StrFrame) : State :=
  let st := s.est.str.get x
  let cells := fr.cells.map fun f =>
    let ch := chanOf s x f
    (st.cells.find? fun e => e.chan == ch).getD (initCell s ch f)
  let s := modStr s x fun st => withStringSoc { st with cells := cells, learned := none, prior := none, reseed := st.seeded && cells.any fun e => !e.seeded }
  let s := modCar s x fun r => { r with changed := false }
  disqualify s x 5 s.grid.now 0 0

/-- The values a rest reference would take for a cell: S_ref, and the OCV slope there in mV per % (R208). -/
def refOf (s : State) (e : CellEst) (f : CellFrame) (frame : Nat) : F32 × F32 :=
  let x := ((e.snaps.find? fun k => k.frame == frame).map (·.x)).getD e.x
  let r := ocvInv s (sub f.v (div x.h (fq 1000))) x.t
  (r, mul (ocvSlope s r x.t) (fq 1000))

/-- A cell's VMEAN has changed by at most REST_DV_UV over the last 600 s (R208, R234). -/
def steady (s : State) (e : CellEst) (f : CellFrame) : Bool :=
  let l := f.code :: (e.vHist.filter fun p => !passed s p.1 (sec 600)).map (·.2)
  let hi := l.foldl max 0
  let lo := l.foldl min f.code
  passed s e.dvFrom (sec 600) && decide (5 * (hi - lo) ≤ parN s 0x0705)

/-- The rest of a string after a frame (R207). -/
def restStep (s : State) (x : Ix) (fr : StrFrame) : State :=
  let i := parR s 0x0703
  let quiet := match fr.cur with
    | some c => decide (absR (F32.toRat c) ≤ i) && decide (F32.toRat fr.curPeak ≤ 4 * i)
    | none => false
  let len := ((cycleTicks s fr.frame).map (·.len)).sum
  modStr s x fun st =>
    let bad := st.intTicks.any fun t => t / 128 == fr.frame
    if !quiet then { st with restUp := none, restTaken := false, restBroken := false }
    else match st.restUp with
      | none => { st with restUp := some (s.elec.uptime - len), restTaken := false, restBroken := bad }
      | some _ => { st with restBroken := st.restBroken || bad }

/-- Every populated cell of the frame is VALID. -/
def allValid (fr : StrFrame) : Bool := !fr.cells.isEmpty && fr.cells.all fun f => f.state == .valid

/-- A qualified rest reference is taken in this frame (R208). -/
def qualified (s : State) (x : Ix) (fr : StrFrame) : Bool :=
  let st := s.est.str.get x
  s.est.seed && st.restUp.any (fun u => passed s u (sec (parN s 0x0704))) && !st.restTaken && !st.restBroken && allValid fr &&
    st.cells.length == fr.cells.length && (st.cells.zip fr.cells).all fun (e, f) =>
      steady s e f && F32.le (parF s 0x0706) (refOf s e f fr.frame).2

/-- What the engine keeps of a cell's record of a frame (R194, R197, R208, R211); the frame-end states up to that frame are done with. -/
def noteCell (s : State) (frame : Nat) (e : CellEst) (f : CellFrame) : CellEst :=
  let valid := decide (f.state = .valid)
  { e with
    ro := match f.out 6 with | some v => some v | none => e.ro,
    vLast := if valid then f.v else e.vLast,
    vHist := if valid then ((s.elec.uptime, f.code) :: e.vHist).filter fun p => !passed s p.1 (sec 600) else e.vHist,
    onModel := !valid, missed := if valid then e.missed else e.missed + 1,
    snaps := e.snaps.filter fun k => decide (frame < k.frame) }

/-- The frame's correction of every cell, and what the engine keeps of the frame (R197, R199, R200). -/
def correctString (s : State) (x : Ix) (fr : StrFrame) (ref : Bool) : State :=
  let st := s.est.str.get x
  let one (p : CellEst × CellFrame) : CellEst :=
    let (e, f) := p
    let e := match e.snaps.find? fun k => k.frame == fr.frame with
      | some k => carry s e k (correct s { cell := f, ref := ref } k)
      | none => e
    -- half of the charge of a cycle in which the unit had stopped is added back (R197)
    let q := ((e.qb.find? fun p => p.1 == fr.frame).map (·.2)).getD 0
    let e := if f.balStopped && F32.lt 0 q then
        let half := div q (fq 2)
        let d := div (mul (fq 100) half) (cellCoul e st.c)
        { e with
          x := clampX s { e.x with s := add e.x.s d }, qbLearn := sub e.qbLearn half,
          cov := mMk fun i j => if i = 0 ∧ j = 0 then add (mAt e.cov 0 0) (fsq d) else mAt e.cov i j }
      else e
    noteCell s fr.frame e f
  modStr s x fun st => { st with cells := (st.cells.zip fr.cells).map one }

/-- R_str after a frame (R201). -/
def updateR (s : State) (x : Ix) (fr : StrFrame) : State :=
  let n := fr.cells.length
  let vs := fr.cells.filterMap fun f => f.out 6
  modStr s x fun st =>
    let p := add st.varR (fsq (mul (fq (1 / 1000)) st.r))
    if s.fus.model.isNone || vs.isEmpty || decide (2 * vs.length < n) then { st with varR := p }
    else
      let z := mul (div (fq n) (fq vs.length)) (fsum vs)
      let v := fsq (mul (fq (5 / 100)) z)
      let t := add p v
      let k := if F32.le t 0 then Config.unstated 8 p else div p t
      { st with r := F32.clamp (add st.r (mul k (sub z st.r))) (fq (1 / 10)) (fq 10000), varR := mul (sub F32.one k) p }

/-- A reference becomes the anchor (R210); the sums start with its frame (R212). -/
def setAnchor (s : State) (x : Ix) (fr : StrFrame) (refs : List F32) : State :=
  modStr s x fun st =>
    { st with
      cells := (st.cells.zip refs).map fun (e, r) =>
        { e with sRef := some r, missed := 0, qbLearn := fsum ((e.qb.filter fun p => decide (fr.frame ≤ p.1)).map (·.2)) },
      learn := some { anchor := fr.frame, anchorUp := s.elec.uptime, disq := false,
                      q := ((st.qCyc.filter fun p => decide (fr.frame ≤ p.1)).map (·.2)).sum } }

/-- A learning cycle evaluated at its closing reference (R212, R213): the result takes effect at the next tick boundary, C within its held range
of Table 7-1 and each κ at least 1 (R193). -/
def evaluateLearning (s : State) (x : Ix) (fr : StrFrame) (l : LearnState) (refs : List F32) : State :=
  let st := s.est.str.get x
  let q := l.q - ((st.qCyc.filter fun p => decide (fr.frame < p.1)).map (·.2)).sum
  let meas := (st.cells.zip refs).map fun (e, r) =>
    let qb := sub e.qbLearn (fsum ((e.qb.filter fun p => decide (fr.frame < p.1)).map (·.2)))
    div (div (sub (fq q) qb) (fq 3600)) (div (sub r (e.sRef.getD 0)) (fq 100))
  let olds := st.cells.map fun e => mul e.kappa st.c
  let wild := (meas.zip olds).findIdx? fun (m, o) => F32.lt m (mul (fq (1 / 2)) o) || F32.lt (mul (fq (6 / 5)) o) m || F32.isNaN m
  match wild with
  | some i => raise s 166 (ux x ++ u8 7 ++ ustamp (stampOf s.grid.now) ++ u16 (i + 1) ++ fb (meas.getD i 0))
  | none =>
    let news := (meas.zip olds).map fun (m, o) =>
      let b := mul (fq (2 / 100)) o
      add o (F32.clamp (sub m o) (F32.negate b) b)
    let held := ((meas.zip olds).filter fun (m, o) => F32.lt (mul (fq (2 / 100)) o) (F32.abs (sub m o))).length
    let least := fmin st.c news
    let c := F32.clamp least (fq 10) (fq 2000)
    let who := (news.findIdx? fun n => n == least).getD 0
    let s := modStr s x fun st =>
      { st with learned := some { at_ := s.grid.now + 1, c := c, kappas := news.map fun n => F32.maxOf F32.one (div n c) } }
    raise s 165 (ux x ++ fb st.c ++ fb (fmin 0 meas) ++ fb c ++ u16 (who + 1) ++ u16 held)

/-- What a qualified reference does (R209, R210). -/
def takeReference (s : State) (x : Ix) (fr : StrFrame) (refs : List (F32 × F32)) : State :=
  let st := s.est.str.get x
  let hours := sinceRef s st / 3600
  let was := st.starved
  let s := modStr s x fun st =>
    { st with restTaken := true, lastRef := fr.frame, refUp := some s.elec.uptime, starved := false,
              qRest := some ((st.qCyc.filter fun p => decide (fr.frame ≤ p.1)).map (·.2)).sum }
  let s := modStr s x fun st => { st with u := uOf s st }
  let s := raiseIf s was 164 (ux x ++ fb (fq hours) ++ fb (s.est.str.get x).u ++ ub false)
  let s := raise s 171 (ux x ++ u48 fr.frame ++ fb (fmin 0 (refs.map (·.2))))
  let rs := refs.map (·.1)
  match st.learn with
  | none => setAnchor s x fr rs
  | some l =>
    if l.disq then setAnchor s x fr rs
    else if (st.cells.zip rs).all fun (e, r) => F32.le (fq 40) (F32.abs (sub r (e.sRef.getD r))) then
      setAnchor (evaluateLearning s x fr l rs) x fr rs
    else s

/-- The conditions of Table 7-4 judged at each frame (R211). -/
def judgeFrame (s : State) (x : Ix) (fr : StrFrame) : State :=
  let st := s.est.str.get x
  let s := match fr.cur with
    | some c => if F32.lt st.c (F32.abs c) then disqualify s x 2 s.grid.now 0 c else s
    | none => s
  match st.cells.findIdx? fun e => decide (8 < e.missed) with
  | some i => disqualify s x 4 s.grid.now (i + 1) (fq ((st.cells[i]?.map (·.missed)).getD 0))
  | none => s
/-- The conditions of Table 7-4 judged after a frame update (R211). -/
def judgeLearning (s : State) (x : Ix) (fr : StrFrame) : State :=
  let st := s.est.str.get x
  let hot := st.cells.findIdx? fun e => F32.lt e.x.t (fq 10) || F32.lt (fq 45) e.x.t
  let s := match hot with
    | some i => disqualify s x 1 s.grid.now (i + 1) ((st.cells[i]?.map (·.x.t)).getD 0)
    | none => s
  judgeFrame s x fr
/-- A frame whose correction is abandoned is still judged: the rest, the readings it brought, and the open learning cycle (R199, R207, R208,
R211; DEDUCED, log 150). -/
def abandonFrame (s : State) (x : Ix) : State :=
  match s.fus.frames.get x with
  | none => s
  | some fr =>
    if !(s.est.str.get x).init || (s.est.str.get x).cells.length != fr.cells.length then s
    else
      let s := restStep s x fr
      let s := modStr s x fun st => { st with cells := List.zipWith (noteCell s fr.frame) st.cells fr.cells }
      judgeFrame s x fr

/-- One cell seeded from its rest voltage (R217). -/
def seedCell (s : State) (e : CellEst) (f : CellFrame) : CellEst :=
  let soc := ocvInv s f.v e.x.t
  let slope := F32.maxOf (mul (ocvSlope s soc e.x.t) (fq 1000)) (fq (1 / 10))
  let sig := F32.minOf (div (parF s 0x0707) slope) (fq (parN s 0x0725))
  let x := clampX s { e.x with s := soc, v1 := 0, v2 := 0, h := 0 }
  { e with
    x := x, seeded := true, sr := F32.clamp x.s 0 (fq 100),
    cov := mMk fun i j => if i = 0 ∧ j = 0 then fsq sig else if i = 0 ∨ j = 0 then 0 else mAt e.cov i j }

/-- Seeding of a string, or of the cells that await it alone (R217, R503). -/
def seedString (s : State) (x : Ix) (fr : StrFrame) : State :=
  let st := s.est.str.get x
  let due := st.restUp.any (fun u => passed s u (sec 1800)) && allValid fr && !st.cells.isEmpty
  if !due || (st.seeded && !st.reseed) then s
  else if st.seeded then
    modStr s x fun st => withStringSoc
      { st with reseed := false, cells := (st.cells.zip fr.cells).map fun (e, f) => if e.seeded then e else seedCell s e f }
  else
    let st := withStringSoc { st with
      seeded := true, seedUp := s.elec.uptime, cells := (st.cells.zip fr.cells).map fun (e, f) => seedCell s e f }
    let s := modStr s x fun _ => { st with sR := st.sI, u := maxSigma st }
    if !s.est.seed && (enabledStrings s).all fun y => (s.est.str.get y).seeded then
      let s := setSeed { s with elec := { s.elec with step := if s.elec.step = 10 then 11 else s.elec.step } } true
      raise s 167 (ux x ++ u48 fr.frame ++ fb (maxSigma st))
    else s

/-- The extremes of VMEAN in a frame, for a compatibility ring (R206). -/
def frameExtremes (fr : StrFrame) : Option (Rat × Nat) × Option (Rat × Nat) :=
  let l := (fr.cells.zipIdx.filter fun p => p.1.state == .valid).map fun p => ((p.1.code : Rat) / 200, p.2 + 1)
  match l with
  | [] => (none, none)
  | a :: r =>
    (some (r.foldl (fun m p => if m.1 < p.1 then p else m) a), some (r.foldl (fun m p => if p.1 < m.1 then p else m) a))

/-- The frame update of one string (R199 to R217). -/
def updateString (s : State) (x : Ix) : State :=
  match s.fus.frames.get x with
  | none => s
  | some fr =>
    if fr.frame ≠ s.fus.lastFrame then s
    else if !(s.est.str.get x).init then initString s x fr
    else
      let s := if (car s x).changed || (s.est.str.get x).cells.length != fr.cells.length then channelChange s x fr else s
      let s := restStep s x fr
      let ref := qualified s x fr
      let refs := ((s.est.str.get x).cells.zip fr.cells).map fun (e, f) => refOf s e f fr.frame
      let s := updateR (correctString s x fr ref) x fr
      let s := if ref then takeReference s x fr refs else s
      let s := judgeLearning s x fr
      let s := seedString s x fr
      let s := modStr s x fun st => let st := withStringSoc st; { st with u := uOf s st }
      if (car s x).compat then
        let p := frameExtremes fr
        earlyWarnings s x 1 p.1 p.2
      else s

end Sys2Proof.Machine
end

