-- ==== Sys2Proof/Machine/Streams.lean ====
section
/-! DEFINITION. The streams' shared operations: records that wait, buffers that fill, close and are written, descriptor fetches, and the
dropping of records (R404 to R408). -/

namespace Sys2Proof.Machine

open Sys2Proof

/-- One stream of a port. -/
def strm (s : State) (p : Ix) (m : Nat) : StreamState14 := ((s.host.port.get p).streams[m]?).getD {}
/-- Changing one stream of a port. -/
def modStrm (s : State) (p : Ix) (m : Nat) (f : StreamState14 → StreamState14) : State :=
  modPort s p fun q => { q with streams := modAt q.streams m f }
/-- The stream takes data: its port is up and it is open and not stopped. -/
def strmRuns (s : State) (p : Ix) (m : Nat) : Bool := portUp s p && (strm s p m).isOpen && !(strm s p m).stopped

/-- The bytes of a closed buffer, header first (R405). -/
def bufBytes (m : Nat) (b : StreamBuf) (seq : Nat) : List Byte :=
  let head := u32 0x5354524D ++ u8 m ++ u8 1 ++ u16 b.desc.tag ++ u64 seq ++ ustamp b.first ++ u32 (64 + b.body.length) ++ u32 b.lost ++
    u32 (crc32c b.body) ++ List.replicate 20 0
  head ++ u64 (seq ^^^ 0x3C3C3C3C3C3C3C3C) ++ b.body

/-- The VALID field's place in a buffer (R220, R405). -/
def validAt (m : Nat) : Nat := if m = 1 then 0xA8F8 else 56
/-- The first step of the write of the buffer at the front: 8 zero bytes over VALID (R220, R221, R405). -/
def openWrite (s : State) (p : Ix) (m : Nat) : State :=
  match (strm s p m).writing with
  | [] => s
  | (a, _, _) :: _ => emit s (.dma p (a + validAt m) (List.replicate 8 0))
/-- Priority of a stream (Table 14-7). -/
def streamRank (m : Nat) : Nat := match m with | 1 => 1 | 0 => 2 | 2 => 3 | 3 => 4 | _ => 5
/-- A stream of better priority has a write under way, which the port serves first (R45, R409). -/
def outranked (s : State) (p : Ix) (m : Nat) : Bool :=
  (List.range 5).any fun k => decide (streamRank k < streamRank m) && !(strm s p k).writing.isEmpty

/-- Closing the buffer in hand: its write begins, and the next buffer takes the next SEQ (R405). -/
def closeBuf (s : State) (p : Ix) (m : Nat) : State :=
  match (strm s p m).buf with
  | none => s
  | some b =>
    let idle := (strm s p m).writing.isEmpty
    let s := modStrm s p m fun t =>
      { t with buf := none, seq := t.seq + 1, writing := t.writing ++ [(b.desc.addr, bufBytes m b t.seq, b.desc.raise)] }
    if idle then openWrite s p m else s

/-- Asking for the next descriptor where one has been handed over, no buffer is in hand and no fetch is outstanding (R404). -/
def fetchNext (s : State) (p : Ix) (m : Nat) : State :=
  let t := strm s p m
  if strmRuns s p m && t.buf.isNone && t.fetch.isNone && t.head != t.tail && m != 1 && decide (0 < t.entries) then
    emit (modStrm s p m fun t => { t with fetch := some 0 }) (.fetch p m (t.addr + 16 * (t.head % t.entries)))
  else s

/-- The oldest waiting record goes into the buffer in hand; one that does not fit closes the buffer, and a buffer too short for one record is
retired with LOST = 1 (R405). A SNAPSHOT buffer closes after each record. -/
def takeRecord (s : State) (p : Ix) (m : Nat) : State :=
  let t := strm s p m
  match t.buf, t.waiting with
  | some b, (at_, r) :: rest =>
    if 64 + b.body.length + r.length ≤ b.desc.len then
      let s := modStrm s p m fun t =>
        { t with waiting := rest, buf := some { b with body := b.body ++ r, first := if b.body.isEmpty then at_ else b.first } }
      let s := if m = 2 ∧ b.body.isEmpty = true then modPort s p fun q => { q with rxCycle := some (curCycle s) } else s
      if m = 0 ∨ b.desc.len < 64 + b.body.length + r.length + 1 then closeBuf s p m else s
    else if b.body.isEmpty then
      closeBuf (modStrm s p m fun t =>
        { t with waiting := rest, lost := t.lost + 1, buf := some { b with lost := 1, first := at_ } }) p m
    else closeBuf s p m
  | _, _ => s

/-- Records go into buffers as long as a buffer is in hand. -/
def pump (p : Ix) (m : Nat) : Nat → State → State
  | 0, s => fetchNext s p m
  | n + 1, s =>
    if (strm s p m).buf.isSome && !(strm s p m).waiting.isEmpty then pump p m n (takeRecord s p m) else fetchNext s p m

/-- A stream with data to write and no descriptor waits from now, or as it did already (R408). -/
def noteNeed (s : State) (p : Ix) (m : Nat) : State :=
  let data := !(strm s p m).waiting.isEmpty || (m == 3 && (s.host.port.get p).dump.any fun d => !d.left.isEmpty)
  modStrm s p m fun t => { t with needUp := if data && t.buf.isNone then some (t.needUp.getD s.elec.uptime) else none }

/-- Moving every record that can move. -/
def pumpAll (s : State) (p : Ix) (m : Nat) : State := noteNeed (pump p m (2 * (strm s p m).waiting.length + 1) s) p m

/-- Dropping the oldest waiting record: LOST, STARVED and EV 053, at most once per second (R408). -/
def dropOldest (s : State) (p : Ix) (m : Nat) : State :=
  if (strm s p m).waiting.isEmpty then s
  else
    let s := modStrm s p m fun t =>
      { t with waiting := t.waiting.drop 1, lost := t.lost + 1, lostNow := t.lostNow + 1, starved := true }
    let key := 8 * p.num + m
    let fresh := match KV.get? s.ev.rate (53, key) with
      | some u => passed s u (sec 1)
      | none => true
    if fresh then
      raise { s with ev := { s.ev with rate := KV.put s.ev.rate (53, key) s.elec.uptime } } 53 (ux p ++ u8 m ++ u16 (sat 0xFFFF (strm s p m).lost))
    else s

/-- Records that may wait: 64 snapshot records and 4,096 CAN records per port (R408). -/
def waitLimit (m : Nat) : Option Nat := if m = 0 then some 64 else if m = 2 then some 4096 else none

/-- A record for a stream of a port. -/
def deliver (s : State) (p : Ix) (m : Nat) (at_ : Stamp) (r : List Byte) : State :=
  if !strmRuns s p m then s
  else
    let s := if (waitLimit m).any (fun n => decide (n ≤ (strm s p m).waiting.length)) then dropOldest s p m else s
    pumpAll (modStrm s p m fun t => { t with waiting := t.waiting ++ [(at_, r)] }) p m
/-- A record for a stream of both ports. -/
def deliverBoth (s : State) (m : Nat) (at_ : Stamp) (r : List Byte) : State := deliver (deliver s .zero m at_ r) .one m at_ r

end Sys2Proof.Machine
end

