-- ==== Sys2Proof/Machine/StateRecord.lean ====
section
/-! DEFINITION. State records: their layout, capture and writing, the checks of an offered record, and restores after a restart and at a
takeover (R218 to R226, R348, R357). -/

namespace Sys2Proof.Machine

open Sys2Proof
open Sys2Proof.F32 (add sub mul div)

/-- A value with its complement, little-endian (R219). -/
def pairBytes (n v : Nat) : List Byte := leBytes n v ++ leBytes n (complement n v)
/-- Zero bytes. -/
def zeros (n : Nat) : List Byte := List.replicate n 0

/-- GEN of a unit as IDENT gives it (Table 3-3). -/
def genByte (u : UnitState) : Byte := if u.gen16 then 0x16 else 0x12
/-- BINDING: the first 8 bytes of SHA-512 over the unit tables (Table 7-7). -/
def binding (s : State) : List Byte :=
  let tab (x : Ix) : List Byte := (car s x).units.flatMap fun u => [toByte u.addr, genByte u] ++ leBytes 8 u.serial
  (Crypto.sha512 (tab .zero ++ tab .one)).take 8
/-- FLAGS of the record header (Table 7-7). -/
def recordFlagBits (s : State) : Nat :=
  bit s.est.seed + 2 * bit (dualStrings s) + 4 * bit (car s .zero).compat + 8 * bit (car s .one).compat
/-- String block (Table 7-8). -/
def stringBlock (s : State) (x : Ix) : List Byte :=
  let st := s.est.str.get x
  if !strEnabled s x then
    pairBytes 4 0 ++ pairBytes 4 0 ++ pairBytes 2 0 ++ zeros 24 ++ leBytes 4 (complement 4 0) ++ zeros 16
  else
    pairBytes 4 st.c.toNat ++ pairBytes 4 st.r.toNat ++ pairBytes 2 (socCode st.sR) ++ fb st.sI ++ fb st.u ++ u48 st.lastRef ++
      u16 (1 + 2 * bit st.seeded + 4 * bit st.discharging + 8 * bit st.starved) ++ fb st.u48 ++ fb st.varR ++
      leBytes 4 (complement 4 st.sI.toNat) ++ zeros 16
/-- Cell block of an unpopulated channel. -/
def emptyCell : List Byte := pairBytes 4 0 ++ pairBytes 2 0 ++ pairBytes 4 0 ++ zeros 28
/-- Cell block (Table 7-9). -/
def cellBlock (e : CellEst) : List Byte :=
  pairBytes 4 e.x.s.toNat ++ pairBytes 2 (socCode e.sr) ++ pairBytes 4 e.kappa.toNat ++ fb e.x.v1 ++ fb e.x.v2 ++ fb e.x.h ++ fb e.x.t ++
    fb (mAt e.cov 0 0) ++ fb (mAt e.cov 4 4) ++ u16 (1 + 2 * bit e.seeded + 4 * bit e.onModel) ++ zeros 2
/-- The 448 cell blocks of a string (Table 7-6). -/
def cellBlocks (s : State) (x : Ix) : List Byte :=
  let cs := if strEnabled s x then ((s.est.str.get x).cells.take 448).map cellBlock else []
  cs.flatten ++ (List.replicate (448 - cs.length) emptyCell).flatten
/-- A state record (Tables 7-6 to 7-10). -/
def buildRecord (s : State) (seq cycle : Nat) : List Byte :=
  let head := u32 0x45535452 ++ u16 1 ++ u16 (recordFlagBits s) ++ pairBytes 8 seq ++ u48 cycle ++ u16 (treePosition s) ++ binding s ++
    u16 (nPop s .zero) ++ u16 (nPop s .one) ++ zeros 20
  let body := head ++ stringBlock s .zero ++ stringBlock s .one ++ cellBlocks s .zero ++ cellBlocks s .one
  body ++ u32 (crc32c body) ++ zeros 52 ++ u64 (seq ^^^ 0x5A5A5A5A5A5A5A5A)

/-- SEQ of a record. -/
def recSeq (b : List Byte) : Nat := leAt b 8 8
/-- CYCLE of a record. -/
def recCycle (b : List Byte) : Nat := leAt b 24 6
/-- VALID matches SEQ and the CRC holds. -/
def recIntact (b : List Byte) : Bool :=
  leAt b 0xA8F8 8 == (recSeq b ^^^ 0x5A5A5A5A5A5A5A5A) && leAt b 0xA8C0 4 == crc32c (b.take 0xA8C0)
/-- A field agrees with its complement. -/
def agrees (b : List Byte) (off cOff n : Nat) : Bool := leAt b cOff n == complement n (leAt b off n)
/-- Offset of a string block. -/
def strOff (x : Ix) : Nat := 0x40 + 0x40 * x.num
/-- Offset of the block of a string cell, from 0. -/
def cellOff (x : Ix) (i : Nat) : Nat := 0xC0 + 48 * (448 * x.num + i)
/-- Every complement of a record agrees (R219, R223). -/
def complementsOk (b : List Byte) : Bool :=
  agrees b 8 16 8 &&
  [Ix.zero, Ix.one].all fun x =>
    let o := strOff x
    agrees b o (o + 4) 4 && agrees b (o + 8) (o + 12) 4 && agrees b (o + 16) (o + 18) 2 && agrees b (o + 20) (o + 44) 4 &&
    (List.range 448).all fun i =>
      let c := cellOff x i
      agrees b c (c + 4) 4 && agrees b (c + 8) (c + 10) 2 && agrees b (c + 12) (c + 16) 4
/-- A binary32 value lies in a range. -/
def within (b : List Byte) (off : Nat) (lo hi : F32) : Bool := F32.le lo (f32At b off) && F32.le (f32At b off) hi
/-- Every state of a record lies in its held range (R223). -/
def rangesOk (s : State) (b : List Byte) : Bool :=
  (enabledStrings s).all fun x =>
    let o := strOff x
    let hm := fq (parN s 0x0735)
    within b o (fq 10) (fq 2000) && within b (o + 8) (fq (1 / 10)) (fq 10000) && decide (leAt b (o + 16) 2 ≤ 10000) &&
    (List.range (min 448 (nPop s x))).all fun i =>
      let c := cellOff x i
      within b c (fq (-5)) (fq 105) && decide (leAt b (c + 8) 2 ≤ 10000) && F32.le F32.one (f32At b (c + 12)) &&
        F32.isFinite (f32At b (c + 12)) && within b (c + 20) (fq (-500)) (fq 500) && within b (c + 24) (fq (-500)) (fq 500) &&
        within b (c + 28) (F32.negate hm) hm && within b (c + 32) (fq (-50)) (fq 150)
/-- The first reason of R223 for which a record is rejected: 1 FORMAT, 2 INTEGRITY, 3 COMPLEMENT, 4 BINDING, 5 POSITION, 6 MODES, 7 CYCLE,
8 RANGE. -/
def recordFault (s : State) (b : List Byte) : Option Nat :=
  if b.length ≠ 43264 ∨ leAt b 0 4 ≠ 0x45535452 ∨ leAt b 4 2 ≠ 1 then some 1
  else if !recIntact b then some 2
  else if !complementsOk b then some 3
  else if slice b 32 8 ≠ binding s then some 4
  else if leAt b 30 2 ≠ treePosition s then some 5
  else if leAt b 6 2 % 16 / 2 ≠ recordFlagBits s / 2 then some 6
  else if curCycle s < recCycle b then some 7
  else if !rangesOk s b then some 8
  else none

/-- Nominal frequency (R195). -/
def nominalHz (s : State) : Nat := parN s 0x0201
/-- Seconds between a cycle and the present one (R195). -/
def ageOf (s : State) (cycle : Nat) : Rat := ((curCycle s - cycle : Nat) : Rat) / nominalHz s

/-- One cell as a record gives it, aged by `age` seconds (R224). -/
def loadCell (s : State) (b : List Byte) (x : Ix) (i : Nat) (chan : Nat × Nat) (age : Option Rat) : CellEst :=
  let c := cellOff x i
  let f (o : Nat) : F32 := f32At b (c + o)
  let v := f 36
  let sig := fq (parN s 0x0725)
  let cap := fsq sig
  let (v, e1, e2) := match age with
    | some a =>
      (F32.minOf (add v (fsq (mul (parF s 0x070D) (fq a)))) cap, Math.exp32 (F32.negate (div (fq a) (parF s 0x0732))),
        Math.exp32 (F32.negate (div (fq a) (fq (parN s 0x0734)))))
    | none => (v, F32.one, F32.one)
  let fl := leAt b (c + 44) 2
  { chan := chan, x := { s := f 0, v1 := mul (f 20) e1, v2 := mul (f 24) e2, h := f 28, t := f 32 }, kappa := f 12,
    sr := fq ((leAt b (c + 8) 2 : Rat) / 100), seeded := testBit fl 1, onModel := testBit fl 2,
    cov := mDiag [v, Config.unstated 2 0, Config.unstated 2 F32.one, Config.unstated 3 0, f 40] }

/-- One string as a record gives it. -/
def loadString (s : State) (b : List Byte) (x : Ix) (age : Option Rat) : StrEst :=
  let o := strOff x
  let fl := leAt b (o + 34) 2
  let ref := leAt b (o + 28) 6
  let back (c : Nat) : Int := (s.elec.uptime : Int) - (ageOf s c * 8000000000).floor
  { cells := (strCells s x).zipIdx.map fun ((a, k), i) =>
      loadCell s b x i (((unitAt s x a).map (·.serial)).getD 0, k) age,
    init := true, c := f32At b o, r := f32At b (o + 8), varR := f32At b (o + 40), sI := f32At b (o + 20),
    sR := fq ((leAt b (o + 16) 2 : Rat) / 100), u := f32At b (o + 24), discharging := age.isNone && testBit fl 2, seeded := testBit fl 1,
    seedUp := s.elec.uptime, lastRef := ref, refUp := if ref = 0 then none else some (back ref), starved := testBit fl 3,
    u48 := f32At b (o + 36) }

/-- A record comes into force (R224, R225): source 1 host port, 2 peer link, 3 peer link restored by age. -/
def loadRecord (s : State) (b : List Byte) (age : Option Rat) (source : Nat) : State :=
  let put (s : State) (x : Ix) : State :=
    if strEnabled s x then
      modCar (modStr s x fun _ => let st := loadString s b x age; { st with u := uOf s st }) x fun r => { r with changed := false }
    else s
  let s := put (put s .zero) .one
  let s := setSeed { s with est := { s.est with restored := true, began := true, pend := [], maxSeq := max s.est.maxSeq (recSeq b) } }
    ((enabledStrings s).all fun x => (s.est.str.get x).seeded)
  raise s 169 (u64 (recSeq b) ++ u48 (recCycle b) ++ u8 source ++
    (if source = 3 then fb (fq (age.getD 0)) else []))

/-- STATE_OFFER (R223, R224, R50): a record is checked and restored at power-up step 9, or the host declares that it holds none. Once
estimation has begun, and on a module that is not active, the answer is STATE_LOCKED. -/
def execStateOffer (h : Hdr) (addr len : Nat) (data : List Byte) (s : State) : Host.Outcome State Fault Refusal :=
  .next (
    if !hostReady s h then s
    else
      let (id, s) := acceptLong s h 0x0040
      if s.est.began || !isActive s then endLong s id .stateLocked 0 []
      else
        let reject (s : State) (k seq : Nat) : State := endLong (raise s 170 (u8 k ++ u64 seq)) id .stateRejected k []
        if addr = 0 ∧ len = 0 then
          if s.elec.step = 9 then
            endLong { s with est := { s.est with declaredNone := true, began := true }, elec := { s.elec with step := 10 } } id .ok 0 []
          else endLong s id .ok 0 []
        else if s.elec.step ≠ 9 then reject s 4 (recSeq data)
        else match recordFault s data with
          | some k => reject s k (recSeq data)
          | none =>
            let s := loadRecord s data (some (ageOf s (recCycle data))) 1
            let s := { s with elec := { s.elec with step := if s.est.seed then 11 else 10 } }
            endLong s id .ok 0 (u64 (recSeq data) ++ u48 (recCycle data)))

/-! ### Capture (R218, R220) -/

/-- The peer link frames that carry a record (R348). -/
def recordFrames (buf : Nat) (b : List Byte) : List Out :=
  let f (off : Nat) (d : List Byte) : Out := .peer 0x32 (toByte buf :: beBytes 4 off ++ d)
  [f 0xA8F8 (zeros 8)] ++
    (List.range 22).map (fun k => f (2040 * k) (slice b (2040 * k) (min 2040 (0xA8F8 - 2040 * k)))) ++ [f 0xA8F8 (slice b 0xA8F8 8)]

/-- The outcome of a destination's last write at the next capture: abandoned writes are counted, EV 168 after 3 in a row and each further 60. -/
def settleDest (s : State) (d : Nat) : State :=
  if s.est.writing.contains d then
    let n := s.est.abandoned.getD d 0 + 1
    let s := { s with est := { s.est with
      abandoned := setAt s.est.abandoned d n, writing := s.est.writing.filter (· != d), dumpFault := true } }
    let s := if d < 2 then modStrm s (Ix.ofNum d) 1 fun t => { t with writing := [] } else s
    raiseIf s (n == 3 || (decide (3 < n) && (n - 3) % 60 == 0)) 168 (u8 (d + 1) ++ u16 (sat 0xFFFF n))
  else s
/-- A write to a destination is complete: the other buffer is next (R218, R220). -/
def destDone (s : State) (d : Nat) : State :=
  { s with est := { s.est with
    writing := s.est.writing.filter (· != d), abandoned := setAt s.est.abandoned d 0,
    nextBuf := setAt s.est.nextBuf d (1 - s.est.nextBuf.getD d 0) } }
/-- The write of a record to one destination begins. -/
def writeDest (s : State) (d : Nat) (b : List Byte) : State :=
  let buf := s.est.nextBuf.getD d 0
  let busy (s : State) : State := { s with est := { s.est with writing := s.est.writing ++ [d] } }
  if d = 2 then
    if !s.pair.present then s
    else if s.pair.linkUp then destDone (emits s (recordFrames buf b)) d else busy s
  else
    let p := Ix.ofNum d
    let t := strm s p 1
    if !strmRuns s p 1 then s
    else match t.fixed[buf]? with
      | none => s
      | some q => openWrite (busy (modStrm s p 1 fun t => { t with writing := [(q.addr, b, q.raise)] })) p 1

/-- STATE_RECORD_CAPTURE (R218): at tick 0 of the first cycle that begins at least 1 s after the previous capture. -/
def execStateRecordCapture (s : State) : Host.Outcome State Fault Refusal :=
  .next (
    let due := s.est.captured.isNone || passed s s.est.capturedUp (sec 1)
    if drives s && s.est.began && s.grid.on && curTick s == 0 && due then
      let s := [0, 1, 2].foldl settleDest s
      let seq := max s.est.maxSeq s.est.lastSeq + 1
      let s := { s with est := { s.est with
        captured := some (curCycle s), capturedUp := s.elec.uptime, lastSeq := seq, maxSeq := seq } }
      let b := buildRecord s seq (curCycle s)
      [0, 1, 2].foldl (fun s d => writeDest s d b) s
    else s)

/-! ### Takeover (R225, R357) -/

/-- A buffer's record. -/
def peerRecord (s : State) (k : Ix) : List Byte := Mem.readAll 0 (s.est.peerBuf.get k) 0 43264
/-- The newest valid record of the module's buffers that passes every check of R223. -/
def newestRecord (s : State) : Option (List Byte) :=
  let ok (b : List Byte) : Option (List Byte) := if (recordFault s b).isNone then some b else none
  match ok (peerRecord s .zero), ok (peerRecord s .one) with
  | some a, some b => some (if recSeq a < recSeq b then b else a)
  | some a, none => some a
  | none, r => r

/-- Every cell carried from the record's cycle to the newest of the module's own history, as one interval (R225). -/
def bridge (s : State) (x : Ix) (c0 : Nat) : State :=
  let f := s.front.fe.get x
  let st := s.est.str.get x
  match f.history.head?, f.history.find? (fun q => q.cycle == c0) with
  | some now, some old =>
    if now.cycle ≤ c0 then s
    else
      let n := 128 * (now.cycle - c0)
      let ts := s.front.hist.filter fun t => decide (128 * c0 ≤ t.at_) && decide (t.at_ < 128 * now.cycle)
      let len : Rat := if ts.length = n then ((ts.map (·.len)).sum : Nat) else n * s.grid.period
      let dt := fq (len / 8000000000)
      let dqR : Rat := ((now.q - old.q : Int) : Rat) / (2 ^ 32 * 1000000000)
      let gap := f.history.any fun q => q.gap && decide (c0 < q.cycle)
      let eq := if gap then 5 / 100 * absR dqR + 10 * parR s 0x0601 * (len / 8000000000) else 5 / 10000 * absR dqR + (n : Rat) / 1000000
      let w : Interval := { ticks := n, dt := dt, dq := fq dqR, eq := fq eq, i := div (fq dqR) dt, tin := inletTemp s x (curCycle s) }
      let one (e : CellEst) : CellEst :=
        let e' := propagateCell s e st.c st.r (nPop s x) w 0
        { e' with sr := moveReported s st.discharging e.sr e'.x.s (div (mul (fq 100) w.dq) (cellCoul e st.c)) dt, ySum := 0, yN := 0 }
      let st' := withStringSoc { st with cells := st.cells.map one }
      modStr s x fun _ =>
        { st' with sR := moveReported s st'.discharging st.sR st'.sI (div (mul (fq 100) w.dq) (mul (fq 3600) st.c)) dt }
  | _, _ => s

/-- The new active's restore (R225, R357): the newest valid record bridged by its own history, or aged where the history does not reach, or
none and the module runs unseeded. -/
def restoreTakeover (s : State) : State :=
  match newestRecord s with
  | none => { s with est := { s.est with began := true } }
  | some b =>
    let c := recCycle b
    let reach := (enabledStrings s).all fun x => (s.front.fe.get x).history.any fun q => q.cycle == c
    let s := { s with pair := { s.pair with recCycle := c } }
    if reach then
      let s := loadRecord s b none 2
      (enabledStrings s).foldl (fun s x => bridge s x c) s
    else loadRecord s b (some (ageOf s c)) 3

end Sys2Proof.Machine
end

