-- ==== Sys2Proof/Machine/Can.lean ====
section
/-! DEFINITION. The CAN FD buses (R363 to R392): rate detection, windows and their messages, ordinary messages, fault confinement, and the
host's messages. -/

namespace Sys2Proof.Machine

open Sys2Proof

/-- One bus. -/
def canBus (s : State) (b : Ix) : CanBus := s.can.bus.get b

/-! ### Frame lengths and windows (R370 to R372) -/

/-- Time of one data-phase bit of a candidate, ns (Table 13-3). -/
def candBit : Nat → Nat
  | 1 | 2 => 200
  | 3 => 250
  | 4 => 400
  | 5 | 6 => 500
  | 7 => 1000
  | _ => 2000
/-- D(n) of R371. -/
def canBits (n : Nat) : Nat :=
  let c := if n ≤ 16 then 17 else 21
  5 + 8 * n + ((21 + 8 * n) / 4 - 4) + 4 + c + (4 + c + 3) / 4
/-- T_frame(n) of R371 in ns with the data bit time given. -/
def canFrameNs (bitNs n : Nat) : Nat := 34 * 2000 + canBits n * bitNs
/-- The bound on a message's frame at the rate in force; a frame without BRS runs at the arbitration rate throughout. -/
def msgNs (cand : Nat) (m : CanMsg) : Nat := canFrameNs (if testBit m.format 1 then candBit cand else 2000) m.data.length

/-- One window record: KIND, INDEX, START, LEN, MASK (Table 13-4). -/
structure CanWin where
  kind : Nat
  index : Nat
  start : Nat
  len : Nat
  mask : Nat
  deriving DecidableEq, Repr

/-- Address of a window record. -/
def winAddr (b : Ix) (w : Nat) : Nat := 0x0D40 + 32 * b.num + w
/-- A window record from the value of its parameter. -/
def readWin (v : Nat) : CanWin :=
  let l := leBytes 8 v
  { kind := byteAt l 0, index := byteAt l 1, start := byteAt l 2, len := byteAt l 3, mask := byteAt l 4 }
/-- A window of a bus. -/
def canWin (s : State) (b : Ix) (w : Nat) : CanWin := readWin (parN s (winAddr b w))

/-- A window is long enough for what it carries, and a SETPOINT starts late enough, at a candidate, where a holding period has `h` ticks: 64 times
the slot length at 66.0 Hz is h times 118,371 ns (R372). -/
def winFits (h cand : Nat) (w : CanWin) : Bool :=
  let slot64 := h * 118371
  let t (n : Nat) : Nat := canFrameNs (candBit cand) n
  match w.kind with
  | 1 => decide (64 * (t 20 + 30000 + t 32 + 2000) ≤ w.len * slot64) && decide (64 * 29000 ≤ w.start * slot64)
  | 2 => decide (64 * (t 12 + 2000) ≤ w.len * slot64)
  | _ => true
/-- The first window of a bus that does not fit a candidate (R368). -/
def firstShort (s : State) (b : Ix) (cand : Nat) : Option Nat :=
  (List.range 32).find? fun w => !winFits (holdPeriod s) cand (canWin s b w)

/-- The check of R368 whenever a candidate comes into force or the windows change: WIN_SHORT and EV 233 at each change. -/
def checkWindows (s : State) (b : Ix) : State :=
  let c := canBus s b
  if c.rate = 0 then s
  else match firstShort s b c.rate with
    | some w =>
      if c.winShort then s
      else raise (modBus s b fun c => { c with winShort := true }) 233 (ux b ++ u8 c.rate ++ u8 w ++ ub true)
    | none =>
      if !c.winShort then s
      else raise (modBus s b fun c => { c with winShort := false }) 233 (ux b ++ u8 c.rate ++ u8 0 ++ ub false)

/-! ### Rate detection (R364, R366, R367) -/

/-- An active module whose bit rate is known takes a bus from listen-only to normal (Table 13-2). -/
def canActive (s : State) (b : Ix) : State :=
  let c := canBus s b
  if isActive s && c.st = .listenOnly && c.rate ≠ 0 && !c.detecting then setCan s b .normal 2 else s
/-- Both buses. -/
def canActiveBoth (s : State) : State := canActive (canActive s .zero) .one

/-- A candidate comes into force: detected, assumed, or fixed by the parameter (R366 to R368). -/
def adoptRate (s : State) (b : Ix) (cand : Nat) (assumed fixed : Bool) : State :=
  let s := modBus s b fun c =>
    { c with rate := cand, detecting := false, assumed := assumed, okRun := 0, okBrs := false, tried := 0,
             lastCand := if assumed || fixed then c.lastCand else cand }
  let s := if fixed then s else raise s 224 (ux b ++ u8 cand ++ ub (!assumed))
  canActive (checkWindows s b) b

/-- The candidate that CANn_RATE fixes; 0 for detection. -/
def fixedRate (s : State) (b : Ix) : Nat := parN s (0x0D01 + b.num)
/-- Detection begins, with the candidate last confirmed on the bus (R366). -/
def startDetect (s : State) (b : Ix) : State :=
  modBus s b fun c => { c with detecting := true, rate := 0, assumed := false, cand := c.lastCand, okRun := 0, okBrs := false, tried := 0,
                               candUp := s.elec.uptime, quietUp := s.elec.uptime, sweepHeard := false }
/-- A bus at the start of the firmware: the rate that the parameter fixes, or detection. -/
def canBegin (s : State) (b : Ix) : State :=
  if fixedRate s b = 0 then startDetect s b else adoptRate s b (fixedRate s b) false true

/-- The next candidate of the sweep, after a dwell or a receive error (R366). -/
def nextCandidate (s : State) (b : Ix) : State :=
  modBus s b fun c => { c with cand := c.cand % 8 + 1, okRun := 0, okBrs := false, tried := min 8 (c.tried + 1), candUp := s.elec.uptime }

/-- A frame free of error under the candidate on trial: the fourth in a row confirms it, one of them with BRS = 1; candidate 8 takes FD
frames with BRS = 0 (R366). -/
def detectFrame (s : State) (b : Ix) (f : CanFrame) : State :=
  let c := canBus s b
  if !c.detecting then s
  else
    let fits := if c.cand = 8 then f.fdf && !f.brs else true
    let run := if fits then c.okRun + 1 else 0
    let brs := c.okBrs || f.brs
    let s := modBus s b fun c => { c with okRun := run, okBrs := brs }
    if 4 ≤ run && (c.cand == 8 || brs) then adoptRate s b c.cand false false else s

/-! ### Fault confinement (R381 to R384) -/

/-- WARNING and the error-passive state follow the counters, with EV 226 and EV 227 (R381). -/
def judgeErrors (s : State) (b : Ix) : State :=
  let c := canBus s b
  let lim := parN s 0x0D09
  let warn := decide (lim ≤ c.tec) || decide (lim ≤ c.recv)
  let s := if warn = c.warning then s
    else raise (modBus s b fun c => { c with warning := warn }) 226 (ux b ++ u16 c.tec ++ u16 c.recv ++ ub warn)
  let passive := decide (127 < c.tec) || decide (127 < c.recv)
  if c.fc = .busOff || passive = (c.fc == .errorPassive) then s
  else
    raise (modBus s b fun c => { c with fc := if passive then .errorPassive else .errorActive }) 227
      (ux b ++ u16 c.tec ++ u16 c.recv ++ ub passive)

/-- A frame sent well lowers the transmit error counter by 1 (ISO 11898-1, PRESUMED). -/
def txGood (s : State) (b : Ix) : State := judgeErrors (modBus s b fun c => { c with tec := c.tec - 1 }) b
/-- A transmit error raises it by 8, but an acknowledgement error of an error-passive transmitter does not (R383). -/
def txBad (s : State) (b : Ix) (ack : Bool) : State :=
  judgeErrors (modBus s b fun c =>
    if ack && c.fc == .errorPassive then c else { c with tec := sat 255 (c.tec + 8) }) b
/-- A frame received well lowers the receive error counter by 1, or sets it to 127 from above (ISO 11898-1, PRESUMED). -/
def rxGood (s : State) (b : Ix) : State :=
  judgeErrors (modBus s b fun c => { c with recv := if 127 < c.recv then 127 else c.recv - 1 }) b
/-- A receive error raises it by 1. -/
def rxBad (s : State) (b : Ix) : State := judgeErrors (modBus s b fun c => { c with recv := sat 255 (c.recv + 1) }) b

/-- ALONE ends at a frame from another node or an acknowledged transmission, with EV 230 (R383). -/
def endAlone (s : State) (b : Ix) : State :=
  if (canBus s b).alone then raise (modBus s b fun c => { c with alone := false }) 230 (ux b ++ ub false) else s

/-- An identifier collision; the third within 64 cycles is a schedule fault, whose event repeats once per 64 cycles (R384). -/
def collide (s : State) (b : Ix) (id_ window : Nat) : State :=
  let now := curCycle s
  let s := modBus s b fun c =>
    { c with collCnt := sat 0xFF (c.collCnt + 1), collAt := now :: c.collAt.filter fun k => decide (now < k + 64) }
  let c := canBus s b
  if c.collAt.length < 3 then s
  else
    let s := modBus s b fun c => { c with schedFault := true }
    if c.collEv.any fun k => decide (now < k + 64) then s
    else
      raise (modBus s b fun c => { c with collEv := some now }) 229
        (ux b ++ u16 id_ ++ u8 window ++ u8 c.basic ++ u16 c.collAt.length)

/-! ### Messages (R374, R385 to R388) -/

/-- First identifier of the module's range on a bus (R385). -/
def idBase (s : State) (b : Ix) : Nat := parN s (0x0D0A + b.num)
/-- A base identifier lies in the module's range of the bus. -/
def inOwnRange (s : State) (b : Ix) (i : Nat) : Bool := decide (idBase s b ≤ i) && decide (i ≤ idBase s b + 0x1F)
/-- FD frame format of the module's messages: BRS except at candidate 8 (Table 13-1). -/
def ownFormat (cand : Nat) : Nat := if cand = 8 then 1 else 3

/-- SETPOINT of a string (Table 13-7, R386, R377): P from control slot n, Q from Q_n, both 0 with TRIP. -/
def setpointBytes (s : State) (x : Ix) : List Byte :=
  let p := s.prot.get x
  let ps : F32 := if p.procTrip then 0 else (slotAt s x.num).out
  let qs : F32 := if p.procTrip then 0 else F32.ofRat (s.hold.q.get x)
  let flags := bit (p.st == .closed) + 2 * bit s.hold.fracHold + 4 * bit s.hold.fracRamp + 8 * bit p.procTrip + 16 * bit (synced s)
  u16 ((canBus s .zero).hpn % 65536) ++ u8 flags ++ u8 (s.can.pcs.get x).seq ++
    fb ps ++ u32 (complement 4 ps.toNat) ++ fb qs ++ u32 (complement 4 qs.toNat)
/-- The SETPOINT message of a string. -/
def setpointMsg (s : State) (x : Ix) (window : Option Nat) : CanMsg :=
  { kind := if (s.can.pcs.get x).tripDue then .trip else .setpoint, window := window, index := x.num, id := idBase s .zero + x.num,
    format := ownFormat (canBus s .zero).rate, data := setpointBytes s x, handle := 0, attempts := 0, ackOnly := true,
    cancelled := false, waiter := none }

/-- The thermal slot that serves a node: the one whose destination it is (R374, R388). -/
def nodeSlot (s : State) (i : Nat) : Option Nat :=
  (List.range 4).map (40 + ·) |>.find? fun k => cfgDest (slotCfg s k) == (2, i) && parN s (0x0D10 + i) % 256 != 0
/-- The TH_CMD message of a node, none where no slot serves it (R388). -/
def thCmdMsg (s : State) (i : Nat) (window : Nat) : Option CanMsg :=
  (nodeSlot s i).map fun k =>
    let v := (slotAt s k).out
    { kind := .thCmd, window := some window, index := i, id := idBase s .one + i, format := ownFormat (canBus s .one).rate,
      data := u16 ((canBus s .one).hpn % 65536) ++ u8 (parN s (0x0D10 + i) % 256) ++ u8 ((s.therm.nodes[i]?.map (·.seq)).getD 0) ++
        fb v ++ u32 (complement 4 v.toNat),
      handle := 0, attempts := 0, ackOnly := true, cancelled := false, waiter := none }

/-- The message of a window as it stands now; none where the window has nothing to carry (R374). -/
def windowMsg (s : State) (b : Ix) (w : Nat) : Option CanMsg :=
  let r := canWin s b w
  match r.kind with
  | 1 => if b = .zero ∧ r.index < 2 ∧ strEnabled s (Ix.ofNum r.index) = true then
      some (setpointMsg s (Ix.ofNum r.index) (some w)) else none
  | 2 => if b = .one ∧ r.index < 16 then thCmdMsg s r.index w else none
  | 3 => (((canBus s b).hostBuf[r.index]?).join).map fun m => { m with window := some w }
  | _ => none

/-- FORMAT of a frame as it goes out: an FD frame has no BRS at candidate 8, and its ESI says that the module is error passive (Table 13-1). -/
def sentFormat (c : CanBus) (format : Nat) : Nat :=
  bit (testBit format 0) + 2 * bit (testBit format 1 && c.rate != 8) + 4 * bit (testBit format 0 && c.fc == .errorPassive) +
    8 * bit (testBit format 3)
/-- A message goes out: its SEQ advances, and a trip no longer waits. -/
def startTx (s : State) (b : Ix) (m : CanMsg) : State :=
  let s := modBus s b fun c => { c with tx := some m }
  let s := match m.kind with
    | .host => s
    | .thCmd => modNode s m.index fun n => { n with seq := (n.seq + 1) % 256 }
    | _ => modPcs s (Ix.ofNum m.index) fun p => { p with seq := (p.seq + 1) % 256, tripDue := false }
  emit s (.can b m.id (sentFormat (canBus s b) m.format) m.data)

/-- Two messages are of the same window, or the same string's setpoint: the newer replaces the older (R376). -/
def sameSlot (a b : CanMsg) : Bool :=
  (a.kind != .host && b.kind != .host && ((a.kind == .thCmd) == (b.kind == .thCmd)) && a.index == b.index) ||
    (a.kind == .host && b.kind == .host && a.window.isSome && a.window == b.window)
/-- A message takes its place by class and, within the class, by identifier (R376). -/
def insertMsg (m : CanMsg) : List CanMsg → List CanMsg
  | [] => [m]
  | a :: l =>
    if m.kind.rank < a.kind.rank || (m.kind.rank == a.kind.rank && decide (m.id < a.id)) then m :: a :: l else a :: insertMsg m l
/-- Queueing an ordinary message. -/
def queueMsg (s : State) (b : Ix) (m : CanMsg) : State :=
  modBus s b fun c =>
    let q := c.queue.filter fun a => !sameSlot a m
    { c with queue := insertMsg { m with heard := false } q }

/-- The bus may carry a frame of the module's now. -/
def busReady (s : State) (b : Ix) : Bool :=
  let c := canBus s b
  drives s && c.st != .listenOnly && c.fc != .busOff && c.tx.isNone
/-- The first ordinary message starts; a module message is formed anew, so that it carries the newest value (R374, R376). -/
def startFirst (s : State) (b : Ix) : State :=
  match (canBus s b).queue with
  | [] => s
  | m :: rest =>
    let fresh : CanMsg := match m.kind with
      | .host => m
      | .thCmd => { m with data := ((thCmdMsg s m.index (m.window.getD 0)).map (·.data)).getD m.data }
      | _ => { setpointMsg s (Ix.ofNum m.index) m.window with
                kind := m.kind, attempts := m.attempts, ackOnly := m.ackOnly, heard := m.heard }
    startTx (modBus s b fun c => { c with queue := rest }) b fresh
/-- In the normal state an ordinary message starts whenever the bus is free. -/
def sendNormal (s : State) (b : Ix) : State :=
  if busReady s b && (canBus s b).st == .normal then startFirst s b else s

/-- Slots of the basic cycle from `slot` on that no window covers, counted up to the next window (R370, R376). -/
def freeSlots (s : State) (b : Ix) (slot : Nat) : Nat :=
  let ws := ((List.range 32).map (canWin s b)).filter fun w => w.kind != 0
  let now := ws.filter fun w => testBit w.mask (canBus s b).basic
  if now.any fun w => decide (w.start ≤ slot) && decide (slot < w.start + w.len) then 0
  else
    let next := (now.filter fun w => decide (slot ≤ w.start)).map (·.start)
    let first := ((ws.filter fun w => testBit w.mask (((canBus s b).basic + 1) % 8)).map (·.start)).foldl min 64
    (next.foldl min (64 + first)) - slot

/-- A scheduled bus at a tick: a trip that waits is queued, and the first ordinary message starts where the free slots hold it with 2 µs
to spare (R376, R377). The opportunities are taken at tick triggers (log 31). -/
def canTick (s : State) (b : Ix) : State :=
  let h := holdPeriod s
  let slot := s.grid.now % h * 64 / h
  let c := canBus s b
  let s := if c.st == .scheduled then modBus s b fun c => { c with slot := slot } else s
  let trip (s : State) (x : Ix) : State :=
    if b = .zero ∧ (s.can.pcs.get x).tripDue = true ∧ strEnabled s x = true ∧ c.st ≠ .listenOnly then
      queueMsg s b { setpointMsg s x none with window := none } else s
  let s := trip (trip s .zero) .one
  if !busReady s b then s
  else if (canBus s b).st == .normal then sendNormal s b
  else match (canBus s b).queue with
    | [] => s
    | m :: _ =>
      let room : Rat := freeSlots s b slot * (h * (s.grid.period / 8) / 64)
      if ((msgNs (canBus s b).rate m + 2000 : Nat) : Rat) ≤ room then startFirst s b else s

/-! ### What arrives (R366, R387 to R390) -/

/-- What the module holds of a PCS's readiness changes: EV 232 with 1 lost, 2 returned, 3 ready, 4 not ready (R387). -/
def pcsEvent (s : State) (x : Ix) (kind : Nat) : State := if isActive s then raise s 232 (ux x ++ u8 kind) else s

/-- A STATUS of a PCS (Table 13-8). -/
def takeStatus (s : State) (x : Ix) (d : List Byte) : State :=
  let ready := testBit (byteAt d 2) 0
  let f (o : Nat) : F32 := BitVec.ofNat 32 (leAt d o 4)
  let old := s.can.pcs.get x
  let s := modPcs s x fun p =>
    { p with status := some (f 8, f 12, f 16, f 20), ready := ready, since := 0, got := true, lost := false }
  let s := if old.lost then pcsEvent s x 2 else s
  let s := if ready = old.ready then s else pcsEvent s x (if ready then 3 else 4)
  placePcsReport s x (leAt d 0 2) (F32.negate (f 4))

/-- A SETPOINT or TH_CMD of the owner, as its standby records it when the complements agree (R389). -/
def recordSetpoint (s : State) (x : Ix) (d : List Byte) : State :=
  let p := leAt d 4 4
  let q := leAt d 12 4
  if leAt d 8 4 = complement 4 p ∧ leAt d 16 4 = complement 4 q then
    modPcs s x fun c => { c with heard := some (BitVec.ofNat 32 p, BitVec.ofNat 32 q) }
  else s
/-- A TH_CMD heard. -/
def recordThCmd (s : State) (i : Nat) (d : List Byte) : State :=
  let v := leAt d 4 4
  if leAt d 8 4 = complement 4 v then modNode s i fun n => { n with heard := some (BitVec.ofNat 32 v) } else s

/-- A TH_STAT of a node (Table 13-9); a lost node returns with EV 179. -/
def takeThStat (s : State) (i : Nat) (d : List Byte) : State :=
  let f (o : Nat) : F32 := BitVec.ofNat 32 (leAt d o 4)
  let was := (s.therm.nodes[i]?).any (·.lost)
  let s := modNode s i fun n =>
    { n with seenUp := some s.elec.uptime, lost := false, state := byteAt d 0, values := some (f 4, f 8, f 12),
             inlet := ((curCycle s, f 8) :: n.inlet.filter fun p => p.1 != curCycle s).take 8 }
  if was && isActive s then raise s 179 (u8 i ++ u8 (parN s (0x0D10 + i) / 256) ++ u8 0) else s

/-- A frame as a CAN_RX record (Table 14-11). -/
def canRxRecord (b : Ix) (f : CanFrame) (t : Stamp) : List Byte :=
  ux b ++ u8 (bit f.fdf + 2 * bit f.brs + 4 * bit f.esi + 8 * bit f.ext) ++ u8 f.data.length ++ u8 0 ++ u32 f.id ++ ustamp t ++
    f.data ++ List.replicate (64 - f.data.length) 0

/-- The module itself transmits the identifier on that bus (R384). -/
def sendsId (s : State) (b : Ix) (f : CanFrame) : Bool :=
  let c := canBus s b
  let own := !f.ext && (if b = .zero then decide (idBase s b ≤ f.id) && decide (f.id < idBase s b + 2) && strEnabled s (Ix.ofNum (f.id - idBase s b))
    else decide (idBase s b ≤ f.id) && decide (f.id < idBase s b + 16) && (nodeSlot s (f.id - idBase s b)).isSome)
  own || (c.queue ++ c.hostBuf.filterMap id ++ c.tx.toList).any fun m => m.kind == .host && m.id == f.id && testBit m.format 3 == f.ext

/-- A bus is not silent: a frame or a receive error has come (R367). -/
def heardFrame (s : State) (b : Ix) : State := modBus s b fun c => { c with quietUp := s.elec.uptime, sweepHeard := true }

/-- CAN_FRAME (R366, Table 13-1): a frame received on a bus, or a receive error in its place; a remote frame is discarded. -/
def execCanFrame (bus : Ix) (f : CanFrame) (s : State) : Host.Outcome State Fault Refusal :=
  .next (
    if !running s then s
    else if f.err then
      let s := rxBad (heardFrame s bus) bus
      let c := canBus s bus
      if c.detecting then nextCandidate s bus
      else if c.assumed && c.st == .listenOnly then startDetect s bus
      else s
    else
      let s := rxGood (heardFrame s bus) bus
      let heard (m : CanMsg) : CanMsg := { m with heard := true }
      let s := endAlone (modBus s bus fun c =>
        { c with rx := (c.rx + 1) % 65536, queue := c.queue.map heard, tx := c.tx.map heard }) bus
      let s := detectFrame s bus f
      let s := if drives s && (canBus s bus).st != .listenOnly && sendsId s bus f then collide s bus f.id 0xFF else s
      if f.rtr then s
      else if f.ext || !inOwnRange s bus f.id then
        deliverBoth (takeFree s) 2 (stampNow s) (canRxRecord bus f (stampNow s))
      else
        let k := f.id - idBase s bus
        match bus with
        | .zero =>
          if k < 2 then (if isActive s || f.data.length ≠ 20 then s else recordSetpoint s (Ix.ofNum k) f.data)
          else if k = 0x10 ∨ k = 0x11 then (if f.data.length ≠ 32 then s else takeStatus s (Ix.ofNum (k - 0x10)) f.data)
          else s
        | .one =>
          if k < 16 then (if isActive s || f.data.length ≠ 12 then s else recordThCmd s k f.data)
          else if f.data.length = 16 ∧ parN s (0x0D10 + (k - 16)) % 256 ≠ 0 then takeThStat s (k - 16) f.data
          else s)

/-- RATE_DWELL_EXPIRY (R366): the candidate has been kept for RD_DWELL_MS. -/
def execRateDwellExpiry (bus : Ix) (s : State) : Host.Outcome State Fault Refusal :=
  .next (
    if running s && (canBus s bus).detecting && passed s (canBus s bus).candUp (ms (parN s 0x0D06)) then nextCandidate s bus else s)

/-- The detection of a bus has failed: no frame for RD_SILENT_MS, or frames that confirmed no candidate over a whole sweep (R367; log 163). -/
def detectFails (s : State) (b : Ix) : Bool :=
  let c := canBus s b
  passed s c.quietUp (ms (parN s 0x0D07)) || (decide (8 ≤ c.tried) && c.sweepHeard)
/-- RATE_SILENT_EXPIRY (R367): the default candidate is adopted as assumed; a bus of fixed rate that waits after a third bus-off leaves
listen-only again (R382). -/
def execRateSilentExpiry (bus : Ix) (s : State) : Host.Outcome State Fault Refusal :=
  .next (
    if !running s then s
    else if (canBus s bus).detecting then (if detectFails s bus then adoptRate s bus (parN s (0x0D04 + bus.num)) true false else s)
    else if fixedRate s bus ≠ 0 ∧ passed s (canBus s bus).candUp (ms (parN s 0x0D07)) = true then canActive s bus
    else s)

/-! ### The basic cycle and its windows -/

/-- A basic cycle has ended: a PCS of an enabled string that was silent in PCS_STATUS_LOST of them in a row counts as lost (R387). -/
def countPcs (s : State) (x : Ix) : State :=
  if !strEnabled s x then s
  else
    let p := s.can.pcs.get x
    let since := if p.got then 0 else p.since + 1
    let lost := p.lost || decide (parN s 0x0D0C ≤ since)
    let s := modPcs s x fun p => { p with since := since, got := false, missed := false, lost := lost }
    if lost && !p.lost then pcsEvent s x 1 else s

/-- A parameter of the other bus alone, its rate or its identifier base: it waits for that bus's own basic cycle (R391). -/
def otherBusPar (bus : Ix) (a : Nat) : Bool := a == 0x0D02 - bus.num || a == 0x0D0B - bus.num

/-- BASIC_CYCLE_START (R364, R368, R369, R387, R391); a rate or base of the other bus waits for its own (log 166). -/
def execBasicCycleStart (bus : Ix) (s : State) : Host.Outcome State Fault Refusal :=
  .next (
    if !running s then s
    else
      let hpn := if s.grid.on then curHpn s else (canBus s bus).hpn + 1
      let s := modBus s bus fun c => { c with hpn := hpn, basic := hpn % 8, slot := 0 }
      let was := fixedRate s bus
      let s := applyPending s fun b a => b == .basic && !otherBusPar bus a
      let s := if hpn % 8 = 0 then
          applyPending s fun b a => b == .basic0 && decide (winAddr bus 0 ≤ a) && decide (a < winAddr bus 32) else s
      let now := fixedRate s bus
      let s := if now ≠ 0 ∧ now ≠ (canBus s bus).rate then adoptRate s bus now false true
        else if now = 0 ∧ was ≠ 0 ∧ (canBus s bus).st = .listenOnly then startDetect s bus
        else checkWindows s bus
      let s := if bus = .zero then countPcs (countPcs s .zero) .one else s
      let s := judgeErrors s bus
      let c := canBus s bus
      if c.st == .normal && drives s && synced s && !c.winShort && c.fc != .busOff && c.rate ≠ 0 then
        setCan (modBus s bus fun c => { c with queue := c.queue.filter fun m => m.kind == .host || m.kind == .trip }) bus .scheduled 3
      else if c.st == .scheduled then
        modBus s bus fun c => { c with queue := c.queue.filter fun m => m.kind == .host || m.kind == .trip }
      else s)

/-- A message that is never retried, as in a window (R373). -/
def oneShot : Nat := 1000

/-- A window's message could not start: WIN_MISSED, EV 231 at most once per cycle with cause 1 bus busy, 2 fault confinement; a SETPOINT is
sent later in the basic cycle as an ordinary message (R373, R377). -/
def missWindow (s : State) (b : Ix) (w cause : Nat) (m : CanMsg) : State :=
  let s := modBus s b fun c => { c with winMissed := true, winMiss := sat 0xFFFF (c.winMiss + 1) }
  let s := raiseOnce s 231 b.num (curCycle s) (ux b ++ u8 w ++ u8 (canBus s b).basic ++ u8 cause)
  match m.kind with
  | .setpoint | .trip => queueMsg (modPcs s (Ix.ofNum m.index) fun p => { p with missed := true }) b { m with window := none }
  | _ => s

/-- A SETPOINT that may take a HOST window of CAN0: a missed one or a trip's (R377). -/
def yieldTo (s : State) (b : Ix) (r : CanWin) : Option CanMsg :=
  if b = .zero ∧ r.kind = 3 then (canBus s b).queue.find? fun m => m.kind == .trip || m.kind == .setpoint else none

/-- CAN_WINDOW_START (R373 to R377): the window's message starts if its frame ends at least 2 µs before the window does; `leftNs` is the time
left in the window when the bus is idle. -/
def execCanWindowStart (bus : Ix) (window : Nat) (leftNs : Nat) (s : State) : Host.Outcome State Fault Refusal :=
  .next (
    let r := canWin s bus window
    let c := canBus s bus
    if !drives s || decide (32 ≤ window) || r.kind = 0 || !testBit r.mask c.basic || c.st = .listenOnly then s
    else
      let s := modBus s bus fun c => { c with slot := r.start }
      if c.st == .normal then
        match windowMsg s bus window with
        | some m => sendNormal (queueMsg s bus m) bus
        | none => s
      else
        let fits (m : CanMsg) : Bool := c.tx.isNone && decide (msgNs c.rate m + 2000 ≤ leftNs)
        match (yieldTo s bus r).filter fun m => c.fc != .busOff && fits m with
        | some m =>
          let s := modBus s bus fun c => { c with yielded := true, queue := c.queue.filter fun a => !sameSlot a m }
          let s := raise s 97 (ux bus ++ u8 c.basic ++ u8 r.start ++ u8 r.index ++ u8 m.index)
          startTx s bus { setpointMsg s (Ix.ofNum m.index) none with attempts := oneShot }
        | none =>
          match windowMsg s bus window with
          | none => s
          | some m =>
            if c.fc == .busOff then missWindow s bus window 2 m
            else if fits m then
              let s := modBus s bus fun c => { c with queue := c.queue.filter fun a => !sameSlot a m || a.kind == .host }
              startTx s bus { m with attempts := oneShot }
            else missWindow s bus window 1 m)

/-! ### The end of a transmission -/

/-- The result of a host message is kept for its handle, the newest 64 of them (R380). -/
def keepResult (s : State) (b : Ix) (m : CanMsg) (ok : Bool) : State :=
  if m.kind != .host then s
  else modBus s b fun c => { c with done := (KV.put c.done m.handle ok).drop ((KV.put c.done m.handle ok).length - 64) }
/-- A cancellation that came at or after SOF is answered TOO_LATE with the frame's result: 1 sent, 2 failed (R380). -/
def answerLate (s : State) (m : CanMsg) (ok : Bool) : State :=
  match m.waiter with
  | some h => respondFull s h 0x0081 .tooLate 0 0 none (u8 (if ok then 1 else 2))
  | none => s

/-- A frame that failed: an ordinary message is tried again until CAN_ATTEMPTS, then dropped; the module is alone where every attempt ended
in an acknowledgement error and no other node was heard (R376, R383). -/
def txFailed (s : State) (b : Ix) (m : CanMsg) (ack : Bool) : State :=
  let n := m.attempts + 1
  let only := m.ackOnly && ack
  if oneShot ≤ m.attempts then keepResult (answerLate s m false) b m false
  else if !m.cancelled && decide (n < parN s 0x0D08) then
    modBus s b fun c => { c with queue := insertMsg { m with attempts := n, ackOnly := only } c.queue }
  else
    let s := keepResult (answerLate s m false) b m false
    if !m.cancelled && only && !m.heard && !(canBus s b).alone then
      raise (modBus s b fun c => { c with alone := true }) 230 (ux b ++ ub true)
    else s

/-- CAN_TX_DONE (R376, R381, R383, R384). -/
def execCanTxDone (bus : Ix) (result : CanResult) (s : State) : Host.Outcome State Fault Refusal :=
  .next (
    match (canBus s bus).tx with
    | none => s
    | some m =>
      if !running s then s
      else
        let s := modBus s bus fun c => { c with tx := none }
        let s := match result with
          | .success => endAlone (keepResult (answerLate (txGood s bus) m true) bus m true) bus
          | .ackError => txFailed (txBad s bus true) bus m true
          | .bitError => txFailed (collide (txBad s bus false) bus m.id (m.window.getD 0xFF)) bus m false
          | .otherError => txFailed (txBad s bus false) bus m false
          | .lostArbitration => txFailed s bus m false
        sendNormal s bus)

/-- CAN_BUS_OFF (R382): EV 228, a scheduled bus falls to normal, and the third entry within 10 s puts it in listen-only and reruns detection. -/
def execCanBusOff (bus : Ix) (s : State) : Host.Outcome State Fault Refusal :=
  .next (
    let c := canBus s bus
    if !running s || c.fc == .busOff || c.st == .listenOnly then s
    else
      let offs := s.elec.uptime :: c.offUp.filter fun u => !passed s u (sec 10)
      let s := modBus s bus fun c =>
        { c with fc := .busOff, tec := 255, busoffCnt := sat 0xFF (c.busoffCnt + 1), offUp := offs, tx := none }
      let s := raise s 228 (ux bus ++ u16 offs.length)
      let s := match c.tx with
        | some m => txFailed s bus m false
        | none => s
      let s := if c.st == .scheduled then setCan s bus .normal 5 else s
      if offs.length < 3 then s
      else
        let s := setCan (modBus s bus fun c => { c with offUp := [], candUp := s.elec.uptime }) bus .listenOnly 7
        if fixedRate s bus = 0 then startDetect s bus else s)

/-- BUS_OFF_RECOVERY (R382): the bus is error active again with both counters 0. -/
def execBusOffRecovery (bus : Ix) (s : State) : Host.Outcome State Fault Refusal :=
  .next (
    if !running s || (canBus s bus).fc != .busOff then s
    else
      let s := modBus s bus fun c => { c with fc := .errorActive, tec := 0, recv := 0 }
      sendNormal (judgeErrors (raise s 227 (ux bus ++ u16 0 ++ u16 0 ++ ub false)) bus) bus)

/-! ### Host messages (R380, R390, Table 14-16) -/

/-- Data lengths a frame can carry: 0 to 8, and for FD frames 12, 16, 20, 24, 32, 48 and 64 (ISO 11898-1, PRESUMED). -/
def canLenOk (fdf : Bool) (n : Nat) : Bool := decide (n ≤ 8) || (fdf && [12, 16, 20, 24, 32, 48, 64].contains n)

/-- The first failing check of a CAN_POST: 1 identifier, 2 LENGTH, 3 BUFFER, 4 HOST window too short; 0 for none. -/
def postFault (s : State) (bus format length buffer id_ : Nat) (data : List Byte) : Nat :=
  let b := Ix.ofNum bus
  let ext := testBit format 3
  let m : CanMsg := { kind := .host, window := none, index := buffer, id := id_, format := format, data := data, handle := 0, attempts := 0,
                      ackOnly := true, cancelled := false, waiter := none }
  let cand := if (canBus s b).rate = 0 then parN s (0x0D04 + b.num) else (canBus s b).rate
  let wins := ((List.range 32).map (canWin s b)).filter fun w => w.kind == 3 && w.index == buffer
  if (!ext && (inOwnRange s b id_ || decide (0x7FF < id_))) || decide (0x1FFFFFFF < id_) then 1
  else if !canLenOk (testBit format 0) length || data.length ≠ length then 2
  else if decide (7 < buffer) && buffer ≠ 0xFF then 3
  else if wins.any fun w => decide (w.len * (holdPeriod s * 118371) < 64 * (msgNs cand m + 2000)) then 4
  else 0

/-- CAN_POST (R390): OK with a HANDLE once the message is queued; DATA of another length than LENGTH is BAD_LENGTH (log 166). -/
def execCanPost (h : Hdr) (bus format length buffer id_ : Nat) (data : List Byte) (s : State) : Host.Outcome State Fault Refusal :=
  .next (
    if !hostReady s h then s
    else if 1 < bus then respond s h 0x0080 .outOfRange 0
    else if data.length ≠ length then respond s h 0x0080 .badLength 0
    else match postFault s bus format length buffer id_ data with
      | 0 =>
        let b := Ix.ofNum bus
        let (hd, s) := newHandle s
        let m : CanMsg := { kind := .host, window := none, index := buffer, id := id_, format := format, data := data, handle := hd,
                            attempts := 0, ackOnly := true, cancelled := false, waiter := none }
        let s := if buffer = 0xFF then sendNormal (queueMsg s b m) b
          else
            let s := match ((canBus s b).hostBuf[buffer]?).join with
              | some old => keepResult s b old false
              | none => s
            modBus s b fun c => { c with hostBuf := setAt c.hostBuf buffer (some m) }
        respondOk s h 0x0080 (u32 hd)
      | k => respond s h 0x0080 .outOfRange k)

/-- CAN_CANCEL (R380): a message before its SOF is removed; a committed frame completes, without retries. -/
def execCanCancel (h : Hdr) (handle : Nat) (s : State) : Host.Outcome State Fault Refusal :=
  .next (
    if !hostReady s h then s
    else
      let waits (b : Ix) : Bool := ((canBus s b).queue ++ (canBus s b).hostBuf.filterMap id).any fun m => m.kind == .host && m.handle == handle
      let sends (b : Ix) : Bool := (canBus s b).tx.any fun m => m.kind == .host && m.handle == handle
      let result (b : Ix) : Option Bool := KV.get? (canBus s b).done handle
      let drop_ (b : Ix) : State :=
        let s := modBus s b fun c =>
          { c with queue := c.queue.filter (fun m => !(m.kind == .host && m.handle == handle)),
                   hostBuf := c.hostBuf.map fun o => o.filter fun m => m.handle != handle,
                   done := KV.put c.done handle false }
        respond s h 0x0081 .cancelled 0
      let wait (b : Ix) : State :=
        modBus s b fun c =>
          { c with tx := c.tx.map fun m => { m with cancelled := true, waiter := some h },
                   hostBuf := c.hostBuf.map fun o => o.filter fun m => m.handle != handle }
      if sends .zero then wait .zero
      else if sends .one then wait .one
      else if waits .zero then drop_ .zero
      else if waits .one then drop_ .one
      else match result .zero, result .one with
        | some ok, _ | none, some ok => respondFull s h 0x0081 .tooLate 0 0 none (u8 (if ok then 1 else 2))
        | none, none => respond s h 0x0081 .outOfRange 0)

end Sys2Proof.Machine
end

