-- ==== Sys2Proof/Machine/Capture.lean ====
section
/-! DEFINITION. What runs over the WAVEFORM and LEDGER_EXPORT streams: the samples of a capture (R409), the records of a ledger dump
(R426), and the end of both. The layout of a WAVEFORM record is the model's (DESIGN CHOICE, log 35). -/

namespace Sys2Proof.Machine

open Sys2Proof

/-- Nothing of a stream waits, fills or is being written. -/
def strmIdle (s : State) (p : Ix) (m : Nat) : Bool :=
  (strm s p m).waiting.isEmpty && (strm s p m).buf.isNone && (strm s p m).writing.isEmpty
/-- A buffer in hand that holds a record. -/
def bufHolds (s : State) (p : Ix) (m : Nat) : Bool := (strm s p m).buf.any fun b => !b.body.isEmpty

/-- Every sample of the port's capture has been handed to the stream, or every record of its dump. -/
def runFull (s : State) (p : Ix) (m : Nat) : Bool :=
  let q := s.host.port.get p
  if m = 4 then q.capture.any (·.full) else if m = 3 then q.dump.any (·.left.isEmpty) else false

/-- The end of a run whose last buffer is closed and written: OK with its counts (R409, R426). -/
def endRun (s : State) (p : Ix) (m : Nat) : State :=
  let q := s.host.port.get p
  let lost := (strm s p m).lost
  if m = 4 then
    match q.capture with
    | none => s
    | some c => endLong (modPort s p fun q => { q with capture := none }) c.id .ok 0 (u32 c.buffers ++ u32 (lost - c.lost0))
  else if m = 3 then
    match q.dump with
    | none => s
    | some d =>
      let gone := d.lost + (lost - d.lost0)
      endLong (modPort s p fun q => { q with dump := none }) d.id .ok 0 (u32 (d.total - gone) ++ u32 gone)
  else s

/-- The end of a stream's run with FAILED when the stream stops (R409). -/
def failRun (s : State) (p : Ix) (m : Nat) : State :=
  let q := s.host.port.get p
  let lost := (strm s p m).lost
  if m = 4 then
    match q.capture with
    | none => s
    | some c => endLong (modPort s p fun q => { q with capture := none }) c.id .failed 0 (u32 c.buffers ++ u32 (lost - c.lost0))
  else if m = 3 then
    match q.dump with
    | none => s
    | some d =>
      let gone := d.lost + (lost - d.lost0)
      endLong (modPort s p fun q => { q with dump := none }) d.id .failed 0 (u32 (d.total - d.left.length - gone) ++ u32 gone)
  else s

/-- Once all is handed over, the last buffer is closed, and the run ends when nothing is left to write (Table 14-7). -/
def settleRun (s : State) (p : Ix) (m : Nat) : State :=
  if runFull s p m then
    let s := if (strm s p m).waiting.isEmpty && bufHolds s p m then closeBuf s p m else s
    let empty := (strm s p m).waiting.isEmpty && !bufHolds s p m && (strm s p m).writing.isEmpty
    if empty then endRun s p m else s
  else s

/-! ### Ledger dump (R426) -/

/-- Records of the dump go into the buffer in hand; one that was overwritten or is invalid counts as lost. -/
def pullDump (p : Ix) : Nat → State → State
  | 0, s => s
  | n + 1, s =>
    match (s.host.port.get p).dump with
    | none => s
    | some d =>
      match d.left with
      | [] => s
      | q :: rest =>
        if (strm s p 3).buf.isNone then s
        else
          let put (f : DumpRun → DumpRun) : State := modPort s p fun q => { q with dump := q.dump.map f }
          match (KV.get? s.ev.slots (q % 65536)).filter fun r => r.seq == q && r.valid with
          | some r => pullDump p n (deliver (put fun d => { d with left := rest }) p 3 r.occ.at_ r.bytes)
          | none => pullDump p n (put fun d => { d with left := rest, lost := d.lost + 1 })
/-- All that the buffer in hand takes, and the end of the dump when nothing is left. -/
def runDump (s : State) (p : Ix) : State :=
  settleRun (noteNeed (pullDump p (((s.host.port.get p).dump.map (·.left.length)).getD 0) s) p 3) p 3

/-! ### Waveform capture (R409) -/

/-- One WAVEFORM record of a tick: the selected string channels' measurement samples and two samples of each selected grid channel. -/
def waveTick (r : CaptureReq) (t : TickRec) : List Byte :=
  let fe (x : Ix) : List Byte :=
    let f := t.fe.get x
    [f.shunt, f.hall, f.vpack, f.vlink].zipIdx.flatMap fun p => if testBit r.stringMask (4 * x.num + p.2) then fb p.1.sampleValue else []
  let gref := (List.range 8).flatMap fun k =>
    if testBit r.grefMask k then
      let g := t.grefVal.getD k (0, 0)
      fb g.1 ++ fb g.2
    else []
  fe .zero ++ fe .one ++ gref
/-- The WAVEFORM records of a ring's watched cells over cycles `lo` to `hi − 1`: ring, unit, cell, cycle, number and samples. -/
def waveCells (s : State) (x : Ix) (lo hi : Nat) : List (Stamp × List Byte) :=
  (car s x).units.flatMap fun u => (List.range 16).flatMap fun k => (List.range (hi - lo)).filterMap fun c =>
    let ws := (u.watchRecs.filter fun w => w.frame == lo + c && w.cell == k + 1).flatMap (·.samples)
    if ws.isEmpty then none
    else some (stampOf ((lo + c) * 128), u8 x.num ++ u8 u.addr ++ u8 (k + 1) ++ u8 0 ++ u48 (lo + c) ++ u16 ws.length ++ ws.flatMap u16)

/-- The ticks that a triggered capture covers. -/
def waveRange (r : CaptureReq) (trig : Nat) : Nat × Nat := (trig - 128 * r.pre, trig + 128 * r.post)
/-- One tick of a capture goes to the stream. -/
def waveDeliver (s : State) (p : Ix) (r : CaptureReq) (t : TickRec) : State :=
  let b := waveTick r t
  if b.isEmpty then s else deliver s p 4 (stampOf t.at_) b
/-- The last tick of a capture has been delivered: the watched cells follow and the run settles. -/
def waveEnd (s : State) (p : Ix) (c : CaptureRun) (trig : Nat) : State :=
  let lo := trig / 128 - c.req.pre
  let hi := trig / 128 + c.req.post
  let put (s : State) (x : Ix) : State := (waveCells s x lo hi).foldl (fun s w => deliver s p 4 w.1 w.2) s
  let s := if testBit c.req.watch 0 then put s .zero else s
  let s := if testBit c.req.watch 1 then put s .one else s
  settleRun (modPort s p fun q => { q with capture := q.capture.map fun c => { c with full := true } }) p 4
/-- The capture's trigger: the ticks of the record that it covers go to the stream, oldest first. -/
def fireCapture (s : State) (p : Ix) (trig : Nat) : State :=
  match (s.host.port.get p).capture with
  | none => s
  | some c =>
    let w := waveRange c.req trig
    let s := modPort s p fun q => { q with capture := q.capture.map fun c => { c with triggered := some trig } }
    let ts := (s.front.hist.filter fun t => decide (w.1 ≤ t.at_) && decide (t.at_ < w.2)).reverse
    let s := ts.foldl (fun s t => waveDeliver s p c.req t) s
    if w.2 ≤ s.grid.now then waveEnd s p c trig else s
/-- Each later tick that a capture covers is delivered as it completes. -/
def captureTick (s : State) (p : Ix) : State :=
  match (s.host.port.get p).capture, s.front.hist.head? with
  | some c, some t =>
    match c.triggered with
    | none => s
    | some trig =>
      if c.full then s
      else
        let w := waveRange c.req trig
        let s := if w.1 ≤ t.at_ ∧ t.at_ < w.2 then waveDeliver s p c.req t else s
        if w.2 ≤ t.at_ + 1 then waveEnd s p c trig else s
  | _, _ => s

end Sys2Proof.Machine
end

