-- ==== Sys2Proof/Machine/Protection.lean ====
section
/-! DEFINITION. Protection: the processor path and its limits (R307 to R310, R336), outrider trips and thresholds (R312 to R316, R442),
coil tests (R319 to R321), and opening, closing and resetting a string (R322 to R326, R338). -/

namespace Sys2Proof.Machine

open Sys2Proof

/-- A value of group 0x0B for one string: the old value while the string's protection boundary has moved, else the acting one (R442). -/
def protN (s : State) (x : Ix) (a : Nat) : Nat := (KV.get? (s.par.overlay.get x) a).getD (parN s a)
/-- A signed value of group 0x0B for one string. -/
def protI (s : State) (x : Ix) (a : Nat) : Int := toSigned (8 * ((pInfo s.ident.variant a).map (·.len)).getD 4) (protN s x a)
/-- The parameter of a string in a pair that lies at `a` for string 0 and `a + step` for string 1. -/
def protS (s : State) (x : Ix) (a step : Nat) : Nat := protN s x (a + step * x.num)

/-- The processor path judges the string (R307). -/
def judges (s : State) (x : Ix) : Bool := running s && isActive s && strEnabled s x
/-- In the gap of a takeover no processor protection acts on a string before its first TICK_SUM (Table 12-7). -/
def gapQuiet (s : State) (x : Ix) : Bool := s.outr.hold == .takeover && !(s.prot.get x).seen

/-! ### Readings (R307, R336) -/

/-- Channel of a comparator's input. -/
def cmpChan : Comparator → Nat
  | .iChg | .iDis => 1
  | .vpOv | .vpUv => 2
  | .vlOv => 3
/-- The comparators. -/
def comparators : List Comparator := [.iChg, .iDis, .vpOv, .vpUv, .vlOv]
/-- The module's tick reading of a comparator's input; none before the first tick. -/
def cmpReading (s : State) (x : Ix) (c : Comparator) : Option F32 :=
  (s.front.hist.head?).map fun t => ((t.fe.get x).chan (cmpChan c)).value
/-- The threshold of a comparator in A or V. -/
def cmpThreshold (s : State) (x : Ix) (c : Comparator) : Rat := thrValue s (5 * x.num + c.num)
/-- 4 times the accuracy of Table 11-3 and the accuracy of Table 5-4 at the calibration temperature, in A or V at a reading. -/
def cmpMargin (s : State) (x : Ix) (c : Comparator) (v : Rat) : Rat :=
  match c with
  | .iChg | .iDis => (parN s (0x0503 + x.num) : Rat) * (80 / 1000 + 5 / 10000) + absR v / 1000
  | _ => 200 * (160 / 1000 + 5 / 10000) + absR v * 5 / 10000
/-- How far a reading lies beyond a comparator's threshold; negative inside it. -/
def cmpBeyond (s : State) (x : Ix) (c : Comparator) (v : Rat) : Rat :=
  let t := cmpThreshold s x c
  match c with
  | .iChg | .vpOv | .vlOv => v - t
  | .iDis | .vpUv => t - v

/-- What one source of the string voltage says at a tick: its tick mean while VALID, V_LINK with the contactors closed, or the cell sum of the last
frame (R175, R176). -/
def voltReading (s : State) (x : Ix) (t : TickRec) : SrcKey → Option Rat
  | .vpack _ => if chanValid s t x 2 then some (F32.toRat (t.fe.get x).vpack.value) else none
  | .vlink _ => if t.link.get x && chanValid s t x 3 then some (F32.toRat (t.fe.get x).vlink.value) else none
  | .cellSum _ => (s.fus.frames.get x).bind (·.sum)
  | _ => none
/-- What replaces V_PACK: V_LINK, or the cell sum while V_LINK is not VALID (R179). -/
def voltSubstitute (s : State) (x : Ix) (t : TickRec) : Option Rat :=
  let link := if convicted s (.vlink x) then none else voltReading s x t (.vlink x)
  match link with
  | some v => some v
  | none => if convicted s (.cellSum x) then none else voltReading s x t (.cellSum x)
/-- The string voltage that protection judges in a tick (R307): while the voltage is contested, the one of the two readings with the smaller margin
(R180); V_PACK; the voted value where the last vote outvoted it (R182); its substitute while it is convicted or not VALID (R179; log 152). -/
def protVolt (s : State) (x : Ix) (t : TickRec) : Option Rat :=
  let hi : Rat := protS s x 0x0B14 1
  let lo : Rat := protS s x 0x0B16 1
  match KV.get? s.fus.contested (.voltage x) with
  | some c =>
    match voltReading s x t c.a, voltReading s x t c.b with
    | some a, some b => some (nearerLimit lo hi a b)
    | some a, none => some a
    | none, b => b
  | none =>
    if convicted s (.vpack x) then voltSubstitute s x t
    else if (src s (.vpack x)).last then
      (match (s.fus.frames.get x).bind (·.volt) with
       | some v => some (F32.toRat v)
       | none => voltSubstitute s x t)
    else match voltReading s x t (.vpack x) with
      | some v => some v
      | none => voltSubstitute s x t

/-! ### Judgements (R307, R310, R336) -/

/-- One judgement of a condition of Table 11-2: the count of consecutive judgements, and the trip when it reaches `need`. -/
def judge (s : State) (x : Ix) (cause : Nat) (holds : Bool) (need : Nat) (value : F32) (unitNo cell : Nat) : State :=
  let n := if holds then ((s.prot.get x).confirm[cause]?).getD 0 + 1 else 0
  let s := modProt s x fun p => { p with confirm := setAt p.confirm cause n }
  if holds && decide (need ≤ n) then procTrip s x cause value unitNo cell else s

/-- The taper of R310: 1 at `free` and beyond, 0 at `zero`. -/
def taper (v free zero : Rat) : Rat := max 0 (min 1 ((zero - v) / (zero - free)))
/-- L_min and L_max of code 0x0D (R310). -/
def powerLimits (s : State) (x : Ix) : State :=
  let p := s.prot.get x
  let v := (s.front.hist.head?).bind (protVolt s x)
  let lims : Rat × Rat := match v with
    | none => (0, 0)
    | some u =>
      if p.st ≠ .closed ∨ p.seen = false then (0, 0)
      else
        let vmax : Rat := protN s x 0x0B01
        let vmin : Rat := protN s x 0x0B02
        let chgT : Rat := protN s x 0x0B03
        let disT : Rat := protN s x 0x0B04
        let cold := (s.therm.cold.get x).any fun t => decide (F32.toRat t < protI s x 0x0B09)
        let kc := if cold then 0 else if p.vmax ≤ chgT then 1 else taper p.vmax chgT (vmax - 50)
        let kd := if disT ≤ p.vmin then 1 else taper (-p.vmin) (-disT) (-(vmin + 50))
        (-(u * protS s x 0x0B10 1 * kc / 1000), u * protS s x 0x0B12 1 * kd / 1000)
  modProt s x fun p => { p with lMin := F32.ofRat lims.1, lMax := F32.ofRat lims.2 }

/-- A comparator that trips or shows live although its reading lies inside the threshold by the margin stays as it is; EV 200 says so once
(R336; log 160). -/
def unconfirmed (s : State) (x : Ix) (c : Comparator) : State :=
  match cmpReading s x c with
  | none => s
  | some v =>
    if !testBit (s.prot.get x).unconf c.num && decide (cmpBeyond s x c (F32.toRat v) < -(cmpMargin s x c (F32.toRat v))) then
      raise (modProt s x fun p => { p with unconf := p.unconf ||| 2 ^ c.num }) 200
        (ux x ++ u8 (c.num + 1) ++ fb v ++ fb (F32.ofRat (cmpThreshold s x c)))
    else s

/-- A comparator that does not trip although its reading lies beyond the threshold by the margin is suspect (R336). -/
def judgeComparator (s : State) (x : Ix) (c : Comparator) : State :=
  match cmpReading s x c with
  | none => s
  | some v =>
    let s := if testBit (s.prot.get x).live c.num then unconfirmed s x c else s
    let p := s.prot.get x
    let r := F32.toRat v
    let idle := !testBit p.live c.num && !testBit p.outrCause c.num
    let holds := idle && decide (cmpMargin s x c r < cmpBeyond s x c r)
    let n := if holds then (p.suspectRun[c.num]?).getD 0 + 1 else 0
    let s := modProt s x fun p => { p with suspectRun := setAt p.suspectRun c.num n }
    if holds && decide (n = protN s x 0x0B0A) then
      let s := modProt s x fun p => { p with inhProof := true, suspect := p.suspect ||| 2 ^ c.num }
      let s := raise s 199 (ux x ++ u8 (c.num + 1) ++ fb v ++ fb (F32.ofRat (cmpThreshold s x c)))
      procTrip s x 10 v 0 0
    else s

/-- A string is blind in a tick (R308): the TICK_SUM of the last tick but one has not come or counts too few units, as on a ring that is not
served. Power-up step 8 finds the units; it is judged from the end of that step on (log 104). -/
def blindTick (s : State) (x : Ix) (n : Nat) : Bool :=
  let c := car s x
  let want := (c.units.filter fun u => u.pop != 0).length
  if s.elec.step < 9 then false
  else !(c.served && c.sum.any fun r => r.tick + 2 == n && decide (want ≤ r.nunits))
/-- A string becomes or stays blind, or sees again. -/
def setBlind (s : State) (x : Ix) (blind : Bool) : State :=
  modProt s x fun p => { p with blindUp := if blind then some (p.blindUp.getD s.elec.uptime) else none }

/-- The weld check that is due sees the Hall current of each tick (R322; log 159). -/
def weldTick (s : State) (x : Ix) : State :=
  if (s.prot.get x).weldFor.isSome && decide (absR (F32.toRat ((cmpReading s x .iChg).getD 0)) ≤ parR s 0x0B33) then
    modProt s x fun p => { p with weldLow := true }
  else s
/-- A live comparator that has released may be found unconfirmed anew (R336). -/
def unconfTick (s : State) (x : Ix) : State := modProt s x fun p => { p with unconf := p.unconf &&& p.live }

/-- The judgements of the processor path on the tick that ended, at the trigger of tick `n` (R307, R308, R310, R336). -/
def procTick (s : State) (x : Ix) (t : TickRec) (n : Nat) : State :=
  if !judges s x || gapQuiet s x then s
  else
    let need := protN s x 0x0B0A
    let m : Rat := 1 + (protN s x 0x0B0E : Rat) / 100
    let i := (s.fus.pub.get x).prot
    let s := match i with
      | none => s
      | some c =>
        let s := judge s x 3 (decide (m * protS s x 0x0B10 1 < F32.toRat c)) need c 0 0
        judge s x 4 (decide (F32.toRat c < -(m * protS s x 0x0B12 1))) need c 0 0
    let s := match protVolt s x t with
      | none => s
      | some v =>
        let s := judge s x 5 (decide ((protS s x 0x0B14 1 : Rat) < v)) need (F32.ofRat v) 0 0
        judge s x 6 (decide (v < (protS s x 0x0B16 1 : Rat)) && (s.prot.get x).st == .closed) need (F32.ofRat v) 0 0
    let s := comparators.foldl (fun s c => judgeComparator s x c) s
    let s := if (car s x).compat then s else setBlind s x (blindTick s x n)
    powerLimits s x

/-- The cell extremes the processor path judges in a compatibility ring: the VMEAN of the last frame in mV with unit and cell (R307, R310). -/
def frameExtremesMv (f : StrFrame) : Option ((Rat × Nat × Nat) × (Rat × Nat × Nat)) :=
  match (f.cells.filter fun c => c.state == .valid).map fun c => ((c.code : Rat) / 200, c.unit, c.idx + 1) with
  | [] => none
  | a :: r => some (r.foldl (fun m c => if m.1 < c.1 then c else m) a, r.foldl (fun m c => if c.1 < m.1 then c else m) a)

/-- The judgements of the processor path at a frame update (R307): cell temperatures, a thermistor under its unit with cell 0 (log 153). -/
def procTemps (s : State) (x : Ix) : State :=
  match judges s x && !gapQuiet s x, s.fus.frames.get x with
  | true, some f =>
    let st := s.est.str.get x
    let tmax : Rat := protI s x 0x0B07
    let tmin : Rat := protI s x 0x0B08
    let cells : List (Rat × Nat × Nat) := (f.cells.zip st.cells).map fun (c, e) => (F32.toRat e.x.t, c.unit, c.idx + 1)
    let therms : List (Rat × Nat × Nat) := f.temps.filterMap fun t => match t.contested, t.therm, t.timp with
      | true, some a, some b => some (nearerLimit tmin tmax a b, t.unit, 0)
      | _, some a, _ => some (a, t.unit, 0)
      | _, none, _ => none
    let temps := cells ++ therms
    let hot := temps.find? fun t => decide (tmax < t.1)
    let cold := temps.find? fun t => decide (t.1 < tmin)
    let go (s : State) (cause : Nat) (h : Option (Rat × Nat × Nat)) : State :=
      let d := h.getD (0, 0, 0)
      judge s x cause h.isSome 1 (F32.ofRat d.1) d.2.1 d.2.2
    go (go s 7 hot) 8 cold
  | _, _ => s

/-- The judgements of the processor path as a frame of a compatibility ring closes (R307, R308, R310): cell voltages and blindness. -/
def procCompat (s : State) (x : Ix) : State :=
  match judges s x && (car s x).compat, s.fus.frames.get x with
  | true, some f =>
    let s := modProt s x fun p => { p with seen := true }
    let s := match frameExtremesMv f with
      | none => s
      | some (hi, lo) =>
        let s := modProt s x fun p => { p with vmax := hi.1, vmin := lo.1 }
        let s := judge s x 1 (decide ((protN s x 0x0B01 : Rat) < hi.1)) 1 (F32.ofRat (hi.1 / 1000)) hi.2.1 hi.2.2
        judge s x 2 (decide (lo.1 < (protN s x 0x0B02 : Rat))) 1 (F32.ofRat (lo.1 / 1000)) lo.2.1 lo.2.2
    powerLimits (setBlind s x (f.cells.any fun c => c.state == .missing)) x
  | _, _ => s

/-! ### TICK_SUM (R110, R118, R308, R310) -/

/-- TICK_SUM as read (Table 3-10). -/
def readSum (tick : Nat) (b : List Byte) : TickSumRec :=
  { tick := tick, vmax := beAt b 1 2, vmaxU := byteAt b 3, vmaxC := byteAt b 4, vmin := beAt b 5 2, vminU := byteAt b 7,
    vminC := byteAt b 8, nunits := byteAt b 9, flt := beAt b 10 4 }
/-- The frames of the two sides of a split ring merged (R110, R118). -/
def mergeSums (a b : TickSumRec) : TickSumRec :=
  let hi := if a.vmax < b.vmax ∨ (a.vmax = b.vmax ∧ b.vmaxU < a.vmaxU) then b else a
  let lo := if b.vmin < a.vmin ∨ (a.vmin = b.vmin ∧ b.vminU < a.vminU) then b else a
  { tick := a.tick, vmax := hi.vmax, vmaxU := hi.vmaxU, vmaxC := hi.vmaxC, vmin := lo.vmin, vminU := lo.vminU, vminC := lo.vminC,
    nunits := a.nunits + b.nunits, flt := a.flt ||| b.flt }

/-- A whole TICK_SUM is taken by the processor path. -/
def takeSum (s : State) (x : Ix) (r : TickSumRec) : State :=
  let s := modCar s x fun c => { c with
    sum := some r, sumDue := none, sumHalf := none,
    units := c.units.map fun u => { u with flt := testBit r.flt (u.addr - 1) },
    view := c.view.zipIdx.map fun p => if p.1 = 0 then 0 else p.1 - 8 * bit (testBit p.1 3) + 8 * bit (testBit r.flt p.2) }
  if !judges s x then s
  else
    let want := ((car s x).units.filter fun u => u.pop != 0).length
    let s := modProt s x fun p => { p with
      seen := true, vmax := if r.nunits = 0 then p.vmax else (r.vmax : Rat) / 10,
      vmin := if r.nunits = 0 then p.vmin else (r.vmin : Rat) / 10 }
    let s := setBlind s x (decide (r.nunits < want))
    let s := if r.nunits = 0 then s
      else
        let need := protN s x 0x0B0A
        let s := judge s x 1 (decide (10 * protN s x 0x0B01 < r.vmax)) need (F32.ofRat ((r.vmax : Rat) / 10000)) r.vmaxU r.vmaxC
        judge s x 2 (decide (r.vmin < 10 * protN s x 0x0B02)) need (F32.ofRat ((r.vmin : Rat) / 10000)) r.vminU r.vminC
    powerLimits s x

/-- TICK_SUM (R96, R110, R118, R308). -/
def execTickSum (ring : Ix) (endB : Bool) (f : CarFrame) (s : State) : Host.Outcome State Fault Refusal :=
  .next (
    if !drivesRing s ring false then s
    else if !f.good 0x12 [14] then discardCar s ring
    else
      let c := car s ring
      match c.sumDue with
      | none => s
      | some t =>
        if byteAt f.payload 0 ≠ t % 128 then s
        else
          let r := readSum t f.payload
          let both := c.split && decide (0 < c.breakAfter) && decide (c.breakAfter < c.count)
          if !both then takeSum s ring r
          else match c.sumHalf with
            | some (e, h) => if e = endB then modCar s ring fun c => { c with sumHalf := some (endB, r) } else takeSum s ring (mergeSums h r)
            | none => modCar s ring fun c => { c with sumHalf := some (endB, r) })

/-! ### The outrider's trips (R306, R312, R315, R318, R326, R330) -/

/-- An outrider trip of a string: every coil off, its hold bits cleared, a sequence in progress ended, STATE tripped, the weld check due. -/
def outrTripString (s : State) (x : Ix) (f : ProtState → ProtState) : State :=
  let s := openToWeld (modProt s x fun p => { (f p) with outrTrip := true }) x
  let s := dropHoldBits s x
  let s := if s.elec.fw then abortClose (dropReqs s x) x 1 else s
  ownState s x .tripped 2

/-- COMPARATOR_TRIP (R312). -/
def execComparatorTrip (string : Ix) (c : Comparator) (s : State) : Host.Outcome State Fault Refusal :=
  .next (
    if !s.elec.powered || !coilsFitted s string then s
    else
      let p := s.prot.get string
      let s := modProt s string fun p => { p with live := p.live ||| 2 ^ c.num }
      if testBit p.outrCause c.num then s
      else outrTripString s string fun p => { p with outrCause := p.outrCause ||| 2 ^ c.num, report := p.report ||| 2 ^ c.num })

/-- COMPARATOR_RELEASE (R312). -/
def execComparatorRelease (string : Ix) (c : Comparator) (s : State) : Host.Outcome State Fault Refusal :=
  .next (
    if !s.elec.powered then s
    else modProt s string fun p => { p with live := p.live - (p.live &&& 2 ^ c.num) })

/-- FAULT_LOOP_OPEN (R113, R315, R501): the outrider latches whatever the state of the string. -/
def execFaultLoopOpen (ring : Ix) (s : State) : Host.Outcome State Fault Refusal :=
  .next (
    if !s.elec.powered || !coilsFitted s ring then s
    else
      let p := s.prot.get ring
      let s := modProt s ring fun p => { p with loopLive := true }
      let s := if p.fltLoop then s else outrTripString s ring fun p => { p with fltLoop := true, report := p.report ||| 0x20 }
      if (car s ring).fltLoop || !running s then s
      else raise (modCar s ring fun c => { c with fltLoop := true }) 73 (ux ring ++ ub true ++ u32 (((car s ring).sum.map (·.flt)).getD 0)))

/-- FAULT_LOOP_CLOSE (R113, R501). -/
def execFaultLoopClose (ring : Ix) (s : State) : Host.Outcome State Fault Refusal :=
  .next (
    if !s.elec.powered || !coilsFitted s ring then s
    else
      let s := modProt s ring fun p => { p with loopLive := false }
      if !(car s ring).fltLoop || !running s then s
      else raise (modCar s ring fun c => { c with fltLoop := false }) 73 (ux ring ++ ub false ++ u32 (((car s ring).sum.map (·.flt)).getD 0)))

/-- One latch that waits is reported: EV 192 with 1 to 5 a comparator and its tick reading, 6 the loop, 7 HOLD_EXP, and the units with FLT set; on
an active module EV 200 where the reading does not bear out the comparator (R312, R315, R333, R336). -/
def reportLatch (s : State) (x : Ix) (k : Nat) : State :=
  if !testBit (s.prot.get x).report k then s
  else
    let c := comparators[k]?
    let v := (c.bind (cmpReading s x)).getD 0
    let s := raise s 192 (ux x ++ u8 (k + 1) ++ fb v ++ u32 (((car s x).sum.map (·.flt)).getD 0))
    match c with
    | some c => if isActive s then unconfirmed s x c else s
    | none => s
/-- OUTRIDER_TRIP_REPORT (R312, R315, R336): EV 192 for each latch not yet reported, and the stamp of the trip. -/
def execOutriderTripReport (string : Ix) (s : State) : Host.Outcome State Fault Refusal :=
  .next (
    if !running s || (s.prot.get string).report == 0 then s
    else
      let s := modProt s string fun p => { p with tripStamp := stampNow s }
      let s := (List.range 7).foldl (fun s k => reportLatch s string k) s
      modProt s string fun p => { p with report := 0 })

/-- BLIND_STRING (R307): blind continuously for PROT_BLIND_MS. -/
def execBlindString (string : Ix) (s : State) : Host.Outcome State Fault Refusal :=
  .next (
    match (s.prot.get string).blindUp with
    | none => s
    | some u =>
      if judges s string && passed s u (ms (protN s string 0x0B0B)) then
        procTrip s string 9 (F32.ofRat (((s.elec.uptime - u : Nat) : Rat) / 8000000000)) 0 0
      else s)

/-! ### Thresholds (R313, R442) -/

/-- THRESHOLD_WRITE (R313): a code with its complement. -/
def execThresholdWrite (k : Nat) (w : Word) (s : State) : Host.Outcome State Fault Refusal :=
  .next (
    let code := bits w.toNat 11 0
    if !running s || decide (10 ≤ k) then s
    else if bits w.toNat 27 16 + code = 0xFFF then { s with outr := { s.outr with thr := setAt s.outr.thr k code } }
    else raise { s with outr := { s.outr with thrReject := true } } 206 (u8 k ++ u16 code))

/-- The threshold codes of one string that its acting parameters give, where a test passes old and new code (R313, R442). -/
def moveThresholds (s : State) (x : Ix) (f : Nat → Nat → Nat → Bool) : State :=
  (List.range 5).foldl (fun s c =>
    let k := 5 * x.num + c
    let new := thrCode s k
    if f c ((s.outr.thr[k]?).getD 0) new then { s with outr := { s.outr with thr := setAt s.outr.thr k new } } else s) s
/-- A new code moves the threshold outward, away from the processor limit it guards. -/
def outward (c old new : Nat) : Bool := if c = 1 ∨ c = 3 then decide (new < old) else decide (old < new)
/-- The inward writes of a string, in the tick that follows its boundary (R442). -/
def inwardWrites (s : State) (x : Ix) : State :=
  if s.par.inward.get x then
    moveThresholds { s with par := { s.par with inward := s.par.inward.set x false } } x fun _ _ _ => true
  else s

/-- A comparator proof of a string is running (R316): the close sequence is at its first stage. -/
def proofRuns (s : State) (x : Ix) : Bool := (s.prot.get x).close.any fun q => q.stage == 0

/-- The protection boundary of one string (R442). Changes of group 0x0B act; those that the other string still awaits are laid over it. -/
def protBoundary (s : State) (x : Ix) : State :=
  match s.par.protAt.get x with
  | none => s
  | some t =>
    if decide (s.grid.now < t) || proofRuns s x then s
    else
      let due (b : Bound) (a : Nat) : Bool := b == .protection0 || b == .protection1 || (b == .tick && (a == 0x0503 || a == 0x0504))
      let late := s.par.protAt.get x.other
      let old := (s.par.pending.filter fun p => due p.1 p.2.1).map fun p => (p.2.1, parN s p.2.1)
      let laid := s.par.overlay.set x []
      let laid := if late.any fun u => decide (s.grid.now < u) || proofRuns s x.other then
          (if (laid.get x.other).isEmpty then laid.set x.other old else laid)
        else laid
      let s := applyPending s due
      let s := { s with par := { s.par with protAt := s.par.protAt.set x none, overlay := laid, inward := s.par.inward.set x true } }
      powerLimits (moveThresholds s x outward) x

/-- PROTECTION_BOUNDARY (R313, R442): outward threshold writes and the new processor limits; the inward writes follow in the next tick. -/
def execProtectionBoundary (s : State) : Host.Outcome State Fault Refusal :=
  .next (if !running s then s else protBoundary (protBoundary s .zero) .one)

/-! ### Coil findings and tests (R319 to R321, R325) -/

/-- Every coil of the string is de-energised with both of its switches off (R316). -/
def coilsOff (s : State) (x : Ix) : Bool := coils.all fun c => !((s.prot.get x).coil c).energised && !hsOn s x c && !lsOn s x c
/-- The string's coils read back energised (R319): A high, B low, at least 100 mA. -/
def coilClosed (r : CoilRead) : Bool := r.a == .high && r.b == .low && decide (100 ≤ r.ma)

/-- Table 11-4: the signature that a readback shows against what is commanded; 0 for none. -/
def coilSig (hs ls : Bool) (r : CoilRead) : Nat :=
  match hs, ls with
  | false, false =>
    (match r.a, r.b with
     | .low, .high => 1
     | .high, .high => 2
     | .low, .low => 3
     | _, _ => 0)
  | true, false => if r.a ≠ .high then 4 else if r.b = .low then 3 else 0
  | false, true => if r.a = .high then 2 else if r.b ≠ .low then 5 else 0
  | true, true =>
    if r.limit then 6
    else match r.a, r.b with
      | .mid, .mid => 6
      | .high, .high => 5
      | .low, .low => 4
      | .high, .low => if r.ma < 100 then 1 else 0
      | _, _ => 0

/-- The orderly open begins (R322): the string's demand is 0, a close sequence ends, STATE reads OPENING. -/
def beginOpen (s : State) (x : Ix) (ids : List Nat) : State :=
  let p := s.prot.get x
  let s := { s with hold := { s.hold with p := s.hold.p.set x 0, q := s.hold.q.set x 0 } }
  let s := abortClose s x 2
  match p.openSeq with
  | some q => modProt s x fun p => { p with openSeq := some { q with ids := q.ids ++ ids } }
  | none =>
    if coilsOff s x then
      let s := weldDue s x ids
      if p.st = .precharge then ownState s x .opened 1 else s
    else
      let s := modProt s x fun p => { p with openSeq := some { ids := ids, up := s.elec.uptime } }
      if p.st = .closed ∨ p.st = .precharge then ownState s x .opening 1 else s

/-- A finding on a coil (R321): EV 197, and the string is opened in order, tripped or inhibited. -/
def coilFinding (s : State) (x : Ix) (c : Coil) (sig : Nat) (hs : Bool) (r : CoilRead) : State :=
  let on := ((s.prot.get x).coil c).energised
  let s := modProt s x fun p =>
    { p.modCoil c (fun k => { k with fault := true, sig := sig, sigHs := hs, sigReset := false }) with sig := sig, sigCoil := c.num }
  let s := raise s 197 (ux x ++ u8 c.num ++ u8 sig)
  if sig = 2 ∨ sig = 3 then beginOpen (modProt s x fun p => { p with inhCoil := true }) x []
  else if on then procTrip s x 11 (F32.ofRat ((r.ma : Rat) / 1000)) 0 0
  else modProt s x fun p => { p with inhCoil := true }

/-- A test of this switch ends the coil's finding: one of the same switch that a PROT_RESET has named (R321). -/
def testClears (k : CoilState) (hs : Bool) : Bool := k.fault && k.sigReset && k.sigHs == hs
/-- A test of one switch passed: its time is taken, and a finding of the same switch ends after a PROT_RESET, with the signature that
COILn_STAT shows for it (R321). -/
def testPassed (s : State) (x : Ix) (c : Coil) (hs : Bool) : State :=
  let s := modProt s x fun p => if testClears (p.coil c) hs && p.sigCoil == c.num then { p with sig := 0 } else p
  modProt s x fun p => p.modCoil c fun k =>
    let clear := testClears k hs
    { k with fault := k.fault && !clear, sig := if clear then 0 else k.sig,
             hsUp := if hs then s.elec.uptime else k.hsUp, lsUp := if hs then k.lsUp else s.elec.uptime,
             hsDone := k.hsDone || hs, lsDone := k.lsDone || !hs }

/-- COIL_TEST (R319 to R321): one switch each 833 ms in the order of R320; a slot on which a trip, a hold, a sequence or a takeover is in
progress, or whose string is not enabled, is skipped. -/
def execCoilTest (rd : CoilRead) (s : State) : Host.Outcome State Fault Refusal :=
  .next (
    if !drives s then s
    else
      let k := s.outr.testRot % 12
      let x := Ix.ofNum (k / 6)
      let c : Coil := if k % 6 / 2 = 0 then .kPos else if k % 6 / 2 = 1 then .kNeg else .pre
      let hs := k % 2 == 0
      let s := { s with outr := { s.outr with testRot := (k + 1) % 12 } }
      let p := s.prot.get x
      if !strEnabled s x || tripped p || fromHoldBits s || p.close.isSome || p.openSeq.isSome || s.pair.t0.isSome then s
      else
        let on := hsOn s x c && lsOn s x c
        let (h, l) := if on then (!hs, hs) else (hs, !hs)
        let sig := coilSig h l rd
        if sig = 0 then testPassed s x c hs
        else
          let s := modProt s x fun p => p.modCoil c fun k =>
            { k with hsUp := if hs then s.elec.uptime else k.hsUp, lsUp := if hs then k.lsUp else s.elec.uptime }
          coilFinding s x c sig hs rd)

/-- TEST_OVERDUE (R320): a switch of an energised coil untested for 120 s; the string is opened in order. -/
def execTestOverdue (string : Ix) (coil : Coil) (highSide : Bool) (s : State) : Host.Outcome State Fault Refusal :=
  .next (
    let k := (s.prot.get string).coil coil
    let up := if highSide then k.hsUp else k.lsUp
    if !drives s || !strEnabled s string || !k.energised || !passed s up (sec 120) || (s.prot.get string).openSeq.isSome then s
    else
      let s := raise s 198 (ux string ++ u8 coil.num ++ u8 (if highSide then 1 else 2) ++
        fb (F32.ofRat (((s.elec.uptime - up : Nat) : Rat) / 8000000000)))
      beginOpen s string [])

/-- CONTACTOR_DROPOUT (R325): a contactor reads de-energised while STATE is CLOSED. -/
def execContactorDropout (string : Ix) (coil : Coil) (rd : CoilRead) (s : State) : Host.Outcome State Fault Refusal :=
  .next (
    let p := s.prot.get string
    if !drives s || !strEnabled s string || p.st != .closed || coil == .pre || coilClosed rd then s
    else
      let sig := coilSig (hsOn s string coil) (lsOn s string coil) rd
      let s := if sig = 0 then s else coilFinding s string coil sig false rd
      procTrip s string 11 (F32.ofRat ((rd.ma : Rat) / 1000)) 0 0)

/-- COMPARATOR_TEST_DUE (R316): a string has stayed CLOSED longer than COMP_TEST_DAYS. -/
def execComparatorTestDue (string : Ix) (s : State) : Host.Outcome State Fault Refusal :=
  .next (
    let p := s.prot.get string
    if drives s && p.st == .closed && passed s p.closedUp (sec (86400 * parN s 0x0B35)) then
      raiseOnce s 208 string.num (s.elec.uptime / sec 86400) (ux string ++ u16 (sat 0xFFFF ((s.elec.uptime - p.proofUp) / sec 86400)))
    else s)

/-! ### Opening (R322) -/

/-- STRING_OPEN (R322, Table 14-16). -/
def execStringOpen (h : Hdr) (string : Nat) (s : State) : Host.Outcome State Fault Refusal :=
  .next (
    if !hostReady s h then s
    else if decide (2 ≤ string) || !strEnabled s (Ix.ofNum string) then respond s h 0x0070 .refused 1
    else if !isActive s then respond s h 0x0070 .unsupported 0
    else
      let (id, s) := acceptLong s h 0x0070
      beginOpen s (Ix.ofNum string) [id])

/-- The voted current, where one is published. -/
def currentLow (s : State) (x : Ix) : Bool := ((s.fus.pub.get x).cur).any fun i => decide (absR (F32.toRat i) ≤ parR s 0x0B33)

/-- OPEN_CURRENT_LOW (R322, R326, R461): the current has been low for a tick, or OPEN_RAMP_MS has passed; the coils are de-energised. -/
def execOpenCurrentLow (string : Ix) (s : State) : Host.Outcome State Fault Refusal :=
  .next (
    match (s.prot.get string).openSeq with
    | none => s
    | some q =>
      if !running s || !(currentLow s string || passed s q.up (ms (parN s 0x0B34))) then s
      else
        let s := openToWeld s string
        let s := dropReqs (dropHoldBits s string) string
        let s := if tripped (s.prot.get string) then s else ownState s string .opened 1
        leaveIfOpen s)

/-- The Hall current of the last tick. -/
def hallNow (s : State) (x : Ix) : F32 := (cmpReading s x .iChg).getD 0

/-- WELD_CHECK (R322): 100 ms after an opening or a trip the Hall current must have fallen to I_OPEN_A. -/
def execWeldCheck (string : Ix) (s : State) : Host.Outcome State Fault Refusal :=
  .next (
    let p := s.prot.get string
    match p.weldFor with
    | none => s
    | some ids =>
      if !running s || !passed s p.weldUp (ms 100) then s
      else
        let i := hallNow s string
        let bad := !p.weldLow && decide (parR s 0x0B33 < absR (F32.toRat i))
        let s := modProt s string fun p => { p with weldFor := none, inhWeld := p.inhWeld || bad }
        let s := raiseIf s bad 203 (ux string ++ fb i)
        ids.foldl (fun s id => endLong s id .ok 0 (u8 (s.prot.get string).st.code ++ fb i)) s)

/-! ### Closing (R315, R316, R324) -/

/-- The conditions of R315 that inhibit closing while they hold: a confirmed open wire, blindness, a lost unit. -/
def ringInhibit (s : State) (x : Ix) : Bool :=
  (s.prot.get x).blindUp.isSome || (car s x).units.any fun u => u.lost || !u.openWires.isEmpty
/-- PROTn_STAT.CLOSE_INHIBIT (Table 11-9). -/
def closeInhibit (s : State) (x : Ix) : Bool :=
  let p := s.prot.get x
  p.inhProof || p.inhCoil || p.inhWeld || p.inhAdopted || ringInhibit s x

/-- The first failing condition of STRING_CLOSE (R324, Table 14-16); 0 for none. -/
def closeRefusal (s : State) (string : Nat) : Nat :=
  let x := Ix.ofNum string
  let p := s.prot.get x
  let v := (s.front.hist.head?).bind (protVolt s x)
  let inRangeV := v.any fun u => decide ((protS s x 0x0B16 1 : Rat) ≤ u) && decide (u ≤ (protS s x 0x0B14 1 : Rat))
  if !isActive s then 1
  else if decide (2 ≤ string) || !strEnabled s x then 2
  else if p.st ≠ .opened ∨ p.close.isSome then 3
  else if closeInhibit s x then 4
  else if !s.outr.coilOk then 5
  else if !inRangeV then 6
  else if 3 ≤ (p.attempts.filter fun u => decide (s.elec.uptime < u + sec 600)).length then 7
  else 0

/-- STRING_CLOSE (R315, R316, R324). -/
def execStringClose (h : Hdr) (string : Nat) (s : State) : Host.Outcome State Fault Refusal :=
  .next (
    if !hostReady s h then s
    else
      let r := closeRefusal s string
      if r ≠ 0 then respond s h 0x0071 .refused r
      else
        let (id, s) := acceptLong s h 0x0071
        modProt s (Ix.ofNum string) fun p => { p with close := some { id := id, stage := 0, preUp := 0 }, openSeq := none })

/-- The result of a comparator proof: none passed, else the input that failed (R316); a coil that is not off fails it at once. -/
def proofResult (s : State) (x : Ix) (failed : Option Nat) : State × Bool :=
  let fail := if !coilsOff s x then some 7 else failed
  match fail with
  | some k => (raise (modProt s x fun p => { p with proofOk := false, inhProof := true }) 204 (ux x ++ u8 k), false)
  | none =>
    (modProt s x fun p => { p with proofOk := true, inhProof := false, proofSinceAck := true, proofUp := s.elec.uptime, suspect := 0,
                                   suspectRun := List.replicate 5 0 }, true)

/-- COMPARATOR_PROOF (R316, R324, R442): the proof that opens a close sequence ends; K− is energised when it has passed. -/
def execComparatorProof (string : Ix) (failed : Option Nat) (s : State) : Host.Outcome State Fault Refusal :=
  .next (
    match (s.prot.get string).close with
    | none => s
    | some q =>
      if !running s || q.stage != 0 then s
      else
        let (s, ok) := proofResult s string failed
        let s := { s with par := { s.par with protAt := s.par.protAt.set string ((s.par.protAt.get string).map fun t => max t (s.grid.now + 2)) } }
        if !ok then abortClose s string 6
        else setReq (modProt s string fun p => { p with close := some { q with stage := 1, up := s.elec.uptime } }) string .kNeg true true)

/-- A step of the close sequence whose readback fails (R324): the sequence aborts, with the finding where Table 11-4 gives one. -/
def closeFails (s : State) (x : Ix) (c : Coil) (rd : CoilRead) : State :=
  let sig := coilSig true true rd
  let s := abortClose s x 5
  let s := if (s.prot.get x).st = .precharge then ownState s x .opened 4 else s
  if sig = 0 then s else coilFinding s x c sig true rd

/-- K_NEG_SETTLED (R319, R324): K− reads back closed after CLOSE_SETTLE_MS; precharge begins. -/
def execKNegSettled (string : Ix) (rd : CoilRead) (s : State) : Host.Outcome State Fault Refusal :=
  .next (
    match (s.prot.get string).close with
    | none => s
    | some q =>
      if !drives s || q.stage != 1 || !passed s q.up (ms (parN s 0x0B30)) then s
      else if !coilClosed rd then closeFails s string .kNeg rd
      else
        let s := modProt s string fun p =>
          { p.modCoil .kNeg (fun k => { k with energised := true }) with
            close := some { q with stage := 2, preUp := s.elec.uptime },
            attempts := s.elec.uptime :: (p.attempts.filter fun u => decide (s.elec.uptime < u + sec 600)) }
        ownState (setReq s string .pre true true) string .precharge 1)

/-- V_PACK and V_LINK of the last tick. -/
def packLink (s : State) (x : Ix) : F32 × F32 := ((cmpReading s x .vpOv).getD 0, (cmpReading s x .vlOv).getD 0)

/-- PRECHARGE_REACHED (R324): V_PACK and V_LINK lie within PRECHG_TOL_V; K+ is energised. -/
def execPrechargeReached (string : Ix) (s : State) : Host.Outcome State Fault Refusal :=
  .next (
    match (s.prot.get string).close with
    | none => s
    | some q =>
      let v := packLink s string
      let ok := decide (absR (F32.toRat v.1 - F32.toRat v.2) ≤ parN s 0x0B31)
      if !drives s || q.stage != 2 || !ok then s
      else
        let s := modProt s string fun p =>
          { p.modCoil .pre (fun k => { k with energised := k.energised || passed s q.preUp (ms (parN s 0x0B30)) }) with
            close := some { q with stage := 3, preMs := sat 0xFFFF ((s.elec.uptime - q.preUp) / ms 1), up := s.elec.uptime } }
        setReq s string .kPos true true)

/-- PRECHARGE_FAIL (R324): PRECHG_MAX_MS passes. -/
def execPrechargeFail (string : Ix) (s : State) : Host.Outcome State Fault Refusal :=
  .next (
    match (s.prot.get string).close with
    | none => s
    | some q =>
      if !drives s || q.stage != 2 || !passed s q.preUp (ms (parN s 0x0B32)) then s
      else
        let v := packLink s string
        let s := raise s 202 (ux string ++ fb v.1 ++ fb v.2)
        ownState (abortClose s string 4) string .opened 7)

/-- K_POS_SETTLED (R319, R324): K+ reads back closed; the precharge coil is de-energised and STATE is CLOSED. -/
def execKPosSettled (string : Ix) (rd : CoilRead) (s : State) : Host.Outcome State Fault Refusal :=
  .next (
    match (s.prot.get string).close with
    | none => s
    | some q =>
      if !drives s || q.stage != 3 || !passed s q.up (ms (parN s 0x0B30)) then s
      else if !coilClosed rd then closeFails s string .kPos rd
      else
        let s := modProt s string fun p => { p.modCoil .kPos (fun k => { k with energised := true }) with close := none }
        let s := ownState (setReq s string .pre false false) string .closed 1
        endLong s q.id .ok 0 (u8 (s.prot.get string).st.code ++ u16 q.preMs))

/-! ### Resetting (R321, R323, R326) and the coil supply (R338) -/

/-- The condition of a processor-path trip has cleared. -/
def procCleared (s : State) (x : Ix) : Bool :=
  let p := s.prot.get x
  let c := p.procCause
  if c = 9 then p.blindUp.isNone
  else if c = 10 then p.suspect == 0
  else if c = 11 then coils.all fun k => !(p.coil k).fault
  else (p.confirm[c]?).getD 0 == 0

/-- PROT_RESET (R316, R321, R323, R326): `proof` is the input that fails when the reset runs a comparator proof. -/
def execProtReset (h : Hdr) (string : Nat) (proof : Option Nat) (s : State) : Host.Outcome State Fault Refusal :=
  .next (
    if !hostReady s h then s
    else if 2 ≤ string then respond s h 0x0072 .outOfRange 0
    else
      let x := Ix.ofNum string
      let p0 := s.prot.get x
      let s := if coilsOff s x && (p0.inhAdopted || p0.inhProof) then (proofResult s x proof).1 else s
      let p := s.prot.get x
      let quiet := p.live == 0 && !p.loopLive
      let fault := coils.any fun k => (p.coil k).fault
      let weld := decide (parR s 0x0B33 < absR (F32.toRat (hallNow s x)))
      let tested := coils.all fun k => (p.coil k).hsDone && (p.coil k).lsDone
      let cOutr := p.outrTrip && quiet
      let cExp := p.holdExp && quiet
      let cProc := p.procTrip && procCleared s x
      let coilOk := !fault
      let adopted := p.inhAdopted && !(tested && coilOk && p.proofSinceAck && !ringInhibit s x && !weld && !p.inhProof)
      let was := p0.inhProof || p0.inhCoil || p0.inhWeld || p0.inhAdopted
      let s := modProt s x fun p => { p with
        outrTrip := p.outrTrip && !cOutr, outrCause := if cOutr then 0 else p.outrCause, fltLoop := p.fltLoop && !cOutr,
        holdExp := p.holdExp && !cExp, procTrip := p.procTrip && !cProc, procCause := if cProc then 0 else p.procCause,
        inhCoil := p.inhCoil && !coilOk, inhWeld := p.inhWeld && weld, inhAdopted := adopted }
      let s := modProt s x fun p => p.allCoils fun k => { k with sigReset := k.sigReset || k.fault }
      let kept := closeInhibit s x
      let p := s.prot.get x
      let cleared := bit cOutr + 2 * bit cProc + 4 * bit (was && !kept) + 8 * bit cExp
      let keptM := bit p.outrTrip + 2 * bit p.procTrip + 4 * bit kept + 8 * bit p.holdExp + 16 * bit fault
      let s := raise s 194 (ux x ++ u8 cleared ++ u8 keptM)
      let s := if !tripped p && p.st == .tripped then ownState s x .opened 6 else s
      respondOk (settleString s x) h 0x0072 (u16 cleared ++ u16 keptM))

/-- COIL_SUPPLY (R338): V_COIL in mV, in range from 18 V to 32 V. -/
def execCoilSupply (mv : Nat) (s : State) : Host.Outcome State Fault Refusal :=
  .next (
    if !s.elec.powered then s
    else
      let ok := decide (18000 ≤ mv) && decide (mv ≤ 32000)
      let was := s.outr.coilOk
      let s := { s with outr := { s.outr with coilOk := ok } }
      raiseIf s (ok != was && running s) 205 (fb (F32.ofRat ((mv : Rat) / 1000)) ++ ub ok))

end Sys2Proof.Machine
end

