-- ==== Sys2Proof/Machine/Tick.lean ====
section
/-! DEFINITION. The tick trigger (R77, R69): what every module does at each tick of its grid (R153 to R158, R437, R495, R502), the
extrapolated triggers of coasting (R81), and the angle source's tick with its waymark. -/

namespace Sys2Proof.Machine

open Sys2Proof

/-! ### The charge of a tick (Table 7-2) -/

/-- The charge, its uncertainty and whether it is an interruption, for the tick that ended (Table 7-2): `dq` the increment of Q_T in
coulombs, `dt` the tick's length in seconds. -/
def tickCharge (s : State) (x : Ix) (t : TickRec) (dq dt : Rat) : TickChg :=
  let f := t.fe.get x
  let tol := parR s 0x0601
  let hall := F32.toRat f.hall.value * dt
  let last := F32.toRat (s.fus.lastCur.get x) * dt
  let hOk := chanValid s t x 1 && !convicted s (.hall x)
  let onHall : TickChg := { dq := hall, eq := absR hall * 2 / 1000 + tol * dt, interrupted := true }
  let onLast : TickChg := { dq := last, eq := absR last * 5 / 100 + 10 * tol * dt, interrupted := true }
  if f.gap || !chanValid s t x 0 then (if hOk then onHall else onLast)
  else if contested s (.current x) then
    { dq := dq, eq := absR (hall - F32.toRat f.shunt.value * dt) + absR dq * 5 / 10000, interrupted := true }
  else if convicted s (.shunt x) || (src s (.shunt x)).last then (if hOk then onHall else onLast)
  else { dq := dq, eq := absR dq * 5 / 10000 + 1 / 1000000, interrupted := false }

/-! ### What each tick brings -/

/-- The coulomb gap over a restart, reported once the module's stamps are no longer 0 (R157): cause 3, from the last tick stored to
the first tick `n` after the restart; the length is 0xFFFF_FFFF where the numbering does not continue. -/
def restartGap (s : State) (n : Nat) : State :=
  match s.elec.gapFrom with
  | none => s
  | some k =>
    let len := if s.elec.ownNumbering || decide (n < k) then 0xFFFFFFFF else min 0xFFFFFFFF (n - k)
    let s := { s with elec := { s.elec with gapFrom := none } }
    [Ix.zero, Ix.one].foldl (fun s x =>
      if feFitted s x then
        raise (modFe s x fun f => { f with gap := true, cycleGap := true, gapCnt := sat 0xFFFF (f.gapCnt + 1) }) 85
          (ux x ++ ustamp (stampOf k) ++ u32 len ++ u8 3)
      else s) s

/-- A string's contactors over the tick that ends: K+ and K− read back closed and precharge open throughout it (R175). -/
def linkTick (s : State) (x : Ix) : Bool := !(s.prot.get x).linkBroken && (s.prot.get x).linkClosed
/-- The next tick begins with the contactors as they stand. -/
def linkFrom (s : State) (x : Ix) : State := modProt s x fun p => { p with linkBroken := !p.linkClosed }
/-- The two samples of a grid channel, calibrated (R163, R166). -/
def grefValues (s : State) (ins : List GrefIn) : List (F32 × F32) :=
  ins.zipIdx.map fun (g, k) => (F32.ofRat (calValue s 2 k (clampCode g.first)), F32.ofRat (calValue s 2 k (clampCode g.second)))
/-- The front ends and the grid channels over the tick interval of tick `n`, and its entry in the waveform record (R153, R163, R409). -/
def takeInputs (s : State) (n : Nat) (t : TickIn) : State × TickRec :=
  let (s, f0) := feTick s .zero n t.fe0
  let (s, f1) := feTick s .one n t.fe1
  let s := grefTick s n t.gref
  let rec_ : TickRec :=
    { at_ := n, len := t.len, fe := { zero := f0, one := f1 }, link := { zero := linkTick s .zero, one := linkTick s .one },
      grefVal := grefValues s (t.gref.take 8), gref := (t.gref.take 8).map fun g => (clampCode g.first, clampCode g.second),
      grefOvr := (t.gref.take 8).map fun g => g.ovr.isSome }
  let s := linkFrom (linkFrom s .zero) .one
  ({ s with front := { s.front with hist := (rec_ :: s.front.hist).take (256 * 128) }, clk := { s.clk with modStalled := false } }, rec_)

/-- Publication of a tick's current, and its charge for the estimation engine (R502, R196). -/
def publishTick (s : State) (t : TickRec) (q0 q1 : Int) : State :=
  let dt : Rat := (t.len : Rat) / 8000000000
  let dq (x : Ix) : Rat := (((s.front.fe.get x).acc - (if x = .zero then q0 else q1) : Int) : Rat) / (2 ^ 32 * 1000000000)
  let chg (x : Ix) : TickChg := tickCharge s x t (dq x) dt
  let pend : PendTick :=
    { at_ := t.at_, len := t.len, up := s.elec.uptime, q := { zero := dq .zero, one := dq .one },
      chg := { zero := chg .zero, one := chg .one } }
  let p0 := publish s .zero t
  let p1 := publish s .one t
  let cur (x : Ix) (p : PubRec) : F32 := p.cur.getD (s.fus.lastCur.get x)
  { s with fus := { s.fus with pub := { zero := p0, one := p1 }, lastCur := { zero := cur .zero p0, one := cur .one p1 } },
           est := { s.est with pend := if s.est.began then s.est.pend ++ [pend] else s.est.pend } }

/-- Own coasting (R81): the module coasts and the stream it keeps to delivers no waymarks that it follows. -/
def ownCoasting (s : State) : Bool :=
  let t := stream s (curStream s)
  s.grid.coast && !s.grid.head && (s.grid.resync.isSome || !t.accepted || t.arrivals.isEmpty)

/-- The trigger of tick `n` where no upstream port has delivered its waymark (R81, R84): the ticks up to `n` go without waymarks of their own. -/
def coastCheck (s : State) (n : Nat) : State :=
  if s.grid.head || s.grid.coast || s.grid.resync.isSome then s
  else if (stream s (curStream s)).delivered n then s
  else match othStream (curStream s) with
    | some q =>
      if (stream s q).accepted && !(stream s q).inconsistent && (stream s q).delivered n then takeUp (switchTo s q) q
      else coastMiss s (max n (s.grid.named + 1))
    | none => coastMiss s (max n (s.grid.named + 1))

/-- A tick of the module's own coasting (R81): COAST_AGE rises by 1 for each whole cycle. Where the stream is no longer accepted, so that none of
its waymarks is awaited, the next waymark is extrapolated and forwarded here; else at the miss of each. -/
def coastTick (s : State) : State :=
  if !ownCoasting s then s
  else
    let k := s.grid.coastTicks + 1
    let age := if k % 128 = 0 then min 8 (s.grid.coastAge + 1) else s.grid.coastAge
    let s := { s with grid := { s.grid with coastTicks := k, coastAge := age } }
    if s.grid.resync.isSome || !(stream s (curStream s)).accepted then extrapolate s (s.grid.named + 1) else s

/-- The delay in use of one stream at a cycle boundary: a settled result is adopted as a step (R298), else it moves toward the measured
delay by at most 0.5 ns (R76). -/
def moveDelay (t : StreamState) : StreamState :=
  match t.echo.adopt with
  | some d => { t with d := d, dGoal := d, echo := { t.echo with adopt := none } }
  | none => { t with d := if t.d < t.dGoal then min t.dGoal (t.d + 4) else max t.dGoal (t.d - 4) }

/-- Both upstream delays and the peer link's at tick 0 of a cycle; a step marks the frame that ends irregular, and measurements that
have not settled are repeated (R76, R298, R505). -/
def cycleDelays (s : State) : State :=
  let g := s.grid
  let step := g.u0.echo.adopt.isSome || g.u1.echo.adopt.isSome || g.peer.echo.adopt.isSome
  let s := { s with grid := { g with u0 := moveDelay g.u0, u1 := moveDelay g.u1, peer := moveDelay g.peer } }
  let s := if s.grid.u0.d = g.u0.d ∧ s.grid.u1.d = g.u1.d then s else sendHopComp s
  let s := if step then markIrregular s (frameAt s.grid.now) else s
  let again (s : State) (p : UpPort) : State :=
    let t := stream s p
    if t.echo.settling && !t.echo.busy && measures s p then startEcho s p else s
  again (again (again s .u0) .u1) .peer

/-- Changes of duties decided after tick 120 go out in the next cycle (R237). -/
def cycleDuties (s : State) (r : Ix) : State :=
  if !drives s || !(car s r).served then s
  else (car s r).units.foldl (fun s u => match u.dutyHeld with
    | some d => setDuty s r u.addr d
    | none => s) s

/-- The coulomb history takes Q_T of both strings at tick 0 of cycle `c` (R158). -/
def cycleHistory (s : State) (c : Nat) : State :=
  [Ix.zero, Ix.one].foldl (fun s x =>
    if feFitted s x then
      modFe s x fun f => { f with history := ({ cycle := c, q := f.acc, gap := f.cycleGap } :: f.history).take 512, cycleGap := false }
    else s) s

/-- The start of cycle `c`: history, calibration points, committed changes of the cycle boundary and of the units' configuration, units
that return, duties, the chopper, the delays in use, and the return of synchronisation (R83, R105, R107, R158, R167, R237, R247). -/
def cycleStart (s : State) (c : Nat) : State :=
  let s := calCycle (cycleHistory s c) (c - 1)
  let s := applyBound s .cycle
  let s := if s.ring.zero.txns.any (·.type == 0x06) || s.ring.one.txns.any (·.type == 0x06) then s else applyBound s .unit
  let s := noteCorner (noteCorner s .zero c) .one c
  let s := enumBound (enumBound (returnUnits (returnUnits s .zero) .one) .zero) .one
  let s := cycleDuties (cycleDuties s .zero) .one
  let s := { s with therm := { s.therm with chopKhz := chopOf s.therm.bandInForce } }
  let s := cycleDelays s
  if s.grid.syncAt.any (fun n => decide (n ≤ s.grid.now)) then regainSync s else s

/-- Committed changes of the boundaries that begin with the tick: frame closes and frame updates at tick 65, holding periods, and each slot's
own schedule. A change accepted later within the tick so waits for the boundary after it (R17, R437). -/
def tickBounds (s : State) : State :=
  let s := slotBounds s
  let s := if curTick s = 65 then applyBound (applyBound s .frameClose) .frameUpdate else s
  if s.grid.now % holdPeriod s = 0 then applyBound s .holding else s

/-- How long each finding of Table 12-5 has held (R351): an isolated supply low, a ring without lock at both ends, no accepted stream. -/
def findingTick (s : State) (n : Nat) : State :=
  let since (h : Bool) (was : Option Nat) (t : Nat) : Option Nat := if h then some (was.getD t) else none
  let p := s.pair
  let iso (x : Ix) : Option Nat := since (strEnabled s x && !(s.front.fe.get x).isoOk) (p.isoLost.get x) s.elec.uptime
  let ring (x : Ix) : Option Nat := since (strEnabled s x && !(s.ring.get x).lockA && !(s.ring.get x).lockB) (p.ringLost.get x) n
  { s with pair := { p with
    isoLost := { zero := iso .zero, one := iso .one }, ringLost := { zero := ring .zero, one := ring .one },
    streamLost := since (!s.grid.u0.accepted && !s.grid.u1.accepted) p.streamLost n } }

/-- One tick of the grid: the interval of the tick that ends, then the trigger of the next one. -/
def tickCore (s : State) (t : TickIn) : State :=
  let old := s.grid.now
  let n := old + 1
  let s := { s with elec := { s.elec with uptime := s.elec.uptime + t.len, lastTick := some old } }
  let q0 := s.front.fe.zero.acc
  let q1 := s.front.fe.one.acc
  let (s, r) := takeInputs s old t
  let s := { s with grid := { s.grid with now := n } }
  let s := captureTick (captureTick s .zero) .one
  let s := restartGap s n
  let s := coastTick (coastCheck s n)
  let s := if drives s then publishTick s r q0 q1 else s
  let s := [Ix.zero, Ix.one].foldl (fun s x => unconfTick (weldTick s x) x) s
  let s := (enabledStrings s).foldl (fun s x => procTick s x r n) s
  let s := findingTick s n
  let s := inwardWrites (inwardWrites s .zero) .one
  let s := takeCal (applyBound s .tick)
  let s := applyLearned (applyLearned s .zero) .one
  let s := if n % 128 = 0 then cycleStart s (n / 128) else s
  canTick (canTick (tickBounds s) .zero) .one

/-- Over-range of a front end before the module has a grid: its OVR bits, and EV 084, stamped 0, at the first of a channel (R162, R413). -/
def freeOvr (s : State) (x : Ix) (i : FeIn) : State :=
  [i.shunt, i.hall, i.vpack, i.vlink].zipIdx.foldl (fun s (c, k) =>
    if c.ovr.isNone then s
    else
      let s := modFe s x fun f => { f with ovr := setAt f.ovr k true }
      if !s.elec.fw then s
      else
        let (s, run) := ovrEvent s 0 ((s.front.fe.get x).ovrRun.getD k none) c.ovr 84 (ux x ++ u8 k)
        modFe s x fun f => { f with ovrRun := setAt f.ovrRun k run }) s
/-- Before the module has a grid only its time passes, its accumulators integrate from power-up step 3, and its channels show over-range (R156,
R162). -/
def freeRun (s : State) (t : TickIn) : State :=
  let one (s : State) (x : Ix) (i : FeIn) : State :=
    if feFitted s x then freeOvr (modFe s x fun f => { f with acc := f.acc + chargeOf s x i.shunt i.modCycles }) x i else s
  let s := { s with elec := { s.elec with uptime := s.elec.uptime + t.len } }
  let s := one (one s .zero t.fe0) .one t.fe1
  if s.elec.fw then grefTick s 0 t.gref else s

/-- TICK_TRIGGER (R77): the trigger of a module that follows a stream or coasts. -/
def execTickTrigger (t : TickIn) (s : State) : Host.Outcome State Fault Refusal :=
  .next (
    if running s && s.grid.on then (if s.grid.head then s else tickCore s t)
    else if clocked s && decide (3 ≤ s.elec.step) && !s.grid.on then freeRun s t
    else s)

/-- ANGLE_SOURCE_TICK (R64, R65, R66, R69, R505): the angle source fires its own trigger at the length that it makes, and sends the waymark that
names the tick A ahead on D0, D1 and the peer link. The length in the command's operand is that of a module which follows a stream; an angle
source makes its own. -/
def execAngleSourceTick (t : TickIn) (s : State) : Host.Outcome State Fault Refusal :=
  .next (
    if !running s || !s.grid.on || !s.grid.head then s
    else
      let (s, len) := makeTick s
      let s := judgeHalf (tickCore s { t with len := len })
      let next := s.grid.now + waymarkAdv s
      let s := { s with grid := { s.grid with trig := s.elec.uptime + waymarkAdv s * len, named := next } }
      let w := waymarkWord { tick := next, virt := s.grid.virt, slew := s.grid.slew, f60 := s.grid.f60, coast := false, age := 0 }
      if drives s then emits s [.waymark .d0 w, .waymark .d1 w, .waymark .peer w] else s)

end Sys2Proof.Machine
end

