-- ==== Sys2Proof/Machine/Pair.lean ====
section
/-! DEFINITION. The pair: heartbeat, ownership line and holds of the outrider (R327 to R333, R339 to R343, R504), fitness and the peer
link (R344 to R349, R505), orderly and immediate releases (R351, R352), and the takeover (R353 to R361). -/

namespace Sys2Proof.Machine

open Sys2Proof

/-! ### Fitness -/

/-- One entry of the digest (R446): GROUP, INDEX, LEN little-endian and the committed value. -/
def digestEntry (s : State) (a : Nat) : List Byte :=
  match pInfo s.ident.variant a with
  | none => []
  | some p => [toByte (a / 256), toByte (a % 256)] ++ leBytes 2 p.len ++ leBytes p.len (parC s a)
/-- The parameter digest (R349, R446): classes 0 to 2 outside group 0x0C. -/
def parDigest (s : State) : Nat :=
  crc32c (((parAddrs s.ident.variant).filter fun a => decide (classOf a < 3) && decide (a / 256 ≠ 0x0C)).flatMap (digestEntry s))

/-- The partner's FLAGS bit or FINDINGS bit, from its last PEER_STATUS while the link is up. -/
def peerFlag (s : State) (i : Nat) : Bool := s.pair.linkUp && s.pair.peer.any fun p => testBit p.flags i
/-- A finding of the partner (Table 12-5). -/
def peerFinding (s : State) (i : Nat) : Bool := s.pair.linkUp && s.pair.peer.any fun p => testBit p.findings i
/-- PAIR_STAT.PARTNER_FIT (R345). -/
def partnerFit (s : State) : Bool := peerFlag s 2
/-- UPTIME at which the newest valid record of the module's buffers came. -/
def newestRecUp (s : State) : Option Nat :=
  match s.est.peerBufUp.zero, s.est.peerBufUp.one with
  | some a, some b => some (max a b)
  | some a, none => some a
  | none, b => b
/-- PAIR_STAT.SELF_FIT (R345); an owner writes its own records and so holds the newest. -/
def selfFit (s : State) : Bool :=
  running s && s.outr.hbGood && s.pair.stepsDone && s.pair.variantMatch && s.pair.linkUp &&
    (s.outr.owner || (newestRecUp s).any fun u => !passed s u (sec (parN s 0x0C01)))
/-- PAIR_STAT.REC_AGE in 0.1 s, 0 on the owner, 0xFF with no record (Table 12-9). -/
def recAge (s : State) : Nat :=
  if s.outr.owner then 0 else match newestRecUp s with
    | none => 0xFF
    | some u => sat 0xFF ((s.elec.uptime - u) / ms 100)
/-- FINDINGS of PEER_STATUS (Table 12-13). -/
def findings (s : State) : Nat :=
  bit s.front.fe.zero.isoOk + 2 * bit s.front.fe.one.isoOk + 4 * bit (s.ring.zero.lockA && s.ring.zero.lockB) +
    8 * bit (s.ring.one.lockA && s.ring.one.lockB) + 16 * bit (s.grid.u0.accepted || s.grid.u1.accepted)

/-! ### Heartbeat (R327, R331) -/

/-- The answer that CHAL asks for: rotated left by 3, XOR 0x5C. -/
def hbAnswer (chal : Nat) : Nat := (chal * 8 % 256 + chal / 32) ^^^ 0x5C
/-- One step of the challenge's shift register. -/
def hbNext (chal : Nat) : Nat :=
  chal * 2 % 256 + bit (testBit chal 7 != (testBit chal 5 != (testBit chal 4 != testBit chal 3)))
/-- A clockless or restart hold suspends the heartbeat judgement (R330). -/
def hbSuspended (s : State) : Bool := s.outr.hold == .clockless || s.outr.hold == .restart
/-- The heartbeat fails: 1 wrong answer, 2 early, 3 late; an owner releases to a READY partner, or begins a heartbeat hold (R330, R331). -/
def hbFails (s : State) (kind : Nat) : State :=
  let s := { s with outr := { s.outr with
    hbGood := false, hbFail := true, failCnt := sat 0xFF (s.outr.failCnt + 1), goodRun := 0, timed := false } }
  let s := raiseOrDefer s 195 (u8 kind ++ u8 s.outr.chal)
  if !s.outr.owner then s
  else if s.outr.partnerReady then releaseLine s
  else if s.outr.hold = .none then beginHold s .heartbeat
  else s
/-- An accepted answer: CHAL advances, and the third in a row makes the heartbeat GOOD. -/
def hbAccept (s : State) : State :=
  let run := min 3 (s.outr.goodRun + 1)
  { s with outr := { s.outr with
    chal := hbNext s.outr.chal, goodRun := run, hbGood := s.outr.hbGood || run == 3, timed := true } }

/-! ### The ownership line (R328, R340 to R343, R504) -/

/-- The outrider asserts the line and enters the takeover hold: t0 is the instant the line read free (R328, R350). -/
def assertTakeover (s : State) (retake : Bool) : State :=
  let s := { s with
    outr := { s.outr with asserting := true, released := none },
    pair := { s.pair with t0 := some (s.elec.uptime, stampNow s), retake := retake } }
  beginHold s .takeover
/-- The processor holds the role standby, its arbitration is done and its heartbeat GOOD (R48, R328). -/
def mayAssert (s : State) : Bool :=
  running s && s.pair.role == .standby && decide (7 ≤ s.elec.step) && s.outr.hbGood && !s.outr.asserting
/-- An outrider that may assert takes a line that reads free (R48, R328); not after its own release, until the partner has owned the line
(R504). -/
def takeFreeLine (s : State) : State :=
  if mayAssert s && s.outr.line == .free && s.outr.released.isNone && !s.outr.owner then assertTakeover s false else s

/-- HEARTBEAT_ANSWER (R48, R327): an answer `elapsedUs` after the one accepted before it. A standby whose heartbeat becomes GOOD while the line
is still free asserts. -/
def execHeartbeatAnswer (answer elapsedUs : Nat) (s : State) : Host.Outcome State Fault Refusal :=
  .next (
    if !running s then s
    else if hbSuspended s then { s with outr := { s.outr with timed := false } }
    else if answer ≠ hbAnswer s.outr.chal then hbFails s 1
    else if s.outr.timed && decide (elapsedUs < 2000) then hbFails s 2
    else if s.outr.timed && decide (20000 < elapsedUs) then hbFails s 3
    else takeFreeLine (hbAccept s))

/-- HEARTBEAT_LATE (R327): the latest bound passes without an answer. -/
def execHeartbeatLate (s : State) : Host.Outcome State Fault Refusal :=
  .next (if s.elec.powered && s.outr.timed && !hbSuspended s then hbFails s 3 else s)

/-- PARTNER_READY_CHANGE (R331): in a heartbeat hold the owner releases once its partner is READY. -/
def execPartnerReadyChange (ready : Bool) (s : State) : Host.Outcome State Fault Refusal :=
  .next (
    if !s.elec.powered then s
    else
      let s := { s with outr := { s.outr with partnerReady := ready } }
      if ready && s.outr.owner && s.outr.hold == .heartbeat then releaseLine s else s)

/-- OWNERSHIP_LINE_FREE (R328): not after this outrider's own release, until the partner has owned the line (R504). -/
def execOwnershipLineFree (s : State) : Host.Outcome State Fault Refusal :=
  .next (
    if !s.elec.powered || s.outr.owner then s
    else
      takeFreeLine { s with outr := { s.outr with line := .free } })

/-- The module becomes active at power-up step 6 (R33). -/
def arbitrateActive (s : State) : State :=
  canActiveBoth (setRole { s with elec := { s.elec with step := 7 }, pair := { s.pair with arbitrating := false } } .active)

/-- OWNER_QUALIFIED (R33, R48, R329, R341): the outrider has asserted and read its own level for 1 µs; where it asserted under the arbitration of
step 6 the module is active from here. STATE of both strings is this module's to judge from now on (R326; log 161). -/
def execOwnerQualified (s : State) : Host.Outcome State Fault Refusal :=
  .next (
    if s.elec.powered && s.outr.asserting && !s.outr.owner then
      let s := settleCoils { s with outr := { s.outr with owner := true, line := ownReading s, block := false } }
      let s := judgeState (judgeState s .zero) .one
      if running s && s.pair.arbitrating && s.pair.role != .isolated then arbitrateActive s else s
    else s)

/-- RELEASE_OVERLAP_END (R331): the releasing outrider stops driving; with no partner that asserts, the coils fall open. -/
def execReleaseOverlapEnd (s : State) : Host.Outcome State Fault Refusal :=
  .next (
    if !s.outr.overlap then s
    else
      let s := { s with outr := { s.outr with overlap := false } }
      if partnerOwns s then s
      else
        let off (p : ProtState) : ProtState :=
          p.allCoils fun k => { k with a := .mid, b := .mid, energised := false, holdBit := false }
        { s with prot := s.prot.map off })

/-- RELEASE_RETAKE (R504): not earlier than 2 s after a release that no partner took up. -/
def execReleaseRetake (s : State) : Host.Outcome State Fault Refusal :=
  .next (
    if s.elec.powered && mayAssert s && s.outr.line == .free && s.outr.released.any (fun u => passed s u (sec 2)) then
      let s := match s.pair.req with
        | none => s
        | some q => q.ids.foldl (fun s i => endLong s i .failed 0 []) { s with pair := { s.pair with req := none } }
      assertTakeover s true
    else s)

/-- The cycle:tick of a release in the layout of T_ACCEPT and the partner's slot, which HANDOVER ends with (Table 14-16). -/
def handoverResult (s : State) (at_ : Nat) : List Byte := u64 (stampOf at_).word ++ u8 (bit (!s.elec.slotB))

/-- The line comes to be read owned by the partner: arbitration sees it, a release is taken up, and its HANDOVERs end (R48, R352, R504). -/
def partnerAsserts (s : State) : State :=
  let s := { s with outr := { s.outr with seenOwned := true, released := none } }
  match s.pair.req with
  | some q =>
    if q.gone then
      q.ids.foldl (fun s i => endLong s i .ok 0 (handoverResult s q.at_)) { s with pair := { s.pair with req := none } }
    else s
  | none => s

/-- Slot B loses a tie: it releases the line, its hold ends, and an arbitration in progress ends with the role standby (R48, R341, R342). -/
def loseTie (s : State) : State :=
  let c := s.outr.hold
  let s := { s with outr := { s.outr with asserting := false, hold := .none },
                    elec := { s.elec with step := if s.pair.arbitrating then 7 else s.elec.step },
                    pair := { s.pair with t0 := none, retake := false, arbitrating := false } }
  if c = .none then s else raiseOrDefer s 196 (u8 c.evCode ++ u8 (heldMask s) ++ u8 0 ++ u8 3)

/-- The line reading is a line fault (R343). -/
def lineFaulty (s : State) (line : OwnLine) : Bool :=
  !s.outr.asserting &&
    ((line == .aOwns && !s.elec.slotB) || (line == .bOwns && s.elec.slotB && !s.pair.present))
/-- Level of the line in EV 048: 0 free, 1 A owns, 2 B owns. -/
def OwnLine.code : OwnLine → Nat
  | .free => 0
  | .aOwns => 1
  | .bOwns => 2

/-- A line fault is set and reported with the level read and the own drive (R343). -/
def lineFault (s : State) (line : OwnLine) : State :=
  raiseOrDefer { s with pair := { s.pair with lineFault := true } } 48 (u8 (OwnLine.code line) ++ ub s.outr.asserting)

/-- OWNERSHIP_LINE_ASSERTED (R341, R343): the line comes to an owned level; an older RELEASE then names no takeover (log 166). -/
def execOwnershipLineAsserted (line : OwnLine) (s : State) : Host.Outcome State Fault Refusal :=
  .next (
    if !s.elec.powered || line == .free then s
    else
      let faulty := lineFaulty s line
      let was := s.outr.line
      let s := { s with outr := { s.outr with line := line } }
      if faulty then lineFault s line
      else if line == partnerReading s then
        let s := if s.elec.slotB && s.outr.asserting && !s.outr.owner then loseTie s else s
        partnerAsserts { s with pair := { s.pair with reason := if was == line then s.pair.reason else none } }
      else s)

/-! ### Holds (R330, R332, R333) -/

/-- The latch of HOLD_EXP on one string. -/
def expireString (s : State) (x : Ix) : State :=
  let s := openToWeld (modProt s x fun p => { p with holdExp := true, report := p.report ||| 0x40 }) x
  let s := dropHoldBits s x
  let s := if s.elec.fw then abortClose (dropReqs s x) x 1 else s
  ownState s x .tripped 2

/-- HOLD_EXPIRY (R62, R330): the strap time, or 10 s of a restart hold, has passed; every coil is de-energised. -/
def execHoldExpiry (s : State) : Host.Outcome State Fault Refusal :=
  .next (
    let c := s.outr.hold
    if !s.elec.powered || c == .none then s
    else
      let mask := heldMask s
      let s := raiseOrDefer { s with outr := { s.outr with hold := .none } } 196 (u8 c.evCode ++ u8 mask ++ u8 0 ++ u8 2)
      let s := { s with pair := { s.pair with t0 := none } }
      settleCoils (expireString (expireString s .zero) .one))

/-- The takeover gap may end: a TICK_SUM has come for each enabled string, or 96 ticks have passed (R332, R353). -/
def gapMayEnd (s : State) : Bool :=
  (enabledStrings s).all (fun x => (s.prot.get x).seen) ||
    s.pair.t0.any fun t => decide (t.1 + (96 * s.grid.period).floor.toNat ≤ s.elec.uptime)
/-- The new active adopts what the partner last said of a string (R356). -/
def adoptTrips (s : State) (x : Ix) : State :=
  match s.pair.peer with
  | none => s
  | some r =>
    let t := r.str.get x
    modProt s x fun p =>
      { p with procTrip := testBit t.1 0, procCause := t.2.1, inhAdopted := testBit t.1 2 }

/-- The acknowledgement itself: the requests take the hold bits, then the hold ends (R332, R356). -/
def acknowledge (s : State) : State :=
  let take (p : ProtState) : ProtState :=
    { p.allCoils (fun k => { k with reqHs := k.holdBit, reqLs := k.holdBit, hsDone := false, lsDone := false,
                                     hsUp := s.elec.uptime, lsUp := s.elec.uptime }) with proofSinceAck := false }
  let took := s.outr.hold == .takeover
  let s := { s with prot := s.prot.map take }
  let s := if took then adoptTrips (adoptTrips s .zero) .one else s
  let s := endHold s 1 (if took then 5 else 3)
  if took then
    { s with pair := { s.pair with
        gap := match s.pair.t0 with
          | some t => sat 0xFFFF ((s.elec.uptime - t.1) / us 1)
          | none => s.pair.gap,
        t0 := none } }
  else s

/-- HOLD_ACK (R332): a takeover hold within the gap, a heartbeat hold once the heartbeat is GOOD, a restart hold after step 8. -/
def execHoldAck (s : State) : Host.Outcome State Fault Refusal :=
  .next (
    let ready := match s.outr.hold with
      | .takeover => isActive s && s.outr.owner && gapMayEnd s
      | .heartbeat => s.outr.hbGood
      | .restart => decide (9 ≤ s.elec.step)
      | .clockless => false
      | .none => false
    if running s && ready then acknowledge s else s)

/-- HOLD_DROP (R330): the firmware clears the hold bits of a string. -/
def execHoldDrop (string : Ix) (s : State) : Host.Outcome State Fault Refusal :=
  .next (if running s then dropHoldBits s string else s)

/-! ### Giving up the active role -/

/-- Sequences of a string end with the ownership: STRING_CLOSE FAILED with cause 3, STRING_OPEN FAILED (R324, Table 14-16). -/
def endSequences (s : State) (x : Ix) : State :=
  let closing := ((s.prot.get x).close).isSome
  let s := abortClose s x 3
  let s := if closing then ownState s x .opened 8 else s
  let p := s.prot.get x
  let ids := ((p.openSeq.map (·.ids)).getD []) ++ (p.weldFor.getD [])
  let s := modProt s x fun p => { p with openSeq := none, weldFor := none }
  ids.foldl (fun s i => endLong s i .failed 0 []) s
/-- Rings are driven no more: no command awaits its reply, no trigger is under way (R29). -/
def quietRing (c : RingState) : RingState :=
  { c with txns := [], trigSent := none, trigFirst := none, sumDue := none, sumHalf := none }
/-- Only the active module judges a string and publishes its limits (R307, R310): what it counts starts afresh with the role, its latches stand as
they are. -/
def freshJudgements (p : ProtState) : ProtState :=
  { p with seen := false, blindUp := none, confirm := List.replicate 11 0, suspectRun := List.replicate 5 0, close := none,
           openSeq := none, vmax := 0, vmin := 0, lMin := 0, lMax := 0 }

/-- Estimators, fusion and Hold stop (Table 1-5); records received, the highest SEQ and the model stay. -/
def stopEngines (s : State) : State :=
  -- an open learning cycle ends with the role (Table 7-4)
  let s := disqualify (disqualify s .zero 5 s.grid.now 0 0) .one 5 s.grid.now 0 0
  let s := stopLoops s
  setSeed { s with
    est := { maxSeq := max s.est.maxSeq s.est.lastSeq, peerBuf := s.est.peerBuf, peerBufUp := s.est.peerBufUp, mirror := s.est.mirror,
             seed := s.est.seed },
    prot := s.prot.map freshJudgements,
    fus := { model := s.fus.model, modelStaged := s.fus.modelStaged, modelDue := s.fus.modelDue },
    hold := { mode := s.hold.mode, pSet := s.hold.pSet, qSet := s.hold.qSet },
    ring := s.ring.map quietRing } false
/-- An active module takes another role (R33, R44): buses listen only, Hold off, no longer angle source, the line released; its requests
end with its drive. -/
def giveUp (s : State) (role : Role) : State :=
  let was := isActive s
  let s := if was then endSequences (endSequences s .zero) .one else s
  let s := canSilent s
  let s := if was then setHold s .off 2 else s
  let s := setRole { s with grid := { s.grid with head := false, yielding := false }, outr := { s.outr with block := false } } role
  let s := if was then stopEngines s else if role = .isolated then setSeed s false else s
  let s := if s.outr.owner || s.outr.asserting then releaseLine s else s
  dropReqs (dropReqs s .zero) .one

/-- The module becomes isolated for a reason: 1 variant, 2 self-test, 3 command; an arbitration in progress ends with it (Table 1-4). -/
def goIsolated (s : State) (reason : Nat) : State :=
  let s := giveUp s .isolated
  { s with elec := { s.elec with isolation := reason, step := if s.pair.arbitrating then 7 else s.elec.step },
           pair := { s.pair with arbitrating := false } }

/-- Payload of a RELEASE frame (Table 12-13). -/
def releaseBytes (reason at_ : Nat) : List Byte := [toByte reason, 0] ++ beBytes 8 (stampOf at_).word
/-- The first holding-period boundary at least 2 ticks ahead (R352). -/
def releaseAt (s : State) : Nat :=
  let h := max 1 (holdPeriod s)
  if s.grid.on then (s.grid.now + 2 + h - 1) / h * h else 0
/-- An orderly release is accepted: RELEASE names its boundary; a second request is absorbed in one in progress (R352). -/
def requestRelease (s : State) (cause : Nat) (ids : List Nat) : State :=
  match s.pair.req with
  | some q => { s with pair := { s.pair with req := some { q with ids := q.ids ++ ids } } }
  | none =>
    let at_ := releaseAt s
    emit { s with pair := { s.pair with req := some { cause := cause, at_ := at_, ids := ids, gone := false } } }
      (.peer 0x36 (releaseBytes cause at_))
/-- An orderly release that is refused: EV 047 with the reason and the partner's findings (R352; log 162). -/
def refuseRelease (s : State) (cause : Nat) : State :=
  raise s 47 (u8 cause ++ u8 ((s.pair.peer.map (·.findings)).getD 0))

/-- HANDOVER (R352, R361). -/
def execHandover (h : Hdr) (s : State) : Host.Outcome State Fault Refusal :=
  .next (
    if !hostReady s h then s
    else if !(s.outr.owner && isActive s) then respond s h 0x0020 .refused 2
    else if !partnerFit s then refuseRelease (respond s h 0x0020 .refused 1) 3
    else
      let (id, s) := acceptLong s h 0x0020
      requestRelease s 3 [id])

/-- ORDERLY_RELEASE (R352): at the boundary the owner silences its buses and links, releases the line and becomes standby; an
activation then restarts it (R461). -/
def execOrderlyRelease (s : State) : Host.Outcome State Fault Refusal :=
  .next (
    match s.pair.req with
    | none => s
    | some q =>
      if running s && isActive s && s.outr.owner && !q.gone && (!s.grid.on || decide (q.at_ ≤ s.grid.now)) then
        let s := giveUp s .standby
        let s := { s with pair := { s.pair with req := some { q with gone := true } } }
        if s.upd.leaving.any (fun l => l.1 == 1) then leaveNow s else s
      else s)

/-- The immediate release after a failed runtime self-test (R351): RELEASE with reason 2 at the current tick, then isolated. -/
def failSelfTest (s : State) : State :=
  let s := { s with elec := { s.elec with selfTestOk := false } }
  let s := if isActive s then emit s (.peer 0x36 (releaseBytes 2 s.grid.now)) else s
  goIsolated s 2

/-- The module's own finding of Table 12-5 has held for its time, and the partner's lets it release. -/
def selfFindingHolds (s : State) (f : SelfFinding) (x : Ix) : Bool :=
  let cycles (o : Option Nat) : Bool := o.any fun n => decide (n + 128 * parN s 0x0C03 ≤ s.grid.now)
  match f with
  | .isoLost => strEnabled s x && !(s.front.fe.get x).isoOk && (s.pair.isoLost.get x).any (fun u => passed s u (ms 10)) && peerFinding s x.num
  | .ringLost => strEnabled s x && !(s.ring.get x).lockA && !(s.ring.get x).lockB && cycles (s.pair.ringLost.get x) && peerFinding s (2 + x.num)
  | .noStream => !s.grid.u0.accepted && !s.grid.u1.accepted && cycles s.pair.streamLost && peerFinding s 4
  | .selfTest => true

/-- SELF_RELEASE (R351): the finding has held for its time. -/
def execSelfRelease (finding : SelfFinding) (string : Ix) (s : State) : Host.Outcome State Fault Refusal :=
  .next (
    if !running s then s
    else if finding == .selfTest then failSelfTest s
    else if isActive s && s.outr.owner && testBit (parN s 0x0C02) finding.bitNo && partnerFit s && selfFindingHolds s finding string then
      requestRelease s 2 []
    else s)

/-- EJECTOR_OPEN (R360). -/
def execEjectorOpen (s : State) : Host.Outcome State Fault Refusal :=
  .next (
    if !s.elec.powered then s
    else
      let s := { s with pair := { s.pair with eject := true } }
      if running s && isActive s && s.outr.owner && parN s 0x0C04 == 1 then
        (if partnerFit s then requestRelease s 5 []
         else refuseRelease { s with pair := { s.pair with ejectRefused := true } } 5)
      else s)

/-- PARTNER_PRESENCE (R343, R359): EV 046 with the partner's ROLE at the change; without a partner, a line read as its own by slot B is faulty. -/
def execPartnerPresence (present : Bool) (s : State) : Host.Outcome State Fault Refusal :=
  .next (
    if !s.elec.powered || s.pair.present == present then s
    else
      let s := { s with pair := { s.pair with present := present } }
      let s := raiseOrDefer s 46 (ub present ++ u8 ((s.pair.peer.map (·.role)).getD 0))
      if lineFaulty s s.outr.line && !s.pair.lineFault then lineFault s s.outr.line else s)

/-- ISOLATE (R33, R403). -/
def execIsolate (h : Hdr) (s : State) : Host.Outcome State Fault Refusal :=
  .next (
    if !hostReady s h then s
    else if s.pair.role == .isolated then respond s h 0x0021 .refused 1
    else respondOk (goIsolated s 3) h 0x0021 [])

/-- REJOIN (R33, R403): accepted only when the cause of isolation has cleared. -/
def execRejoin (h : Hdr) (s : State) : Host.Outcome State Fault Refusal :=
  .next (
    if !hostReady s h then s
    else if s.pair.role != .isolated then respond s h 0x0022 .refused 3
    else if s.pair.peer.isSome && !s.pair.variantMatch then respond s h 0x0022 .refused 1
    else if !s.elec.selfTestOk then respond s h 0x0022 .refused 2
    else respondOk (takeFreeLine (setRole { s with elec := { s.elec with isolation := 0 } } .standby)) h 0x0022 [])

/-! ### The peer link (R346 to R349, R505) -/

/-- FLAGS, PROC_CAUSE and STATE of a string in PEER_STATUS (Table 12-13). -/
def peerString (s : State) (x : Ix) : List Byte :=
  let p := s.prot.get x
  [toByte (bit p.procTrip + 2 * bit p.outrTrip + 4 * bit (closeInhibit s x)), toByte p.procCause, toByte p.st.code, 0]
/-- Payload of PEER_STATUS (Table 12-13). -/
def peerStatusBytes (s : State) : List Byte :=
  [toByte (bit s.elec.slotB), toByte s.pair.role.code,
   toByte (bit s.outr.owner + 2 * bit s.outr.hbGood + 4 * bit (selfFit s) + 8 * bit s.grid.sync), toByte s.ident.variant] ++
  beBytes 8 (if s.elec.fw then s.upd.running else 0) ++ [toByte (updState s).code, toByte (findings s), 0, 0] ++
  beBytes 4 (parDigest s) ++ peerString s .zero ++ peerString s .one ++ [0, 0, 0, 0]

/-- PEER_STATUS_SEND (R346): every 10 ms, in the boot loader too. -/
def execPeerStatusSend (s : State) : Host.Outcome State Fault Refusal :=
  .next (if clocked s && (s.elec.fw || s.elec.loader) then emit s (.peer 0x30 (peerStatusBytes s)) else s)

/-- The content of a PEER_STATUS. -/
def readPeerStatus (b : List Byte) : PeerRec :=
  let str (o : Nat) : Nat × Nat × Nat := (byteAt b o, byteAt b (o + 1), byteAt b (o + 2))
  { slotB := byteAt b 0 == 1, role := byteAt b 1, flags := byteAt b 2, variant := byteAt b 3, version := beAt b 4 8, upd := byteAt b 12,
    findings := byteAt b 13, digest := beAt b 16 4, str := { zero := str 20, one := str 24 } }

/-- On a module that does not own the line a string reads the partner's STATE, and its nodes and hold bits follow the partner's drive
(R326, R330). -/
def followPartner (st : StrState) (p : ProtState) : ProtState :=
  let coil (on : Bool) (k : CoilState) : CoilState :=
    { k with a := if on then .high else .mid, b := if on then .low else .mid, holdBit := on, energised := on }
  match st with
  | .closed => { p with st := st, kPos := coil true p.kPos, kNeg := coil true p.kNeg, pre := coil false p.pre }
  | .opening => { p with st := st, kPos := coil true p.kPos, kNeg := coil true p.kNeg, pre := coil false p.pre }
  | .precharge => { p with st := st, kPos := coil false p.kPos, kNeg := coil true p.kNeg, pre := coil true p.pre }
  | .held => { p with st := st }
  | .opened => { p with st := st, kPos := coil false p.kPos, kNeg := coil false p.kNeg, pre := coil false p.pre }
  | .tripped => { p with st := st, kPos := coil false p.kPos, kNeg := coil false p.kNeg, pre := coil false p.pre }
/-- A non-owner takes the partner's STATE of both strings, and the drive it implies unless its own outrider asserts or drives on. -/
def mirrorStates (s : State) (r : PeerRec) : State :=
  if s.outr.owner then s
  else if s.outr.asserting || s.outr.overlap then readPartner s
  else
    let f (x : Ix) : ProtState := followPartner (StrState.decode (r.str.get x).2.2) (s.prot.get x)
    { s with prot := { zero := f .zero, one := f .one } }

/-- PEER_STATUS (R9, R345, R346, R349): the first one brings the link up; a different variant raises EV 041 and isolates the module, or keeps
isolated one that is so already. -/
def execPeerStatus (f : PeerFrame) (s : State) : Host.Outcome State Fault Refusal :=
  .next (
    if !(clocked s && (s.elec.fw || s.elec.loader)) then s
    else if !f.good 0x30 (· == 32) then discardPeer s
    else
      let r := readPeerStatus f.payload
      let was := s.pair.linkUp
      let agreed := s.pair.peer.isNone || s.pair.variantMatch
      let same := r.digest == parDigest s
      let s := { s with pair := { s.pair with
        peer := some r, linkUp := true, variantMatch := r.variant == s.ident.variant, imageMatch := r.version == s.upd.running,
        paramMatch := s.pair.paramMatch || same, digestUp := if same then none else some (s.pair.digestUp.getD s.elec.uptime) } }
      let s := if was then s else raiseOrDefer s 45 (u8 1 ++ u16 s.pair.disc)
      let s := mirrorStates s r
      if running s && r.variant != s.ident.variant && decide (7 ≤ s.elec.step) then
        (if s.pair.role = .isolated then (if agreed then raise s 41 [] else s) else goIsolated (raise s 41 []) 1)
      else s)

/-- PEER_LINK_DOWN (R346): a non-owner then reads STATE OPEN (R326). -/
def execPeerLinkDown (s : State) : Host.Outcome State Fault Refusal :=
  .next (
    if !s.elec.powered || !s.pair.linkUp then s
    else
      let s := { s with pair := { s.pair with linkUp := false, downCnt := sat 0xFFFF (s.pair.downCnt + 1) } }
      let s := raiseOrDefer s 45 (u8 0 ++ u16 s.pair.disc)
      readPartner { s with pair := { s.pair with digestUp := none } })

/-- PAIR_PARAM_MISMATCH (R349): the digests have differed for 1 s; EV 043 once each time (log 166). -/
def execPairParamMismatch (s : State) : Host.Outcome State Fault Refusal :=
  .next (
    match s.pair.peer with
    | none => s
    | some r =>
      let own := parDigest s
      if running s && s.pair.linkUp && r.digest != own && s.pair.digestUp.any (fun u => passed s u (sec 1)) then
        raiseOnce { s with pair := { s.pair with paramMatch := false } } 43 0 (s.pair.digestUp.getD 0) (u32 own ++ u32 r.digest)
      else s)

/-- The estimation registers of a standby, from the newest valid record (R497). -/
def mirrorOf (b : List Byte) (x : Ix) : Nat × Nat × F32 × F32 × F32 :=
  let o := strOff x
  (leAt b (o + 16) 2, socCode (f32At b (o + 20)), f32At b o, f32At b (o + 24), f32At b (o + 8))
/-- The mirror after a write of a record buffer: the valid record of higher SEQ. -/
def mirrorRecords (s : State) : State :=
  let v (k : Ix) : Option (List Byte) := if (s.est.peerBufUp.get k).isSome then some (peerRecord s k) else none
  match (match v .zero, v .one with
    | some a, some b => some (if recSeq a < recSeq b then b else a)
    | some a, none => some a
    | none, b => b) with
  | none => s
  | some b =>
    let seeded (x : Ix) : Bool := testBit (leAt b (strOff x + 34) 2) 1
    setSeed { s with est := { s.est with mirror := { zero := mirrorOf b .zero, one := mirrorOf b .one } } } ((enabledStrings s).all seeded)

/-- STATE_REC (R348): the standby writes the frame into the named buffer; the buffer is valid once VALID matches SEQ and the CRC holds. -/
def execStateRec (f : PeerFrame) (s : State) : Host.Outcome State Fault Refusal :=
  .next (
    if !running s || s.outr.owner then s
    else if !f.good 0x32 (fun n => decide (5 ≤ n) && decide (n ≤ 2045)) then discardPeer s
    else
      let buf := byteAt f.payload 0
      let off := beAt f.payload 1 4
      let data := f.payload.drop 5
      if 1 < buf ∨ 43264 < off + data.length then s
      else
        let k := Ix.ofNum buf
        let m := Mem.writeAll 0 (s.est.peerBuf.get k) off data
        let s := { s with est := { s.est with peerBuf := s.est.peerBuf.set k m } }
        let ok := recIntact (peerRecord s k)
        let s := { s with est := { s.est with peerBufUp := s.est.peerBufUp.set k (if ok then some s.elec.uptime else none) } }
        if ok then mirrorRecords s else s)

/-- One entry of a UNIT_TABLE frame. -/
def readUnit (b : List Byte) (old : List UnitState) (i : Nat) : UnitState :=
  let o := 6 + 16 * i
  let u : UnitState := { addr := byteAt b o, gen16 := byteAt b (o + 1) == 0x16, serial := beAt b (o + 2) 8, dlyF := beAt b (o + 10) 2,
                         dlyR := beAt b (o + 12) 2, pop := beAt b (o + 14) 2 }
  match old.find? fun v => v.addr == u.addr && v.serial == u.serial && v.gen16 == u.gen16 with
  | some v => { v with dlyF := u.dlyF, dlyR := u.dlyR, pop := u.pop }
  | none => u
/-- UNIT_TABLE (R49, R104, R347): the standby holds the owner's unit table. -/
def execUnitTable (f : PeerFrame) (s : State) : Host.Outcome State Fault Refusal :=
  .next (
    if !running s || s.outr.owner then s
    else if !(f.good 0x33 (fun n => n == 6 + 16 * byteAt f.payload 1) && decide (byteAt f.payload 1 ≤ 32)) then discardPeer s
    else
      let b := f.payload
      let n := byteAt b 1
      if 1 < byteAt b 0 then s
      else
        modCar s (Ix.ofNum (byteAt b 0)) fun c =>
          let us := (List.range n).map (readUnit b c.units)
          { c with units := us, count := n, lRing := beAt b 2 4, enumDone := decide (0 < n), known := true, enumFrom := none,
                   oldSerials := us.map fun u => (u.addr, u.serial), served := decide (0 < n),
                   compat := decide (0 < n) && us.all fun u => !u.gen16 })

/-- HOP_COMP (R49, R344): the standby takes the owner's delays and depth. -/
def execHopComp (f : PeerFrame) (s : State) : Host.Outcome State Fault Refusal :=
  .next (
    if !running s || s.outr.owner then s
    else if !f.good 0x34 (· == 16) then discardPeer s
    else
      let b := f.payload
      let d0 := beAt b 0 4
      let d1 := beAt b 4 4
      let depth := beAt b 8 2
      let sel := byteAt b 10
      let s := { s with pair := { s.pair with hop := some (d0, d1, depth, sel, byteAt b 11) } }
      if s.elec.step < 8 then s
      else { s with grid := { s.grid with
        depth := depth, u0 := { s.grid.u0 with d := d0, dGoal := d0 }, u1 := { s.grid.u1 with d := d1, dGoal := d1 } } })

/-- The content of a HOLD_STATE frame (Table 12-13). -/
def readHoldState (b : List Byte) : HoldCopy :=
  { vote := byteAt b 2, convicted := byteAt b 3, pTot := bfAt b 4, qTot := bfAt b 8, pSet := bfAt b 12, qSet := bfAt b 16,
    sums := (beAt b 20 4, beAt b 24 4, beAt b 28 4), outs := (List.range 8).map fun k => bfAt b (32 + 4 * k),
    voted := (List.range 5).map fun k => bfAt b (64 + 4 * k), outvotes := (List.range 3).map fun k => byteAt b (84 + k),
    rehab := (List.range 3).map fun k => beAt b (88 + 2 * k) 2 }
/-- HOLD_STATE (R296, R344): the standby of a head position keeps the lead's state. -/
def execHoldState (f : PeerFrame) (s : State) : Host.Outcome State Fault Refusal :=
  .next (
    if !running s || s.outr.owner then s
    else if !f.good 0x35 (· == 96) then discardPeer s
    else { s with hold := { s.hold with copy := some (readHoldState f.payload) } })

/-- RELEASE (R350): the reason of the last RELEASE frame. -/
def execRelease (f : PeerFrame) (s : State) : Host.Outcome State Fault Refusal :=
  .next (
    if !running s then s
    else if !f.good 0x36 (· == 10) then discardPeer s
    else { s with pair := { s.pair with reason := some (byteAt f.payload 0) } })

/-- PEER_ECHO_REQ (R75, R505): the owner of an angle-source position answers 1,200 ns later, unless inside a waymark frame. -/
def execPeerEchoReq (f : PeerFrame) (inWaymark : Bool) (s : State) : Host.Outcome State Fault Refusal :=
  .next (
    if !running s then s
    else if !f.good 0x37 (· == 4) then discardPeer s
    else if drives s && s.grid.head && !inWaymark then
      emit s (.peer 0x38 (echoPayload s (byteAt f.payload 2) (byteAt f.payload 3)))
    else s)

/-- PEER_ECHO_REP (R74, R75, R505). -/
def execPeerEchoRep (f : PeerFrame) (rtt : Nat) (s : State) : Host.Outcome State Fault Refusal :=
  .next (
    if !running s then s
    else if !f.good 0x38 (· == 18) || byteAt f.payload 1 != 2 then discardPeer s
    else takeEcho s .peer f.payload rtt)

/-! ### The takeover (R353 to R357) -/

/-- Cause of a takeover (R350, R504). -/
def takeoverCause (s : State) : Nat :=
  if s.pair.retake then 4 else match s.pair.reason with
    | some r => r
    | none => if s.pair.present && s.pair.linkUp then 1 else 4

/-- The hold state taken from the owner's last HOLD_STATE (R296). -/
def takeHoldCopy (s : State) : State :=
  match s.hold.copy with
  | none => s
  | some c =>
    let set3 (k : Nat) : SetRec :=
      { outvoted := c.outvotes.getD k 0, convicted := testBit c.convicted k, rehab := c.rehab.getD k 0 }
    { s with hold := { s.hold with
      pSet := c.pSet, qSet := c.qSet, pTot := c.pTot, qTot := c.qTot, sums := c.sums, sumsValid := true,
      voted := if (c.voted.take 4).all F32.isFinite then some c.voted else none, setsValid := c.vote % 8, voteMode := c.vote / 8 % 4,
      contested := testBit c.vote 5, sets3 := [set3 0, set3 1, set3 2] } }
/-- Control slots start at the first due tick of the new active, with the value that START names (R261, R353); until then a slot's output is that
value, which for the thermal nodes is the command last heard (R245). -/
def startSlots (s : State) : State :=
  let one (n : Nat) (sl : SlotState) : SlotState :=
    let v := (if byteAt (slotCfg s n) 26 = 1 then slotHeard s n else none).getD (slotFallback s n)
    { sl with start := 3, startVal := v, out := v, tracking := false, validFrom := none, badFrom := none, badInput := 0 }
  { s with ctl := { s.ctl with slots := s.ctl.slots.zipIdx.map fun p => one p.2 p.1 } }
/-- String demands start at the last setpoint heard (R293). -/
def startDemands (s : State) : State :=
  let p (x : Ix) : Rat := (((s.can.pcs.get x).heard.map fun h => F32.toRat h.1).getD 0 : Rat)
  let q (x : Ix) : Rat := (((s.can.pcs.get x).heard.map fun h => F32.toRat h.2).getD 0 : Rat)
  { s with hold := { s.hold with p := { zero := p .zero, one := p .one }, q := { zero := q .zero, one := q .one },
                                 fracUp := s.elec.uptime, began := false } }
/-- The ticks since the newest entry of the own history, which await propagation as one interval (R198, R225). -/
def ticksSince (s : State) : List PendTick :=
  match s.front.fe.zero.history.head? with
  | none => []
  | some h =>
    let q1 := ((s.front.fe.one.history.head?).map (·.q)).getD 0
    let ts := (s.front.hist.filter fun t => decide (128 * h.cycle ≤ t.at_) && decide (t.at_ < s.grid.now)).reverse
    let dq (a b : Int) : Rat := ((a - b : Int) : Rat) / (2 ^ 32 * 1000000000)
    (ts.foldl (fun (acc : List PendTick × Int × Int) t =>
      let dt : Rat := (t.len : Rat) / 8000000000
      let q : Two Rat := { zero := dq t.fe.zero.q acc.2.1, one := dq t.fe.one.q acc.2.2 }
      (acc.1 ++ [{ at_ := t.at_, len := t.len, up := s.elec.uptime, q := q,
                   chg := { zero := tickCharge s .zero t q.zero dt, one := tickCharge s .one t q.one dt } }],
        t.fe.zero.q, t.fe.one.q)) ([], h.q, q1)).1
/-- The restore of R225 or R357, with the ticks since then to be propagated. -/
def takeUpEstimates (s : State) : State :=
  let s := restoreTakeover s
  let bridged := s.est.restored && (enabledStrings s).all fun x => (s.front.fe.get x).history.any fun q => q.cycle == s.pair.recCycle
  if bridged then { s with est := { s.est with pend := ticksSince s } } else s

/-- The role and the links are taken up. -/
def becomeActive (s : State) : State :=
  let headPos := s.grid.peer.accepted || (s.hold.copy.isSome && s.pair.hop.any fun h => h.2.2.2.2 % 4 == 0)
  let s := setRole { s with
    outr := { s.outr with block := false },
    prot := s.prot.map freshJudgements, elec := { s.elec with step := 12 },
    ring := s.ring.map quietRing,
    fus := { model := s.fus.model, modelStaged := s.fus.modelStaged, modelDue := s.fus.modelDue,
             startCycle := some (curCycle s - 2 + bit (decide (65 < curTick s))) } } .active
  let s := takeHoldCopy s
  let s := if headPos then becomeHead s 2 else s
  let s := if s.grid.sync then setHold s (configuredHold s) 2 else s
  canActiveBoth s

/-- TAKEOVER (R353 to R357): the processor reads OWNER = 1. -/
def execTakeover (s : State) : Host.Outcome State Fault Refusal :=
  .next (
    if !(running s && s.outr.owner && s.pair.role == .standby && decide (7 ≤ s.elec.step)) then s
    else
      let cause := takeoverCause s
      let s := { s with pair := { s.pair with recCycle := 0 } }
      let s := takeUpEstimates (startDemands (startSlots (becomeActive s)))
      let s := { s with est := { s.est with reviewDue := true } }
      let s := balanceZero (balanceZero s .zero) .one
      let s := { s with pair := { s.pair with
        takeover := true, takeoverCnt := sat 0xFF (s.pair.takeoverCnt + 1), gapCause := cause, reason := none, retake := false } }
      let t0 := s.pair.t0.getD (s.elec.uptime, stampNow s)
      raise s 44 (u8 cause ++ ustamp t0.2 ++ fb (F32.ofRat (((s.elec.uptime - t0.1 : Nat) : Rat) / 8000)) ++ u48 s.pair.recCycle))

end Sys2Proof.Machine
end

