-- ==== Sys2Proof/Machine/Flags.lean ====
section
/-! DEFINITION. The registers of BAR0 as functions of the state (chapter 19, Tables 1-3 to 19-8). The model has no processor and so no
arithmetic flags; the flags of the block are the fields of these registers. -/

namespace Sys2Proof.Machine

open Sys2Proof

/-- A register word of a number. -/
def regWord (n : Nat) : Word := BitVec.ofNat 32 n
/-- A binary32 register: a value that is not finite reads 0 (R492). -/
def regF (x : F32) : Word := if F32.isFinite x then x else 0
/-- A mask of bits, bit 0 first. -/
def maskOf (bs : List Bool) : Nat := (bs.zipIdx.map fun p => bit p.1 * 2 ^ p.2).sum

/-! ### Module and identity -/

/-- ID_BOARD (Table 19-3): FE_FITTED follows the card, whatever the Strings mode (R151). -/
def regIdBoard (s : State) : Word :=
  packWord [⟨0, 4, s.ident.variant⟩, ⟨4, 4, s.ident.boardRev⟩, ⟨8, 8, s.ident.dieRev⟩, ⟨16, 1, 1⟩, ⟨17, 1, bit (s.ident.variant != 2)⟩]
/-- ID_CAPS (Table 19-3). -/
def regIdCaps : Word := packWord [⟨0, 16, 0x4D32⟩, ⟨16, 8, 1⟩]
/-- RESET_CAUSE (Table 19-4). -/
def regResetCause (s : State) : Word :=
  packWord [⟨0, 4, s.elec.cause⟩, ⟨4, 1, bit s.elec.loader⟩, ⟨5, 1, s.elec.imageSlot.num⟩, ⟨16, 16, s.elec.restarts⟩]
/-- MODE_STAT.SEED: no module but an active or standby one has it (Table 1-5). -/
def seedBit (s : State) : Bool := s.est.seed && s.pair.role != .isolated
/-- MODE_STAT.RINGn_ADDR: the mode configured and in force, 0 for a ring whose string is not enabled (Table 1-3). -/
def ringAddrBit (s : State) (x : Ix) : Bool := s.elec.fw && strEnabled s x && parN s (0x0303 + x.num) == 1
/-- MODE_STAT (Table 1-3). -/
def regModeStat (s : State) : Word :=
  packWord [⟨0, 2, s.pair.role.code⟩, ⟨2, 1, bit (seedBit s)⟩, ⟨3, 1, bit (s.elec.fw && dualStrings s)⟩, ⟨4, 2, s.hold.mode.code⟩,
    ⟨6, 1, bit (ringAddrBit s .zero)⟩, ⟨7, 1, bit (ringAddrBit s .one)⟩, ⟨8, 1, bit s.clk.bypass⟩, ⟨9, 3, (updState s).code⟩,
    ⟨12, 2, s.can.bus.zero.st.code⟩, ⟨14, 2, s.can.bus.one.st.code⟩, ⟨16, 1, bit s.grid.sync⟩, ⟨17, 1, bit s.outr.owner⟩]

/-! ### Clocks and die temperature -/

/-- CLK_CTRL (Table 2-5). -/
def regClkCtrl (s : State) : Word := packWord [⟨0, 1, bit s.clk.pllEn⟩, ⟨1, 1, s.clk.refPref.num⟩, ⟨2, 1, bit s.clk.applying⟩]
/-- CLK_DIV (Table 2-7). -/
def regClkDiv (s : State) : Word :=
  let d := s.clk.div
  packWord [⟨0, 6, d.cpu⟩, ⟨6, 6, d.eng⟩, ⟨12, 6, d.fab⟩, ⟨18, 6, d.ctl⟩, ⟨24, 8, d.mod⟩]
/-- TEMP_STAT (Table 8-7). -/
def regTempStat (s : State) : Word :=
  let t := s.therm
  packWord [⟨0, 12, ofSigned 12 t.td⟩, ⟨12, 2, t.band.code⟩, ⟨14, 2, t.bandInForce.code⟩, ⟨16, 1, bit t.broken⟩,
    ⟨17, 1, bit (partnerValid s)⟩, ⟨18, 1, bit (hostTempValid s)⟩, ⟨19, 1, bit t.bandChg⟩]

/-! ### Ryran and pair -/

/-- RYR_STAT (Table 2-13). -/
def regRyrStat (s : State) : Word :=
  let g := s.grid
  let up := maskOf [g.u0.linkUp, g.u1.linkUp, g.downUp.zero, g.downUp.one]
  packWord [⟨0, 4, up⟩, ⟨4, 1, g.sel.num⟩, ⟨5, 1, bit (stream s (upOf g.sel)).accepted⟩, ⟨6, 1, bit g.coast⟩, ⟨7, 4, g.coastAge⟩,
    ⟨11, 1, bit g.virt⟩, ⟨12, 1, bit g.slew⟩, ⟨13, 1, bit g.head⟩, ⟨14, 1, bit g.u1Loop⟩, ⟨16, 16, g.depth⟩]
/-- RYR_ERR of an upstream port (Table 19-5). -/
def regRyrErr (t : StreamState) : Word := packWord [⟨0, 16, t.frameDisc⟩, ⟨16, 16, t.wmDisc⟩]
/-- PAIR_STAT (Table 12-9). -/
def regPairStat (s : State) : Word :=
  let p := s.pair
  packWord [⟨0, 1, bit s.elec.slotB⟩, ⟨1, 1, bit p.present⟩, ⟨2, 1, bit p.linkUp⟩, ⟨3, 1, bit (selfFit s)⟩, ⟨4, 1, bit (partnerFit s)⟩,
    ⟨5, 1, bit p.paramMatch⟩, ⟨6, 1, bit p.imageMatch⟩, ⟨7, 1, bit p.variantMatch⟩, ⟨8, 1, bit p.eject⟩, ⟨9, 1, bit p.ejectRefused⟩,
    ⟨10, 1, bit p.lineFault⟩, ⟨11, 1, bit p.takeover⟩, ⟨16, 8, recAge s⟩, ⟨24, 8, p.takeoverCnt⟩]
/-- PAIR_GAP (Table 12-10). -/
def regPairGap (s : State) : Word := packWord [⟨0, 16, s.pair.gap⟩, ⟨16, 4, s.pair.gapCause⟩]

/-! ### Caravan rings -/

/-- CARn_STAT (Table 3-13). -/
def regCarStat (s : State) (x : Ix) : Word :=
  let c := car s x
  packWord [⟨0, 1, bit c.enumDone⟩, ⟨1, 1, bit c.compat⟩, ⟨2, 1, bit c.split⟩, ⟨3, 1, bit c.fltLoop⟩, ⟨4, 1, bit c.mixed⟩,
    ⟨5, 1, bit c.countMismatch⟩, ⟨6, 1, bit c.lockA⟩, ⟨7, 1, bit c.lockB⟩, ⟨8, 6, if c.split then c.breakAfter else 0⟩,
    ⟨16, 6, c.count⟩, ⟨22, 1, bit (c.units.any (·.lost))⟩]
/-- CARn_ERR (Table 19-5). -/
def regCarErr (s : State) (x : Ix) : Word :=
  let c := car s x
  packWord [⟨0, 16, c.disc⟩, ⟨16, 8, c.lostCnt⟩, ⟨24, 8, c.splitCnt⟩]
/-- CARn_USTATj (Table 19-6, R496). -/
def regUstat (s : State) (x : Ix) (j : Nat) : Word :=
  let v := if drives s then (car s x).view else unitBytes (car s x) s.grid.now false
  packWord ((List.range 4).map fun k => ⟨8 * k, 8, v.getD (4 * j + k) 0⟩)

/-! ### Front ends -/

/-- FEn_STAT (Table 5-6); PRESENT is 0 where the front end is not fitted (R151), and every other field is 0 where it is not used (R37, R151). -/
def regFeStat (s : State) (x : Ix) : Word :=
  let f := s.front.fe.get x
  if !feFitted s x then packWord [⟨0, 1, bit (x == .zero || s.ident.variant != 2)⟩]
  else packWord [⟨0, 1, 1⟩, ⟨1, 1, bit (f.calValid.all id)⟩, ⟨2, 1, bit (f.cal.any fun c => c.2.busy.isSome)⟩,
    ⟨3, 4, maskOf f.ovr⟩, ⟨7, 1, bit f.gap⟩, ⟨8, 1, bit f.isoOk⟩, ⟨16, 16, f.gapCnt⟩]
/-- GREF_STAT (Table 5-7). -/
def regGrefStat (s : State) : Word :=
  let g := s.front.gref
  packWord [⟨0, 8, g.ovr⟩, ⟨8, 8, g.calValid⟩, ⟨16, 1, bit (s.elec.fw && parN s 0x0540 == 1)⟩]
/-- The tick mean of a channel in the newest record (FEn_CHk); 0 where the front end is not fitted (R151). -/
def regFeCh (s : State) (x : Ix) (k : Nat) : Word :=
  if !feFitted s x then 0
  else match s.front.hist.head? with
  | none => 0
  | some t =>
    let f := t.fe.get x
    regF (match k with
      | 0 => f.shunt.value
      | 1 => f.hall.value
      | 2 => f.vpack.value
      | _ => f.vlink.value)
/-- The coulomb accumulator in nC as 64 bits (R155, R159); 0 where the front end is not fitted (R151). -/
def qBits (s : State) (x : Ix) : Nat := if feFitted s x then ofSigned 64 ((s.front.fe.get x).acc / 2 ^ 32) else 0

/-! ### Fusion and estimation -/

/-- Sources in a state. -/
def srcCount (s : State) (st : SrcState) : Nat := (s.fus.srcs.filter fun p => p.2.state == st).length
/-- Sources that stand UNALIGNED: those with a record of their own, and the populated cells of each unit whose records are (R173). -/
def unalignedCount (s : State) : Nat :=
  srcCount s .unaligned + ((s.ring.zero.units ++ s.ring.one.units).map fun u =>
    if u.unaligned then ((List.range 16).filter fun k => testBit u.pop k).length else 0).sum
/-- FUS_STAT (Table 6-10). -/
def regFusStat (s : State) : Word :=
  let f := s.fus
  packWord [⟨0, 1, bit f.model.isSome⟩, ⟨1, 1, bit f.modelStaged.isSome⟩, ⟨2, 1, bit (modelApplies s .zero)⟩,
    ⟨3, 1, bit (modelApplies s .one)⟩, ⟨4, 1, bit f.overrun⟩, ⟨5, 1, bit (!f.contested.isEmpty)⟩,
    ⟨6, 1, bit (decide (0 < srcCount s .convicted))⟩, ⟨7, 1, bit (decide (0 < unalignedCount s))⟩, ⟨16, 16, f.lastFrame⟩]
/-- FUS_CNT (Table 19-8). -/
def regFusCnt (s : State) : Word :=
  packWord [⟨0, 8, sat 0xFF (srcCount s .convicted)⟩, ⟨8, 8, sat 0xFF s.fus.contested.length⟩, ⟨16, 8, sat 0xFF (unalignedCount s)⟩]
/-- EST_STAT (Table 7-11). -/
def regEstStat (s : State) : Word :=
  let e := s.est
  packWord [⟨0, 1, bit e.restored⟩, ⟨1, 1, bit (decide (2 ≤ e.pend.length))⟩, ⟨2, 1, bit e.str.zero.starved⟩, ⟨3, 1, bit e.str.one.starved⟩,
    ⟨4, 1, bit (e.str.zero.learn.any fun l => !l.disq)⟩, ⟨5, 1, bit (e.str.one.learn.any fun l => !l.disq)⟩, ⟨6, 1, bit e.dumpFault⟩, ⟨7, 1, bit e.gap⟩,
    ⟨16, 16, e.lastSeq⟩]
/-- SOC_R, SOC_I, C, u_s and R_str as the role shows them (R497). -/
def estView (s : State) (x : Ix) : Nat × Nat × F32 × F32 × F32 :=
  match s.pair.role with
  | .active =>
    let t := s.est.str.get x
    if t.init then (socCode t.sR, socCode t.sI, t.c, t.u, t.r) else (0, 0, 0, 0, 0)
  | .standby => s.est.mirror.get x
  | .isolated => (0, 0, 0, 0, 0)

/-! ### Control engine and point hold -/

/-- The module evaluates a slot (R253, R497). -/
def slotShown (s : State) (n : Nat) : Bool := drives s && slotRuns s n
/-- A mask over slots `lo` to `lo + len - 1`. -/
def slotMask (lo len : Nat) (f : Nat → Bool) : Word := regWord (maskOf ((List.range len).map fun k => f (lo + k)))
/-- CTL_STAT (Table 9-9). -/
def regCtlStat (s : State) : Word :=
  let c := s.ctl
  packWord [⟨0, 1, bit (drives s && s.grid.on)⟩, ⟨1, 1, bit (!s.clk.ctlPll)⟩, ⟨2, 1, bit c.lateBit⟩, ⟨3, 1, bit c.nonfBit⟩,
    ⟨4, 1, bit c.parityBit⟩, ⟨16, 12, c.latMax⟩]
/-- HOLD_STAT (Table 10-12). -/
def regHoldStat (s : State) : Word :=
  let h := s.hold
  packWord [⟨0, 3, if s.elec.fw then ownRank s else 0⟩, ⟨3, 3, h.setsValid⟩, ⟨6, 2, h.voteMode⟩, ⟨8, 1, bit h.contested⟩,
    ⟨9, 1, bit h.fracValid⟩, ⟨10, 1, bit h.fracHold⟩, ⟨11, 1, bit h.fracRamp⟩, ⟨12, 1, bit h.shortfall⟩, ⟨13, 1, bit h.notDelivered⟩,
    ⟨14, 1, bit h.lateSum⟩, ⟨15, 1, bit h.diverge⟩, ⟨16, 16, h.nmod⟩]
/-- The hold loops are evaluated here (R253, R497). -/
def holdShown (s : State) : Bool := drives s && (s.hold.mode == .lead || s.hold.mode == .shadowLead)
/-- HOLD_SUMU, HOLD_SUMD and HOLD_SUMQC (Table 19-8). -/
def sumsShown (s : State) : Nat × Nat × Nat := if s.hold.mode == .lead then s.hold.sums else s.hold.sentSum

/-! ### Protection -/

/-- OUTR_STAT (Table 11-8). -/
def regOutrStat (s : State) : Word :=
  let o := s.outr
  packWord [⟨0, 1, bit o.owner⟩, ⟨1, 1, bit (partnerOwns s)⟩, ⟨2, 1, bit o.hbGood⟩, ⟨3, 1, bit o.hbFail⟩, ⟨4, 1, bit (o.hold != .none)⟩,
    ⟨5, 2, o.hold.regCode⟩, ⟨7, 1, bit s.elec.strap2s⟩, ⟨8, 1, bit o.block⟩, ⟨9, 1, bit o.restart⟩, ⟨10, 1, bit o.thrReject⟩,
    ⟨11, 1, bit o.coilOk⟩, ⟨12, 1, bit o.partnerReady⟩, ⟨16, 8, o.chal⟩, ⟨24, 8, o.failCnt⟩]
/-- PROTn_STAT (Table 11-9). -/
def regProtStat (s : State) (x : Ix) : Word :=
  let p := s.prot.get x
  packWord [⟨0, 1, bit p.outrTrip⟩, ⟨1, 1, bit p.procTrip⟩, ⟨2, 5, p.outrCause⟩, ⟨7, 1, bit p.fltLoop⟩, ⟨8, 1, bit p.holdExp⟩,
    ⟨9, 5, p.live⟩, ⟨14, 1, bit p.loopLive⟩, ⟨16, 4, p.procCause⟩, ⟨20, 3, p.st.code⟩, ⟨23, 1, bit (closeInhibit s x)⟩,
    ⟨24, 1, bit p.proofOk⟩]
/-- The byte of a coil (Table 11-11). -/
def coilByte (s : State) (x : Ix) (c : Coil) : Nat :=
  let k := (s.prot.get x).coil c
  bit (hsOn s x c) + 2 * bit (lsOn s x c) + 4 * k.a.code + 16 * k.b.code + 64 * bit k.energised + 128 * bit k.fault
/-- COILn_STAT (Table 11-10). -/
def regCoilStat (s : State) (x : Ix) : Word :=
  let p := s.prot.get x
  packWord [⟨0, 8, coilByte s x .kPos⟩, ⟨8, 8, coilByte s x .kNeg⟩, ⟨16, 8, coilByte s x .pre⟩, ⟨24, 3, p.sig⟩, ⟨27, 2, p.sigCoil⟩]
/-- OUTR_THRk (Table 11-12). -/
def regThr (s : State) (k : Nat) : Word :=
  let c := s.outr.thr.getD k 0
  packWord [⟨0, 12, c⟩, ⟨16, 12, 0xFFF - c⟩]

/-! ### CAN FD -/

/-- CANn_STAT (Table 13-11). -/
def regCanStat (s : State) (b : Ix) : Word :=
  let c := canBus s b
  packWord [⟨0, 2, c.st.code⟩, ⟨2, 1, bit c.detecting⟩, ⟨3, 4, c.rate⟩, ⟨7, 1, bit c.assumed⟩, ⟨8, 2, c.fc.code⟩, ⟨10, 1, bit c.warning⟩,
    ⟨11, 1, bit c.alone⟩, ⟨12, 1, bit c.schedFault⟩, ⟨13, 1, bit c.winMissed⟩, ⟨14, 1, bit c.yielded⟩, ⟨15, 1, bit c.winShort⟩,
    ⟨16, 3, c.basic⟩, ⟨19, 6, c.slot⟩]
/-- CANn_ERR (Table 13-12). -/
def regCanErr (s : State) (b : Ix) : Word :=
  let c := canBus s b
  packWord [⟨0, 8, c.tec⟩, ⟨8, 8, c.recv⟩, ⟨16, 8, c.collCnt⟩, ⟨24, 8, c.busoffCnt⟩]
/-- CANn_CNT (Table 19-5). -/
def regCanCnt (s : State) (b : Ix) : Word := packWord [⟨0, 16, (canBus s b).rx⟩, ⟨16, 16, (canBus s b).winMiss⟩]

/-! ### Host interface, events, ledger, parameters, update -/

/-- HOST_STAT as a port reads it (Table 14-2). -/
def regHostStat (s : State) (p : Ix) : Word :=
  let a := s.host.port.zero
  let b := s.host.port.one
  let q := s.host.port.get p
  packWord [⟨0, 1, bit a.up⟩, ⟨1, 1, bit b.up⟩, ⟨2, 1, p.num⟩, ⟨3, 2, a.speed⟩, ⟨5, 2, b.speed⟩, ⟨7, 1, bit a.wide⟩, ⟨8, 1, bit b.wide⟩,
    ⟨9, 1, bit q.cplTo⟩, ⟨10, 1, bit q.descTo⟩, ⟨11, 1, bit q.otherLost⟩, ⟨16, 8, a.downCnt⟩, ⟨24, 8, b.downCnt⟩]
/-- MBX_STATn (Table 14-6). -/
def regMbxStat (s : State) (p : Ix) (n : Nat) : Word :=
  let r := mbxRing s p n
  packWord [⟨0, 6, r.done⟩, ⟨6, 1, bit r.dbErr⟩, ⟨7, 1, bit (!r.waiting.isEmpty)⟩, ⟨8, 8, r.toCnt⟩]
/-- STRM_STATm (Table 14-12). -/
def regStrmStat (s : State) (p : Ix) (m : Nat) : Word :=
  let t := strm s p m
  packWord [⟨0, 13, t.head⟩, ⟨13, 1, bit t.isOpen⟩, ⟨14, 1, bit t.stopped⟩, ⟨15, 1, bit t.starved⟩, ⟨16, 16, sat 0xFFFF t.lost⟩]
/-- EV_GRP (Table 15-8). -/
def regEvGrp (s : State) (p : Ix) : Word :=
  let q := s.host.port.get p
  regWord (maskOf ((List.range 8).map fun g =>
    let w := q.pend.getD g 0
    decide (w &&& q.mask.getD g 0 ≠ w)))
/-- LEDG_STAT (Table 15-10). -/
def regLedgStat (s : State) : Word :=
  let e := s.ev
  packWord [⟨0, 1, bit e.ready⟩, ⟨1, 1, bit e.freeze.isSome⟩, ⟨2, 1, e.holder.1.num⟩, ⟨3, 3, e.holder.2⟩, ⟨6, 1, bit e.overflow⟩,
    ⟨7, 1, bit e.fault⟩, ⟨8, 1, bit e.floorReset⟩, ⟨16, 16, e.frzCnt⟩]
/-- The class 2 parameters (Table 16-2). -/
def restartPars : List Nat := [0x0101, 0x0102, 0x0201, 0x0202, 0x0203, 0x0204, 0x0A02, 0x0A03, 0x0A04, 0x0A05, 0x0A06]
/-- A committed change awaits its boundary, a restart included (Tables 16-3 and 16-9). -/
def effectPending (s : State) : Bool := !s.par.pending.isEmpty || restartPars.any fun a => decide (parN s a ≠ parC s a)
/-- PAR_STAT (Table 16-9). -/
def regParStat (s : State) : Word :=
  let p := s.par
  let h := p.holder
  packWord [⟨0, 1, bit h.isSome⟩, ⟨1, 1, (h.map (·.1.num)).getD 0⟩, ⟨2, 3, (h.map (·.2.1)).getD 0⟩, ⟨5, 1, bit (s.elec.fw && effectPending s)⟩,
    ⟨6, 1, bit p.persisting⟩, ⟨7, 1, bit p.defaults⟩, ⟨8, 1, bit p.persistFault⟩, ⟨9, 1, p.bank.num⟩, ⟨10, 1, bit p.safetyReload⟩,
    ⟨16, 8, p.seq⟩, ⟨24, 8, p.persistedSeq⟩]
/-- UPD_STAT (Table 17-11). -/
def regUpdStat (s : State) : Word :=
  let u := s.upd
  let r := selOf s
  let j := journalOf s
  packWord [⟨0, 3, (updState s).code⟩, ⟨3, 1, bit u.lock.isSome⟩, ⟨4, 1, (u.lock.map (·.1.num)).getD 0⟩,
    ⟨5, 3, (u.lock.map (·.2.1)).getD 0⟩, ⟨8, 1, if s.elec.fw then s.elec.imageSlot.num else (r.map (·.slot.num)).getD 0⟩,
    ⟨9, 1, bit (r.any (·.fallbackValid))⟩, ⟨10, 3, (r.map (·.boots)).getD 0⟩, ⟨13, 1, bit (r.any (·.converted))⟩,
    ⟨14, 1, bit (j.any (·.verifying))⟩, ⟨15, 1, bit u.lapsed⟩, ⟨16, 13, (j.map (·.blocks.length)).getD 0⟩]
/-- UPD_TRIAL (Table 17-12): whole seconds left in the confirmation window. -/
def regUpdTrial (s : State) : Word :=
  packWord [⟨0, 16, if updState s = .trial then (s.upd.window.map fun w => (w - s.elec.uptime) / sec 1).getD 0 else 0⟩]
/-- Activation cycle; 0 outside scheduled and trial (Table 19-4). -/
def actCycle (s : State) : Nat :=
  match updState s with
  | .scheduled => ((journalOf s).map (·.actCycle)).getD 0
  | .trial => ((selOf s).map (·.actCycle)).getD 0
  | _ => 0

/-! ### The map (Table 19-1) -/

/-- The value of the latch pair whose LO register lies at an offset (R491). -/
def pairValue (s : State) (off : Nat) : Option Nat :=
  match off with
  | 0x0004 => some s.ident.serial
  | 0x000C => some (if s.elec.fw then s.upd.running else 0)
  | 0x0024 => some (s.elec.uptime / us 1)
  | 0x0040 => some (stampNow s).word
  | 0x0410 => some (qBits s .zero)
  | 0x0418 => some (qBits s .one)
  | 0x0914 => some s.prot.zero.tripStamp.word
  | 0x091C => some s.prot.one.tripStamp.word
  | 0x0E84 => some s.ev.next
  | 0x0E8C => some s.ev.floor
  | 0x0F18 => some (actCycle s)
  | 0x0F20 => some s.upd.ver.zero
  | 0x0F28 => some s.upd.ver.one
  | _ => none

/-- Registers 0x0000 to 0x00FF other than latch pairs. -/
def regModule (s : State) (p : Ix) (off : Nat) : Word :=
  match off with
  | 0x00 => regIdBoard s
  | 0x14 => regWord s.ident.blVer
  | 0x18 => regIdCaps
  | 0x1C => regWord (s.host.port.get p).scratch
  | 0x20 => regResetCause s
  | 0x30 => regModeStat s
  | _ => 0
/-- Registers 0x0100 to 0x02FF. -/
def regClocks (s : State) (off : Nat) : Word :=
  match off with
  | 0x100 => regClkCtrl s
  | 0x104 => clkStat s
  | 0x108 => regClkDiv s
  | 0x110 => regTempStat s
  | 0x114 => regWord s.therm.slotT
  | 0x200 => regRyrStat s
  | 0x204 => regWord s.grid.u0.d
  | 0x208 => regWord s.grid.u1.d
  | 0x210 => regRyrErr s.grid.u0
  | 0x214 => regRyrErr s.grid.u1
  | 0x218 => regWord s.grid.downDisc.zero
  | 0x21C => regWord s.grid.downDisc.one
  | 0x220 => packWord [⟨0, 16, s.pair.disc⟩, ⟨16, 16, s.pair.downCnt⟩]
  | 0x230 => regPairStat s
  | 0x234 => regPairGap s
  | _ => 0
/-- Registers 0x0300 to 0x03FF. -/
def regRings (s : State) (off : Nat) : Word :=
  if off = 0x300 then regCarStat s .zero
  else if off = 0x304 then regCarStat s .one
  else if off = 0x308 then regCarErr s .zero
  else if off = 0x30C then regCarErr s .one
  else if 0x320 ≤ off ∧ off < 0x340 then regUstat s .zero ((off - 0x320) / 4)
  else if 0x340 ≤ off ∧ off < 0x360 then regUstat s .one ((off - 0x340) / 4)
  else 0
/-- Registers 0x0400 to 0x04FF. -/
def regFronts (s : State) (off : Nat) : Word :=
  if off = 0x400 then regFeStat s .zero
  else if off = 0x404 then regFeStat s .one
  else if off = 0x408 then regGrefStat s
  else if 0x420 ≤ off ∧ off < 0x430 then regFeCh s .zero ((off - 0x420) / 4)
  else if 0x430 ≤ off ∧ off < 0x440 then regFeCh s .one ((off - 0x430) / 4)
  else if 0x440 ≤ off ∧ off < 0x460 then regF (s.front.gref.value.getD ((off - 0x440) / 4) 0)
  else 0
/-- Registers 0x0500 to 0x05FF. -/
def regEngines (s : State) (off : Nat) : Word :=
  let e (x : Ix) := estView s x
  match off with
  | 0x500 => regFusStat s
  | 0x504 => regFusCnt s
  | 0x510 => regEstStat s
  | 0x514 => packWord [⟨0, 16, (e .zero).1⟩, ⟨16, 16, (e .zero).2.1⟩]
  | 0x518 => packWord [⟨0, 16, (e .one).1⟩, ⟨16, 16, (e .one).2.1⟩]
  | 0x51C => regF (e .zero).2.2.1
  | 0x520 => regF (e .one).2.2.1
  | 0x524 => regF (e .zero).2.2.2.1
  | 0x528 => regF (e .one).2.2.2.1
  | 0x52C => regF (e .zero).2.2.2.2
  | 0x530 => regF (e .one).2.2.2.2
  | _ => 0
/-- Registers 0x0600 to 0x08FF. -/
def regControl (s : State) (off : Nat) : Word :=
  let act (n : Nat) : Bool := (slotAt s n).bankB
  let trk (n : Nat) : Bool := slotShown s n && (slotAt s n).tracking
  if 0x700 ≤ off ∧ off < 0x7C0 then
    (if slotShown s ((off - 0x700) / 4) then regF (slotAt s ((off - 0x700) / 4)).out else 0)
  else match off with
    | 0x600 => regCtlStat s
    | 0x604 => regWord s.ctl.ovrCnt
    | 0x608 => regWord s.ctl.bankReq
    | 0x60C => regWord (s.ctl.bankReq / 2 ^ 32)
    | 0x610 => slotMask 0 32 act
    | 0x614 => slotMask 32 16 act
    | 0x618 => regWord s.ctl.late
    | 0x61C => regWord (s.ctl.late / 2 ^ 32)
    | 0x620 => slotMask 0 32 trk
    | 0x624 => slotMask 32 16 trk
    | 0x800 => regHoldStat s
    | 0x804 => regWord (ofSigned 32 s.hold.phi)
    | 0x808 => regWord (ofSigned 32 s.hold.psi)
    | 0x80C => if holdShown s then regF s.hold.pTot else 0
    | 0x810 => if holdShown s then regF s.hold.qTot else 0
    | 0x814 => regWord (sumsShown s).1
    | 0x818 => regWord (sumsShown s).2.1
    | 0x81C => regWord (sumsShown s).2.2
    | _ => 0
/-- Registers 0x0900 to 0x0AFF. -/
def regSafety (s : State) (off : Nat) : Word :=
  if 0x940 ≤ off ∧ off < 0x968 then regThr s ((off - 0x940) / 4)
  else match off with
    | 0x900 => regOutrStat s
    | 0x904 => regProtStat s .zero
    | 0x908 => regProtStat s .one
    | 0x90C => regCoilStat s .zero
    | 0x910 => regCoilStat s .one
    | 0xA00 => regCanStat s .zero
    | 0xA04 => regCanStat s .one
    | 0xA08 => regCanErr s .zero
    | 0xA0C => regCanErr s .one
    | 0xA10 => regCanCnt s .zero
    | 0xA14 => regCanCnt s .one
    | _ => 0
/-- Registers 0x0B00 to 0x0DFF, each port its own. -/
def regHost (s : State) (p : Ix) (off : Nat) : Word :=
  if off = 0xB00 then regHostStat s p
  else if 0xC00 ≤ off ∧ off < 0xC40 then
    (if off % 8 = 0 then regWord (mbxRing s p ((off - 0xC00) / 8)).prod else regMbxStat s p ((off - 0xC00) / 8))
  else if 0xD00 ≤ off ∧ off < 0xD28 then
    (if off % 8 = 0 then regWord (strm s p ((off - 0xD00) / 8)).tail else regStrmStat s p ((off - 0xD00) / 8))
  else 0
/-- Registers 0x0E00 to 0x0FFF. -/
def regEvents (s : State) (p : Ix) (off : Nat) : Word :=
  let q := s.host.port.get p
  if 0xE00 ≤ off ∧ off < 0xE20 then regWord (q.pend.getD ((off - 0xE00) / 4) 0)
  else if 0xE20 ≤ off ∧ off < 0xE40 then regWord (q.mask.getD ((off - 0xE20) / 4) 0)
  else match off with
    | 0xE40 => regEvGrp s p
    | 0xE80 => regLedgStat s
    | 0xF00 => regParStat s
    | 0xF10 => regUpdStat s
    | 0xF14 => regUpdTrial s
    | _ => 0

/-- The MSI-X table and pending bit array of a port (R393, R489). -/
def regMsix (s : State) (p : Ix) (off : Nat) : Word :=
  let ms := (s.host.port.get p).msix
  if 0xE000 ≤ off ∧ off < 0xE200 then
    match ms[(off - 0xE000) / 16]? with
    | none => 0
    | some e =>
      match off % 16 with
      | 0 => regWord e.addr
      | 4 => regWord (e.addr / 2 ^ 32)
      | 8 => regWord e.data
      | _ => regWord (bit e.masked)
  else if off = 0xF000 then regWord (maskOf (ms.map (·.pend)))
  else 0

/-- A register of Table 19-1 as it stands, whatever the boot state. -/
def regRaw (s : State) (p : Ix) (off : Nat) : Word :=
  match pairValue s off with
  | some v => regWord v
  | none =>
    match (if 4 ≤ off then pairValue s (off - 4) else none) with
    | some _ =>
      if off = 0x041C ∧ feFitted s .one = false then 0 else regWord ((KV.get? (s.host.port.get p).latch (off - 4)).getD 0)
    | none =>
      if off < 0x100 then regModule s p off
      else if off < 0x300 then regClocks s off
      else if off < 0x400 then regRings s off
      else if off < 0x500 then regFronts s off
      else if off < 0x600 then regEngines s off
      else if off < 0x900 then regControl s off
      else if off < 0xB00 then regSafety s off
      else if off < 0xE00 then regHost s p off
      else if off < 0xE000 then regEvents s p off
      else regMsix s p off

/-- Blocks that hold live values while the boot loader runs with no image started (R494). -/
def loaderLive (off : Nat) : Bool :=
  decide (off < 0x100) || (decide (0x100 ≤ off) && decide (off < 0x118)) || off == 0x230 ||
    (decide (0xB00 ≤ off) && decide (off < 0xE00)) || decide (0xF00 ≤ off)

/-- A read of BAR0 through a port (R397, R489 to R495): an access that is not aligned returns all ones; before firmware runs the other
blocks read their reset values; with no clock, no power or the link down nothing answers and the host sees all ones (R396). -/
def bar0Read (s : State) (p : Ix) (off : Nat) : Word :=
  if !clocked s || !portUp s p || off % 4 != 0 then 0xFFFFFFFF
  else if !s.elec.fw && !loaderLive off then
    regRaw { State.reset with ident := s.ident, elec := { s.elec with fw := false } } p off
  else regRaw s p off

end Sys2Proof.Machine
end

