-- ==== Sys2Proof/Machine/HostPort.lean ====
section
/-! DEFINITION. Meanings of the host port commands (chapter 14): links and resets, doorbells, long results, streams, captures, and the
reads and writes of BAR0 (chapter 19). -/

namespace Sys2Proof.Machine

open Sys2Proof

/-! ### Latched reads (R159, R429, R491) -/

/-- LATCHED_LO_READ (R491): a read of an LO register latches the upper half of its pair for the port. -/
def execLatchedLoRead (port : Ix) (offset : Nat) (s : State) : Host.Outcome State Fault Refusal :=
  .next (
    if !(clocked s && portUp s port) then s
    else match pairValue s offset with
      | none => s
      | some v =>
        let v := if s.elec.loader && !s.elec.fw && !loaderLive offset then 0 else v
        modPort s port fun q => { q with latch := KV.put q.latch offset (v / 2 ^ 32 % 2 ^ 32) })

/-! ### Ports up and down (R394, R395) -/

/-- A stream that a port going down stops: its descriptors, its buffers and what waited for them are forgotten. -/
def stopStream (t : StreamState14) : StreamState14 :=
  { t with stopped := t.isOpen || t.stopped, fixed := [], fetch := none, waiting := [], buf := none, writing := [], tail := t.head }
/-- A port state as it goes down: entries not started are dropped, streams stopped, vectors disabled (R395). -/
def downPort (q : PortState) : PortState :=
  { q with up := false, speed := 0, wide := false, downCnt := sat 0xFF (q.downCnt + 1),
           rings := q.rings.map fun r => { r with waiting := [] }, streams := q.streams.map stopStream,
           msix := q.msix.map fun e => { e with masked := true }, rxCycle := none }
/-- A port state under reset (R394, R490): all its copy of the registers returns to the reset value; the down events of R395 are counted on. -/
def resetPort (q : PortState) : PortState := { downCnt := q.downCnt }

/-- What the rest of the module does when a port goes down: runs over its streams fail, a freeze and a staging session it holds end, its
update lock is released, the other port shows OTHER_LOST, and EV 050 (R395, R427, R434, R455). -/
def goDown (s : State) (p : Ix) (cause : Nat) : State :=
  let s := failRun (failRun s p 3) p 4
  let s := modPort s p downPort
  let s := modPort s p.other fun q => { q with otherLost := true }
  let s := { s with est := { s.est with writing := s.est.writing.filter (· != p.num) } }
  let s := if s.par.holder.any (·.1 == p) then { s with par := { s.par with holder := none, staged := [] } } else s
  let s := if s.upd.lock.any (·.1 == p) then { s with upd := { s.upd with lock := none } } else s
  let s := if s.ev.freeze.any (·.port == p) then endFreeze s 4 else s
  raise s 50 (ux p ++ u8 0 ++ u8 cause)

/-- PERST (R394, R419, R490): a reset of one port. -/
def execPerst (port : Ix) (cause : LinkCause) (s : State) : Host.Outcome State Fault Refusal :=
  .next (
    if !clocked s then s
    else
      let s := if portUp s port then goDown s port cause.code else s
      modPort s port resetPort)

/-- HOST_LINK_DOWN (R395). -/
def execHostLinkDown (port : Ix) (cause : LinkCause) (s : State) : Host.Outcome State Fault Refusal :=
  .next (if clocked s && portUp s port then goDown s port cause.code else s)

/-- HOST_LINK_UP (R395): BAR2 reads 0, indices read 0, streams are closed, and EV 050. -/
def execHostLinkUp (port : Ix) (speed : Nat) (wide : Bool) (s : State) : Host.Outcome State Fault Refusal :=
  .next (
    if !clocked s || portUp s port || s.elec.step < 3 then s
    else
      raise (modPort s port fun q =>
        { q with up := true, speed := speed % 4, wide := wide, responses := [], streams := List.replicate 5 {},
                 rings := q.rings.map fun r => { toCnt := r.toCnt } }) 50 (ux port ++ u8 1 ++ u8 0))

/-- PCIE_ERROR (R393): EV 056 with the AER status. -/
def execPcieError (port : Ix) (status : Nat) (uncorrectable : Bool) (s : State) : Host.Outcome State Fault Refusal :=
  .next (if clocked s && decide (3 ≤ s.elec.step) then raise s 56 (ux port ++ u32 status ++ ub uncorrectable) else s)

/-! ### Doorbells, timeouts and long results (R399 to R402) -/

/-- A write of MBX_DBn.PROD: ignored with DB_ERR when it would give the module more than 32 entries, else the new entries are handed
over (R399). -/
def doorbell (s : State) (p : Ix) (ring w : Nat) (entries : List MbxEntry) : State :=
  let r := mbxRing s p ring
  let prod := w % 64
  let held := (prod + 64 - r.done) % 64
  if 32 < held then modRing s p ring fun r => { r with dbErr := true }
  else
    let blank : MbxEntry := { opcode := 0, len := 0, tag := 0, raise := false }
    let all := (r.waiting ++ entries ++ List.replicate held blank).take held
    answerBad p ring 32 (modRing s p ring fun r => { r with prod := prod, waiting := all })

/-- MBX_DOORBELL (R399, R402). -/
def execMbxDoorbell (port : Ix) (ring : Nat) (w : Word) (entries : List MbxEntry) (s : State) : Host.Outcome State Fault Refusal :=
  .next (
    if clocked s && (s.elec.fw || s.elec.loader) && portUp s port && decide (ring < 8) then doorbell s port ring w.toNat entries else s)

/-- The long commands (Tables 14-5, 15-7, 17-6). -/
def longOpcode (op : Nat) : Bool := [0x000A, 0x0020, 0x0030, 0x0032, 0x0040, 0x0070, 0x0071, 0x0102, 0x0120, 0x0122].contains op

/-- COMMAND_TIMEOUT (R401): an ordinary command that cannot finish in 50 ms; EV 055. -/
def execCommandTimeout (h : Hdr) (opcode : Nat) (s : State) : Host.Outcome State Fault Refusal :=
  .next (
    if running s && (opcodeLens opcode).isSome && !longOpcode opcode && decide (h.ring < 8) then
      raise (respond s h opcode .timeout 0) 55 (ux h.port ++ u8 h.ring ++ u16 opcode ++ u32 h.tag)
    else s)

/-- LONG_DONE (R402): EV 051 for a long command that has ended. -/
def execLongDone (id : Nat) (s : State) : Host.Outcome State Fault Refusal :=
  .next (
    match s.host.longs.find? fun l => l.id == id && l.ended && !l.reported with
    | none => s
    | some l =>
      if running s then
        let longs := s.host.longs.map fun k => if k.id = id ∧ k.ended = true then { k with reported := true } else k
        raise { s with host := { s.host with longs := longs } } 51
          (ux l.port ++ u8 l.ring ++ u32 l.tag ++ u64 l.id ++ u16 l.status.code)
      else s)

/-- LONG_RESULT_EXPIRY (R402): a result kept for LONG_KEEP_S is dropped. -/
def execLongResultExpiry (id : Nat) (s : State) : Host.Outcome State Fault Refusal :=
  .next (
    if running s then
      { s with host := { s.host with longs := s.host.longs.filter fun l =>
        !(l.id == id && l.ended && passed s l.doneUp (sec (parN s 0x0E05))) } }
    else s)

/-- NOP (R403). -/
def execNop (h : Hdr) (s : State) : Host.Outcome State Fault Refusal := .next (if hostReady s h then respondOk s h 0x0001 [] else s)

/-- The IDENTIFY response, 40 bytes (Table 14-16). -/
def identBytes (s : State) (p : Ix) : List Byte :=
  u32 (regIdBoard s).toNat ++ u64 s.ident.serial ++ u64 (if s.elec.fw then s.upd.running else 0) ++ u32 s.ident.blVer ++
    u32 regIdCaps.toNat ++ ux p ++ u8 (bit s.elec.slotB) ++ u8 s.pair.role.code ++ u8 (bit s.elec.loader) ++ u16 (treePosition s) ++
    List.replicate 6 0
/-- IDENTIFY (R403, R451): answered in the boot loader too. -/
def execIdentify (h : Hdr) (s : State) : Host.Outcome State Fault Refusal :=
  .next (if loaderReady s h then respondOk s h 0x0002 (identBytes s h.port) else s)

/-- LONG_QUERY (R402). -/
def execLongQuery (h : Hdr) (id : Nat) (s : State) : Host.Outcome State Fault Refusal :=
  .next (
    if !hostReady s h then s
    else match s.host.longs.find? fun l => l.id == id with
      | none => respond s h 0x0003 .outOfRange 0
      | some l =>
        respondOk s h 0x0003 (u16 l.opcode ++ u16 (if l.ended then l.status else .pending).code ++ u32 l.detail ++ ustamp l.doneAt ++
          u32 l.resp.length ++ l.resp))

/-! ### Streams (R404 to R409) -/

/-- What STREAM_OPEN finds wrong with its payload (Table 14-16). -/
def openFault (s : State) (p : Ix) (type addr entries : Nat) (descs : List Desc) : Option Nat :=
  let power := [8, 16, 32, 64, 128, 256, 512, 1024, 2048, 4096].contains entries
  if 4 < type then some 1
  else if addr % 64 ≠ 0 then some 2
  else if (type = 1 ∧ entries ≠ 2) ∨ (type ≠ 1 ∧ power = false) then some 3
  else if (strm s p type).isOpen then some 4
  else if type = 1 ∧ !(decide (descs.length = 2) && descs.all fun d => decide (43264 ≤ d.len)) then some 5
  else none

/-- STREAM_OPEN (R404, R406). -/
def execStreamOpen (h : Hdr) (type addr entries : Nat) (descs : List Desc) (s : State) : Host.Outcome State Fault Refusal :=
  .next (
    if !hostReady s h then s
    else match openFault s h.port type addr entries descs with
      | some k => respond s h 0x0008 .outOfRange k
      | none =>
        respondOk (modStrm s h.port type fun _ =>
          { isOpen := true, addr := addr, entries := entries, fixed := if type = 1 then descs else [] }) h 0x0008 [])

/-- STREAM_CLOSE (R404, R407): the stream closes with what it held; a run over it fails. -/
def execStreamClose (h : Hdr) (type : Nat) (s : State) : Host.Outcome State Fault Refusal :=
  .next (
    if !hostReady s h then s
    else if (strm s h.port type).isOpen = false ∨ 4 < type then respond s h 0x0009 .refused 1
    else
      let s := failRun s h.port type
      let lost := (strm s h.port type).lost
      let s := if type = 1 then { s with est := { s.est with writing := s.est.writing.filter (· != h.port.num) } } else s
      respondOk (modStrm s h.port type fun _ => {}) h 0x0009 (u32 lost))

/-- A write of STRM_TAILm: the next descriptor index that the host will write, mod 8,192; none for STATE_RECORD (R404, R406). -/
def writeTail (s : State) (p : Ix) (m w : Nat) : State :=
  if m = 1 ∨ 4 < m then s else pumpAll (modStrm s p m fun t => { t with tail := w % 8192 }) p m
/-- STRM_TAIL_WRITE (R404). -/
def execStrmTailWrite (port : Ix) (stream : Nat) (w : Word) (s : State) : Host.Outcome State Fault Refusal :=
  .next (if running s && portUp s port then writeTail s port stream w.toNat else s)

/-- What a stream does with a buffer newly in hand: records that wait go in, then those of a dump, then a run settles. -/
def feedStream (s : State) (p : Ix) (m : Nat) : State :=
  let s := pumpAll s p m
  if m = 3 then runDump s p else settleRun s p m

/-- DESCRIPTOR_FETCH_DONE (R404, R405): HEAD moves on and the buffer is filled; it carries the records dropped since the previous one. -/
def execDescriptorFetchDone (port : Ix) (stream : Nat) (d : Desc) (s : State) : Host.Outcome State Fault Refusal :=
  .next (
    if running s && strmRuns s port stream && (strm s port stream).fetch.isSome then
      feedStream (modStrm s port stream fun t =>
        { t with fetch := none, head := (t.head + 1) % 8192, lostNow := 0,
                 buf := some { desc := d, body := [], first := stampTick s, lost := t.lostNow } }) port stream
    else s)

/-- DESCRIPTOR_FETCH_FAIL (R407): the fetch is repeated, and once FETCH_RETRIES are spent the stream stops with EV 052 and EV 054, cause 1. -/
def execDescriptorFetchFail (port : Ix) (stream addr : Nat) (s : State) : Host.Outcome State Fault Refusal :=
  .next (
    if !(running s && strmRuns s port stream) then s
    else match (strm s port stream).fetch with
      | none => s
      | some n =>
        let s := modPort s port fun q => { q with cplTo := true }
        if n < parN s 0x0E02 then emit (modStrm s port stream fun t => { t with fetch := some (n + 1) }) (.fetch port stream addr)
        else
          let s := failRun s port stream
          let s := modStrm s port stream fun t => { stopStream t with head := t.head }
          raise (raise s 52 (ux port ++ u8 stream ++ u64 addr)) 54 (ux port ++ u8 stream ++ u8 1))

/-- A record has been dropped: the wait for a descriptor begins anew (R408, DEDUCED, log 156). -/
def waitAnew (s : State) (p : Ix) (m : Nat) : State := noteNeed (modStrm s p m fun t => { t with needUp := none }) p m
/-- DESC_STARVED (R408): a stream with data has waited DESC_TIMEOUT_MS for a descriptor, and the oldest record that waits is dropped; a state record
is abandoned under R218 instead. -/
def execDescStarved (port : Ix) (stream : Nat) (s : State) : Host.Outcome State Fault Refusal :=
  .next (
    let t := strm s port stream
    if !(running s && strmRuns s port stream) || stream == 1 || t.buf.isSome ||
        !(t.needUp.any fun u => passed s u (ms (parN s 0x0E01))) then s
    else
      let left := ((s.host.port.get port).dump.map (·.left)).getD []
      match stream, left with
      | 3, _ :: rest =>
        let s := modPort s port fun q => { q with descTo := true, dump := q.dump.map fun d => { d with left := rest } }
        settleRun (waitAnew (dropOldest (modStrm s port 3 fun t => { t with waiting := (Stamp.zero, []) :: t.waiting }) port 3) port 3) port 3
      | _, _ =>
        if t.waiting.isEmpty then s
        else settleRun (waitAnew (dropOldest (modPort s port fun q => { q with descTo := true }) port stream) port stream) port stream)

/-- BUFFER_WRITE_DONE (R220, R405, R409, R410): after VALID was zeroed the rest is written, VALID last, and the next buffer's write begins; then the
vector of the stream. A stream waits for those of better priority (log 125). -/
def execBufferWriteDone (port : Ix) (stream : Nat) (s : State) : Host.Outcome State Fault Refusal :=
  .next (
    if !(clocked s && strmRuns s port stream) || outranked s port stream then s
    else match (strm s port stream).writing with
      | [] => s
      | (addr, bytes, want) :: rest =>
        let v := validAt stream
        let s := emits s [.dma port addr (bytes.take v), .dma port (addr + v + 8) (bytes.drop (v + 8)), .dma port (addr + v) (slice bytes v 8)]
        let s := openWrite (modStrm s port stream fun t => { t with writing := rest }) port stream
        let s := if stream = 1 then destDone s port.num else s
        let s := if want then sendVector s port (8 + stream) else s
        let s := if stream = 4 then modPort s port fun q => { q with capture := q.capture.map fun c => { c with buffers := c.buffers + 1 } } else s
        settleRun s port stream)

/-- CANRX_FLUSH (R404): CANRX_FLUSH_CYCLES after its first record the CAN_RX buffer is closed. -/
def execCanrxFlush (port : Ix) (s : State) : Host.Outcome State Fault Refusal :=
  .next (
    match (s.host.port.get port).rxCycle with
    | none => s
    | some c =>
      if running s && strmRuns s port 2 && bufHolds s port 2 && decide (c + parN s 0x0E04 ≤ curCycle s) then
        pumpAll (modPort (closeBuf s port 2) port fun q => { q with rxCycle := none }) port 2
      else s)

/-- A CAPTURE payload lies in the ranges of Table 14-9. -/
def captureOk (r : CaptureReq) : Bool :=
  decide (r.pre ≤ 256) && decide (1 ≤ r.post) && decide (r.post ≤ 256) && decide (r.trigger ≤ 2) && decide (r.watch ≤ 3)

/-- CAPTURE (R409): one runs per port; without an open WAVEFORM stream it ends FAILED (DESIGN CHOICE, log 35). -/
def execCapture (h : Hdr) (req : CaptureReq) (s : State) : Host.Outcome State Fault Refusal :=
  .next (
    if !hostReady s h then s
    else match (s.host.port.get h.port).capture with
      | some c =>
        match s.host.longs.find? fun l => l.id == c.id with
        | some l => respondBusy s h 0x000A (l.port.num, l.ring, l.tag)
        | none => respondBusy s h 0x000A (h.port.num, 0, 0)
      | none =>
        if !captureOk req then respond s h 0x000A .outOfRange 0
        else if !strmRuns s h.port 4 then longAtOnce s h 0x000A .failed 0 (u32 0 ++ u32 0)
        else
          let (id, s) := acceptLong s h 0x000A
          let run : CaptureRun := { id := id, req := req, armed := s.grid.now, triggered := none, full := false, buffers := 0,
                                    lost0 := (strm s h.port 4).lost }
          let s := modPort s h.port fun q => { q with capture := some run }
          if req.trigger = 0 then fireCapture s h.port s.grid.now else s)

/-- CAPTURE_TRIGGER (R409): the cycle named has come, or the event named has occurred since the capture was armed. -/
def execCaptureTrigger (port : Ix) (s : State) : Host.Outcome State Fault Refusal :=
  .next (
    match (s.host.port.get port).capture with
    | none => s
    | some c =>
      if !running s || c.triggered.isSome then s
      else if c.req.trigger = 1 then
        (if c.req.cyc * 128 ≤ s.grid.now then fireCapture s port (c.req.cyc * 128) else s)
      else match KV.get? s.ev.last c.req.evt with
        | some o =>
          let t := o.at_.cycle * 128 + o.at_.tick
          if c.armed ≤ t then fireCapture s port t else s
        | none => s)

/-- HOST_READ_DEFERRED (R409, Table 1-6): a WAVEFORM or LEDGER_EXPORT write has waited more than 1 ms behind a state record; EV 161,
once per cycle while it waits (R46). -/
def execHostReadDeferred (port : Ix) (stream : Nat) (delayMs : F32) (s : State) : Host.Outcome State Fault Refusal :=
  .next (
    if running s && strmRuns s port stream && (stream == 3 || stream == 4) && !(strm s port stream).writing.isEmpty &&
        decide (1 < F32.toRat delayMs) then
      raiseOnce s 161 (8 * port.num + stream) (curCycle s) (u8 stream ++ fb delayMs)
    else s)

/-! ### Register writes (R397, R489 to R493) -/

/-- Writing EV_MASKg: for each event pending whose mask bit is written 0, its vector is sent (R418). -/
def maskWrite (s : State) (p : Ix) (g w : Nat) : State :=
  let q := s.host.port.get p
  let pend := q.pend.getD g 0
  let s := modPort s p fun q => { q with mask := modAt q.mask g fun _ => w }
  ((List.range 32).filter fun i => testBit pend i && !testBit w i).foldl
    (fun s i => sendVector s p (16 + parN s (0x0F00 + 32 * g + i) / 16)) s

/-- A value with the bits of a write of ones cleared. -/
def w1c (v w : Nat) : Nat := v - (v &&& w)
/-- A flag after a write with 1 in its bit. -/
def keepBit (v : Bool) (w i : Nat) : Bool := v && !testBit w i

/-- Writes to the clock and die-temperature block and PAIR_STAT. -/
def writeClocks (s : State) (off w : Nat) : State :=
  let c := s.clk
  let p := s.pair
  match off with
  | 0x100 => pumpStop s.clk.lock { s with clk := writeClkCtrl s.clk w }
  | 0x104 => { s with clk := { c with
      forced := keepBit c.forced w 4, lockLost := keepBit c.lockLost w 5, refLost := keepBit c.refLost w 6,
      refDiff := keepBit c.refDiff w 8, divReject := keepBit c.divReject w 9, forcedDom := w1c c.forcedDom (bits w 15 10) } }
  | 0x108 => { s with clk := { c with
      div := { cpu := bits w 5 0, eng := bits w 11 6, fab := bits w 17 12, ctl := bits w 23 18, mod := bits w 31 24 } } }
  | 0x110 => { s with therm := { s.therm with bandChg := keepBit s.therm.bandChg w 19 } }
  | 0x114 => { s with therm := { s.therm with slotT := w % 4096, hostUp := some s.elec.uptime } }
  | 0x230 => { s with pair := { p with
      ejectRefused := keepBit p.ejectRefused w 9, lineFault := keepBit p.lineFault w 10, takeover := keepBit p.takeover w 11 } }
  | _ => s
/-- Writes to the rings, front ends, fusion and estimation blocks. -/
def writeSensing (s : State) (off w : Nat) : State :=
  let ring (x : Ix) : State := modCar s x fun c => { c with countMismatch := keepBit c.countMismatch w 5 }
  let fe (x : Ix) : State := modFe s x fun f =>
    { f with ovr := f.ovr.zipIdx.map fun p => keepBit p.1 w (3 + p.2), gap := keepBit f.gap w 7 }
  match off with
  | 0x300 => ring .zero
  | 0x304 => ring .one
  | 0x400 => fe .zero
  | 0x404 => fe .one
  | 0x408 => { s with front := { s.front with gref := { s.front.gref with ovr := w1c s.front.gref.ovr (w % 256) } } }
  | 0x500 => { s with fus := { s.fus with overrun := keepBit s.fus.overrun w 4 } }
  | 0x510 => { s with est := { s.est with dumpFault := keepBit s.est.dumpFault w 6, gap := keepBit s.est.gap w 7 } }
  | _ => s
/-- Writes to the control engine, point hold, protection and CAN blocks. -/
def writeActing (s : State) (off w : Nat) : State :=
  let c := s.ctl
  let h := s.hold
  let can (b : Ix) : State := modBus s b fun k =>
    { k with schedFault := keepBit k.schedFault w 12, winMissed := keepBit k.winMissed w 13, yielded := keepBit k.yielded w 14 }
  match off with
  | 0x600 => { s with ctl := { c with
      lateBit := keepBit c.lateBit w 2, nonfBit := keepBit c.nonfBit w 3, parityBit := keepBit c.parityBit w 4,
      latMax := if testBit w 5 then 0 else c.latMax } }
  | 0x608 => { s with ctl := { c with bankReq := c.bankReq / 2 ^ 32 * 2 ^ 32 + w } }
  | 0x60C => { s with ctl := { c with bankReq := w % 2 ^ 16 * 2 ^ 32 + c.bankReq % 2 ^ 32 } }
  | 0x618 => { s with ctl := { c with late := w1c c.late w } }
  | 0x61C => { s with ctl := { c with late := w1c c.late (w * 2 ^ 32) } }
  | 0x800 => { s with hold := { h with
      notDelivered := keepBit h.notDelivered w 13, lateSum := keepBit h.lateSum w 14, diverge := keepBit h.diverge w 15 } }
  | 0x900 => { s with outr := { s.outr with hbFail := keepBit s.outr.hbFail w 3, thrReject := keepBit s.outr.thrReject w 10 } }
  | 0xA00 => can .zero
  | 0xA04 => can .one
  | _ => s
/-- Writes to the host interface block, each port its own. -/
def writeHost (s : State) (p : Ix) (off w : Nat) : State :=
  if off = 0xB00 then
    modPort s p fun q => { q with cplTo := keepBit q.cplTo w 9, descTo := keepBit q.descTo w 10, otherLost := keepBit q.otherLost w 11 }
  else if 0xC00 ≤ off ∧ off < 0xC40 then
    let n := (off - 0xC00) / 8
    if off % 8 = 0 then doorbell s p n w [] else modRing s p n fun r => { r with dbErr := keepBit r.dbErr w 6 }
  else if 0xD00 ≤ off ∧ off < 0xD28 then
    let m := (off - 0xD00) / 8
    if off % 8 = 0 then writeTail s p m w else modStrm s p m fun t => { t with starved := keepBit t.starved w 15 }
  else s
/-- Writes to the event, ledger, parameter and update registers. -/
def writeEvents (s : State) (p : Ix) (off w : Nat) : State :=
  if 0xE00 ≤ off ∧ off < 0xE20 then modPort s p fun q => { q with pend := modAt q.pend ((off - 0xE00) / 4) fun v => w1c v w }
  else if 0xE20 ≤ off ∧ off < 0xE40 then maskWrite s p ((off - 0xE20) / 4) w
  else match off with
    | 0xE80 => { s with ev := { s.ev with overflow := keepBit s.ev.overflow w 6, fault := keepBit s.ev.fault w 7 } }
    | 0xF00 => { s with par := { s.par with persistFault := keepBit s.par.persistFault w 8, safetyReload := keepBit s.par.safetyReload w 10 } }
    | 0xF10 => { s with upd := { s.upd with lapsed := keepBit s.upd.lapsed w 15 } }
    | _ => s
/-- Writes to the MSI-X table: an entry unmasked while pending sends its message (R393, R410). -/
def writeMsix (s : State) (p : Ix) (off w : Nat) : State :=
  let n := (off - 0xE000) / 16
  let put (f : MsixEntry → MsixEntry) : State := modPort s p fun q => { q with msix := modAt q.msix n f }
  match off % 16 with
  | 0 => put fun e => { e with addr := e.addr / 2 ^ 32 * 2 ^ 32 + w }
  | 4 => put fun e => { e with addr := w * 2 ^ 32 + e.addr % 2 ^ 32 }
  | 8 => put fun e => { e with data := w }
  | _ =>
    let was := ((s.host.port.get p).msix[n]?).any (·.pend)
    let s := put fun e => { e with masked := testBit w 0, pend := e.pend && testBit w 0 }
    if was && !testBit w 0 then sendVector s p n else s

/-- A write of BAR0 through a port: an unaligned access, a reserved offset and a read-only field take nothing (R397, R489, R493). -/
def bar0Write (s : State) (p : Ix) (off w : Nat) : State :=
  if off % 4 ≠ 0 then s
  else if off = 0x1C then modPort s p fun q => { q with scratch := w }
  else if off < 0x240 then writeClocks s off w
  else if off < 0x600 then writeSensing s off w
  else if off < 0xB00 then writeActing s off w
  else if off < 0xE00 then writeHost s p off w
  else if off < 0xE000 then writeEvents s p off w
  else if off < 0xE200 then writeMsix s p off w
  else s

/-- REGISTER_WRITE (R397, R493). -/
def execRegisterWrite (port : Ix) (offset : Nat) (w : Word) (s : State) : Host.Outcome State Fault Refusal :=
  .next (if clocked s && portUp s port then bar0Write s port offset w.toNat else s)

/-- EV_MASK_WRITE (R418). -/
def execEvMaskWrite (port : Ix) (group : Nat) (w : Word) (s : State) : Host.Outcome State Fault Refusal :=
  .next (if clocked s && portUp s port && decide (group < 8) then maskWrite s port group w.toNat else s)

end Sys2Proof.Machine
end

