-- ==== Sys2Proof/Machine/Events.lean ====
section
/-! DEFINITION. Meanings of the event and ledger commands (chapter 15). -/

namespace Sys2Proof.Machine

open Sys2Proof

/-- FAB runs from the PLL below four times PER, against the second limit of Table 2-2 (R57). -/
def fabOver (s : State) : Bool := s.clk.fabPll && decide (12 < s.clk.divActing.fab)

/-- LEDGER_RECORD_WRITE (R421, R422, R423): the next record of the occurrence at the head of the queue is written, with the results of its
two read-backs; the second failure leaves the slot invalid with EV 252. A queue that has drained after a drop gives EV 250. While FAB is too
slow for its clients, a write that fails is lost and counts as an occurrence does in a freeze (R57; DEDUCED, log 151). -/
def execLedgerRecordWrite (first second : Bool) (s : State) : Host.Outcome State Fault Refusal :=
  .next (
    if !running s || !s.elec.scanned || s.ev.freeze.isSome then s
    else match s.ev.queue with
      | [] => s
      | o :: rest =>
        let ok := first || second
        let seq := s.ev.next
        let lost := fabOver s && !ok
        let s := if lost then { s with ev := { s.ev with frzCnt := sat 0xFFFF (s.ev.frzCnt + 1) } } else writeRecord s o s.ev.part ok
        let s := if s.ev.part + 1 < o.parts then { s with ev := { s.ev with part := s.ev.part + 1 } }
          else { s with ev := { s.ev with part := 0, queue := rest } }
        let s := if s.ev.queue.isEmpty && decide (0 < s.ev.dropped) then
            let n := s.ev.dropped
            let q := s.ev.afterDrop.getD s.ev.next
            raise { s with ev := { s.ev with dropped := 0, afterDrop := none } } 250 (u32 n ++ u64 q)
          else s
        if ok || lost then s else raise { s with ev := { s.ev with fault := true } } 252 (u64 seq ++ u16 (seq % 65536)))

/-- EV_LAST (R415): the newest occurrence since the restart as a record of Table 15-4; its SEQ is free (log 25). -/
def execEvLast (h : Hdr) (evt : Nat) (s : State) : Host.Outcome State Fault Refusal :=
  .next (
    if !hostReady s h then s
    else match KV.get? s.ev.last evt with
      | none => respond s h 0x0100 .outOfRange 0
      | some o =>
        let seq := (Config.unstated 11 (BitVec.ofNat 32 s.freeCtr)).toNat
        respondOk (takeFree s) h 0x0100 (ledBytes seq o (decide (1 < o.parts)) 0 (o.data.take 36)))

/-- The present records from a SEQ upward, at most `count`, and the number of SEQs passed over that were not present (R425). -/
def readFrom (s : State) : (fuel seq count : Nat) → List Byte × Nat
  | 0, _, _ => ([], 0)
  | _, _, 0 => ([], 0)
  | f + 1, seq, count + 1 =>
    if s.ev.next ≤ seq then ([], 0)
    else match present s seq with
      | some r => let (b, n) := readFrom s f (seq + 1) count; (r.bytes ++ b, n)
      | none => let (b, n) := readFrom s f (seq + 1) (count + 1); (b, n + 1)

/-- The oldest SEQ that can be present. -/
def oldestSeq (s : State) : Nat := max s.ev.floor (s.ev.next - 65536)

/-- LEDGER_READ (R425): SEQs below the oldest that can be present are passed over at once. -/
def execLedgerRead (h : Hdr) (first count : Nat) (s : State) : Host.Outcome State Fault Refusal :=
  .next (
    if !hostReady s h then s
    else if count = 0 ∨ 63 < count then respond s h 0x0101 .outOfRange 0
    else
      let start := min s.ev.next (max first (oldestSeq s))
      let (b, n) := readFrom s 65537 start count
      respondFull s h 0x0101 .ok ((n + (start - first)) % 2 ^ 32) 0 none b)

/-- The SEQs of a range that are present, ascending. -/
def presentIn (s : State) (first last : Nat) : List Nat :=
  let lo := max first (oldestSeq s)
  let hi := min (last + 1) s.ev.next
  (List.range (hi - lo)).filterMap fun i => if (present s (lo + i)).isSome then some (lo + i) else none

/-- LEDGER_EXPORT (R426). -/
def execLedgerExport (h : Hdr) (first last : Nat) (s : State) : Host.Outcome State Fault Refusal :=
  .next (
    if !hostReady s h then s
    else if !strmRuns s h.port 3 then respond s h 0x0102 .refused 0
    else match (s.host.port.get h.port).dump with
      | some d =>
        match s.host.longs.find? fun l => l.id == d.id with
        | some l => respondBusy s h 0x0102 (l.port.num, l.ring, l.tag)
        | none => respondBusy s h 0x0102 (h.port.num, 0, 0)
      | none =>
        let qs := presentIn s first last
        let (id, s) := acceptLong s h 0x0102
        let run : DumpRun := { id := id, left := qs, total := qs.length, lost := 0, lost0 := (strm s h.port 3).lost }
        runDump (modPort s h.port fun q => { q with dump := some run }) h.port)

/-- A freeze is held by another client. -/
def freezeOther (s : State) (h : Hdr) : Option (Nat × Nat × Nat) :=
  match s.ev.freeze with
  | none => none
  | some f => if f.port = h.port ∧ f.ring = h.ring then none else some (f.port.num, f.ring, f.tag)

/-- Every occurrence that waits is written at once (Table 15-5). -/
def drainQueue : Nat → State → State
  | 0, s => s
  | n + 1, s =>
    match s.ev.queue with
    | [] => s
    | o :: rest =>
      let s' := (List.range o.parts).foldl (fun t p => if p < s.ev.part then t else writeRecord t o p true) s
      drainQueue n { s' with ev := { s'.ev with queue := rest, part := 0 } }

/-- Draining the queue with the EV 250 that a drop calls for (R423, Table 15-5). -/
def drainAll (s : State) : State :=
  let s := drainQueue s.ev.queue.length s
  if 0 < s.ev.dropped then
    let n := s.ev.dropped
    let q := s.ev.afterDrop.getD s.ev.next
    let s := raise { s with ev := { s.ev with dropped := 0, afterDrop := none } } 250 (u32 n ++ u64 q)
    drainQueue s.ev.queue.length s
  else s

/-- LEDGER_FREEZE (R427, Table 15-5): the queue drains, EV 248 begun is written, then the freeze holds; a repeat sets its end (log 164). -/
def execLedgerFreeze (h : Hdr) (ms : Nat) (s : State) : Host.Outcome State Fault Refusal :=
  .next (
    if !hostReady s h then s
    else match freezeOther s h with
      | some who => respondBusy s h 0x0103 who
      | none =>
        if ms = 0 ∨ 10000 < ms then respond s h 0x0103 .outOfRange 0
        else match s.ev.freeze with
          | some f => respondOk { s with ev := { s.ev with freeze := some { f with ms := min 10000 ((s.elec.uptime - f.up) / 8000000 + ms) } } } h 0x0103 []
          | none =>
            if s.ev.freezeEnd.any fun u => !passed s u (sec 1) then respond s h 0x0103 .refused 0
            else
              let s := raisePast (drainAll s) 248 (ux h.port ++ u8 h.ring ++ u32 h.tag ++ u16 ms)
              let s := drainQueue s.ev.queue.length s
              let f : FreezeRec := { port := h.port, ring := h.ring, tag := h.tag, start := stampTick s, up := s.elec.uptime, ms := ms,
                                     counts := List.replicate 8 0 }
              respondOk { s with ev := { s.ev with freeze := some f, holder := (h.port, h.ring), frzCnt := 0 } } h 0x0103 [])

/-- LEDGER_UNFREEZE (R427): with no freeze in force it changes nothing (DESIGN CHOICE, log 36). -/
def execLedgerUnfreeze (h : Hdr) (s : State) : Host.Outcome State Fault Refusal :=
  .next (
    if !hostReady s h then s
    else match freezeOther s h with
      | some who => respondBusy s h 0x0104 who
      | none => respondOk (endFreeze s 1) h 0x0104 [])

/-- FREEZE_EXPIRY (R427): the duration asked for, or 10 s, has passed. -/
def execFreezeExpiry (s : State) : Host.Outcome State Fault Refusal :=
  .next (
    match s.ev.freeze with
    | none => s
    | some f => if running s && passed s f.up (ms (min 10000 f.ms)) then endFreeze s 2 else s)

/-- LEDGER_CLEAR (R428): at once, or at the end of a freeze that the client holds. -/
def execLedgerClear (h : Hdr) (upto : Nat) (s : State) : Host.Outcome State Fault Refusal :=
  .next (
    if !hostReady s h then s
    else match freezeOther s h with
      | some who => respondBusy s h 0x0105 who
      | none =>
        if s.ev.freeze.isSome then
          let u := match s.ev.clear with
            | some c => max c.1 upto
            | none => upto
          let s := { s with ev := { s.ev with clear := some (u, h.port.num, h.ring, h.tag) } }
          respondOk s h 0x0105 (u64 s.ev.floor)
        else
          let s := applyClear s upto h.port.num h.ring h.tag
          respondOk s h 0x0105 (u64 s.ev.floor))

/-- The oldest present SEQ, or the next SEQ when none is present. -/
def oldestPresent (s : State) : Nat := ((presentIn s 0 s.ev.next).head?).getD s.ev.next
/-- The records lost so far by the exports that run (R425, R426). -/
def dumpLost (s : State) : Nat :=
  let f (q : PortState) : Nat := match q.dump with
    | some d => d.lost + (((q.streams[3]?).map (·.lost)).getD 0 - d.lost0)
    | none => 0
  f s.host.port.zero + f s.host.port.one
/-- LEDGER_INFO response: oldest present SEQ, next SEQ, floor (8 bytes each); frozen, holder port, holder ring, reserved (1 each); freeze
count, occurrences dropped, records that exports lost (4 each). DESIGN CHOICE of layout (log 36). -/
def ledgerInfo (s : State) : List Byte :=
  u64 (oldestPresent s) ++ u64 s.ev.next ++ u64 s.ev.floor ++ ub s.ev.freeze.isSome ++ ux s.ev.holder.1 ++ u8 s.ev.holder.2 ++ u8 0 ++
    u32 s.ev.frzCnt ++ u32 s.ev.dropped ++ u32 (dumpLost s)
/-- LEDGER_INFO (R425). -/
def execLedgerInfo (h : Hdr) (s : State) : Host.Outcome State Fault Refusal :=
  .next (if hostReady s h then respondOk s h 0x0106 (ledgerInfo s) else s)

/-- EV_TEST (R412): EV 255 with port, ring and 8 bytes of the host's. -/
def execEvTest (h : Hdr) (data : List Byte) (s : State) : Host.Outcome State Fault Refusal :=
  .next (
    if !hostReady s h then s
    else if data.length ≠ 8 then respond s h 0x0107 .badLength 0
    else respondOk (raise s 255 (ux h.port ++ u8 h.ring ++ data)) h 0x0107 [])

end Sys2Proof.Machine
end

