-- ==== Sys2Proof/Machine/Parameters.lean ====
section
/-! DEFINITION. Meanings of the parameter commands: reads and writes, COMMIT with the checks of the owning chapters, persistence, and the
safety scan (chapter 16). -/

namespace Sys2Proof.Machine

open Sys2Proof

/-! ### Banks (R443, R444) -/

/-- The valid bank with the highest COMMIT_SEQ of an area, and where it lies. -/
def newestBank (a : Two (Option Bank)) : Option (Ix × Bank) :=
  let ok (b : Option Bank) : Option Bank := b.filter (·.valid)
  match ok a.zero, ok a.one with
  | some b, some c => some (if b.seq < c.seq then (.one, c) else (.zero, b))
  | some b, none => some (.zero, b)
  | none, some c => some (.one, c)
  | none, none => none
/-- The newest valid bank of the area in use. -/
def bankInUse (s : State) : Option (Ix × Bank) := newestBank (s.par.areas.get s.par.area)
/-- The bank that a persistence writes: the one that does not hold the newest valid COMMIT_SEQ. -/
def targetBank (s : State) : Ix :=
  match bankInUse s with
  | some (x, _) => x.other
  | none => .zero
/-- The model parameter set that a bank carries: the set in force, or the one that a COMMIT has released. -/
def bankModel (s : State) : Option (List Byte) := if s.fus.modelDue then s.fus.modelStaged else s.fus.model
/-- A persistence of the dictionary in force starts; one that runs takes up the newest dictionary when it ends (R444). -/
def startPersist (s : State) : State :=
  if s.par.persisting then { s with par := { s.par with again := true } }
  else
    let b : Bank := { seq := s.par.seq, cycle := s.par.cycle, dict := s.par.committed, model := bankModel s, valid := true }
    { s with par := { s.par with persisting := true, retried := false, again := false, snap := some b } }

/-- PERSISTENCE_DONE (R444): the bank verifies, takes VALID and the other is erased; or its verify fails, once retried, then
PERSIST_FAULT. -/
def execPersistenceDone (verified : Bool) (s : State) : Host.Outcome State Fault Refusal :=
  .next (
    match s.par.snap with
    | none => s
    | some b =>
      if !(running s && s.par.persisting) then s
      else
        let p := s.par
        let x := targetBank s
        let next (s : State) : State :=
          if s.par.again then startPersist { s with par := { s.par with persisting := false } }
          else { s with par := { s.par with persisting := false, snap := none } }
        if verified then
          let area : Two (Option Bank) := (Two.both none).set x (some b)
          next { s with par := { p with areas := p.areas.set p.area area, bank := x, persistedSeq := b.seq, retried := false } }
        else
          let s := { s with par := { p with areas := p.areas.modify p.area fun t => t.set x none } }
          if p.retried then next { s with par := { s.par with persistFault := true, retried := false } }
          else { s with par := { s.par with retried := true } })

/-! ### PAR_READ (R430, R432, Table 16-4) -/

/-- Values of group 0x00 (Table 16-8). -/
def identityPar (s : State) (i : Nat) : Nat :=
  match i with
  | 1 => 1
  | 2 => 1330
  | 3 => s.par.seq
  | 4 => parDigest s
  | 5 => s.par.cycle
  | 6 => s.par.area.num
  | 7 => s.par.persistedSeq
  | _ => 0
/-- The dictionary as it is persisted: that of the newest valid bank of the area in use, or every default (R445, Table 16-4). -/
def persisted (s : State) : State :=
  match bankInUse s with
  | some (_, b) => { s with par := { s.par with committed := b.dict, seq := b.seq, cycle := b.cycle } }
  | none => { s with par := { s.par with committed := [], seq := 0, cycle := 0 } }
/-- The value that a source gives a parameter: 0 in force, 1 staged, 2 default, 3 persisted. -/
def sourceValue (s : State) (source a : Nat) : Nat :=
  let v := s.ident.variant
  if a < 0x100 then (if source = 2 ∧ a ≠ 4 then parDefault v a else identityPar (if source = 3 then persisted s else s) a)
  else match source with
    | 0 => parC s a
    | 1 => (KV.get? s.par.staged a).getD (parC s a)
    | 2 => dictDefault v s.par.committed a
    | _ => parC (persisted s) a
/-- One entry of a PAR_READ response. -/
def readEntry (s : State) (source a : Nat) (p : PInfo) : List Byte :=
  let v := sourceValue s source a
  u8 (a / 256) ++ u8 a ++ u8 p.ty ++ u8 p.cls ++ u16 p.len ++ leBytes p.len v ++ (if p.cls = 1 then leBytes p.len (complement p.len v) else [])
/-- The entries of a list of addresses, and the address before which the response stops (Table 16-4). -/
def readEntries (s : State) (source : Nat) : List Nat → List Byte → List Byte × Nat
  | [], acc => (acc, 0)
  | a :: as, acc =>
    match pInfo s.ident.variant a with
    | none => readEntries s source as acc
    | some p =>
      let e := readEntry s source a p
      if 4032 < acc.length + e.length then (acc, a) else readEntries s source as (acc ++ e)

/-- DETAIL of a dictionary answer: group:index in bits 15:0, reason in bits 31:16 (R435). -/
def parDetail (a reason : Nat) : Nat := a % 65536 + 65536 * reason

/-- PAR_READ (R430, Table 16-4). -/
def execParRead (h : Hdr) (group first count source : Nat) (s : State) : Host.Outcome State Fault Refusal :=
  .next (
    if !hostReady s h then s
    else if count = 0 ∨ 256 < count ∨ 3 < source ∨ 255 < first then respond s h 0x0010 .outOfRange (parDetail (group * 256 + first) 3)
    else
      let as := ((List.range (min count (256 - first))).map fun i => group * 256 + first + i).filter fun a => (pInfo s.ident.variant a).isSome
      if as.isEmpty then respond s h 0x0010 .outOfRange (parDetail (group * 256 + first) 1)
      else
        let (b, stop) := readEntries s source as []
        let lack := source == 3 && (bankInUse s).isNone
        respondFull s h 0x0010 .ok (stop + 65536 * bit lack) 0 none b)

/-! ### PAR_WRITE (R434, R435) -/

/-- Class 2 parameters that change only while ROLE is not active (Table 16-2). -/
def roleLimited (a : Nat) : Bool := a == 0x0101 || a == 0x0102 || (decide (0x0A02 ≤ a) && decide (a ≤ 0x0A06))

/-- The reason for which one entry fails, with LEN, its value bytes and its complement bytes (Table 16-5). -/
def entryFault (s : State) (a len : Nat) (v c : List Byte) : Option Nat :=
  match pInfo s.ident.variant a with
  | none => some 1
  | some p =>
    if p.cls = 3 then some 5
    else if len ≠ p.len ∨ v.length ≠ len ∨ (p.cls = 1 ∧ c.length ≠ len) then some 2
    else if !inRange p (ofLe v) then some 3
    else if p.cls = 1 ∧ ofLe c ≠ complement p.len (ofLe v) then some 4
    else if roleLimited a && isActive s then some 6
    else none

/-- The entries of a payload, packed without padding, or the first that fails with its reason. -/
def parseEntries (s : State) : Nat → List Byte → List (Nat × Nat) → Except (Nat × Nat) (List (Nat × Nat))
  | 0, _, acc => .ok acc
  | _, [], acc => .ok acc
  | n + 1, b, acc =>
    let a := byteAt b 0 * 256 + byteAt b 1
    if b.length < 4 then .error (a, 2)
    else
      let len := leAt b 2 2
      let dup := decide (classOf a = 1) && (pInfo s.ident.variant a).isSome
      let v := slice b 4 len
      let c := if dup then slice b (4 + len) len else []
      match entryFault s a len v c with
      | some r => .error (a, r)
      | none => parseEntries s n (b.drop (4 + len + (if dup then len else 0))) (acc ++ [(a, ofLe v)])

/-- Status of a reason (Table 16-5). -/
def reasonStatus : Nat → Status
  | 2 => .badLength
  | 4 | 5 | 6 | 10 => .refused
  | 8 => .conflict
  | 9 => .unsupported
  | _ => .outOfRange

/-- The holder's last use of its session (R434). -/
def touchSession (s : State) (h : Hdr) : State :=
  match s.par.holder with
  | some (p, r, t, _) => if p = h.port ∧ r = h.ring then { s with par := { s.par with holder := some (p, r, t, s.elec.uptime) } } else s
  | none => s

/-- PAR_WRITE (R434, R435). -/
def execParWrite (h : Hdr) (data : List Byte) (s : State) : Host.Outcome State Fault Refusal :=
  .next (
    if !hostReady s h then s
    else match stagingHolder s h true with
      | some who => respondBusy s h 0x0011 who
      | none =>
        match parseEntries s data.length data [] with
        | .error (a, r) => respond (touchSession s h) h 0x0011 (reasonStatus r) (parDetail a r)
        | .ok es => respondOk (stage s h es) h 0x0011 (u16 es.length))

/-- PAR_DISCARD (R434). -/
def execParDiscard (h : Hdr) (s : State) : Host.Outcome State Fault Refusal :=
  .next (
    if !hostReady s h then s
    else match stagingHolder s h false with
      | some who => respondBusy s h 0x0013 who
      | none => respondOk { s with par := { s.par with holder := none, staged := [] } } h 0x0013 [])

/-! ### The COMMIT checks of the owning chapters (R436)

Each takes the value of every parameter and answers the parameter that fails with its reason. -/

/-- The first failing check of a list. -/
def firstFault (cs : List (Bool × Nat × Nat)) : Option (Nat × Nat) := (cs.find? fun c => c.1).map (·.2)

/-- The Strings mode and string enabling (R8, R439). -/
def checkStrings (variant : Nat) (d : Nat → Nat) : Option (Nat × Nat) :=
  let one := testBit (d 0x0102) 1
  firstFault [(variant == 2 && d 0x0101 == 1, 0x0101, 9), (variant == 2 && one, 0x0102, 9), (d 0x0101 == 0 && one, 0x0102, 7)]

/-- The bin orders of a ring at a nominal frequency (R131). -/
def checkOrders (d : Nat → Nat) (x : Ix) (hz : Nat) : Option (Nat × Nat) :=
  ((List.range 6).find? fun j => !orderValidAt (d (0x0401 + x.num)) (d (0x0410 + 8 * x.num + j)) hz).map fun j =>
    (0x0410 + 8 * x.num + j, 7)
/-- The orders of every ring whose string is enabled now or from the next restart, at every MAINS_NOMINAL that can act (R131, R436). -/
def checkAllOrders (now next : Nat → Nat) : Option (Nat × Nat) :=
  ([Ix.zero, Ix.one].filter fun x => testBit (now 0x0102) x.num || testBit (next 0x0102) x.num).findSome? fun x =>
    [now 0x0201, next 0x0201].findSome? fun hz => checkOrders next x hz

/-- OCV_TABLE rises strictly with S at every temperature (R227). -/
def checkOcv (d : Nat → Nat) : Option (Nat × Nat) :=
  let b := leBytes 210 (d 0x0730)
  let v (t k : Nat) : Nat := leAt b (2 * (21 * t + k)) 2
  let bad := (List.range 5).any fun t => (List.range 20).any fun k => decide (v t (k + 1) ≤ v t k)
  firstFault [(bad, 0x0730, 7)]

/-- A binary32 parameter as a rational. -/
def dRat (d : Nat → Nat) (a : Nat) : Rat := F32.toRat (BitVec.ofNat 32 (d a))

/-- Balancing and thermal (R250). -/
def checkThermal (d : Nat → Nat) : Option (Nat × Nat) :=
  firstFault [(decide (d 0x0713 ≤ d 0x0714), 0x0714, 7), (decide (d 0x071A ≤ d 0x0719), 0x071A, 7),
    (decide (dRat d 0x0821 ≤ dRat d 0x0820), 0x0821, 7), (decide (dRat d 0x0822 ≤ dRat d 0x0823), 0x0822, 7),
    (decide (dRat d 0x0805 ≤ dRat d 0x0803), 0x0805, 7)]

/-- Reference set, SoC window and lead order (R275, R302). -/
def checkHold (d : Nat → Nat) : Option (Nat × Nat) :=
  let twice := [(2, 3), (2, 4), (2, 5), (3, 4), (3, 5), (4, 5)].find? fun (p : Nat × Nat) =>
    d (0x0A00 + p.1) == d (0x0A00 + p.2) && d (0x0A00 + p.1) != 0xFFFF
  firstFault [(d 0x0A06 != 0 && d 0x0540 == 0, 0x0A06, 7), (decide (dRat d 0x0A21 ≤ dRat d 0x0A20), 0x0A21, 7),
    (twice.isSome, 0x0A00 + ((twice.map (·.2)).getD 0), 7)]

/-- Protection limits and outrider thresholds of a string (R314). -/
def checkProtString (d : Nat → Nat) (x : Ix) : Option (Nat × Nat) :=
  let n := x.num
  let o := 0x0B20 + 8 * n
  let hall := d (0x0503 + n)
  let m := 100 + d 0x0B0E
  firstFault [
    (decide (100 * d o ≤ m * d (0x0B10 + n)) || decide (5 * hall < d o), o, 7),
    (decide (100 * d (o + 1) ≤ m * d (0x0B12 + n)) || decide (5 * hall < d (o + 1)), o + 1, 7),
    (decide (d (o + 2) ≤ d (0x0B14 + n)), o + 2, 7), (decide (d (0x0B16 + n) ≤ d (o + 3)), o + 3, 7),
    (decide (d (o + 4) < d (o + 2)), o + 4, 7)]
/-- Protection (R314). -/
def checkProt (d : Nat → Nat) : Option (Nat × Nat) :=
  let t (a : Nat) : Int := toSigned 8 (d a)
  let chain := firstFault [
    (decide (d 0x0B02 ≤ d 0x0B06), 0x0B06, 7), (decide (d 0x0B04 ≤ d 0x0B02 + 50), 0x0B04, 7),
    (decide (d 0x0B03 ≤ d 0x0B04), 0x0B03, 7), (decide (d 0x0B01 ≤ d 0x0B03 + 50), 0x0B01, 7),
    (decide (d 0x0B05 ≤ d 0x0B01), 0x0B05, 7),
    (decide (t 0x0B09 ≤ t 0x0B08), 0x0B09, 7), (decide ((d 0x0B07 : Int) ≤ t 0x0B09), 0x0B09, 7)]
  match chain, checkProtString d .zero with
  | some f, _ => some f
  | none, some f => some f
  | none, none => checkProtString d .one

/-- A window record lies in its ranges (Table 13-4). -/
def winInRange (b : Ix) (w : CanWin) : Bool :=
  decide (w.kind ≤ 4) && (w.kind != 1 || b == .zero) && (w.kind != 2 || b == .one) &&
    (w.kind == 0 ||
      (decide (w.start ≤ 63) && decide (1 ≤ w.len) && decide (w.start + w.len ≤ 64) &&
        (if w.kind = 1 then decide (w.index ≤ 1) else if w.kind = 2 then decide (w.index ≤ 15) else if w.kind = 3 then decide (w.index ≤ 7) else true)))
/-- Two windows share a slot of a basic cycle (R370). -/
def winsOverlap (v w : CanWin) : Bool :=
  v.kind != 0 && w.kind != 0 && decide (v.start < w.start + w.len) && decide (w.start < v.start + v.len) && (v.mask &&& w.mask) != 0
/-- The windows of one bus at a candidate and a holding period (R372). -/
def checkBus (d : Nat → Nat) (b : Ix) (cand : Nat) : Option (Nat × Nat) :=
  let ws := (List.range 32).map fun w => readWin (d (winAddr b w))
  let bad := ws.zipIdx.find? fun p =>
    !winInRange b p.1 || !winFits (d 0x0202) cand p.1 || (ws.take p.2).any (winsOverlap p.1)
  let lacks (n : Nat) : Bool :=
    b == .zero && testBit (d 0x0102) n &&
      (match ws.filter fun w => w.kind == 1 && w.index == n with
       | [w] => w.mask != 0xFF
       | _ => true)
  match bad with
  | some (_, k) => some (winAddr b k, 7)
  | none => firstFault [(lacks 0 || lacks 1, winAddr b 0, 7)]
/-- The windows of both buses (R372). -/
def checkCan (s : State) (d : Nat → Nat) : Option (Nat × Nat) :=
  let cand (b : Ix) : Nat := if (canBus s b).rate = 0 then d (0x0D04 + b.num) else (canBus s b).rate
  match checkBus d .zero (cand .zero) with
  | some f => some f
  | none => match checkBus d .one (cand .one) with
    | some f => some f
    | none => firstFault [(decide (d 0x0D03 < 100), 0x0D03, 7)]
/-- The module's identifiers against those of host messages that are posted, and against 0x7FF (R385). -/
def checkIds (s : State) (d : Nat → Nat) : Option (Nat × Nat) :=
  let one (b : Ix) : Option (Nat × Nat) :=
    let base := d (0x0D0A + b.num)
    let c := canBus s b
    let posted := c.hostBuf.filterMap id ++ c.queue.filter (·.kind == .host)
    let hit := posted.any fun m => !testBit m.format 3 && decide (base ≤ m.id) && decide (m.id ≤ base + 0x1F)
    firstFault [(decide (0x7FF < base + 0x1F) || hit, 0x0D0A + b.num, 7)]
  match one .zero with
  | some f => some f
  | none => one .one

/-- LEDGER = 0 for a forced event (R417). -/
def checkRoutes (d : Nat → Nat) : Option (Nat × Nat) :=
  ((List.range 256).find? fun e => forcedEvent e && d (0x0F00 + e) % 2 == 0).map fun e => (0x0F00 + e, 7)

/-! ### The control engine's records (R265, R388) -/

/-- The lowest-numbered node of a kind that serves a string, in a dictionary (R388). -/
def dictNode (d : Nat → Nat) (kind : Nat) (x : Option Nat) : Option Nat :=
  (List.range 16).find? fun n => d (0x0D10 + n) % 256 == kind && x.all fun i => testBit (d (0x0D10 + n) / 256) i
/-- Node of a thermal slot (R388). -/
def slotNode (d : Nat → Nat) (n : Nat) : Option Nat :=
  match n with
  | 40 => dictNode d 1 (some 0)
  | 41 => dictNode d 1 (some 1)
  | 42 => dictNode d 2 none
  | _ => dictNode d 3 none
/-- A record with bytes replaced from an offset. -/
def putBytes (b : List Byte) (off : Nat) (v : List Byte) : List Byte := b.take off ++ v ++ b.drop (off + v.length)
/-- The record of a thermal slot with the fields that the module writes itself; without a fan node the node bits are 0 (R265, R388). -/
def thermalRecord (d : Nat → Nat) (n : Nat) : Nat :=
  let b := leBytes 32 (d (0x0900 + n))
  let dest : List Byte := match slotNode d n with
    | some k => [2, toByte k]
    | none => [0, 0]
  let b := putBytes b 22 dest
  ofLe (if n = 43 then putBytes b 4 [8, toByte (0x10 + (slotNode d 43).getD 0)] else b)

/-- Byte ranges of the fixed fields of a slot's record (Tables 9-1 and 10-5). -/
def fixedBytes (n : Nat) : List Nat :=
  if n = 0 ∨ n = 1 ∨ n = 16 ∨ n = 17 then [1, 4, 5, 8, 9, 10, 11, 20, 21, 22, 23]
  else if 18 ≤ n ∧ n ≤ 23 then [22, 23]
  else if 40 ≤ n ∧ n ≤ 42 then [1, 3, 4, 5, 6, 7, 8, 9, 10, 11, 16, 17, 18, 19, 20, 21]
  else if n = 43 then [1, 3, 4, 6, 7, 8, 9, 10, 11, 16, 17, 18, 19, 20, 21]
  else []
/-- CODE and ARG of an input are known to a slot (Table 9-2, R265, R286). -/
def inputKnown (n code arg : Nat) : Bool :=
  match code with
  | 0x00 => true
  | 0x01 | 0x02 | 0x03 | 0x04 | 0x05 | 0x06 | 0x0A | 0x0C => decide (arg ≤ 1)
  | 0x07 => decide (arg ≤ 7)
  | 0x08 => decide (arg ≤ 0x2F)
  | 0x09 => decide (arg ≤ 47) && arg != n
  | 0x0B => decide (arg ≤ 8)
  | 0x0D => decide (arg ≤ 1) || ((arg == 0x80 || arg == 0x81) && (n == 16 || n == 17))
  | 0x0E | 0x0F => decide (40 ≤ n) && decide (n ≤ 43) && arg == n
  | _ => false
/-- A destination exists (Table 9-4). -/
def destKnown (cls idx : Nat) : Bool :=
  match cls with
  | 0 => true
  | 1 => decide (idx ≤ 1)
  | 2 => decide (idx ≤ 15)
  | 3 => decide (idx ≤ 7)
  | _ => false
/-- A configuration record is in order (R265). -/
def recordOk (n : Nat) (b dflt : List Byte) : Bool :=
  let p := byteAt b 1
  let inp (o : Nat) : Bool := inputKnown n (byteAt b o) (byteAt b (o + 1))
  let lim := byteAt b 20
  (fixedBytes n).all (fun o => byteAt b o == byteAt dflt o) &&
  F32.isFinite (cfgF b 12) && F32.isFinite (cfgF b 16) && decide (p ≤ 128) && (p == 0 || decide (byteAt b 2 < p)) &&
  decide (byteAt b 3 ≤ 3) && inp 4 && inp 6 && inp 8 && inp 10 && inp 20 && (lim == 0 || lim == 0x0D || lim == 0x0E) &&
  destKnown (byteAt b 22) (byteAt b 23) && decide (1 ≤ leAt b 24 2) && decide (leAt b 24 2 ≤ 3000) && decide (byteAt b 26 ≤ 1) &&
  (!cfgEn b || byteAt b 4 != 0)
/-- A bank is in order, and its range holds FALLBACK (R265, R269). -/
def bankOk (b : List Byte) (fallback : F32) : Bool :=
  let v (k : Nat) : F32 := cfgF b (4 * k)
  let q (k : Nat) : Rat := F32.toRat (v k)
  (List.range 10).all (fun k => F32.isFinite (v k)) && decide (q 6 < q 7) && decide (0 ≤ q 8) && decide (0 ≤ q 9) &&
  decide (0 ≤ q 3) && decide (q 3 ≤ 1000000) && decide (0 ≤ q 4) && decide (q 4 ≤ 1000000) &&
  decide (q 6 ≤ F32.toRat fallback) && decide (F32.toRat fallback ≤ q 7)
/-- The control engine's records and banks (R265). -/
def checkControl (d : Nat → Nat) : Option (Nat × Nat) :=
  let cfg (n : Nat) : List Byte := leBytes 32 (d (0x0900 + n))
  let ns := List.range 48
  match ns.find? fun n => !recordOk n (cfg n) (cfgDefault n) with
  | some n => some (0x0900 + n, 7)
  | none =>
    let bank (n a : Nat) : Bool := bankOk (leBytes 40 (d a)) (cfgF (cfg n) 16)
    match ns.find? fun n => !bank n (0x0940 + n) with
    | some n => some (0x0940 + n, 7)
    | none => match ns.find? fun n => !bank n (0x0980 + n) with
      | some n => some (0x0980 + n, 7)
      | none =>
        let claims (n : Nat) : Bool := cfgEn (cfg n) && byteAt (cfg n) 22 != 0
        let same (m n : Nat) : Bool := claims m && slice (cfg m) 22 2 == slice (cfg n) 22 2
        (ns.find? fun n => claims n && (List.range n).any fun m => same m n).map fun n => (0x0900 + n, 8)

/-! ### COMMIT (R436 to R439) -/

/-- Every staged value laid over the dictionary in force, with the fields that the module writes itself. -/
def candidate (s : State) : Dict :=
  let v := s.ident.variant
  let d := s.par.staged.foldl (fun d e => dictSet v d e.1 e.2) s.par.committed
  [40, 41, 42, 43].foldl (fun d n => dictSet v d (0x0900 + n) (thermalRecord (dictGet v d) n)) d

/-- Every COMMIT check on the whole candidate, with the class 2 values that act now and those that act from the next restart. -/
def commitFault (s : State) (c : Dict) : Option (Nat × Nat) :=
  let v := s.ident.variant
  let next (a : Nat) : Nat := dictGet v c a
  let now (a : Nat) : Nat := if classOf a = 2 then parN s a else next a
  let each (f : (Nat → Nat) → Option (Nat × Nat)) : List (Option (Nat × Nat)) := [f next, f now]
  ([checkStrings v next, checkAllOrders now next, checkOcv next, checkThermal next] ++ each checkHold ++ [checkControl next, checkProt next] ++
    each (checkCan s) ++ [checkIds s next, checkRoutes next]).findSome? id

/-- The parameters whose committed values a candidate changes. -/
def changedPars (s : State) (c : Dict) : List Nat :=
  let v := s.ident.variant
  let as := (s.par.staged.map (fun (e : Nat × Nat) => e.1) ++ [0x0928, 0x0929, 0x092A, 0x092B]).dedup
  as.filter fun (a : Nat) => decide (dictGet v c a ≠ parC s a)

/-- A change of HALL_A_PER_V alters a threshold code (R442). -/
def altersCode (s : State) (c : Dict) (a : Nat) : Bool :=
  let v := s.ident.variant
  let x := a - 0x0503
  let amp (k : Nat) : Nat := dictGet v c (0x0B20 + 8 * x + k)
  let old := parN s a
  let new := dictGet v c a
  (a == 0x0503 || a == 0x0504) &&
    (currentCode (amp 0) old != currentCode (amp 0) new || currentCode (-(amp 1 : Rat)) old != currentCode (-(amp 1 : Rat)) new)

/-- Scheduling one change at its boundary; the earlier change of the same parameter that still waits gives way to it (R433, R437). -/
def schedule (s : State) (c : Dict) (a : Nat) : State :=
  let v := dictGet s.ident.variant c a
  if classOf a = 2 then s
  else
    let p := s.par
    let rest := p.pending.filter fun (e : Bound × Nat × Nat) => e.2.1 != a
    match (if altersCode s c a then some .protection0 else boundOf a) with
    | none => { s with par := { p with acting := dictSet s.ident.variant p.acting a v, pending := rest } }
    | some b => { s with par := { p with pending := rest ++ [(b, a, v)] } }

/-- The complement kept beside a class 1 value; none where the value is the default (R440). -/
def withComp (s : State) (comp : Dict) (a v : Nat) : Dict :=
  match pInfo s.ident.variant a with
  | some p => if p.cls = 1 then (if v = p.dflt ∧ isGain a = false then KV.drop comp a else KV.put comp a (complement p.len v)) else comp
  | none => comp

/-- A CONFIG carries the parameter (R105, R314). -/
def unitSetting (a : Nat) : Bool := (decide (0x0401 ≤ a) && decide (a < 0x0420)) || a == 0x0712 || a == 0x0B05 || a == 0x0B06
/-- The units' new settings are written to every unit of every served ring (R105). -/
def configureUnits (s : State) : State :=
  if !drives s then s
  else [Ix.zero, Ix.one].foldl (fun s x =>
    if (car s x).served then (car s x).units.foldl (fun s u => sendConfig s x u.addr) s else s) s

/-- Setting CAL_VALID of a channel; the coefficients in use follow at the next tick boundary (R167). -/
def setCalValid (s : State) (target ch : Nat) (ok : Bool) : State :=
  if target = 2 then
    let w := s.front.gref.calValid
    let w := if testBit w ch == ok then w else if ok then w + 2 ^ ch else w - 2 ^ ch
    { s with front := { s.front with gref := { s.front.gref with calValid := w } } }
  else modFe s (Ix.ofNum target) fun f => { f with calValid := setAt f.calValid ch ok }
/-- The channels that have a coefficient pair: target and channel (R166). -/
def calPairs : List (Nat × Nat) :=
  (List.range 4).map (fun ch => (0, ch)) ++ (List.range 4).map (fun ch => (1, ch)) ++ (List.range 8).map fun ch => (2, ch)
/-- The scale parameter that a channel's G_nom follows; 0 for none (Table 5-5). -/
def scaleAddr (target ch : Nat) : Nat :=
  if target = 2 then 0x0530 + ch else if ch = 0 then 0x0501 + target else if ch = 1 then 0x0503 + target else 0
/-- G of a committed pair lies within 5 % of G_nom under the committed scales (R168). -/
def gainNear (s : State) (target ch : Nat) : Bool :=
  let n := if target = 2 then gNomGref (F32.toRat (BitVec.ofNat 32 (parC s (0x0530 + ch))))
    else gNomFe ch (parC s (0x0501 + target)) (parC s (0x0503 + target))
  let d := F32.toRat (BitVec.ofNat 32 (parC s (calAddr target ch + 1))) - n
  decide ((if d < 0 then -d else d) ≤ n * 5 / 100)
/-- A COMMIT that installs coefficients sets CAL_VALID with EV 087; a change of scale that places G more than 5 % from G_nom clears it
(R168). -/
def commitCal (s : State) (staged : Dict) (changed : List Nat) : State :=
  calPairs.foldl (fun s p =>
    let a := calAddr p.1 p.2
    if staged.any fun e => e.1 == a || e.1 == a + 1 then
      raise (setCalValid s p.1 p.2 true) 87 (u8 (calChannel p.1 p.2) ++ u32 (parC s a) ++ u32 (parC s (a + 1)))
    else if changed.contains (scaleAddr p.1 p.2) && calValid s p.1 p.2 && !gainNear s p.1 p.2 then setCalValid s p.1 p.2 false
    else s) s

/-- Installing a candidate: COMMIT_SEQ, the dictionary in force, every change at its boundary, persistence, the end of the session (R436). -/
def install (s : State) (c : Dict) : State :=
  let ch := changedPars s c
  let staged := s.par.staged
  let prot := ch.any fun a => boundOf a == some .protection0 || altersCode s c a
  let comp := ch.foldl (fun d a => withComp s d a (dictGet s.ident.variant c a)) s.par.comp
  let s := ch.foldl (fun s a => schedule s c a) s
  let p := s.par
  let at_ := some (s.grid.now + 2)
  let s := { s with
    par := { p with seq := p.seq + 1, cycle := curCycle s, committed := c, comp := comp, holder := none, staged := [],
                    protAt := if prot then { zero := at_, one := at_ } else p.protAt } }
  let s := if ch.any unitSetting then configureUnits s else s
  let shunt (s : State) (x : Ix) : State :=
    if ch.any (fun a => a / 2 == (0x0510 + 8 * x.num) / 2) then disqualify s x 5 s.grid.now 0 0 else s
  startPersist (commitCal (shunt (shunt s .zero) .one) staged ch)

/-- A COMMIT that is accepted releases a staged model set for the next frame close (R185). -/
def releaseModel (s : State) : State :=
  if s.fus.modelStaged.isSome then { s with fus := { s.fus with modelDue := true } } else s

/-- COMMIT (R436 to R439). -/
def execCommit (h : Hdr) (s : State) : Host.Outcome State Fault Refusal :=
  .next (
    if !hostReady s h then s
    else match stagingHolder s h false with
      | some who => respondBusy s h 0x0012 who
      | none =>
        let s := touchSession s h
        if updState s = .scheduled then respond s h 0x0012 .refused (parDetail 0 10)
        else if s.par.staged.all fun e => e.2 == parC s e.1 then
          let due := s.fus.modelStaged.isSome
          let s := releaseModel { s with par := { s.par with holder := none, staged := [] } }
          respondOk (if due then startPersist s else s) h 0x0012 (u64 s.par.seq ++ u16 0)
        else
          let c := candidate s
          match (changedPars s c).find? fun a => roleLimited a && isActive s with
          | some a => respond s h 0x0012 .refused (parDetail a 6)
          | none =>
            match commitFault s c with
            | some (a, r) => respond s h 0x0012 (reasonStatus r) (parDetail a r)
            | none =>
              let n := (changedPars s c).length
              let s := install (releaseModel s) c
              respondOk s h 0x0012 (u64 s.par.seq ++ u16 n))

/-! ### The safety scan (R440, R441) -/

/-- The complement held beside a class 1 value. -/
def heldComp (s : State) (a len : Nat) : Nat :=
  (KV.get? s.par.comp a).getD (complement len (dictDefault s.ident.variant s.par.committed a))
/-- The class 1 parameters whose pair disagrees. -/
def badPairs (s : State) : List Nat :=
  (parAddrs s.ident.variant).filter fun a => match pInfo s.ident.variant a with
    | some p => p.cls == 1 && heldComp s a p.len != complement p.len (parC s a)
    | none => false
/-- A pair is reloaded from a bank. -/
def reloadPair (s : State) (b : Bank) (a : Nat) : State :=
  let v := s.ident.variant
  let x := dictGet v b.dict a
  let p := s.par
  let waits := p.pending.any fun e => e.2.1 == a
  { s with par := { p with
    committed := dictSet v p.committed a x, comp := withComp s p.comp a x,
    acting := if waits then p.acting else dictSet v p.acting a x, safetyReload := true } }
/-- SAFETY_SCAN (R440, R441): a disagreeing pair is reloaded from the persisted bank that holds the COMMIT_SEQ in force; otherwise the
runtime self-test has failed. -/
def execSafetyScan (s : State) : Host.Outcome State Fault Refusal :=
  .next (
    if !running s then s
    else match badPairs s with
      | [] => s
      | bad =>
        match bankInUse s with
        | some (_, b) => if b.seq = s.par.seq then bad.foldl (fun s a => reloadPair s b a) s else failSelfTest s
        | none => failSelfTest s)

end Sys2Proof.Machine
end

