-- ==== Sys2Proof/Machine/Update.lean ====
section
/-! DEFINITION. Meanings of the update commands: sessions and the lock, blocks, verification, scheduling, activation, trial and
confirmation (chapter 17). -/

namespace Sys2Proof.Machine

open Sys2Proof

/-! ### The journal, the lock and the target -/

/-- A journal record with no session (R457). -/
def idleJournal : Journal :=
  { seq := 0, st := .idle, imgType := 0, imageLen := 0, version := 0, manifestCrc := 0, slot := .zero, blocks := [], crcs := [],
    verifying := false, actCycle := 0 }
/-- The journal in force; with no record written, that of no session. -/
def curJournal (s : State) : Journal := (journalOf s).getD idleJournal

/-- The lock is held by another client than the sender (R455): the holder. -/
def otherHolder (s : State) (h : Hdr) : Option (Nat × Nat × Nat) :=
  match s.upd.lock with
  | some (p, r, t, _) => if p = h.port ∧ r = h.ring then none else some (p.num, r, t)
  | none => none
/-- The sender holds the lock. -/
def holdsLock (s : State) (h : Hdr) : Bool := s.upd.lock.any fun l => l.1 == h.port && l.2.1 == h.ring
/-- Nobody has used the lock for LOCK_IDLE_S (R455). -/
def lockIdle (s : State) : Bool := s.upd.lock.any fun l => passed s l.2.2.2 (sec (parN s 0x1003))
/-- The holder's session command keeps its lock fresh (R455). -/
def touchLock (s : State) (h : Hdr) : State :=
  { s with upd := { s.upd with lock := s.upd.lock.map fun l =>
    if l.1 = h.port ∧ l.2.1 = h.ring then (l.1, l.2.1, l.2.2.1, s.elec.uptime) else l } }
/-- Taking and releasing the lock. -/
def setLock (s : State) (l : Option (Ix × Nat × Nat × Nat)) : State := { s with upd := { s.upd with lock := l } }

/-- Data of EV 240: kind (1 opened, 2 resumed, 3 broken, 4 closed, 5 ended), IMG_TYPE, VERSION, port and ring of the client. -/
def sessionEvent (s : State) (h : Hdr) (kind imgType version : Nat) : State :=
  raise s 240 (u8 kind ++ u8 imgType ++ u64 version ++ ux h.port ++ u8 h.ring)

/-- The slot that an image goes to: the one not running; in the boot loader, the one not selected (R456). -/
def targetSlot (s : State) : Ix :=
  (if s.elec.fw then s.elec.imageSlot else ((selOf s).map (·.slot)).getD .zero).other
/-- Length of a target (Table 17-1). -/
def targetLen (imgType : Nat) : Nat := if imgType = 1 then 25165824 else 2097152
/-- Bytes of the target. -/
def targetMem (s : State) (j : Journal) : Mem := if j.imgType = 1 then s.upd.image.get j.slot else s.upd.modelArea
/-- The target with other bytes. -/
def setTarget (s : State) (j : Journal) (m : Mem) : State :=
  if j.imgType = 1 then { s with upd := { s.upd with image := s.upd.image.set j.slot m } }
  else { s with upd := { s.upd with modelArea := m } }
/-- `len` bytes of the target from an offset; an erased byte reads 0xFF. -/
def targetBytes (s : State) (j : Journal) (off len : Nat) : List Byte := Mem.readAll 0xFF (targetMem s j) off len

/-- The session ends without an image: the journal is cleared, the lock ends, the target holds no image (R456). -/
def endSession (s : State) (h : Option Hdr) : State :=
  let j := curJournal s
  let s := writeJournal s idleJournal
  let s := setLock s none
  let s := if j.imgType = 1 then { s with upd := { s.upd with ver := s.upd.ver.set j.slot 0, shipped := s.upd.shipped.set j.slot false } } else s
  match h with
  | some h => sessionEvent s h 5 j.imgType j.version
  | none => raise s 240 (u8 5 ++ u8 j.imgType ++ u64 j.version ++ u8 0 ++ u8 0)

/-! ### UPD_OPEN and UPD_CLOSE (R455, R456) -/

/-- The response of UPD_OPEN: the target (0 slot A, 1 slot B, 2 model area) and the number of blocks held. -/
def openResult (j : Journal) : List Byte := u8 (if j.imgType = 1 then j.slot.num else 2) ++ u16 j.blocks.length

/-- A resumed session keeps its marked blocks; every other block of the target is left blank (R456, R469). -/
def resumeSession (s : State) (h : Hdr) : State :=
  let j := curJournal s
  let m := (targetMem s j).filter fun (p : Nat × Byte) => j.blocks.contains (p.1 / 4096)
  sessionEvent (setTarget s j m) h 2 j.imgType j.version
/-- A new session: the journal is discarded, the fallback of an image slot given up, the whole target erased (R456). -/
def newSession (s : State) (h : Hdr) (imgType imageLen version manifestCrc : Nat) : State :=
  let j : Journal := { idleJournal with
    st := .receiving, imgType := imgType, imageLen := imageLen, version := version, manifestCrc := manifestCrc, slot := targetSlot s }
  let s := writeJournal s j
  let s := if imgType ≠ 1 then s else
    match selOf s with
    | some r => writeSel s { r with fallbackValid := false, fallbackVer := 0 }
    | none => s
  let s := setTarget s j []
  let s := if imgType ≠ 1 then s else
    { s with upd := { s.upd with ver := s.upd.ver.set j.slot 0, shipped := s.upd.shipped.set j.slot false } }
  sessionEvent s h 1 imgType version

/-- UPD_OPEN (R455, R456). -/
def execUpdOpen (h : Hdr) (imgType : Nat) (brk : Bool) (imageLen version manifestCrc : Nat) (s : State) : Host.Outcome State Fault Refusal :=
  .next (
    if !loaderReady s h then s
    else
      let breaks := brk && lockIdle s
      match (if breaks then none else otherHolder s h) with
      | some who => respondBusy s h 0x0120 who
      | none =>
        let st := updState s
        if !(st == .idle || (st == .receiving && (s.upd.lock.isNone || breaks))) then respond (touchLock s h) h 0x0120 .updState 0
        else if imgType = 0 ∨ 2 < imgType then respond s h 0x0120 .outOfRange 0
        else
          let j := curJournal s
          let (id, s) := acceptLong s h 0x0120
          let s := if breaks then sessionEvent s h 3 j.imgType j.version else s
          let s := applyBound s .session
          let s := setLock s (some (h.port, h.ring, h.tag, s.elec.uptime))
          let same := st == .receiving && j.imgType == imgType && j.imageLen == imageLen && j.version == version &&
            j.manifestCrc == manifestCrc
          let s := if same then resumeSession s h else newSession s h imgType imageLen version manifestCrc
          endLong s id .ok 0 (openResult (curJournal s)))

/-- UPD_CLOSE (R455): the holder gives up the lock; the journal stays. -/
def execUpdClose (h : Hdr) (s : State) : Host.Outcome State Fault Refusal :=
  .next (
    if !loaderReady s h then s
    else match otherHolder s h with
      | some who => respondBusy s h 0x0126 who
      | none =>
        if !(updState s == .receiving && holdsLock s h) then respond s h 0x0126 .updState 0
        else
          let j := curJournal s
          respondOk (sessionEvent (setLock s none) h 4 j.imgType j.version) h 0x0126 [])

/-! ### Manifest (R452, R453) -/

/-- The first failing check of Table 17-4, from the 4,096 bytes of block 0. -/
def manifestFault (s : State) (b : List Byte) (imgType imageLen : Nat) : Option Nat :=
  let key := byteAt b 28
  let n := leAt b 30 2
  let serials := (List.range (min n 256)).map fun i => leAt b (256 + 8 * i) 8
  if leAt b 0 4 ≠ 0x4D414E46 ∨ leAt b 4 2 ≠ 1 then some 1
  else if leAt b 6 2 ≠ imgType then some 2
  else if !testBit (leAt b 16 4) s.ident.variant then some 3
  else if leAt b 20 4 ≠ imageLen ∨ imageLen % 4096 ≠ 0 ∨ imageLen < 8192 ∨ 25165824 < imageLen then some 4
  else if 1 < key ∨ (key = 1 ∧ parN s 0x1004 = 0) then some 5
  else if 0 < n ∧ !serials.contains s.ident.serial then some 6
  else if n = 0 ∧ parN s 0x1005 = 1 then some 7
  else if 1 < leAt b 26 2 then some 8
  else none
/-- The checks of a model set's block 0 (R184, R468): MAGIC and HW_TYPE, with the reasons of Table 17-4 that name them. -/
def modelBlockFault (s : State) (b : List Byte) : Option Nat :=
  if leAt b 0 4 ≠ 0x4D464C47 then some 1
  else if leAt b 20 4 ≠ s.ident.variant then some 3
  else none
/-- The check of block 0 by the type of the session. -/
def blockFault (s : State) (b : List Byte) (imgType imageLen : Nat) : Option Nat :=
  if imgType = 1 then manifestFault s b imgType imageLen else modelBlockFault s b

/-- The signature of an image verifies over bytes 0 to IMAGE_LEN − 65 under the key that KEY_ID names, the integrator key given (R452). -/
def imageSigned (integrator : List Byte) (image : List Byte) : Bool :=
  let len := image.length
  let key := if byteAt image 28 = 1 then integrator else Config.vendorImageKey
  Crypto.verify key (image.take (len - 64)) (image.drop (len - 64))

/-! ### UPD_BLOCK (R458) -/

/-- The CRC of a marked block. -/
def markedCrc (j : Journal) (k : Nat) : Option Nat := ((j.blocks.zip j.crcs).find? fun p => p.1 == k).map (·.2)

/-- A block whose checks hold is programmed whole and marked (log 165). -/
def programBlock (s : State) (j : Journal) (offset crc : Nat) (data : List Byte) : State :=
  let s := setTarget s j (Mem.writeAll 0xFF (targetMem s j) offset data)
  writeJournal s { j with blocks := j.blocks ++ [offset / 4096], crcs := j.crcs ++ [crc] }

/-- UPD_BLOCK (R458): `data` is what the read from host memory returned. -/
def execUpdBlock (h : Hdr) (offset _addr crc : Nat) (data : List Byte) (s : State) : Host.Outcome State Fault Refusal :=
  .next (
    if !loaderReady s h then s
    else match otherHolder s h with
      | some who => respondBusy s h 0x0121 who
      | none =>
        if !(updState s == .receiving && holdsLock s h) then respond s h 0x0121 .updState 0
        else
          let s := touchLock s h
          let j := curJournal s
          if s.par.persisting then respond s h 0x0121 .busy 0
          else if offset % 4096 ≠ 0 ∨ j.imageLen ≤ offset ∨ targetLen j.imgType ≤ offset then respond s h 0x0121 .outOfRange 0
          else if data.length ≠ 4096 ∨ crc32c data ≠ crc then respond s h 0x0121 .updCrc 0
          else match markedCrc j (offset / 4096) with
            | some c => if c = crc then respondOk s h 0x0121 [] else respond s h 0x0121 .refused 1
            | none =>
              match (if offset = 0 then blockFault s data j.imgType j.imageLen else none) with
              | some r =>
                let s := raise s 242 (u8 r ++ u32 offset)
                let s := if j.imgType = 2 then raise s 134 (u64 (leAt data 12 8) ++ u8 (if r = 3 then 2 else 3)) else s
                respond (endSession s (some h)) h 0x0121 .updManifest r
              | none => respondOk (programBlock s j offset crc data) h 0x0121 [])

/-! ### Verification (R459, R468) -/

/-- What verification finds: OK, or UPD_MANIFEST with the reason of Table 17-4, or UPD_SIGNATURE. -/
def verifyImage (s : State) (j : Journal) : Status × Nat :=
  match manifestFault s (targetBytes s j 0 4096) j.imgType j.imageLen with
  | some r => (.updManifest, r)
  | none => if imageSigned (parBytes s 0x1004) (targetBytes s j 0 j.imageLen) then (.ok, 0) else (.updSignature, 0)
/-- A firmware image that passes moves to verified and the lock ends; one that fails ends the session (R454, R459). -/
def verifyFirmware (s : State) (j : Journal) (h : Option Hdr) : Status × Nat × State :=
  let (st, r) := verifyImage s j
  let data := u64 j.version ++ ub (decide (st = .ok)) ++ u16 st.code
  if st = .ok then
    let ver := leAt (targetBytes s j 0 16) 8 8
    let s := setLock (writeJournal s { j with st := .verified, verifying := false }) none
    (st, r, raise { s with upd := { s.upd with ver := s.upd.ver.set j.slot ver } } 241 data)
  else
    let s := raise s 241 data
    let s := if st = .updManifest then raise s 242 (u8 r ++ u32 0) else s
    (st, r, endSession s h)
/-- A model set is checked under R185: one that passes is staged; either way the state returns to idle (R468; log 155). -/
def verifyModel (s : State) (j : Journal) (h : Option Hdr) : Status × Nat × State :=
  let all := targetBytes s j 0 (min j.imageLen 2097152)
  let m := all.take (leAt all 24 4)
  let (st, r) := match modelFault s.ident.variant (parBytes s 0x0620) m with
    | none => (Status.ok, 0)
    | some 1 => (.updSignature, 1)
    | some r => (.updManifest, r)
  let s := raise s 241 (u64 j.version ++ ub (decide (st = .ok)) ++ u16 st.code)
  let s := if st = .ok then { s with fus := { s.fus with modelStaged := some m } } else raise s 134 (u64 (leAt all 12 8) ++ u8 r)
  (st, r, endSession s h)
/-- Verification of the session in the journal. -/
def verifySession (s : State) (h : Option Hdr) : Status × Nat × State :=
  let j := curJournal s
  if j.imgType = 1 then verifyFirmware s j h else verifyModel s j h

/-- Blocks up to IMAGE_LEN that are not marked. -/
def missingBlocks (j : Journal) : Nat := (j.imageLen + 4095) / 4096 - j.blocks.length

/-- UPD_VERIFY (R459, R468). -/
def execUpdVerify (h : Hdr) (s : State) : Host.Outcome State Fault Refusal :=
  .next (
    if !loaderReady s h then s
    else match otherHolder s h with
      | some who => respondBusy s h 0x0122 who
      | none =>
        if !(updState s == .receiving && holdsLock s h) then respond s h 0x0122 .updState 0
        else
          let s := touchLock s h
          let j := curJournal s
          if 0 < missingBlocks j then respond s h 0x0122 .updIncomplete (missingBlocks j)
          else
            let (id, s) := acceptLong s h 0x0122
            let (st, r, s) := verifySession (writeJournal s { j with verifying := true }) (some h)
            endLong s id st r [])

/-! ### Scheduling (R43, R460, R462) -/

/-- R43 holds for a version: no partner, or a partner that runs a confirmed image of it. -/
def pairAgrees (s : State) (version : Nat) : Bool :=
  !s.pair.present || (s.pair.linkUp && s.pair.peer.any fun p => p.version == version && p.upd != 4)

/-- UPD_SCHEDULE (R460). -/
def execUpdSchedule (h : Hdr) (cycle : Nat) (s : State) : Host.Outcome State Fault Refusal :=
  .next (
    if !loaderReady s h then s
    else
      let j := curJournal s
      if updState s ≠ .verified then respond s h 0x0123 .updState 0
      else if !synced s then respond s h 0x0123 .updNoSync 0
      else if cycle < curCycle s + parN s 0x1006 then respond s h 0x0123 .updLead 0
      else if isActive s && !pairAgrees s (s.upd.ver.get j.slot) then respond s h 0x0123 .updPair 0
      else
        let s := writeJournal s { j with st := .scheduled, actCycle := cycle }
        respondOk (raise s 243 (u8 1 ++ u48 cycle ++ u8 0)) h 0x0123 [])

/-- UPD_CANCEL (R454, R455, R460). -/
def execUpdCancel (h : Hdr) (discard : Bool) (s : State) : Host.Outcome State Fault Refusal :=
  .next (
    if !loaderReady s h then s
    else match otherHolder s h with
      | some who => respondBusy s h 0x0124 who
      | none =>
        let j := curJournal s
        match updState s with
        | .receiving => respondOk (endSession s (some h)) h 0x0124 []
        | .verified => respondOk (sessionEvent (writeJournal s idleJournal) h 5 j.imgType j.version) h 0x0124 []
        | .scheduled =>
          if s.grid.on && decide (j.actCycle * 128 ≤ s.grid.now) then respond s h 0x0124 .updState 0
          else
            let s := writeJournal s (if discard then idleJournal else { j with st := .verified, actCycle := 0 })
            respondOk (raise s 243 (u8 2 ++ u48 j.actCycle ++ u8 0)) h 0x0124 []
        | .idle => respond s h 0x0124 .updState 0
        | .trial => respond s h 0x0124 .updState 0)

/-! ### Activation, trial and confirmation (R461 to R464) -/

/-- The active module opens both strings before it leaves (R461, R464). -/
def openAndLeave (s : State) (activation : Bool) : State :=
  let s := { s with upd := { s.upd with leaving := some (2, activation), leaveUp := s.elec.uptime } }
  leaveIfOpen (beginOpen (beginOpen s .zero []) .one [])
/-- The active module releases with cause 6 before it leaves (R352, R461, R464). -/
def releaseAndLeave (s : State) (activation : Bool) : State :=
  requestRelease { s with upd := { s.upd with leaving := some (1, activation) } } 6 []

/-- ACTIVATION at C_act:0, by the role held at that moment (Table 17-7, R462). -/
def execActivation (s : State) : Host.Outcome State Fault Refusal :=
  .next (
    let j := curJournal s
    if !(running s && updState s == .scheduled && s.grid.on && decide (j.actCycle * 128 ≤ s.grid.now) && s.upd.leaving.isNone) then s
    else if !synced s then lapseSchedule s 1
    else if !isActive s then activateBoot s
    else if !s.pair.present then openAndLeave s true
    else if pairAgrees s (s.upd.ver.get j.slot) && partnerFit s then releaseAndLeave s true
    else lapseSchedule s 2)

/-- CONFIRM_WINDOW_EXPIRY (R464). -/
def execConfirmWindowExpiry (s : State) : Host.Outcome State Fault Refusal :=
  .next (
    if !(running s && updState s == .trial && s.upd.window.any (fun w => decide (w ≤ s.elec.uptime)) && s.upd.leaving.isNone) then s
    else if !isActive s then windowRestart s
    else if partnerFit s then releaseAndLeave s false
    else openAndLeave s false)

/-- ACTIVATION_OPEN_TIMEOUT (R461, R464): 10 s after the strings began to open. -/
def execActivationOpenTimeout (s : State) : Host.Outcome State Fault Refusal :=
  .next (
    if running s && s.upd.leaving.any (fun l => l.1 == 2) && passed s s.upd.leaveUp (sec 10) then leaveNow s else s)

/-- UPD_CONFIRM (R463). -/
def execUpdConfirm (h : Hdr) (version : Nat) (s : State) : Host.Outcome State Fault Refusal :=
  .next (
    if !loaderReady s h then s
    else match selOf s with
      | none => respond s h 0x0125 .updState 0
      | some r =>
        if !r.trial then respond s h 0x0125 .updState 0
        else if version ≠ r.activeVer then respond s h 0x0125 .refused 1
        else if !s.upd.step8 then respond s h 0x0125 .refused 2
        else
          let s := writeSel s { r with trial := false, boots := 0, actCycle := 0 }
          let s := writeJournal s idleJournal
          let leaves := s.upd.leaving.any fun l => !l.2
          let s := { s with upd := { s.upd with window := none, leaving := if leaves then none else s.upd.leaving, failCause := 0 } }
          respondOk (raise s 245 (u64 version ++ ux h.port ++ u8 h.ring)) h 0x0125 [])

/-! ### UPD_INFO (R456) -/

/-- A selector record in the layout of Table 17-2. -/
def SelRec.bytes (r : SelRec) : List Byte :=
  let body := u64 r.seq ++ u64 (complement 8 r.seq) ++ ux r.slot ++ ub r.trial ++ u8 r.boots ++
    u8 (bit r.fallbackValid + 2 * bit r.converted) ++ u64 r.activeVer ++ u64 r.fallbackVer ++ u48 r.actCycle ++ u8 r.failBoots ++
    List.replicate 5 0
  body ++ u32 (crc32c body) ++ List.replicate 4 0 ++ u64 (r.seq ^^^ 0x6969696969696969)
/-- The 768-byte bitmap of received blocks. -/
def blockBitmap (j : Journal) : List Byte :=
  (List.range 768).map fun i => toByte (((List.range 8).map fun b => if j.blocks.contains (8 * i + b) then 2 ^ b else 0).sum)
/-- The response of UPD_INFO: selector record, journal header, versions of both slots, activation cycle, window seconds, bitmap. -/
def infoBytes (s : State) : List Byte :=
  let j := curJournal s
  let left := if updState s = .trial then (s.upd.window.map fun w => (w - s.elec.uptime) / sec 1).getD 0 else 0
  ((selOf s).map SelRec.bytes).getD (List.replicate 64 0) ++
    u8 (updState s).code ++ u8 j.imgType ++ u32 j.imageLen ++ u64 j.version ++ u32 j.manifestCrc ++
    u8 (if j.imgType = 2 then 2 else j.slot.num) ++ ub j.verifying ++
    u64 s.upd.ver.zero ++ u64 s.upd.ver.one ++ u48 j.actCycle ++ u16 left ++ blockBitmap j
/-- UPD_INFO (R456): accepted in every state. -/
def execUpdInfo (h : Hdr) (s : State) : Host.Outcome State Fault Refusal :=
  .next (if !loaderReady s h then s else respondOk s h 0x0127 (infoBytes s))

end Sys2Proof.Machine
end

