-- ==== Sys2Proof/Machine/Boot.lean ====
section
/-! DEFINITION. Meanings of the power-up steps that the firmware takes: boot, ledger scan, arbitration, the end of the wait for a record,
and joining dispatch (R47 to R50, R424, R445, R451, R465, R467, R469), and the end of a dual-active state (R34). -/

namespace Sys2Proof.Machine

open Sys2Proof

/-! ### The boot loader (R451) -/

/-- An occurrence that is written after the ledger scan with DEFERRED = 1 (R421, R465). -/
def deferEvent (s : State) (evt : Nat) (data : List Byte) : State :=
  let o : Occ := { mkOcc s evt data with deferred := true }
  takeFree { s with ev := { s.ev with early := s.ev.early ++ [o] } }

/-- The newest bank of the settings area that a selector record boots from; an unconverted trial still has those of the other area
(R465, R467). -/
def bootBank (s : State) (r : SelRec) : Option (Ix × Bank) :=
  newestBank (s.par.areas.get (if r.trial && !r.converted then r.slot.other else r.slot))
/-- A parameter as the boot loader finds it. -/
def bootPar (s : State) (r : SelRec) (a : Nat) : Nat := dictGet s.ident.variant (((bootBank s r).map (·.2.dict)).getD []) a

/-- The image in a slot is signed: the image it was shipped with, or one whose signature verifies (R449, R452, R459). -/
def slotSigned (s : State) (r : SelRec) : Bool :=
  let m := s.upd.image.get r.slot
  let len := leAt (Mem.readAll 0xFF m 20 4) 0 4
  s.upd.shipped.get r.slot ||
    (decide (8192 ≤ len) && decide (len ≤ 25165824) && imageSigned (leBytes 32 (bootPar s r 0x1004)) (Mem.readAll 0xFF m 0 len))

/-- Data of EV 246: the version given up, the boots, the cause (R465). -/
def fallbackEvent (s : State) (r : SelRec) (boots cause : Nat) : State :=
  deferEvent s 246 (u64 r.activeVer ++ u8 boots ++ u8 cause)
/-- The record of a fallback to the other slot (R451). -/
def fallbackRec (r : SelRec) : SelRec :=
  { r with slot := r.slot.other, trial := false, boots := 0, fallbackValid := false, converted := false, activeVer := r.fallbackVer,
           fallbackVer := 0, actCycle := 0, failBoots := 0 }
/-- A fallback: the record written, after a trial the journal idle, EV 246. -/
def fallBack (s : State) (r : SelRec) (boots cause : Nat) : State :=
  let s := writeSel (fallbackEvent s r boots cause) (fallbackRec r)
  let s := if r.trial then writeJournal s idleJournal else s
  { s with upd := { s.upd with failCause := 0 } }

/-- The module stays in the boot loader in the isolated role (R33, R451). -/
def stayInLoader (s : State) : State :=
  setRole { s with elec := { s.elec with loader := true, fw := false, isolation := 2, step := 5 } } .isolated

/-- A failed boot: 2 self-test, 3 signature (R451, R465). -/
def bootFails (s : State) (r : SelRec) (cause : Nat) : State :=
  if r.trial then restart { s with upd := { s.upd with failCause := cause } } 7
  else
    let n := sat 0xFF (r.failBoots + 1)
    let r := { r with failBoots := n }
    if n < 3 then restart (writeSel s r) 7
    else if r.fallbackValid then restart (fallBack s r n cause) 4
    else stayInLoader (writeSel s r)

/-! ### The firmware's start (R445, R463, R467, R469) -/

/-- The parameters of the dictionary that an image carries over (R467). -/
def carriedPars (s : State) : List Nat := (parAddrs s.ident.variant).filter fun a => decide (classOf a < 3)
/-- The settings conversion of the first trial boot (R467): both banks of the image's own area are erased and the dictionary built from the
newest bank of the other area is persisted there. -/
def convertSettings (s : State) (r : SelRec) : State :=
  if !(r.trial && !r.converted) then s
  else
    let v := s.ident.variant
    let src := (bootBank s r).map (·.2)
    let old : Dict := (src.map (·.dict)).getD []
    let as := carriedPars s
    let keeps (a : Nat) : Bool := match pInfo v a with
      | some p => inRange p (dictGet v old a)
      | none => false
    let d : Dict := old.filter fun p => as.contains p.1 && keeps p.1
    let carried := if src.isSome then (as.filter keeps).length else 0
    let key := leBytes 32 (dictGet v d 0x0620)
    let found := (src.bind (·.model)).map fun m => (m, modelFault v key m)
    let model := (found.filter fun p => p.2.isNone).map (·.1)
    let b : Bank := { seq := (src.map (·.seq)).getD 0, cycle := (src.map (·.cycle)).getD 0, dict := d, model := model, valid := true }
    let s := { s with par := { s.par with areas := s.par.areas.set r.slot { zero := some b, one := none } } }
    let s := writeSel s { r with converted := true }
    let s := match found with
      | some (m, some r) => raise s 134 (u64 (leAt m 12 8) ++ u8 r)
      | _ => s
    raise s 247 (u16 1 ++ u16 1 ++ u16 carried ++ u16 (as.length - carried) ++ u16 (old.filter fun p => !as.contains p.1).length)

/-- The complements of a dictionary's class 1 values (R440). -/
def compOf (s : State) (d : Dict) : Dict := d.foldl (fun c p => withComp s c p.1 p.2) []

/-- The settings in force at the start: the newest valid bank of the area, or every default (R445). -/
def loadSettings (s : State) (slot : Ix) : State :=
  let s := { s with par := { areas := s.par.areas, area := slot } }
  match newestBank (s.par.areas.get slot) with
  | none => { s with par := { s.par with defaults := true } }
  | some (x, b) =>
    { s with par := { s.par with
      committed := b.dict, acting := b.dict, comp := compOf s b.dict, seq := b.seq, cycle := b.cycle, persistedSeq := b.seq, bank := x } }
/-- The model set in force is verified again at every boot (R185). -/
def loadModel (s : State) : State :=
  match (bankInUse s).bind (·.2.model) with
  | none => s
  | some m =>
    match modelFault s.ident.variant (parBytes s 0x0620) m with
    | none => { s with fus := { s.fus with
        model := some m, modelStaged := if s.fus.modelStaged = some m then none else s.fus.modelStaged } }
    | some r => raise s 134 (u64 (leAt m 12 8) ++ u8 r)
/-- The channels whose persisted coefficients are not the defaults have been calibrated (R166). -/
def loadCal (s : State) : State :=
  takeCal (calPairs.foldl (fun s p =>
    let a := calAddr p.1 p.2
    setCalValid s p.1 p.2 ((s.par.committed.any fun e => e.1 == a || e.1 == a + 1) && gainNear s p.1 p.2)) s)
/-- In a restart hold the firmware sets its requests equal to the hold bits (R332). -/
def takeHoldBits (s : State) : State :=
  if s.outr.hold ≠ .restart then s
  else
    let take (p : ProtState) : ProtState := p.allCoils fun k => { k with reqHs := k.holdBit, reqLs := k.holdBit }
    settleCoils { s with prot := s.prot.map take }
/-- A verification that the restart cut off is run again on the module's own (R469). -/
def verifyAgain (s : State) : State :=
  if (curJournal s).st = .receiving ∧ (curJournal s).verifying = true then (verifySession s none).2.2 else s
/-- A schedule whose cycle had passed before the restart lapses (R462). -/
def missedWhileDown (s : State) : State :=
  if s.elec.lastTick.any fun n => decide ((curJournal s).actCycle * 128 ≤ n) then lapseSchedule s 3 else s

/-- A fault loop that opened while no firmware ran is mirrored in CARn_STAT.FLT_LOOP from its start (R113, R501). -/
def mirrorLoop (s : State) (x : Ix) : State :=
  if (s.prot.get x).loopLive && coilsFitted s x && !(car s x).fltLoop then
    raise (modCar s x fun c => { c with fltLoop := true }) 73 (ux x ++ ub true ++ u32 0)
  else s

/-- The image starts (R445, R451): settings, model, thresholds, set-points, buses, the confirmation window of a trial. -/
def startImage (s : State) (r : SelRec) : State :=
  let s := if r.failBoots = 0 then s else writeSel s { r with failBoots := 0 }
  let s := { s with
    elec := { s.elec with fw := true, loader := false, imageSlot := r.slot, step := 6, selfTestOk := true },
    outr := { s.outr with seenOwned := partnerOwns s }, upd := { s.upd with running := r.activeVer } }
  let s := loadSettings (convertSettings s { r with failBoots := 0 }) r.slot
  let s := loadThresholds (loadCal (loadModel s))
  let s := { s with hold := { s.hold with pSet := parF s 0x0A1A, qSet := parF s 0x0A1B } }
  let s := canBegin (canBegin s .zero) .one
  let s := if r.trial then { s with upd := { s.upd with window := some (s.elec.uptime + sec (60 * parN s 0x1001)) } } else s
  missedWhileDown (verifyAgain (takeHoldBits (mirrorLoop (mirrorLoop s .zero) .one)))

/-- Step 1 of R451: a trial that has used its boots falls back. -/
def trialFallsBack (s : State) (r : SelRec) : State :=
  let s := fallBack s r r.boots (if s.upd.failCause = 0 then 1 else s.upd.failCause)
  { s with elec := { s.elec with cause := 4 } }
/-- Step 2 of R451: a trial boot is counted, with EV 244. -/
def countTrial (s : State) (r : SelRec) : State :=
  raise (writeSel s { r with boots := r.boots + 1 }) 244 (u64 r.activeVer ++ u8 (r.boots + 1) ++ u48 r.actCycle)
/-- Step 3 of R451: the signature, the start, the self-test. -/
def bootImage (s : State) (r : SelRec) (selfTest : Bool) : State :=
  if !slotSigned s r then bootFails s r 3
  else if !selfTest then bootFails s r 2
  else startImage s r

/-- FIRMWARE_BOOT (R451): the boot loader reads the selector, counts a trial or falls back, verifies the image and starts it. -/
def execFirmwareBoot (selfTest : Bool) (s : State) : Host.Outcome State Fault Refusal :=
  .next (
    if !(clocked s && !s.elec.fw && s.elec.isolation == 0 && (s.elec.step == 4 || s.elec.step == 5)) then s
    else match selOf s with
      | none => stayInLoader s
      | some r =>
        if !r.trial then bootImage s r selfTest
        else if r.boots = bootPar s r 0x1002 then
          bootImage (trialFallsBack s r) (fallbackRec r) selfTest
        else bootImage (countTrial s r) { r with boots := r.boots + 1 } selfTest)

/-! ### The ledger scan (R424) -/

/-- Writing a deferred occurrence: it is stored and signalled, and queued where its route names the ledger. -/
def writeEarly (s : State) (o : Occ) : State :=
  let s := if o.deferred then signalBoth (storeLast s o) o.evt else s
  if toLedger s o.evt then enqueue s o else s
/-- EV 254 for a long command that the restart cut off (R402). -/
def writeAborted (s : State) (a : Nat × Nat × Nat × Nat × Nat) : State :=
  raise s 254 (u8 a.1 ++ u8 a.2.1 ++ u32 a.2.2.1 ++ u16 a.2.2.2.1 ++ u64 a.2.2.2.2)

/-- LEDGER_SCAN (R424): next SEQ and floor from MRAM, EV 253, the deferred records, EV 254, and what the boot raised before. -/
def execLedgerScan (s : State) : Host.Outcome State Fault Refusal :=
  .next (
    if !running s || s.elec.scanned then s
    else
      let found := s.ev.slots.filterMap fun p => if p.2.valid then some p.2 else none
      let newest := found.foldl (fun (m : Option Nat) r => some (max (m.getD 0) r.seq)) none
      let next := match newest with
        | some n => n + 1
        | none => 0
      let bad := s.ev.floorMram.2 != complement 8 s.ev.floorMram.1
      let early := s.ev.early
      let aborted := s.ev.aborted
      let s := { s with
        ev := { s.ev with next := next, floor := if bad then 0 else s.ev.floorMram.1, floorReset := bad, ready := true, early := [],
                          aborted := [] },
        grid := { s.grid with foundCycle := found.foldl (fun m r => max m r.occ.at_.cycle) s.grid.foundCycle },
        elec := { s.elec with scanned := true } }
      let s := raise s 253 (u8 s.elec.cause ++ ux s.elec.imageSlot ++ u64 s.upd.running ++ u8 s.ident.variant ++ u8 (bit s.elec.slotB) ++
        u64 (newest.getD 0))
      let s := (early.filter (·.deferred)).foldl writeEarly s
      let s := aborted.foldl writeAborted s
      (early.filter fun o => !o.deferred).foldl writeEarly s)

/-! ### Arbitration (R6, R9, R33, R48, R332) -/

/-- OWNERSHIP_ARBITRATION (R48): at the end of the window, or at once for the owner of a restart hold. Where the line stayed free the outrider
asserts, and ROLE is set once it owns the line (R33, R341). A module that is isolated already stays so (R33); one whose variant differs from
its partner's becomes isolated (R9). -/
def execOwnershipArbitration (s : State) : Host.Outcome State Fault Refusal :=
  .next (
    if !running s || s.elec.step ≠ 6 || s.pair.arbitrating then s
    else
      let mismatch := s.pair.peer.isSome && !s.pair.variantMatch
      let done := { s with elec := { s.elec with step := 7 } }
      if s.pair.role = .isolated then (if mismatch then raise done 41 [] else done)
      else if mismatch then goIsolated (raise done 41 []) 1
      else if s.outr.owner && s.outr.hold == .restart then arbitrateActive s
      else if s.outr.seenOwned || partnerOwns s || !s.outr.hbGood || s.outr.line != .free then takeFreeLine done
      else { s with outr := { s.outr with asserting := true }, pair := { s.pair with arbitrating := true } })

/-- DUAL_ACTIVE_RESOLVED (R34): a module that believes itself active without the line becomes standby with EV 042. -/
def execDualActiveResolved (s : State) : Host.Outcome State Fault Refusal :=
  .next (if running s && isActive s && !s.outr.owner then raise (giveUp s .standby) 42 [] else s)

/-! ### Records and dispatch (R47, R49, R216) -/

/-- STATE_RECORD_RESTORE_TIMEOUT (R47 step 9): 60 s after step 8 the module proceeds unseeded. -/
def execStateRecordRestoreTimeout (s : State) : Host.Outcome State Fault Refusal :=
  .next (
    if running s && s.elec.step == 9 then
      { s with elec := { s.elec with step := 10 }, est := { s.est with began := s.est.began || isActive s } }
    else s)

/-- JOIN_DISPATCH (R47 step 11): at a holding-period boundary once R40 permits. -/
def execJoinDispatch (s : State) : Host.Outcome State Fault Refusal :=
  .next (
    let permits := s.grid.sync && s.grid.holdFrom.any fun c => decide (c ≤ curCycle s)
    if drives s && (s.elec.step == 10 || s.elec.step == 11) && atBoundary s && permits then
      rejoinHold { s with elec := { s.elec with step := 12 }, hold := { s.hold with fracUp := s.elec.uptime } }
    else s)

end Sys2Proof.Machine
end

