-- ==== Sys2Proof/Machine/FrameUpdate.lean ====
section
/-! DEFINITION. The frame close (R189, R191) and the frame update (R199, R201) with what follows it in the frame: the processor path's frame judgements, balancing, thermal
derating, and the SNAPSHOT record of R404 (Table 14-10). -/

namespace Sys2Proof.Machine

open Sys2Proof

/-- Cycle means of the four channels of a string over a cycle (R154). -/
def snapMeans (s : State) (x : Ix) (c : Nat) : List F32 :=
  [0, 1, 2, 3].map fun ch => F32.ofRat (cycleMean s x ch c)

/-- One string block of a SNAPSHOT record, 64 bytes; all but the cycle means zero on a standby (Table 14-10). -/
def snapString (s : State) (x : Ix) (c : Nat) (whole : Bool) : List Byte :=
  let st := s.est.str.get x
  let means := (if strEnabled s x then snapMeans s x c else [0, 0, 0, 0]).flatMap fb
  let own : List Byte := if whole && st.init then u16 (socCode st.sR) ++ fb st.c ++ fb st.r ++ fb st.u else zeros 14
  let fac : List Byte := if whole then fb (s.therm.up.get x) ++ fb (s.therm.dn.get x) else zeros 8
  own ++ means ++ fac ++ zeros 26

/-- One cell block of a SNAPSHOT record, 16 bytes; the layout of the source flags byte is free (log 25). -/
def snapCell (s : State) (f : CellFrame) (e : CellEst) : List Byte :=
  u32 f.code ++ u16 (socCode e.sr) ++ u8 f.state.code ++
    u8 ((Config.unstated 9 (BitVec.ofNat 32 s.freeCtr)).toNat % 256) ++ fb e.x.s ++ fb (sigmaS e)

/-- The 448 cell blocks of a string, placed as in Table 7-6. -/
def snapCells (s : State) (x : Ix) (whole : Bool) : List Byte :=
  match whole, s.fus.frames.get x with
  | true, some fr =>
    let bs := ((fr.cells.zip (s.est.str.get x).cells).take 448).flatMap fun (f, e) => snapCell s f e
    bs ++ zeros (7168 - bs.length)
  | _, _ => zeros 7168

/-- The grid section: 256 samples of each channel of window (c, 0), which ends with cycle c − 1 (Tables 10-3 and 14-10). -/
def snapGrid (s : State) (c : Nat) : List Byte :=
  (List.range 8).flatMap fun k =>
    let bs := (cycleTicks s (c - 1)).flatMap fun t =>
      let p := t.grefVal.getD k (0, 0)
      fb p.1 ++ fb p.2
    bs.take 1024 ++ zeros (1024 - bs.length)

/-- The SNAPSHOT record of frame c, 22,912 bytes (Table 14-10). -/
def snapshot (s : State) (c : Nat) (whole : Bool) : List Byte :=
  let flags := if whole then bit (s.grid.irregular.contains c) + 2 * bit s.est.gap else 0
  let head := if whole then u48 c ++ u16 flags ++ u16 (treePosition s) ++ u8 s.pair.role.code else zeros 11
  let outs := if whole then s.ctl.slots.flatMap fun k => fb k.out else zeros 192
  head ++ zeros 53 ++ snapString s .zero c whole ++ snapString s .one c whole ++
    snapCells s .zero whole ++ snapCells s .one whole ++ outs ++ snapGrid s c

/-- One frame in every SNAP_DIVIDER is written to the SNAPSHOT streams (R404, Table 14-10). -/
def writeSnapshot (s : State) (c : Nat) (whole : Bool) : State :=
  if c % parN s 0x0E03 = 0 then
    let r := snapshot s c whole
    deliverBoth (if whole then takeFree s else s) 0 (stampOf (c * 128)) r
  else s

/-- FRAME_CLOSE (R189, R191): at tick 65 of cycle c + 2 frame c is closed; `evaluated` cells were finished by the model stage before the next
close. -/
def execFrameClose (evaluated : Nat) (s : State) : Host.Outcome State Fault Refusal :=
  .next (
    let c := curCycle s - 2
    if !drives s || !s.grid.on || curCycle s < 2 || s.fus.startCycle.any (fun k => decide (c < k)) then s
    else
      let s := modelIntoForce s c
      let n0 := if strEnabled s .zero then (strCells s .zero).length else 0
      let n1 := if strEnabled s .one then (strCells s .one).length else 0
      let total := n0 + n1
      let start := if total = 0 then 0 else s.fus.rotation % total
      let did := min evaluated total
      let reach (i : Nat) : Bool := if total = 0 then false else decide ((i + total - start) % total < did)
      let late := s.fus.handed && s.est.began
      let s := if late then (enabledStrings s).foldl abandonFrame s else s
      let s := if strEnabled s .zero then closeString s .zero c 0 reach else s
      let s := if strEnabled s .one then closeString s .one c n0 reach else s
      let s := (enabledStrings s).foldl procCompat s
      let uses := modelApplies s .zero || modelApplies s .one
      let s := if late then
          -- the correction of the frame before is abandoned (R199)
          raise { s with est := { s.est with gap := true } } 160 (u48 s.fus.lastFrame ++ u16 1 ++ u16 total ++ u8 3)
        else s
      let s := { s with fus := { s.fus with
        handed := true, lastFrame := c, rotation := if total = 0 then 0 else (start + did) % total,
        overrun := s.fus.overrun || (uses && decide (did < total)) } }
      raiseIf s (uses && decide (did < total)) 160 (u48 c ++ u16 1 ++ u16 (total - did) ++ u8 (if s.clk.bypass then 2 else 1)))

/-- FRAME_UPDATE (R199 to R217, R201): each string's estimate takes the frame that fusion handed over; the processor path, balancing and
the thermal derating judge it, and the snapshot is written. Before estimation begins there is no estimate to take it, and the rest follows. A
standby writes its part of the snapshot. -/
def execFrameUpdate (s : State) : Host.Outcome State Fault Refusal :=
  .next (
    if drives s then
      if s.fus.handed then
        let one (s : State) (x : Ix) : State :=
          thermalDerate (balDeselect (procTemps (if s.est.began then updateString s x else s) x) x) x
        let s := (enabledStrings s).foldl one s
        let s := { s with fus := { s.fus with handed := false } }
        writeSnapshot s s.fus.lastFrame true
      else s
    else if running s && !isActive s && decide (2 ≤ curCycle s) then writeSnapshot s (curCycle s - 2) false
    else s)

end Sys2Proof.Machine
end

