-- ==== Sys2Proof/Machine/Dispatch.lean ====
section
/-! DEFINITION. Each command to its meaning: one arm per constructor of Instr. -/

namespace Sys2Proof.Machine

open Sys2Proof

/-- The effect of a command on everything but the queue. -/
def exec (i : Instr) (s : State) : Host.Outcome State Fault Refusal :=
  match i with
  | .powerGood slotB strap2s partnerPresent => Sys2Proof.Machine.execPowerGood slotB strap2s partnerPresent s
  | .withdrawal => Sys2Proof.Machine.execWithdrawal s
  | .supplyLoss => Sys2Proof.Machine.execSupplyLoss s
  | .referenceDetect r => Sys2Proof.Machine.execReferenceDetect r s
  | .referenceLost r => Sys2Proof.Machine.execReferenceLost r s
  | .refFreqCompare otherPeriods => Sys2Proof.Machine.execRefFreqCompare otherPeriods s
  | .bypassRun loaderRuns => Sys2Proof.Machine.execBypassRun loaderRuns s
  | .pllLock => Sys2Proof.Machine.execPllLock s
  | .pllLockLost => Sys2Proof.Machine.execPllLockLost s
  | .domainSwitchDone => Sys2Proof.Machine.execDomainSwitchDone s
  | .domainSwitchTimeout => Sys2Proof.Machine.execDomainSwitchTimeout s
  | .pllEnWrite w => Sys2Proof.Machine.execPllEnWrite w s
  | .apply w => Sys2Proof.Machine.execApply w s
  | .watchdogExpiry => Sys2Proof.Machine.execWatchdogExpiry s
  | .clocklessHold => Sys2Proof.Machine.execClocklessHold s
  | .referenceReturnRestart r => Sys2Proof.Machine.execReferenceReturnRestart r s
  | .firmwareBoot selfTest => Sys2Proof.Machine.execFirmwareBoot selfTest s
  | .ledgerScan => Sys2Proof.Machine.execLedgerScan s
  | .ownershipArbitration => Sys2Proof.Machine.execOwnershipArbitration s
  | .ryranEnumeration e0 e1 => Sys2Proof.Machine.execRyranEnumeration e0 e1 s
  | .caravanEnumeration f0 f1 => Sys2Proof.Machine.execCaravanEnumeration f0 f1 s
  | .stateRecordRestoreTimeout => Sys2Proof.Machine.execStateRecordRestoreTimeout s
  | .joinDispatch => Sys2Proof.Machine.execJoinDispatch s
  | .dualActiveResolved => Sys2Proof.Machine.execDualActiveResolved s
  | .tickTrigger t => Sys2Proof.Machine.execTickTrigger t s
  | .angleSourceTick t => Sys2Proof.Machine.execAngleSourceTick t s
  | .virtualMainsEntry => Sys2Proof.Machine.execVirtualMainsEntry s
  | .virtualMainsExit off => Sys2Proof.Machine.execVirtualMainsExit off s
  | .waymarkReceived port f arr => Sys2Proof.Machine.execWaymarkReceived port f arr s
  | .waymarkMissed port => Sys2Proof.Machine.execWaymarkMissed port s
  | .unsynchronised => Sys2Proof.Machine.execUnsynchronised s
  | .resynchronise off => Sys2Proof.Machine.execResynchronise off s
  | .upstreamReturn => Sys2Proof.Machine.execUpstreamReturn s
  | .successorBecomesSource => Sys2Proof.Machine.execSuccessorBecomesSource s
  | .echoReq port f inWaymark => Sys2Proof.Machine.execEchoReq port f inWaymark s
  | .echoRep port f rtt => Sys2Proof.Machine.execEchoRep port f rtt s
  | .echoTimeout port => Sys2Proof.Machine.execEchoTimeout port s
  | .hopRemeasure => Sys2Proof.Machine.execHopRemeasure s
  | .loopTrace port f => Sys2Proof.Machine.execLoopTrace port f s
  | .triggerSend ring waitNs => Sys2Proof.Machine.execTriggerSend ring waitNs s
  | .snapSend ring => Sys2Proof.Machine.execSnapSend ring s
  | .featureRec ring f => Sys2Proof.Machine.execFeatureRec ring f s
  | .deliveryDeadline ring => Sys2Proof.Machine.execDeliveryDeadline ring s
  | .transactionTimeout ring seq => Sys2Proof.Machine.execTransactionTimeout ring seq s
  | .lostUnitPoll ring => Sys2Proof.Machine.execLostUnitPoll ring s
  | .statusRep ring f => Sys2Proof.Machine.execStatusRep ring f s
  | .statusPoll ring => Sys2Proof.Machine.execStatusPoll ring s
  | .ack ring f => Sys2Proof.Machine.execAck ring f s
  | .nak ring f => Sys2Proof.Machine.execNak ring f s
  | .watchStream ring f => Sys2Proof.Machine.execWatchStream ring f s
  | .tickSumSend ring => Sys2Proof.Machine.execTickSumSend ring s
  | .tickSum ring endB f => Sys2Proof.Machine.execTickSum ring endB f s
  | .wrapNotice ring f => Sys2Proof.Machine.execWrapNotice ring f s
  | .ringLockLoss ring endB => Sys2Proof.Machine.execRingLockLoss ring endB s
  | .ringTriggerTimeout ring reached => Sys2Proof.Machine.execRingTriggerTimeout ring reached s
  | .ringRestore ring lRing => Sys2Proof.Machine.execRingRestore ring lRing s
  | .compatReenum ring find => Sys2Proof.Machine.execCompatReenum ring find s
  | .balanceRefresh ring => Sys2Proof.Machine.execBalanceRefresh ring s
  | .bal12Refresh ring => Sys2Proof.Machine.execBal12Refresh ring s
  | .faultLoopOpen ring => Sys2Proof.Machine.execFaultLoopOpen ring s
  | .faultLoopClose ring => Sys2Proof.Machine.execFaultLoopClose ring s
  | .openwireSchedule ring => Sys2Proof.Machine.execOpenwireSchedule ring s
  | .openwireRep ring f => Sys2Proof.Machine.execOpenwireRep ring f s
  | .isoOkChange string ok => Sys2Proof.Machine.execIsoOkChange string ok s
  | .latchedLoRead port offset => Sys2Proof.Machine.execLatchedLoRead port offset s
  | .calPoint h target channel span value => Sys2Proof.Machine.execCalPoint h target channel span value s
  | .calPointDone target channel => Sys2Proof.Machine.execCalPointDone target channel s
  | .calSolve h target channel => Sys2Proof.Machine.execCalSolve h target channel s
  | .frameClose evaluated => Sys2Proof.Machine.execFrameClose evaluated s
  | .currentVote string => Sys2Proof.Machine.execCurrentVote string s
  | .sourceClear h kind string unit index => Sys2Proof.Machine.execSourceClear h kind string unit index s
  | .tickPropagation => Sys2Proof.Machine.execTickPropagation s
  | .dischargeStop string => Sys2Proof.Machine.execDischargeStop string s
  | .frameUpdate => Sys2Proof.Machine.execFrameUpdate s
  | .learningDurationExpiry string => Sys2Proof.Machine.execLearningDurationExpiry string s
  | .referenceStarved string => Sys2Proof.Machine.execReferenceStarved string s
  | .stateRecordCapture => Sys2Proof.Machine.execStateRecordCapture s
  | .stateOffer h addr len data => Sys2Proof.Machine.execStateOffer h addr len data s
  | .balanceReview => Sys2Proof.Machine.execBalanceReview s
  | .thermalInputTimeout slot => Sys2Proof.Machine.execThermalInputTimeout slot s
  | .thermalNodeLost node => Sys2Proof.Machine.execThermalNodeLost node s
  | .dieReading reading => Sys2Proof.Machine.execDieReading reading s
  | .dieTemp f => Sys2Proof.Machine.execDieTemp f s
  | .tempHostWrite w => Sys2Proof.Machine.execTempHostWrite w s
  | .controlLatch late torn => Sys2Proof.Machine.execControlLatch late torn s
  | .slotInputTimeout slot => Sys2Proof.Machine.execSlotInputTimeout slot s
  | .ctlBankReqWrite hi w => Sys2Proof.Machine.execCtlBankReqWrite hi w s
  | .latClr w => Sys2Proof.Machine.execLatClr w s
  | .ctlSwap h mask bankB => Sys2Proof.Machine.execCtlSwap h mask bankB s
  | .ctlReadSlot h slot => Sys2Proof.Machine.execCtlReadSlot h slot s
  | .phasorRecordForm => Sys2Proof.Machine.execPhasorRecordForm s
  | .phasorRecord port f => Sys2Proof.Machine.execPhasorRecord port f s
  | .vote => Sys2Proof.Machine.execVote s
  | .holdingPeriodBoundary => Sys2Proof.Machine.execHoldingPeriodBoundary s
  | .headroomSum port f => Sys2Proof.Machine.execHeadroomSum port f s
  | .sumSendDeadline => Sys2Proof.Machine.execSumSendDeadline s
  | .roundClose => Sys2Proof.Machine.execRoundClose s
  | .fraction port f => Sys2Proof.Machine.execFraction port f s
  | .fractionHoldExpiry => Sys2Proof.Machine.execFractionHoldExpiry s
  | .planClose => Sys2Proof.Machine.execPlanClose s
  | .holdSet h p q cycle => Sys2Proof.Machine.execHoldSet h p q cycle s
  | .leadMove h target cycle => Sys2Proof.Machine.execLeadMove h target cycle s
  | .leadMoveExecute => Sys2Proof.Machine.execLeadMoveExecute s
  | .comparatorTrip string c => Sys2Proof.Machine.execComparatorTrip string c s
  | .comparatorRelease string c => Sys2Proof.Machine.execComparatorRelease string c s
  | .outriderTripReport string => Sys2Proof.Machine.execOutriderTripReport string s
  | .blindString string => Sys2Proof.Machine.execBlindString string s
  | .thresholdWrite k w => Sys2Proof.Machine.execThresholdWrite k w s
  | .protectionBoundary => Sys2Proof.Machine.execProtectionBoundary s
  | .comparatorProof string failed => Sys2Proof.Machine.execComparatorProof string failed s
  | .coilTest rd => Sys2Proof.Machine.execCoilTest rd s
  | .testOverdue string coil highSide => Sys2Proof.Machine.execTestOverdue string coil highSide s
  | .contactorDropout string coil rd => Sys2Proof.Machine.execContactorDropout string coil rd s
  | .comparatorTestDue string => Sys2Proof.Machine.execComparatorTestDue string s
  | .stringOpen h string => Sys2Proof.Machine.execStringOpen h string s
  | .openCurrentLow string => Sys2Proof.Machine.execOpenCurrentLow string s
  | .weldCheck string => Sys2Proof.Machine.execWeldCheck string s
  | .stringClose h string => Sys2Proof.Machine.execStringClose h string s
  | .kNegSettled string rd => Sys2Proof.Machine.execKNegSettled string rd s
  | .prechargeReached string => Sys2Proof.Machine.execPrechargeReached string s
  | .prechargeFail string => Sys2Proof.Machine.execPrechargeFail string s
  | .kPosSettled string rd => Sys2Proof.Machine.execKPosSettled string rd s
  | .protReset h string proof => Sys2Proof.Machine.execProtReset h string proof s
  | .coilSupply mv => Sys2Proof.Machine.execCoilSupply mv s
  | .heartbeatAnswer answer elapsedUs => Sys2Proof.Machine.execHeartbeatAnswer answer elapsedUs s
  | .heartbeatLate => Sys2Proof.Machine.execHeartbeatLate s
  | .ownershipLineFree => Sys2Proof.Machine.execOwnershipLineFree s
  | .ownerQualified => Sys2Proof.Machine.execOwnerQualified s
  | .releaseOverlapEnd => Sys2Proof.Machine.execReleaseOverlapEnd s
  | .releaseRetake => Sys2Proof.Machine.execReleaseRetake s
  | .holdExpiry => Sys2Proof.Machine.execHoldExpiry s
  | .holdAck => Sys2Proof.Machine.execHoldAck s
  | .holdDrop string => Sys2Proof.Machine.execHoldDrop string s
  | .takeover => Sys2Proof.Machine.execTakeover s
  | .handover h => Sys2Proof.Machine.execHandover h s
  | .orderlyRelease => Sys2Proof.Machine.execOrderlyRelease s
  | .selfRelease finding string => Sys2Proof.Machine.execSelfRelease finding string s
  | .ejectorOpen => Sys2Proof.Machine.execEjectorOpen s
  | .partnerPresence present => Sys2Proof.Machine.execPartnerPresence present s
  | .isolate h => Sys2Proof.Machine.execIsolate h s
  | .rejoin h => Sys2Proof.Machine.execRejoin h s
  | .peerStatus f => Sys2Proof.Machine.execPeerStatus f s
  | .peerStatusSend => Sys2Proof.Machine.execPeerStatusSend s
  | .peerLinkDown => Sys2Proof.Machine.execPeerLinkDown s
  | .pairParamMismatch => Sys2Proof.Machine.execPairParamMismatch s
  | .stateRec f => Sys2Proof.Machine.execStateRec f s
  | .unitTable f => Sys2Proof.Machine.execUnitTable f s
  | .hopComp f => Sys2Proof.Machine.execHopComp f s
  | .holdState f => Sys2Proof.Machine.execHoldState f s
  | .release f => Sys2Proof.Machine.execRelease f s
  | .peerEchoReq f inWaymark => Sys2Proof.Machine.execPeerEchoReq f inWaymark s
  | .peerEchoRep f rtt => Sys2Proof.Machine.execPeerEchoRep f rtt s
  | .canFrame bus f => Sys2Proof.Machine.execCanFrame bus f s
  | .rateDwellExpiry bus => Sys2Proof.Machine.execRateDwellExpiry bus s
  | .rateSilentExpiry bus => Sys2Proof.Machine.execRateSilentExpiry bus s
  | .basicCycleStart bus => Sys2Proof.Machine.execBasicCycleStart bus s
  | .canWindowStart bus window leftNs => Sys2Proof.Machine.execCanWindowStart bus window leftNs s
  | .canTxDone bus result => Sys2Proof.Machine.execCanTxDone bus result s
  | .canBusOff bus => Sys2Proof.Machine.execCanBusOff bus s
  | .busOffRecovery bus => Sys2Proof.Machine.execBusOffRecovery bus s
  | .canPost h bus format length buffer id data => Sys2Proof.Machine.execCanPost h bus format length buffer id data s
  | .canCancel h handle => Sys2Proof.Machine.execCanCancel h handle s
  | .perst port cause => Sys2Proof.Machine.execPerst port cause s
  | .hostLinkDown port cause => Sys2Proof.Machine.execHostLinkDown port cause s
  | .hostLinkUp port speed wide => Sys2Proof.Machine.execHostLinkUp port speed wide s
  | .mbxDoorbell port ring w entries => Sys2Proof.Machine.execMbxDoorbell port ring w entries s
  | .commandTimeout h opcode => Sys2Proof.Machine.execCommandTimeout h opcode s
  | .longDone id => Sys2Proof.Machine.execLongDone id s
  | .longResultExpiry id => Sys2Proof.Machine.execLongResultExpiry id s
  | .nop h => Sys2Proof.Machine.execNop h s
  | .identify h => Sys2Proof.Machine.execIdentify h s
  | .longQuery h id => Sys2Proof.Machine.execLongQuery h id s
  | .streamOpen h type addr entries descs => Sys2Proof.Machine.execStreamOpen h type addr entries descs s
  | .streamClose h type => Sys2Proof.Machine.execStreamClose h type s
  | .strmTailWrite port stream w => Sys2Proof.Machine.execStrmTailWrite port stream w s
  | .descriptorFetchDone port stream d => Sys2Proof.Machine.execDescriptorFetchDone port stream d s
  | .descriptorFetchFail port stream addr => Sys2Proof.Machine.execDescriptorFetchFail port stream addr s
  | .descStarved port stream => Sys2Proof.Machine.execDescStarved port stream s
  | .bufferWriteDone port stream => Sys2Proof.Machine.execBufferWriteDone port stream s
  | .canrxFlush port => Sys2Proof.Machine.execCanrxFlush port s
  | .capture h req => Sys2Proof.Machine.execCapture h req s
  | .captureTrigger port => Sys2Proof.Machine.execCaptureTrigger port s
  | .hostReadDeferred port stream delayMs => Sys2Proof.Machine.execHostReadDeferred port stream delayMs s
  | .registerWrite port offset w => Sys2Proof.Machine.execRegisterWrite port offset w s
  | .evMaskWrite port group w => Sys2Proof.Machine.execEvMaskWrite port group w s
  | .ledgerRecordWrite first second => Sys2Proof.Machine.execLedgerRecordWrite first second s
  | .evLast h evt => Sys2Proof.Machine.execEvLast h evt s
  | .ledgerRead h first count => Sys2Proof.Machine.execLedgerRead h first count s
  | .ledgerExport h first last => Sys2Proof.Machine.execLedgerExport h first last s
  | .ledgerFreeze h ms => Sys2Proof.Machine.execLedgerFreeze h ms s
  | .ledgerUnfreeze h => Sys2Proof.Machine.execLedgerUnfreeze h s
  | .freezeExpiry => Sys2Proof.Machine.execFreezeExpiry s
  | .ledgerClear h upto => Sys2Proof.Machine.execLedgerClear h upto s
  | .ledgerInfo h => Sys2Proof.Machine.execLedgerInfo h s
  | .evTest h data => Sys2Proof.Machine.execEvTest h data s
  | .parRead h group first count source => Sys2Proof.Machine.execParRead h group first count source s
  | .parWrite h data => Sys2Proof.Machine.execParWrite h data s
  | .commit h => Sys2Proof.Machine.execCommit h s
  | .parDiscard h => Sys2Proof.Machine.execParDiscard h s
  | .persistenceDone verified => Sys2Proof.Machine.execPersistenceDone verified s
  | .safetyScan => Sys2Proof.Machine.execSafetyScan s
  | .updOpen h imgType brk imageLen version manifestCrc => Sys2Proof.Machine.execUpdOpen h imgType brk imageLen version manifestCrc s
  | .updBlock h offset addr crc data => Sys2Proof.Machine.execUpdBlock h offset addr crc data s
  | .updVerify h => Sys2Proof.Machine.execUpdVerify h s
  | .updSchedule h cycle => Sys2Proof.Machine.execUpdSchedule h cycle s
  | .updCancel h discard => Sys2Proof.Machine.execUpdCancel h discard s
  | .updConfirm h version => Sys2Proof.Machine.execUpdConfirm h version s
  | .updClose h => Sys2Proof.Machine.execUpdClose h s
  | .updInfo h => Sys2Proof.Machine.execUpdInfo h s
  | .activation => Sys2Proof.Machine.execActivation s
  | .confirmWindowExpiry => Sys2Proof.Machine.execConfirmWindowExpiry s
  | .caravanReenum h mask f0 f1 => Sys2Proof.Machine.execCaravanReenum h mask f0 f1 s
  | .compatibilityReply ring f => Sys2Proof.Machine.execCompatibilityReply ring f s
  | .partnerReadyChange ready => Sys2Proof.Machine.execPartnerReadyChange ready s
  | .ownershipLineAsserted line => Sys2Proof.Machine.execOwnershipLineAsserted line s
  | .dieTempSend => Sys2Proof.Machine.execDieTempSend s
  | .pcieError port status uncorrectable => Sys2Proof.Machine.execPcieError port status uncorrectable s
  | .activationOpenTimeout => Sys2Proof.Machine.execActivationOpenTimeout s
  | .chargePumpStep => Sys2Proof.Machine.execChargePumpStep s

end Sys2Proof.Machine
end

