-- ==== Sys2Proof/Safety.lean ====
section
/-! DEFINITION. What counts as a safe state of the card, in the terms that statements use. -/

namespace Sys2Proof.Machine

open Sys2Proof

/-- Every sparse byte store the card holds is in canonical form. -/
def memsOk (s : State) : Bool :=
  s.est.peerBuf.zero.wf 0 && s.est.peerBuf.one.wf 0 && s.upd.image.zero.wf 0xFF && s.upd.image.one.wf 0xFF &&
    s.upd.modelArea.wf 0xFF

/-- Both CAN buses are listen-only: the module sends nothing on them. -/
def busesQuiet (s : State) : Bool := s.can.bus.zero.st == .listenOnly && s.can.bus.one.st == .listenOnly

/-- An active module runs its firmware, and no other module has a bus on which it may send (R29, R44, Table 1-5). -/
def onlyActiveSends (s : State) : Bool := if isActive s then s.elec.fw else busesQuiet s

/-- What MRAM and NOR flash hold is as it was: ledger records, the floor, the settings areas, selector and journal, image slots, the
model area, and the factory's own values. -/
def nonVolatileSame (s t : State) : Prop :=
  t.ident = s.ident ∧ t.ev.slots = s.ev.slots ∧ t.ev.floorMram = s.ev.floorMram ∧ t.par.areas = s.par.areas ∧ t.par.area = s.par.area ∧
    t.upd.sel = s.upd.sel ∧ t.upd.journal = s.upd.journal ∧ t.upd.image = s.upd.image ∧ t.upd.modelArea = s.upd.modelArea

/-- No coil switch of a string conducts. -/
def noSwitchConducts (s : State) (x : Ix) : Bool := coils.all fun c => !hsOn s x c && !lsOn s x c

/-! ### Parts of the state

The blocks that frame statements speak of. A few blocks of State are divided, so that a statement can say that a command raises events
without touching the rest of the host ports or the ledger's records. -/

/-- The parts of the state. -/
inductive Block where
  /-- The IDENT block: what the factory or the integrator set (Table 19-3) -/
  | ident
  /-- Power, straps, power-up step, UPTIME -/
  | elec
  /-- Clocks, PLLs and dividers -/
  | clk
  /-- The mains-angle grid, the Ryran ports, synchronisation -/
  | grid
  /-- The caravan rings -/
  | ring
  /-- The string front ends, the grid channels, the waveform record, calibration in progress -/
  | front
  /-- The fusion engine -/
  | fus
  /-- The estimation engine but for its peer buffers -/
  | est
  /-- The partner's state-record buffers -/
  | peerBuf
  /-- Thermal management -/
  | therm
  /-- The control engine -/
  | ctl
  /-- The point hold -/
  | hold
  /-- The protection of both strings -/
  | prot
  /-- The outrider and the ownership line -/
  | outr
  /-- The pair -/
  | pair
  /-- The CAN buses and the PCSs -/
  | can
  /-- EV_PEND and the MSI-X tables of both ports -/
  | signals
  /-- The host ports and long commands, but for EV_PEND and the MSI-X tables -/
  | host
  /-- Event stores, the write queue, freeze, floor and LEDG_STAT: events and the ledger but for its records -/
  | events
  /-- The ledger records and LEDG_NEXT -/
  | records
  /-- The parameter values that the blocks act on and the changes that wait for their boundary -/
  | acting
  /-- Staging, committed values, sessions and persistence: parameters but for those acting -/
  | par
  /-- The update session, selector and journal: firmware update but for the stores -/
  | upd
  /-- The image slots and the model area in NOR flash -/
  | stores
  /-- The queue of waiting commands -/
  | pending
  /-- What the card has put out -/
  | sent
  /-- The count of free values taken -/
  | freeCtr
  deriving DecidableEq, Repr

/-- The estimation engine without its peer buffers. -/
def estRest (e : EstState) : EstState := { e with peerBuf := Two.both [] }
/-- A port without EV_PEND and its MSI-X table. -/
def portRest (q : PortState) : PortState := { q with msix := [], pend := [] }
/-- EV_PEND and the MSI-X tables. -/
def portSignals (h : HostBlock) : List (List MsixEntry × List Nat) :=
  [(h.port.zero.msix, h.port.zero.pend), (h.port.one.msix, h.port.one.pend)]
/-- The host ports without EV_PEND and the MSI-X tables. -/
def hostRest (h : HostBlock) : HostBlock := { h with port := h.port.map portRest }
/-- Events and the ledger without the records and LEDG_NEXT. -/
def evRest (e : EvState) : EvState := { e with slots := [], next := 0 }
/-- Parameters without the acting values and the changes that wait. -/
def parRest (p : ParState) : ParState := { p with acting := [], pending := [] }
/-- Firmware update without the image slots and the model area. -/
def updRest (u : UpdBlock) : UpdBlock := { u with image := Two.both [], modelArea := [] }

/-- Two states agree on a part. -/
def Block.same (b : Block) (s t : State) : Prop :=
  match b with
  | .ident => t.ident = s.ident
  | .elec => t.elec = s.elec
  | .clk => t.clk = s.clk
  | .grid => t.grid = s.grid
  | .ring => t.ring = s.ring
  | .front => t.front = s.front
  | .fus => t.fus = s.fus
  | .est => estRest t.est = estRest s.est
  | .peerBuf => t.est.peerBuf = s.est.peerBuf
  | .therm => t.therm = s.therm
  | .ctl => t.ctl = s.ctl
  | .hold => t.hold = s.hold
  | .prot => t.prot = s.prot
  | .outr => t.outr = s.outr
  | .pair => t.pair = s.pair
  | .can => t.can = s.can
  | .signals => portSignals t.host = portSignals s.host
  | .host => hostRest t.host = hostRest s.host
  | .events => evRest t.ev = evRest s.ev
  | .records => (t.ev.slots, t.ev.next) = (s.ev.slots, s.ev.next)
  | .acting => (t.par.acting, t.par.pending) = (s.par.acting, s.par.pending)
  | .par => parRest t.par = parRest s.par
  | .upd => updRest t.upd = updRest s.upd
  | .stores => (t.upd.image, t.upd.modelArea) = (s.upd.image, s.upd.modelArea)
  | .pending => t.pending = s.pending
  | .sent => t.sent = s.sent
  | .freeCtr => t.freeCtr = s.freeCtr

/-- Every part but those listed is as it was: `t` differs from `s` in the listed parts only. -/
def sameBut (l : List Block) (s t : State) : Prop := ∀ b, b ∉ l → b.same s t

/-! ### What statements say of a command, of events, answers and outputs -/

/-- The command runs to its end from the state, and the state after it is as `post` says. -/
def runs (c : Instr) (s : State) (post : State → Prop) : Prop := ∃ t, exec c s = .next t ∧ post t

/-- The data of the newest occurrence of an event since the last restart (R415). -/
def newest (s : State) (evt : Nat) : Option (List Byte) := (KV.get? s.ev.last evt).map (·.data)

/-- No entry waits behind the one that the command answers, so that the answer is the newest in the port's copy of BAR2. -/
def alone (s : State) (h : Hdr) : Bool := decide ((mbxRing s h.port h.ring).waiting.length ≤ 1)

/-- The newest response of the command's port answers it: ring and TAG of the entry, the opcode, status, DETAIL, LONG_ID and payload
(Table 14-10). -/
def answered (t : State) (h : Hdr) (op : Nat) (st : Status) (detail longId : Nat) (payload : List Byte) : Prop :=
  ∃ r, (t.host.port.get h.port).responses.head? = some r ∧ r.ring = h.ring ∧ r.tag = h.tag ∧ r.opcode = op ∧ r.status = st ∧
    r.detail = detail ∧ r.longId = longId ∧ r.payload = payload

/-- A long command was accepted for the entry: a record of it runs or has ended in the module, and its status and result are these. -/
def longEnded (t : State) (h : Hdr) (op : Nat) (st : Status) (detail : Nat) (resp : List Byte) : Prop :=
  ∃ l ∈ t.host.longs, l.port = h.port ∧ l.ring = h.ring ∧ l.tag = h.tag ∧ l.opcode = op ∧ l.ended = true ∧ l.status = st ∧
    l.detail = detail ∧ l.resp = resp

end Sys2Proof.Machine
end

