-- ==== Sys2Proof/Certificates/Slice0/Obligations.lean ====
section
/-! DEFINITION. The statements about the card, for the provers. -/

open Sys2Proof Sys2Proof.Machine

/-! ### Supply, references and clocks -/

/-- R477, R478, R479, R36, R62, R500: what each command of the supply and of a restart does, in the state in which it applies.
Where a clause goes past the words of these rules it follows a reading of the model (logs 14, 40, 41 and 42). -/
def Obligations.SupplyCommandsTakeEffect : Prop :=
  (∀ (s : State) (slotB strap2s present : Bool), s.elec.powered = false →
    runs (.powerGood slotB strap2s present) s fun t => t.elec.powered = true ∧ t.elec.step = 2 ∧ t.elec.slotB = slotB ∧
      t.elec.strap2s = strap2s ∧ t.pair.present = present ∧ t.outr.owner = false) ∧
  (∀ s : State, s.elec.powered = true →
    runs .withdrawal s fun t => t.elec.powered = false ∧ noSwitchConducts t .zero = true ∧ noSwitchConducts t .one = true ∧
      t.par.areas = s.par.areas ∧ t.upd.image = s.upd.image ∧ t.ev.slots = s.ev.slots) ∧
  (∀ s : State, s.elec.powered = true →
    runs .supplyLoss s fun t => t.elec.powered = false ∧ noSwitchConducts t .zero = true ∧ noSwitchConducts t .one = true ∧
      t.par.areas = s.par.areas ∧ t.upd.image = s.upd.image ∧ t.ev.slots = s.ev.slots) ∧
  (∀ s : State, running s = true →
    runs .watchdogExpiry s fun t => t.elec.step = 3 ∧ t.elec.cause = 2 ∧ t.elec.fw = false ∧ t.elec.powered = true) ∧
  (∀ s : State, s.elec.powered = true → s.elec.clockless = false → refPresent s = false → 3 ≤ s.elec.step →
    runs .clocklessHold s fun t => t.elec.clockless = true ∧ (s.outr.owner = true → t.outr.hold = .clockless) ∧
      ∃ o ∈ t.ev.early, o.evt = 3 ∧ o.deferred = true ∧ o.at_ = lastWaymark s) ∧
  (∀ (s : State) (r : Ix), s.elec.powered = true → s.elec.clockless = true →
    runs (.referenceReturnRestart r) s fun t => t.elec.step = 3 ∧ t.elec.cause = 3 ∧ t.elec.clockless = false ∧ t.clk.sel = r ∧
      t.clk.refOk.get r = true ∧ (s.outr.hold = .clockless → t.outr.hold = .restart))

/-- R52, R53, R54, R55, R58, R59, R61, R63, R499 and R248: what each clock command does, in the state in which it applies.
Where a clause goes past the words of these rules it follows a reading of the model (logs 42 and 43). -/
def Obligations.ClockCommandsTakeEffect : Prop :=
  (∀ (s : State) (r : Ix), s.elec.powered = true → s.elec.clockless = false → s.elec.step = 2 ∨ refPresent s = true →
    runs (.referenceDetect r) s fun t => t.clk.refOk.get r = true ∧ (s.elec.step = 2 → t.elec.step = 3)) ∧
  (∀ (s : State) (r : Ix), clocked s = true → s.clk.refOk.get r = true →
    runs (.referenceLost r) s fun t => t.clk.refOk.get r = false ∧
      (s.clk.sel = r → t.clk.refLost = true ∧ (s.clk.refOk.get r.other = true → t.clk.sel = r.other))) ∧
  (∀ (s : State) (n : Nat), clocked s = true → s.clk.refOk.zero = true → s.clk.refOk.one = true →
    600 * 1048576 < ((n - 1048576) + (1048576 - n)) * 1000000 →
    runs (.refFreqCompare n) s fun t => t.clk.refDiff = true ∧ newest t 4 = some []) ∧
  (∀ s : State, clocked s = true → s.elec.step = 3 → s.clk.refOk.zero || s.clk.refOk.one →
    runs (.bypassRun true) s fun t => t.elec.step = 4 ∧ t.elec.loader = true ∧ t.elec.uptime = 0) ∧
  (∀ s : State, clocked s = true → 4 ≤ s.elec.step → s.clk.pllEn = true → s.clk.lock = false →
    runs .pllLock s fun t => t.clk.lock = true ∧
      t.clk.queue = s.clk.queue ++ [⟨.fab, true⟩, ⟨.ctl, true⟩, ⟨.eng, true⟩, ⟨.cpu, true⟩] ∧ (s.elec.step = 4 → t.elec.step = 5)) ∧
  (∀ s : State, clocked s = true → s.clk.lock = true →
    runs .pllLockLost s fun t => t.clk.lock = false ∧ t.clk.lockLost = true ∧ t.clk.lockLossCnt = sat 0xFFFF (s.clk.lockLossCnt + 1) ∧
      ∃ d, newest t 1 = some d) ∧
  (∀ (s : State) (d : Domain) (pll : Bool) (rest : List DomSwitch), clocked s = true → s.clk.queue = ⟨d, pll⟩ :: rest →
    runs .domainSwitchDone s fun t => t.clk.onPll d = pll ∧ t.clk.queue = rest) ∧
  (∀ (s : State) (d : Domain) (pll : Bool) (rest : List DomSwitch), clocked s = true → s.clk.queue = ⟨d, pll⟩ :: rest →
    runs .domainSwitchTimeout s fun t => t.clk.onPll d = pll ∧ t.clk.queue = rest ∧ t.clk.forced = true ∧ newest t 2 = some []) ∧
  (∀ (s : State) (w : Word), clocked s = true →
    runs (.pllEnWrite w) s fun t => t.clk.pllEn = testBit w.toNat 0) ∧
  (∀ (s : State) (w : Word), clocked s = true →
    runs (.apply w) s fun t => t.clk.pllEn = testBit w.toNat 0 ∧
      (dividerBad s.clk.div = true → t.clk.divReject = true ∧ t.clk.applying = false) ∧
      (dividerBad s.clk.div = false → t.clk.applying = true ∧ t.clk.divReject = s.clk.divReject)) ∧
  (∀ s : State, clocked s = true → s.clk.pumpWait = false → s.clk.pump ≠ pumpOf s.therm.bandInForce →
    runs .chargePumpStep s fun t =>
      t.clk.pump = (if s.clk.pump < pumpOf s.therm.bandInForce then s.clk.pump + 5 else s.clk.pump - 5))

/-! ### Boot, enumeration and joining -/

/-- R451, R424, R48, R34, R47 and R49: the image starts, the ledger is scanned, arbitration is won, lost or resolved; then the last steps
of the power-up order, and the entry into the plant's dispatch. Where a clause goes past the words of these rules it follows a reading of
the model (logs 65, 66, 71, 72, 73, 74 and 76). -/
def Obligations.PowerUpStepsTakeEffect : Prop :=
  (∀ (s : State) (r : SelRec), clocked s = true → s.elec.fw = false → s.elec.isolation = 0 → s.elec.step = 4 ∨ s.elec.step = 5 →
    selOf s = some r → r.trial = false → slotSigned s r = true →
    runs (.firmwareBoot true) s fun t => t.elec.fw = true ∧ t.elec.loader = false ∧ t.elec.step = 6 ∧ t.elec.imageSlot = r.slot) ∧
  (∀ (s : State), running s = true → s.elec.scanned = false →
    runs .ledgerScan s fun t => t.elec.scanned = true ∧ t.ev.slots = s.ev.slots ∧
      (∀ p ∈ s.ev.slots, p.2.valid = true → p.2.seq < t.ev.next)) ∧
  (∀ s : State, running s = true → s.elec.step = 6 → s.pair.arbitrating = false → s.pair.role ≠ .isolated →
    ¬ (s.outr.owner = true ∧ s.outr.hold = .restart) → s.pair.peer = none ∨ s.pair.variantMatch = true →
    runs .ownershipArbitration s fun t => t.pair.role = s.pair.role ∧
      (s.outr.seenOwned = false → partnerOwns s = false → s.outr.hbGood = true → s.outr.line = .free →
        t.outr.asserting = true ∧ t.pair.arbitrating = true) ∧
      (s.outr.line ≠ .free → t.elec.step = 7 ∧ t.outr = s.outr)) ∧
  (∀ s : State, running s = true → isActive s = true → s.outr.owner = false →
    runs .dualActiveResolved s fun t => t.pair.role = .standby ∧ newest t 42 = some []) ∧
  (∀ (s : State) (e0 e1 : Option EchoRun), running s = true → s.elec.step = 7 →
    runs (.ryranEnumeration e0 e1) s fun t => t.elec.step = 8) ∧
  (∀ (s : State) (f0 f1 : RingFind), running s = true → s.elec.step = 8 →
    runs (.caravanEnumeration f0 f1) s fun t => t.elec.step = 9 ∧ t.pair.stepsDone = true) ∧
  (∀ s : State, running s = true → s.elec.step = 9 →
    runs .stateRecordRestoreTimeout s fun t => t.elec.step = 10 ∧ (isActive s = true → t.est.began = true)) ∧
  (∀ s : State, drives s = true → s.elec.step = 10 ∨ s.elec.step = 11 → atBoundary s = true → s.grid.sync = true →
    s.grid.holdFrom.any (fun c => decide (c ≤ curCycle s)) = true →
    runs .joinDispatch s fun t => t.elec.step = 12)

/-! ### The mains-angle grid -/

/-- R77, R64, R66, R505: a tick moves the grid on by one tick and UPTIME by its length; the angle source makes the length of its own tick and
names the tick A ahead, with COAST 0, on D0, D1 and the peer link; virtual mains begin where the reference is gone and end once it has been
back for 100 half cycles, at once where the angle lies within 1/4 tick and else with SLEW. Before a module has a grid only time passes (the
model's reading, log 17). How the angle source follows the mains is the model's choice (log 132); where a clause goes past the words of these
rules in other ways it follows a reading of the model (logs 75, 86 and 128). -/
def Obligations.TicksAndVirtualMainsTakeEffect : Prop :=
  (∀ (s : State) (i : TickIn), running s = true → s.grid.on = true → s.grid.head = false →
    runs (.tickTrigger i) s fun t => t.grid.now = s.grid.now + 1 ∧ t.elec.uptime = s.elec.uptime + i.len ∧
      t.elec.lastTick = some s.grid.now) ∧
  (∀ (s : State) (i : TickIn), running s = true → s.grid.on = false → 3 ≤ s.elec.step →
    runs (.tickTrigger i) s fun t => t.grid = s.grid ∧ t.elec.uptime = s.elec.uptime + i.len) ∧
  (∀ (s : State) (i : TickIn), drives s = true → s.grid.on = true → s.grid.head = true →
    runs (.angleSourceTick i) s fun t => t.grid.now = s.grid.now + 1 ∧ t.elec.uptime = s.elec.uptime + (makeTick s).2 ∧
      t.grid.named = t.grid.now + waymarkAdv t ∧
      ∃ w, w = waymarkWord { tick := t.grid.named, virt := t.grid.virt, slew := t.grid.slew, f60 := t.grid.f60, coast := false, age := 0 } ∧
        [Out.waymark .d0 w, .waymark .d1 w, .waymark .peer w] <:+ t.sent) ∧
  (∀ s : State, running s = true → s.grid.head = true → s.grid.virt = false → referenceGone s = true →
    runs .virtualMainsEntry s fun t => t.grid.virt = true ∧ t.grid.slew = false ∧ newest t 14 = some []) ∧
  (∀ (s : State) (off : Nat), running s = true → s.grid.head = true → s.grid.virt = true → s.grid.slew = false → 100 ≤ s.grid.goodRefs →
    runs (.virtualMainsExit off) s fun t => newest t 14 = some [] ∧
      (absR s.grid.angErr ≤ 1 / 4 → t.grid.virt = false ∧ t.grid.slew = false) ∧
      (1 / 4 < absR s.grid.angErr → t.grid.slew = true ∧ t.grid.virt = true))

/-- R80, R82, R83, R84, R297: waymarks accepted, discarded and missed, the loss and return of synchronisation, the ports and the roles.
Where a clause goes past the words of these rules it follows a reading of the model (logs 74, 85, 130 and 131). -/
def Obligations.WaymarkCommandsTakeEffect : Prop :=
  (∀ (s : State) (p : UpPort) (f : WmFrame) (arr : Nat), running s = true → portUsed s p = true → f.good = true →
    (stream s p).accepted = true → (stream s p).next = some (readWaymark f.word).tick →
    (∀ m, (stream s p).lastNamed = some m → m / 128 ≤ (readWaymark f.word).tick / 128) →
    runs (.waymarkReceived p f arr) s fun t => (stream t p).accepted = true ∧
      (stream t p).lastNamed = some (readWaymark f.word).tick ∧ (stream t p).next = some ((readWaymark f.word).tick + 1)) ∧
  (∀ (s : State) (p : UpPort) (f : WmFrame) (arr : Nat), running s = true → portUsed s p = true → f.good = true →
    (stream s p).accepted = false → (stream s p).acq = 15 → (stream s p).next = some (readWaymark f.word).tick →
    (∀ m, recordCycle s = some m → m ≤ (readWaymark f.word).tick / 128) →
    runs (.waymarkReceived p f arr) s fun t => (stream t p).accepted = true) ∧
  (∀ (s : State) (p : UpPort) (f : WmFrame) (arr : Nat), running s = true → portUsed s p = true → f.good = false →
    runs (.waymarkReceived p f arr) s fun t => (stream t p).wmDisc = sat 0xFFFF ((stream s p).wmDisc + 1)) ∧
  (∀ (s : State) (p : UpPort), running s = true → portUsed s p = true → (stream s p).accepted = true → (stream s p).next.isSome = true →
    runs (.waymarkMissed p) s fun t => (stream t p).wmDisc = sat 0xFFFF ((stream s p).wmDisc + 1) ∧
      ((stream s p).discards = 7 → (stream t p).accepted = false)) ∧
  (∀ s : State, running s = true → s.grid.head = false → s.grid.sync = true → s.grid.coast = true → 8 ≤ s.grid.coastAge →
    runs .unsynchronised s fun t => t.grid.sync = false ∧ newest t 10 = some []) ∧
  (∀ (s : State) (off : Int) (k n : Nat), running s = true → s.grid.resync = some k → (stream s (UpPort.ofNum k)).accepted = true →
    (stream s (UpPort.ofNum k)).lastNamed = some n → s.grid.head = false ∨ s.grid.yielding = true →
    runs (.resynchronise off) s fun t => t.grid.resync = none ∧ t.grid.head = false ∧ t.grid.now = n - waymarkAdv s) ∧
  (∀ s : State, running s = true → s.grid.sel = .one → s.grid.u0.accepted = true → s.grid.u0.inconsistent = false →
    128 * parN s 0x0205 ≤ s.grid.u0.validTicks → curTick s = 0 → s.grid.head = false → curStream s = .u1 →
    runs .upstreamReturn s fun t => t.grid.sel = .zero ∧ newest t 11 = some []) ∧
  (∀ s : State, drives s = true → s.grid.head = false → s.grid.coast = true → 2 ≤ ownRank s → s.grid.coastAge = ownRank s →
    s.grid.sync = true →
    runs .successorBecomesSource s fun t => t.grid.head = true ∧ t.grid.coast = false)

/-- R73, R74, R75, R76, R86: echoes and traces.
Where a clause goes past the words of these rules it follows a reading of the model (log 46). -/
def Obligations.EchoAndTraceCommandsTakeEffect : Prop :=
  (∀ (s : State) (f : RyrFrame), drives s = true → f.good 0x04 4 = true →
    runs (.echoReq .d0 f false) s fun t =>
      t.sent = s.sent ++ [.ryran true .zero 0x05 (echoPayload s (byteAt f.payload 2) (byteAt f.payload 3))]) ∧
  (∀ (s : State) (f : RyrFrame), drives s = true → f.good 0x04 4 = true →
    runs (.echoReq .d1 f false) s fun t =>
      t.sent = s.sent ++ [.ryran true .one 0x05 (echoPayload s (byteAt f.payload 2) (byteAt f.payload 3))]) ∧
  (∀ (s : State) (f : RyrFrame), drives s = true → f.good 0x04 4 = true →
    runs (.echoReq .peer f false) s fun t =>
      t.sent = s.sent ++ [.peer 0x38 (echoPayload s (byteAt f.payload 2) (byteAt f.payload 3))]) ∧
  (∀ (s : State) (p : Ix) (f : RyrFrame) (rtt : Nat), running s = true → f.good 0x05 18 = true → byteAt f.payload 1 = p.num →
    (stream s (upOf p)).echo.busy = true → (stream s (upOf p)).echo.got + (stream s (upOf p)).echo.lost < 63 →
    runs (.echoRep p f rtt) s fun t => (stream t (upOf p)).echo.got = (stream s (upOf p)).echo.got + 1 ∧
      (stream t (upOf p)).echo.sum = (stream s (upOf p)).echo.sum + rtt) ∧
  (∀ (s : State) (p : UpPort), running s = true → (stream s p).echo.busy = true → (stream s p).echo.got + (stream s p).echo.lost < 63 →
    runs (.echoTimeout p) s fun t => (stream t p).echo.lost = (stream s p).echo.lost + 1) ∧
  (∀ s : State, drives s = true → s.grid.u0.linkUp = true → s.grid.u1.linkUp = false →
    runs .hopRemeasure s fun t => t.grid.u0.echo.busy = true ∧ t.grid.u0.echo.sent = 64 ∧ t.grid.u0.echo.got = 0 ∧
      t.sent.length = s.sent.length + 64) ∧
  (∀ (s : State) (p : Ix) (f : RyrFrame), drives s = true → f.good 0x06 4 = true → beAt f.payload 0 2 = treePosition s →
    s.grid.traceAt.any (fun u => decide (s.elec.uptime ≤ u + sec 1)) = true →
    runs (.loopTrace p f) s fun t => t.grid.u1Loop = true ∧ t.grid.u1.accepted = false ∧ newest t 13 = some []) ∧
  (∀ (s : State) (p : Ix) (f : RyrFrame), drives s = true → f.good 0x06 4 = true → beAt f.payload 0 2 ≠ treePosition s →
    s.grid.head = false → beAt f.payload 2 2 < 0xFFFF →
    runs (.loopTrace p f) s fun t =>
      t.sent = s.sent ++ [.ryran false s.grid.sel 0x06 (beBytes 2 (beAt f.payload 0 2) ++ beBytes 2 (beAt f.payload 2 2 + 1))])

/-! ### The caravan rings -/

/-- R97, R107, R108, R110, R112, R115, R135, R141, R236, R239: what the module sends on a ring that it drives. Where a clause goes past
the words of these rules it follows a reading of the model (logs 77, 121 and 136). -/
def Obligations.RingSendsTakeEffect : Prop :=
  (∀ (s : State) (r : Ix) (w : Nat), drivesRing s r false = true → s.grid.on = true →
    runs (.triggerSend r w) s fun t => (car t r).trigSent = some (s.grid.now + 1) ∧
      ∀ e ∈ ringEnds s r, Out.trigger r e ((s.grid.now + 1) % 128) (min 167 ((w + 1) / 2)) ∈ t.sent) ∧
  (∀ (s : State) (r : Ix), drivesRing s r true = true → s.grid.on = true → curTick s = 0 →
    runs (.snapSend r) s fun t => Out.caravan12 r 0xFF 0x82 (beBytes 4 (curCycle s)) ∈ t.sent ∧
      ∀ u ∈ (car s r).units, Out.caravan12 r u.addr 0x83 [] ∈ t.sent ∧ Out.caravan12 r u.addr 0x84 [] ∈ t.sent) ∧
  (∀ (s : State) (r : Ix), drivesRing s r false = true →
    runs (.lostUnitPoll r) s fun t => ∀ u ∈ (car s r).units, u.lost = true → ∃ e q, Out.caravan r e u.addr 0x13 q [] ∈ t.sent) ∧
  (∀ (s : State) (r : Ix) (u : UnitState), drivesRing s r false = true →
    (car s r).units[(car s r).statusRot % (car s r).units.length]? = some u → u.lost = false →
    runs (.statusPoll r) s fun t => (car t r).statusRot = (car s r).statusRot % (car s r).units.length + 1 ∧
      ∃ e, Out.caravan r e u.addr 0x13 (car s r).seq [] ∈ t.sent) ∧
  (∀ (s : State) (r : Ix) (a b : Nat), drivesRing s r false = true → s.grid.on = true → 0 < s.grid.now →
    (car s r).trigFirst = some a → (car s r).trigSent = some b → a ≤ s.grid.now - 1 → s.grid.now - 1 ≤ b →
    runs (.tickSumSend r) s fun t => (car t r).sumDue = some (s.grid.now - 1)) ∧
  (∀ (s : State) (r : Ix) (u : UnitState), drivesRing s r false = true →
    (car s r).units[(car s r).balRot % (car s r).units.length]? = some u → u.lost = false → unitAt s r u.addr = some u →
    runs (.balanceRefresh r) s fun t => (car t r).balRot = (car s r).balRot % (car s r).units.length + 1 ∧
      ∃ e, Out.caravan r e u.addr 0x08 (car s r).seq (toByte u.bseq :: dutyBytes u.duty) ∈ t.sent) ∧
  (∀ (s : State) (r : Ix), drivesRing s r true = true →
    runs (.bal12Refresh r) s fun t => ∀ u ∈ (car s r).units, u.lost = false →
      Out.caravan12 r u.addr 0x85 (beBytes 2 (bal12Mask u)) ∈ t.sent) ∧
  (∀ (s : State) (r : Ix) (u : UnitState), drivesRing s r false = true → (car s r).owCycle ≠ some (curCycle s) →
    (car s r).units[(car s r).owRot % (car s r).units.length]? = some u → testDue s u = true → unitAt s r u.addr = some u →
    runs (.openwireSchedule r) s fun t => (car t r).owCycle = some (curCycle s) ∧
      (car t r).owRot = (car s r).owRot % (car s r).units.length + 1 ∧
      ∃ e, Out.caravan r e u.addr 0x0B (car s r).seq (beBytes 3 0x1FFFF) ∈ t.sent)

/-- R105, R106, R107, R108, R116, R135, R139, R236: records, replies and answers of units, and what follows where one is missing. Where a
clause goes past the words of these rules it follows a reading of the model (logs 82, 134 and 135). -/
def Obligations.RingRepliesTakeEffect : Prop :=
  (∀ (s : State) (r : Ix) (f : CarFrame) (u : UnitState), drivesRing s r false = true → f.good 0x10 [4, 506] = true →
    unitAt s r f.src.toNat = some u → frameExpected s r u (readFeature s f.payload).cyc = true →
    runs (.featureRec r f) s fun t => ∃ v ∈ (car t r).units, v.addr = u.addr ∧
      ((readFeature s f.payload).cyc, readFeature s f.payload) ∈ v.recs) ∧
  (∀ (s : State) (r : Ix) (u : UnitState), drivesRing s r false = true → 2 ≤ curCycle s → u ∈ (car s r).units → u.lost = false →
    (∀ p ∈ u.recs, p.1 ≠ curCycle s - 2) →
    runs (.deliveryDeadline r) s fun t => ∃ e q, Out.caravan r e u.addr 0x0D q (beBytes 2 (curCycle s - 2)) ∈ t.sent) ∧
  (∀ (s : State) (r : Ix) (x : Txn) (seq : Nat), drives s = true → (car s r).txns.find? (fun t => t.seq == seq) = some x →
    replyMayCome s x = false → x.retries < parN s 0x0306 →
    runs (.transactionTimeout r seq) s fun t => t.sent = s.sent ++
      [if x.type ≥ 0x80 then Out.caravan12 r x.unit x.type x.payload else Out.caravan r (unitEnd s r x.unit) x.unit x.type seq x.payload]) ∧
  (∀ (s : State) (r : Ix) (x : Txn) (u : UnitState) (seq : Nat), drives s = true →
    (car s r).txns.find? (fun t => t.seq == seq) = some x → replyMayCome s x = false → parN s 0x0306 ≤ x.retries →
    unitAt s r x.unit = some u → u.lost = false →
    runs (.transactionTimeout r seq) s fun t => (unitAt t r x.unit).any (·.lost) = true ∧
      newest t 68 = some (ux r ++ u8 u.addr ++ u8 u.lastCmd.1 ++ u8 u.lastCmd.2 ++ u8 1 ++ ub true)) ∧
  (∀ (s : State) (r : Ix) (f : CarFrame) (u : UnitState), drivesRing s r false = true → f.good 0x14 [16] = true →
    unitAt s r f.src.toNat = some u →
    runs (.statusRep r f) s fun t => ∃ v ∈ (car t r).units, v.addr = u.addr ∧ v.statusAt = curCycle s ∧ v.returning = u.lost ∧
      v.ustat = beAt f.payload 0 2) ∧
  (∀ (s : State) (r : Ix) (f : CarFrame) (x : Txn), drivesRing s r false = true → f.good 0x09 [3] = true → x ∈ (car s r).txns →
    x.unit = f.src.toNat → x.type = byteAt f.payload 0 → x.seq = byteAt f.payload 1 → x.type ≠ 0x0B → x.type ≠ 0x08 →
    runs (.ack r f) s fun t => ∀ y ∈ (car t r).txns, y.seq ≠ x.seq) ∧
  (∀ (s : State) (r : Ix) (f : CarFrame) (x : Txn) (u : UnitState), drivesRing s r false = true → f.good 0x09 [3] = true →
    byteAt f.payload 0 = 0x08 →
    (car s r).txns.find? (fun t => t.unit == f.src.toNat && t.type == 0x08 && t.seq == byteAt f.payload 1) = some x →
    unitAt s r f.src.toNat = some u → byteAt f.payload 2 = byteAt x.payload 0 →
    runs (.ack r f) s fun t => ∃ v ∈ (car t r).units, v.addr = u.addr ∧ v.balAt = s.elec.uptime ∧ v.balResent = false ∧
      (passed s u.balAt (balLimit s r) = true → v.duties = [(x.eff, readDuties (x.payload.drop 1))])) ∧
  (∀ (s : State) (r : Ix) (f : CarFrame), drivesRing s r false = true → f.good 0x0A [3] = true →
    runs (.nak r f) s fun t => (car t r).txns = (car s r).txns.filter fun x =>
      !(x.unit == f.src.toNat && x.type == byteAt f.payload 0 && x.seq == byteAt f.payload 1)) ∧
  (∀ (s : State) (r : Ix) (f : CarFrame) (u : UnitState) (p : Nat × Nat), drivesRing s r false = true → f.good 0x0C [34] = true →
    unitAt s r f.src.toNat = some u → u.owPending = some p →
    runs (.openwireRep r f) s fun t => (u.owQueued = 0 → ∀ x ∈ (car t r).txns, ¬ (x.unit = u.addr ∧ x.type = 0x0B)) ∧
      ∀ w < 17, testBit p.1 w = true → wireVerdict s (toSigned 16 (beAt f.payload (2 * w) 2)) = 2 →
        ∃ v ∈ (car t r).units, v.addr = u.addr ∧ w ∈ v.openWires) ∧
  (∀ (s : State) (r : Ix) (f : CarFrame) (u : UnitState), drivesRing s r false = true → f.good 0x11 [72] = true →
    unitAt s r f.src.toNat = some u →
    runs (.watchStream r f) s fun t => ∃ v ∈ (car t r).units, v.addr = u.addr ∧ v.wseq = some (beAt f.payload 0 2)) ∧
  (∀ (s : State) (r : Ix) (f : Car12Frame) (x : Txn) (u : UnitState), drivesRing s r true = true → f.type = 0xC4 → f.good 12 = true →
    (car s r).txns.find? (fun t => t.type == 0x84) = some x → unitAt s r x.unit = some u →
    runs (.compatibilityReply r f) s fun t => ∃ v ∈ (car t r).units, v.addr = u.addr ∧
      v.t12 = (List.range 4).map fun k => beAt f.payload (4 + 2 * k) 2)

/-- R101, R117, R118, R120 and Table 3-16: ring breaks, their repair, and enumeration again. Where a clause goes past the words of these
rules it follows a reading of the model (logs 44, 76, 81 and 133). -/
def Obligations.RingBreaksTakeEffect : Prop :=
  (∀ (s : State) (r : Ix) (f : CarFrame), drivesRing s r false = true → (car s r).split = false → f.good 0x0E [1] = true →
    byteAt f.payload 0 = 1 →
    runs (.wrapNotice r f) s fun t => (car t r).split = true ∧ (car t r).breakAfter = f.src.toNat ∧
      newest t 65 = some (ux r ++ u8 f.src.toNat ++ u8 1)) ∧
  (∀ (s : State) (r : Ix) (f : CarFrame), drivesRing s r false = true → (car s r).split = false → f.good 0x0E [1] = true →
    byteAt f.payload 0 = 2 →
    runs (.wrapNotice r f) s fun t => (car t r).split = true ∧ (car t r).breakAfter = f.src.toNat - 1) ∧
  (∀ (s : State) (r : Ix) (endB : Bool), running s = true →
    runs (.ringLockLoss r endB) s fun t => (if endB then (car t r).lockB else (car t r).lockA) = false ∧
      (drivesRing s r false = true → (car s r).split = false → (car t r).split = true ∧
        (car t r).breakAfter = (if endB then (car s r).count else 0))) ∧
  (∀ (s : State) (r : Ix) (n : Nat), drivesRing s r false = true → (car s r).split = false →
    runs (.ringTriggerTimeout r n) s fun t => (car t r).split = true ∧ (car t r).breakAfter = min n (car s r).count ∧
      newest t 65 = some (ux r ++ u8 (min n (car s r).count) ++ u8 3)) ∧
  (∀ (s : State) (r : Ix) (n : Nat), drivesRing s r false = true → (car s r).split = true →
    runs (.ringRestore r n) s fun t => (car t r).split = false ∧ (car t r).lockA = true ∧ (car t r).lockB = true ∧
      (newest t 67).isSome = true) ∧
  (∀ (s : State) (r : Ix) (f : RingFind), drives s = true → (car s r).compat = true → (car s r).served = false → strEnabled s r = true →
    f.lockA = false → f.lockB = false →
    runs (.compatReenum r f) s fun t => (car t r).served = false ∧ (car t r).finding = 4 ∧
      newest t 64 = some (ux r ++ u8 2 ++ u8 f.attempts)) ∧
  (∀ (s : State) (r : Ix) (f : RingFind), drives s = true → (car s r).compat = true → (car s r).served = false → strEnabled s r = true →
    s.par.pending = [] → parN s (0x0303 + r.num) = 1 → f.lockA = true → f.lockB = true → enumFault f = none →
    (∀ i ∈ f.idents, ∀ d, i = some d → d.gen16 = false) →
    runs (.compatReenum r f) s fun t => (car t r).served = true ∧ (car t r).compat = true) ∧
  (∀ (s : State) (h : Hdr) (mask : Nat) (f0 f1 : RingFind), hostReady s h = true → alone s h = true →
    runs (.caravanReenum h mask f0 f1) s fun t => ∃ id, answered t h 0x0030 .accepted 0 id [] ∧
      ((∃ r : Ix, testBit mask r.num = true ∧ (car t r).enumFrom.isSome = true) → (id, mask) ∈ t.host.reenums) ∧
      (s.host.reenums = [] → (∀ r : Ix, testBit mask r.num = true → (car t r).enumFrom = none) →
        longEnded t h 0x0030 .ok 0 (reenumReport t mask .zero ++ reenumReport t mask .one)))

/-! ### String front ends and fusion -/

/-- R110, R169, R390, R166, R167, R168: the sums of a tick, the supply of a front end, the latch of a 64-bit counter and the calibration
of a channel. Where a clause goes past the words of these rules it follows a reading of the model (logs 22, 23, 84, 144, 145 and 154). -/
def Obligations.FrontEndCommandsTakeEffect : Prop :=
  (∀ (s : State) (r : Ix) (endB : Bool) (f : CarFrame) (k : Nat), drivesRing s r false = true → f.good 0x12 [14] = true →
    (car s r).sumDue = some k → byteAt f.payload 0 = k % 128 → (car s r).split = false →
    runs (.tickSum r endB f) s fun t => (car t r).sum = some (readSum k f.payload) ∧ (car t r).sumDue = none) ∧
  (∀ (s : State) (x : Ix) (ok : Bool), clocked s = true → feFitted s x = true → 3 ≤ s.elec.step → (s.front.fe.get x).isoOk ≠ ok →
    runs (.isoOkChange x ok) s fun t => (t.front.fe.get x).isoOk = ok ∧ newest t 89 = some (ux x ++ ub ok)) ∧
  (∀ (s : State) (p : Ix) (off v : Nat), clocked s = true → portUp s p = true → pairValue s off = some v → s.elec.fw = true →
    runs (.latchedLoRead p off) s fun t => KV.get? (t.host.port.get p).latch off = some (v / 2 ^ 32 % 2 ^ 32)) ∧
  (∀ (s : State) (h : Hdr) (target ch : Nat) (span : Bool) (v : F32), hostReady s h = true → alone s h = true →
    calExists s target ch = true → calHolder s h target ch = none →
    runs (.calPoint h target ch span v) s fun t => ∃ id p, answered t h 0x0032 .accepted 0 id [] ∧
      KV.get? (calOf t target) ch = some p ∧ p.fromCycle = curCycle s + 1 ∧ p.port = h.port ∧ p.busy = some (span, v, id, [], false)) ∧
  (∀ (s : State) (target ch : Nat) (p : CalPoint) (v : F32) (id : Nat) (ms : List Rat), running s = true →
    KV.get? (calOf s target) ch = some p → p.busy = some (false, v, id, ms, false) → parN s 0x0505 ≤ ms.length →
    varianceRat ms ≤ (5 / 10000 * 8388608) * (5 / 10000 * 8388608) →
    runs (.calPointDone target ch) s fun t => KV.get? (calOf t target) ch =
      some { p with busy := none, zero := some (meanRat ms, s.elec.uptime) }) ∧
  (∀ (s : State) (h : Hdr) (target ch : Nat) (p : CalPoint) (cz cs g : Rat) (uz us' : Nat) (y : F32), hostReady s h = true →
    alone s h = true → calExists s target ch = true → calHolder s h target ch = none → stagingHolder s h true = none →
    KV.get? (calOf s target) ch = some p → p.zero = some (cz, uz) → p.span = some (cs, y, us') →
    passed s (min uz us') (sec 600 + 1) = false → -167772 ≤ cz → cz ≤ 167772 → cs ≠ cz → g = F32.toRat y / (cs - cz) → 0 < g →
    gNom s target ch * 95 / 100 ≤ g → g ≤ gNom s target ch * 105 / 100 →
    runs (.calSolve h target ch) s fun t => answered t h 0x0033 .ok 0 0 (fb (F32.ofRat cz) ++ fb (F32.ofRat g)) ∧
      KV.get? t.par.staged (calAddr target ch) = some (F32.ofRat cz).toNat ∧
      KV.get? t.par.staged (calAddr target ch + 1) = some (F32.ofRat g).toNat)

/-- R175, R189, R191, R181, R280: a frame is closed and handed over, the currents of a holding period are voted, a source returns to VALID.
Where a clause goes past the words of these rules it follows a reading of the model (log 19). -/
def Obligations.FusionCommandsTakeEffect : Prop :=
  (∀ (s : State) (n : Nat), drives s = true → s.grid.on = true → 2 ≤ curCycle s →
    (∀ k, s.fus.startCycle = some k → k ≤ curCycle s - 2) →
    runs (.frameClose n) s fun t => t.fus.handed = true ∧ t.fus.lastFrame = curCycle s - 2) ∧
  (∀ (s : State) (x : Ix) (v : VoteOut), drives s = true → strEnabled s x = true → 2 ≤ s.grid.now / holdPeriod s →
    v = (runCheck s (.current x) (agreeI s) [(.shunt x, periodMean s (s.grid.now / holdPeriod s - 2) x 0),
      (.hall x, periodMean s (s.grid.now / holdPeriod s - 2) x 1),
      (.pcs x, if (src s (.pcs x)).state = .unaligned then none else
        ((s.can.pcs.get x).reports.find? fun r => r.1 == s.grid.now / holdPeriod s - 2).map fun r => F32.toRat r.2.1)] greaterMag).2 →
    runs (.currentVote x) s fun t => t.fus.voted.get x = v.value.map F32.ofRat) ∧
  (∀ (s : State) (h : Hdr) (kind str u i : Nat) (k : SrcKey), hostReady s h = true → alone s h = true → kind ≠ 9 →
    namedSource s kind str u i = some k →
    runs (.sourceClear h kind str u i) s fun t => answered t h 0x0031 .ok 0 0 (ub (convicted s k)) ∧ convicted t k = false) ∧
  (∀ (s : State) (h : Hdr) (str u i : Nat) (x : SetRec), hostReady s h = true → alone s h = true → 1 ≤ u → u ≤ 3 →
    s.hold.sets3[u - 1]? = some x →
    runs (.sourceClear h 9 str u i) s fun t => answered t h 0x0031 .ok 0 0 (ub x.convicted) ∧
      (x.convicted = true → newest t 102 = some (u8 u ++ u8 2) ∧ ∃ y, t.hold.sets3[u - 1]? = some y ∧ y.convicted = false))

/-! ### Estimation, balancing, thermal management and the control engine -/

/-- R198, R203, R207, R211, R215, R216, R218, R223, R224, R231: the charge of the ticks that wait enters the count of each string, and the
newest of them carries each cell; a discharge that has stopped sets s_hi; a frame update initialises a string that has no estimate and
ends a rest whose current is above REST_I_A; a learning cycle and the wait for a reference run out; records are captured and offered; a
review of balancing selects no cell of an unseeded string and at most BAL_MAX_CELLS cells of a unit. The charge of ticks taken late is the
model's reading (log 148); where a clause goes past the words of these rules in other ways it follows a reading of the model (logs 25, 87,
88, 89, 91, 149 and 150). -/
def Obligations.EstimationCommandsTakeEffect : Prop :=
  (∀ (s : State) (l : PendTick), drives s = true → s.est.began = true → s.est.pend.getLast? = some l →
    runs .tickPropagation s fun t => t.est.pend = [] ∧ ∀ x : Ix, strEnabled s x = true → (s.est.str.get x).init = true →
      (t.est.str.get x).qSum = (s.est.str.get x).qSum + chargeIn x true s.est.pend.dropLast + chargeIn x false [l] ∧
      (s.est.pend = [l] → (s.est.str.get x).prior = none →
        (t.est.str.get x).cells.map (·.x) = (s.est.str.get x).cells.map fun e =>
          (propagateCell s e (s.est.str.get x).c (s.est.str.get x).r (nPop s x) (intervalOf s x false [l]) (balCharge s x e [l])).x)) ∧
  (∀ (s : State) (x : Ix) (u : Nat), drives s = true → (s.est.str.get x).discharging = true → (s.est.str.get x).aboveAt = some u →
    passed s u (sec 1) = true →
    runs (.dischargeStop x) s fun t => (t.est.str.get x).discharging = false ∧ (t.est.str.get x).aboveAt = none ∧
      (t.est.str.get x).sHi = (s.est.str.get x).count) ∧
  (∀ s : State, drives s = true → s.fus.handed = true → s.est.began = true →
    runs .frameUpdate s fun t => t.fus.handed = false ∧ ∀ (x : Ix) (fr : StrFrame), strEnabled s x = true →
      s.fus.frames.get x = some fr → fr.frame = s.fus.lastFrame →
      ((s.est.str.get x).init = false → (t.est.str.get x).init = true ∧ (t.est.str.get x).cells.length = fr.cells.length) ∧
      ((s.est.str.get x).init = true → (∀ c, fr.cur = some c → parR s 0x0703 < absR (F32.toRat c)) →
        (t.est.str.get x).restUp = none)) ∧
  (∀ (s : State) (x : Ix) (l : LearnState), drives s = true → (s.est.str.get x).learn = some l → l.disq = false →
    passed s l.anchorUp (sec 259200) = true →
    runs (.learningDurationExpiry x) s fun t => (t.est.str.get x).learn = some { l with disq := true } ∧
      newest t 166 = some (ux x ++ u8 6 ++ ustamp (stampOf s.grid.now) ++ u16 0 ++ fb (fq 72))) ∧
  (∀ (s : State) (x : Ix), drives s = true → (s.est.str.get x).seeded = true → (s.est.str.get x).starved = false →
    172800 ≤ sinceRef s (s.est.str.get x) →
    runs (.referenceStarved x) s fun t => (t.est.str.get x).starved = true ∧ (t.est.str.get x).u48 = (s.est.str.get x).u ∧
      newest t 164 = some (ux x ++ fb (fq (sinceRef s (s.est.str.get x) / 3600)) ++ fb (s.est.str.get x).u ++ ub true)) ∧
  (∀ s : State, drives s = true → s.est.began = true → s.grid.on = true → curTick s = 0 →
    s.est.captured = none ∨ passed s s.est.capturedUp (sec 1) = true →
    runs .stateRecordCapture s fun t => t.est.captured = some (curCycle s) ∧ t.est.lastSeq = max s.est.maxSeq s.est.lastSeq + 1 ∧
      t.est.maxSeq = t.est.lastSeq) ∧
  (∀ (s : State) (h : Hdr) (d : List Byte), hostReady s h = true → alone s h = true → s.est.began = false → isActive s = true →
    s.elec.step = 9 →
    runs (.stateOffer h 0 0 d) s fun t => (∃ id, answered t h 0x0040 .accepted 0 id []) ∧ longEnded t h 0x0040 .ok 0 [] ∧
      t.elec.step = 10 ∧ t.est.declaredNone = true ∧ t.est.began = true) ∧
  (∀ (s : State) (h : Hdr) (addr len : Nat) (d : List Byte), hostReady s h = true → alone s h = true → s.est.began = false →
    isActive s = true → s.elec.step = 9 → ¬ (addr = 0 ∧ len = 0) → recordFault s d = none →
    runs (.stateOffer h addr len d) s fun t => (∃ id, answered t h 0x0040 .accepted 0 id []) ∧
      longEnded t h 0x0040 .ok 0 (u64 (recSeq d) ++ u48 (recCycle d)) ∧ t.est.restored = true ∧ t.est.began = true ∧
      t.elec.step = (if t.est.seed then 11 else 10)) ∧
  (∀ s : State, drives s = true → s.est.began = true →
    (s.est.reviewDue = true ∨ ∀ u, s.est.reviewUp = some u → passed s u (sec (parN s 0x0717)) = true) →
    runs .balanceReview s fun t => t.est.reviewUp = some s.elec.uptime ∧ t.est.reviewDue = false ∧
      ∀ x : Ix, strEnabled s x = true →
        ((s.est.str.get x).seeded = false ∨ s.est.seed = false → ∀ u ∈ (car t x).units, u.selected = []) ∧
        ((s.est.str.get x).seeded = true → s.est.seed = true → restFrozen s x = false →
          ∀ u ∈ (car t x).units, u.selected.length ≤ parN s 0x0716))

/-- R243, R244, R247, R249, R254, R260, R262, R267, R270, R271: thermal readings and losses, the latch, input losses and bank requests.
Where a clause goes past the words of these rules it follows a reading of the model (logs 92, 94, 95 and 157). -/
def Obligations.ThermalAndControlCommandsTakeEffect : Prop :=
  (∀ (s : State) (n : Nat), running s = true → isActive s = true → 40 ≤ n → n ≤ 43 → (slotAt s n).tracking = false →
    inputTimedOut s n = true → slotRuns s n = true →
    runs (.thermalInputTimeout n) s fun t => (slotAt t n).tracking = true ∧ (slotAt t n).i = slotFallback s n ∧
      newest t 180 = some (u8 n ++ fb (slotFallback s n) ++ ub true)) ∧
  (∀ (s : State) (n : Nat) (d : NodeState), running s = true → isActive s = true → s.therm.nodes[n]? = some d →
    parN s (0x0D10 + n) % 256 ≠ 0 → d.lost = false → passed s (d.seenUp.getD 0) (sec (parN s 0x0811)) = true →
    runs (.thermalNodeLost n) s fun t => t.therm.nodes[n]? = some { d with lost := true } ∧
      newest t 179 = some (u8 n ++ u8 (parN s (0x0D10 + n) / 256) ++ u8 1)) ∧
  (∀ (s : State) (r : Int), running s = true →
    runs (.dieReading r) s fun t => t.therm.readings = (r :: s.therm.readings).take 16 ∧
      t.therm.td = roundHalfUp ((((r :: s.therm.readings).take 16).sum : Rat) / ((r :: s.therm.readings).take 16).length)) ∧
  (∀ (s : State) (f : PeerFrame), running s = true → f.good 0x31 (· == 4) = true →
    runs (.dieTemp f) s fun t => t.therm.partner = some (toSigned 16 (beAt f.payload 0 2), s.elec.uptime)) ∧
  (∀ (s : State) (w : Word), clocked s = true →
    runs (.tempHostWrite w) s fun t => t.therm.slotT = w.toNat % 4096 ∧ t.therm.hostUp = some s.elec.uptime) ∧
  (∀ s : State, running s = true →
    runs .dieTempSend s fun t =>
      t.sent = s.sent ++ [.peer 0x31 (beBytes 2 (ofSigned 16 s.therm.td) ++ [toByte (bit s.therm.broken), 0])]) ∧
  (∀ (s : State) (late torn : Nat), running s = true → isActive s = true → s.grid.on = true →
    runs (.controlLatch late torn) s fun t => t.ctl.lastAt = s.grid.now ∧ t.ctl.lateNow = (late ||| torn) &&& t.ctl.lastDue ∧
      (torn &&& t.ctl.lastDue ≠ 0 → t.ctl.parityBit = true) ∧ (s.ctl.lateNow ≠ 0 → t.ctl.lateBit = true)) ∧
  (∀ (s : State) (n : Nat), running s = true → isActive s = true → n < 40 ∨ 43 < n → n < 48 → (slotAt s n).tracking = false →
    inputTimedOut s n = true → slotRuns s n = true →
    runs (.slotInputTimeout n) s fun t => (slotAt t n).tracking = true ∧ (slotAt t n).i = slotFallback s n ∧
      newest t 114 = some (u8 n ++ u8 (slotAt s n).badInput ++ fb (slotFallback s n) ++ ub true)) ∧
  (∀ (s : State) (w : Word), clocked s = true →
    runs (.ctlBankReqWrite false w) s fun t => t.ctl.bankReq = s.ctl.bankReq / 2 ^ 32 * 2 ^ 32 + w.toNat) ∧
  (∀ (s : State) (w : Word), clocked s = true →
    runs (.ctlBankReqWrite true w) s fun t => t.ctl.bankReq = w.toNat % 2 ^ 16 * 2 ^ 32 + s.ctl.bankReq % 2 ^ 32) ∧
  (∀ (s : State) (w : Word), clocked s = true → testBit w.toNat 5 = true →
    runs (.latClr w) s fun t => t.ctl.latMax = 0) ∧
  (∀ (s : State) (h : Hdr) (mask : Nat) (b : Bool), hostReady s h = true → alone s h = true → mask < 2 ^ 48 →
    runs (.ctlSwap h mask b) s fun t => answered t h 0x0050 .ok 0 0 [] ∧
      t.ctl.bankReq = (if b then s.ctl.bankReq ||| mask else s.ctl.bankReq - (s.ctl.bankReq &&& mask))) ∧
  (∀ (s : State) (h : Hdr) (n : Nat) (k : SlotState), hostReady s h = true → alone s h = true → n < 48 → slotAt s n = k →
    runs (.ctlReadSlot h n) s fun t => answered t h 0x0051 .ok 0 0
      (fb k.e ++ fb k.p ++ fb k.iEval ++ fb k.d ++ fb k.v ++ fb k.uEval ++ ub k.bankB ++ ub k.tracking ++ u16 0 ++ ustamp k.evalAt ++
        u32 k.lateN ++ u32 k.nonfN ++ u32 k.lostN))

/-! ### The point hold and dispatch -/

/-- R275, R277, R278, R279, R281: phasor records are formed, passed on and voted: the lead's voted values are those of Table 10-3 over the fit
records of sets that are not convicted, in the order P, Q, V_PU, F, ANG of R279 with F put before V_PU; with no such record there is no vote.
Where a clause goes past the words of these rules it follows a reading of the model (logs 20, 25 and 98). -/
def Obligations.PhasorCommandsTakeEffect : Prop :=
  (∀ s : State, drives s = true → s.grid.on = true → parN s 0x0A06 ≠ 0 → parN s 0x0540 ≠ 0 → curCycle s ≠ 0 → s.grid.head = false →
    runs .phasorRecordForm s fun t => t.hold.lastAng = some (phasorRecord s (curCycle s) (curTick s / 64)).2 ∧
      t.sent = s.sent ++ [.ryran false s.grid.sel 0x10 (phasorRecord s (curCycle s) (curTick s / 64)).1]) ∧
  (∀ s : State, drives s = true → s.grid.on = true → parN s 0x0A06 ≠ 0 → parN s 0x0540 ≠ 0 → curCycle s ≠ 0 → s.grid.head = true →
    runs .phasorRecordForm s fun t => t.hold.lastAng = some (phasorRecord s (curCycle s) (curTick s / 64)).2 ∧
      t.hold.recs = s.hold.recs ++ [readPhasor (phasorRecord s (curCycle s) (curTick s / 64)).1]) ∧
  (∀ (s : State) (p : Ix) (f : RyrFrame), drives s = true → f.good 0x10 40 = true → s.grid.head = true →
    runs (.phasorRecord p f) s fun t => t.hold.recs = s.hold.recs ++ [readPhasor f.payload]) ∧
  (∀ (s : State) (p : Ix) (f : RyrFrame), drives s = true → f.good 0x10 40 = true → s.grid.head = false →
    runs (.phasorRecord p f) s fun t => t.sent = s.sent ++ [.ryran false s.grid.sel 0x10 f.payload]) ∧
  (∀ (s : State) (rs : List PhasorRec), drives s = true → s.hold.mode = .lead → curTick s % 64 = parN s 0x0A07 →
    rs = ((fitRecords s (curCycle s) (curTick s / 64)).filter fun r => !setConvicted s r.set) →
    runs .vote s fun t => t.hold.voteMode = rs.length ∧ t.hold.setsValid = (rs.map fun r => 2 ^ (r.set - 1)).sum ∧
      (rs = [] → t.hold.voted = none) ∧
      (rs ≠ [] → t.hold.voted = some ([0, 1, 3, 2, 4].map fun i => F32.ofRat (((voteQtys s)[i]?.bind fun q =>
          (voteOne q (rs.map fun r => (r.set, F32.toRat (q.read r)))).value).getD 0)) ∧
        (s.grid.head = true → t.grid.refSeen = true)))

/-- R287, R289, R290, R291, R293, R378: the round of a holding period, its sums and its fraction.
Where a clause goes past the words of these rules it follows a reading of the model (logs 45, 97 and 100). -/
def Obligations.RoundCommandsTakeEffect : Prop :=
  (∀ s : State, running s = true → isActive s = true → atBoundary s = true →
    runs .holdingPeriodBoundary s fun t => t.hold.round = curHpn s ∧ t.hold.began = true ∧ t.hold.closed = false ∧
      t.hold.planClosed = false ∧ t.hold.frac = none) ∧
  (∀ (s : State) (p : Ix) (f : RyrFrame), drives s = true → s.grid.sync = true → f.good 0x11 32 = true →
    (∀ off ∈ [8, 16, 24], beAt f.payload (off + 4) 4 = complement 4 (beAt f.payload off 4)) →
    beAt f.payload 0 2 = s.hold.round % 65536 → s.grid.head = true → s.hold.closed = false → s.hold.got.get p = none →
    runs (.headroomSum p f) s fun t => t.hold.got.get p =
      some { nmod := beAt f.payload 2 2, dmax := beAt f.payload 4 4, u := beAt f.payload 8 4, dn := beAt f.payload 16 4,
             qc := beAt f.payload 24 4 }) ∧
  (∀ s : State, drives s = true → s.hold.began = true → s.hold.sent = false → s.grid.head = false → s.grid.sync = true →
    runs .sumSendDeadline s fun t => t.hold.sent = true ∧
      t.sent = s.sent ++ [.ryran false s.grid.sel 0x11 (sumBytes s.hold.round (roundSum s))]) ∧
  (∀ s : State, drives s = true → s.grid.head = true → s.hold.mode = .lead → s.hold.closed = false → s.hold.began = true →
    runs .roundClose s fun t => t.hold.closed = true ∧ t.hold.sums = ((roundSum s).u, (roundSum s).dn, (roundSum s).qc) ∧
      t.hold.nmod = (roundSum s).nmod) ∧
  (∀ (s : State) (p : Ix) (f : RyrFrame), drives s = true → f.good 0x12 48 = true →
    (∀ off ∈ [8, 16], beAt f.payload (off + 4) 4 = complement 4 (beAt f.payload off 4)) →
    s.grid.head = false → s.hold.seen = false → beAt f.payload 0 2 = s.hold.round % 65536 →
    runs (.fraction p f) s fun t => t.hold.seen = true ∧ Out.ryran true .zero 0x12 f.payload ∈ t.sent ∧
      Out.ryran true .one 0x12 f.payload ∈ t.sent ∧
      (s.hold.planClosed = false → ∃ r, t.hold.frac = some r ∧ r.phi = toSigned 32 (beAt f.payload 8 4) ∧
        r.psi = toSigned 32 (beAt f.payload 16 4)) ∧
      (s.hold.planClosed = true → t.hold.frac = s.hold.frac)) ∧
  (∀ s : State, running s = true → isActive s = true → s.hold.mode ≠ .off → s.hold.fracRamp = false → s.hold.fracHold = true →
    passed s s.hold.fracUp (ms (parN s 0x0A25)) = true →
    runs .fractionHoldExpiry s fun t => t.hold.fracRamp = true ∧ newest t 103 = some (u8 2 ++ u16 s.hold.fracHpn)) ∧
  (∀ s : State, running s = true → isActive s = true → s.hold.began = true →
    runs .planClose s fun t => t.hold.planClosed = true)

/-- R283 and R300: values set by a host, and the movement of the lead.
Where a clause goes past the words of these rules it follows a reading of the model (log 100). -/
def Obligations.LeadCommandsTakeEffect : Prop :=
  (∀ (s : State) (h : Hdr) (p q : F32) (c : Nat), hostReady s h = true → alone s h = true → ownRank s ≠ 0 →
    runs (.holdSet h p q c) s fun t => answered t h 0x0060 .ok 0 0 (ustamp (stampOf (holdSetBoundary s c))) ∧
      t.hold.sets = s.hold.sets ++ [(holdSetBoundary s c, p, q)]) ∧
  (∀ (s : State) (h : Hdr) (x c : Nat), hostReady s h = true → alone s h = true → x ≠ 0xFFFF → rankOf s x ≠ 0 → curCycle s + 8 ≤ c →
    s.grid.head = true ∨ x = treePosition s → s.grid.sync = true →
    runs (.leadMove h x c) s fun t => answered t h 0x0061 .ok 0 0 [] ∧ t.grid.move = some { target := x, cycle := c }) ∧
  (∀ (s : State) (m : MoveReq), running s = true → s.grid.move = some m → m.cycle * 128 ≤ s.grid.now → m.target ≠ treePosition s →
    runs .leadMoveExecute s fun t => t.grid.head = false ∧ t.grid.move = none) ∧
  (∀ (s : State) (m : MoveReq), running s = true → s.grid.move = some m → m.cycle * 128 ≤ s.grid.now → m.target = treePosition s →
    drives s = true → s.grid.sync = true →
    runs .leadMoveExecute s fun t => t.grid.head = true ∧ t.grid.move = none)

/-! ### Protection -/

/-- R307, R312, R315, R501: what trips a string, and what is reported of it. A tripped string has no coil switch that conducts. Where a
clause goes past the words of these rules it follows a reading of the model (logs 101, 104 and 160). -/
def Obligations.TripCommandsTakeEffect : Prop :=
  (∀ (s : State) (x : Ix), s.elec.powered = true → coilsFitted s x = true → (s.prot.get x).fltLoop = false →
    runs (.faultLoopOpen x) s fun t => (t.prot.get x).fltLoop = true ∧ (t.prot.get x).outrTrip = true ∧
      (t.prot.get x).loopLive = true ∧ noSwitchConducts t x = true) ∧
  (∀ (s : State) (x : Ix), running s = true → coilsFitted s x = true → (car s x).fltLoop = true →
    runs (.faultLoopClose x) s fun t => (t.prot.get x).loopLive = false ∧ (car t x).fltLoop = false ∧
      newest t 73 = some (ux x ++ ub false ++ u32 (((car s x).sum.map (·.flt)).getD 0))) ∧
  (∀ (s : State) (x : Ix) (c : Comparator), s.elec.powered = true → coilsFitted s x = true →
    testBit (s.prot.get x).outrCause c.num = false →
    runs (.comparatorTrip x c) s fun t => (t.prot.get x).outrTrip = true ∧
      (t.prot.get x).outrCause = (s.prot.get x).outrCause ||| 2 ^ c.num ∧ noSwitchConducts t x = true) ∧
  (∀ (s : State) (x : Ix) (c : Comparator), s.elec.powered = true →
    runs (.comparatorRelease x c) s fun t =>
      (t.prot.get x).live = (s.prot.get x).live - ((s.prot.get x).live &&& 2 ^ c.num) ∧
      (t.prot.get x).outrTrip = (s.prot.get x).outrTrip) ∧
  (∀ (s : State) (x : Ix), running s = true → (s.prot.get x).report = 0x20 →
    runs (.outriderTripReport x) s fun t => (t.prot.get x).report = 0 ∧
      newest t 192 = some (ux x ++ u8 6 ++ fb 0 ++ u32 (((car s x).sum.map (·.flt)).getD 0))) ∧
  (∀ (s : State) (x : Ix) (k : Nat), running s = true → k < 7 → testBit (s.prot.get x).report k = true →
    (∀ j < 7, k < j → testBit (s.prot.get x).report j = false) →
    runs (.outriderTripReport x) s fun t => (t.prot.get x).report = 0 ∧
      newest t 192 = some (ux x ++ u8 (k + 1) ++ fb ((comparators[k]?.bind (cmpReading s x)).getD 0) ++
        u32 (((car s x).sum.map (·.flt)).getD 0))) ∧
  (∀ (s : State) (x : Ix) (u : Nat), judges s x = true → (s.prot.get x).blindUp = some u →
    passed s u (ms (protN s x 0x0B0B)) = true → (s.prot.get x).procTrip = false →
    runs (.blindString x) s fun t => (t.prot.get x).procTrip = true ∧ (t.prot.get x).procCause = 9 ∧ noSwitchConducts t x = true ∧
      (s.outr.owner = true → (t.prot.get x).st = .tripped))

/-- R313, R316, R442: threshold codes with their complements, the protection boundary, and the proof of the comparators.
Where a clause goes past the words of these rules it follows a reading of the model (logs 26 and 102). -/
def Obligations.ThresholdCommandsTakeEffect : Prop :=
  (∀ (s : State) (k : Nat) (w : Word), running s = true → k < 10 → bits w.toNat 27 16 + bits w.toNat 11 0 = 0xFFF →
    runs (.thresholdWrite k w) s fun t => t.outr.thr = setAt s.outr.thr k (bits w.toNat 11 0)) ∧
  (∀ (s : State) (k : Nat) (w : Word), running s = true → k < 10 → bits w.toNat 27 16 + bits w.toNat 11 0 ≠ 0xFFF →
    runs (.thresholdWrite k w) s fun t => t.outr.thr = s.outr.thr ∧ t.outr.thrReject = true ∧
      newest t 206 = some (u8 k ++ u16 (bits w.toNat 11 0))) ∧
  (∀ (s : State) (x : Ix) (b : Nat), running s = true → s.par.protAt.get x = some b → b ≤ s.grid.now → proofRuns s x = false →
    runs .protectionBoundary s fun t => t.par.protAt.get x = none) ∧
  (∀ (s : State) (x : Ix) (q : CloseSeq), running s = true → (s.prot.get x).close = some q → q.stage = 0 → coilsOff s x = true →
    runs (.comparatorProof x none) s fun t => (t.prot.get x).proofOk = true ∧ (t.prot.get x).inhProof = false ∧
      (t.prot.get x).close = some { q with stage := 1, up := s.elec.uptime } ∧ (t.prot.get x).kNeg.reqHs = true ∧ (t.prot.get x).kNeg.reqLs = true) ∧
  (∀ (s : State) (x : Ix) (q : CloseSeq) (k : Nat), running s = true → (s.prot.get x).close = some q → q.stage = 0 →
    coilsOff s x = true →
    runs (.comparatorProof x (some k)) s fun t => (t.prot.get x).proofOk = false ∧ (t.prot.get x).inhProof = true ∧
      (t.prot.get x).close = none ∧ newest t 204 = some (ux x ++ u8 k))

/-- R319, R320, R321, R325, R338: the coil tests, what is due, a contactor that drops out, the coil supply.
Where a clause goes past the words of these rules it follows a reading of the model (logs 57, 102 and 104). -/
def Obligations.CoilCommandsTakeEffect : Prop :=
  (∀ (s : State) (rd : CoilRead), drives s = true →
    runs (.coilTest rd) s fun t => t.outr.testRot = (s.outr.testRot % 12 + 1) % 12) ∧
  (∀ (s : State) (rd : CoilRead), drives s = true → s.outr.testRot % 12 = 0 → strEnabled s .zero = true →
    tripped s.prot.zero = false → fromHoldBits s = false → s.prot.zero.close = none → s.prot.zero.openSeq = none →
    s.pair.t0 = none → hsOn s .zero .kPos = true → lsOn s .zero .kPos = true → coilSig false true rd = 0 →
    runs (.coilTest rd) s fun t => t.prot.zero.kPos.hsUp = s.elec.uptime ∧ t.prot.zero.kPos.hsDone = true) ∧
  (∀ (s : State) (x : Ix) (c : Coil) (hs : Bool), drives s = true → strEnabled s x = true → ((s.prot.get x).coil c).energised = true →
    passed s (if hs then ((s.prot.get x).coil c).hsUp else ((s.prot.get x).coil c).lsUp) (sec 120) = true →
    (s.prot.get x).openSeq = none →
    runs (.testOverdue x c hs) s fun t => (newest t 198).isSome = true ∧
      ((t.prot.get x).openSeq.isSome = true ∨ (t.prot.get x).weldFor.isSome = true) ∧
      t.hold.p.get x = 0 ∧ t.hold.q.get x = 0) ∧
  (∀ (s : State) (x : Ix) (c : Coil) (rd : CoilRead), drives s = true → strEnabled s x = true → (s.prot.get x).st = .closed →
    c ≠ .pre → coilClosed rd = false →
    runs (.contactorDropout x c rd) s fun t => (t.prot.get x).procTrip = true) ∧
  (∀ (s : State) (x : Ix), drives s = true → (s.prot.get x).st = .closed →
    passed s (s.prot.get x).closedUp (sec (86400 * parN s 0x0B35)) = true →
    KV.get? s.ev.rate (208, x.num) ≠ some (s.elec.uptime / sec 86400) →
    runs (.comparatorTestDue x) s fun t =>
      newest t 208 = some (ux x ++ u16 (sat 0xFFFF ((s.elec.uptime - (s.prot.get x).proofUp) / sec 86400)))) ∧
  (∀ (s : State) (mv : Nat), running s = true → s.outr.coilOk ≠ (decide (18000 ≤ mv) && decide (mv ≤ 32000)) →
    runs (.coilSupply mv) s fun t => t.outr.coilOk = (decide (18000 ≤ mv) && decide (mv ≤ 32000)) ∧
      newest t 205 = some (fb (F32.ofRat ((mv : Rat) / 1000)) ++ ub (decide (18000 ≤ mv) && decide (mv ≤ 32000))))

/-- R322, R324: a string is opened in order and checked for a weld, and is closed through precharge. Where a clause goes past the words of
these rules it follows a reading of the model (logs 103, 104 and 159). -/
def Obligations.StringCommandsTakeEffect : Prop :=
  (∀ (s : State) (h : Hdr) (k : Nat), hostReady s h = true → alone s h = true → k < 2 → strEnabled s (Ix.ofNum k) = true →
    isActive s = true →
    runs (.stringOpen h k) s fun t => (∃ id, answered t h 0x0070 .accepted 0 id []) ∧ t.hold.p.get (Ix.ofNum k) = 0 ∧
      t.hold.q.get (Ix.ofNum k) = 0 ∧ (t.prot.get (Ix.ofNum k)).close = none) ∧
  (∀ (s : State) (x : Ix) (q : OpenSeq), running s = true → (s.prot.get x).openSeq = some q →
    (currentLow s x || passed s q.up (ms (parN s 0x0B34))) = true → s.upd.leaving = none →
    runs (.openCurrentLow x) s fun t => (t.prot.get x).openSeq = none ∧ (t.prot.get x).weldFor.isSome = true ∧
      noSwitchConducts t x = true) ∧
  (∀ (s : State) (x : Ix) (l : List Nat), running s = true → (s.prot.get x).weldFor = some l →
    passed s (s.prot.get x).weldUp (ms 100) = true →
    runs (.weldCheck x) s fun t => (t.prot.get x).weldFor = none ∧
      ((s.prot.get x).weldLow = false → parR s 0x0B33 < absR (F32.toRat (hallNow s x)) →
        (t.prot.get x).inhWeld = true ∧ newest t 203 = some (ux x ++ fb (hallNow s x))) ∧
      ((s.prot.get x).weldLow = true → (t.prot.get x).inhWeld = (s.prot.get x).inhWeld ∧ newest t 203 = newest s 203)) ∧
  (∀ (s : State) (h : Hdr) (k : Nat), hostReady s h = true → alone s h = true → closeRefusal s k = 0 →
    runs (.stringClose h k) s fun t => ∃ id, answered t h 0x0071 .accepted 0 id [] ∧
      (t.prot.get (Ix.ofNum k)).close = some { id := id, stage := 0, preUp := 0 }) ∧
  (∀ (s : State) (x : Ix) (q : CloseSeq) (rd : CoilRead), drives s = true → (s.prot.get x).close = some q → q.stage = 1 →
    passed s q.up (ms (parN s 0x0B30)) = true → coilClosed rd = true →
    runs (.kNegSettled x rd) s fun t => (t.prot.get x).close = some { q with stage := 2, preUp := s.elec.uptime } ∧
      (t.prot.get x).pre.reqHs = true ∧ (t.prot.get x).pre.reqLs = true) ∧
  (∀ (s : State) (x : Ix) (q : CloseSeq), drives s = true → (s.prot.get x).close = some q → q.stage = 2 →
    absR (F32.toRat (packLink s x).1 - F32.toRat (packLink s x).2) ≤ parN s 0x0B31 →
    runs (.prechargeReached x) s fun t => (t.prot.get x).kPos.reqHs = true ∧ (t.prot.get x).kPos.reqLs = true ∧
      (t.prot.get x).close.any (·.stage == 3) = true) ∧
  (∀ (s : State) (x : Ix) (q : CloseSeq), drives s = true → (s.prot.get x).close = some q → q.stage = 2 →
    passed s q.preUp (ms (parN s 0x0B32)) = true →
    runs (.prechargeFail x) s fun t => (t.prot.get x).close = none ∧
      newest t 202 = some (ux x ++ fb (packLink s x).1 ++ fb (packLink s x).2)) ∧
  (∀ (s : State) (x : Ix) (q : CloseSeq) (rd : CoilRead), drives s = true → (s.prot.get x).close = some q → q.stage = 3 →
    passed s q.up (ms (parN s 0x0B30)) = true → coilClosed rd = true →
    runs (.kPosSettled x rd) s fun t => (t.prot.get x).close = none ∧ (t.prot.get x).pre.reqHs = false ∧
      (t.prot.get x).pre.reqLs = false ∧ (s.outr.owner = true → (t.prot.get x).st = .closed)) ∧
  (∀ (s : State) (h : Hdr) (k : Nat) (p : Option Nat), hostReady s h = true → alone s h = true → k < 2 →
    runs (.protReset h k p) s fun t =>
      (∃ cleared kept, answered t h 0x0072 .ok 0 0 (u16 cleared ++ u16 kept) ∧
        newest t 194 = some (ux (Ix.ofNum k) ++ u8 cleared ++ u8 kept)) ∧
      ((s.prot.get (Ix.ofNum k)).live = 0 → (s.prot.get (Ix.ofNum k)).loopLive = false →
        (t.prot.get (Ix.ofNum k)).outrTrip = false ∧ (t.prot.get (Ix.ofNum k)).holdExp = false))

/-! ### The outrider, the ownership line and the pair -/

/-- R327, R328, R329, R330, R331, R332, R504: the heartbeat, the ownership line and the holds.
Where a clause goes past the words of these rules it follows a reading of the model (logs 108 and 124). -/
def Obligations.OutriderCommandsTakeEffect : Prop :=
  (∀ (s : State) (a us' : Nat), running s = true → hbSuspended s = false → a = hbAnswer s.outr.chal →
    s.outr.timed = false ∨ (2000 ≤ us' ∧ us' ≤ 20000) →
    runs (.heartbeatAnswer a us') s fun t => t.outr.chal = hbNext s.outr.chal ∧ t.outr.goodRun = min 3 (s.outr.goodRun + 1)) ∧
  (∀ (s : State) (a us' : Nat), running s = true → hbSuspended s = false → a ≠ hbAnswer s.outr.chal →
    runs (.heartbeatAnswer a us') s fun t => t.outr.hbGood = false ∧ t.outr.failCnt = sat 0xFF (s.outr.failCnt + 1) ∧
      t.outr.chal = s.outr.chal) ∧
  (∀ s : State, s.elec.powered = true → s.outr.timed = true → hbSuspended s = false →
    runs .heartbeatLate s fun t => t.outr.hbGood = false ∧ t.outr.timed = false ∧
      (s.outr.owner = true → s.outr.partnerReady = true → t.outr.owner = false) ∧
      (s.outr.owner = true → s.outr.partnerReady = false → s.outr.hold = .none → t.outr.hold = .heartbeat)) ∧
  (∀ (s : State) (b : Bool), s.elec.powered = true →
    runs (.partnerReadyChange b) s fun t => t.outr.partnerReady = b ∧
      (b = true → s.outr.owner = true → s.outr.hold = .heartbeat → t.outr.owner = false ∧ t.outr.hold = .none)) ∧
  (∀ s : State, s.elec.powered = true → s.outr.owner = false →
    runs .ownershipLineFree s fun t => t.outr.line = .free ∧
      (mayAssert s = true → s.outr.released = none → t.outr.asserting = true ∧ t.outr.hold = .takeover)) ∧
  (∀ (s : State) (l : OwnLine), s.elec.powered = true → l ≠ .free →
    runs (.ownershipLineAsserted l) s fun t => t.outr.line = l ∧ (lineFaulty s l = true → t.pair.lineFault = true) ∧
      (lineFaulty s l = false → l = partnerReading s → t.outr.seenOwned = true)) ∧
  (∀ s : State, s.elec.powered = true → s.outr.asserting = true → s.outr.owner = false →
    runs .ownerQualified s fun t => t.outr.owner = true ∧ t.outr.line = ownReading s) ∧
  (∀ s : State, s.outr.overlap = true →
    runs .releaseOverlapEnd s fun t => t.outr.overlap = false ∧
      (partnerOwns s = false → ∀ x c, ((t.prot.get x).coil c).energised = false ∧ ((t.prot.get x).coil c).holdBit = false)) ∧
  (∀ (s : State) (u : Nat), s.elec.powered = true → mayAssert s = true → s.outr.line = .free → s.outr.released = some u →
    passed s u (sec 2) = true →
    runs .releaseRetake s fun t => t.outr.asserting = true ∧ t.outr.hold = .takeover ∧ t.pair.retake = true) ∧
  (∀ s : State, s.elec.powered = true → s.outr.hold ≠ .none →
    runs .holdExpiry s fun t => t.outr.hold = .none ∧ t.prot.zero.holdExp = true ∧ t.prot.one.holdExp = true ∧
      noSwitchConducts t .zero = true ∧ noSwitchConducts t .one = true) ∧
  (∀ s : State, running s = true →
    (s.outr.hold = .takeover ∧ isActive s = true ∧ s.outr.owner = true ∧ gapMayEnd s = true) ∨
      (s.outr.hold = .heartbeat ∧ s.outr.hbGood = true) ∨ (s.outr.hold = .restart ∧ 9 ≤ s.elec.step) →
    runs .holdAck s fun t => t.outr.hold = .none) ∧
  (∀ (s : State) (x : Ix), running s = true → fromHoldBits s = true →
    runs (.holdDrop x) s fun t => noSwitchConducts t x = true ∧ ∀ c, ((t.prot.get x).coil c).holdBit = false)

/-- R33, R350, R351, R352, R353, R359, R360, R403: the active role is given up, handed over and taken. Where a clause goes past the words
of these rules it follows a reading of the model (logs 72, 109, 110, 111 and 162). -/
def Obligations.RoleCommandsTakeEffect : Prop :=
  (∀ s : State, running s = true → s.outr.owner = true → s.pair.role = .standby → 7 ≤ s.elec.step →
    runs .takeover s fun t => t.pair.role = .active ∧ t.elec.step = 12 ∧ t.pair.takeover = true ∧
      t.pair.takeoverCnt = sat 0xFF (s.pair.takeoverCnt + 1) ∧ (newest t 44).isSome = true) ∧
  (∀ (s : State) (h : Hdr), hostReady s h = true → alone s h = true → s.outr.owner = true → isActive s = true → partnerFit s = true →
    s.pair.req = none →
    runs (.handover h) s fun t => ∃ id, answered t h 0x0020 .accepted 0 id [] ∧
      t.pair.req = some { cause := 3, at_ := releaseAt s, ids := [id], gone := false } ∧
      Out.peer 0x36 (releaseBytes 3 (releaseAt s)) ∈ t.sent) ∧
  (∀ (s : State) (q : ReleaseReq), running s = true → isActive s = true → s.outr.owner = true → s.pair.req = some q → q.gone = false →
    s.grid.on = false ∨ q.at_ ≤ s.grid.now → s.upd.leaving = none →
    runs .orderlyRelease s fun t => t.pair.role = .standby ∧ t.outr.owner = false ∧ t.outr.line = .free ∧ t.outr.overlap = true ∧
      t.pair.req = some { q with gone := true }) ∧
  (∀ (s : State) (x : Ix), running s = true → s.pair.role ≠ .isolated →
    runs (.selfRelease .selfTest x) s fun t => t.pair.role = .isolated ∧ t.elec.isolation = 2 ∧ t.elec.selfTestOk = false ∧
      t.outr.owner = false) ∧
  (∀ (s : State) (f : SelfFinding) (x : Ix), running s = true → isActive s = true → f ≠ .selfTest → s.outr.owner = true →
    testBit (parN s 0x0C02) f.bitNo = true → partnerFit s = true → selfFindingHolds s f x = true →
    runs (.selfRelease f x) s fun t => t.pair.req.isSome = true) ∧
  (∀ s : State, s.elec.powered = true →
    runs .ejectorOpen s fun t => t.pair.eject = true ∧
      (running s = true → isActive s = true → s.outr.owner = true → parN s 0x0C04 = 1 → partnerFit s = true →
        t.pair.req.isSome = true)) ∧
  (∀ (s : State) (b : Bool), running s = true → s.pair.present ≠ b →
    runs (.partnerPresence b) s fun t => t.pair.present = b ∧
      newest t 46 = some (ub b ++ u8 ((s.pair.peer.map (·.role)).getD 0))) ∧
  (∀ (s : State) (h : Hdr), hostReady s h = true → alone s h = true → s.pair.role ≠ .isolated →
    runs (.isolate h) s fun t => answered t h 0x0021 .ok 0 0 [] ∧ t.pair.role = .isolated ∧ t.elec.isolation = 3) ∧
  (∀ (s : State) (h : Hdr), hostReady s h = true → alone s h = true → s.pair.role = .isolated →
    s.pair.peer = none ∨ s.pair.variantMatch = true → s.elec.selfTestOk = true →
    runs (.rejoin h) s fun t => answered t h 0x0022 .ok 0 0 [] ∧ t.pair.role = .standby ∧ t.elec.isolation = 0)

/-- R75, R296, R344, R346, R347, R348, R349, R350: frames of the peer link. Where a clause goes past the words of these rules it follows a
reading of the model (logs 63, 109, 112 and 161). -/
def Obligations.PeerLinkCommandsTakeEffect : Prop :=
  (∀ (s : State) (f : PeerFrame), clocked s = true → (s.elec.fw || s.elec.loader) = true → f.good 0x30 (· == 32) = true →
    runs (.peerStatus f) s fun t => t.pair.linkUp = true ∧ t.pair.peer = some (readPeerStatus f.payload)) ∧
  (∀ s : State, clocked s = true → (s.elec.fw || s.elec.loader) = true →
    runs .peerStatusSend s fun t => t.sent = s.sent ++ [.peer 0x30 (peerStatusBytes s)]) ∧
  (∀ s : State, s.elec.powered = true → s.pair.linkUp = true →
    runs .peerLinkDown s fun t => t.pair.linkUp = false ∧ t.pair.downCnt = sat 0xFFFF (s.pair.downCnt + 1)) ∧
  (∀ (s : State) (r : PeerRec) (u : Nat), running s = true → s.pair.linkUp = true → s.pair.peer = some r →
    r.digest ≠ parDigest s → s.pair.digestUp = some u → passed s u (sec 1) = true →
    runs .pairParamMismatch s fun t => t.pair.paramMatch = false ∧ newest t 43 = some (u32 (parDigest s) ++ u32 r.digest)) ∧
  (∀ (s : State) (f : PeerFrame) (b off : Nat) (d : List Byte), running s = true → s.outr.owner = false →
    f.good 0x32 (fun n => decide (5 ≤ n) && decide (n ≤ 2045)) = true → byteAt f.payload 0 = b → b ≤ 1 →
    beAt f.payload 1 4 = off → f.payload.drop 5 = d → off + d.length ≤ 43264 → (s.est.peerBuf.get (Ix.ofNum b)).wf 0 = true →
    runs (.stateRec f) s fun t => Mem.readAll 0 (t.est.peerBuf.get (Ix.ofNum b)) off d.length = d) ∧
  (∀ (s : State) (f : PeerFrame) (n : Nat), running s = true → s.outr.owner = false →
    f.good 0x33 (fun k => k == 6 + 16 * byteAt f.payload 1) = true → byteAt f.payload 1 = n → n ≤ 32 → byteAt f.payload 0 ≤ 1 →
    runs (.unitTable f) s fun t => (car t (Ix.ofNum (byteAt f.payload 0))).count = n ∧
      (car t (Ix.ofNum (byteAt f.payload 0))).units.length = n ∧
      (car t (Ix.ofNum (byteAt f.payload 0))).lRing = beAt f.payload 2 4) ∧
  (∀ (s : State) (f : PeerFrame), running s = true → s.outr.owner = false → f.good 0x34 (· == 16) = true → 8 ≤ s.elec.step →
    runs (.hopComp f) s fun t => t.grid.u0.d = beAt f.payload 0 4 ∧ t.grid.u1.d = beAt f.payload 4 4 ∧
      t.grid.depth = beAt f.payload 8 2) ∧
  (∀ (s : State) (f : PeerFrame), running s = true → s.outr.owner = false → f.good 0x35 (· == 96) = true →
    runs (.holdState f) s fun t => t.hold.copy = some (readHoldState f.payload)) ∧
  (∀ (s : State) (f : PeerFrame), running s = true → f.good 0x36 (· == 10) = true →
    runs (.release f) s fun t => t.pair.reason = some (byteAt f.payload 0)) ∧
  (∀ (s : State) (f : PeerFrame), drives s = true → f.good 0x37 (· == 4) = true → s.grid.head = true →
    runs (.peerEchoReq f false) s fun t =>
      t.sent = s.sent ++ [.peer 0x38 (echoPayload s (byteAt f.payload 2) (byteAt f.payload 3))]) ∧
  (∀ (s : State) (f : PeerFrame) (rtt : Nat), running s = true → f.good 0x38 (· == 18) = true → byteAt f.payload 1 = 2 →
    s.grid.peer.echo.busy = true → s.grid.peer.echo.got + s.grid.peer.echo.lost < 63 →
    runs (.peerEchoRep f rtt) s fun t => t.grid.peer.echo.got = s.grid.peer.echo.got + 1)

/-! ### The CAN buses -/

/-- R364, R366, R367, R369, R373, R376, R380, R381, R382, R390: rates are found, windows and messages sent, faults confined, the host's
messages kept. Where a clause goes past the words of these rules it follows a reading of the model (logs 31, 32, 34, 106, 107 and 163). -/
def Obligations.CanCommandsTakeEffect : Prop :=
  (∀ (s : State) (b : Ix) (f : CanFrame), running s = true → f.err = false →
    runs (.canFrame b f) s fun t => (canBus t b).rx = ((canBus s b).rx + 1) % 65536) ∧
  (∀ (s : State) (b : Ix) (f : CanFrame), running s = true → f.err = true →
    runs (.canFrame b f) s fun t => (canBus t b).recv = sat 255 ((canBus s b).recv + 1)) ∧
  (∀ (s : State) (b : Ix), running s = true → (canBus s b).detecting = true →
    passed s (canBus s b).candUp (ms (parN s 0x0D06)) = true →
    runs (.rateDwellExpiry b) s fun t => (canBus t b).cand = (canBus s b).cand % 8 + 1 ∧ (canBus t b).okRun = 0) ∧
  (∀ (s : State) (b : Ix), running s = true → (canBus s b).detecting = true → detectFails s b = true →
    runs (.rateSilentExpiry b) s fun t => (canBus t b).rate = parN s (0x0D04 + b.num) ∧ (canBus t b).assumed = true ∧
      (canBus t b).detecting = false) ∧
  (∀ (s : State) (b : Ix), running s = true → s.grid.on = true →
    runs (.basicCycleStart b) s fun t => (canBus t b).hpn = curHpn s ∧ (canBus t b).basic = curHpn s % 8) ∧
  (∀ (s : State) (b : Ix) (w left : Nat) (m : CanMsg), drives s = true → w < 32 → (canWin s b w).kind ≠ 0 →
    testBit (canWin s b w).mask (canBus s b).basic = true → (canBus s b).st = .scheduled → (canBus s b).fc ≠ .busOff →
    (canBus s b).tx = none → yieldTo s b (canWin s b w) = none → windowMsg s b w = some m →
    msgNs (canBus s b).rate m + 2000 ≤ left →
    runs (.canWindowStart b w left) s fun t => (canBus t b).tx = some { m with attempts := oneShot } ∧
      Out.can b m.id (sentFormat (canBus s b) m.format) m.data ∈ t.sent) ∧
  (∀ (s : State) (b : Ix) (m : CanMsg), running s = true → (canBus s b).tx = some m → (canBus s b).st = .scheduled →
    runs (.canTxDone b .success) s fun t => (canBus t b).tx = none ∧ (canBus t b).tec = (canBus s b).tec - 1) ∧
  (∀ (s : State) (b : Ix), running s = true → (canBus s b).fc ≠ .busOff → (canBus s b).st ≠ .listenOnly →
    runs (.canBusOff b) s fun t => (canBus t b).fc = .busOff ∧ (canBus t b).tec = 255 ∧
      (canBus t b).busoffCnt = sat 0xFF ((canBus s b).busoffCnt + 1) ∧
      newest t 228 = some (ux b ++ u16 (((canBus s b).offUp.filter fun u => !passed s u (sec 10)).length + 1))) ∧
  (∀ (s : State) (b : Ix), running s = true → (canBus s b).fc = .busOff →
    runs (.busOffRecovery b) s fun t => (canBus t b).fc = .errorActive ∧ (canBus t b).tec = 0 ∧ (canBus t b).recv = 0) ∧
  (∀ (s : State) (h : Hdr) (bus fmt len buf i : Nat) (d : List Byte), hostReady s h = true → alone s h = true → bus ≤ 1 →
    postFault s bus fmt len buf i d = 0 → buf < 8 → buf < (canBus s (Ix.ofNum bus)).hostBuf.length →
    runs (.canPost h bus fmt len buf i d) s fun t => ∃ m, answered t h 0x0080 .ok 0 0 (u32 m.handle) ∧
      (canBus t (Ix.ofNum bus)).hostBuf[buf]? = some (some m) ∧ m.id = i ∧ m.format = fmt ∧ m.data = d) ∧
  (∀ (s : State) (h : Hdr) (bus fmt len i : Nat) (d : List Byte), hostReady s h = true → alone s h = true → bus ≤ 1 →
    postFault s bus fmt len 0xFF i d = 0 →
    runs (.canPost h bus fmt len 0xFF i d) s fun t => ∃ id, answered t h 0x0080 .ok 0 0 (u32 id)) ∧
  (∀ (s : State) (h : Hdr) (m : CanMsg), hostReady s h = true → alone s h = true → (canBus s .zero).tx = none →
    (canBus s .one).tx = none → m ∈ (canBus s .zero).queue → m.kind = .host →
    runs (.canCancel h m.handle) s fun t => answered t h 0x0081 .cancelled 0 0 [] ∧
      ∀ x ∈ (canBus t .zero).queue, ¬ (x.kind = .host ∧ x.handle = m.handle)) ∧
  (∀ (s : State) (h : Hdr) (m : CanMsg), hostReady s h = true → (canBus s .zero).tx = some m → m.kind = .host →
    runs (.canCancel h m.handle) s fun t => (canBus t .zero).tx = some { m with cancelled := true, waiter := some h })

/-! ### The host interface -/

/-- R393, R394, R395, R397, R410, R418: the ports, and writes of their registers.
Where a clause goes past the words of these rules it follows a reading of the model (logs 47, 51 and 52). -/
def Obligations.PortCommandsTakeEffect : Prop :=
  (∀ (s : State) (p : Ix) (c : LinkCause), clocked s = true → portUp s p = true →
    runs (.perst p c) s fun t => t.host.port.get p = { downCnt := sat 0xFF ((s.host.port.get p).downCnt + 1) } ∧
      newest t 50 = some (ux p ++ u8 0 ++ u8 c.code)) ∧
  (∀ (s : State) (p : Ix) (c : LinkCause), clocked s = true → portUp s p = false →
    runs (.perst p c) s fun t => t.host.port.get p = { downCnt := (s.host.port.get p).downCnt }) ∧
  (∀ (s : State) (p : Ix) (c : LinkCause), clocked s = true → portUp s p = true →
    runs (.hostLinkDown p c) s fun t => portUp t p = false ∧ (t.host.port.get p.other).otherLost = true ∧
      newest t 50 = some (ux p ++ u8 0 ++ u8 c.code)) ∧
  (∀ (s : State) (p : Ix) (v : Nat) (wide : Bool), clocked s = true → portUp s p = false → 3 ≤ s.elec.step →
    runs (.hostLinkUp p v wide) s fun t => portUp t p = true ∧ (t.host.port.get p).responses = [] ∧
      (t.host.port.get p).speed = v % 4 ∧ (t.host.port.get p).wide = wide ∧ newest t 50 = some (ux p ++ u8 1 ++ u8 0)) ∧
  (∀ (s : State) (p : Ix) (st : Nat) (b : Bool), clocked s = true → 3 ≤ s.elec.step →
    runs (.pcieError p st b) s fun t => newest t 56 = some (ux p ++ u32 st ++ ub b)) ∧
  (∀ (s : State) (p : Ix) (w : Word), clocked s = true → portUp s p = true →
    runs (.registerWrite p 0x1C w) s fun t => (t.host.port.get p).scratch = w.toNat) ∧
  (∀ (s : State) (p : Ix) (off : Nat) (w : Word), off % 4 ≠ 0 →
    runs (.registerWrite p off w) s fun t => t = s) ∧
  (∀ (s : State) (p : Ix) (w : Word), clocked s = true → portUp s p = true →
    runs (.registerWrite p 0xE80 w) s fun t => t.ev.overflow = (s.ev.overflow && !testBit w.toNat 6) ∧
      t.ev.fault = (s.ev.fault && !testBit w.toNat 7)) ∧
  (∀ (s : State) (p : Ix) (g : Nat) (w : Word), clocked s = true → portUp s p = true → g < 8 →
    g < (s.host.port.get p).mask.length →
    runs (.evMaskWrite p g w) s fun t => (t.host.port.get p).mask[g]? = some w.toNat)

/-- R399, R401, R402, R403: doorbells, time limits and results, and the commands every host has.
Where a clause goes past the words of these rules it follows a reading of the model (logs 18, 28 and 29). -/
def Obligations.MailboxCommandsTakeEffect : Prop :=
  (∀ (s : State) (p : Ix) (r : Nat) (w : Word) (l : List MbxEntry), clocked s = true → (s.elec.fw || s.elec.loader) = true →
    portUp s p = true → r < 8 → r < (s.host.port.get p).rings.length → (w.toNat % 64 + 64 - (mbxRing s p r).done) % 64 ≤ 32 →
    runs (.mbxDoorbell p r w l) s fun t => (mbxRing t p r).prod = w.toNat % 64) ∧
  (∀ (s : State) (p : Ix) (r : Nat) (w : Word) (l : List MbxEntry), clocked s = true → (s.elec.fw || s.elec.loader) = true →
    portUp s p = true → r < 8 → r < (s.host.port.get p).rings.length → 32 < (w.toNat % 64 + 64 - (mbxRing s p r).done) % 64 →
    runs (.mbxDoorbell p r w l) s fun t => (mbxRing t p r).dbErr = true ∧ (mbxRing t p r).prod = (mbxRing s p r).prod ∧
      (mbxRing t p r).waiting = (mbxRing s p r).waiting) ∧
  (∀ (s : State) (h : Hdr) (op : Nat), hostReady s h = true → alone s h = true → (opcodeLens op).isSome = true → longOpcode op = false →
    runs (.commandTimeout h op) s fun t => answered t h op .timeout 0 0 [] ∧
      newest t 55 = some (ux h.port ++ u8 h.ring ++ u16 op ++ u32 h.tag)) ∧
  (∀ (s : State) (l : LongRec), running s = true →
    (s.host.longs.find? fun k => k.id == l.id && k.ended && !k.reported) = some l →
    runs (.longDone l.id) s fun t => newest t 51 = some (ux l.port ++ u8 l.ring ++ u32 l.tag ++ u64 l.id ++ u16 l.status.code)) ∧
  (∀ (s : State) (id : Nat), running s = true →
    runs (.longResultExpiry id) s fun t => t.host.longs =
      s.host.longs.filter fun l => !(l.id == id && l.ended && passed s l.doneUp (sec (parN s 0x0E05)))) ∧
  (∀ (s : State) (h : Hdr), hostReady s h = true → alone s h = true →
    runs (.nop h) s fun t => answered t h 0x0001 .ok 0 0 []) ∧
  (∀ (s : State) (h : Hdr), loaderReady s h = true → alone s h = true →
    runs (.identify h) s fun t => answered t h 0x0002 .ok 0 0 (identBytes s h.port)) ∧
  (∀ (s : State) (h : Hdr) (id : Nat) (l : LongRec), hostReady s h = true → alone s h = true →
    (s.host.longs.find? fun k => k.id == id) = some l →
    runs (.longQuery h id) s fun t => answered t h 0x0003 .ok 0 0
      (u16 l.opcode ++ u16 (if l.ended then l.status else .pending).code ++ u32 l.detail ++ ustamp l.doneAt ++ u32 l.resp.length ++
        l.resp))

/-- R404, R405, R407, R408, R409, R410: streams are opened, fed, written and closed. Where a clause goes past the words of these rules it
follows a reading of the model (logs 10, 35, 125 and 156). -/
def Obligations.StreamCommandsTakeEffect : Prop :=
  (∀ (s : State) (h : Hdr) (ty a n : Nat) (d : List Desc), hostReady s h = true → alone s h = true →
    openFault s h.port ty a n d = none → ty < (s.host.port.get h.port).streams.length →
    runs (.streamOpen h ty a n d) s fun t => answered t h 0x0008 .ok 0 0 [] ∧
      strm t h.port ty = { isOpen := true, addr := a, entries := n, fixed := if ty = 1 then d else [] }) ∧
  (∀ (s : State) (h : Hdr) (ty : Nat), hostReady s h = true → alone s h = true → (strm s h.port ty).isOpen = true → ty ≤ 4 →
    runs (.streamClose h ty) s fun t => answered t h 0x0009 .ok 0 0 (u32 (strm s h.port ty).lost) ∧ strm t h.port ty = {}) ∧
  (∀ (s : State) (p : Ix) (m : Nat) (w : Word), running s = true → portUp s p = true → m ≠ 1 → m ≤ 4 →
    m < (s.host.port.get p).streams.length →
    runs (.strmTailWrite p m w) s fun t => (strm t p m).tail = w.toNat % 8192) ∧
  (∀ (s : State) (p : Ix) (m : Nat) (d : Desc), running s = true → strmRuns s p m = true → (strm s p m).fetch.isSome = true →
    runs (.descriptorFetchDone p m d) s fun t => (strm t p m).head = ((strm s p m).head + 1) % 8192) ∧
  (∀ (s : State) (p : Ix) (m a n : Nat), running s = true → strmRuns s p m = true → (strm s p m).fetch = some n → n < parN s 0x0E02 →
    runs (.descriptorFetchFail p m a) s fun t => (strm t p m).fetch = some (n + 1) ∧ t.sent = s.sent ++ [.fetch p m a] ∧
      (t.host.port.get p).cplTo = true) ∧
  (∀ (s : State) (p : Ix) (m a n : Nat), running s = true → strmRuns s p m = true → (strm s p m).fetch = some n → parN s 0x0E02 ≤ n →
    runs (.descriptorFetchFail p m a) s fun t => (strm t p m).stopped = true ∧ newest t 52 = some (ux p ++ u8 m ++ u64 a) ∧
      newest t 54 = some (ux p ++ u8 m ++ u8 1)) ∧
  (∀ (s : State) (p : Ix) (m u : Nat), running s = true → strmRuns s p m = true → m ≠ 1 → m ≠ 3 → (strm s p m).buf = none →
    (strm s p m).waiting ≠ [] → (strm s p m).needUp = some u → passed s u (ms (parN s 0x0E01)) = true →
    runs (.descStarved p m) s fun t => (strm t p m).lost = (strm s p m).lost + 1 ∧ (strm t p m).starved = true ∧
      (t.host.port.get p).descTo = true) ∧
  (∀ (s : State) (p : Ix) (m a : Nat) (b : List Byte) (want : Bool) (rest : List (Nat × List Byte × Bool)), clocked s = true →
    strmRuns s p m = true → outranked s p m = false → (strm s p m).writing = (a, b, want) :: rest →
    runs (.bufferWriteDone p m) s fun t =>
      s.sent ++ [.dma p a (b.take (validAt m)), .dma p (a + validAt m + 8) (b.drop (validAt m + 8)),
        .dma p (a + validAt m) (slice b (validAt m) 8)] <+: t.sent) ∧
  (∀ (s : State) (p : Ix) (c : Nat), running s = true → (s.host.port.get p).rxCycle = some c → strmRuns s p 2 = true →
    bufHolds s p 2 = true → c + parN s 0x0E04 ≤ curCycle s →
    runs (.canrxFlush p) s fun t => (strm t p 2).writing ≠ []) ∧
  (∀ (s : State) (h : Hdr) (r : CaptureReq), hostReady s h = true → alone s h = true → (s.host.port.get h.port).capture = none →
    captureOk r = true → strmRuns s h.port 4 = true →
    runs (.capture h r) s fun t => ∃ id, answered t h 0x000A .accepted 0 id [] ∧
      (r.trigger ≠ 0 → ∃ c, (t.host.port.get h.port).capture = some c ∧ c.id = id ∧ c.req = r ∧ c.triggered = none)) ∧
  (∀ (s : State) (p : Ix) (c : CaptureRun), running s = true → (s.host.port.get p).capture = some c → c.triggered = none →
    c.req.trigger = 1 → c.req.cyc * 128 ≤ s.grid.now →
    runs (.captureTrigger p) s fun t => ∀ d, (t.host.port.get p).capture = some d → d.triggered = some (c.req.cyc * 128)) ∧
  (∀ (s : State) (p : Ix) (m : Nat) (ms' : F32), running s = true → strmRuns s p m = true → m = 3 ∨ m = 4 →
    (strm s p m).writing ≠ [] → 1 < F32.toRat ms' →
    KV.get? s.ev.rate (161, 8 * p.num + m) ≠ some (curCycle s) →
    runs (.hostReadDeferred p m ms') s fun t => newest t 161 = some (u8 m ++ fb ms'))

/-! ### Events, the ledger and parameters -/

/-- R412, R415, R421, R422, R425, R426, R427, R428: the ledger's records, its reading, freezing and clearing. Where a clause goes past the
words of these rules it follows a reading of the model (logs 25, 36, 71, 78, 79, 151 and 164). -/
def Obligations.LedgerCommandsTakeEffect : Prop :=
  (∀ (s : State) (a b : Bool) (o : Occ) (rest : List Occ), running s = true → s.elec.scanned = true → s.ev.freeze = none →
    s.ev.queue = o :: rest → (a || b) = true →
    runs (.ledgerRecordWrite a b) s fun t => t.ev.next = s.ev.next + 1 ∧ ∃ r, KV.get? t.ev.slots (s.ev.next % 65536) = some r ∧
      r.seq = s.ev.next ∧ r.occ = o ∧ r.part = s.ev.part ∧ r.valid = true ∧ r.data = slice o.data (36 * s.ev.part) 36) ∧
  (∀ (s : State) (o : Occ) (rest : List Occ), running s = true → s.elec.scanned = true → s.ev.freeze = none → s.ev.queue = o :: rest →
    fabOver s = false →
    runs (.ledgerRecordWrite false false) s fun t => t.ev.fault = true ∧ t.ev.next = s.ev.next + 1 ∧
      newest t 252 = some (u64 s.ev.next ++ u16 (s.ev.next % 65536))) ∧
  (∀ (s : State) (h : Hdr) (e : Nat) (o : Occ), hostReady s h = true → alone s h = true → KV.get? s.ev.last e = some o →
    runs (.evLast h e) s fun t => ∃ q, answered t h 0x0100 .ok 0 0 (ledBytes q o (decide (1 < o.parts)) 0 (o.data.take 36))) ∧
  (∀ (s : State) (h : Hdr) (first count start : Nat), hostReady s h = true → alone s h = true → 1 ≤ count → count ≤ 63 →
    start = min s.ev.next (max first (oldestSeq s)) →
    runs (.ledgerRead h first count) s fun t => answered t h 0x0101 .ok (((readFrom s 65537 start count).2 + (start - first)) % 2 ^ 32) 0
      (readFrom s 65537 start count).1) ∧
  (∀ (s : State) (h : Hdr) (a b : Nat), hostReady s h = true → alone s h = true → strmRuns s h.port 3 = true →
    (s.host.port.get h.port).dump = none →
    runs (.ledgerExport h a b) s fun t => ∃ id, answered t h 0x0102 .accepted 0 id []) ∧
  (∀ (s : State) (h : Hdr) (d : Nat), hostReady s h = true → alone s h = true → s.ev.freeze = none → 1 ≤ d → d ≤ 10000 →
    (∀ u, s.ev.freezeEnd = some u → passed s u (sec 1) = true) →
    runs (.ledgerFreeze h d) s fun t => answered t h 0x0103 .ok 0 0 [] ∧
      newest t 248 = some (ux h.port ++ u8 h.ring ++ u32 h.tag ++ u16 d) ∧
      ∃ f, t.ev.freeze = some f ∧ f.port = h.port ∧ f.ring = h.ring ∧ f.ms = d) ∧
  (∀ (s : State) (h : Hdr), hostReady s h = true → alone s h = true → freezeOther s h = none →
    runs (.ledgerUnfreeze h) s fun t => answered t h 0x0104 .ok 0 0 [] ∧ t.ev.freeze = none) ∧
  (∀ (s : State) (f : FreezeRec), running s = true → s.ev.freeze = some f → passed s f.up (ms (min 10000 f.ms)) = true →
    runs .freezeExpiry s fun t => t.ev.freeze = none) ∧
  (∀ (s : State) (h : Hdr) (u : Nat), hostReady s h = true → alone s h = true → s.ev.freeze = none →
    runs (.ledgerClear h u) s fun t => t.ev.floor = max s.ev.floor (min (u + 1) s.ev.next) ∧
      answered t h 0x0105 .ok 0 0 (u64 (max s.ev.floor (min (u + 1) s.ev.next)))) ∧
  (∀ (s : State) (h : Hdr) (u : Nat), hostReady s h = true → alone s h = true → s.ev.freeze.isSome = true → freezeOther s h = none →
    runs (.ledgerClear h u) s fun t => t.ev.floor = s.ev.floor ∧ t.ev.clear.isSome = true ∧
      answered t h 0x0105 .ok 0 0 (u64 s.ev.floor)) ∧
  (∀ (s : State) (h : Hdr), hostReady s h = true → alone s h = true →
    runs (.ledgerInfo h) s fun t => answered t h 0x0106 .ok 0 0 (ledgerInfo s)) ∧
  (∀ (s : State) (h : Hdr) (d : List Byte), hostReady s h = true → alone s h = true → d.length = 8 →
    runs (.evTest h d) s fun t => answered t h 0x0107 .ok 0 0 [] ∧ newest t 255 = some (ux h.port ++ u8 h.ring ++ d)) ∧
  (∀ (s : State) (o : Occ) (rest : List Occ), running s = true → s.elec.scanned = true → s.ev.freeze = none → s.ev.queue = o :: rest →
    fabOver s = true →
    runs (.ledgerRecordWrite false false) s fun t => t.ev.next = s.ev.next ∧ t.ev.slots = s.ev.slots ∧
      t.ev.frzCnt = sat 0xFFFF (s.ev.frzCnt + 1))

/-- R430, R434, R436, R440, R441, R444: parameters are read, staged, discarded, committed, persisted and scanned.
Where a clause goes past the words of these rules it follows a reading of the model (logs 26, 113, 117, 118 and 119). -/
def Obligations.ParameterCommandsTakeEffect : Prop :=
  (∀ (s : State) (h : Hdr) (g first n src : Nat) (l : List Nat), hostReady s h = true → alone s h = true → 1 ≤ n → n ≤ 256 → src ≤ 3 →
    first ≤ 255 →
    (((List.range (min n (256 - first))).map fun i => g * 256 + first + i).filter fun a => (pInfo s.ident.variant a).isSome) = l →
    l ≠ [] →
    runs (.parRead h g first n src) s fun t => answered t h 0x0010 .ok
      ((readEntries s src l []).2 + 65536 * bit (src == 3 && (bankInUse s).isNone)) 0 (readEntries s src l []).1) ∧
  (∀ (s : State) (h : Hdr) (d : List Byte) (es : List (Nat × Nat)), hostReady s h = true → alone s h = true → s.par.holder = none →
    parseEntries s d.length d [] = .ok es →
    runs (.parWrite h d) s fun t => answered t h 0x0011 .ok 0 0 (u16 es.length) ∧
      t.par.staged = es.foldl (fun m e => KV.put m e.1 e.2) [] ∧
      t.par.holder = some (h.port, h.ring, h.tag, s.elec.uptime)) ∧
  (∀ (s : State) (h : Hdr), hostReady s h = true → alone s h = true → stagingHolder s h false = none → updState s ≠ .scheduled →
    (∀ e ∈ s.par.staged, e.2 = parC s e.1) →
    runs (.commit h) s fun t => answered t h 0x0012 .ok 0 0 (u64 s.par.seq ++ u16 0) ∧ t.par.staged = [] ∧
      t.par.committed = s.par.committed) ∧
  (∀ (s : State) (h : Hdr) (c : Dict), hostReady s h = true → alone s h = true → stagingHolder s h false = none →
    updState s ≠ .scheduled → (∃ e ∈ s.par.staged, e.2 ≠ parC s e.1) → candidate s = c →
    (∀ a ∈ changedPars s c, (roleLimited a && isActive s) = false) → commitFault s c = none →
    runs (.commit h) s fun t => answered t h 0x0012 .ok 0 0 (u64 (s.par.seq + 1) ++ u16 (changedPars s c).length) ∧
      t.par.seq = s.par.seq + 1 ∧ t.par.committed = c ∧ t.par.staged = [] ∧ t.par.holder = none ∧ t.par.persisting = true) ∧
  (∀ (s : State) (h : Hdr), hostReady s h = true → alone s h = true → stagingHolder s h false = none →
    runs (.parDiscard h) s fun t => answered t h 0x0013 .ok 0 0 [] ∧ t.par.staged = [] ∧ t.par.holder = none) ∧
  (∀ (s : State) (b : Bank), running s = true → s.par.persisting = true → s.par.snap = some b →
    runs (.persistenceDone true) s fun t => t.par.areas.get s.par.area = (Two.both none).set (targetBank s) (some b) ∧
      t.par.persistedSeq = b.seq ∧ t.par.bank = targetBank s) ∧
  (∀ (s : State) (b : Bank), running s = true → s.par.persisting = true → s.par.snap = some b → s.par.retried = true →
    runs (.persistenceDone false) s fun t => t.par.persistFault = true) ∧
  (∀ (s : State) (x : Ix) (b : Bank), running s = true → badPairs s ≠ [] → bankInUse s = some (x, b) → b.seq = s.par.seq →
    runs .safetyScan s fun t => t.par.safetyReload = true) ∧
  (∀ s : State, running s = true → badPairs s ≠ [] → bankInUse s = none → s.pair.role ≠ .isolated →
    runs .safetyScan s fun t => t.pair.role = .isolated ∧ t.elec.selfTestOk = false)

/-! ### Firmware update -/

/-- R454, R455, R456, R458, R459, R460, R463: a session is opened, filled, verified, scheduled, cancelled, closed and confirmed. Where a
clause goes past the words of these rules it follows a reading of the model (logs 37, 58, 68, 69, 155 and 165). -/
def Obligations.UpdateCommandsTakeEffect : Prop :=
  (∀ (s : State) (h : Hdr) (ty : Nat) (brk : Bool) (len ver crc : Nat), loaderReady s h = true → alone s h = true →
    otherHolder s h = none → updState s = .idle → ty = 1 ∨ ty = 2 →
    runs (.updOpen h ty brk len ver crc) s fun t => (∃ id, answered t h 0x0120 .accepted 0 id []) ∧
      longEnded t h 0x0120 .ok 0 (openResult (curJournal t)) ∧ updState t = .receiving ∧ (curJournal t).imageLen = len ∧
      (curJournal t).version = ver ∧ (curJournal t).blocks = [] ∧ t.upd.lock = some (h.port, h.ring, h.tag, s.elec.uptime)) ∧
  (∀ (s : State) (h : Hdr) (off a crc : Nat) (d : List Byte), loaderReady s h = true → alone s h = true → otherHolder s h = none →
    updState s = .receiving → holdsLock s h = true → s.par.persisting = false → off % 4096 = 0 → off < (curJournal s).imageLen →
    off < targetLen (curJournal s).imgType → d.length = 4096 → crc32c d = crc → markedCrc (curJournal s) (off / 4096) = none →
    (off = 0 → blockFault s d (curJournal s).imgType (curJournal s).imageLen = none) → (targetMem s (curJournal s)).wf 0xFF = true →
    runs (.updBlock h off a crc d) s fun t => answered t h 0x0121 .ok 0 0 [] ∧
      (curJournal t).blocks = (curJournal s).blocks ++ [off / 4096] ∧ targetBytes t (curJournal t) off 4096 = d) ∧
  (∀ (s : State) (h : Hdr), loaderReady s h = true → alone s h = true → otherHolder s h = none → updState s = .receiving →
    holdsLock s h = true → missingBlocks (curJournal s) = 0 →
    runs (.updVerify h) s fun t => (∃ id, answered t h 0x0122 .accepted 0 id []) ∧
      ((curJournal s).imgType = 1 → verifyImage s (curJournal s) = (.ok, 0) →
        longEnded t h 0x0122 .ok 0 [] ∧ updState t = .verified ∧ t.upd.lock = none)) ∧
  (∀ (s : State) (h : Hdr) (c : Nat), loaderReady s h = true → alone s h = true → updState s = .verified → synced s = true →
    curCycle s + parN s 0x1006 ≤ c → (isActive s = true → pairAgrees s (s.upd.ver.get (curJournal s).slot) = true) →
    runs (.updSchedule h c) s fun t => answered t h 0x0123 .ok 0 0 [] ∧ updState t = .scheduled ∧ (curJournal t).actCycle = c ∧
      newest t 243 = some (u8 1 ++ u48 c ++ u8 0)) ∧
  (∀ (s : State) (h : Hdr) (b : Bool), loaderReady s h = true → alone s h = true → otherHolder s h = none →
    updState s = .receiving ∨ updState s = .verified →
    runs (.updCancel h b) s fun t => answered t h 0x0124 .ok 0 0 [] ∧ updState t = .idle) ∧
  (∀ (s : State) (h : Hdr) (b : Bool), loaderReady s h = true → alone s h = true → otherHolder s h = none →
    updState s = .scheduled → s.grid.on = false ∨ s.grid.now < (curJournal s).actCycle * 128 →
    runs (.updCancel h b) s fun t => answered t h 0x0124 .ok 0 0 [] ∧ updState t = (if b then .idle else .verified)) ∧
  (∀ (s : State) (h : Hdr) (r : SelRec), loaderReady s h = true → alone s h = true → selOf s = some r → r.trial = true →
    s.upd.step8 = true →
    runs (.updConfirm h r.activeVer) s fun t => answered t h 0x0125 .ok 0 0 [] ∧ updState t = .idle ∧ t.upd.window = none ∧
      newest t 245 = some (u64 r.activeVer ++ ux h.port ++ u8 h.ring)) ∧
  (∀ (s : State) (h : Hdr), loaderReady s h = true → alone s h = true → updState s = .receiving → holdsLock s h = true →
    runs (.updClose h) s fun t => answered t h 0x0126 .ok 0 0 [] ∧ t.upd.lock = none ∧ updState t = .receiving) ∧
  (∀ (s : State) (h : Hdr), loaderReady s h = true → alone s h = true →
    runs (.updInfo h) s fun t => answered t h 0x0127 .ok 0 0 (infoBytes s))

/-- R461, R462, R464: an activation lapses, releases, opens the strings or restarts the module at once; a window's end likewise.
Where a clause goes past the words of these rules it follows a reading of the model (logs 30, 67 and 105). -/
def Obligations.ActivationCommandsTakeEffect : Prop :=
  (∀ s : State, running s = true → updState s = .scheduled → s.grid.on = true → (curJournal s).actCycle * 128 ≤ s.grid.now →
    s.upd.leaving = none → synced s = false →
    runs .activation s fun t => updState t = .verified ∧ t.upd.lapsed = true ∧
      newest t 243 = some (u8 3 ++ u48 (curJournal s).actCycle ++ u8 1)) ∧
  (∀ s : State, running s = true → updState s = .scheduled → s.grid.on = true → (curJournal s).actCycle * 128 ≤ s.grid.now →
    s.upd.leaving = none → synced s = true → isActive s = false →
    runs .activation s fun t => updState t = .trial ∧ t.elec.step = 3 ∧ t.elec.fw = false ∧ t.elec.cause = 5) ∧
  (∀ s : State, running s = true → updState s = .scheduled → s.grid.on = true → (curJournal s).actCycle * 128 ≤ s.grid.now →
    s.upd.leaving = none → synced s = true → isActive s = true → s.pair.present = true →
    pairAgrees s (s.upd.ver.get (curJournal s).slot) = true → partnerFit s = true →
    runs .activation s fun t => t.upd.leaving = some (1, true) ∧ t.pair.req.isSome = true) ∧
  (∀ s : State, running s = true → updState s = .scheduled → s.grid.on = true → (curJournal s).actCycle * 128 ≤ s.grid.now →
    s.upd.leaving = none → synced s = true → isActive s = true → s.pair.present = false →
    runs .activation s fun t => t.upd.leaving = some (2, true) ∨ (t.elec.step = 3 ∧ updState t = .trial)) ∧
  (∀ (s : State) (w : Nat), running s = true → updState s = .trial → s.upd.window = some w → w ≤ s.elec.uptime →
    s.upd.leaving = none → isActive s = false →
    runs .confirmWindowExpiry s fun t => t.elec.step = 3 ∧ t.elec.fw = false ∧ t.upd.failCause = 1) ∧
  (∀ (s : State) (w : Nat), running s = true → updState s = .trial → s.upd.window = some w → w ≤ s.elec.uptime →
    s.upd.leaving = none → isActive s = true → partnerFit s = true →
    runs .confirmWindowExpiry s fun t => t.upd.leaving = some (1, false) ∧ t.pair.req.isSome = true) ∧
  (∀ s : State, running s = true → s.upd.leaving = some (2, false) → passed s s.upd.leaveUp (sec 10) = true →
    runs .activationOpenTimeout s fun t => t.elec.step = 3 ∧ t.elec.fw = false ∧ t.upd.failCause = 1) ∧
  (∀ s : State, running s = true → s.upd.leaving = some (2, true) → (journalOf s).isSome = true →
    passed s s.upd.leaveUp (sec 10) = true →
    runs .activationOpenTimeout s fun t => updState t = .trial ∧ t.elec.step = 3)

/-! ### Frames: what each command leaves as it was -/

/-- FRAMES of the supply, reference, PLL and clock-domain commands (Chapters 2, 11 and 18):
each changes only the parts of the card that it lists; every other part (Block of Safety.lean) is as it was. For every state and
every operand. -/
def Obligations.PowerAndClockFrames : Prop :=
  (∀ slotB strap2s partnerPresent s t, exec (.powerGood slotB strap2s partnerPresent) s = .next t →
      sameBut [.elec, .clk, .grid, .ring, .front, .fus, .est, .peerBuf, .therm, .ctl, .hold, .prot, .outr, .pair, .can,
        .signals, .host, .events, .records, .acting, .par, .upd, .stores] s t) ∧
  (∀ s t, exec .withdrawal s = .next t →
      sameBut [.elec, .clk, .grid, .ring, .front, .fus, .est, .peerBuf, .therm, .ctl, .hold, .prot, .outr, .pair, .can,
        .signals, .host, .events, .records, .acting, .par, .upd, .stores] s t) ∧
  (∀ s t, exec .supplyLoss s = .next t →
      sameBut [.elec, .clk, .grid, .ring, .front, .fus, .est, .peerBuf, .therm, .ctl, .hold, .prot, .outr, .pair, .can,
        .signals, .host, .events, .records, .acting, .par, .upd, .stores] s t) ∧
  (∀ r s t, exec (.referenceDetect r) s = .next t → sameBut [.elec, .clk] s t) ∧
  (∀ r s t, exec (.referenceLost r) s = .next t → sameBut [.clk, .signals, .events, .sent, .freeCtr] s t) ∧
  (∀ otherPeriods s t, exec (.refFreqCompare otherPeriods) s = .next t → sameBut [.clk, .signals, .events, .sent, .freeCtr] s t) ∧
  (∀ loaderRuns s t, exec (.bypassRun loaderRuns) s = .next t → sameBut [.elec] s t) ∧
  (∀ s t, exec .pllLock s = .next t → sameBut [.elec, .clk] s t) ∧
  (∀ s t, exec .pllLockLost s = .next t → sameBut [.clk, .signals, .events, .sent, .freeCtr] s t) ∧
  (∀ s t, exec .domainSwitchDone s = .next t → sameBut [.clk, .events] s t) ∧
  (∀ s t, exec .domainSwitchTimeout s = .next t → sameBut [.clk, .ctl, .signals, .events, .sent, .freeCtr] s t) ∧
  (∀ w s t, exec (.pllEnWrite w) s = .next t → sameBut [.clk, .events] s t) ∧
  (∀ w s t, exec (.apply w) s = .next t → sameBut [.clk, .events] s t) ∧
  (∀ s t, exec .watchdogExpiry s = .next t →
      sameBut [.elec, .clk, .grid, .ring, .front, .fus, .est, .peerBuf, .therm, .ctl, .hold, .prot, .outr, .pair, .can,
        .signals, .host, .events, .records, .acting, .par, .upd, .stores, .freeCtr] s t) ∧
  (∀ s t, exec .clocklessHold s = .next t → sameBut [.elec, .ctl, .prot, .outr, .signals, .events, .sent, .freeCtr] s t) ∧
  (∀ r s t, exec (.referenceReturnRestart r) s = .next t →
      sameBut [.elec, .clk, .grid, .ring, .front, .fus, .est, .peerBuf, .therm, .ctl, .hold, .prot, .outr, .pair, .can,
        .signals, .host, .events, .records, .acting, .par, .upd, .stores, .sent, .freeCtr] s t)

/-- FRAMES of the power-up, tick, waymark and echo commands (Chapters 1, 2, 15 and 17):
each changes only the parts of the card that it lists; every other part (Block of Safety.lean) is as it was. For every state and
every operand. -/
def Obligations.BringUpAndGridFrames : Prop :=
  (∀ selfTest s t, exec (.firmwareBoot selfTest) s = .next t →
      sameBut [.elec, .clk, .grid, .ring, .front, .fus, .est, .peerBuf, .therm, .ctl, .hold, .prot, .outr, .pair, .can,
        .signals, .host, .events, .records, .acting, .par, .upd, .stores, .sent, .freeCtr] s t) ∧
  (∀ s t, exec .ledgerScan s = .next t → sameBut [.elec, .grid, .signals, .events, .records, .sent, .freeCtr] s t) ∧
  (∀ s t, exec .ownershipArbitration s = .next t →
      sameBut [.elec, .grid, .ring, .fus, .est, .peerBuf, .ctl, .hold, .prot, .outr, .pair, .can, .signals, .host, .events,
        .sent, .freeCtr] s t) ∧
  (∀ e0 e1 s t, exec (.ryranEnumeration e0 e1) s = .next t → sameBut [.elec, .grid, .hold, .signals, .events, .sent, .freeCtr] s t) ∧
  (∀ f0 f1 s t, exec (.caravanEnumeration f0 f1) s = .next t → sameBut [.elec, .ring, .pair, .signals, .events, .acting, .upd, .sent, .freeCtr] s t) ∧
  (∀ s t, exec .stateRecordRestoreTimeout s = .next t → sameBut [.elec, .est] s t) ∧
  (∀ s t, exec .joinDispatch s = .next t → sameBut [.elec, .hold, .signals, .events, .sent, .freeCtr] s t) ∧
  (∀ s t, exec .dualActiveResolved s = .next t →
      sameBut [.grid, .ring, .fus, .est, .peerBuf, .ctl, .hold, .prot, .outr, .pair, .can, .signals, .host, .events, .sent,
        .freeCtr] s t) ∧
  (∀ t0 s t, exec (.tickTrigger t0) s = .next t →
      sameBut [.elec, .clk, .grid, .ring, .front, .fus, .est, .therm, .ctl, .prot, .outr, .pair, .can, .signals, .host,
        .events, .acting, .par, .sent, .freeCtr] s t) ∧
  (∀ t0 s t, exec (.angleSourceTick t0) s = .next t →
      sameBut [.elec, .clk, .grid, .ring, .front, .fus, .est, .therm, .ctl, .prot, .outr, .pair, .can, .signals, .host,
        .events, .acting, .par, .sent, .freeCtr] s t) ∧
  (∀ s t, exec .virtualMainsEntry s = .next t → sameBut [.grid, .signals, .events, .sent, .freeCtr] s t) ∧
  (∀ off s t, exec (.virtualMainsExit off) s = .next t → sameBut [.grid, .signals, .events, .sent, .freeCtr] s t) ∧
  (∀ port f arr s t, exec (.waymarkReceived port f arr) s = .next t → sameBut [.grid, .signals, .events, .upd, .sent, .freeCtr] s t) ∧
  (∀ port s t, exec (.waymarkMissed port) s = .next t → sameBut [.grid, .signals, .events, .sent, .freeCtr] s t) ∧
  (∀ s t, exec .unsynchronised s = .next t → sameBut [.grid, .hold, .can, .signals, .events, .sent, .freeCtr] s t) ∧
  (∀ off s t, exec (.resynchronise off) s = .next t → sameBut [.grid, .hold, .can, .signals, .events, .sent, .freeCtr] s t) ∧
  (∀ s t, exec .upstreamReturn s = .next t → sameBut [.grid, .signals, .events, .sent, .freeCtr] s t) ∧
  (∀ s t, exec .successorBecomesSource s = .next t → sameBut [.elec, .grid, .hold, .signals, .events, .sent, .freeCtr] s t) ∧
  (∀ port f inWaymark s t, exec (.echoReq port f inWaymark) s = .next t → sameBut [.grid, .pair, .sent] s t) ∧
  (∀ port f rtt s t, exec (.echoRep port f rtt) s = .next t → sameBut [.grid, .sent] s t) ∧
  (∀ port s t, exec (.echoTimeout port) s = .next t → sameBut [.grid, .sent] s t) ∧
  (∀ s t, exec .hopRemeasure s = .next t → sameBut [.grid, .sent] s t) ∧
  (∀ port f s t, exec (.loopTrace port f) s = .next t → sameBut [.grid, .signals, .events, .sent, .freeCtr] s t)

/-- FRAMES of the ring, cell, front-end and fusion commands (Chapters 3 to 6):
each changes only the parts of the card that it lists; every other part (Block of Safety.lean) is as it was. For every state and
every operand. -/
def Obligations.RingAndSensingFrames : Prop :=
  (∀ ring waitNs s t, exec (.triggerSend ring waitNs) s = .next t → sameBut [.ring, .sent] s t) ∧
  (∀ ring s t, exec (.snapSend ring) s = .next t → sameBut [.ring, .sent] s t) ∧
  (∀ ring f s t, exec (.featureRec ring f) s = .next t → sameBut [.ring, .fus, .signals, .host, .events, .sent, .freeCtr] s t) ∧
  (∀ ring s t, exec (.deliveryDeadline ring) s = .next t → sameBut [.ring, .signals, .events, .sent, .freeCtr] s t) ∧
  (∀ ring seq s t, exec (.transactionTimeout ring seq) s = .next t → sameBut [.ring, .signals, .events, .sent, .freeCtr] s t) ∧
  (∀ ring s t, exec (.lostUnitPoll ring) s = .next t → sameBut [.ring, .sent] s t) ∧
  (∀ ring f s t, exec (.statusRep ring f) s = .next t → sameBut [.ring, .fus, .signals, .events, .sent, .freeCtr] s t) ∧
  (∀ ring s t, exec (.statusPoll ring) s = .next t → sameBut [.ring, .sent] s t) ∧
  (∀ ring f s t, exec (.ack ring f) s = .next t → sameBut [.ring, .signals, .events, .sent, .freeCtr] s t) ∧
  (∀ ring f s t, exec (.nak ring f) s = .next t → sameBut [.ring, .signals, .events, .sent, .freeCtr] s t) ∧
  (∀ ring f s t, exec (.watchStream ring f) s = .next t → sameBut [.ring, .fus, .signals, .events, .sent, .freeCtr] s t) ∧
  (∀ ring s t, exec (.tickSumSend ring) s = .next t → sameBut [.ring, .sent] s t) ∧
  (∀ ring endB f s t, exec (.tickSum ring endB f) s = .next t → sameBut [.ring, .prot, .can, .signals, .host, .events, .sent, .freeCtr] s t) ∧
  (∀ ring f s t, exec (.wrapNotice ring f) s = .next t → sameBut [.ring, .signals, .events, .sent, .freeCtr] s t) ∧
  (∀ ring endB s t, exec (.ringLockLoss ring endB) s = .next t → sameBut [.ring, .signals, .events, .sent, .freeCtr] s t) ∧
  (∀ ring reached s t, exec (.ringTriggerTimeout ring reached) s = .next t → sameBut [.ring, .signals, .events, .sent, .freeCtr] s t) ∧
  (∀ ring lRing s t, exec (.ringRestore ring lRing) s = .next t → sameBut [.ring, .signals, .events, .sent, .freeCtr] s t) ∧
  (∀ ring find s t, exec (.compatReenum ring find) s = .next t → sameBut [.ring, .signals, .events, .acting, .sent, .freeCtr] s t) ∧
  (∀ ring s t, exec (.balanceRefresh ring) s = .next t → sameBut [.ring, .sent] s t) ∧
  (∀ ring s t, exec (.bal12Refresh ring) s = .next t → sameBut [.ring, .sent] s t) ∧
  (∀ ring s t, exec (.faultLoopOpen ring) s = .next t → sameBut [.ring, .prot, .signals, .host, .events, .sent, .freeCtr] s t) ∧
  (∀ ring s t, exec (.faultLoopClose ring) s = .next t → sameBut [.ring, .prot, .signals, .events, .sent, .freeCtr] s t) ∧
  (∀ ring s t, exec (.openwireSchedule ring) s = .next t → sameBut [.ring, .sent] s t) ∧
  (∀ ring f s t, exec (.openwireRep ring f) s = .next t → sameBut [.ring, .fus, .signals, .events, .sent, .freeCtr] s t) ∧
  (∀ string ok s t, exec (.isoOkChange string ok) s = .next t → sameBut [.front, .signals, .events, .sent, .freeCtr] s t) ∧
  (∀ port offset s t, exec (.latchedLoRead port offset) s = .next t → sameBut [.signals, .host] s t) ∧
  (∀ h target channel span value s t, exec (.calPoint h target channel span value) s = .next t →
      sameBut [.front, .signals, .host, .sent, .freeCtr] s t) ∧
  (∀ target channel s t, exec (.calPointDone target channel) s = .next t → sameBut [.front, .signals, .host, .events, .sent, .freeCtr] s t) ∧
  (∀ h target channel s t, exec (.calSolve h target channel) s = .next t → sameBut [.front, .signals, .host, .events, .par, .sent, .freeCtr] s t) ∧
  (∀ evaluated s t, exec (.frameClose evaluated) s = .next t →
      sameBut [.ring, .fus, .est, .prot, .can, .signals, .host, .events, .sent, .freeCtr] s t) ∧
  (∀ string s t, exec (.currentVote string) s = .next t → sameBut [.fus, .signals, .events, .sent, .freeCtr] s t) ∧
  (∀ h kind string unit index s t, exec (.sourceClear h kind string unit index) s = .next t →
      sameBut [.fus, .hold, .signals, .host, .events, .sent, .freeCtr] s t)

/-- FRAMES of the estimation, balancing, thermal and control commands (Chapters 7 to 9):
each changes only the parts of the card that it lists; every other part (Block of Safety.lean) is as it was. For every state and
every operand. -/
def Obligations.EstimationAndControlFrames : Prop :=
  (∀ s t, exec .tickPropagation s = .next t → sameBut [.est, .signals, .events, .sent, .freeCtr] s t) ∧
  (∀ string s t, exec (.dischargeStop string) s = .next t → sameBut [.est] s t) ∧
  (∀ s t, exec .frameUpdate s = .next t → sameBut [.elec, .ring, .fus, .est, .therm, .prot, .can, .signals, .host, .events, .sent, .freeCtr] s t) ∧
  (∀ string s t, exec (.learningDurationExpiry string) s = .next t → sameBut [.est, .signals, .events, .sent, .freeCtr] s t) ∧
  (∀ string s t, exec (.referenceStarved string) s = .next t → sameBut [.est, .signals, .events, .sent, .freeCtr] s t) ∧
  (∀ s t, exec .stateRecordCapture s = .next t → sameBut [.est, .signals, .host, .events, .sent, .freeCtr] s t) ∧
  (∀ h addr len data s t, exec (.stateOffer h addr len data) s = .next t →
      sameBut [.elec, .ring, .est, .signals, .host, .events, .sent, .freeCtr] s t) ∧
  (∀ s t, exec .balanceReview s = .next t → sameBut [.ring, .est, .signals, .events, .sent, .freeCtr] s t) ∧
  (∀ slot s t, exec (.thermalInputTimeout slot) s = .next t → sameBut [.ctl, .signals, .events, .sent, .freeCtr] s t) ∧
  (∀ node s t, exec (.thermalNodeLost node) s = .next t → sameBut [.therm, .signals, .events, .sent, .freeCtr] s t) ∧
  (∀ reading s t, exec (.dieReading reading) s = .next t → sameBut [.therm, .signals, .events, .sent, .freeCtr] s t) ∧
  (∀ f s t, exec (.dieTemp f) s = .next t → sameBut [.therm, .pair] s t) ∧
  (∀ w s t, exec (.tempHostWrite w) s = .next t → sameBut [.therm] s t) ∧
  (∀ late torn s t, exec (.controlLatch late torn) s = .next t → sameBut [.ctl, .hold, .signals, .events, .sent, .freeCtr] s t) ∧
  (∀ slot s t, exec (.slotInputTimeout slot) s = .next t → sameBut [.ctl, .signals, .events, .sent, .freeCtr] s t) ∧
  (∀ hi w s t, exec (.ctlBankReqWrite hi w) s = .next t → sameBut [.ctl] s t) ∧
  (∀ w s t, exec (.latClr w) s = .next t → sameBut [.ctl] s t) ∧
  (∀ h mask bankB s t, exec (.ctlSwap h mask bankB) s = .next t → sameBut [.ctl, .signals, .host, .sent] s t) ∧
  (∀ h slot s t, exec (.ctlReadSlot h slot) s = .next t → sameBut [.signals, .host, .sent] s t)

/-- FRAMES of the point-hold commands (Chapter 10):
each changes only the parts of the card that it lists; every other part (Block of Safety.lean) is as it was. For every state and
every operand. -/
def Obligations.HoldAndRoleFrames : Prop :=
  (∀ s t, exec .phasorRecordForm s = .next t → sameBut [.hold, .sent, .freeCtr] s t) ∧
  (∀ port f s t, exec (.phasorRecord port f) s = .next t → sameBut [.grid, .hold, .sent] s t) ∧
  (∀ s t, exec .vote s = .next t → sameBut [.grid, .ctl, .hold, .signals, .events, .sent, .freeCtr] s t) ∧
  (∀ s t, exec .holdingPeriodBoundary s = .next t → sameBut [.hold, .signals, .events, .sent, .freeCtr] s t) ∧
  (∀ port f s t, exec (.headroomSum port f) s = .next t → sameBut [.grid, .hold, .sent] s t) ∧
  (∀ s t, exec .sumSendDeadline s = .next t → sameBut [.hold, .sent] s t) ∧
  (∀ s t, exec .roundClose s = .next t → sameBut [.grid, .hold, .signals, .events, .sent, .freeCtr] s t) ∧
  (∀ port f s t, exec (.fraction port f) s = .next t → sameBut [.grid, .ctl, .hold, .signals, .events, .sent, .freeCtr] s t) ∧
  (∀ s t, exec .fractionHoldExpiry s = .next t → sameBut [.hold, .signals, .events, .sent, .freeCtr] s t) ∧
  (∀ s t, exec .planClose s = .next t → sameBut [.hold] s t) ∧
  (∀ h p q cycle s t, exec (.holdSet h p q cycle) s = .next t → sameBut [.hold, .signals, .host, .sent] s t) ∧
  (∀ h target cycle s t, exec (.leadMove h target cycle) s = .next t → sameBut [.grid, .signals, .host, .sent] s t) ∧
  (∀ s t, exec .leadMoveExecute s = .next t → sameBut [.elec, .grid, .hold, .can, .signals, .events, .sent, .freeCtr] s t)

/-- FRAMES of the protection and outrider commands (Chapter 11):
each changes only the parts of the card that it lists; every other part (Block of Safety.lean) is as it was. For every state and
every operand. -/
def Obligations.ProtectionFrames : Prop :=
  (∀ string c s t, exec (.comparatorTrip string c) s = .next t → sameBut [.prot, .signals, .host, .events, .sent, .freeCtr] s t) ∧
  (∀ string c s t, exec (.comparatorRelease string c) s = .next t → sameBut [.prot] s t) ∧
  (∀ string s t, exec (.outriderTripReport string) s = .next t → sameBut [.prot, .signals, .events, .sent, .freeCtr] s t) ∧
  (∀ string s t, exec (.blindString string) s = .next t → sameBut [.prot, .can, .signals, .host, .events, .sent, .freeCtr] s t) ∧
  (∀ k w s t, exec (.thresholdWrite k w) s = .next t → sameBut [.outr, .signals, .events, .sent, .freeCtr] s t) ∧
  (∀ s t, exec .protectionBoundary s = .next t → sameBut [.prot, .outr, .acting, .par] s t) ∧
  (∀ string failed s t, exec (.comparatorProof string failed) s = .next t → sameBut [.prot, .signals, .host, .events, .par, .sent, .freeCtr] s t) ∧
  (∀ rd s t, exec (.coilTest rd) s = .next t → sameBut [.hold, .prot, .outr, .can, .signals, .host, .events, .sent, .freeCtr] s t) ∧
  (∀ string coil highSide s t, exec (.testOverdue string coil highSide) s = .next t →
      sameBut [.hold, .prot, .signals, .host, .events, .sent, .freeCtr] s t) ∧
  (∀ string coil rd s t, exec (.contactorDropout string coil rd) s = .next t →
      sameBut [.hold, .prot, .can, .signals, .host, .events, .sent, .freeCtr] s t) ∧
  (∀ string s t, exec (.comparatorTestDue string) s = .next t → sameBut [.signals, .events, .sent, .freeCtr] s t) ∧
  (∀ h string s t, exec (.stringOpen h string) s = .next t → sameBut [.hold, .prot, .signals, .host, .events, .sent, .freeCtr] s t) ∧
  (∀ string s t, exec (.openCurrentLow string) s = .next t →
      sameBut [.elec, .clk, .grid, .ring, .front, .fus, .est, .peerBuf, .therm, .ctl, .hold, .prot, .outr, .pair, .can,
        .signals, .host, .events, .records, .acting, .par, .upd, .stores, .sent, .freeCtr] s t) ∧
  (∀ string s t, exec (.weldCheck string) s = .next t → sameBut [.prot, .signals, .host, .events, .sent, .freeCtr] s t) ∧
  (∀ h string s t, exec (.stringClose h string) s = .next t → sameBut [.prot, .signals, .host, .sent, .freeCtr] s t) ∧
  (∀ string rd s t, exec (.kNegSettled string rd) s = .next t → sameBut [.hold, .prot, .can, .signals, .host, .events, .sent, .freeCtr] s t) ∧
  (∀ string s t, exec (.prechargeReached string) s = .next t → sameBut [.prot] s t) ∧
  (∀ string s t, exec (.prechargeFail string) s = .next t → sameBut [.prot, .signals, .host, .events, .sent, .freeCtr] s t) ∧
  (∀ string rd s t, exec (.kPosSettled string rd) s = .next t → sameBut [.hold, .prot, .can, .signals, .host, .events, .sent, .freeCtr] s t) ∧
  (∀ h string proof s t, exec (.protReset h string proof) s = .next t → sameBut [.prot, .signals, .host, .events, .sent, .freeCtr] s t) ∧
  (∀ mv s t, exec (.coilSupply mv) s = .next t → sameBut [.outr, .signals, .events, .sent, .freeCtr] s t) ∧
  (∀ answer elapsedUs s t, exec (.heartbeatAnswer answer elapsedUs) s = .next t →
      sameBut [.prot, .outr, .pair, .signals, .events, .sent, .freeCtr] s t) ∧
  (∀ s t, exec .heartbeatLate s = .next t → sameBut [.prot, .outr, .pair, .signals, .events, .sent, .freeCtr] s t) ∧
  (∀ s t, exec .ownershipLineFree s = .next t → sameBut [.prot, .outr, .pair, .signals, .events, .sent, .freeCtr] s t) ∧
  (∀ s t, exec .ownerQualified s = .next t → sameBut [.elec, .prot, .outr, .pair, .can, .signals, .events, .sent, .freeCtr] s t) ∧
  (∀ s t, exec .releaseOverlapEnd s = .next t → sameBut [.prot, .outr] s t) ∧
  (∀ s t, exec .releaseRetake s = .next t → sameBut [.prot, .outr, .pair, .signals, .host, .events, .sent, .freeCtr] s t) ∧
  (∀ s t, exec .holdExpiry s = .next t → sameBut [.prot, .outr, .pair, .signals, .host, .events, .sent, .freeCtr] s t) ∧
  (∀ s t, exec .holdAck s = .next t → sameBut [.prot, .outr, .pair, .signals, .events, .sent, .freeCtr] s t) ∧
  (∀ string s t, exec (.holdDrop string) s = .next t → sameBut [.prot] s t)

/-- FRAMES of the pair commands (Chapter 12):
each changes only the parts of the card that it lists; every other part (Block of Safety.lean) is as it was. For every state and
every operand. -/
def Obligations.PairFrames : Prop :=
  (∀ s t, exec .takeover s = .next t →
      sameBut [.elec, .grid, .ring, .fus, .est, .ctl, .hold, .prot, .outr, .pair, .can, .signals, .events, .sent,
        .freeCtr] s t) ∧
  (∀ h s t, exec (.handover h) s = .next t → sameBut [.pair, .signals, .host, .events, .sent, .freeCtr] s t) ∧
  (∀ s t, exec .orderlyRelease s = .next t →
      sameBut [.elec, .clk, .grid, .ring, .front, .fus, .est, .peerBuf, .therm, .ctl, .hold, .prot, .outr, .pair, .can,
        .signals, .host, .events, .records, .acting, .par, .upd, .stores, .sent, .freeCtr] s t) ∧
  (∀ finding string s t, exec (.selfRelease finding string) s = .next t →
      sameBut [.elec, .grid, .ring, .fus, .est, .peerBuf, .ctl, .hold, .prot, .outr, .pair, .can, .signals, .host, .events,
        .sent, .freeCtr] s t) ∧
  (∀ s t, exec .ejectorOpen s = .next t → sameBut [.pair, .signals, .events, .sent, .freeCtr] s t) ∧
  (∀ present s t, exec (.partnerPresence present) s = .next t → sameBut [.pair, .signals, .events, .sent, .freeCtr] s t) ∧
  (∀ h s t, exec (.isolate h) s = .next t →
      sameBut [.elec, .grid, .ring, .fus, .est, .peerBuf, .ctl, .hold, .prot, .outr, .pair, .can, .signals, .host, .events,
        .sent, .freeCtr] s t) ∧
  (∀ h s t, exec (.rejoin h) s = .next t → sameBut [.elec, .prot, .outr, .pair, .signals, .host, .events, .sent, .freeCtr] s t) ∧
  (∀ f s t, exec (.peerStatus f) s = .next t →
      sameBut [.elec, .grid, .ring, .fus, .est, .peerBuf, .ctl, .hold, .prot, .outr, .pair, .can, .signals, .host, .events,
        .sent, .freeCtr] s t) ∧
  (∀ s t, exec .peerStatusSend s = .next t → sameBut [.sent] s t) ∧
  (∀ s t, exec .peerLinkDown s = .next t → sameBut [.prot, .pair, .signals, .events, .sent, .freeCtr] s t) ∧
  (∀ s t, exec .pairParamMismatch s = .next t → sameBut [.pair, .signals, .events, .sent, .freeCtr] s t) ∧
  (∀ f s t, exec (.stateRec f) s = .next t → sameBut [.est, .peerBuf, .pair, .events] s t) ∧
  (∀ f s t, exec (.unitTable f) s = .next t → sameBut [.ring, .pair] s t) ∧
  (∀ f s t, exec (.hopComp f) s = .next t → sameBut [.grid, .pair] s t) ∧
  (∀ f s t, exec (.holdState f) s = .next t → sameBut [.hold, .pair] s t) ∧
  (∀ f s t, exec (.release f) s = .next t → sameBut [.pair] s t) ∧
  (∀ f inWaymark s t, exec (.peerEchoReq f inWaymark) s = .next t → sameBut [.pair, .sent] s t) ∧
  (∀ f rtt s t, exec (.peerEchoRep f rtt) s = .next t → sameBut [.grid, .pair, .sent] s t)

/-- FRAMES of the CAN commands (Chapter 13):
each changes only the parts of the card that it lists; every other part (Block of Safety.lean) is as it was. For every state and
every operand. -/
def Obligations.CanFrames : Prop :=
  (∀ bus f s t, exec (.canFrame bus f) s = .next t → sameBut [.fus, .therm, .can, .signals, .host, .events, .sent, .freeCtr] s t) ∧
  (∀ bus s t, exec (.rateDwellExpiry bus) s = .next t → sameBut [.can] s t) ∧
  (∀ bus s t, exec (.rateSilentExpiry bus) s = .next t → sameBut [.can, .signals, .events, .sent, .freeCtr] s t) ∧
  (∀ bus s t, exec (.basicCycleStart bus) s = .next t → sameBut [.can, .signals, .events, .acting, .sent, .freeCtr] s t) ∧
  (∀ bus window leftNs s t, exec (.canWindowStart bus window leftNs) s = .next t → sameBut [.therm, .can, .signals, .events, .sent, .freeCtr] s t) ∧
  (∀ bus result s t, exec (.canTxDone bus result) s = .next t → sameBut [.therm, .can, .signals, .host, .events, .sent, .freeCtr] s t) ∧
  (∀ bus s t, exec (.canBusOff bus) s = .next t → sameBut [.can, .signals, .host, .events, .sent, .freeCtr] s t) ∧
  (∀ bus s t, exec (.busOffRecovery bus) s = .next t → sameBut [.therm, .can, .signals, .events, .sent, .freeCtr] s t) ∧
  (∀ h bus format length buffer id data s t, exec (.canPost h bus format length buffer id data) s = .next t →
      sameBut [.therm, .can, .signals, .host, .sent, .freeCtr] s t) ∧
  (∀ h handle s t, exec (.canCancel h handle) s = .next t → sameBut [.can, .signals, .host, .sent] s t)

/-- FRAMES of the host-port and mailbox commands (Chapter 14):
each changes only the parts of the card that it lists; every other part (Block of Safety.lean) is as it was. For every state and
every operand. -/
def Obligations.PortFrames : Prop :=
  (∀ port cause s t, exec (.perst port cause) s = .next t → sameBut [.est, .signals, .host, .events, .par, .upd, .sent, .freeCtr] s t) ∧
  (∀ port cause s t, exec (.hostLinkDown port cause) s = .next t → sameBut [.est, .signals, .host, .events, .par, .upd, .sent, .freeCtr] s t) ∧
  (∀ port speed wide s t, exec (.hostLinkUp port speed wide) s = .next t → sameBut [.signals, .host, .events, .sent, .freeCtr] s t) ∧
  (∀ port ring w entries s t, exec (.mbxDoorbell port ring w entries) s = .next t → sameBut [.signals, .host, .sent] s t) ∧
  (∀ h opcode s t, exec (.commandTimeout h opcode) s = .next t → sameBut [.signals, .host, .events, .sent, .freeCtr] s t) ∧
  (∀ id s t, exec (.longDone id) s = .next t → sameBut [.signals, .host, .events, .sent, .freeCtr] s t) ∧
  (∀ id s t, exec (.longResultExpiry id) s = .next t → sameBut [.host] s t) ∧
  (∀ h s t, exec (.nop h) s = .next t → sameBut [.signals, .host, .sent] s t) ∧
  (∀ h s t, exec (.identify h) s = .next t → sameBut [.signals, .host, .sent] s t) ∧
  (∀ h id s t, exec (.longQuery h id) s = .next t → sameBut [.signals, .host, .sent] s t) ∧
  (∀ h type addr entries descs s t, exec (.streamOpen h type addr entries descs) s = .next t → sameBut [.signals, .host, .sent] s t) ∧
  (∀ h type s t, exec (.streamClose h type) s = .next t → sameBut [.est, .signals, .host, .sent] s t) ∧
  (∀ port stream w s t, exec (.strmTailWrite port stream w) s = .next t → sameBut [.signals, .host, .sent] s t) ∧
  (∀ port stream d s t, exec (.descriptorFetchDone port stream d) s = .next t → sameBut [.signals, .host, .events, .sent, .freeCtr] s t) ∧
  (∀ port stream addr s t, exec (.descriptorFetchFail port stream addr) s = .next t → sameBut [.signals, .host, .events, .sent, .freeCtr] s t) ∧
  (∀ port stream s t, exec (.descStarved port stream) s = .next t → sameBut [.signals, .host, .events, .sent, .freeCtr] s t) ∧
  (∀ port stream s t, exec (.bufferWriteDone port stream) s = .next t → sameBut [.est, .signals, .host, .sent] s t) ∧
  (∀ port s t, exec (.canrxFlush port) s = .next t → sameBut [.signals, .host, .sent] s t) ∧
  (∀ h req s t, exec (.capture h req) s = .next t → sameBut [.signals, .host, .events, .sent, .freeCtr] s t) ∧
  (∀ port s t, exec (.captureTrigger port) s = .next t → sameBut [.signals, .host, .events, .sent, .freeCtr] s t) ∧
  (∀ port stream delayMs s t, exec (.hostReadDeferred port stream delayMs) s = .next t → sameBut [.signals, .events, .sent, .freeCtr] s t) ∧
  (∀ port offset w s t, exec (.registerWrite port offset w) s = .next t →
      sameBut [.clk, .ring, .front, .fus, .est, .therm, .ctl, .hold, .outr, .pair, .can, .signals, .host, .events, .par, .upd,
        .sent] s t) ∧
  (∀ port group w s t, exec (.evMaskWrite port group w) s = .next t → sameBut [.signals, .host, .sent] s t)

/-- FRAMES of the ledger, parameter and update (and the seven last rows of the table) commands (Chapters 2, 3, 8, 12 and 14 to 17):
each changes only the parts of the card that it lists; every other part (Block of Safety.lean) is as it was. For every state and
every operand. -/
def Obligations.LedgerParameterAndUpdateFrames : Prop :=
  (∀ first second s t, exec (.ledgerRecordWrite first second) s = .next t → sameBut [.signals, .events, .records, .sent, .freeCtr] s t) ∧
  (∀ h evt s t, exec (.evLast h evt) s = .next t → sameBut [.signals, .host, .sent, .freeCtr] s t) ∧
  (∀ h first count s t, exec (.ledgerRead h first count) s = .next t → sameBut [.signals, .host, .sent] s t) ∧
  (∀ h first last s t, exec (.ledgerExport h first last) s = .next t → sameBut [.signals, .host, .events, .sent, .freeCtr] s t) ∧
  (∀ h ms s t, exec (.ledgerFreeze h ms) s = .next t → sameBut [.signals, .host, .events, .records, .sent, .freeCtr] s t) ∧
  (∀ h s t, exec (.ledgerUnfreeze h) s = .next t → sameBut [.signals, .host, .events, .sent, .freeCtr] s t) ∧
  (∀ s t, exec .freezeExpiry s = .next t → sameBut [.signals, .events, .sent, .freeCtr] s t) ∧
  (∀ h upto s t, exec (.ledgerClear h upto) s = .next t → sameBut [.signals, .host, .events, .sent, .freeCtr] s t) ∧
  (∀ h s t, exec (.ledgerInfo h) s = .next t → sameBut [.signals, .host, .sent] s t) ∧
  (∀ h data s t, exec (.evTest h data) s = .next t → sameBut [.signals, .host, .events, .sent, .freeCtr] s t) ∧
  (∀ h group first count source s t, exec (.parRead h group first count source) s = .next t → sameBut [.signals, .host, .sent] s t) ∧
  (∀ h data s t, exec (.parWrite h data) s = .next t → sameBut [.signals, .host, .par, .sent] s t) ∧
  (∀ h s t, exec (.commit h) s = .next t → sameBut [.ring, .front, .fus, .est, .signals, .host, .events, .acting, .par, .sent, .freeCtr] s t) ∧
  (∀ h s t, exec (.parDiscard h) s = .next t → sameBut [.signals, .host, .par, .sent] s t) ∧
  (∀ verified s t, exec (.persistenceDone verified) s = .next t → sameBut [.par] s t) ∧
  (∀ s t, exec .safetyScan s = .next t →
      sameBut [.elec, .grid, .ring, .fus, .est, .peerBuf, .ctl, .hold, .prot, .outr, .pair, .can, .signals, .host, .events,
        .acting, .par, .sent, .freeCtr] s t) ∧
  (∀ h imgType brk imageLen version manifestCrc s t, exec (.updOpen h imgType brk imageLen version manifestCrc) s = .next t →
      sameBut [.signals, .host, .events, .acting, .upd, .stores, .sent, .freeCtr] s t) ∧
  (∀ h offset addr crc data s t, exec (.updBlock h offset addr crc data) s = .next t →
      sameBut [.signals, .host, .events, .upd, .stores, .sent, .freeCtr] s t) ∧
  (∀ h s t, exec (.updVerify h) s = .next t → sameBut [.fus, .signals, .host, .events, .upd, .sent, .freeCtr] s t) ∧
  (∀ h cycle s t, exec (.updSchedule h cycle) s = .next t → sameBut [.signals, .host, .events, .upd, .sent, .freeCtr] s t) ∧
  (∀ h discard s t, exec (.updCancel h discard) s = .next t → sameBut [.signals, .host, .events, .upd, .sent, .freeCtr] s t) ∧
  (∀ h version s t, exec (.updConfirm h version) s = .next t → sameBut [.signals, .host, .events, .upd, .sent, .freeCtr] s t) ∧
  (∀ h s t, exec (.updClose h) s = .next t → sameBut [.signals, .host, .events, .upd, .sent, .freeCtr] s t) ∧
  (∀ h s t, exec (.updInfo h) s = .next t → sameBut [.signals, .host, .sent] s t) ∧
  (∀ s t, exec .activation s = .next t →
      sameBut [.elec, .clk, .grid, .ring, .front, .fus, .est, .peerBuf, .therm, .ctl, .hold, .prot, .outr, .pair, .can,
        .signals, .host, .events, .records, .acting, .par, .upd, .stores, .sent, .freeCtr] s t) ∧
  (∀ s t, exec .confirmWindowExpiry s = .next t →
      sameBut [.elec, .clk, .grid, .ring, .front, .fus, .est, .peerBuf, .therm, .ctl, .hold, .prot, .outr, .pair, .can,
        .signals, .host, .events, .records, .acting, .par, .upd, .stores, .sent, .freeCtr] s t) ∧
  (∀ h mask f0 f1 s t, exec (.caravanReenum h mask f0 f1) s = .next t → sameBut [.ring, .signals, .host, .events, .acting, .sent, .freeCtr] s t) ∧
  (∀ ring f s t, exec (.compatibilityReply ring f) s = .next t → sameBut [.ring, .fus, .signals, .host, .events, .sent, .freeCtr] s t) ∧
  (∀ ready s t, exec (.partnerReadyChange ready) s = .next t → sameBut [.prot, .outr, .pair, .signals, .events, .sent, .freeCtr] s t) ∧
  (∀ line s t, exec (.ownershipLineAsserted line) s = .next t → sameBut [.elec, .outr, .pair, .signals, .host, .events, .sent, .freeCtr] s t) ∧
  (∀ s t, exec .dieTempSend s = .next t → sameBut [.sent] s t) ∧
  (∀ port status uncorrectable s t, exec (.pcieError port status uncorrectable) s = .next t → sameBut [.signals, .events, .sent, .freeCtr] s t) ∧
  (∀ s t, exec .activationOpenTimeout s = .next t →
      sameBut [.elec, .clk, .grid, .ring, .front, .fus, .est, .peerBuf, .therm, .ctl, .hold, .prot, .outr, .pair, .can,
        .signals, .host, .events, .records, .acting, .par, .upd, .stores, .freeCtr] s t) ∧
  (∀ s t, exec .chargePumpStep s = .next t → sameBut [.clk] s t)

/-! ### What reaches no further than its own string, ring, bus, port or block of bytes -/

/-- R306, R37: a command about one string leaves everything the card holds of the other string's protection as it was, in every
state and with every operand. -/
def Obligations.StringCommandsLeaveTheOtherString : Prop :=
  (∀ (x y : Ix) c s t, exec (.comparatorTrip x c) s = .next t → y ≠ x → t.prot.get y = s.prot.get y) ∧
  (∀ (x y : Ix) c s t, exec (.comparatorRelease x c) s = .next t → y ≠ x → t.prot.get y = s.prot.get y) ∧
  (∀ (x y : Ix) s t, exec (.faultLoopOpen x) s = .next t → y ≠ x → t.prot.get y = s.prot.get y) ∧
  (∀ (x y : Ix) s t, exec (.faultLoopClose x) s = .next t → y ≠ x → t.prot.get y = s.prot.get y) ∧
  (∀ (x y : Ix) e f s t, exec (.tickSum x e f) s = .next t → y ≠ x → t.prot.get y = s.prot.get y) ∧
  (∀ (x y : Ix) s t, exec (.outriderTripReport x) s = .next t → y ≠ x → t.prot.get y = s.prot.get y) ∧
  (∀ (x y : Ix) s t, exec (.blindString x) s = .next t → y ≠ x → t.prot.get y = s.prot.get y) ∧
  (∀ (x y : Ix) f s t, exec (.comparatorProof x f) s = .next t → y ≠ x → t.prot.get y = s.prot.get y) ∧
  (∀ (x y : Ix) c h s t, exec (.testOverdue x c h) s = .next t → y ≠ x → t.prot.get y = s.prot.get y) ∧
  (∀ (x y : Ix) c r s t, exec (.contactorDropout x c r) s = .next t → y ≠ x → t.prot.get y = s.prot.get y) ∧
  (∀ (x y : Ix) s t, exec (.weldCheck x) s = .next t → y ≠ x → t.prot.get y = s.prot.get y) ∧
  (∀ (x y : Ix) r s t, exec (.kNegSettled x r) s = .next t → y ≠ x → t.prot.get y = s.prot.get y) ∧
  (∀ (x y : Ix) s t, exec (.prechargeReached x) s = .next t → y ≠ x → t.prot.get y = s.prot.get y) ∧
  (∀ (x y : Ix) s t, exec (.prechargeFail x) s = .next t → y ≠ x → t.prot.get y = s.prot.get y) ∧
  (∀ (x y : Ix) r s t, exec (.kPosSettled x r) s = .next t → y ≠ x → t.prot.get y = s.prot.get y) ∧
  (∀ (x y : Ix) s t, exec (.holdDrop x) s = .next t → y ≠ x → t.prot.get y = s.prot.get y) ∧
  (∀ h (n : Nat) (y : Ix) s t, exec (.stringOpen h n) s = .next t → y ≠ Ix.ofNum n → t.prot.get y = s.prot.get y) ∧
  (∀ h (n : Nat) (y : Ix) s t, exec (.stringClose h n) s = .next t → y ≠ Ix.ofNum n → t.prot.get y = s.prot.get y) ∧
  (∀ h (n : Nat) p (y : Ix) s t, exec (.protReset h n p) s = .next t → y ≠ Ix.ofNum n → t.prot.get y = s.prot.get y)

/-- R89, R118: a command about one caravan ring leaves everything the card holds of the other ring as it was, in every state and with
every operand. -/
def Obligations.RingCommandsLeaveTheOtherRing : Prop :=
  (∀ (x y : Ix) w s t, exec (.triggerSend x w) s = .next t → y ≠ x → t.ring.get y = s.ring.get y) ∧
  (∀ (x y : Ix) s t, exec (.snapSend x) s = .next t → y ≠ x → t.ring.get y = s.ring.get y) ∧
  (∀ (x y : Ix) f s t, exec (.featureRec x f) s = .next t → y ≠ x → t.ring.get y = s.ring.get y) ∧
  (∀ (x y : Ix) s t, exec (.deliveryDeadline x) s = .next t → y ≠ x → t.ring.get y = s.ring.get y) ∧
  (∀ (x y : Ix) n s t, exec (.transactionTimeout x n) s = .next t → y ≠ x → t.ring.get y = s.ring.get y) ∧
  (∀ (x y : Ix) s t, exec (.lostUnitPoll x) s = .next t → y ≠ x → t.ring.get y = s.ring.get y) ∧
  (∀ (x y : Ix) f s t, exec (.statusRep x f) s = .next t → y ≠ x → t.ring.get y = s.ring.get y) ∧
  (∀ (x y : Ix) s t, exec (.statusPoll x) s = .next t → y ≠ x → t.ring.get y = s.ring.get y) ∧
  (∀ (x y : Ix) f s t, exec (.ack x f) s = .next t → y ≠ x → t.ring.get y = s.ring.get y) ∧
  (∀ (x y : Ix) f s t, exec (.nak x f) s = .next t → y ≠ x → t.ring.get y = s.ring.get y) ∧
  (∀ (x y : Ix) f s t, exec (.watchStream x f) s = .next t → y ≠ x → t.ring.get y = s.ring.get y) ∧
  (∀ (x y : Ix) s t, exec (.tickSumSend x) s = .next t → y ≠ x → t.ring.get y = s.ring.get y) ∧
  (∀ (x y : Ix) e f s t, exec (.tickSum x e f) s = .next t → y ≠ x → t.ring.get y = s.ring.get y) ∧
  (∀ (x y : Ix) f s t, exec (.wrapNotice x f) s = .next t → y ≠ x → t.ring.get y = s.ring.get y) ∧
  (∀ (x y : Ix) e s t, exec (.ringLockLoss x e) s = .next t → y ≠ x → t.ring.get y = s.ring.get y) ∧
  (∀ (x y : Ix) n s t, exec (.ringTriggerTimeout x n) s = .next t → y ≠ x → t.ring.get y = s.ring.get y) ∧
  (∀ (x y : Ix) n s t, exec (.ringRestore x n) s = .next t → y ≠ x → t.ring.get y = s.ring.get y) ∧
  (∀ (x y : Ix) s t, exec (.balanceRefresh x) s = .next t → y ≠ x → t.ring.get y = s.ring.get y) ∧
  (∀ (x y : Ix) s t, exec (.bal12Refresh x) s = .next t → y ≠ x → t.ring.get y = s.ring.get y) ∧
  (∀ (x y : Ix) s t, exec (.faultLoopOpen x) s = .next t → y ≠ x → t.ring.get y = s.ring.get y) ∧
  (∀ (x y : Ix) s t, exec (.faultLoopClose x) s = .next t → y ≠ x → t.ring.get y = s.ring.get y) ∧
  (∀ (x y : Ix) s t, exec (.openwireSchedule x) s = .next t → y ≠ x → t.ring.get y = s.ring.get y) ∧
  (∀ (x y : Ix) f s t, exec (.openwireRep x f) s = .next t → y ≠ x → t.ring.get y = s.ring.get y) ∧
  (∀ (x y : Ix) f s t, exec (.compatibilityReply x f) s = .next t → y ≠ x → t.ring.get y = s.ring.get y)

/-- R363, R366, R382: a command about one CAN bus leaves the other bus as it was; R397: a command that comes through one host port
leaves the other port's copy of registers, mailboxes and streams as it was, but for the signals of events (R416). -/
def Obligations.BusAndPortCommandsLeaveTheOther : Prop :=
  (∀ (x y : Ix) s t, exec (.rateDwellExpiry x) s = .next t → y ≠ x → t.can.bus.get y = s.can.bus.get y) ∧
  (∀ (x y : Ix) s t, exec (.rateSilentExpiry x) s = .next t → y ≠ x → t.can.bus.get y = s.can.bus.get y) ∧
  (∀ (x y : Ix) s t, exec (.basicCycleStart x) s = .next t → y ≠ x → t.can.bus.get y = s.can.bus.get y) ∧
  (∀ (x y : Ix) w l s t, exec (.canWindowStart x w l) s = .next t → y ≠ x → t.can.bus.get y = s.can.bus.get y) ∧
  (∀ (x y : Ix) s t, exec (.canBusOff x) s = .next t → y ≠ x → t.can.bus.get y = s.can.bus.get y) ∧
  (∀ (x y : Ix) s t, exec (.busOffRecovery x) s = .next t → y ≠ x → t.can.bus.get y = s.can.bus.get y) ∧
  (∀ (p : Ix) off s t, exec (.latchedLoRead p off) s = .next t → t.host.port.get p.other = s.host.port.get p.other) ∧
  (∀ (p : Ix) off w s t, exec (.registerWrite p off w) s = .next t → t.host.port.get p.other = s.host.port.get p.other) ∧
  (∀ (p : Ix) g w s t, exec (.evMaskWrite p g w) s = .next t → t.host.port.get p.other = s.host.port.get p.other) ∧
  (∀ (p : Ix) k w s t, exec (.strmTailWrite p k w) s = .next t → t.host.port.get p.other = s.host.port.get p.other) ∧
  (∀ (p : Ix) r w l s t, exec (.mbxDoorbell p r w l) s = .next t → t.host.port.get p.other = s.host.port.get p.other) ∧
  (∀ (h : Hdr) s t, exec (.nop h) s = .next t → t.host.port.get h.port.other = s.host.port.get h.port.other) ∧
  (∀ (h : Hdr) s t, exec (.identify h) s = .next t → t.host.port.get h.port.other = s.host.port.get h.port.other) ∧
  (∀ (h : Hdr) i s t, exec (.longQuery h i) s = .next t → t.host.port.get h.port.other = s.host.port.get h.port.other) ∧
  (∀ (h : Hdr) e s t, exec (.evLast h e) s = .next t → t.host.port.get h.port.other = s.host.port.get h.port.other) ∧
  (∀ (h : Hdr) a n s t, exec (.ledgerRead h a n) s = .next t → t.host.port.get h.port.other = s.host.port.get h.port.other) ∧
  (∀ (h : Hdr) s t, exec (.ledgerInfo h) s = .next t → t.host.port.get h.port.other = s.host.port.get h.port.other) ∧
  (∀ (h : Hdr) g a n k s t, exec (.parRead h g a n k) s = .next t → t.host.port.get h.port.other = s.host.port.get h.port.other) ∧
  (∀ (h : Hdr) d s t, exec (.parWrite h d) s = .next t → t.host.port.get h.port.other = s.host.port.get h.port.other) ∧
  (∀ (h : Hdr) s t, exec (.parDiscard h) s = .next t → t.host.port.get h.port.other = s.host.port.get h.port.other) ∧
  (∀ (h : Hdr) s t, exec (.updInfo h) s = .next t → t.host.port.get h.port.other = s.host.port.get h.port.other) ∧
  (∀ (h : Hdr) b f l k i d s t, exec (.canPost h b f l k i d) s = .next t → t.host.port.get h.port.other = s.host.port.get h.port.other) ∧
  (∀ (h : Hdr) i s t, exec (.canCancel h i) s = .next t → t.host.port.get h.port.other = s.host.port.get h.port.other) ∧
  (∀ (h : Hdr) p q c s t, exec (.holdSet h p q c) s = .next t → t.host.port.get h.port.other = s.host.port.get h.port.other) ∧
  (∀ (h : Hdr) m b s t, exec (.ctlSwap h m b) s = .next t → t.host.port.get h.port.other = s.host.port.get h.port.other) ∧
  (∀ (h : Hdr) n s t, exec (.ctlReadSlot h n) s = .next t → t.host.port.get h.port.other = s.host.port.get h.port.other)

/-- R348, R458: the two commands that write bytes into a buffer or into flash change only the bytes they write. Where STATE_REC writes is
what its frame names; where UPD_BLOCK writes is the target of the session at the block's offset; every other byte of each store
reads as before. -/
def Obligations.StoresChangeOnlyWhereWritten : Prop :=
  (∀ (f : PeerFrame) (s t : State), memsOk s = true → exec (.stateRec f) s = .next t → ∀ (k : Ix) (a : Nat),
    (k = Ix.ofNum (byteAt f.payload 0) → a < beAt f.payload 1 4 ∨ beAt f.payload 1 4 + (f.payload.drop 5).length ≤ a) →
    Mem.read 0 (t.est.peerBuf.get k) a = Mem.read 0 (s.est.peerBuf.get k) a) ∧
  (∀ (h : Hdr) (off ad crc : Nat) (d : List Byte) (s t : State), memsOk s = true → exec (.updBlock h off ad crc d) s = .next t →
    (∀ (k : Ix) (a : Nat), ((curJournal s).imgType = 1 → k = (curJournal s).slot → a < off ∨ off + d.length ≤ a) →
      Mem.read 0xFF (t.upd.image.get k) a = Mem.read 0xFF (s.upd.image.get k) a) ∧
    (∀ a : Nat, ((curJournal s).imgType ≠ 1 → a < off ∨ off + d.length ≤ a) →
      Mem.read 0xFF t.upd.modelArea a = Mem.read 0xFF s.upd.modelArea a))

/-! ### The block as a whole -/

/-- The block takes its commands first in, first out: with a command at the front of the queue a step is exec of that command on the state
with the queue's rest; with no command waiting a step leaves the state as it is (the model's choice, log 1). -/
def Obligations.StepRunsTheFrontCommand : Prop :=
  (∀ (c : Instr) (rest : List Instr) (s : State), s.pending = c :: rest → step s = exec c { s with pending := rest }) ∧
  (∀ (c : Instr) (s : State), step { s with pending := c :: s.pending } = exec c s) ∧
  (∀ s : State, s.pending = [] → step s = .next s)

/-- No command changes the queue of commands that wait or what the factory set in the IDENT block (Table 19-3). -/
def Obligations.QueueAndIdentityKept : Prop :=
  ∀ (c : Instr) (s t : State), exec c s = .next t → t.pending = s.pending ∧ t.ident = s.ident

/-- R420, R443, R449, R450, R477, R479 and R36: withdrawal, the loss of the supply, power-good and the restarts of the watchdog and of a
returning reference leave what MRAM and NOR flash hold as it was, and so does clockless hold.
What a restart keeps beyond the words of these rules is the model's reading (log 40). -/
def Obligations.NonVolatileKept : Prop :=
  (∀ a b c s t, exec (.powerGood a b c) s = .next t → nonVolatileSame s t) ∧
  (∀ s t, exec .withdrawal s = .next t → nonVolatileSame s t) ∧
  (∀ s t, exec .supplyLoss s = .next t → nonVolatileSame s t) ∧
  (∀ s t, exec .watchdogExpiry s = .next t → nonVolatileSame s t) ∧
  (∀ s t, exec .clocklessHold s = .next t → nonVolatileSame s t) ∧
  (∀ r s t, exec (.referenceReturnRestart r) s = .next t → nonVolatileSame s t) ∧
  (∀ (c : Instr) (s t : State), exec c s = .next t → s.ev.next ≤ t.ev.next ∨ t.elec.step ≤ 3 ∨ c = .ledgerScan)

/-- Every byte store of the card stays in canonical form: addresses rise strictly and no listed byte equals what an unlisted address reads
as. An invariant of every step, from every state that meets it.
The canonical form is the model's own (log 53). -/
def Obligations.StoresStayCanonical : Prop := ∀ s t : State, memsOk s = true → step s = .next t → memsOk t = true

/-- What reset leaves: the values that the Reset columns of Tables 2-5, 2-6, 2-7, 13-11, 15-8, 11-9, 10-12 and 19-3 state; and the model's
invariants hold there. That the card is unpowered before its first power-good is the model's reading of R478.
(log 14.) -/
def Obligations.ResetState : Prop :=
  memsOk State.reset = true ∧ onlyActiveSends State.reset = true ∧ State.reset.pending = [] ∧ State.reset.sent = [] ∧
    State.reset.elec.powered = false ∧ State.reset.clk.pllEn = true ∧ State.reset.clk.bypass = true ∧ State.reset.clk.lock = false ∧
    State.reset.clk.div = ⟨4, 6, 12, 12, 240⟩ ∧ State.reset.clk.lockLossCnt = 0 ∧ State.reset.pair.role = .standby ∧
    State.reset.outr.owner = false ∧ State.reset.hold.mode = .off ∧ State.reset.grid.sync = false ∧
    State.reset.can.bus.zero.st = .listenOnly ∧ State.reset.can.bus.one.st = .listenOnly ∧
    State.reset.host.port.zero.mask = List.replicate 8 0xFFFFFFFF ∧ State.reset.host.port.zero.pend = List.replicate 8 0 ∧
    State.reset.host.port.one.mask = List.replicate 8 0xFFFFFFFF ∧ State.reset.host.port.one.pend = List.replicate 8 0 ∧
    State.reset.prot.zero.st = .opened ∧ State.reset.prot.one.st = .opened ∧ State.reset.prot.zero.outrTrip = false ∧
    State.reset.prot.one.outrTrip = false ∧ noSwitchConducts State.reset .zero = true ∧ noSwitchConducts State.reset .one = true

/-- R29, R44 and Table 1-5: an active module runs its firmware, and a module that is not active has both CAN buses listen-only, so that only
an active module can send on them. An invariant of every step, from every state that meets it.
The invariant speaks of the bus states; what CAN sends in each is in the frames above. -/
def Obligations.OnlyAnActiveModuleSends : Prop :=
  ∀ s t : State, onlyActiveSends s = true → step s = .next t → onlyActiveSends t = true

/-- R33 and Table 1-4: Role changes only along the transitions of the table, each with the commands that make it. A restart or a loss of power
(power-up step 3 or less) returns Role to its reset value, from which power-up step 6 sets it.
Which command makes a transition at once is the model's reading (logs 72, 73 and 109). -/
def Obligations.RoleChangesOnlyAlongItsTransitions : Prop :=
  ∀ (c : Instr) (s t : State), exec c s = .next t →
    t.pair.role = s.pair.role ∨ t.elec.step ≤ 3 ∨
    (s.pair.role = .standby ∧ t.pair.role = .active ∧
      (c = .ownerQualified ∧ s.pair.arbitrating = true ∧ t.outr.owner = true ∨
        c = .ownershipArbitration ∧ s.elec.step = 6 ∧ s.outr.owner = true ∨ c = .takeover ∧ s.outr.owner = true)) ∨
    (s.pair.role = .active ∧ t.pair.role = .standby ∧
      (c = .orderlyRelease ∧ s.outr.owner = true ∨ c = .dualActiveResolved ∧ s.outr.owner = false)) ∨
    (s.pair.role ≠ .isolated ∧ t.pair.role = .isolated ∧
      ((∃ b, c = .firmwareBoot b) ∨ c = .ownershipArbitration ∧ s.elec.step = 6 ∧ s.pair.variantMatch = false ∨
        (∃ h, c = .isolate h) ∨ (∃ f, c = .peerStatus f) ∨ (∃ x, c = .selfRelease .selfTest x) ∨ c = .safetyScan)) ∨
    (s.pair.role = .isolated ∧ t.pair.role = .standby ∧ (∃ h, c = .rejoin h) ∧ s.elec.selfTestOk = true)

/-- R44: a CAN bus enters the scheduled state only on an active module with SYNC = 1; on any transition to standby or isolated both buses are
listen-only. For every command, in every state that meets the invariant onlyActiveSends. -/
def Obligations.ScheduledOnlyOnAnActiveModule : Prop :=
  (∀ (c : Instr) (s t : State) (b : Ix), exec c s = .next t → (s.can.bus.get b).st ≠ .scheduled → (t.can.bus.get b).st = .scheduled →
    isActive s = true ∧ isActive t = true ∧ s.grid.sync = true ∧ t.grid.sync = true) ∧
  (∀ (c : Instr) (s t : State), onlyActiveSends s = true → exec c s = .next t → t.pair.role ≠ s.pair.role → t.pair.role ≠ .active →
    busesQuiet t = true)

/-- R306: a trip of string n de-energises all three coils of string n and leaves the other string as it was: the trips of the outrider, by a
comparator or by the fault loop, and every trip of the processor path, which all go through one operation. Clauses on a string
that the card ignores (R8, R37) say that its coils conduct in no state. -/
def Obligations.TripOpensItsStringOnly : Prop :=
  (∀ (x : Ix) (c : Comparator) (s : State), s.elec.powered = true →
    (testBit (s.prot.get x).outrCause c.num = true → (s.prot.get x).outrTrip = true) →
    runs (.comparatorTrip x c) s fun t => (coilsFitted s x = true → (t.prot.get x).outrTrip = true) ∧ noSwitchConducts t x = true ∧
      t.prot.get x.other = s.prot.get x.other) ∧
  (∀ (x : Ix) (s : State), s.elec.powered = true → ((s.prot.get x).fltLoop = true → (s.prot.get x).outrTrip = true) →
    runs (.faultLoopOpen x) s fun t => (coilsFitted s x = true → (t.prot.get x).outrTrip = true) ∧ noSwitchConducts t x = true ∧
      t.prot.get x.other = s.prot.get x.other) ∧
  (∀ (x : Ix) (s : State) (cause : Nat) (v : F32) (u n : Nat), (s.prot.get x).procTrip = false →
    ((procTrip s x cause v u n).prot.get x).procTrip = true ∧ noSwitchConducts (procTrip s x cause v u n) x = true ∧
      (procTrip s x cause v u n).prot.get x.other = s.prot.get x.other)

/-- R9: a module whose VARIANT differs from that of its partner goes to the isolated role with EV 041, at power-up step 6 and whenever a
PEER_STATUS shows it later, and stays isolated: REJOIN is refused while the variants differ. A module that is isolated already raises
EV 041 and stays isolated. -/
def Obligations.VariantMismatchIsolates : Prop :=
  (∀ s : State, running s = true → s.elec.step = 6 → s.pair.arbitrating = false → s.pair.role ≠ .isolated →
    s.pair.peer.isSome = true → s.pair.variantMatch = false →
    runs .ownershipArbitration s fun t => t.pair.role = .isolated ∧ newest t 41 = some [] ∧ t.outr.asserting = false) ∧
  (∀ (s : State) (f : PeerFrame), running s = true → 7 ≤ s.elec.step → s.pair.role ≠ .isolated → f.good 0x30 (· == 32) = true →
    (readPeerStatus f.payload).variant ≠ s.ident.variant →
    runs (.peerStatus f) s fun t => t.pair.role = .isolated ∧ newest t 41 = some [] ∧ t.pair.variantMatch = false) ∧
  (∀ (s : State) (h : Hdr), hostReady s h = true → alone s h = true → s.pair.role = .isolated → s.pair.peer.isSome = true →
    s.pair.variantMatch = false → runs (.rejoin h) s fun t => answered t h 0x0022 .refused 1 0 [] ∧ t.pair.role = .isolated) ∧
  (∀ (s : State) (f : PeerFrame), running s = true → 7 ≤ s.elec.step → s.pair.role = .isolated → f.good 0x30 (· == 32) = true →
    (readPeerStatus f.payload).variant ≠ s.ident.variant → s.pair.peer = none ∨ s.pair.variantMatch = true →
    runs (.peerStatus f) s fun t => t.pair.role = .isolated ∧ newest t 41 = some [] ∧ t.pair.variantMatch = false) ∧
  (∀ s : State, s.pair.role = .isolated → runs .ownershipArbitration s fun t => t.pair.role = .isolated ∧
    (running s = true → s.elec.step = 6 → s.pair.arbitrating = false → s.pair.peer.isSome = true → s.pair.variantMatch = false →
      newest t 41 = some []))

/-- R429: a read of LEDG_NEXT_LO or LEDG_FLOOR_LO through a port latches all 64 bits for that port, and a later read of the matching HI register
through the same port returns the latched half, whatever the value has become since. -/
def Obligations.LedgerHalvesAreLatched : Prop :=
  (∀ (p : Ix) (s : State), clocked s = true → portUp s p = true → s.elec.fw = true →
    bar0Read s p 0x0E84 = regWord s.ev.next ∧ bar0Read s p 0x0E8C = regWord s.ev.floor) ∧
  (∀ (p : Ix) (s u : State), clocked s = true → portUp s p = true → s.elec.fw = true →
    clocked u = true → portUp u p = true → u.elec.fw = true →
    (runs (.latchedLoRead p 0x0E84) s fun t => KV.get? (u.host.port.get p).latch 0x0E84 = KV.get? (t.host.port.get p).latch 0x0E84 →
      bar0Read u p 0x0E88 = regWord (s.ev.next / 2 ^ 32)) ∧
    (runs (.latchedLoRead p 0x0E8C) s fun t => KV.get? (u.host.port.get p).latch 0x0E8C = KV.get? (t.host.port.get p).latch 0x0E8C →
      bar0Read u p 0x0E90 = regWord (s.ev.floor / 2 ^ 32))) ∧
  (∀ (p : Ix) (s : State), runs (.latchedLoRead p 0x0E84) s fun t =>
    (t.host.port.get p.other).latch = (s.host.port.get p.other).latch)

/-- R151: on the MSC2-S15 front end 1 is not fitted: FE1_STAT.PRESENT and every other field of front end 1 read 0, in every state in which
the port answers, and no tick gives it a value. -/
def Obligations.UnfittedFrontEndReadsZero : Prop :=
  (∀ (s : State) (p : Ix) (off : Nat), s.ident.variant = 2 → clocked s = true → portUp s p = true →
    off ∈ [0x0404, 0x0418, 0x041C, 0x0430, 0x0434, 0x0438, 0x043C] → bar0Read s p off = 0) ∧
  (∀ (s : State) (n : Nat) (i : FeIn), s.ident.variant = 2 → (feTick s .one n i).1 = s) ∧
  (∀ (s : State) (p : Ix), s.ident.variant ≠ 2 → clocked s = true → portUp s p = true → s.elec.fw = true →
    (bar0Read s p 0x0404).toNat % 2 = 1)

/-- R63: writes of CLK_DIV take effect only on CLK_CTRL.APPLY, whole; with any field below its minimum APPLY changes nothing but DIV_REJECT,
which it sets, and APPLY, which it clears. -/
def Obligations.DividersTakeEffectOnApply : Prop :=
  (∀ (p : Ix) (w : Word) (s t : State), exec (.registerWrite p 0x0108 w) s = .next t →
    t.clk.divActing = s.clk.divActing ∧ t.clk.divTaken = s.clk.divTaken) ∧
  (∀ (c : Instr) (s t : State), exec c s = .next t → t.clk.divActing = s.clk.divActing ∨ t.elec.step ≤ 3 ∨
    (s.clk.applying = true ∧ t.clk.applying = false ∧ t.clk.divActing = s.clk.divTaken)) ∧
  (∀ (c : Instr) (s t : State), exec c s = .next t → t.clk.divTaken = s.clk.divTaken ∨ t.elec.step ≤ 3 ∨
    (dividerBad s.clk.div = false ∧ t.clk.applying = true ∧ t.clk.divTaken = s.clk.div)) ∧
  (∀ (w : Word) (s : State), clocked s = true → dividerBad s.clk.div = true → testBit w.toNat 0 = true →
    runs (.apply w) s fun t => t.clk.divReject = true ∧ t.clk.applying = false ∧ t.clk.divActing = s.clk.divActing ∧
      t.clk.divTaken = s.clk.divTaken ∧ t.clk.sel = s.clk.sel ∧ t.clk.refMove = s.clk.refMove ∧ t.clk.queue = s.clk.queue) ∧
  (∀ (w : Word) (s : State), clocked s = true → dividerBad s.clk.div = false →
    runs (.apply w) s fun t => t.clk.applying = true ∧ t.clk.divTaken = s.clk.div ∧ t.clk.divActing = s.clk.divActing)

/-- R415: the module keeps the newest occurrence of each event, whatever its routing; EV_LAST returns it as a record of Table 15-4, or
OUT_OF_RANGE when the event has not occurred since the last restart. The SEQ of such a record is a free value (log 25). -/
def Obligations.EvLastReturnsTheNewestOccurrence : Prop :=
  (∀ (s : State) (e : Nat) (d : List Byte), ∃ o, KV.get? (raise s e d).ev.last e = some o ∧ o.evt = e ∧ o.data = d) ∧
  (∀ (s : State) (e f : Nat) (d : List Byte), f ≠ e → f ≠ 248 → f ≠ 249 → KV.get? (raise s e d).ev.last f = KV.get? s.ev.last f) ∧
  (∀ (s : State) (h : Hdr) (e : Nat) (o : Occ), hostReady s h = true → alone s h = true → KV.get? s.ev.last e = some o →
    runs (.evLast h e) s fun t => ∃ n, answered t h 0x0100 .ok 0 0 (ledBytes n o (decide (1 < o.parts)) 0 (o.data.take 36))) ∧
  (∀ (s : State) (h : Hdr) (e : Nat), hostReady s h = true → alone s h = true → KV.get? s.ev.last e = none →
    runs (.evLast h e) s fun t => answered t h 0x0100 .outOfRange 0 0 []) ∧
  (∀ (s : State) (e : Nat), running s = true → runs .watchdogExpiry s fun t => KV.get? t.ev.last e = none)

/-- R394, R416, R418 and R419: PERST returns EV_PEND and EV_MASK of its port to their reset values; an occurrence raised while a port is down
sets nothing there; on a port that is up, an occurrence whose route names the port sets its bit, and with every bit masked it sends
no message.
What PERST keeps is the model's reading (log 51). -/
def Obligations.EventSignalsFollowThePort : Prop :=
  (∀ (p : Ix) (c : LinkCause) (s : State), clocked s = true →
    runs (.perst p c) s fun t => (t.host.port.get p).mask = List.replicate 8 0xFFFFFFFF ∧ (t.host.port.get p).pend = List.replicate 8 0) ∧
  (∀ (p : Ix) (s : State) (e : Nat) (d : List Byte), portUp s p = false → (raise s e d).host.port.get p = s.host.port.get p) ∧
  (∀ (p : Ix) (s : State) (e v : Nat), portUp s p = true → e < 256 → (s.host.port.get p).pend.length = 8 →
    testBit (((signal s p e v).host.port.get p).pend.getD (e / 32) 0) (e % 32) = true ∧
    (testBit ((s.host.port.get p).mask.getD (e / 32) 0) (e % 32) = true → (signal s p e v).sent = s.sent))
end

