-- ==== Sys2Proof/Laws/View.lean ====
section
/-! SUPPORT. Views of the state: a number whose bits stand for parts of the state, the parts it leaves out, and the lemmas by which
one simp call shows that an operation leaves every other part as it was. -/

namespace Sys2Proof.Laws

open Sys2Proof Sys2Proof.Machine

/-- A part of the state, left out where the bit of weight `b` of the mask is set. -/
def pick {α : Type} (m b : Nat) (a : α) : Option α := if m / b % 2 = 1 then none else some a

/-- The parts of a state, some of them left out. -/
structure View where
  ident : Option IdentState
  elec : Option ElecState
  clk : Option ClkState
  grid : Option GridState
  ring : Option (Two RingState)
  front : Option FrontState
  fus : Option FusState
  est : Option EstState
  peerBuf : Option (Two Mem)
  therm : Option ThermState
  ctl : Option CtlState
  hold : Option HoldState
  prot : Option (Two ProtState)
  outr : Option OutrState
  pair : Option PairState
  can : Option CanBlock
  signals : Option (List (List MsixEntry × List Nat))
  host : Option HostBlock
  events : Option EvState
  records : Option (KV Nat LedRec × Nat)
  acting : Option (Dict × List (Bound × Nat × Nat))
  par : Option ParState
  upd : Option UpdBlock
  stores : Option (Two Mem × Mem)
  pending : Option (List Instr)
  sent : Option (List Out)
  freeCtr : Option Nat

/-- The state without the parts that the mask names. -/
def view (m : Nat) (s : State) : View :=
  { ident := pick m 2 s.ident,
    elec := pick m 4 s.elec,
    clk := pick m 8 s.clk,
    grid := pick m 16 s.grid,
    ring := pick m 32 s.ring,
    front := pick m 64 s.front,
    fus := pick m 128 s.fus,
    est := pick m 256 (estRest s.est),
    peerBuf := pick m 512 s.est.peerBuf,
    therm := pick m 1024 s.therm,
    ctl := pick m 2048 s.ctl,
    hold := pick m 4096 s.hold,
    prot := pick m 8192 s.prot,
    outr := pick m 16384 s.outr,
    pair := pick m 32768 s.pair,
    can := pick m 65536 s.can,
    signals := pick m 131072 (portSignals s.host),
    host := pick m 262144 (hostRest s.host),
    events := pick m 524288 (evRest s.ev),
    records := pick m 1048576 ((s.ev.slots, s.ev.next)),
    acting := pick m 2097152 ((s.par.acting, s.par.pending)),
    par := pick m 4194304 (parRest s.par),
    upd := pick m 8388608 (updRest s.upd),
    stores := pick m 16777216 ((s.upd.image, s.upd.modelArea)),
    pending := pick m 33554432 s.pending,
    sent := pick m 67108864 s.sent,
    freeCtr := pick m 134217728 s.freeCtr }
@[simp] theorem view_mk (m : Nat) (ident elec clk grid ring front fus est therm ctl hold prot outr pair can host ev par upd pending sent freeCtr) :
    view m (State.mk ident elec clk grid ring front fus est therm ctl hold prot outr pair can host ev par upd pending sent freeCtr) =
      { ident := pick m 2 ident,
        elec := pick m 4 elec,
        clk := pick m 8 clk,
        grid := pick m 16 grid,
        ring := pick m 32 ring,
        front := pick m 64 front,
        fus := pick m 128 fus,
        est := pick m 256 (estRest est),
        peerBuf := pick m 512 est.peerBuf,
        therm := pick m 1024 therm,
        ctl := pick m 2048 ctl,
        hold := pick m 4096 hold,
        prot := pick m 8192 prot,
        outr := pick m 16384 outr,
        pair := pick m 32768 pair,
        can := pick m 65536 can,
        signals := pick m 131072 (portSignals host),
        host := pick m 262144 (hostRest host),
        events := pick m 524288 (evRest ev),
        records := pick m 1048576 ((ev.slots, ev.next)),
        acting := pick m 2097152 ((par.acting, par.pending)),
        par := pick m 4194304 (parRest par),
        upd := pick m 8388608 (updRest upd),
        stores := pick m 16777216 ((upd.image, upd.modelArea)),
        pending := pick m 33554432 pending,
        sent := pick m 67108864 sent,
        freeCtr := pick m 134217728 freeCtr } := rfl
@[simp] theorem pick_ident (m : Nat) (s : State) : pick m 2 s.ident = (view m s).ident := rfl
@[simp] theorem none_ident (m : Nat) (s : State) (h : m / 2 % 2 = 1) : (view m s).ident = none := by simp [view, pick, h]
@[simp] theorem pick_elec (m : Nat) (s : State) : pick m 4 s.elec = (view m s).elec := rfl
@[simp] theorem none_elec (m : Nat) (s : State) (h : m / 4 % 2 = 1) : (view m s).elec = none := by simp [view, pick, h]
@[simp] theorem pick_clk (m : Nat) (s : State) : pick m 8 s.clk = (view m s).clk := rfl
@[simp] theorem none_clk (m : Nat) (s : State) (h : m / 8 % 2 = 1) : (view m s).clk = none := by simp [view, pick, h]
@[simp] theorem pick_grid (m : Nat) (s : State) : pick m 16 s.grid = (view m s).grid := rfl
@[simp] theorem none_grid (m : Nat) (s : State) (h : m / 16 % 2 = 1) : (view m s).grid = none := by simp [view, pick, h]
@[simp] theorem pick_ring (m : Nat) (s : State) : pick m 32 s.ring = (view m s).ring := rfl
@[simp] theorem none_ring (m : Nat) (s : State) (h : m / 32 % 2 = 1) : (view m s).ring = none := by simp [view, pick, h]
@[simp] theorem pick_front (m : Nat) (s : State) : pick m 64 s.front = (view m s).front := rfl
@[simp] theorem none_front (m : Nat) (s : State) (h : m / 64 % 2 = 1) : (view m s).front = none := by simp [view, pick, h]
@[simp] theorem pick_fus (m : Nat) (s : State) : pick m 128 s.fus = (view m s).fus := rfl
@[simp] theorem none_fus (m : Nat) (s : State) (h : m / 128 % 2 = 1) : (view m s).fus = none := by simp [view, pick, h]
@[simp] theorem pick_est (m : Nat) (s : State) : pick m 256 (estRest s.est) = (view m s).est := rfl
@[simp] theorem none_est (m : Nat) (s : State) (h : m / 256 % 2 = 1) : (view m s).est = none := by simp [view, pick, h]
@[simp] theorem pick_peerBuf (m : Nat) (s : State) : pick m 512 s.est.peerBuf = (view m s).peerBuf := rfl
@[simp] theorem none_peerBuf (m : Nat) (s : State) (h : m / 512 % 2 = 1) : (view m s).peerBuf = none := by simp [view, pick, h]
@[simp] theorem pick_therm (m : Nat) (s : State) : pick m 1024 s.therm = (view m s).therm := rfl
@[simp] theorem none_therm (m : Nat) (s : State) (h : m / 1024 % 2 = 1) : (view m s).therm = none := by simp [view, pick, h]
@[simp] theorem pick_ctl (m : Nat) (s : State) : pick m 2048 s.ctl = (view m s).ctl := rfl
@[simp] theorem none_ctl (m : Nat) (s : State) (h : m / 2048 % 2 = 1) : (view m s).ctl = none := by simp [view, pick, h]
@[simp] theorem pick_hold (m : Nat) (s : State) : pick m 4096 s.hold = (view m s).hold := rfl
@[simp] theorem none_hold (m : Nat) (s : State) (h : m / 4096 % 2 = 1) : (view m s).hold = none := by simp [view, pick, h]
@[simp] theorem pick_prot (m : Nat) (s : State) : pick m 8192 s.prot = (view m s).prot := rfl
@[simp] theorem none_prot (m : Nat) (s : State) (h : m / 8192 % 2 = 1) : (view m s).prot = none := by simp [view, pick, h]
@[simp] theorem pick_outr (m : Nat) (s : State) : pick m 16384 s.outr = (view m s).outr := rfl
@[simp] theorem none_outr (m : Nat) (s : State) (h : m / 16384 % 2 = 1) : (view m s).outr = none := by simp [view, pick, h]
@[simp] theorem pick_pair (m : Nat) (s : State) : pick m 32768 s.pair = (view m s).pair := rfl
@[simp] theorem none_pair (m : Nat) (s : State) (h : m / 32768 % 2 = 1) : (view m s).pair = none := by simp [view, pick, h]
@[simp] theorem pick_can (m : Nat) (s : State) : pick m 65536 s.can = (view m s).can := rfl
@[simp] theorem none_can (m : Nat) (s : State) (h : m / 65536 % 2 = 1) : (view m s).can = none := by simp [view, pick, h]
@[simp] theorem pick_signals (m : Nat) (s : State) : pick m 131072 (portSignals s.host) = (view m s).signals := rfl
@[simp] theorem none_signals (m : Nat) (s : State) (h : m / 131072 % 2 = 1) : (view m s).signals = none := by simp [view, pick, h]
@[simp] theorem pick_host (m : Nat) (s : State) : pick m 262144 (hostRest s.host) = (view m s).host := rfl
@[simp] theorem none_host (m : Nat) (s : State) (h : m / 262144 % 2 = 1) : (view m s).host = none := by simp [view, pick, h]
@[simp] theorem pick_events (m : Nat) (s : State) : pick m 524288 (evRest s.ev) = (view m s).events := rfl
@[simp] theorem none_events (m : Nat) (s : State) (h : m / 524288 % 2 = 1) : (view m s).events = none := by simp [view, pick, h]
@[simp] theorem pick_records (m : Nat) (s : State) : pick m 1048576 ((s.ev.slots, s.ev.next)) = (view m s).records := rfl
@[simp] theorem none_records (m : Nat) (s : State) (h : m / 1048576 % 2 = 1) : (view m s).records = none := by simp [view, pick, h]
@[simp] theorem pick_acting (m : Nat) (s : State) : pick m 2097152 ((s.par.acting, s.par.pending)) = (view m s).acting := rfl
@[simp] theorem none_acting (m : Nat) (s : State) (h : m / 2097152 % 2 = 1) : (view m s).acting = none := by simp [view, pick, h]
@[simp] theorem pick_par (m : Nat) (s : State) : pick m 4194304 (parRest s.par) = (view m s).par := rfl
@[simp] theorem none_par (m : Nat) (s : State) (h : m / 4194304 % 2 = 1) : (view m s).par = none := by simp [view, pick, h]
@[simp] theorem pick_upd (m : Nat) (s : State) : pick m 8388608 (updRest s.upd) = (view m s).upd := rfl
@[simp] theorem none_upd (m : Nat) (s : State) (h : m / 8388608 % 2 = 1) : (view m s).upd = none := by simp [view, pick, h]
@[simp] theorem pick_stores (m : Nat) (s : State) : pick m 16777216 ((s.upd.image, s.upd.modelArea)) = (view m s).stores := rfl
@[simp] theorem none_stores (m : Nat) (s : State) (h : m / 16777216 % 2 = 1) : (view m s).stores = none := by simp [view, pick, h]
@[simp] theorem pick_pending (m : Nat) (s : State) : pick m 33554432 s.pending = (view m s).pending := rfl
@[simp] theorem none_pending (m : Nat) (s : State) (h : m / 33554432 % 2 = 1) : (view m s).pending = none := by simp [view, pick, h]
@[simp] theorem pick_sent (m : Nat) (s : State) : pick m 67108864 s.sent = (view m s).sent := rfl
@[simp] theorem none_sent (m : Nat) (s : State) (h : m / 67108864 % 2 = 1) : (view m s).sent = none := by simp [view, pick, h]
@[simp] theorem pick_freeCtr (m : Nat) (s : State) : pick m 134217728 s.freeCtr = (view m s).freeCtr := rfl
@[simp] theorem none_freeCtr (m : Nat) (s : State) (h : m / 134217728 % 2 = 1) : (view m s).freeCtr = none := by simp [view, pick, h]
@[simp] theorem pick_on {α : Type} (m b : Nat) (a : α) (h : m / b % 2 = 1) : pick m b a = none := by simp [pick, h]
@[simp] theorem view_eq (m : Nat) (s : State) (v : View) : v = view m s ↔ v.ident = (view m s).ident ∧ v.elec = (view m s).elec ∧ v.clk = (view m s).clk ∧ v.grid = (view m s).grid ∧ v.ring = (view m s).ring ∧ v.front = (view m s).front ∧ v.fus = (view m s).fus ∧ v.est = (view m s).est ∧ v.peerBuf = (view m s).peerBuf ∧ v.therm = (view m s).therm ∧ v.ctl = (view m s).ctl ∧ v.hold = (view m s).hold ∧ v.prot = (view m s).prot ∧ v.outr = (view m s).outr ∧ v.pair = (view m s).pair ∧ v.can = (view m s).can ∧ v.signals = (view m s).signals ∧ v.host = (view m s).host ∧ v.events = (view m s).events ∧ v.records = (view m s).records ∧ v.acting = (view m s).acting ∧ v.par = (view m s).par ∧ v.upd = (view m s).upd ∧ v.stores = (view m s).stores ∧ v.pending = (view m s).pending ∧ v.sent = (view m s).sent ∧ v.freeCtr = (view m s).freeCtr := by
  constructor
  · rintro rfl; simp
  · cases v; rintro ⟨rfl, rfl, rfl, rfl, rfl, rfl, rfl, rfl, rfl, rfl, rfl, rfl, rfl, rfl, rfl, rfl, rfl, rfl, rfl, rfl, rfl, rfl, rfl, rfl, rfl, rfl, rfl⟩; rfl
theorem bit_up {m k : Nat} (h : m &&& k = k) (i : Nat) (hk : k / 2 ^ i % 2 = 1) : m / 2 ^ i % 2 = 1 := by
  have e : (m &&& k).testBit i = k.testBit i := by rw [h]
  have hk' : k.testBit i = true := by rw [Nat.testBit_eq_decide_div_mod_eq, hk]; rfl
  rw [Nat.testBit_and, hk', Bool.and_true, Nat.testBit_eq_decide_div_mod_eq] at e
  exact of_decide_eq_true e
theorem pick_up {m k : Nat} (h : m &&& k = k) (i : Nat) {α : Type} {a b : α} (e : pick k (2 ^ i) a = pick k (2 ^ i) b) :
    pick m (2 ^ i) a = pick m (2 ^ i) b := by
  unfold pick at *
  by_cases hm : m / 2 ^ i % 2 = 1
  · simp [hm]
  · have hk : ¬ k / 2 ^ i % 2 = 1 := fun hk => hm (bit_up h i hk)
    simpa [hm, hk] using e
theorem view_up {m k : Nat} (h : m &&& k = k) {s t : State} (e : view k s = view k t) : view m s = view m t := by
  unfold view at *
  rw [View.mk.injEq] at *
  obtain ⟨e1, e2, e3, e4, e5, e6, e7, e8, e9, e10, e11, e12, e13, e14, e15, e16, e17, e18, e19, e20, e21, e22, e23, e24, e25, e26, e27⟩ := e
  exact ⟨pick_up h 1 e1, pick_up h 2 e2, pick_up h 3 e3, pick_up h 4 e4, pick_up h 5 e5, pick_up h 6 e6, pick_up h 7 e7, pick_up h 8 e8, pick_up h 9 e9, pick_up h 10 e10, pick_up h 11 e11, pick_up h 12 e12, pick_up h 13 e13, pick_up h 14 e14, pick_up h 15 e15, pick_up h 16 e16, pick_up h 17 e17, pick_up h 18 e18, pick_up h 19 e19, pick_up h 20 e20, pick_up h 21 e21, pick_up h 22 e22, pick_up h 23 e23, pick_up h 24 e24, pick_up h 25 e25, pick_up h 26 e26, pick_up h 27 e27⟩
@[simp] theorem view_ite (m : Nat) (c : Prop) [Decidable c] (a b : State) : view m (if c then a else b) = if c then view m a else view m b := by
  split <;> rfl
@[simp] theorem view_foldl {α : Type} (m : Nat) (f : State → α → State) (h : ∀ s a, view m (f s a) = view m s) (l : List α) (s : State) :
    view m (l.foldl f s) = view m s := by
  induction l generalizing s with
  | nil => rfl
  | cons a l ih => simp [List.foldl_cons, ih, h]
theorem view_foldl_fst {α β : Type} (m : Nat) (f : State × β → α → State × β) (h : ∀ p a, view m (f p a).1 = view m p.1) (l : List α) (p : State × β) :
    view m (l.foldl f p).1 = view m p.1 := by
  induction l generalizing p with
  | nil => rfl
  | cons a l ih => simp [List.foldl_cons, ih, h]
theorem view_foldl_snd {α β : Type} (m : Nat) (f : β × State → α → β × State) (h : ∀ p a, view m (f p a).2 = view m p.2) (l : List α) (p : β × State) :
    view m (l.foldl f p).2 = view m p.2 := by
  induction l generalizing p with
  | nil => rfl
  | cons a l ih => simp [List.foldl_cons, ih, h]

/-! ### Masks and lists of parts -/

/-- The weight of a part in a mask. -/
def Block.bit : Block → Nat
  | .ident => 2
  | .elec => 4
  | .clk => 8
  | .grid => 16
  | .ring => 32
  | .front => 64
  | .fus => 128
  | .est => 256
  | .peerBuf => 512
  | .therm => 1024
  | .ctl => 2048
  | .hold => 4096
  | .prot => 8192
  | .outr => 16384
  | .pair => 32768
  | .can => 65536
  | .signals => 131072
  | .host => 262144
  | .events => 524288
  | .records => 1048576
  | .acting => 2097152
  | .par => 4194304
  | .upd => 8388608
  | .stores => 16777216
  | .pending => 33554432
  | .sent => 67108864
  | .freeCtr => 134217728

/-- The mask of a list of parts. -/
def maskOf (l : List Block) : Nat := l.foldr (fun b m => Block.bit b ||| m) 0

/-- The exponent of a part's weight. -/
def Block.exp : Block → Nat
  | .ident => 1
  | .elec => 2
  | .clk => 3
  | .grid => 4
  | .ring => 5
  | .front => 6
  | .fus => 7
  | .est => 8
  | .peerBuf => 9
  | .therm => 10
  | .ctl => 11
  | .hold => 12
  | .prot => 13
  | .outr => 14
  | .pair => 15
  | .can => 16
  | .signals => 17
  | .host => 18
  | .events => 19
  | .records => 20
  | .acting => 21
  | .par => 22
  | .upd => 23
  | .stores => 24
  | .pending => 25
  | .sent => 26
  | .freeCtr => 27

theorem Block.bit_exp (b : Block) : Block.bit b = 2 ^ Block.exp b := by cases b <;> rfl

theorem Block.exp_inj {a b : Block} (h : Block.exp a = Block.exp b) : a = b := by
  revert h; cases a <;> cases b <;> decide

/-- A part that is not listed has its bit clear in the mask of the list. -/
theorem maskOf_clear (l : List Block) (b : Block) (h : b ∉ l) : (maskOf l).testBit (Block.exp b) = false := by
  induction l with
  | nil => simp [maskOf]
  | cons a l ih =>
    rw [List.mem_cons, not_or] at h
    have e : maskOf (a :: l) = Block.bit a ||| maskOf l := rfl
    rw [e, Nat.testBit_or, ih h.2, Block.bit_exp, Nat.testBit_two_pow]
    simpa using fun he => h.1 (Block.exp_inj he).symm

theorem pick_clear {m b : Nat} {α : Type} {x y : α} (h : m / b % 2 = 1 → False) (e : pick m b x = pick m b y) : x = y := by
  unfold pick at e
  rw [if_neg h, if_neg h] at e
  exact Option.some.inj e

/-- Equal views under the mask of a list: the states agree on every part but those listed. -/
theorem sameBut_of_view (l : List Block) {s t : State} (h : view (maskOf l) t = view (maskOf l) s) : sameBut l s t := by
  intro b hb
  have c := maskOf_clear l b hb
  rw [Nat.testBit_eq_decide_div_mod_eq] at c
  unfold view at h
  rw [View.mk.injEq] at h
  obtain ⟨e1, e2, e3, e4, e5, e6, e7, e8, e9, e10, e11, e12, e13, e14, e15, e16, e17, e18, e19, e20, e21, e22, e23, e24, e25, e26, e27⟩ := h
  cases b
  · exact pick_clear (of_decide_eq_false c) e1
  · exact pick_clear (of_decide_eq_false c) e2
  · exact pick_clear (of_decide_eq_false c) e3
  · exact pick_clear (of_decide_eq_false c) e4
  · exact pick_clear (of_decide_eq_false c) e5
  · exact pick_clear (of_decide_eq_false c) e6
  · exact pick_clear (of_decide_eq_false c) e7
  · exact pick_clear (of_decide_eq_false c) e8
  · exact pick_clear (of_decide_eq_false c) e9
  · exact pick_clear (of_decide_eq_false c) e10
  · exact pick_clear (of_decide_eq_false c) e11
  · exact pick_clear (of_decide_eq_false c) e12
  · exact pick_clear (of_decide_eq_false c) e13
  · exact pick_clear (of_decide_eq_false c) e14
  · exact pick_clear (of_decide_eq_false c) e15
  · exact pick_clear (of_decide_eq_false c) e16
  · exact pick_clear (of_decide_eq_false c) e17
  · exact pick_clear (of_decide_eq_false c) e18
  · exact pick_clear (of_decide_eq_false c) e19
  · exact pick_clear (of_decide_eq_false c) e20
  · exact pick_clear (of_decide_eq_false c) e21
  · exact pick_clear (of_decide_eq_false c) e22
  · exact pick_clear (of_decide_eq_false c) e23
  · exact pick_clear (of_decide_eq_false c) e24
  · exact pick_clear (of_decide_eq_false c) e25
  · exact pick_clear (of_decide_eq_false c) e26
  · exact pick_clear (of_decide_eq_false c) e27

end Sys2Proof.Laws
end

