-- ==== Sys2Proof/Laws/FrameOps.lean ====
section
/-! SUPPORT. What each operation leaves as it was, one lemma each, as equality of views: the shared operations, the outrider, a restart, power and clocks, modes and the grid. -/

namespace Sys2Proof.Laws

open Sys2Proof Sys2Proof.Machine

set_option maxRecDepth 4000
set_option linter.unusedTactic false
set_option linter.unreachableTactic false

/-! ### Ops -/

@[simp] theorem takeFree_view (m : Nat) (s) (h : m &&& 134217728 = 134217728) :
    view m (takeFree s) = view m s := view_up h (by
  unfold takeFree; simp)
@[simp] theorem newHandle_view (m : Nat) (s) (h : m &&& 134217728 = 134217728) :
    view m (newHandle s).2 = view m s := view_up h (by
  unfold newHandle; simp)
@[simp] theorem noteMode_view (m : Nat) (x0 x1 x2) (h : m &&& 524288 = 524288) :
    view m (noteMode x0 x1 x2) = view m x0 := view_up h (by
  unfold noteMode; (repeat' (first | (simp (maxDischargeDepth := 6); done) | split | (dsimp only; split) | (simp (maxDischargeDepth := 6); split))))
@[simp] theorem noteIf_view (m : Nat) (x0 x1 x2 x3) (h : m &&& 524288 = 524288) :
    view m (noteIf x0 x1 x2 x3) = view m x0 := view_up h (by
  unfold noteIf; (repeat' (first | (simp (maxDischargeDepth := 6); done) | split | (dsimp only; split) | (simp (maxDischargeDepth := 6); split))))
@[simp] theorem setRole_view (m : Nat) (s r) (h : m &&& 557056 = 557056) :
    view m (setRole s r) = view m s := view_up h (by
  unfold setRole; (repeat' (first | (simp (maxDischargeDepth := 6); done) | split | (dsimp only; split) | (simp (maxDischargeDepth := 6); split))))
@[simp] theorem setSeed_view (m : Nat) (s b) (h : m &&& 524544 = 524544) :
    view m (setSeed s b) = view m s := view_up h (by
  unfold setSeed; (repeat' (first | (simp (maxDischargeDepth := 6); done) | split | (dsimp only; split) | (simp (maxDischargeDepth := 6); split))))
@[simp] theorem setClk_view (m : Nat) (s c) (h : m &&& 524296 = 524296) :
    view m (setClk s c) = view m s := view_up h (by
  unfold setClk; (repeat' (first | (simp (maxDischargeDepth := 6); done) | split | (dsimp only; split) | (simp (maxDischargeDepth := 6); split))))
@[simp] theorem emit_view (m : Nat) (s o) (h : m &&& 67108864 = 67108864) :
    view m (emit s o) = view m s := view_up h (by
  unfold emit; simp)
@[simp] theorem emits_view (m : Nat) (s os) (h : m &&& 67108864 = 67108864) :
    view m (emits s os) = view m s := view_up h (by
  unfold emits; simp)
@[simp] theorem modPort_view (m : Nat) (s p f) (h : m &&& 393216 = 393216) :
    view m (modPort s p f) = view m s := view_up h (by
  unfold modPort; simp)
theorem modPort_signals (m : Nat) (s : State) (p : Ix) (f : PortState → PortState) (hf : ∀ q, portRest (f q) = portRest q)
    (h : m &&& 131072 = 131072) : view m (modPort s p f) = view m s := by
  apply view_up h
  rw [modPort, view_mk, view_eq]
  have e : hostRest { s.host with port := s.host.port.modify p f } = hostRest s.host := by
    cases p <;> simp [hostRest, Two.map, Two.modify, Two.get, Two.set, hf]
  refine ⟨?_, ?_, ?_, ?_, ?_, ?_, ?_, ?_, ?_, ?_, ?_, ?_, ?_, ?_, ?_, ?_, ?_, ?_, ?_, ?_, ?_, ?_, ?_, ?_, ?_, ?_, ?_⟩ <;>
    first | rfl | exact congrArg (pick 131072 262144) e
theorem sendVector_view0 (x0 x1 x2) : view 67239936 (sendVector x0 x1 x2) = view 67239936 x0 := by
  unfold sendVector
  split
  · rfl
  · split
    · rfl
    · split
      · exact modPort_signals _ _ _ _ (fun q => rfl) (by decide)
      · simp
@[simp] theorem sendVector_view (m : Nat) (x0 x1 x2) (h : m &&& 67239936 = 67239936) : view m (sendVector x0 x1 x2) = view m x0 :=
  view_up h (sendVector_view0 x0 x1 x2)
@[simp] theorem enqueue_view (m : Nat) (s o) (h : m &&& 524288 = 524288) :
    view m (enqueue s o) = view m s := view_up h (by
  unfold enqueue; simp)
@[simp] theorem storeLast_view (m : Nat) (s o) (h : m &&& 524288 = 524288) :
    view m (storeLast s o) = view m s := view_up h (by
  unfold storeLast; simp)
theorem signal_view0 (x0 x1 x2 x3) : view 67239936 (signal x0 x1 x2 x3) = view 67239936 x0 := by
  unfold signal
  dsimp only
  split
  · rfl
  · have e : view 67239936 (if testBit ((x0.host.port.get x1).pend.getD (x2 / 32) 0) (x2 % 32) = true then x0
        else modPort x0 x1 fun q => { q with pend := modAt q.pend (x2 / 32) fun w => w + 2 ^ (x2 % 32) }) = view 67239936 x0 := by
      split
      · rfl
      · exact modPort_signals _ _ _ _ (fun q => rfl) (by decide)
    split
    · rw [sendVector_view _ _ _ _ (by decide)]; exact e
    · exact e
@[simp] theorem signal_view (m : Nat) (x0 x1 x2 x3) (h : m &&& 67239936 = 67239936) : view m (signal x0 x1 x2 x3) = view m x0 :=
  view_up h (signal_view0 x0 x1 x2 x3)
@[simp] theorem signalBoth_view (m : Nat) (s evt) (h : m &&& 67239936 = 67239936) :
    view m (signalBoth s evt) = view m s := view_up h (by
  unfold signalBoth; simp)
@[simp] theorem raisePast_view (m : Nat) (s evt data) (h : m &&& 201981952 = 201981952) :
    view m (raisePast s evt data) = view m s := view_up h (by
  unfold raisePast; simp)
@[simp] theorem applyClear_view (m : Nat) (s upto port ring tag) (h : m &&& 201981952 = 201981952) :
    view m (applyClear s upto port ring tag) = view m s := view_up h (by
  unfold applyClear; simp)
@[simp] theorem endFreeze_view (m : Nat) (s cause) (h : m &&& 201981952 = 201981952) :
    view m (endFreeze s cause) = view m s := view_up h (by
  unfold endFreeze; (repeat' (first | (simp (maxDischargeDepth := 6); done) | split | (dsimp only; split) | (simp (maxDischargeDepth := 6); split))))
@[simp] theorem raise_view (m : Nat) (s evt data) (h : m &&& 201981952 = 201981952) :
    view m (raise s evt data) = view m s := view_up h (by
  unfold raise; split <;> simp)
@[simp] theorem raiseIf_view (m : Nat) (s c evt data) (h : m &&& 201981952 = 201981952) :
    view m (raiseIf s c evt data) = view m s := view_up h (by
  unfold raiseIf; simp)
@[simp] theorem raiseOnce_view (m : Nat) (s evt key mark data) (h : m &&& 201981952 = 201981952) :
    view m (raiseOnce s evt key mark data) = view m s := view_up h (by
  unfold raiseOnce; simp)
@[simp] theorem raiseDeferred_view (m : Nat) (s evt at_ data) (h : m &&& 201981952 = 201981952) :
    view m (raiseDeferred s evt at_ data) = view m s := view_up h (by
  unfold raiseDeferred; simp)
@[simp] theorem writeRecord_view (m : Nat) (s o part ok) (h : m &&& 1048576 = 1048576) :
    view m (writeRecord s o part ok) = view m s := view_up h (by
  unfold writeRecord; rfl)
@[simp] theorem writeWhole_view (m : Nat) (s o) (h : m &&& 1048576 = 1048576) :
    view m (writeWhole s o) = view m s := view_up h (by
  unfold writeWhole; simp)
@[simp] theorem modRing_view (m : Nat) (s p r f) (h : m &&& 393216 = 393216) :
    view m (modRing s p r f) = view m s := view_up h (by
  unfold modRing; simp)
@[simp] theorem writeResponse_view (m : Nat) (x0 x1 x2 x3 x4 x5 x6 x7) (h : m &&& 67502080 = 67502080) :
    view m (writeResponse x0 x1 x2 x3 x4 x5 x6 x7) = view m x0 := view_up h (by
  unfold writeResponse; simp)
theorem answerBad_view0 (x0 x1 n x3) : view 67502080 (answerBad x0 x1 n x3) = view 67502080 x3 := by
  induction n generalizing x3 with
  | zero => rfl
  | succ n ih => unfold answerBad; repeat' (first | (simp [ih]; done) | split)
@[simp] theorem answerBad_view (m : Nat) (x0 x1 n x3) (h : m &&& 67502080 = 67502080) :
    view m (answerBad x0 x1 n x3) = view m x3 := view_up h (answerBad_view0 x0 x1 n x3)
@[simp] theorem respondFull_view (m : Nat) (x0 x1 x2 x3 x4 x5 x6 x7) (h : m &&& 67502080 = 67502080) :
    view m (respondFull x0 x1 x2 x3 x4 x5 x6 x7) = view m x0 := view_up h (by
  unfold respondFull; simp)
@[simp] theorem respondOk_view (m : Nat) (x0 x1 x2 x3) (h : m &&& 67502080 = 67502080) :
    view m (respondOk x0 x1 x2 x3) = view m x0 := view_up h (by
  unfold respondOk; simp)
@[simp] theorem respond_view (m : Nat) (x0 x1 x2 x3 x4) (h : m &&& 67502080 = 67502080) :
    view m (respond x0 x1 x2 x3 x4) = view m x0 := view_up h (by
  unfold respond; simp)
@[simp] theorem respondBusy_view (m : Nat) (x0 x1 x2 x3) (h : m &&& 67502080 = 67502080) :
    view m (respondBusy x0 x1 x2 x3) = view m x0 := view_up h (by
  unfold respondBusy; simp)
@[simp] theorem acceptLong_view (m : Nat) (x0 x1 x2) (h : m &&& 201719808 = 201719808) :
    view m (acceptLong x0 x1 x2).2 = view m x0 := view_up h (by
  unfold acceptLong; simp)
@[simp] theorem endLong_view (m : Nat) (s id st detail resp) (h : m &&& 262144 = 262144) :
    view m (endLong s id st detail resp) = view m s := view_up h (by
  unfold endLong; rfl)
@[simp] theorem endLongOpt_view (m : Nat) (s id st detail resp) (h : m &&& 262144 = 262144) :
    view m (endLongOpt s id st detail resp) = view m s := view_up h (by
  unfold endLongOpt; split <;> simp)
@[simp] theorem longAtOnce_view (m : Nat) (x0 x1 x2 x3 x4 x5) (h : m &&& 201719808 = 201719808) :
    view m (longAtOnce x0 x1 x2 x3 x4 x5) = view m x0 := view_up h (by
  unfold longAtOnce; simp)
@[simp] theorem applyPending_view (m : Nat) (s due) (h : m &&& 2097152 = 2097152) :
    view m (applyPending s due) = view m s := view_up h (by
  unfold applyPending; rfl)
@[simp] theorem applyBound_view (m : Nat) (s b) (h : m &&& 2097152 = 2097152) :
    view m (applyBound s b) = view m s := view_up h (by
  unfold applyBound; simp)
@[simp] theorem modCar_view (m : Nat) (s r f) (h : m &&& 32 = 32) : view m (modCar s r f) = view m s := view_up h (by
  unfold modCar; simp)
@[simp] theorem modProt_view (m : Nat) (s x f) (h : m &&& 8192 = 8192) :
    view m (modProt s x f) = view m s := view_up h (by
  unfold modProt; simp)
@[simp] theorem modStr_view (m : Nat) (s x f) (h : m &&& 256 = 256) : view m (modStr s x f) = view m s := view_up h (by
  unfold modStr; simp)
@[simp] theorem modFe_view (m : Nat) (s x f) (h : m &&& 64 = 64) : view m (modFe s x f) = view m s := view_up h (by
  unfold modFe; simp)
@[simp] theorem modBus_view (m : Nat) (s b f) (h : m &&& 65536 = 65536) :
    view m (modBus s b f) = view m s := view_up h (by
  unfold modBus; simp)
@[simp] theorem modPcs_view (m : Nat) (s x f) (h : m &&& 65536 = 65536) :
    view m (modPcs s x f) = view m s := view_up h (by
  unfold modPcs; simp)
@[simp] theorem modSlot_view (m : Nat) (s n f) (h : m &&& 2048 = 2048) :
    view m (modSlot s n f) = view m s := view_up h (by
  unfold modSlot; simp)
@[simp] theorem markLate_view (m : Nat) (x0 x1) (h : m &&& 2048 = 2048) :
    view m (markLate x0 x1) = view m x0 := view_up h (by
  unfold markLate; (repeat' (first | (simp (maxDischargeDepth := 6); done) | split | (dsimp only; split) | (simp (maxDischargeDepth := 6); split))))
@[simp] theorem stopLoops_view (m : Nat) (s) (h : m &&& 2048 = 2048) : view m (stopLoops s) = view m s := view_up h (by
  unfold stopLoops; (repeat' (first | (simp (maxDischargeDepth := 6); done) | split | (dsimp only; split) | (simp (maxDischargeDepth := 6); split))))

/-! ### Outrider -/

@[simp] theorem settleString_view (m : Nat) (s x) (h : m &&& 8192 = 8192) :
    view m (settleString s x) = view m s := view_up h (by
  unfold settleString; simp)
@[simp] theorem settleCoils_view (m : Nat) (s) (h : m &&& 8192 = 8192) :
    view m (settleCoils s) = view m s := view_up h (by
  unfold settleCoils; simp)
@[simp] theorem setReq_view (m : Nat) (s x c hs ls) (h : m &&& 8192 = 8192) :
    view m (setReq s x c hs ls) = view m s := view_up h (by
  unfold setReq; simp)
@[simp] theorem dropReqs_view (m : Nat) (s x) (h : m &&& 8192 = 8192) :
    view m (dropReqs s x) = view m s := view_up h (by
  unfold dropReqs; simp)
@[simp] theorem dropHoldBits_view (m : Nat) (s x) (h : m &&& 8192 = 8192) :
    view m (dropHoldBits s x) = view m s := view_up h (by
  unfold dropHoldBits; simp)
@[simp] theorem raiseOrDefer_view (m : Nat) (s evt data) (h : m &&& 201981952 = 201981952) :
    view m (raiseOrDefer s evt data) = view m s := view_up h (by
  unfold raiseOrDefer; simp)
@[simp] theorem setStrState_view (m : Nat) (s x st cause) (h : m &&& 201990144 = 201990144) :
    view m (setStrState s x st cause) = view m s := view_up h (by
  unfold setStrState; simp)
@[simp] theorem ownState_view (m : Nat) (s x st cause) (h : m &&& 201990144 = 201990144) :
    view m (ownState s x st cause) = view m s := view_up h (by
  unfold ownState; simp)
@[simp] theorem readPartner_view (m : Nat) (s) (h : m &&& 8192 = 8192) :
    view m (readPartner s) = view m s := view_up h (by
  unfold readPartner; (repeat' (first | (simp (maxDischargeDepth := 6); done) | split | (dsimp only; split) | (simp (maxDischargeDepth := 6); split))))
@[simp] theorem weldDue_view (m : Nat) (s x ids) (h : m &&& 8192 = 8192) :
    view m (weldDue s x ids) = view m s := view_up h (by
  unfold weldDue; (repeat' (first | (simp (maxDischargeDepth := 6); done) | split | (dsimp only; split) | (simp (maxDischargeDepth := 6); split))))
@[simp] theorem openToWeld_view (m : Nat) (s x) (h : m &&& 8192 = 8192) :
    view m (openToWeld s x) = view m s := view_up h (by
  unfold openToWeld; (repeat' (first | (simp (maxDischargeDepth := 6); done) | split | (dsimp only; split) | (simp (maxDischargeDepth := 6); split))))
@[simp] theorem judgeState_view (m : Nat) (s x) (h : m &&& 201990144 = 201990144) :
    view m (judgeState s x) = view m s := view_up h (by
  unfold judgeState; (repeat' (first | (simp (maxDischargeDepth := 6); done) | split | (dsimp only; split) | (simp (maxDischargeDepth := 6); split))))
@[simp] theorem beginHold_view (m : Nat) (s c) (h : m &&& 202006528 = 202006528) :
    view m (beginHold s c) = view m s := view_up h (by
  unfold beginHold; simp)
@[simp] theorem stateAfterHold_view (m : Nat) (s x cause) (h : m &&& 201990144 = 201990144) :
    view m (stateAfterHold s x cause) = view m s := view_up h (by
  unfold stateAfterHold; (repeat' (first | (simp (maxDischargeDepth := 6); done) | split | (dsimp only; split) | (simp (maxDischargeDepth := 6); split))))
@[simp] theorem endHold_view (m : Nat) (s how cause) (h : m &&& 202006528 = 202006528) :
    view m (endHold s how cause) = view m s := view_up h (by
  unfold endHold; simp)
@[simp] theorem judgeBlock_view (m : Nat) (s) (h : m &&& 201998336 = 201998336) :
    view m (judgeBlock s) = view m s := view_up h (by
  unfold judgeBlock; simp)
@[simp] theorem releaseLine_view (m : Nat) (s) (h : m &&& 202039296 = 202039296) :
    view m (releaseLine s) = view m s := view_up h (by
  unfold releaseLine; simp)
@[simp] theorem loadThresholds_view (m : Nat) (s) (h : m &&& 16384 = 16384) :
    view m (loadThresholds s) = view m s := view_up h (by
  unfold loadThresholds; simp)
@[simp] theorem abortClose_view (m : Nat) (s x cause) (h : m &&& 270336 = 270336) :
    view m (abortClose s x cause) = view m s := view_up h (by
  unfold abortClose; split <;> simp)
@[simp] theorem procTrip_view (m : Nat) (s x cause value unitNo cell) (h : m &&& 202317824 = 202317824) :
    view m (procTrip s x cause value unitNo cell) = view m s := view_up h (by
  unfold procTrip; simp)

/-! ### Restart -/

@[simp] theorem restart_view (m : Nat) (s cause) (h : m &&& 167772156 = 167772156) :
    view m (restart s cause) = view m s := view_up h (by
  unfold restart; simp)
@[simp] theorem powerOff_view (m : Nat) (s) (h : m &&& 33554428 = 33554428) :
    view m (powerOff s) = view m s := view_up h (by
  unfold powerOff; simp)
@[simp] theorem powerUp_view (m : Nat) (s slotB strap2s present) (h : m &&& 33554428 = 33554428) :
    view m (powerUp s slotB strap2s present) = view m s := view_up h (by
  unfold powerUp; simp)

/-! ### Modes -/

@[simp] theorem setHold_view (m : Nat) (x0 x1 x2) (h : m &&& 201986048 = 201986048) :
    view m (setHold x0 x1 x2) = view m x0 := view_up h (by
  unfold setHold; simp)
@[simp] theorem setCan_view (m : Nat) (s b st cause) (h : m &&& 202047488 = 202047488) :
    view m (setCan s b st cause) = view m s := view_up h (by
  unfold setCan; simp)
@[simp] theorem canUnsync_view (m : Nat) (s) (h : m &&& 202047488 = 202047488) :
    view m (canUnsync s) = view m s := view_up h (by
  unfold canUnsync; simp)
@[simp] theorem canSilent_view (m : Nat) (s) (h : m &&& 202047488 = 202047488) :
    view m (canSilent s) = view m s := view_up h (by
  unfold canSilent; simp)
@[simp] theorem writeJournal_view (m : Nat) (s j) (h : m &&& 8388608 = 8388608) :
    view m (writeJournal s j) = view m s := view_up h (by
  unfold writeJournal; simp)
@[simp] theorem writeSel_view (m : Nat) (s r) (h : m &&& 8388608 = 8388608) :
    view m (writeSel s r) = view m s := view_up h (by
  unfold writeSel; simp)
@[simp] theorem lapseSchedule_view (m : Nat) (s reason) (h : m &&& 210370560 = 210370560) :
    view m (lapseSchedule s reason) = view m s := view_up h (by
  unfold lapseSchedule; split <;> simp)
@[simp] theorem loseSync_view (m : Nat) (s) (h : m &&& 202051600 = 202051600) :
    view m (loseSync s) = view m s := view_up h (by
  unfold loseSync; simp)
@[simp] theorem regainSync_view (m : Nat) (s) (h : m &&& 16 = 16) : view m (regainSync s) = view m s := view_up h (by
  unfold regainSync; simp)
@[simp] theorem budgetCheck_view (m : Nat) (s dMax) (h : m &&& 201986064 = 201986064) :
    view m (budgetCheck s dMax) = view m s := view_up h (by
  unfold budgetCheck; simp)
@[simp] theorem becomeHead_view (m : Nat) (s cause) (h : m &&& 201986068 = 201986068) :
    view m (becomeHead s cause) = view m s := view_up h (by
  unfold becomeHead; simp)
@[simp] theorem leaveHead_view (m : Nat) (s cause) (h : m &&& 202051600 = 202051600) :
    view m (leaveHead s cause) = view m s := view_up h (by
  unfold leaveHead; simp)

/-! ### PowerClock -/

@[simp] theorem pumpStop_view (m : Nat) (was s) (h : m &&& 8 = 8) : view m (pumpStop was s) = view m s := view_up h (by
  unfold pumpStop; simp)

/-! ### Grid -/

@[simp] theorem modStream_view (m : Nat) (s p f) (h : m &&& 16 = 16) :
    view m (modStream s p f) = view m s := view_up h (by
  unfold modStream; simp)
@[simp] theorem discardDown_view (m : Nat) (s p) (h : m &&& 16 = 16) :
    view m (discardDown s p) = view m s := view_up h (by
  unfold discardDown; simp)
@[simp] theorem discardUp_view (m : Nat) (s p) (h : m &&& 16 = 16) : view m (discardUp s p) = view m s := view_up h (by
  unfold discardUp; simp)
@[simp] theorem settleAgain_view (m : Nat) (s) (h : m &&& 16 = 16) : view m (settleAgain s) = view m s := view_up h (by
  unfold settleAgain; (repeat' (first | (simp (maxDischargeDepth := 6); done) | split | (dsimp only; split) | (simp (maxDischargeDepth := 6); split))))
@[simp] theorem switchTo_view (m : Nat) (s p) (h : m &&& 201981968 = 201981968) :
    view m (switchTo s p) = view m s := view_up h (by
  unfold switchTo; simp)
@[simp] theorem markIrregular_view (m : Nat) (s frame) (h : m &&& 16 = 16) :
    view m (markIrregular s frame) = view m s := view_up h (by
  unfold markIrregular; simp)
@[simp] theorem follow_view (m : Nat) (s p f arr) (h : m &&& 16 = 16) :
    view m (follow s p f arr) = view m s := view_up h (by
  unfold follow; simp)
@[simp] theorem forward_view (m : Nat) (s word) (h : m &&& 67108864 = 67108864) :
    view m (forward s word) = view m s := view_up h (by
  unfold forward; simp)
@[simp] theorem extrapolate_view (m : Nat) (s n) (h : m &&& 67108880 = 67108880) :
    view m (extrapolate s n) = view m s := view_up h (by
  unfold extrapolate; (repeat' (first | (simp (maxDischargeDepth := 6); done) | split | (dsimp only; split) | (simp (maxDischargeDepth := 6); split))))
@[simp] theorem coastMiss_view (m : Nat) (s n) (h : m &&& 201981968 = 201981968) :
    view m (coastMiss s n) = view m s := view_up h (by
  unfold coastMiss; (repeat' (first | (simp (maxDischargeDepth := 6); done) | split | (dsimp only; split) | (simp (maxDischargeDepth := 6); split))))
@[simp] theorem takeUp_view (m : Nat) (s p) (h : m &&& 67108880 = 67108880) :
    view m (takeUp s p) = view m s := view_up h (by
  unfold takeUp; (repeat' (first | (simp (maxDischargeDepth := 6); done) | split | (dsimp only; split) | (simp (maxDischargeDepth := 6); split))))
@[simp] theorem afterMiss_view (m : Nat) (s n) (h : m &&& 201981968 = 201981968) :
    view m (afterMiss s n) = view m s := view_up h (by
  unfold afterMiss; (repeat' (first | (simp (maxDischargeDepth := 6); done) | split | (dsimp only; split) | (simp (maxDischargeDepth := 6); split))))
@[simp] theorem discardWaymark_view (m : Nat) (s p) (h : m &&& 201981968 = 201981968) :
    view m (discardWaymark s p) = view m s := view_up h (by
  unfold discardWaymark; (repeat' (first | (simp (maxDischargeDepth := 6); done) | split | (dsimp only; split) | (simp (maxDischargeDepth := 6); split))))
@[simp] theorem discardLate_view (m : Nat) (s p) (h : m &&& 16 = 16) :
    view m (discardLate s p) = view m s := view_up h (by
  unfold discardLate; (repeat' (first | (simp (maxDischargeDepth := 6); done) | split | (dsimp only; split) | (simp (maxDischargeDepth := 6); split))))
@[simp] theorem waymarkFault_view (m : Nat) (s p) (h : m &&& 201981968 = 201981968) :
    view m (waymarkFault s p) = view m s := view_up h (by
  unfold waymarkFault; (repeat' (first | (simp (maxDischargeDepth := 6); done) | split | (dsimp only; split) | (simp (maxDischargeDepth := 6); split))))
@[simp] theorem missedSchedule_view (m : Nat) (s) (h : m &&& 210370560 = 210370560) :
    view m (missedSchedule s) = view m s := view_up h (by
  unfold missedSchedule; split <;> simp)
@[simp] theorem streamAccepted_view (m : Nat) (s p f) (h : m &&& 210370576 = 210370576) :
    view m (streamAccepted s p f) = view m s := view_up h (by
  unfold streamAccepted; (repeat' (first | (simp (maxDischargeDepth := 6); done) | split | (dsimp only; split) | (simp (maxDischargeDepth := 6); split))))
@[simp] theorem judgeConflict_view (m : Nat) (s p n arr) (h : m &&& 201981968 = 201981968) :
    view m (judgeConflict s p n arr) = view m s := view_up h (by
  unfold judgeConflict; simp)
@[simp] theorem validWaymark_view (m : Nat) (s p f word arr) (h : m &&& 201981968 = 201981968) :
    view m (validWaymark s p f word arr) = view m s := view_up h (by
  unfold validWaymark; simp)
@[simp] theorem slewJudge_view (m : Nat) (s) (h : m &&& 16 = 16) : view m (slewJudge s) = view m s := view_up h (by
  unfold slewJudge; simp)
@[simp] theorem judgeHalf_view (m : Nat) (s) (h : m &&& 16 = 16) : view m (judgeHalf s) = view m s := view_up h (by
  unfold judgeHalf; (repeat' (first | (simp (maxDischargeDepth := 6); done) | split | (dsimp only; split) | (simp (maxDischargeDepth := 6); split))))
@[simp] theorem makeTick_view (m : Nat) (s) (h : m &&& 16 = 16) : view m (makeTick s).1 = view m s := view_up h (by
  unfold makeTick; (repeat' (first | (simp (maxDischargeDepth := 6); done) | split | (dsimp only; split) | (simp (maxDischargeDepth := 6); split))))
@[simp] theorem startEcho_view (m : Nat) (s p) (h : m &&& 67108880 = 67108880) :
    view m (startEcho s p) = view m s := view_up h (by
  unfold startEcho; simp)
@[simp] theorem echoCounted_view (m : Nat) (s p) (h : m &&& 67108880 = 67108880) :
    view m (echoCounted s p) = view m s := view_up h (by
  unfold echoCounted; (repeat' (first | (simp (maxDischargeDepth := 6); done) | split | (dsimp only; split) | (simp (maxDischargeDepth := 6); split))))
@[simp] theorem takeEcho_view (m : Nat) (s p b rtt) (h : m &&& 67108880 = 67108880) :
    view m (takeEcho s p b rtt) = view m s := view_up h (by
  unfold takeEcho; simp)
@[simp] theorem enumPort_view (m : Nat) (s p e) (h : m &&& 67108880 = 67108880) :
    view m (enumPort s p e) = view m s := view_up h (by
  unfold enumPort; split <;> simp)
@[simp] theorem sendHopComp_view (m : Nat) (s) (h : m &&& 67108864 = 67108864) :
    view m (sendHopComp s) = view m s := view_up h (by
  unfold sendHopComp; simp)

end Sys2Proof.Laws
end

