-- ==== Sys2Proof/Laws/Fields.lean ====
section
/-! SUPPORT. Fields of the state from equal views, and every field that the operations used throughout leave as it was. -/

namespace Sys2Proof.Laws

open Sys2Proof Sys2Proof.Machine

theorem same_ident {m : Nat} {s t : State} (e : view m t = view m s) (h : m / 2 % 2 = 1 → False) : t.ident = s.ident :=
  pick_clear h (congrArg View.ident e)
theorem same_elec {m : Nat} {s t : State} (e : view m t = view m s) (h : m / 4 % 2 = 1 → False) : t.elec = s.elec :=
  pick_clear h (congrArg View.elec e)
theorem same_clk {m : Nat} {s t : State} (e : view m t = view m s) (h : m / 8 % 2 = 1 → False) : t.clk = s.clk :=
  pick_clear h (congrArg View.clk e)
theorem same_grid {m : Nat} {s t : State} (e : view m t = view m s) (h : m / 16 % 2 = 1 → False) : t.grid = s.grid :=
  pick_clear h (congrArg View.grid e)
theorem same_ring {m : Nat} {s t : State} (e : view m t = view m s) (h : m / 32 % 2 = 1 → False) : t.ring = s.ring :=
  pick_clear h (congrArg View.ring e)
theorem same_front {m : Nat} {s t : State} (e : view m t = view m s) (h : m / 64 % 2 = 1 → False) : t.front = s.front :=
  pick_clear h (congrArg View.front e)
theorem same_fus {m : Nat} {s t : State} (e : view m t = view m s) (h : m / 128 % 2 = 1 → False) : t.fus = s.fus :=
  pick_clear h (congrArg View.fus e)
theorem same_est {m : Nat} {s t : State} (e : view m t = view m s) (h : m / 256 % 2 = 1 → False) : estRest t.est = estRest s.est :=
  pick_clear h (congrArg View.est e)
theorem same_peerBuf {m : Nat} {s t : State} (e : view m t = view m s) (h : m / 512 % 2 = 1 → False) : t.est.peerBuf = s.est.peerBuf :=
  pick_clear h (congrArg View.peerBuf e)
theorem same_therm {m : Nat} {s t : State} (e : view m t = view m s) (h : m / 1024 % 2 = 1 → False) : t.therm = s.therm :=
  pick_clear h (congrArg View.therm e)
theorem same_ctl {m : Nat} {s t : State} (e : view m t = view m s) (h : m / 2048 % 2 = 1 → False) : t.ctl = s.ctl :=
  pick_clear h (congrArg View.ctl e)
theorem same_hold {m : Nat} {s t : State} (e : view m t = view m s) (h : m / 4096 % 2 = 1 → False) : t.hold = s.hold :=
  pick_clear h (congrArg View.hold e)
theorem same_prot {m : Nat} {s t : State} (e : view m t = view m s) (h : m / 8192 % 2 = 1 → False) : t.prot = s.prot :=
  pick_clear h (congrArg View.prot e)
theorem same_outr {m : Nat} {s t : State} (e : view m t = view m s) (h : m / 16384 % 2 = 1 → False) : t.outr = s.outr :=
  pick_clear h (congrArg View.outr e)
theorem same_pair {m : Nat} {s t : State} (e : view m t = view m s) (h : m / 32768 % 2 = 1 → False) : t.pair = s.pair :=
  pick_clear h (congrArg View.pair e)
theorem same_can {m : Nat} {s t : State} (e : view m t = view m s) (h : m / 65536 % 2 = 1 → False) : t.can = s.can :=
  pick_clear h (congrArg View.can e)
theorem same_signals {m : Nat} {s t : State} (e : view m t = view m s) (h : m / 131072 % 2 = 1 → False) : portSignals t.host = portSignals s.host :=
  pick_clear h (congrArg View.signals e)
theorem same_host {m : Nat} {s t : State} (e : view m t = view m s) (h : m / 262144 % 2 = 1 → False) : hostRest t.host = hostRest s.host :=
  pick_clear h (congrArg View.host e)
theorem same_events {m : Nat} {s t : State} (e : view m t = view m s) (h : m / 524288 % 2 = 1 → False) : evRest t.ev = evRest s.ev :=
  pick_clear h (congrArg View.events e)
theorem same_records {m : Nat} {s t : State} (e : view m t = view m s) (h : m / 1048576 % 2 = 1 → False) : (t.ev.slots, t.ev.next) = (s.ev.slots, s.ev.next) :=
  pick_clear h (congrArg View.records e)
theorem same_acting {m : Nat} {s t : State} (e : view m t = view m s) (h : m / 2097152 % 2 = 1 → False) : (t.par.acting, t.par.pending) = (s.par.acting, s.par.pending) :=
  pick_clear h (congrArg View.acting e)
theorem same_par {m : Nat} {s t : State} (e : view m t = view m s) (h : m / 4194304 % 2 = 1 → False) : parRest t.par = parRest s.par :=
  pick_clear h (congrArg View.par e)
theorem same_upd {m : Nat} {s t : State} (e : view m t = view m s) (h : m / 8388608 % 2 = 1 → False) : updRest t.upd = updRest s.upd :=
  pick_clear h (congrArg View.upd e)
theorem same_stores {m : Nat} {s t : State} (e : view m t = view m s) (h : m / 16777216 % 2 = 1 → False) : (t.upd.image, t.upd.modelArea) = (s.upd.image, s.upd.modelArea) :=
  pick_clear h (congrArg View.stores e)
theorem same_pending {m : Nat} {s t : State} (e : view m t = view m s) (h : m / 33554432 % 2 = 1 → False) : t.pending = s.pending :=
  pick_clear h (congrArg View.pending e)
theorem same_sent {m : Nat} {s t : State} (e : view m t = view m s) (h : m / 67108864 % 2 = 1 → False) : t.sent = s.sent :=
  pick_clear h (congrArg View.sent e)
theorem same_freeCtr {m : Nat} {s t : State} (e : view m t = view m s) (h : m / 134217728 % 2 = 1 → False) : t.freeCtr = s.freeCtr :=
  pick_clear h (congrArg View.freeCtr e)
theorem same_host_all {m : Nat} {s t : State} (e : view m t = view m s) (h : m / 131072 % 2 = 1 → False) (h' : m / 262144 % 2 = 1 → False) :
    t.host = s.host := by
  have a := same_signals e h
  have b := same_host e h'
  rcases ht : t.host with ⟨⟨p0, p1⟩, l⟩
  rcases hs : s.host with ⟨⟨q0, q1⟩, k⟩
  rw [ht, hs] at a b
  simp only [hostRest, Two.map, HostBlock.mk.injEq, Two.mk.injEq, portSignals, List.cons.injEq, Prod.mk.injEq, and_true] at a b
  obtain ⟨⟨a1, a2⟩, a3, a4⟩ := a
  obtain ⟨⟨b1, b2⟩, b3⟩ := b
  cases p0; cases p1; cases q0; cases q1
  simp only [portRest, PortState.mk.injEq] at b1 b2
  simp_all

theorem whole_est {m : Nat} {s t : State} (e : view m t = view m s) (h : m / 256 % 2 = 1 → False) (h' : m / 512 % 2 = 1 → False) :
    t.est = s.est := by
  have a := same_est e h
  have b := same_peerBuf e h'
  generalize t.est = x at a b
  generalize s.est = y at a b
  cases x; cases y
  simp only [estRest, EstState.mk.injEq] at a b ⊢
  simp_all
theorem whole_ev {m : Nat} {s t : State} (e : view m t = view m s) (h : m / 524288 % 2 = 1 → False) (h' : m / 1048576 % 2 = 1 → False) :
    t.ev = s.ev := by
  have a := same_events e h
  have b := same_records e h'
  generalize t.ev = x at a b
  generalize s.ev = y at a b
  cases x; cases y
  simp only [evRest, EvState.mk.injEq, Prod.mk.injEq] at a b ⊢
  simp_all
theorem whole_par {m : Nat} {s t : State} (e : view m t = view m s) (h : m / 2097152 % 2 = 1 → False) (h' : m / 4194304 % 2 = 1 → False) :
    t.par = s.par := by
  have a := same_acting e h
  have b := same_par e h'
  generalize t.par = x at a b
  generalize s.par = y at a b
  cases x; cases y
  simp only [parRest, ParState.mk.injEq, Prod.mk.injEq] at a b ⊢
  simp_all
theorem whole_upd {m : Nat} {s t : State} (e : view m t = view m s) (h : m / 8388608 % 2 = 1 → False) (h' : m / 16777216 % 2 = 1 → False) :
    t.upd = s.upd := by
  have a := same_upd e h
  have b := same_stores e h'
  generalize t.upd = x at a b
  generalize s.upd = y at a b
  cases x; cases y
  simp only [updRest, UpdBlock.mk.injEq, Prod.mk.injEq] at a b ⊢
  simp_all

/-! ### newHandle -/

@[simp] theorem newHandle_ident (s : State) : ((newHandle s).2).ident = s.ident :=
  same_ident (m := 134217728) (by simp) (by decide)
@[simp] theorem newHandle_elec (s : State) : ((newHandle s).2).elec = s.elec :=
  same_elec (m := 134217728) (by simp) (by decide)
@[simp] theorem newHandle_clk (s : State) : ((newHandle s).2).clk = s.clk :=
  same_clk (m := 134217728) (by simp) (by decide)
@[simp] theorem newHandle_grid (s : State) : ((newHandle s).2).grid = s.grid :=
  same_grid (m := 134217728) (by simp) (by decide)
@[simp] theorem newHandle_ring (s : State) : ((newHandle s).2).ring = s.ring :=
  same_ring (m := 134217728) (by simp) (by decide)
@[simp] theorem newHandle_front (s : State) : ((newHandle s).2).front = s.front :=
  same_front (m := 134217728) (by simp) (by decide)
@[simp] theorem newHandle_fus (s : State) : ((newHandle s).2).fus = s.fus :=
  same_fus (m := 134217728) (by simp) (by decide)
@[simp] theorem newHandle_est (s : State) : ((newHandle s).2).est = s.est :=
  whole_est (m := 134217728) (by simp) (by decide) (by decide)
@[simp] theorem newHandle_therm (s : State) : ((newHandle s).2).therm = s.therm :=
  same_therm (m := 134217728) (by simp) (by decide)
@[simp] theorem newHandle_ctl (s : State) : ((newHandle s).2).ctl = s.ctl :=
  same_ctl (m := 134217728) (by simp) (by decide)
@[simp] theorem newHandle_hold (s : State) : ((newHandle s).2).hold = s.hold :=
  same_hold (m := 134217728) (by simp) (by decide)
@[simp] theorem newHandle_prot (s : State) : ((newHandle s).2).prot = s.prot :=
  same_prot (m := 134217728) (by simp) (by decide)
@[simp] theorem newHandle_outr (s : State) : ((newHandle s).2).outr = s.outr :=
  same_outr (m := 134217728) (by simp) (by decide)
@[simp] theorem newHandle_pair (s : State) : ((newHandle s).2).pair = s.pair :=
  same_pair (m := 134217728) (by simp) (by decide)
@[simp] theorem newHandle_can (s : State) : ((newHandle s).2).can = s.can :=
  same_can (m := 134217728) (by simp) (by decide)
@[simp] theorem newHandle_host (s : State) : ((newHandle s).2).host = s.host :=
  same_host_all (m := 134217728) (by simp) (by decide) (by decide)
@[simp] theorem newHandle_ev (s : State) : ((newHandle s).2).ev = s.ev :=
  whole_ev (m := 134217728) (by simp) (by decide) (by decide)
@[simp] theorem newHandle_par (s : State) : ((newHandle s).2).par = s.par :=
  whole_par (m := 134217728) (by simp) (by decide) (by decide)
@[simp] theorem newHandle_upd (s : State) : ((newHandle s).2).upd = s.upd :=
  whole_upd (m := 134217728) (by simp) (by decide) (by decide)
@[simp] theorem newHandle_pending (s : State) : ((newHandle s).2).pending = s.pending :=
  same_pending (m := 134217728) (by simp) (by decide)
@[simp] theorem newHandle_sent (s : State) : ((newHandle s).2).sent = s.sent :=
  same_sent (m := 134217728) (by simp) (by decide)

/-! ### sendVector -/

@[simp] theorem sendVector_ident (s : State) (p : Ix) (n : Nat) : (sendVector s p n).ident = s.ident :=
  same_ident (m := 67239936) (by simp) (by decide)
@[simp] theorem sendVector_elec (s : State) (p : Ix) (n : Nat) : (sendVector s p n).elec = s.elec :=
  same_elec (m := 67239936) (by simp) (by decide)
@[simp] theorem sendVector_clk (s : State) (p : Ix) (n : Nat) : (sendVector s p n).clk = s.clk :=
  same_clk (m := 67239936) (by simp) (by decide)
@[simp] theorem sendVector_grid (s : State) (p : Ix) (n : Nat) : (sendVector s p n).grid = s.grid :=
  same_grid (m := 67239936) (by simp) (by decide)
@[simp] theorem sendVector_ring (s : State) (p : Ix) (n : Nat) : (sendVector s p n).ring = s.ring :=
  same_ring (m := 67239936) (by simp) (by decide)
@[simp] theorem sendVector_front (s : State) (p : Ix) (n : Nat) : (sendVector s p n).front = s.front :=
  same_front (m := 67239936) (by simp) (by decide)
@[simp] theorem sendVector_fus (s : State) (p : Ix) (n : Nat) : (sendVector s p n).fus = s.fus :=
  same_fus (m := 67239936) (by simp) (by decide)
@[simp] theorem sendVector_est (s : State) (p : Ix) (n : Nat) : (sendVector s p n).est = s.est :=
  whole_est (m := 67239936) (by simp) (by decide) (by decide)
@[simp] theorem sendVector_therm (s : State) (p : Ix) (n : Nat) : (sendVector s p n).therm = s.therm :=
  same_therm (m := 67239936) (by simp) (by decide)
@[simp] theorem sendVector_ctl (s : State) (p : Ix) (n : Nat) : (sendVector s p n).ctl = s.ctl :=
  same_ctl (m := 67239936) (by simp) (by decide)
@[simp] theorem sendVector_hold (s : State) (p : Ix) (n : Nat) : (sendVector s p n).hold = s.hold :=
  same_hold (m := 67239936) (by simp) (by decide)
@[simp] theorem sendVector_prot (s : State) (p : Ix) (n : Nat) : (sendVector s p n).prot = s.prot :=
  same_prot (m := 67239936) (by simp) (by decide)
@[simp] theorem sendVector_outr (s : State) (p : Ix) (n : Nat) : (sendVector s p n).outr = s.outr :=
  same_outr (m := 67239936) (by simp) (by decide)
@[simp] theorem sendVector_pair (s : State) (p : Ix) (n : Nat) : (sendVector s p n).pair = s.pair :=
  same_pair (m := 67239936) (by simp) (by decide)
@[simp] theorem sendVector_can (s : State) (p : Ix) (n : Nat) : (sendVector s p n).can = s.can :=
  same_can (m := 67239936) (by simp) (by decide)
@[simp] theorem sendVector_ev (s : State) (p : Ix) (n : Nat) : (sendVector s p n).ev = s.ev :=
  whole_ev (m := 67239936) (by simp) (by decide) (by decide)
@[simp] theorem sendVector_par (s : State) (p : Ix) (n : Nat) : (sendVector s p n).par = s.par :=
  whole_par (m := 67239936) (by simp) (by decide) (by decide)
@[simp] theorem sendVector_upd (s : State) (p : Ix) (n : Nat) : (sendVector s p n).upd = s.upd :=
  whole_upd (m := 67239936) (by simp) (by decide) (by decide)
@[simp] theorem sendVector_pending (s : State) (p : Ix) (n : Nat) : (sendVector s p n).pending = s.pending :=
  same_pending (m := 67239936) (by simp) (by decide)
@[simp] theorem sendVector_freeCtr (s : State) (p : Ix) (n : Nat) : (sendVector s p n).freeCtr = s.freeCtr :=
  same_freeCtr (m := 67239936) (by simp) (by decide)

/-! ### enqueue -/

@[simp] theorem enqueue_ident (s : State) (o : Occ) : (enqueue s o).ident = s.ident :=
  same_ident (m := 524288) (by simp) (by decide)
@[simp] theorem enqueue_elec (s : State) (o : Occ) : (enqueue s o).elec = s.elec :=
  same_elec (m := 524288) (by simp) (by decide)
@[simp] theorem enqueue_clk (s : State) (o : Occ) : (enqueue s o).clk = s.clk :=
  same_clk (m := 524288) (by simp) (by decide)
@[simp] theorem enqueue_grid (s : State) (o : Occ) : (enqueue s o).grid = s.grid :=
  same_grid (m := 524288) (by simp) (by decide)
@[simp] theorem enqueue_ring (s : State) (o : Occ) : (enqueue s o).ring = s.ring :=
  same_ring (m := 524288) (by simp) (by decide)
@[simp] theorem enqueue_front (s : State) (o : Occ) : (enqueue s o).front = s.front :=
  same_front (m := 524288) (by simp) (by decide)
@[simp] theorem enqueue_fus (s : State) (o : Occ) : (enqueue s o).fus = s.fus :=
  same_fus (m := 524288) (by simp) (by decide)
@[simp] theorem enqueue_est (s : State) (o : Occ) : (enqueue s o).est = s.est :=
  whole_est (m := 524288) (by simp) (by decide) (by decide)
@[simp] theorem enqueue_therm (s : State) (o : Occ) : (enqueue s o).therm = s.therm :=
  same_therm (m := 524288) (by simp) (by decide)
@[simp] theorem enqueue_ctl (s : State) (o : Occ) : (enqueue s o).ctl = s.ctl :=
  same_ctl (m := 524288) (by simp) (by decide)
@[simp] theorem enqueue_hold (s : State) (o : Occ) : (enqueue s o).hold = s.hold :=
  same_hold (m := 524288) (by simp) (by decide)
@[simp] theorem enqueue_prot (s : State) (o : Occ) : (enqueue s o).prot = s.prot :=
  same_prot (m := 524288) (by simp) (by decide)
@[simp] theorem enqueue_outr (s : State) (o : Occ) : (enqueue s o).outr = s.outr :=
  same_outr (m := 524288) (by simp) (by decide)
@[simp] theorem enqueue_pair (s : State) (o : Occ) : (enqueue s o).pair = s.pair :=
  same_pair (m := 524288) (by simp) (by decide)
@[simp] theorem enqueue_can (s : State) (o : Occ) : (enqueue s o).can = s.can :=
  same_can (m := 524288) (by simp) (by decide)
@[simp] theorem enqueue_host (s : State) (o : Occ) : (enqueue s o).host = s.host :=
  same_host_all (m := 524288) (by simp) (by decide) (by decide)
@[simp] theorem enqueue_par (s : State) (o : Occ) : (enqueue s o).par = s.par :=
  whole_par (m := 524288) (by simp) (by decide) (by decide)
@[simp] theorem enqueue_upd (s : State) (o : Occ) : (enqueue s o).upd = s.upd :=
  whole_upd (m := 524288) (by simp) (by decide) (by decide)
@[simp] theorem enqueue_pending (s : State) (o : Occ) : (enqueue s o).pending = s.pending :=
  same_pending (m := 524288) (by simp) (by decide)
@[simp] theorem enqueue_sent (s : State) (o : Occ) : (enqueue s o).sent = s.sent :=
  same_sent (m := 524288) (by simp) (by decide)
@[simp] theorem enqueue_freeCtr (s : State) (o : Occ) : (enqueue s o).freeCtr = s.freeCtr :=
  same_freeCtr (m := 524288) (by simp) (by decide)

/-! ### signalBoth -/

@[simp] theorem signalBoth_ident (s : State) (e : Nat) : (signalBoth s e).ident = s.ident :=
  same_ident (m := 67239936) (by simp) (by decide)
@[simp] theorem signalBoth_elec (s : State) (e : Nat) : (signalBoth s e).elec = s.elec :=
  same_elec (m := 67239936) (by simp) (by decide)
@[simp] theorem signalBoth_clk (s : State) (e : Nat) : (signalBoth s e).clk = s.clk :=
  same_clk (m := 67239936) (by simp) (by decide)
@[simp] theorem signalBoth_grid (s : State) (e : Nat) : (signalBoth s e).grid = s.grid :=
  same_grid (m := 67239936) (by simp) (by decide)
@[simp] theorem signalBoth_ring (s : State) (e : Nat) : (signalBoth s e).ring = s.ring :=
  same_ring (m := 67239936) (by simp) (by decide)
@[simp] theorem signalBoth_front (s : State) (e : Nat) : (signalBoth s e).front = s.front :=
  same_front (m := 67239936) (by simp) (by decide)
@[simp] theorem signalBoth_fus (s : State) (e : Nat) : (signalBoth s e).fus = s.fus :=
  same_fus (m := 67239936) (by simp) (by decide)
@[simp] theorem signalBoth_est (s : State) (e : Nat) : (signalBoth s e).est = s.est :=
  whole_est (m := 67239936) (by simp) (by decide) (by decide)
@[simp] theorem signalBoth_therm (s : State) (e : Nat) : (signalBoth s e).therm = s.therm :=
  same_therm (m := 67239936) (by simp) (by decide)
@[simp] theorem signalBoth_ctl (s : State) (e : Nat) : (signalBoth s e).ctl = s.ctl :=
  same_ctl (m := 67239936) (by simp) (by decide)
@[simp] theorem signalBoth_hold (s : State) (e : Nat) : (signalBoth s e).hold = s.hold :=
  same_hold (m := 67239936) (by simp) (by decide)
@[simp] theorem signalBoth_prot (s : State) (e : Nat) : (signalBoth s e).prot = s.prot :=
  same_prot (m := 67239936) (by simp) (by decide)
@[simp] theorem signalBoth_outr (s : State) (e : Nat) : (signalBoth s e).outr = s.outr :=
  same_outr (m := 67239936) (by simp) (by decide)
@[simp] theorem signalBoth_pair (s : State) (e : Nat) : (signalBoth s e).pair = s.pair :=
  same_pair (m := 67239936) (by simp) (by decide)
@[simp] theorem signalBoth_can (s : State) (e : Nat) : (signalBoth s e).can = s.can :=
  same_can (m := 67239936) (by simp) (by decide)
@[simp] theorem signalBoth_ev (s : State) (e : Nat) : (signalBoth s e).ev = s.ev :=
  whole_ev (m := 67239936) (by simp) (by decide) (by decide)
@[simp] theorem signalBoth_par (s : State) (e : Nat) : (signalBoth s e).par = s.par :=
  whole_par (m := 67239936) (by simp) (by decide) (by decide)
@[simp] theorem signalBoth_upd (s : State) (e : Nat) : (signalBoth s e).upd = s.upd :=
  whole_upd (m := 67239936) (by simp) (by decide) (by decide)
@[simp] theorem signalBoth_pending (s : State) (e : Nat) : (signalBoth s e).pending = s.pending :=
  same_pending (m := 67239936) (by simp) (by decide)
@[simp] theorem signalBoth_freeCtr (s : State) (e : Nat) : (signalBoth s e).freeCtr = s.freeCtr :=
  same_freeCtr (m := 67239936) (by simp) (by decide)

/-! ### raisePast -/

@[simp] theorem raisePast_ident (s : State) (e : Nat) (d : List Byte) : (raisePast s e d).ident = s.ident :=
  same_ident (m := 201981952) (by simp) (by decide)
@[simp] theorem raisePast_elec (s : State) (e : Nat) (d : List Byte) : (raisePast s e d).elec = s.elec :=
  same_elec (m := 201981952) (by simp) (by decide)
@[simp] theorem raisePast_clk (s : State) (e : Nat) (d : List Byte) : (raisePast s e d).clk = s.clk :=
  same_clk (m := 201981952) (by simp) (by decide)
@[simp] theorem raisePast_grid (s : State) (e : Nat) (d : List Byte) : (raisePast s e d).grid = s.grid :=
  same_grid (m := 201981952) (by simp) (by decide)
@[simp] theorem raisePast_ring (s : State) (e : Nat) (d : List Byte) : (raisePast s e d).ring = s.ring :=
  same_ring (m := 201981952) (by simp) (by decide)
@[simp] theorem raisePast_front (s : State) (e : Nat) (d : List Byte) : (raisePast s e d).front = s.front :=
  same_front (m := 201981952) (by simp) (by decide)
@[simp] theorem raisePast_fus (s : State) (e : Nat) (d : List Byte) : (raisePast s e d).fus = s.fus :=
  same_fus (m := 201981952) (by simp) (by decide)
@[simp] theorem raisePast_est (s : State) (e : Nat) (d : List Byte) : (raisePast s e d).est = s.est :=
  whole_est (m := 201981952) (by simp) (by decide) (by decide)
@[simp] theorem raisePast_therm (s : State) (e : Nat) (d : List Byte) : (raisePast s e d).therm = s.therm :=
  same_therm (m := 201981952) (by simp) (by decide)
@[simp] theorem raisePast_ctl (s : State) (e : Nat) (d : List Byte) : (raisePast s e d).ctl = s.ctl :=
  same_ctl (m := 201981952) (by simp) (by decide)
@[simp] theorem raisePast_hold (s : State) (e : Nat) (d : List Byte) : (raisePast s e d).hold = s.hold :=
  same_hold (m := 201981952) (by simp) (by decide)
@[simp] theorem raisePast_prot (s : State) (e : Nat) (d : List Byte) : (raisePast s e d).prot = s.prot :=
  same_prot (m := 201981952) (by simp) (by decide)
@[simp] theorem raisePast_outr (s : State) (e : Nat) (d : List Byte) : (raisePast s e d).outr = s.outr :=
  same_outr (m := 201981952) (by simp) (by decide)
@[simp] theorem raisePast_pair (s : State) (e : Nat) (d : List Byte) : (raisePast s e d).pair = s.pair :=
  same_pair (m := 201981952) (by simp) (by decide)
@[simp] theorem raisePast_can (s : State) (e : Nat) (d : List Byte) : (raisePast s e d).can = s.can :=
  same_can (m := 201981952) (by simp) (by decide)
@[simp] theorem raisePast_par (s : State) (e : Nat) (d : List Byte) : (raisePast s e d).par = s.par :=
  whole_par (m := 201981952) (by simp) (by decide) (by decide)
@[simp] theorem raisePast_upd (s : State) (e : Nat) (d : List Byte) : (raisePast s e d).upd = s.upd :=
  whole_upd (m := 201981952) (by simp) (by decide) (by decide)
@[simp] theorem raisePast_pending (s : State) (e : Nat) (d : List Byte) : (raisePast s e d).pending = s.pending :=
  same_pending (m := 201981952) (by simp) (by decide)

/-! ### raise -/

@[simp] theorem raise_ident (s : State) (e : Nat) (d : List Byte) : (raise s e d).ident = s.ident :=
  same_ident (m := 201981952) (by simp) (by decide)
@[simp] theorem raise_elec (s : State) (e : Nat) (d : List Byte) : (raise s e d).elec = s.elec :=
  same_elec (m := 201981952) (by simp) (by decide)
@[simp] theorem raise_clk (s : State) (e : Nat) (d : List Byte) : (raise s e d).clk = s.clk :=
  same_clk (m := 201981952) (by simp) (by decide)
@[simp] theorem raise_grid (s : State) (e : Nat) (d : List Byte) : (raise s e d).grid = s.grid :=
  same_grid (m := 201981952) (by simp) (by decide)
@[simp] theorem raise_ring (s : State) (e : Nat) (d : List Byte) : (raise s e d).ring = s.ring :=
  same_ring (m := 201981952) (by simp) (by decide)
@[simp] theorem raise_front (s : State) (e : Nat) (d : List Byte) : (raise s e d).front = s.front :=
  same_front (m := 201981952) (by simp) (by decide)
@[simp] theorem raise_fus (s : State) (e : Nat) (d : List Byte) : (raise s e d).fus = s.fus :=
  same_fus (m := 201981952) (by simp) (by decide)
@[simp] theorem raise_est (s : State) (e : Nat) (d : List Byte) : (raise s e d).est = s.est :=
  whole_est (m := 201981952) (by simp) (by decide) (by decide)
@[simp] theorem raise_therm (s : State) (e : Nat) (d : List Byte) : (raise s e d).therm = s.therm :=
  same_therm (m := 201981952) (by simp) (by decide)
@[simp] theorem raise_ctl (s : State) (e : Nat) (d : List Byte) : (raise s e d).ctl = s.ctl :=
  same_ctl (m := 201981952) (by simp) (by decide)
@[simp] theorem raise_hold (s : State) (e : Nat) (d : List Byte) : (raise s e d).hold = s.hold :=
  same_hold (m := 201981952) (by simp) (by decide)
@[simp] theorem raise_prot (s : State) (e : Nat) (d : List Byte) : (raise s e d).prot = s.prot :=
  same_prot (m := 201981952) (by simp) (by decide)
@[simp] theorem raise_outr (s : State) (e : Nat) (d : List Byte) : (raise s e d).outr = s.outr :=
  same_outr (m := 201981952) (by simp) (by decide)
@[simp] theorem raise_pair (s : State) (e : Nat) (d : List Byte) : (raise s e d).pair = s.pair :=
  same_pair (m := 201981952) (by simp) (by decide)
@[simp] theorem raise_can (s : State) (e : Nat) (d : List Byte) : (raise s e d).can = s.can :=
  same_can (m := 201981952) (by simp) (by decide)
@[simp] theorem raise_par (s : State) (e : Nat) (d : List Byte) : (raise s e d).par = s.par :=
  whole_par (m := 201981952) (by simp) (by decide) (by decide)
@[simp] theorem raise_upd (s : State) (e : Nat) (d : List Byte) : (raise s e d).upd = s.upd :=
  whole_upd (m := 201981952) (by simp) (by decide) (by decide)
@[simp] theorem raise_pending (s : State) (e : Nat) (d : List Byte) : (raise s e d).pending = s.pending :=
  same_pending (m := 201981952) (by simp) (by decide)

/-! ### raiseIf -/

@[simp] theorem raiseIf_ident (s : State) (c : Bool) (e : Nat) (d : List Byte) : (raiseIf s c e d).ident = s.ident :=
  same_ident (m := 201981952) (by simp) (by decide)
@[simp] theorem raiseIf_elec (s : State) (c : Bool) (e : Nat) (d : List Byte) : (raiseIf s c e d).elec = s.elec :=
  same_elec (m := 201981952) (by simp) (by decide)
@[simp] theorem raiseIf_clk (s : State) (c : Bool) (e : Nat) (d : List Byte) : (raiseIf s c e d).clk = s.clk :=
  same_clk (m := 201981952) (by simp) (by decide)
@[simp] theorem raiseIf_grid (s : State) (c : Bool) (e : Nat) (d : List Byte) : (raiseIf s c e d).grid = s.grid :=
  same_grid (m := 201981952) (by simp) (by decide)
@[simp] theorem raiseIf_ring (s : State) (c : Bool) (e : Nat) (d : List Byte) : (raiseIf s c e d).ring = s.ring :=
  same_ring (m := 201981952) (by simp) (by decide)
@[simp] theorem raiseIf_front (s : State) (c : Bool) (e : Nat) (d : List Byte) : (raiseIf s c e d).front = s.front :=
  same_front (m := 201981952) (by simp) (by decide)
@[simp] theorem raiseIf_fus (s : State) (c : Bool) (e : Nat) (d : List Byte) : (raiseIf s c e d).fus = s.fus :=
  same_fus (m := 201981952) (by simp) (by decide)
@[simp] theorem raiseIf_est (s : State) (c : Bool) (e : Nat) (d : List Byte) : (raiseIf s c e d).est = s.est :=
  whole_est (m := 201981952) (by simp) (by decide) (by decide)
@[simp] theorem raiseIf_therm (s : State) (c : Bool) (e : Nat) (d : List Byte) : (raiseIf s c e d).therm = s.therm :=
  same_therm (m := 201981952) (by simp) (by decide)
@[simp] theorem raiseIf_ctl (s : State) (c : Bool) (e : Nat) (d : List Byte) : (raiseIf s c e d).ctl = s.ctl :=
  same_ctl (m := 201981952) (by simp) (by decide)
@[simp] theorem raiseIf_hold (s : State) (c : Bool) (e : Nat) (d : List Byte) : (raiseIf s c e d).hold = s.hold :=
  same_hold (m := 201981952) (by simp) (by decide)
@[simp] theorem raiseIf_prot (s : State) (c : Bool) (e : Nat) (d : List Byte) : (raiseIf s c e d).prot = s.prot :=
  same_prot (m := 201981952) (by simp) (by decide)
@[simp] theorem raiseIf_outr (s : State) (c : Bool) (e : Nat) (d : List Byte) : (raiseIf s c e d).outr = s.outr :=
  same_outr (m := 201981952) (by simp) (by decide)
@[simp] theorem raiseIf_pair (s : State) (c : Bool) (e : Nat) (d : List Byte) : (raiseIf s c e d).pair = s.pair :=
  same_pair (m := 201981952) (by simp) (by decide)
@[simp] theorem raiseIf_can (s : State) (c : Bool) (e : Nat) (d : List Byte) : (raiseIf s c e d).can = s.can :=
  same_can (m := 201981952) (by simp) (by decide)
@[simp] theorem raiseIf_par (s : State) (c : Bool) (e : Nat) (d : List Byte) : (raiseIf s c e d).par = s.par :=
  whole_par (m := 201981952) (by simp) (by decide) (by decide)
@[simp] theorem raiseIf_upd (s : State) (c : Bool) (e : Nat) (d : List Byte) : (raiseIf s c e d).upd = s.upd :=
  whole_upd (m := 201981952) (by simp) (by decide) (by decide)
@[simp] theorem raiseIf_pending (s : State) (c : Bool) (e : Nat) (d : List Byte) : (raiseIf s c e d).pending = s.pending :=
  same_pending (m := 201981952) (by simp) (by decide)

/-! ### raiseOnce -/

@[simp] theorem raiseOnce_ident (s : State) (e k n : Nat) (d : List Byte) : (raiseOnce s e k n d).ident = s.ident :=
  same_ident (m := 201981952) (by simp) (by decide)
@[simp] theorem raiseOnce_elec (s : State) (e k n : Nat) (d : List Byte) : (raiseOnce s e k n d).elec = s.elec :=
  same_elec (m := 201981952) (by simp) (by decide)
@[simp] theorem raiseOnce_clk (s : State) (e k n : Nat) (d : List Byte) : (raiseOnce s e k n d).clk = s.clk :=
  same_clk (m := 201981952) (by simp) (by decide)
@[simp] theorem raiseOnce_grid (s : State) (e k n : Nat) (d : List Byte) : (raiseOnce s e k n d).grid = s.grid :=
  same_grid (m := 201981952) (by simp) (by decide)
@[simp] theorem raiseOnce_ring (s : State) (e k n : Nat) (d : List Byte) : (raiseOnce s e k n d).ring = s.ring :=
  same_ring (m := 201981952) (by simp) (by decide)
@[simp] theorem raiseOnce_front (s : State) (e k n : Nat) (d : List Byte) : (raiseOnce s e k n d).front = s.front :=
  same_front (m := 201981952) (by simp) (by decide)
@[simp] theorem raiseOnce_fus (s : State) (e k n : Nat) (d : List Byte) : (raiseOnce s e k n d).fus = s.fus :=
  same_fus (m := 201981952) (by simp) (by decide)
@[simp] theorem raiseOnce_est (s : State) (e k n : Nat) (d : List Byte) : (raiseOnce s e k n d).est = s.est :=
  whole_est (m := 201981952) (by simp) (by decide) (by decide)
@[simp] theorem raiseOnce_therm (s : State) (e k n : Nat) (d : List Byte) : (raiseOnce s e k n d).therm = s.therm :=
  same_therm (m := 201981952) (by simp) (by decide)
@[simp] theorem raiseOnce_ctl (s : State) (e k n : Nat) (d : List Byte) : (raiseOnce s e k n d).ctl = s.ctl :=
  same_ctl (m := 201981952) (by simp) (by decide)
@[simp] theorem raiseOnce_hold (s : State) (e k n : Nat) (d : List Byte) : (raiseOnce s e k n d).hold = s.hold :=
  same_hold (m := 201981952) (by simp) (by decide)
@[simp] theorem raiseOnce_prot (s : State) (e k n : Nat) (d : List Byte) : (raiseOnce s e k n d).prot = s.prot :=
  same_prot (m := 201981952) (by simp) (by decide)
@[simp] theorem raiseOnce_outr (s : State) (e k n : Nat) (d : List Byte) : (raiseOnce s e k n d).outr = s.outr :=
  same_outr (m := 201981952) (by simp) (by decide)
@[simp] theorem raiseOnce_pair (s : State) (e k n : Nat) (d : List Byte) : (raiseOnce s e k n d).pair = s.pair :=
  same_pair (m := 201981952) (by simp) (by decide)
@[simp] theorem raiseOnce_can (s : State) (e k n : Nat) (d : List Byte) : (raiseOnce s e k n d).can = s.can :=
  same_can (m := 201981952) (by simp) (by decide)
@[simp] theorem raiseOnce_par (s : State) (e k n : Nat) (d : List Byte) : (raiseOnce s e k n d).par = s.par :=
  whole_par (m := 201981952) (by simp) (by decide) (by decide)
@[simp] theorem raiseOnce_upd (s : State) (e k n : Nat) (d : List Byte) : (raiseOnce s e k n d).upd = s.upd :=
  whole_upd (m := 201981952) (by simp) (by decide) (by decide)
@[simp] theorem raiseOnce_pending (s : State) (e k n : Nat) (d : List Byte) : (raiseOnce s e k n d).pending = s.pending :=
  same_pending (m := 201981952) (by simp) (by decide)

/-! ### writeResponse -/

@[simp] theorem writeResponse_ident (s : State) (h : Hdr) (op : Nat) (st : Status) (dt id : Nat) (w : Option (Nat × Nat × Nat)) (b : List Byte) : (writeResponse s h op st dt id w b).ident = s.ident :=
  same_ident (m := 67502080) (by simp) (by decide)
@[simp] theorem writeResponse_elec (s : State) (h : Hdr) (op : Nat) (st : Status) (dt id : Nat) (w : Option (Nat × Nat × Nat)) (b : List Byte) : (writeResponse s h op st dt id w b).elec = s.elec :=
  same_elec (m := 67502080) (by simp) (by decide)
@[simp] theorem writeResponse_clk (s : State) (h : Hdr) (op : Nat) (st : Status) (dt id : Nat) (w : Option (Nat × Nat × Nat)) (b : List Byte) : (writeResponse s h op st dt id w b).clk = s.clk :=
  same_clk (m := 67502080) (by simp) (by decide)
@[simp] theorem writeResponse_grid (s : State) (h : Hdr) (op : Nat) (st : Status) (dt id : Nat) (w : Option (Nat × Nat × Nat)) (b : List Byte) : (writeResponse s h op st dt id w b).grid = s.grid :=
  same_grid (m := 67502080) (by simp) (by decide)
@[simp] theorem writeResponse_ring (s : State) (h : Hdr) (op : Nat) (st : Status) (dt id : Nat) (w : Option (Nat × Nat × Nat)) (b : List Byte) : (writeResponse s h op st dt id w b).ring = s.ring :=
  same_ring (m := 67502080) (by simp) (by decide)
@[simp] theorem writeResponse_front (s : State) (h : Hdr) (op : Nat) (st : Status) (dt id : Nat) (w : Option (Nat × Nat × Nat)) (b : List Byte) : (writeResponse s h op st dt id w b).front = s.front :=
  same_front (m := 67502080) (by simp) (by decide)
@[simp] theorem writeResponse_fus (s : State) (h : Hdr) (op : Nat) (st : Status) (dt id : Nat) (w : Option (Nat × Nat × Nat)) (b : List Byte) : (writeResponse s h op st dt id w b).fus = s.fus :=
  same_fus (m := 67502080) (by simp) (by decide)
@[simp] theorem writeResponse_est (s : State) (h : Hdr) (op : Nat) (st : Status) (dt id : Nat) (w : Option (Nat × Nat × Nat)) (b : List Byte) : (writeResponse s h op st dt id w b).est = s.est :=
  whole_est (m := 67502080) (by simp) (by decide) (by decide)
@[simp] theorem writeResponse_therm (s : State) (h : Hdr) (op : Nat) (st : Status) (dt id : Nat) (w : Option (Nat × Nat × Nat)) (b : List Byte) : (writeResponse s h op st dt id w b).therm = s.therm :=
  same_therm (m := 67502080) (by simp) (by decide)
@[simp] theorem writeResponse_ctl (s : State) (h : Hdr) (op : Nat) (st : Status) (dt id : Nat) (w : Option (Nat × Nat × Nat)) (b : List Byte) : (writeResponse s h op st dt id w b).ctl = s.ctl :=
  same_ctl (m := 67502080) (by simp) (by decide)
@[simp] theorem writeResponse_hold (s : State) (h : Hdr) (op : Nat) (st : Status) (dt id : Nat) (w : Option (Nat × Nat × Nat)) (b : List Byte) : (writeResponse s h op st dt id w b).hold = s.hold :=
  same_hold (m := 67502080) (by simp) (by decide)
@[simp] theorem writeResponse_prot (s : State) (h : Hdr) (op : Nat) (st : Status) (dt id : Nat) (w : Option (Nat × Nat × Nat)) (b : List Byte) : (writeResponse s h op st dt id w b).prot = s.prot :=
  same_prot (m := 67502080) (by simp) (by decide)
@[simp] theorem writeResponse_outr (s : State) (h : Hdr) (op : Nat) (st : Status) (dt id : Nat) (w : Option (Nat × Nat × Nat)) (b : List Byte) : (writeResponse s h op st dt id w b).outr = s.outr :=
  same_outr (m := 67502080) (by simp) (by decide)
@[simp] theorem writeResponse_pair (s : State) (h : Hdr) (op : Nat) (st : Status) (dt id : Nat) (w : Option (Nat × Nat × Nat)) (b : List Byte) : (writeResponse s h op st dt id w b).pair = s.pair :=
  same_pair (m := 67502080) (by simp) (by decide)
@[simp] theorem writeResponse_can (s : State) (h : Hdr) (op : Nat) (st : Status) (dt id : Nat) (w : Option (Nat × Nat × Nat)) (b : List Byte) : (writeResponse s h op st dt id w b).can = s.can :=
  same_can (m := 67502080) (by simp) (by decide)
@[simp] theorem writeResponse_ev (s : State) (h : Hdr) (op : Nat) (st : Status) (dt id : Nat) (w : Option (Nat × Nat × Nat)) (b : List Byte) : (writeResponse s h op st dt id w b).ev = s.ev :=
  whole_ev (m := 67502080) (by simp) (by decide) (by decide)
@[simp] theorem writeResponse_par (s : State) (h : Hdr) (op : Nat) (st : Status) (dt id : Nat) (w : Option (Nat × Nat × Nat)) (b : List Byte) : (writeResponse s h op st dt id w b).par = s.par :=
  whole_par (m := 67502080) (by simp) (by decide) (by decide)
@[simp] theorem writeResponse_upd (s : State) (h : Hdr) (op : Nat) (st : Status) (dt id : Nat) (w : Option (Nat × Nat × Nat)) (b : List Byte) : (writeResponse s h op st dt id w b).upd = s.upd :=
  whole_upd (m := 67502080) (by simp) (by decide) (by decide)
@[simp] theorem writeResponse_pending (s : State) (h : Hdr) (op : Nat) (st : Status) (dt id : Nat) (w : Option (Nat × Nat × Nat)) (b : List Byte) : (writeResponse s h op st dt id w b).pending = s.pending :=
  same_pending (m := 67502080) (by simp) (by decide)
@[simp] theorem writeResponse_freeCtr (s : State) (h : Hdr) (op : Nat) (st : Status) (dt id : Nat) (w : Option (Nat × Nat × Nat)) (b : List Byte) : (writeResponse s h op st dt id w b).freeCtr = s.freeCtr :=
  same_freeCtr (m := 67502080) (by simp) (by decide)

/-! ### respondFull -/

@[simp] theorem respondFull_ident (s : State) (h : Hdr) (op : Nat) (st : Status) (dt id : Nat) (w : Option (Nat × Nat × Nat)) (b : List Byte) : (respondFull s h op st dt id w b).ident = s.ident :=
  same_ident (m := 67502080) (by simp) (by decide)
@[simp] theorem respondFull_elec (s : State) (h : Hdr) (op : Nat) (st : Status) (dt id : Nat) (w : Option (Nat × Nat × Nat)) (b : List Byte) : (respondFull s h op st dt id w b).elec = s.elec :=
  same_elec (m := 67502080) (by simp) (by decide)
@[simp] theorem respondFull_clk (s : State) (h : Hdr) (op : Nat) (st : Status) (dt id : Nat) (w : Option (Nat × Nat × Nat)) (b : List Byte) : (respondFull s h op st dt id w b).clk = s.clk :=
  same_clk (m := 67502080) (by simp) (by decide)
@[simp] theorem respondFull_grid (s : State) (h : Hdr) (op : Nat) (st : Status) (dt id : Nat) (w : Option (Nat × Nat × Nat)) (b : List Byte) : (respondFull s h op st dt id w b).grid = s.grid :=
  same_grid (m := 67502080) (by simp) (by decide)
@[simp] theorem respondFull_ring (s : State) (h : Hdr) (op : Nat) (st : Status) (dt id : Nat) (w : Option (Nat × Nat × Nat)) (b : List Byte) : (respondFull s h op st dt id w b).ring = s.ring :=
  same_ring (m := 67502080) (by simp) (by decide)
@[simp] theorem respondFull_front (s : State) (h : Hdr) (op : Nat) (st : Status) (dt id : Nat) (w : Option (Nat × Nat × Nat)) (b : List Byte) : (respondFull s h op st dt id w b).front = s.front :=
  same_front (m := 67502080) (by simp) (by decide)
@[simp] theorem respondFull_fus (s : State) (h : Hdr) (op : Nat) (st : Status) (dt id : Nat) (w : Option (Nat × Nat × Nat)) (b : List Byte) : (respondFull s h op st dt id w b).fus = s.fus :=
  same_fus (m := 67502080) (by simp) (by decide)
@[simp] theorem respondFull_est (s : State) (h : Hdr) (op : Nat) (st : Status) (dt id : Nat) (w : Option (Nat × Nat × Nat)) (b : List Byte) : (respondFull s h op st dt id w b).est = s.est :=
  whole_est (m := 67502080) (by simp) (by decide) (by decide)
@[simp] theorem respondFull_therm (s : State) (h : Hdr) (op : Nat) (st : Status) (dt id : Nat) (w : Option (Nat × Nat × Nat)) (b : List Byte) : (respondFull s h op st dt id w b).therm = s.therm :=
  same_therm (m := 67502080) (by simp) (by decide)
@[simp] theorem respondFull_ctl (s : State) (h : Hdr) (op : Nat) (st : Status) (dt id : Nat) (w : Option (Nat × Nat × Nat)) (b : List Byte) : (respondFull s h op st dt id w b).ctl = s.ctl :=
  same_ctl (m := 67502080) (by simp) (by decide)
@[simp] theorem respondFull_hold (s : State) (h : Hdr) (op : Nat) (st : Status) (dt id : Nat) (w : Option (Nat × Nat × Nat)) (b : List Byte) : (respondFull s h op st dt id w b).hold = s.hold :=
  same_hold (m := 67502080) (by simp) (by decide)
@[simp] theorem respondFull_prot (s : State) (h : Hdr) (op : Nat) (st : Status) (dt id : Nat) (w : Option (Nat × Nat × Nat)) (b : List Byte) : (respondFull s h op st dt id w b).prot = s.prot :=
  same_prot (m := 67502080) (by simp) (by decide)
@[simp] theorem respondFull_outr (s : State) (h : Hdr) (op : Nat) (st : Status) (dt id : Nat) (w : Option (Nat × Nat × Nat)) (b : List Byte) : (respondFull s h op st dt id w b).outr = s.outr :=
  same_outr (m := 67502080) (by simp) (by decide)
@[simp] theorem respondFull_pair (s : State) (h : Hdr) (op : Nat) (st : Status) (dt id : Nat) (w : Option (Nat × Nat × Nat)) (b : List Byte) : (respondFull s h op st dt id w b).pair = s.pair :=
  same_pair (m := 67502080) (by simp) (by decide)
@[simp] theorem respondFull_can (s : State) (h : Hdr) (op : Nat) (st : Status) (dt id : Nat) (w : Option (Nat × Nat × Nat)) (b : List Byte) : (respondFull s h op st dt id w b).can = s.can :=
  same_can (m := 67502080) (by simp) (by decide)
@[simp] theorem respondFull_ev (s : State) (h : Hdr) (op : Nat) (st : Status) (dt id : Nat) (w : Option (Nat × Nat × Nat)) (b : List Byte) : (respondFull s h op st dt id w b).ev = s.ev :=
  whole_ev (m := 67502080) (by simp) (by decide) (by decide)
@[simp] theorem respondFull_par (s : State) (h : Hdr) (op : Nat) (st : Status) (dt id : Nat) (w : Option (Nat × Nat × Nat)) (b : List Byte) : (respondFull s h op st dt id w b).par = s.par :=
  whole_par (m := 67502080) (by simp) (by decide) (by decide)
@[simp] theorem respondFull_upd (s : State) (h : Hdr) (op : Nat) (st : Status) (dt id : Nat) (w : Option (Nat × Nat × Nat)) (b : List Byte) : (respondFull s h op st dt id w b).upd = s.upd :=
  whole_upd (m := 67502080) (by simp) (by decide) (by decide)
@[simp] theorem respondFull_pending (s : State) (h : Hdr) (op : Nat) (st : Status) (dt id : Nat) (w : Option (Nat × Nat × Nat)) (b : List Byte) : (respondFull s h op st dt id w b).pending = s.pending :=
  same_pending (m := 67502080) (by simp) (by decide)
@[simp] theorem respondFull_freeCtr (s : State) (h : Hdr) (op : Nat) (st : Status) (dt id : Nat) (w : Option (Nat × Nat × Nat)) (b : List Byte) : (respondFull s h op st dt id w b).freeCtr = s.freeCtr :=
  same_freeCtr (m := 67502080) (by simp) (by decide)

/-! ### respondOk -/

@[simp] theorem respondOk_ident (s : State) (h : Hdr) (op : Nat) (b : List Byte) : (respondOk s h op b).ident = s.ident :=
  same_ident (m := 67502080) (by simp) (by decide)
@[simp] theorem respondOk_elec (s : State) (h : Hdr) (op : Nat) (b : List Byte) : (respondOk s h op b).elec = s.elec :=
  same_elec (m := 67502080) (by simp) (by decide)
@[simp] theorem respondOk_clk (s : State) (h : Hdr) (op : Nat) (b : List Byte) : (respondOk s h op b).clk = s.clk :=
  same_clk (m := 67502080) (by simp) (by decide)
@[simp] theorem respondOk_grid (s : State) (h : Hdr) (op : Nat) (b : List Byte) : (respondOk s h op b).grid = s.grid :=
  same_grid (m := 67502080) (by simp) (by decide)
@[simp] theorem respondOk_ring (s : State) (h : Hdr) (op : Nat) (b : List Byte) : (respondOk s h op b).ring = s.ring :=
  same_ring (m := 67502080) (by simp) (by decide)
@[simp] theorem respondOk_front (s : State) (h : Hdr) (op : Nat) (b : List Byte) : (respondOk s h op b).front = s.front :=
  same_front (m := 67502080) (by simp) (by decide)
@[simp] theorem respondOk_fus (s : State) (h : Hdr) (op : Nat) (b : List Byte) : (respondOk s h op b).fus = s.fus :=
  same_fus (m := 67502080) (by simp) (by decide)
@[simp] theorem respondOk_est (s : State) (h : Hdr) (op : Nat) (b : List Byte) : (respondOk s h op b).est = s.est :=
  whole_est (m := 67502080) (by simp) (by decide) (by decide)
@[simp] theorem respondOk_therm (s : State) (h : Hdr) (op : Nat) (b : List Byte) : (respondOk s h op b).therm = s.therm :=
  same_therm (m := 67502080) (by simp) (by decide)
@[simp] theorem respondOk_ctl (s : State) (h : Hdr) (op : Nat) (b : List Byte) : (respondOk s h op b).ctl = s.ctl :=
  same_ctl (m := 67502080) (by simp) (by decide)
@[simp] theorem respondOk_hold (s : State) (h : Hdr) (op : Nat) (b : List Byte) : (respondOk s h op b).hold = s.hold :=
  same_hold (m := 67502080) (by simp) (by decide)
@[simp] theorem respondOk_prot (s : State) (h : Hdr) (op : Nat) (b : List Byte) : (respondOk s h op b).prot = s.prot :=
  same_prot (m := 67502080) (by simp) (by decide)
@[simp] theorem respondOk_outr (s : State) (h : Hdr) (op : Nat) (b : List Byte) : (respondOk s h op b).outr = s.outr :=
  same_outr (m := 67502080) (by simp) (by decide)
@[simp] theorem respondOk_pair (s : State) (h : Hdr) (op : Nat) (b : List Byte) : (respondOk s h op b).pair = s.pair :=
  same_pair (m := 67502080) (by simp) (by decide)
@[simp] theorem respondOk_can (s : State) (h : Hdr) (op : Nat) (b : List Byte) : (respondOk s h op b).can = s.can :=
  same_can (m := 67502080) (by simp) (by decide)
@[simp] theorem respondOk_ev (s : State) (h : Hdr) (op : Nat) (b : List Byte) : (respondOk s h op b).ev = s.ev :=
  whole_ev (m := 67502080) (by simp) (by decide) (by decide)
@[simp] theorem respondOk_par (s : State) (h : Hdr) (op : Nat) (b : List Byte) : (respondOk s h op b).par = s.par :=
  whole_par (m := 67502080) (by simp) (by decide) (by decide)
@[simp] theorem respondOk_upd (s : State) (h : Hdr) (op : Nat) (b : List Byte) : (respondOk s h op b).upd = s.upd :=
  whole_upd (m := 67502080) (by simp) (by decide) (by decide)
@[simp] theorem respondOk_pending (s : State) (h : Hdr) (op : Nat) (b : List Byte) : (respondOk s h op b).pending = s.pending :=
  same_pending (m := 67502080) (by simp) (by decide)
@[simp] theorem respondOk_freeCtr (s : State) (h : Hdr) (op : Nat) (b : List Byte) : (respondOk s h op b).freeCtr = s.freeCtr :=
  same_freeCtr (m := 67502080) (by simp) (by decide)

/-! ### respond -/

@[simp] theorem respond_ident (s : State) (h : Hdr) (op : Nat) (st : Status) (dt : Nat) : (respond s h op st dt).ident = s.ident :=
  same_ident (m := 67502080) (by simp) (by decide)
@[simp] theorem respond_elec (s : State) (h : Hdr) (op : Nat) (st : Status) (dt : Nat) : (respond s h op st dt).elec = s.elec :=
  same_elec (m := 67502080) (by simp) (by decide)
@[simp] theorem respond_clk (s : State) (h : Hdr) (op : Nat) (st : Status) (dt : Nat) : (respond s h op st dt).clk = s.clk :=
  same_clk (m := 67502080) (by simp) (by decide)
@[simp] theorem respond_grid (s : State) (h : Hdr) (op : Nat) (st : Status) (dt : Nat) : (respond s h op st dt).grid = s.grid :=
  same_grid (m := 67502080) (by simp) (by decide)
@[simp] theorem respond_ring (s : State) (h : Hdr) (op : Nat) (st : Status) (dt : Nat) : (respond s h op st dt).ring = s.ring :=
  same_ring (m := 67502080) (by simp) (by decide)
@[simp] theorem respond_front (s : State) (h : Hdr) (op : Nat) (st : Status) (dt : Nat) : (respond s h op st dt).front = s.front :=
  same_front (m := 67502080) (by simp) (by decide)
@[simp] theorem respond_fus (s : State) (h : Hdr) (op : Nat) (st : Status) (dt : Nat) : (respond s h op st dt).fus = s.fus :=
  same_fus (m := 67502080) (by simp) (by decide)
@[simp] theorem respond_est (s : State) (h : Hdr) (op : Nat) (st : Status) (dt : Nat) : (respond s h op st dt).est = s.est :=
  whole_est (m := 67502080) (by simp) (by decide) (by decide)
@[simp] theorem respond_therm (s : State) (h : Hdr) (op : Nat) (st : Status) (dt : Nat) : (respond s h op st dt).therm = s.therm :=
  same_therm (m := 67502080) (by simp) (by decide)
@[simp] theorem respond_ctl (s : State) (h : Hdr) (op : Nat) (st : Status) (dt : Nat) : (respond s h op st dt).ctl = s.ctl :=
  same_ctl (m := 67502080) (by simp) (by decide)
@[simp] theorem respond_hold (s : State) (h : Hdr) (op : Nat) (st : Status) (dt : Nat) : (respond s h op st dt).hold = s.hold :=
  same_hold (m := 67502080) (by simp) (by decide)
@[simp] theorem respond_prot (s : State) (h : Hdr) (op : Nat) (st : Status) (dt : Nat) : (respond s h op st dt).prot = s.prot :=
  same_prot (m := 67502080) (by simp) (by decide)
@[simp] theorem respond_outr (s : State) (h : Hdr) (op : Nat) (st : Status) (dt : Nat) : (respond s h op st dt).outr = s.outr :=
  same_outr (m := 67502080) (by simp) (by decide)
@[simp] theorem respond_pair (s : State) (h : Hdr) (op : Nat) (st : Status) (dt : Nat) : (respond s h op st dt).pair = s.pair :=
  same_pair (m := 67502080) (by simp) (by decide)
@[simp] theorem respond_can (s : State) (h : Hdr) (op : Nat) (st : Status) (dt : Nat) : (respond s h op st dt).can = s.can :=
  same_can (m := 67502080) (by simp) (by decide)
@[simp] theorem respond_ev (s : State) (h : Hdr) (op : Nat) (st : Status) (dt : Nat) : (respond s h op st dt).ev = s.ev :=
  whole_ev (m := 67502080) (by simp) (by decide) (by decide)
@[simp] theorem respond_par (s : State) (h : Hdr) (op : Nat) (st : Status) (dt : Nat) : (respond s h op st dt).par = s.par :=
  whole_par (m := 67502080) (by simp) (by decide) (by decide)
@[simp] theorem respond_upd (s : State) (h : Hdr) (op : Nat) (st : Status) (dt : Nat) : (respond s h op st dt).upd = s.upd :=
  whole_upd (m := 67502080) (by simp) (by decide) (by decide)
@[simp] theorem respond_pending (s : State) (h : Hdr) (op : Nat) (st : Status) (dt : Nat) : (respond s h op st dt).pending = s.pending :=
  same_pending (m := 67502080) (by simp) (by decide)
@[simp] theorem respond_freeCtr (s : State) (h : Hdr) (op : Nat) (st : Status) (dt : Nat) : (respond s h op st dt).freeCtr = s.freeCtr :=
  same_freeCtr (m := 67502080) (by simp) (by decide)

/-! ### respondBusy -/

@[simp] theorem respondBusy_ident (s : State) (h : Hdr) (op : Nat) (w : Nat × Nat × Nat) : (respondBusy s h op w).ident = s.ident :=
  same_ident (m := 67502080) (by simp) (by decide)
@[simp] theorem respondBusy_elec (s : State) (h : Hdr) (op : Nat) (w : Nat × Nat × Nat) : (respondBusy s h op w).elec = s.elec :=
  same_elec (m := 67502080) (by simp) (by decide)
@[simp] theorem respondBusy_clk (s : State) (h : Hdr) (op : Nat) (w : Nat × Nat × Nat) : (respondBusy s h op w).clk = s.clk :=
  same_clk (m := 67502080) (by simp) (by decide)
@[simp] theorem respondBusy_grid (s : State) (h : Hdr) (op : Nat) (w : Nat × Nat × Nat) : (respondBusy s h op w).grid = s.grid :=
  same_grid (m := 67502080) (by simp) (by decide)
@[simp] theorem respondBusy_ring (s : State) (h : Hdr) (op : Nat) (w : Nat × Nat × Nat) : (respondBusy s h op w).ring = s.ring :=
  same_ring (m := 67502080) (by simp) (by decide)
@[simp] theorem respondBusy_front (s : State) (h : Hdr) (op : Nat) (w : Nat × Nat × Nat) : (respondBusy s h op w).front = s.front :=
  same_front (m := 67502080) (by simp) (by decide)
@[simp] theorem respondBusy_fus (s : State) (h : Hdr) (op : Nat) (w : Nat × Nat × Nat) : (respondBusy s h op w).fus = s.fus :=
  same_fus (m := 67502080) (by simp) (by decide)
@[simp] theorem respondBusy_est (s : State) (h : Hdr) (op : Nat) (w : Nat × Nat × Nat) : (respondBusy s h op w).est = s.est :=
  whole_est (m := 67502080) (by simp) (by decide) (by decide)
@[simp] theorem respondBusy_therm (s : State) (h : Hdr) (op : Nat) (w : Nat × Nat × Nat) : (respondBusy s h op w).therm = s.therm :=
  same_therm (m := 67502080) (by simp) (by decide)
@[simp] theorem respondBusy_ctl (s : State) (h : Hdr) (op : Nat) (w : Nat × Nat × Nat) : (respondBusy s h op w).ctl = s.ctl :=
  same_ctl (m := 67502080) (by simp) (by decide)
@[simp] theorem respondBusy_hold (s : State) (h : Hdr) (op : Nat) (w : Nat × Nat × Nat) : (respondBusy s h op w).hold = s.hold :=
  same_hold (m := 67502080) (by simp) (by decide)
@[simp] theorem respondBusy_prot (s : State) (h : Hdr) (op : Nat) (w : Nat × Nat × Nat) : (respondBusy s h op w).prot = s.prot :=
  same_prot (m := 67502080) (by simp) (by decide)
@[simp] theorem respondBusy_outr (s : State) (h : Hdr) (op : Nat) (w : Nat × Nat × Nat) : (respondBusy s h op w).outr = s.outr :=
  same_outr (m := 67502080) (by simp) (by decide)
@[simp] theorem respondBusy_pair (s : State) (h : Hdr) (op : Nat) (w : Nat × Nat × Nat) : (respondBusy s h op w).pair = s.pair :=
  same_pair (m := 67502080) (by simp) (by decide)
@[simp] theorem respondBusy_can (s : State) (h : Hdr) (op : Nat) (w : Nat × Nat × Nat) : (respondBusy s h op w).can = s.can :=
  same_can (m := 67502080) (by simp) (by decide)
@[simp] theorem respondBusy_ev (s : State) (h : Hdr) (op : Nat) (w : Nat × Nat × Nat) : (respondBusy s h op w).ev = s.ev :=
  whole_ev (m := 67502080) (by simp) (by decide) (by decide)
@[simp] theorem respondBusy_par (s : State) (h : Hdr) (op : Nat) (w : Nat × Nat × Nat) : (respondBusy s h op w).par = s.par :=
  whole_par (m := 67502080) (by simp) (by decide) (by decide)
@[simp] theorem respondBusy_upd (s : State) (h : Hdr) (op : Nat) (w : Nat × Nat × Nat) : (respondBusy s h op w).upd = s.upd :=
  whole_upd (m := 67502080) (by simp) (by decide) (by decide)
@[simp] theorem respondBusy_pending (s : State) (h : Hdr) (op : Nat) (w : Nat × Nat × Nat) : (respondBusy s h op w).pending = s.pending :=
  same_pending (m := 67502080) (by simp) (by decide)
@[simp] theorem respondBusy_freeCtr (s : State) (h : Hdr) (op : Nat) (w : Nat × Nat × Nat) : (respondBusy s h op w).freeCtr = s.freeCtr :=
  same_freeCtr (m := 67502080) (by simp) (by decide)

/-! ### acceptLong -/

@[simp] theorem acceptLong_ident (s : State) (h : Hdr) (op : Nat) : ((acceptLong s h op).2).ident = s.ident :=
  same_ident (m := 201719808) (by simp) (by decide)
@[simp] theorem acceptLong_elec (s : State) (h : Hdr) (op : Nat) : ((acceptLong s h op).2).elec = s.elec :=
  same_elec (m := 201719808) (by simp) (by decide)
@[simp] theorem acceptLong_clk (s : State) (h : Hdr) (op : Nat) : ((acceptLong s h op).2).clk = s.clk :=
  same_clk (m := 201719808) (by simp) (by decide)
@[simp] theorem acceptLong_grid (s : State) (h : Hdr) (op : Nat) : ((acceptLong s h op).2).grid = s.grid :=
  same_grid (m := 201719808) (by simp) (by decide)
@[simp] theorem acceptLong_ring (s : State) (h : Hdr) (op : Nat) : ((acceptLong s h op).2).ring = s.ring :=
  same_ring (m := 201719808) (by simp) (by decide)
@[simp] theorem acceptLong_front (s : State) (h : Hdr) (op : Nat) : ((acceptLong s h op).2).front = s.front :=
  same_front (m := 201719808) (by simp) (by decide)
@[simp] theorem acceptLong_fus (s : State) (h : Hdr) (op : Nat) : ((acceptLong s h op).2).fus = s.fus :=
  same_fus (m := 201719808) (by simp) (by decide)
@[simp] theorem acceptLong_est (s : State) (h : Hdr) (op : Nat) : ((acceptLong s h op).2).est = s.est :=
  whole_est (m := 201719808) (by simp) (by decide) (by decide)
@[simp] theorem acceptLong_therm (s : State) (h : Hdr) (op : Nat) : ((acceptLong s h op).2).therm = s.therm :=
  same_therm (m := 201719808) (by simp) (by decide)
@[simp] theorem acceptLong_ctl (s : State) (h : Hdr) (op : Nat) : ((acceptLong s h op).2).ctl = s.ctl :=
  same_ctl (m := 201719808) (by simp) (by decide)
@[simp] theorem acceptLong_hold (s : State) (h : Hdr) (op : Nat) : ((acceptLong s h op).2).hold = s.hold :=
  same_hold (m := 201719808) (by simp) (by decide)
@[simp] theorem acceptLong_prot (s : State) (h : Hdr) (op : Nat) : ((acceptLong s h op).2).prot = s.prot :=
  same_prot (m := 201719808) (by simp) (by decide)
@[simp] theorem acceptLong_outr (s : State) (h : Hdr) (op : Nat) : ((acceptLong s h op).2).outr = s.outr :=
  same_outr (m := 201719808) (by simp) (by decide)
@[simp] theorem acceptLong_pair (s : State) (h : Hdr) (op : Nat) : ((acceptLong s h op).2).pair = s.pair :=
  same_pair (m := 201719808) (by simp) (by decide)
@[simp] theorem acceptLong_can (s : State) (h : Hdr) (op : Nat) : ((acceptLong s h op).2).can = s.can :=
  same_can (m := 201719808) (by simp) (by decide)
@[simp] theorem acceptLong_ev (s : State) (h : Hdr) (op : Nat) : ((acceptLong s h op).2).ev = s.ev :=
  whole_ev (m := 201719808) (by simp) (by decide) (by decide)
@[simp] theorem acceptLong_par (s : State) (h : Hdr) (op : Nat) : ((acceptLong s h op).2).par = s.par :=
  whole_par (m := 201719808) (by simp) (by decide) (by decide)
@[simp] theorem acceptLong_upd (s : State) (h : Hdr) (op : Nat) : ((acceptLong s h op).2).upd = s.upd :=
  whole_upd (m := 201719808) (by simp) (by decide) (by decide)
@[simp] theorem acceptLong_pending (s : State) (h : Hdr) (op : Nat) : ((acceptLong s h op).2).pending = s.pending :=
  same_pending (m := 201719808) (by simp) (by decide)

/-! ### endLong -/

@[simp] theorem endLong_ident (s : State) (id : Nat) (st : Status) (dt : Nat) (b : List Byte) : (endLong s id st dt b).ident = s.ident :=
  same_ident (m := 262144) (by simp) (by decide)
@[simp] theorem endLong_elec (s : State) (id : Nat) (st : Status) (dt : Nat) (b : List Byte) : (endLong s id st dt b).elec = s.elec :=
  same_elec (m := 262144) (by simp) (by decide)
@[simp] theorem endLong_clk (s : State) (id : Nat) (st : Status) (dt : Nat) (b : List Byte) : (endLong s id st dt b).clk = s.clk :=
  same_clk (m := 262144) (by simp) (by decide)
@[simp] theorem endLong_grid (s : State) (id : Nat) (st : Status) (dt : Nat) (b : List Byte) : (endLong s id st dt b).grid = s.grid :=
  same_grid (m := 262144) (by simp) (by decide)
@[simp] theorem endLong_ring (s : State) (id : Nat) (st : Status) (dt : Nat) (b : List Byte) : (endLong s id st dt b).ring = s.ring :=
  same_ring (m := 262144) (by simp) (by decide)
@[simp] theorem endLong_front (s : State) (id : Nat) (st : Status) (dt : Nat) (b : List Byte) : (endLong s id st dt b).front = s.front :=
  same_front (m := 262144) (by simp) (by decide)
@[simp] theorem endLong_fus (s : State) (id : Nat) (st : Status) (dt : Nat) (b : List Byte) : (endLong s id st dt b).fus = s.fus :=
  same_fus (m := 262144) (by simp) (by decide)
@[simp] theorem endLong_est (s : State) (id : Nat) (st : Status) (dt : Nat) (b : List Byte) : (endLong s id st dt b).est = s.est :=
  whole_est (m := 262144) (by simp) (by decide) (by decide)
@[simp] theorem endLong_therm (s : State) (id : Nat) (st : Status) (dt : Nat) (b : List Byte) : (endLong s id st dt b).therm = s.therm :=
  same_therm (m := 262144) (by simp) (by decide)
@[simp] theorem endLong_ctl (s : State) (id : Nat) (st : Status) (dt : Nat) (b : List Byte) : (endLong s id st dt b).ctl = s.ctl :=
  same_ctl (m := 262144) (by simp) (by decide)
@[simp] theorem endLong_hold (s : State) (id : Nat) (st : Status) (dt : Nat) (b : List Byte) : (endLong s id st dt b).hold = s.hold :=
  same_hold (m := 262144) (by simp) (by decide)
@[simp] theorem endLong_prot (s : State) (id : Nat) (st : Status) (dt : Nat) (b : List Byte) : (endLong s id st dt b).prot = s.prot :=
  same_prot (m := 262144) (by simp) (by decide)
@[simp] theorem endLong_outr (s : State) (id : Nat) (st : Status) (dt : Nat) (b : List Byte) : (endLong s id st dt b).outr = s.outr :=
  same_outr (m := 262144) (by simp) (by decide)
@[simp] theorem endLong_pair (s : State) (id : Nat) (st : Status) (dt : Nat) (b : List Byte) : (endLong s id st dt b).pair = s.pair :=
  same_pair (m := 262144) (by simp) (by decide)
@[simp] theorem endLong_can (s : State) (id : Nat) (st : Status) (dt : Nat) (b : List Byte) : (endLong s id st dt b).can = s.can :=
  same_can (m := 262144) (by simp) (by decide)
@[simp] theorem endLong_ev (s : State) (id : Nat) (st : Status) (dt : Nat) (b : List Byte) : (endLong s id st dt b).ev = s.ev :=
  whole_ev (m := 262144) (by simp) (by decide) (by decide)
@[simp] theorem endLong_par (s : State) (id : Nat) (st : Status) (dt : Nat) (b : List Byte) : (endLong s id st dt b).par = s.par :=
  whole_par (m := 262144) (by simp) (by decide) (by decide)
@[simp] theorem endLong_upd (s : State) (id : Nat) (st : Status) (dt : Nat) (b : List Byte) : (endLong s id st dt b).upd = s.upd :=
  whole_upd (m := 262144) (by simp) (by decide) (by decide)
@[simp] theorem endLong_pending (s : State) (id : Nat) (st : Status) (dt : Nat) (b : List Byte) : (endLong s id st dt b).pending = s.pending :=
  same_pending (m := 262144) (by simp) (by decide)
@[simp] theorem endLong_sent (s : State) (id : Nat) (st : Status) (dt : Nat) (b : List Byte) : (endLong s id st dt b).sent = s.sent :=
  same_sent (m := 262144) (by simp) (by decide)
@[simp] theorem endLong_freeCtr (s : State) (id : Nat) (st : Status) (dt : Nat) (b : List Byte) : (endLong s id st dt b).freeCtr = s.freeCtr :=
  same_freeCtr (m := 262144) (by simp) (by decide)

/-! ### endLongOpt -/

@[simp] theorem endLongOpt_ident (s : State) (id : Option Nat) (st : Status) (dt : Nat) (b : List Byte) : (endLongOpt s id st dt b).ident = s.ident :=
  same_ident (m := 262144) (by simp) (by decide)
@[simp] theorem endLongOpt_elec (s : State) (id : Option Nat) (st : Status) (dt : Nat) (b : List Byte) : (endLongOpt s id st dt b).elec = s.elec :=
  same_elec (m := 262144) (by simp) (by decide)
@[simp] theorem endLongOpt_clk (s : State) (id : Option Nat) (st : Status) (dt : Nat) (b : List Byte) : (endLongOpt s id st dt b).clk = s.clk :=
  same_clk (m := 262144) (by simp) (by decide)
@[simp] theorem endLongOpt_grid (s : State) (id : Option Nat) (st : Status) (dt : Nat) (b : List Byte) : (endLongOpt s id st dt b).grid = s.grid :=
  same_grid (m := 262144) (by simp) (by decide)
@[simp] theorem endLongOpt_ring (s : State) (id : Option Nat) (st : Status) (dt : Nat) (b : List Byte) : (endLongOpt s id st dt b).ring = s.ring :=
  same_ring (m := 262144) (by simp) (by decide)
@[simp] theorem endLongOpt_front (s : State) (id : Option Nat) (st : Status) (dt : Nat) (b : List Byte) : (endLongOpt s id st dt b).front = s.front :=
  same_front (m := 262144) (by simp) (by decide)
@[simp] theorem endLongOpt_fus (s : State) (id : Option Nat) (st : Status) (dt : Nat) (b : List Byte) : (endLongOpt s id st dt b).fus = s.fus :=
  same_fus (m := 262144) (by simp) (by decide)
@[simp] theorem endLongOpt_est (s : State) (id : Option Nat) (st : Status) (dt : Nat) (b : List Byte) : (endLongOpt s id st dt b).est = s.est :=
  whole_est (m := 262144) (by simp) (by decide) (by decide)
@[simp] theorem endLongOpt_therm (s : State) (id : Option Nat) (st : Status) (dt : Nat) (b : List Byte) : (endLongOpt s id st dt b).therm = s.therm :=
  same_therm (m := 262144) (by simp) (by decide)
@[simp] theorem endLongOpt_ctl (s : State) (id : Option Nat) (st : Status) (dt : Nat) (b : List Byte) : (endLongOpt s id st dt b).ctl = s.ctl :=
  same_ctl (m := 262144) (by simp) (by decide)
@[simp] theorem endLongOpt_hold (s : State) (id : Option Nat) (st : Status) (dt : Nat) (b : List Byte) : (endLongOpt s id st dt b).hold = s.hold :=
  same_hold (m := 262144) (by simp) (by decide)
@[simp] theorem endLongOpt_prot (s : State) (id : Option Nat) (st : Status) (dt : Nat) (b : List Byte) : (endLongOpt s id st dt b).prot = s.prot :=
  same_prot (m := 262144) (by simp) (by decide)
@[simp] theorem endLongOpt_outr (s : State) (id : Option Nat) (st : Status) (dt : Nat) (b : List Byte) : (endLongOpt s id st dt b).outr = s.outr :=
  same_outr (m := 262144) (by simp) (by decide)
@[simp] theorem endLongOpt_pair (s : State) (id : Option Nat) (st : Status) (dt : Nat) (b : List Byte) : (endLongOpt s id st dt b).pair = s.pair :=
  same_pair (m := 262144) (by simp) (by decide)
@[simp] theorem endLongOpt_can (s : State) (id : Option Nat) (st : Status) (dt : Nat) (b : List Byte) : (endLongOpt s id st dt b).can = s.can :=
  same_can (m := 262144) (by simp) (by decide)
@[simp] theorem endLongOpt_ev (s : State) (id : Option Nat) (st : Status) (dt : Nat) (b : List Byte) : (endLongOpt s id st dt b).ev = s.ev :=
  whole_ev (m := 262144) (by simp) (by decide) (by decide)
@[simp] theorem endLongOpt_par (s : State) (id : Option Nat) (st : Status) (dt : Nat) (b : List Byte) : (endLongOpt s id st dt b).par = s.par :=
  whole_par (m := 262144) (by simp) (by decide) (by decide)
@[simp] theorem endLongOpt_upd (s : State) (id : Option Nat) (st : Status) (dt : Nat) (b : List Byte) : (endLongOpt s id st dt b).upd = s.upd :=
  whole_upd (m := 262144) (by simp) (by decide) (by decide)
@[simp] theorem endLongOpt_pending (s : State) (id : Option Nat) (st : Status) (dt : Nat) (b : List Byte) : (endLongOpt s id st dt b).pending = s.pending :=
  same_pending (m := 262144) (by simp) (by decide)
@[simp] theorem endLongOpt_sent (s : State) (id : Option Nat) (st : Status) (dt : Nat) (b : List Byte) : (endLongOpt s id st dt b).sent = s.sent :=
  same_sent (m := 262144) (by simp) (by decide)
@[simp] theorem endLongOpt_freeCtr (s : State) (id : Option Nat) (st : Status) (dt : Nat) (b : List Byte) : (endLongOpt s id st dt b).freeCtr = s.freeCtr :=
  same_freeCtr (m := 262144) (by simp) (by decide)

/-! ### longAtOnce -/

@[simp] theorem longAtOnce_ident (s : State) (h : Hdr) (op : Nat) (st : Status) (dt : Nat) (b : List Byte) : (longAtOnce s h op st dt b).ident = s.ident :=
  same_ident (m := 201719808) (by simp) (by decide)
@[simp] theorem longAtOnce_elec (s : State) (h : Hdr) (op : Nat) (st : Status) (dt : Nat) (b : List Byte) : (longAtOnce s h op st dt b).elec = s.elec :=
  same_elec (m := 201719808) (by simp) (by decide)
@[simp] theorem longAtOnce_clk (s : State) (h : Hdr) (op : Nat) (st : Status) (dt : Nat) (b : List Byte) : (longAtOnce s h op st dt b).clk = s.clk :=
  same_clk (m := 201719808) (by simp) (by decide)
@[simp] theorem longAtOnce_grid (s : State) (h : Hdr) (op : Nat) (st : Status) (dt : Nat) (b : List Byte) : (longAtOnce s h op st dt b).grid = s.grid :=
  same_grid (m := 201719808) (by simp) (by decide)
@[simp] theorem longAtOnce_ring (s : State) (h : Hdr) (op : Nat) (st : Status) (dt : Nat) (b : List Byte) : (longAtOnce s h op st dt b).ring = s.ring :=
  same_ring (m := 201719808) (by simp) (by decide)
@[simp] theorem longAtOnce_front (s : State) (h : Hdr) (op : Nat) (st : Status) (dt : Nat) (b : List Byte) : (longAtOnce s h op st dt b).front = s.front :=
  same_front (m := 201719808) (by simp) (by decide)
@[simp] theorem longAtOnce_fus (s : State) (h : Hdr) (op : Nat) (st : Status) (dt : Nat) (b : List Byte) : (longAtOnce s h op st dt b).fus = s.fus :=
  same_fus (m := 201719808) (by simp) (by decide)
@[simp] theorem longAtOnce_est (s : State) (h : Hdr) (op : Nat) (st : Status) (dt : Nat) (b : List Byte) : (longAtOnce s h op st dt b).est = s.est :=
  whole_est (m := 201719808) (by simp) (by decide) (by decide)
@[simp] theorem longAtOnce_therm (s : State) (h : Hdr) (op : Nat) (st : Status) (dt : Nat) (b : List Byte) : (longAtOnce s h op st dt b).therm = s.therm :=
  same_therm (m := 201719808) (by simp) (by decide)
@[simp] theorem longAtOnce_ctl (s : State) (h : Hdr) (op : Nat) (st : Status) (dt : Nat) (b : List Byte) : (longAtOnce s h op st dt b).ctl = s.ctl :=
  same_ctl (m := 201719808) (by simp) (by decide)
@[simp] theorem longAtOnce_hold (s : State) (h : Hdr) (op : Nat) (st : Status) (dt : Nat) (b : List Byte) : (longAtOnce s h op st dt b).hold = s.hold :=
  same_hold (m := 201719808) (by simp) (by decide)
@[simp] theorem longAtOnce_prot (s : State) (h : Hdr) (op : Nat) (st : Status) (dt : Nat) (b : List Byte) : (longAtOnce s h op st dt b).prot = s.prot :=
  same_prot (m := 201719808) (by simp) (by decide)
@[simp] theorem longAtOnce_outr (s : State) (h : Hdr) (op : Nat) (st : Status) (dt : Nat) (b : List Byte) : (longAtOnce s h op st dt b).outr = s.outr :=
  same_outr (m := 201719808) (by simp) (by decide)
@[simp] theorem longAtOnce_pair (s : State) (h : Hdr) (op : Nat) (st : Status) (dt : Nat) (b : List Byte) : (longAtOnce s h op st dt b).pair = s.pair :=
  same_pair (m := 201719808) (by simp) (by decide)
@[simp] theorem longAtOnce_can (s : State) (h : Hdr) (op : Nat) (st : Status) (dt : Nat) (b : List Byte) : (longAtOnce s h op st dt b).can = s.can :=
  same_can (m := 201719808) (by simp) (by decide)
@[simp] theorem longAtOnce_ev (s : State) (h : Hdr) (op : Nat) (st : Status) (dt : Nat) (b : List Byte) : (longAtOnce s h op st dt b).ev = s.ev :=
  whole_ev (m := 201719808) (by simp) (by decide) (by decide)
@[simp] theorem longAtOnce_par (s : State) (h : Hdr) (op : Nat) (st : Status) (dt : Nat) (b : List Byte) : (longAtOnce s h op st dt b).par = s.par :=
  whole_par (m := 201719808) (by simp) (by decide) (by decide)
@[simp] theorem longAtOnce_upd (s : State) (h : Hdr) (op : Nat) (st : Status) (dt : Nat) (b : List Byte) : (longAtOnce s h op st dt b).upd = s.upd :=
  whole_upd (m := 201719808) (by simp) (by decide) (by decide)
@[simp] theorem longAtOnce_pending (s : State) (h : Hdr) (op : Nat) (st : Status) (dt : Nat) (b : List Byte) : (longAtOnce s h op st dt b).pending = s.pending :=
  same_pending (m := 201719808) (by simp) (by decide)

end Sys2Proof.Laws
end

