-- ==== Sys2Proof/Laws/FrameRing.lean ====
section
/-! SUPPORT. What each operation leaves as it was, one lemma each, as equality of views: the caravan, cell diagnosis, front ends and fusion. -/

namespace Sys2Proof.Laws

open Sys2Proof Sys2Proof.Machine

set_option maxRecDepth 4000
set_option linter.unusedTactic false
set_option linter.unreachableTactic false

/-! ### Caravan -/

@[simp] theorem modUnit_view (m : Nat) (s r addr f) (h : m &&& 32 = 32) :
    view m (modUnit s r addr f) = view m s := view_up h (by
  unfold modUnit; simp)
@[simp] theorem discardCar_view (m : Nat) (s r) (h : m &&& 201981984 = 201981984) :
    view m (discardCar s r) = view m s := view_up h (by
  unfold discardCar; simp)
@[simp] theorem nextSeq_view (m : Nat) (s r) (h : m &&& 32 = 32) : view m (nextSeq s r).2 = view m s := view_up h (by
  unfold nextSeq; simp)
@[simp] theorem sendUnit_view (m : Nat) (s r addr type payload) (h : m &&& 67108896 = 67108896) :
    view m (sendUnit s r addr type payload) = view m s := view_up h (by
  unfold sendUnit; simp)
@[simp] theorem sendAll_view (m : Nat) (s r type payload) (h : m &&& 67108896 = 67108896) :
    view m (sendAll s r type payload) = view m s := view_up h (by
  unfold sendAll; simp)
@[simp] theorem sendHop_view (m : Nat) (s r addr type payload) (h : m &&& 67108896 = 67108896) :
    view m (sendHop s r addr type payload) = view m s := view_up h (by
  unfold sendHop; simp)
@[simp] theorem markLost_view (m : Nat) (s r addr cause) (h : m &&& 201981984 = 201981984) :
    view m (markLost s r addr cause) = view m s := view_up h (by
  unfold markLost; (repeat' (first | (simp (maxDischargeDepth := 6); done) | split | (dsimp only; split) | (simp (maxDischargeDepth := 6); split))))
@[simp] theorem returnUnits_view (m : Nat) (s r) (h : m &&& 201981984 = 201981984) :
    view m (returnUnits s r) = view m s := view_up h (by
  unfold returnUnits; simp)
@[simp] theorem sendBalance_view (m : Nat) (s r addr) (h : m &&& 67108896 = 67108896) :
    view m (sendBalance s r addr) = view m s := view_up h (by
  unfold sendBalance; split <;> simp)
@[simp] theorem setDuty_view (m : Nat) (s r addr duty) (h : m &&& 67108896 = 67108896) :
    view m (setDuty s r addr duty) = view m s := view_up h (by
  unfold setDuty; (repeat' (first | (simp (maxDischargeDepth := 6); done) | split | (dsimp only; split) | (simp (maxDischargeDepth := 6); split))))
@[simp] theorem sendConfig_view (m : Nat) (s r addr) (h : m &&& 67108896 = 67108896) :
    view m (sendConfig s r addr) = view m s := view_up h (by
  unfold sendConfig; split <;> simp)
@[simp] theorem ringUnserved_view (m : Nat) (s r finding) (h : m &&& 32 = 32) :
    view m (ringUnserved s r finding) = view m s := view_up h (by
  unfold ringUnserved; simp)
@[simp] theorem enumAddresses_view (m : Nat) (s r) (h : m &&& 67108896 = 67108896) :
    view m (enumAddresses s r) = view m s := view_up h (by
  unfold enumAddresses; (repeat' (first | (simp (maxDischargeDepth := 6); done) | split | (dsimp only; split) | (simp (maxDischargeDepth := 6); split))))
@[simp] theorem probes_view (m : Nat) (s r endB) (h : m &&& 67108864 = 67108864) :
    view m (probes s r endB) = view m s := view_up h (by
  unfold probes; (repeat' (first | (simp (maxDischargeDepth := 6); done) | split | (dsimp only; split) | (simp (maxDischargeDepth := 6); split))))
@[simp] theorem measureUnit_view (m : Nat) (s r addr) (h : m &&& 67108896 = 67108896) :
    view m (measureUnit s r addr) = view m s := view_up h (by
  unfold measureUnit; (repeat' (first | (simp (maxDischargeDepth := 6); done) | split | (dsimp only; split) | (simp (maxDischargeDepth := 6); split))))
@[simp] theorem enumNative_view (m : Nat) (s r units) (h : m &&& 67108896 = 67108896) :
    view m (enumNative s r units) = view m s := view_up h (by
  unfold enumNative; simp)
@[simp] theorem enumCompat_view (m : Nat) (s r units) (h : m &&& 67108896 = 67108896) :
    view m (enumCompat s r units) = view m s := view_up h (by
  unfold enumCompat; simp)
theorem serialEvents_view0 (x0 x1 x2 x3) : view 201981952 (serialEvents x0 x1 x2 x3) = view 201981952 x0 := by
  unfold serialEvents
  refine view_foldl 201981952 _ (fun s a => ?_) _ _
  split <;> simp
@[simp] theorem serialEvents_view (m : Nat) (x0 x1 x2 x3) (h : m &&& 201981952 = 201981952) :
    view m (serialEvents x0 x1 x2 x3) = view m x0 := view_up h (serialEvents_view0 x0 x1 x2 x3)
@[simp] theorem ringServed_view (m : Nat) (s r f compat split) (h : m &&& 201981984 = 201981984) :
    view m (ringServed s r f compat split) = view m s := view_up h (by
  unfold ringServed; simp)
@[simp] theorem sendUnitTable_view (m : Nat) (s r) (h : m &&& 67108864 = 67108864) :
    view m (sendUnitTable s r) = view m s := view_up h (by
  unfold sendUnitTable; simp)
@[simp] theorem enumAttempts_view (m : Nat) (s r f step5) (h : m &&& 67108896 = 67108896) :
    view m (enumAttempts s r f step5) = view m s := view_up h (by
  unfold enumAttempts; (repeat' (first | (simp (maxDischargeDepth := 6); done) | split | (dsimp only; split) | (simp (maxDischargeDepth := 6); split))))
@[simp] theorem enumerate_view (m : Nat) (s r f) (h : m &&& 204079136 = 204079136) :
    view m (enumerate s r f) = view m s := view_up h (by
  unfold enumerate; (repeat' (first | (simp (maxDischargeDepth := 6); done) | split | (dsimp only; split) | (simp (maxDischargeDepth := 6); split))))
@[simp] theorem endReenums_view (m : Nat) (s) (h : m &&& 262144 = 262144) :
    view m (endReenums s) = view m s := view_up h (by
  unfold endReenums
  dsimp only
  generalize hf : List.foldl _ s _ = u
  have e : view 262144 u = view 262144 s := by rw [← hf]; simp
  rw [← e]
  rfl)
@[simp] theorem enumEnds_view (m : Nat) (s r done) (h : m &&& 262176 = 262176) :
    view m (enumEnds s r done) = view m s := view_up h (by
  unfold enumEnds; (repeat' (first | (simp (maxDischargeDepth := 6); done) | split | (dsimp only; split) | (simp (maxDischargeDepth := 6); split))))
@[simp] theorem enumProgress_view (m : Nat) (s r c) (h : m &&& 262176 = 262176) :
    view m (enumProgress s r c) = view m s := view_up h (by
  unfold enumProgress; (repeat' (first | (simp (maxDischargeDepth := 6); done) | split | (dsimp only; split) | (simp (maxDischargeDepth := 6); split))))
@[simp] theorem enumBound_view (m : Nat) (s r) (h : m &&& 262176 = 262176) :
    view m (enumBound s r) = view m s := view_up h (by
  unfold enumBound; (repeat' (first | (simp (maxDischargeDepth := 6); done) | split | (dsimp only; split) | (simp (maxDischargeDepth := 6); split))))
@[simp] theorem balStopped_view (m : Nat) (s r addr frame) (h : m &&& 201981984 = 201981984) :
    view m (balStopped s r addr frame) = view m s := view_up h (by
  unfold balStopped; (repeat' (first | (simp (maxDischargeDepth := 6); done) | split | (dsimp only; split) | (simp (maxDischargeDepth := 6); split))))
@[simp] theorem storeFeature_view (m : Nat) (s r u f) (h : m &&& 202244128 = 202244128) :
    view m (storeFeature s r u f) = view m s := view_up h (by
  unfold storeFeature; simp)
@[simp] theorem ackBalance_view (m : Nat) (x0 x1 x2 x3) (h : m &&& 201981984 = 201981984) :
    view m (ackBalance x0 x1 x2 x3) = view m x0 := view_up h (by
  unfold ackBalance; (repeat' (first | (simp (maxDischargeDepth := 6); done) | split | (dsimp only; split) | (simp (maxDischargeDepth := 6); split))))
@[simp] theorem declareBreak_view (m : Nat) (s r after cause) (h : m &&& 201981984 = 201981984) :
    view m (declareBreak s r after cause) = view m s := view_up h (by
  unfold declareBreak; simp)

/-! ### CellDiag -/

@[simp] theorem showEvent_view (m : Nat) (s evt key stands data) (h : m &&& 201982080 = 201982080) :
    view m (showEvent s evt key stands data) = view m s := view_up h (by
  unfold showEvent; simp)
@[simp] theorem noteCorner_view (m : Nat) (s r c) (h : m &&& 32 = 32) :
    view m (noteCorner s r c) = view m s := view_up h (by
  unfold noteCorner; (repeat' (first | (simp (maxDischargeDepth := 6); done) | split | (dsimp only; split) | (simp (maxDischargeDepth := 6); split))))
@[simp] theorem requestTest_view (m : Nat) (s r addr mask) (h : m &&& 67108896 = 67108896) :
    view m (requestTest s r addr mask) = view m s := view_up h (by
  unfold requestTest; (repeat' (first | (simp (maxDischargeDepth := 6); done) | split | (dsimp only; split) | (simp (maxDischargeDepth := 6); split))))
@[simp] theorem renominate_view (m : Nat) (s r addr) (h : m &&& 67108896 = 67108896) :
    view m (renominate s r addr) = view m s := view_up h (by
  unfold renominate; split <;> simp)
@[simp] theorem suspectEvent_view (m : Nat) (s r addr dv x) (h : m &&& 201981952 = 201981952) :
    view m (suspectEvent s r addr dv x) = view m s := view_up h (by
  unfold suspectEvent; simp)
@[simp] theorem diagnose_view (m : Nat) (s r addr f) (h : m &&& 201981984 = 201981984) :
    view m (diagnose s r addr f) = view m s := view_up h (by
  unfold diagnose; (repeat' (first | (simp (maxDischargeDepth := 6); done) | split | (dsimp only; split) | (simp (maxDischargeDepth := 6); split))))
@[simp] theorem thermFaults_view (m : Nat) (s r addr codes) (h : m &&& 201982112 = 201982112) :
    view m (thermFaults s r addr codes) = view m s := view_up h (by
  unfold thermFaults; (repeat' (first | (simp (maxDischargeDepth := 6); done) | split | (dsimp only; split) | (simp (maxDischargeDepth := 6); split))))
@[simp] theorem recordFlags_view (m : Nat) (s r addr f) (h : m &&& 201982112 = 201982112) :
    view m (recordFlags s r addr f) = view m s := view_up h (by
  unfold recordFlags; (repeat' split) <;> simp_all (maxDischargeDepth := 6))
@[simp] theorem judgeWire_view (m : Nat) (s r addr w shift) (h : m &&& 201982112 = 201982112) :
    view m (judgeWire s r addr w shift) = view m s := view_up h (by
  unfold judgeWire; simp)
@[simp] theorem settleSuspicions_view (m : Nat) (s r addr shifts) (h : m &&& 201981984 = 201981984) :
    view m (settleSuspicions s r addr shifts) = view m s := view_up h (by
  unfold settleSuspicions; split <;> simp)

/-! ### FrontEnd -/

@[simp] theorem takeCal_view (m : Nat) (s) (h : m &&& 64 = 64) : view m (takeCal s) = view m s := view_up h (by
  unfold takeCal; (repeat' (first | (simp (maxDischargeDepth := 6); done) | split | (dsimp only; split) | (simp (maxDischargeDepth := 6); split))))
@[simp] theorem ovrEvent_view (m : Nat) (s tick run ovr evt who) (h : m &&& 201981952 = 201981952) :
    view m (ovrEvent s tick run ovr evt who).1 = view m s := view_up h (by
  unfold ovrEvent; (repeat' split) <;> simp)
@[simp] theorem gapTick_view (m : Nat) (s x tick cause) (h : m &&& 201982016 = 201982016) :
    view m (gapTick s x tick cause) = view m s := view_up h (by
  unfold gapTick; (repeat' (first | (simp (maxDischargeDepth := 6); done) | split | (dsimp only; split) | (simp (maxDischargeDepth := 6); split))))
@[simp] theorem feTick_view (m : Nat) (s x tick i) (h : m &&& 201982016 = 201982016) :
    view m (feTick s x tick i).1 = view m s := view_up h (by
  unfold feTick; split <;> simp)
@[simp] theorem grefTick_view (m : Nat) (s tick ins) (h : m &&& 201982016 = 201982016) :
    view m (grefTick s tick ins) = view m s := view_up h (by
  unfold grefTick; simp)
@[simp] theorem setCal_view (m : Nat) (x0 x1 x2) (h : m &&& 64 = 64) :
    view m (setCal x0 x1 x2) = view m x0 := view_up h (by
  unfold setCal; simp)
@[simp] theorem calCycle_view (m : Nat) (s c) (h : m &&& 64 = 64) : view m (calCycle s c) = view m s := view_up h (by
  unfold calCycle; simp)
@[simp] theorem stage_view (m : Nat) (x0 x1 x2) (h : m &&& 4194304 = 4194304) :
    view m (stage x0 x1 x2) = view m x0 := view_up h (by
  unfold stage; simp)

/-! ### Fusion -/

@[simp] theorem setSrc_view (m : Nat) (s k r) (h : m &&& 128 = 128) : view m (setSrc s k r) = view m s := view_up h (by
  unfold setSrc; simp)
@[simp] theorem alignSource_view (m : Nat) (s k ok count offset) (h : m &&& 201982080 = 201982080) :
    view m (alignSource s k ok count offset) = view m s := view_up h (by
  unfold alignSource; simp)
@[simp] theorem judgeSource_view (m : Nat) (s k present out trial voted) (h : m &&& 201982080 = 201982080) :
    view m (judgeSource s k present out trial voted) = view m s := view_up h (by
  unfold judgeSource; split <;> simp)
@[simp] theorem judgeContest_view (m : Nat) (s q c prot) (h : m &&& 201982080 = 201982080) :
    view m (judgeContest s q c prot) = view m s := view_up h (by
  unfold judgeContest; split <;> simp)
@[simp] theorem runCheck_view (m : Nat) (s q agree all prot) (h : m &&& 201982080 = 201982080) :
    view m (runCheck s q agree all prot).1 = view m s := view_up h (by
  unfold runCheck; simp)
@[simp] theorem placePcsReport_view (m : Nat) (s x hpnLo amps) (h : m &&& 202047616 = 202047616) :
    view m (placePcsReport s x hpnLo amps) = view m s := view_up h (by
  unfold placePcsReport; simp)
@[simp] theorem alignUnits_view (m : Nat) (s x c) (h : m &&& 201981984 = 201981984) :
    view m (alignUnits s x c) = view m s := view_up h (by
  unfold alignUnits
  refine view_foldl _ _ (fun s u => ?_) _ _
  dsimp only
  split <;> simp)
@[simp] theorem voltageCheck_view (m : Nat) (s x c cells cur) (h : m &&& 201982080 = 201982080) :
    view m (voltageCheck s x c cells cur).1 = view m s := view_up h (by
  unfold voltageCheck; simp)
@[simp] theorem watchCheck_view (m : Nat) (s x a k vmean w vv sum) (h : m &&& 201982080 = 201982080) :
    view m (watchCheck s x a k vmean w vv sum) = view m s := view_up h (by
  unfold watchCheck; (repeat' split) <;> simp)
@[simp] theorem anomalyJudge_view (m : Nat) (s x no c score) (h : m &&& 201982080 = 201982080) :
    view m (anomalyJudge s x no c score) = view m s := view_up h (by
  unfold anomalyJudge; (repeat' (first | (simp (maxDischargeDepth := 6); done) | split | (dsimp only; split) | (simp (maxDischargeDepth := 6); split))))
@[simp] theorem tempCheck_view (m : Nat) (s x u c ch timp) (h : m &&& 201982080 = 201982080) :
    view m (tempCheck s x u c ch timp).1 = view m s := view_up h (by
  unfold tempCheck; (repeat' (first | (simp (maxDischargeDepth := 6); done) | split | (dsimp only; split) | (simp (maxDischargeDepth := 6); split))))
@[simp] theorem modelIntoForce_view (m : Nat) (s c) (h : m &&& 201982080 = 201982080) :
    view m (modelIntoForce s c) = view m s := view_up h (by
  unfold modelIntoForce; (repeat' split) <;> simp)
@[simp] theorem watchChecks_view (m : Nat) (s x c works vv sum) (h : m &&& 201982080 = 201982080) :
    view m (watchChecks s x c works vv sum) = view m s := view_up h (by
  unfold watchChecks
  refine view_foldl _ _ (fun s w => ?_) _ _
  (repeat' split) <;> simp)
@[simp] theorem tempChecks_view (m : Nat) (s x c timp) (h : m &&& 201982080 = 201982080) :
    view m (tempChecks s x c timp).1 = view m s := view_up h (by
  unfold tempChecks
  refine view_foldl_fst _ _ (fun p u => ?_) _ _
  refine view_foldl_fst _ _ (fun p n => ?_) _ _
  simp)
@[simp] theorem closeString_view (m : Nat) (s x c base evaluate) (h : m &&& 201982112 = 201982112) :
    view m (closeString s x c base evaluate) = view m s := view_up h (by
  unfold closeString; (repeat' (first | (simp (maxDischargeDepth := 6); done) | split | (dsimp only; split) | (simp (maxDischargeDepth := 6); split))))

end Sys2Proof.Laws
end

