-- ==== Sys2Proof/Laws/FrameEst.lean ====
section
/-! SUPPORT. What each operation leaves as it was, one lemma each, as equality of views: the cell filter, streams, balancing, thermal management, estimation and the state record. -/

namespace Sys2Proof.Laws

open Sys2Proof Sys2Proof.Machine

set_option maxRecDepth 4000
set_option linter.unusedTactic false
set_option linter.unreachableTactic false

/-! ### CellFilter -/

@[simp] theorem applyLearned_view (m : Nat) (s x) (h : m &&& 256 = 256) :
    view m (applyLearned s x) = view m s := view_up h (by
  unfold applyLearned; (repeat' (first | (simp (maxDischargeDepth := 6); done) | split | (dsimp only; split) | (simp (maxDischargeDepth := 6); split))))

/-! ### Balance -/

@[simp] theorem select_view (m : Nat) (s x addr sel) (h : m &&& 67108896 = 67108896) :
    view m (select s x addr sel) = view m s := view_up h (by
  unfold select; (repeat' (first | (simp (maxDischargeDepth := 6); done) | split | (dsimp only; split) | (simp (maxDischargeDepth := 6); split))))
@[simp] theorem balanceOff_view (m : Nat) (s x) (h : m &&& 67108896 = 67108896) :
    view m (balanceOff s x) = view m s := view_up h (by
  unfold balanceOff; simp)
@[simp] theorem balanceZero_view (m : Nat) (s x) (h : m &&& 67108896 = 67108896) :
    view m (balanceZero s x) = view m s := view_up h (by
  unfold balanceZero; simp)
@[simp] theorem balDeselect_view (m : Nat) (s x) (h : m &&& 67109152 = 67109152) :
    view m (balDeselect s x) = view m s := view_up h (by
  unfold balDeselect; simp)
theorem balReview_view0 (x0 x1) : view 201981984 (balReview x0 x1) = view 201981984 x0 := by
  unfold balReview
  extract_lets st inhibited bins bs startAh stopAh wants selected step wanting
  have hi : ∀ s c n, view 201981984 (inhibited s c n) = view 201981984 s := fun s c n => by simp [inhibited]
  have hb : ∀ s, view 201981984 (bins s) = view 201981984 s := fun s => by simp [bins, hi]
  have hs : ∀ p u, view 201981984 (step p u).1 = view 201981984 p.1 := fun p u => by
    simp [step]
  clear_value inhibited bins step wanting
  have hf := view_foldl_fst 201981984 step hs (car x0 x1).units (x0, 0)
  split
  · simp [hi]
  · split
    · exact hb _
    · split
      rename_i heq
      rw [heq] at hf
      simp only at hf
      simp [hi, hb, hf]
@[simp] theorem balReview_view (m : Nat) (x0 x1) (h : m &&& 201981984 = 201981984) :
    view m (balReview x0 x1) = view m x0 := view_up h (balReview_view0 x0 x1)

/-! ### Streams -/

@[simp] theorem modStrm_view (m : Nat) (x0 x1 x2 x3) (h : m &&& 393216 = 393216) :
    view m (modStrm x0 x1 x2 x3) = view m x0 := view_up h (by
  unfold modStrm; simp)
@[simp] theorem openWrite_view (m : Nat) (x0 x1 x2) (h : m &&& 67108864 = 67108864) :
    view m (openWrite x0 x1 x2) = view m x0 := view_up h (by
  unfold openWrite; (repeat' (first | (simp (maxDischargeDepth := 6); done) | split | (dsimp only; split) | (simp (maxDischargeDepth := 6); split))))
@[simp] theorem closeBuf_view (m : Nat) (x0 x1 x2) (h : m &&& 67502080 = 67502080) :
    view m (closeBuf x0 x1 x2) = view m x0 := view_up h (by
  unfold closeBuf; (repeat' (first | (simp (maxDischargeDepth := 6); done) | split | (dsimp only; split) | (simp (maxDischargeDepth := 6); split))))
@[simp] theorem fetchNext_view (m : Nat) (x0 x1 x2) (h : m &&& 67502080 = 67502080) :
    view m (fetchNext x0 x1 x2) = view m x0 := view_up h (by
  unfold fetchNext; simp)
@[simp] theorem takeRecord_view (m : Nat) (x0 x1 x2) (h : m &&& 67502080 = 67502080) :
    view m (takeRecord x0 x1 x2) = view m x0 := view_up h (by
  unfold takeRecord; (repeat' (first | (simp (maxDischargeDepth := 6); done) | split | (dsimp only; split) | (simp (maxDischargeDepth := 6); split))))
theorem pump_view0 (x0 x1 n x3) : view 67502080 (pump x0 x1 n x3) = view 67502080 x3 := by
  induction n generalizing x3 with
  | zero => simp [pump]
  | succ n ih => simp only [pump]; split <;> simp [ih]
@[simp] theorem pump_view (m : Nat) (x0 x1 n x3) (h : m &&& 67502080 = 67502080) :
    view m (pump x0 x1 n x3) = view m x3 := view_up h (pump_view0 x0 x1 n x3)
@[simp] theorem noteNeed_view (m : Nat) (x0 x1 x2) (h : m &&& 393216 = 393216) :
    view m (noteNeed x0 x1 x2) = view m x0 := view_up h (by
  unfold noteNeed; (repeat' (first | (simp (maxDischargeDepth := 6); done) | split | (dsimp only; split) | (simp (maxDischargeDepth := 6); split))))
@[simp] theorem pumpAll_view (m : Nat) (x0 x1 x2) (h : m &&& 67502080 = 67502080) :
    view m (pumpAll x0 x1 x2) = view m x0 := view_up h (by
  unfold pumpAll; simp)
@[simp] theorem dropOldest_view (m : Nat) (x0 x1 x2) (h : m &&& 202244096 = 202244096) :
    view m (dropOldest x0 x1 x2) = view m x0 := view_up h (by
  unfold dropOldest; simp)
@[simp] theorem deliver_view (m : Nat) (x0 x1 x2 x3 x4) (h : m &&& 202244096 = 202244096) :
    view m (deliver x0 x1 x2 x3 x4) = view m x0 := view_up h (by
  unfold deliver; simp)
@[simp] theorem deliverBoth_view (m : Nat) (x0 x1 x2 x3) (h : m &&& 202244096 = 202244096) :
    view m (deliverBoth x0 x1 x2 x3) = view m x0 := view_up h (by
  unfold deliverBoth; simp)

/-! ### Thermal -/

@[simp] theorem discardPeer_view (m : Nat) (s) (h : m &&& 32768 = 32768) :
    view m (discardPeer s) = view m s := view_up h (by
  unfold discardPeer; simp)
@[simp] theorem thermalDerate_view (m : Nat) (s x) (h : m &&& 201982976 = 201982976) :
    view m (thermalDerate s x) = view m s := view_up h (by
  unfold thermalDerate; (repeat' split) <;> simp)
@[simp] theorem modNode_view (m : Nat) (s n f) (h : m &&& 1024 = 1024) :
    view m (modNode s n f) = view m s := view_up h (by
  unfold modNode; simp)
@[simp] theorem applyBand_view (m : Nat) (s) (h : m &&& 201982976 = 201982976) :
    view m (applyBand s) = view m s := view_up h (by
  unfold applyBand; (repeat' (first | (simp (maxDischargeDepth := 6); done) | split | (dsimp only; split) | (simp (maxDischargeDepth := 6); split))))
@[simp] theorem judgeDiode_view (m : Nat) (s jump) (h : m &&& 201982976 = 201982976) :
    view m (judgeDiode s jump) = view m s := view_up h (by
  unfold judgeDiode; (repeat' (first | (simp (maxDischargeDepth := 6); done) | split | (dsimp only; split) | (simp (maxDischargeDepth := 6); split))))

/-! ### Estimation -/

@[simp] theorem disqualify_view (m : Nat) (s x reason tick cell value) (h : m &&& 201982208 = 201982208) :
    view m (disqualify s x reason tick cell value) = view m s := view_up h (by
  unfold disqualify; split <;> simp)
@[simp] theorem earlyWarnings_view (m : Nat) (s x k hi lo) (h : m &&& 201982208 = 201982208) :
    view m (earlyWarnings s x k hi lo) = view m s := view_up h (by
  unfold earlyWarnings; simp)
theorem propagateString_view0 (x0 x1 x2 x3) : view 201982208 (propagateString x0 x1 x2 x3) = view 201982208 x0 := by
  unfold propagateString
  split
  · rfl
  · extract_lets now st dqR cyc bad w n st1 one st2 dss st3 st4 s1 s2 p
    split
    · rfl
    · have h1 : view 201982208 s1 = view 201982208 x0 := modStr_view _ _ _ _ (by decide)
      clear_value bad s1
      have h2 : view 201982208 s2 = view 201982208 s1 := by
        simp only [s2]
        cases bad <;> simp
      clear_value s2
      split
      · rw [h2, h1]
      · simp [h2, h1]
@[simp] theorem propagateString_view (m : Nat) (x0 x1 x2 x3) (h : m &&& 201982208 = 201982208) :
    view m (propagateString x0 x1 x2 x3) = view m x0 := view_up h (propagateString_view0 x0 x1 x2 x3)
@[simp] theorem initString_view (m : Nat) (s x fr) (h : m &&& 288 = 288) :
    view m (initString s x fr) = view m s := view_up h (by
  unfold initString; simp)
@[simp] theorem channelChange_view (m : Nat) (s x fr) (h : m &&& 201982240 = 201982240) :
    view m (channelChange s x fr) = view m s := view_up h (by
  unfold channelChange; simp)
@[simp] theorem restStep_view (m : Nat) (s x fr) (h : m &&& 256 = 256) :
    view m (restStep s x fr) = view m s := view_up h (by
  unfold restStep; simp)
@[simp] theorem correctString_view (m : Nat) (s x fr ref) (h : m &&& 256 = 256) :
    view m (correctString s x fr ref) = view m s := view_up h (by
  unfold correctString; simp)
@[simp] theorem updateR_view (m : Nat) (s x fr) (h : m &&& 256 = 256) :
    view m (updateR s x fr) = view m s := view_up h (by
  unfold updateR; simp)
@[simp] theorem setAnchor_view (m : Nat) (s x fr refs) (h : m &&& 256 = 256) :
    view m (setAnchor s x fr refs) = view m s := view_up h (by
  unfold setAnchor; simp)
@[simp] theorem evaluateLearning_view (m : Nat) (s x fr l refs) (h : m &&& 201982208 = 201982208) :
    view m (evaluateLearning s x fr l refs) = view m s := view_up h (by
  unfold evaluateLearning; (repeat' (first | (simp (maxDischargeDepth := 6); done) | split | (dsimp only; split) | (simp (maxDischargeDepth := 6); split))))
@[simp] theorem takeReference_view (m : Nat) (s x fr refs) (h : m &&& 201982208 = 201982208) :
    view m (takeReference s x fr refs) = view m s := view_up h (by
  unfold takeReference; (repeat' (first | (simp (maxDischargeDepth := 6); done) | split | (dsimp only; split) | (simp (maxDischargeDepth := 6); split))))
@[simp] theorem judgeFrame_view (m : Nat) (s x fr) (h : m &&& 201982208 = 201982208) :
    view m (judgeFrame s x fr) = view m s := view_up h (by
  unfold judgeFrame; (repeat' (first | (simp (maxDischargeDepth := 6); done) | split | (dsimp only; split) | (simp (maxDischargeDepth := 6); split))))
@[simp] theorem judgeLearning_view (m : Nat) (s x fr) (h : m &&& 201982208 = 201982208) :
    view m (judgeLearning s x fr) = view m s := view_up h (by
  unfold judgeLearning; (repeat' (first | (simp (maxDischargeDepth := 6); done) | split | (dsimp only; split) | (simp (maxDischargeDepth := 6); split))))
@[simp] theorem abandonFrame_view (m : Nat) (s x) (h : m &&& 201982208 = 201982208) :
    view m (abandonFrame s x) = view m s := view_up h (by
  unfold abandonFrame; (repeat' (first | (simp (maxDischargeDepth := 6); done) | split | (dsimp only; split) | (simp (maxDischargeDepth := 6); split))))
@[simp] theorem seedString_view (m : Nat) (s x fr) (h : m &&& 201982212 = 201982212) :
    view m (seedString s x fr) = view m s := view_up h (by
  unfold seedString; simp)
@[simp] theorem updateString_view (m : Nat) (s x) (h : m &&& 201982244 = 201982244) :
    view m (updateString s x) = view m s := view_up h (by
  unfold updateString; split <;> simp)

/-! ### StateRecord -/

@[simp] theorem loadRecord_view (m : Nat) (s b age source) (h : m &&& 201982240 = 201982240) :
    view m (loadRecord s b age source) = view m s := view_up h (by
  unfold loadRecord; simp)
@[simp] theorem settleDest_view (m : Nat) (s d) (h : m &&& 202244352 = 202244352) :
    view m (settleDest s d) = view m s := view_up h (by
  unfold settleDest; simp)
@[simp] theorem destDone_view (m : Nat) (s d) (h : m &&& 256 = 256) : view m (destDone s d) = view m s := view_up h (by
  unfold destDone; simp)
@[simp] theorem writeDest_view (m : Nat) (s d b) (h : m &&& 67502336 = 67502336) :
    view m (writeDest s d b) = view m s := view_up h (by
  unfold writeDest; (repeat' (first | (simp (maxDischargeDepth := 6); done) | split | (dsimp only; split) | (simp (maxDischargeDepth := 6); split))))
@[simp] theorem bridge_view (m : Nat) (s x c0) (h : m &&& 256 = 256) :
    view m (bridge s x c0) = view m s := view_up h (by
  unfold bridge; (repeat' (first | (simp (maxDischargeDepth := 6); done) | split | (dsimp only; split) | (simp (maxDischargeDepth := 6); split))))
@[simp] theorem restoreTakeover_view (m : Nat) (s) (h : m &&& 202015008 = 202015008) :
    view m (restoreTakeover s) = view m s := view_up h (by
  unfold restoreTakeover; split <;> simp)

end Sys2Proof.Laws
end

