-- ==== Sys2Proof/Laws/State.lean ====
section
/-! SUPPORT. The small updates of the state: every field after each, and reading one of two after changing it. -/

namespace Sys2Proof.Laws

open Sys2Proof Sys2Proof.Machine

variable {α : Type}

@[simp] theorem two_get_modify (t : Two α) (i : Ix) (f : α → α) : (t.modify i f).get i = f (t.get i) := by cases i <;> rfl
@[simp] theorem two_get_set (t : Two α) (i : Ix) (a : α) : (t.set i a).get i = a := by cases i <;> rfl
theorem two_get_modify_other (t : Two α) (f : α → α) {i j : Ix} (h : j ≠ i) : (t.modify i f).get j = t.get j := by
  cases i <;> cases j <;> first | rfl | exact absurd rfl h
theorem two_get_set_other (t : Two α) (a : α) {i j : Ix} (h : j ≠ i) : (t.set i a).get j = t.get j := by
  cases i <;> cases j <;> first | rfl | exact absurd rfl h

/-! ### emit -/

@[simp] theorem emit_ident (s : State) (o : Out) : (emit s o).ident = s.ident := rfl
@[simp] theorem emit_elec (s : State) (o : Out) : (emit s o).elec = s.elec := rfl
@[simp] theorem emit_clk (s : State) (o : Out) : (emit s o).clk = s.clk := rfl
@[simp] theorem emit_grid (s : State) (o : Out) : (emit s o).grid = s.grid := rfl
@[simp] theorem emit_ring (s : State) (o : Out) : (emit s o).ring = s.ring := rfl
@[simp] theorem emit_front (s : State) (o : Out) : (emit s o).front = s.front := rfl
@[simp] theorem emit_fus (s : State) (o : Out) : (emit s o).fus = s.fus := rfl
@[simp] theorem emit_est (s : State) (o : Out) : (emit s o).est = s.est := rfl
@[simp] theorem emit_therm (s : State) (o : Out) : (emit s o).therm = s.therm := rfl
@[simp] theorem emit_ctl (s : State) (o : Out) : (emit s o).ctl = s.ctl := rfl
@[simp] theorem emit_hold (s : State) (o : Out) : (emit s o).hold = s.hold := rfl
@[simp] theorem emit_prot (s : State) (o : Out) : (emit s o).prot = s.prot := rfl
@[simp] theorem emit_outr (s : State) (o : Out) : (emit s o).outr = s.outr := rfl
@[simp] theorem emit_pair (s : State) (o : Out) : (emit s o).pair = s.pair := rfl
@[simp] theorem emit_can (s : State) (o : Out) : (emit s o).can = s.can := rfl
@[simp] theorem emit_host (s : State) (o : Out) : (emit s o).host = s.host := rfl
@[simp] theorem emit_ev (s : State) (o : Out) : (emit s o).ev = s.ev := rfl
@[simp] theorem emit_par (s : State) (o : Out) : (emit s o).par = s.par := rfl
@[simp] theorem emit_upd (s : State) (o : Out) : (emit s o).upd = s.upd := rfl
@[simp] theorem emit_pending (s : State) (o : Out) : (emit s o).pending = s.pending := rfl
@[simp] theorem emit_sent (s : State) (o : Out) : (emit s o).sent = s.sent ++ [o] := rfl
@[simp] theorem emit_freeCtr (s : State) (o : Out) : (emit s o).freeCtr = s.freeCtr := rfl

/-! ### emits -/

@[simp] theorem emits_ident (s : State) (os : List Out) : (emits s os).ident = s.ident := rfl
@[simp] theorem emits_elec (s : State) (os : List Out) : (emits s os).elec = s.elec := rfl
@[simp] theorem emits_clk (s : State) (os : List Out) : (emits s os).clk = s.clk := rfl
@[simp] theorem emits_grid (s : State) (os : List Out) : (emits s os).grid = s.grid := rfl
@[simp] theorem emits_ring (s : State) (os : List Out) : (emits s os).ring = s.ring := rfl
@[simp] theorem emits_front (s : State) (os : List Out) : (emits s os).front = s.front := rfl
@[simp] theorem emits_fus (s : State) (os : List Out) : (emits s os).fus = s.fus := rfl
@[simp] theorem emits_est (s : State) (os : List Out) : (emits s os).est = s.est := rfl
@[simp] theorem emits_therm (s : State) (os : List Out) : (emits s os).therm = s.therm := rfl
@[simp] theorem emits_ctl (s : State) (os : List Out) : (emits s os).ctl = s.ctl := rfl
@[simp] theorem emits_hold (s : State) (os : List Out) : (emits s os).hold = s.hold := rfl
@[simp] theorem emits_prot (s : State) (os : List Out) : (emits s os).prot = s.prot := rfl
@[simp] theorem emits_outr (s : State) (os : List Out) : (emits s os).outr = s.outr := rfl
@[simp] theorem emits_pair (s : State) (os : List Out) : (emits s os).pair = s.pair := rfl
@[simp] theorem emits_can (s : State) (os : List Out) : (emits s os).can = s.can := rfl
@[simp] theorem emits_host (s : State) (os : List Out) : (emits s os).host = s.host := rfl
@[simp] theorem emits_ev (s : State) (os : List Out) : (emits s os).ev = s.ev := rfl
@[simp] theorem emits_par (s : State) (os : List Out) : (emits s os).par = s.par := rfl
@[simp] theorem emits_upd (s : State) (os : List Out) : (emits s os).upd = s.upd := rfl
@[simp] theorem emits_pending (s : State) (os : List Out) : (emits s os).pending = s.pending := rfl
@[simp] theorem emits_sent (s : State) (os : List Out) : (emits s os).sent = s.sent ++ os := rfl
@[simp] theorem emits_freeCtr (s : State) (os : List Out) : (emits s os).freeCtr = s.freeCtr := rfl

/-! ### takeFree -/

@[simp] theorem takeFree_ident (s : State) : (takeFree s).ident = s.ident := rfl
@[simp] theorem takeFree_elec (s : State) : (takeFree s).elec = s.elec := rfl
@[simp] theorem takeFree_clk (s : State) : (takeFree s).clk = s.clk := rfl
@[simp] theorem takeFree_grid (s : State) : (takeFree s).grid = s.grid := rfl
@[simp] theorem takeFree_ring (s : State) : (takeFree s).ring = s.ring := rfl
@[simp] theorem takeFree_front (s : State) : (takeFree s).front = s.front := rfl
@[simp] theorem takeFree_fus (s : State) : (takeFree s).fus = s.fus := rfl
@[simp] theorem takeFree_est (s : State) : (takeFree s).est = s.est := rfl
@[simp] theorem takeFree_therm (s : State) : (takeFree s).therm = s.therm := rfl
@[simp] theorem takeFree_ctl (s : State) : (takeFree s).ctl = s.ctl := rfl
@[simp] theorem takeFree_hold (s : State) : (takeFree s).hold = s.hold := rfl
@[simp] theorem takeFree_prot (s : State) : (takeFree s).prot = s.prot := rfl
@[simp] theorem takeFree_outr (s : State) : (takeFree s).outr = s.outr := rfl
@[simp] theorem takeFree_pair (s : State) : (takeFree s).pair = s.pair := rfl
@[simp] theorem takeFree_can (s : State) : (takeFree s).can = s.can := rfl
@[simp] theorem takeFree_host (s : State) : (takeFree s).host = s.host := rfl
@[simp] theorem takeFree_ev (s : State) : (takeFree s).ev = s.ev := rfl
@[simp] theorem takeFree_par (s : State) : (takeFree s).par = s.par := rfl
@[simp] theorem takeFree_upd (s : State) : (takeFree s).upd = s.upd := rfl
@[simp] theorem takeFree_pending (s : State) : (takeFree s).pending = s.pending := rfl
@[simp] theorem takeFree_sent (s : State) : (takeFree s).sent = s.sent := rfl
@[simp] theorem takeFree_freeCtr (s : State) : (takeFree s).freeCtr = s.freeCtr + 1 := rfl

/-! ### modPort -/

@[simp] theorem modPort_ident (s : State) (p : Ix) (f : PortState → PortState) : (modPort s p f).ident = s.ident := rfl
@[simp] theorem modPort_elec (s : State) (p : Ix) (f : PortState → PortState) : (modPort s p f).elec = s.elec := rfl
@[simp] theorem modPort_clk (s : State) (p : Ix) (f : PortState → PortState) : (modPort s p f).clk = s.clk := rfl
@[simp] theorem modPort_grid (s : State) (p : Ix) (f : PortState → PortState) : (modPort s p f).grid = s.grid := rfl
@[simp] theorem modPort_ring (s : State) (p : Ix) (f : PortState → PortState) : (modPort s p f).ring = s.ring := rfl
@[simp] theorem modPort_front (s : State) (p : Ix) (f : PortState → PortState) : (modPort s p f).front = s.front := rfl
@[simp] theorem modPort_fus (s : State) (p : Ix) (f : PortState → PortState) : (modPort s p f).fus = s.fus := rfl
@[simp] theorem modPort_est (s : State) (p : Ix) (f : PortState → PortState) : (modPort s p f).est = s.est := rfl
@[simp] theorem modPort_therm (s : State) (p : Ix) (f : PortState → PortState) : (modPort s p f).therm = s.therm := rfl
@[simp] theorem modPort_ctl (s : State) (p : Ix) (f : PortState → PortState) : (modPort s p f).ctl = s.ctl := rfl
@[simp] theorem modPort_hold (s : State) (p : Ix) (f : PortState → PortState) : (modPort s p f).hold = s.hold := rfl
@[simp] theorem modPort_prot (s : State) (p : Ix) (f : PortState → PortState) : (modPort s p f).prot = s.prot := rfl
@[simp] theorem modPort_outr (s : State) (p : Ix) (f : PortState → PortState) : (modPort s p f).outr = s.outr := rfl
@[simp] theorem modPort_pair (s : State) (p : Ix) (f : PortState → PortState) : (modPort s p f).pair = s.pair := rfl
@[simp] theorem modPort_can (s : State) (p : Ix) (f : PortState → PortState) : (modPort s p f).can = s.can := rfl
@[simp] theorem modPort_host (s : State) (p : Ix) (f : PortState → PortState) : (modPort s p f).host = { s.host with port := s.host.port.modify p f } := rfl
@[simp] theorem modPort_ev (s : State) (p : Ix) (f : PortState → PortState) : (modPort s p f).ev = s.ev := rfl
@[simp] theorem modPort_par (s : State) (p : Ix) (f : PortState → PortState) : (modPort s p f).par = s.par := rfl
@[simp] theorem modPort_upd (s : State) (p : Ix) (f : PortState → PortState) : (modPort s p f).upd = s.upd := rfl
@[simp] theorem modPort_pending (s : State) (p : Ix) (f : PortState → PortState) : (modPort s p f).pending = s.pending := rfl
@[simp] theorem modPort_sent (s : State) (p : Ix) (f : PortState → PortState) : (modPort s p f).sent = s.sent := rfl
@[simp] theorem modPort_freeCtr (s : State) (p : Ix) (f : PortState → PortState) : (modPort s p f).freeCtr = s.freeCtr := rfl

/-! ### modCar -/

@[simp] theorem modCar_ident (s : State) (r : Ix) (f : RingState → RingState) : (modCar s r f).ident = s.ident := rfl
@[simp] theorem modCar_elec (s : State) (r : Ix) (f : RingState → RingState) : (modCar s r f).elec = s.elec := rfl
@[simp] theorem modCar_clk (s : State) (r : Ix) (f : RingState → RingState) : (modCar s r f).clk = s.clk := rfl
@[simp] theorem modCar_grid (s : State) (r : Ix) (f : RingState → RingState) : (modCar s r f).grid = s.grid := rfl
@[simp] theorem modCar_ring (s : State) (r : Ix) (f : RingState → RingState) : (modCar s r f).ring = s.ring.modify r f := rfl
@[simp] theorem modCar_front (s : State) (r : Ix) (f : RingState → RingState) : (modCar s r f).front = s.front := rfl
@[simp] theorem modCar_fus (s : State) (r : Ix) (f : RingState → RingState) : (modCar s r f).fus = s.fus := rfl
@[simp] theorem modCar_est (s : State) (r : Ix) (f : RingState → RingState) : (modCar s r f).est = s.est := rfl
@[simp] theorem modCar_therm (s : State) (r : Ix) (f : RingState → RingState) : (modCar s r f).therm = s.therm := rfl
@[simp] theorem modCar_ctl (s : State) (r : Ix) (f : RingState → RingState) : (modCar s r f).ctl = s.ctl := rfl
@[simp] theorem modCar_hold (s : State) (r : Ix) (f : RingState → RingState) : (modCar s r f).hold = s.hold := rfl
@[simp] theorem modCar_prot (s : State) (r : Ix) (f : RingState → RingState) : (modCar s r f).prot = s.prot := rfl
@[simp] theorem modCar_outr (s : State) (r : Ix) (f : RingState → RingState) : (modCar s r f).outr = s.outr := rfl
@[simp] theorem modCar_pair (s : State) (r : Ix) (f : RingState → RingState) : (modCar s r f).pair = s.pair := rfl
@[simp] theorem modCar_can (s : State) (r : Ix) (f : RingState → RingState) : (modCar s r f).can = s.can := rfl
@[simp] theorem modCar_host (s : State) (r : Ix) (f : RingState → RingState) : (modCar s r f).host = s.host := rfl
@[simp] theorem modCar_ev (s : State) (r : Ix) (f : RingState → RingState) : (modCar s r f).ev = s.ev := rfl
@[simp] theorem modCar_par (s : State) (r : Ix) (f : RingState → RingState) : (modCar s r f).par = s.par := rfl
@[simp] theorem modCar_upd (s : State) (r : Ix) (f : RingState → RingState) : (modCar s r f).upd = s.upd := rfl
@[simp] theorem modCar_pending (s : State) (r : Ix) (f : RingState → RingState) : (modCar s r f).pending = s.pending := rfl
@[simp] theorem modCar_sent (s : State) (r : Ix) (f : RingState → RingState) : (modCar s r f).sent = s.sent := rfl
@[simp] theorem modCar_freeCtr (s : State) (r : Ix) (f : RingState → RingState) : (modCar s r f).freeCtr = s.freeCtr := rfl

/-! ### modProt -/

@[simp] theorem modProt_ident (s : State) (x : Ix) (f : ProtState → ProtState) : (modProt s x f).ident = s.ident := rfl
@[simp] theorem modProt_elec (s : State) (x : Ix) (f : ProtState → ProtState) : (modProt s x f).elec = s.elec := rfl
@[simp] theorem modProt_clk (s : State) (x : Ix) (f : ProtState → ProtState) : (modProt s x f).clk = s.clk := rfl
@[simp] theorem modProt_grid (s : State) (x : Ix) (f : ProtState → ProtState) : (modProt s x f).grid = s.grid := rfl
@[simp] theorem modProt_ring (s : State) (x : Ix) (f : ProtState → ProtState) : (modProt s x f).ring = s.ring := rfl
@[simp] theorem modProt_front (s : State) (x : Ix) (f : ProtState → ProtState) : (modProt s x f).front = s.front := rfl
@[simp] theorem modProt_fus (s : State) (x : Ix) (f : ProtState → ProtState) : (modProt s x f).fus = s.fus := rfl
@[simp] theorem modProt_est (s : State) (x : Ix) (f : ProtState → ProtState) : (modProt s x f).est = s.est := rfl
@[simp] theorem modProt_therm (s : State) (x : Ix) (f : ProtState → ProtState) : (modProt s x f).therm = s.therm := rfl
@[simp] theorem modProt_ctl (s : State) (x : Ix) (f : ProtState → ProtState) : (modProt s x f).ctl = s.ctl := rfl
@[simp] theorem modProt_hold (s : State) (x : Ix) (f : ProtState → ProtState) : (modProt s x f).hold = s.hold := rfl
@[simp] theorem modProt_prot (s : State) (x : Ix) (f : ProtState → ProtState) : (modProt s x f).prot = s.prot.modify x f := rfl
@[simp] theorem modProt_outr (s : State) (x : Ix) (f : ProtState → ProtState) : (modProt s x f).outr = s.outr := rfl
@[simp] theorem modProt_pair (s : State) (x : Ix) (f : ProtState → ProtState) : (modProt s x f).pair = s.pair := rfl
@[simp] theorem modProt_can (s : State) (x : Ix) (f : ProtState → ProtState) : (modProt s x f).can = s.can := rfl
@[simp] theorem modProt_host (s : State) (x : Ix) (f : ProtState → ProtState) : (modProt s x f).host = s.host := rfl
@[simp] theorem modProt_ev (s : State) (x : Ix) (f : ProtState → ProtState) : (modProt s x f).ev = s.ev := rfl
@[simp] theorem modProt_par (s : State) (x : Ix) (f : ProtState → ProtState) : (modProt s x f).par = s.par := rfl
@[simp] theorem modProt_upd (s : State) (x : Ix) (f : ProtState → ProtState) : (modProt s x f).upd = s.upd := rfl
@[simp] theorem modProt_pending (s : State) (x : Ix) (f : ProtState → ProtState) : (modProt s x f).pending = s.pending := rfl
@[simp] theorem modProt_sent (s : State) (x : Ix) (f : ProtState → ProtState) : (modProt s x f).sent = s.sent := rfl
@[simp] theorem modProt_freeCtr (s : State) (x : Ix) (f : ProtState → ProtState) : (modProt s x f).freeCtr = s.freeCtr := rfl

/-! ### modStr -/

@[simp] theorem modStr_ident (s : State) (x : Ix) (f : StrEst → StrEst) : (modStr s x f).ident = s.ident := rfl
@[simp] theorem modStr_elec (s : State) (x : Ix) (f : StrEst → StrEst) : (modStr s x f).elec = s.elec := rfl
@[simp] theorem modStr_clk (s : State) (x : Ix) (f : StrEst → StrEst) : (modStr s x f).clk = s.clk := rfl
@[simp] theorem modStr_grid (s : State) (x : Ix) (f : StrEst → StrEst) : (modStr s x f).grid = s.grid := rfl
@[simp] theorem modStr_ring (s : State) (x : Ix) (f : StrEst → StrEst) : (modStr s x f).ring = s.ring := rfl
@[simp] theorem modStr_front (s : State) (x : Ix) (f : StrEst → StrEst) : (modStr s x f).front = s.front := rfl
@[simp] theorem modStr_fus (s : State) (x : Ix) (f : StrEst → StrEst) : (modStr s x f).fus = s.fus := rfl
@[simp] theorem modStr_est (s : State) (x : Ix) (f : StrEst → StrEst) : (modStr s x f).est = { s.est with str := s.est.str.modify x f } := rfl
@[simp] theorem modStr_therm (s : State) (x : Ix) (f : StrEst → StrEst) : (modStr s x f).therm = s.therm := rfl
@[simp] theorem modStr_ctl (s : State) (x : Ix) (f : StrEst → StrEst) : (modStr s x f).ctl = s.ctl := rfl
@[simp] theorem modStr_hold (s : State) (x : Ix) (f : StrEst → StrEst) : (modStr s x f).hold = s.hold := rfl
@[simp] theorem modStr_prot (s : State) (x : Ix) (f : StrEst → StrEst) : (modStr s x f).prot = s.prot := rfl
@[simp] theorem modStr_outr (s : State) (x : Ix) (f : StrEst → StrEst) : (modStr s x f).outr = s.outr := rfl
@[simp] theorem modStr_pair (s : State) (x : Ix) (f : StrEst → StrEst) : (modStr s x f).pair = s.pair := rfl
@[simp] theorem modStr_can (s : State) (x : Ix) (f : StrEst → StrEst) : (modStr s x f).can = s.can := rfl
@[simp] theorem modStr_host (s : State) (x : Ix) (f : StrEst → StrEst) : (modStr s x f).host = s.host := rfl
@[simp] theorem modStr_ev (s : State) (x : Ix) (f : StrEst → StrEst) : (modStr s x f).ev = s.ev := rfl
@[simp] theorem modStr_par (s : State) (x : Ix) (f : StrEst → StrEst) : (modStr s x f).par = s.par := rfl
@[simp] theorem modStr_upd (s : State) (x : Ix) (f : StrEst → StrEst) : (modStr s x f).upd = s.upd := rfl
@[simp] theorem modStr_pending (s : State) (x : Ix) (f : StrEst → StrEst) : (modStr s x f).pending = s.pending := rfl
@[simp] theorem modStr_sent (s : State) (x : Ix) (f : StrEst → StrEst) : (modStr s x f).sent = s.sent := rfl
@[simp] theorem modStr_freeCtr (s : State) (x : Ix) (f : StrEst → StrEst) : (modStr s x f).freeCtr = s.freeCtr := rfl

/-! ### modFe -/

@[simp] theorem modFe_ident (s : State) (x : Ix) (f : FeState → FeState) : (modFe s x f).ident = s.ident := rfl
@[simp] theorem modFe_elec (s : State) (x : Ix) (f : FeState → FeState) : (modFe s x f).elec = s.elec := rfl
@[simp] theorem modFe_clk (s : State) (x : Ix) (f : FeState → FeState) : (modFe s x f).clk = s.clk := rfl
@[simp] theorem modFe_grid (s : State) (x : Ix) (f : FeState → FeState) : (modFe s x f).grid = s.grid := rfl
@[simp] theorem modFe_ring (s : State) (x : Ix) (f : FeState → FeState) : (modFe s x f).ring = s.ring := rfl
@[simp] theorem modFe_front (s : State) (x : Ix) (f : FeState → FeState) : (modFe s x f).front = { s.front with fe := s.front.fe.modify x f } := rfl
@[simp] theorem modFe_fus (s : State) (x : Ix) (f : FeState → FeState) : (modFe s x f).fus = s.fus := rfl
@[simp] theorem modFe_est (s : State) (x : Ix) (f : FeState → FeState) : (modFe s x f).est = s.est := rfl
@[simp] theorem modFe_therm (s : State) (x : Ix) (f : FeState → FeState) : (modFe s x f).therm = s.therm := rfl
@[simp] theorem modFe_ctl (s : State) (x : Ix) (f : FeState → FeState) : (modFe s x f).ctl = s.ctl := rfl
@[simp] theorem modFe_hold (s : State) (x : Ix) (f : FeState → FeState) : (modFe s x f).hold = s.hold := rfl
@[simp] theorem modFe_prot (s : State) (x : Ix) (f : FeState → FeState) : (modFe s x f).prot = s.prot := rfl
@[simp] theorem modFe_outr (s : State) (x : Ix) (f : FeState → FeState) : (modFe s x f).outr = s.outr := rfl
@[simp] theorem modFe_pair (s : State) (x : Ix) (f : FeState → FeState) : (modFe s x f).pair = s.pair := rfl
@[simp] theorem modFe_can (s : State) (x : Ix) (f : FeState → FeState) : (modFe s x f).can = s.can := rfl
@[simp] theorem modFe_host (s : State) (x : Ix) (f : FeState → FeState) : (modFe s x f).host = s.host := rfl
@[simp] theorem modFe_ev (s : State) (x : Ix) (f : FeState → FeState) : (modFe s x f).ev = s.ev := rfl
@[simp] theorem modFe_par (s : State) (x : Ix) (f : FeState → FeState) : (modFe s x f).par = s.par := rfl
@[simp] theorem modFe_upd (s : State) (x : Ix) (f : FeState → FeState) : (modFe s x f).upd = s.upd := rfl
@[simp] theorem modFe_pending (s : State) (x : Ix) (f : FeState → FeState) : (modFe s x f).pending = s.pending := rfl
@[simp] theorem modFe_sent (s : State) (x : Ix) (f : FeState → FeState) : (modFe s x f).sent = s.sent := rfl
@[simp] theorem modFe_freeCtr (s : State) (x : Ix) (f : FeState → FeState) : (modFe s x f).freeCtr = s.freeCtr := rfl

/-! ### modBus -/

@[simp] theorem modBus_ident (s : State) (b : Ix) (f : CanBus → CanBus) : (modBus s b f).ident = s.ident := rfl
@[simp] theorem modBus_elec (s : State) (b : Ix) (f : CanBus → CanBus) : (modBus s b f).elec = s.elec := rfl
@[simp] theorem modBus_clk (s : State) (b : Ix) (f : CanBus → CanBus) : (modBus s b f).clk = s.clk := rfl
@[simp] theorem modBus_grid (s : State) (b : Ix) (f : CanBus → CanBus) : (modBus s b f).grid = s.grid := rfl
@[simp] theorem modBus_ring (s : State) (b : Ix) (f : CanBus → CanBus) : (modBus s b f).ring = s.ring := rfl
@[simp] theorem modBus_front (s : State) (b : Ix) (f : CanBus → CanBus) : (modBus s b f).front = s.front := rfl
@[simp] theorem modBus_fus (s : State) (b : Ix) (f : CanBus → CanBus) : (modBus s b f).fus = s.fus := rfl
@[simp] theorem modBus_est (s : State) (b : Ix) (f : CanBus → CanBus) : (modBus s b f).est = s.est := rfl
@[simp] theorem modBus_therm (s : State) (b : Ix) (f : CanBus → CanBus) : (modBus s b f).therm = s.therm := rfl
@[simp] theorem modBus_ctl (s : State) (b : Ix) (f : CanBus → CanBus) : (modBus s b f).ctl = s.ctl := rfl
@[simp] theorem modBus_hold (s : State) (b : Ix) (f : CanBus → CanBus) : (modBus s b f).hold = s.hold := rfl
@[simp] theorem modBus_prot (s : State) (b : Ix) (f : CanBus → CanBus) : (modBus s b f).prot = s.prot := rfl
@[simp] theorem modBus_outr (s : State) (b : Ix) (f : CanBus → CanBus) : (modBus s b f).outr = s.outr := rfl
@[simp] theorem modBus_pair (s : State) (b : Ix) (f : CanBus → CanBus) : (modBus s b f).pair = s.pair := rfl
@[simp] theorem modBus_can (s : State) (b : Ix) (f : CanBus → CanBus) : (modBus s b f).can = { s.can with bus := s.can.bus.modify b f } := rfl
@[simp] theorem modBus_host (s : State) (b : Ix) (f : CanBus → CanBus) : (modBus s b f).host = s.host := rfl
@[simp] theorem modBus_ev (s : State) (b : Ix) (f : CanBus → CanBus) : (modBus s b f).ev = s.ev := rfl
@[simp] theorem modBus_par (s : State) (b : Ix) (f : CanBus → CanBus) : (modBus s b f).par = s.par := rfl
@[simp] theorem modBus_upd (s : State) (b : Ix) (f : CanBus → CanBus) : (modBus s b f).upd = s.upd := rfl
@[simp] theorem modBus_pending (s : State) (b : Ix) (f : CanBus → CanBus) : (modBus s b f).pending = s.pending := rfl
@[simp] theorem modBus_sent (s : State) (b : Ix) (f : CanBus → CanBus) : (modBus s b f).sent = s.sent := rfl
@[simp] theorem modBus_freeCtr (s : State) (b : Ix) (f : CanBus → CanBus) : (modBus s b f).freeCtr = s.freeCtr := rfl

/-! ### modPcs -/

@[simp] theorem modPcs_ident (s : State) (x : Ix) (f : PcsState → PcsState) : (modPcs s x f).ident = s.ident := rfl
@[simp] theorem modPcs_elec (s : State) (x : Ix) (f : PcsState → PcsState) : (modPcs s x f).elec = s.elec := rfl
@[simp] theorem modPcs_clk (s : State) (x : Ix) (f : PcsState → PcsState) : (modPcs s x f).clk = s.clk := rfl
@[simp] theorem modPcs_grid (s : State) (x : Ix) (f : PcsState → PcsState) : (modPcs s x f).grid = s.grid := rfl
@[simp] theorem modPcs_ring (s : State) (x : Ix) (f : PcsState → PcsState) : (modPcs s x f).ring = s.ring := rfl
@[simp] theorem modPcs_front (s : State) (x : Ix) (f : PcsState → PcsState) : (modPcs s x f).front = s.front := rfl
@[simp] theorem modPcs_fus (s : State) (x : Ix) (f : PcsState → PcsState) : (modPcs s x f).fus = s.fus := rfl
@[simp] theorem modPcs_est (s : State) (x : Ix) (f : PcsState → PcsState) : (modPcs s x f).est = s.est := rfl
@[simp] theorem modPcs_therm (s : State) (x : Ix) (f : PcsState → PcsState) : (modPcs s x f).therm = s.therm := rfl
@[simp] theorem modPcs_ctl (s : State) (x : Ix) (f : PcsState → PcsState) : (modPcs s x f).ctl = s.ctl := rfl
@[simp] theorem modPcs_hold (s : State) (x : Ix) (f : PcsState → PcsState) : (modPcs s x f).hold = s.hold := rfl
@[simp] theorem modPcs_prot (s : State) (x : Ix) (f : PcsState → PcsState) : (modPcs s x f).prot = s.prot := rfl
@[simp] theorem modPcs_outr (s : State) (x : Ix) (f : PcsState → PcsState) : (modPcs s x f).outr = s.outr := rfl
@[simp] theorem modPcs_pair (s : State) (x : Ix) (f : PcsState → PcsState) : (modPcs s x f).pair = s.pair := rfl
@[simp] theorem modPcs_can (s : State) (x : Ix) (f : PcsState → PcsState) : (modPcs s x f).can = { s.can with pcs := s.can.pcs.modify x f } := rfl
@[simp] theorem modPcs_host (s : State) (x : Ix) (f : PcsState → PcsState) : (modPcs s x f).host = s.host := rfl
@[simp] theorem modPcs_ev (s : State) (x : Ix) (f : PcsState → PcsState) : (modPcs s x f).ev = s.ev := rfl
@[simp] theorem modPcs_par (s : State) (x : Ix) (f : PcsState → PcsState) : (modPcs s x f).par = s.par := rfl
@[simp] theorem modPcs_upd (s : State) (x : Ix) (f : PcsState → PcsState) : (modPcs s x f).upd = s.upd := rfl
@[simp] theorem modPcs_pending (s : State) (x : Ix) (f : PcsState → PcsState) : (modPcs s x f).pending = s.pending := rfl
@[simp] theorem modPcs_sent (s : State) (x : Ix) (f : PcsState → PcsState) : (modPcs s x f).sent = s.sent := rfl
@[simp] theorem modPcs_freeCtr (s : State) (x : Ix) (f : PcsState → PcsState) : (modPcs s x f).freeCtr = s.freeCtr := rfl

/-! ### modSlot -/

@[simp] theorem modSlot_ident (s : State) (n : Nat) (f : SlotState → SlotState) : (modSlot s n f).ident = s.ident := rfl
@[simp] theorem modSlot_elec (s : State) (n : Nat) (f : SlotState → SlotState) : (modSlot s n f).elec = s.elec := rfl
@[simp] theorem modSlot_clk (s : State) (n : Nat) (f : SlotState → SlotState) : (modSlot s n f).clk = s.clk := rfl
@[simp] theorem modSlot_grid (s : State) (n : Nat) (f : SlotState → SlotState) : (modSlot s n f).grid = s.grid := rfl
@[simp] theorem modSlot_ring (s : State) (n : Nat) (f : SlotState → SlotState) : (modSlot s n f).ring = s.ring := rfl
@[simp] theorem modSlot_front (s : State) (n : Nat) (f : SlotState → SlotState) : (modSlot s n f).front = s.front := rfl
@[simp] theorem modSlot_fus (s : State) (n : Nat) (f : SlotState → SlotState) : (modSlot s n f).fus = s.fus := rfl
@[simp] theorem modSlot_est (s : State) (n : Nat) (f : SlotState → SlotState) : (modSlot s n f).est = s.est := rfl
@[simp] theorem modSlot_therm (s : State) (n : Nat) (f : SlotState → SlotState) : (modSlot s n f).therm = s.therm := rfl
@[simp] theorem modSlot_ctl (s : State) (n : Nat) (f : SlotState → SlotState) : (modSlot s n f).ctl = { s.ctl with slots := modAt s.ctl.slots n f } := rfl
@[simp] theorem modSlot_hold (s : State) (n : Nat) (f : SlotState → SlotState) : (modSlot s n f).hold = s.hold := rfl
@[simp] theorem modSlot_prot (s : State) (n : Nat) (f : SlotState → SlotState) : (modSlot s n f).prot = s.prot := rfl
@[simp] theorem modSlot_outr (s : State) (n : Nat) (f : SlotState → SlotState) : (modSlot s n f).outr = s.outr := rfl
@[simp] theorem modSlot_pair (s : State) (n : Nat) (f : SlotState → SlotState) : (modSlot s n f).pair = s.pair := rfl
@[simp] theorem modSlot_can (s : State) (n : Nat) (f : SlotState → SlotState) : (modSlot s n f).can = s.can := rfl
@[simp] theorem modSlot_host (s : State) (n : Nat) (f : SlotState → SlotState) : (modSlot s n f).host = s.host := rfl
@[simp] theorem modSlot_ev (s : State) (n : Nat) (f : SlotState → SlotState) : (modSlot s n f).ev = s.ev := rfl
@[simp] theorem modSlot_par (s : State) (n : Nat) (f : SlotState → SlotState) : (modSlot s n f).par = s.par := rfl
@[simp] theorem modSlot_upd (s : State) (n : Nat) (f : SlotState → SlotState) : (modSlot s n f).upd = s.upd := rfl
@[simp] theorem modSlot_pending (s : State) (n : Nat) (f : SlotState → SlotState) : (modSlot s n f).pending = s.pending := rfl
@[simp] theorem modSlot_sent (s : State) (n : Nat) (f : SlotState → SlotState) : (modSlot s n f).sent = s.sent := rfl
@[simp] theorem modSlot_freeCtr (s : State) (n : Nat) (f : SlotState → SlotState) : (modSlot s n f).freeCtr = s.freeCtr := rfl

/-! ### storeLast -/

@[simp] theorem storeLast_ident (s : State) (o : Occ) : (storeLast s o).ident = s.ident := rfl
@[simp] theorem storeLast_elec (s : State) (o : Occ) : (storeLast s o).elec = s.elec := rfl
@[simp] theorem storeLast_clk (s : State) (o : Occ) : (storeLast s o).clk = s.clk := rfl
@[simp] theorem storeLast_grid (s : State) (o : Occ) : (storeLast s o).grid = s.grid := rfl
@[simp] theorem storeLast_ring (s : State) (o : Occ) : (storeLast s o).ring = s.ring := rfl
@[simp] theorem storeLast_front (s : State) (o : Occ) : (storeLast s o).front = s.front := rfl
@[simp] theorem storeLast_fus (s : State) (o : Occ) : (storeLast s o).fus = s.fus := rfl
@[simp] theorem storeLast_est (s : State) (o : Occ) : (storeLast s o).est = s.est := rfl
@[simp] theorem storeLast_therm (s : State) (o : Occ) : (storeLast s o).therm = s.therm := rfl
@[simp] theorem storeLast_ctl (s : State) (o : Occ) : (storeLast s o).ctl = s.ctl := rfl
@[simp] theorem storeLast_hold (s : State) (o : Occ) : (storeLast s o).hold = s.hold := rfl
@[simp] theorem storeLast_prot (s : State) (o : Occ) : (storeLast s o).prot = s.prot := rfl
@[simp] theorem storeLast_outr (s : State) (o : Occ) : (storeLast s o).outr = s.outr := rfl
@[simp] theorem storeLast_pair (s : State) (o : Occ) : (storeLast s o).pair = s.pair := rfl
@[simp] theorem storeLast_can (s : State) (o : Occ) : (storeLast s o).can = s.can := rfl
@[simp] theorem storeLast_host (s : State) (o : Occ) : (storeLast s o).host = s.host := rfl
@[simp] theorem storeLast_ev (s : State) (o : Occ) : (storeLast s o).ev = { s.ev with last := KV.put s.ev.last o.evt o } := rfl
@[simp] theorem storeLast_par (s : State) (o : Occ) : (storeLast s o).par = s.par := rfl
@[simp] theorem storeLast_upd (s : State) (o : Occ) : (storeLast s o).upd = s.upd := rfl
@[simp] theorem storeLast_pending (s : State) (o : Occ) : (storeLast s o).pending = s.pending := rfl
@[simp] theorem storeLast_sent (s : State) (o : Occ) : (storeLast s o).sent = s.sent := rfl
@[simp] theorem storeLast_freeCtr (s : State) (o : Occ) : (storeLast s o).freeCtr = s.freeCtr := rfl

/-! ### applyPending -/

@[simp] theorem applyPending_ident (s : State) (due : Bound → Nat → Bool) : (applyPending s due).ident = s.ident := rfl
@[simp] theorem applyPending_elec (s : State) (due : Bound → Nat → Bool) : (applyPending s due).elec = s.elec := rfl
@[simp] theorem applyPending_clk (s : State) (due : Bound → Nat → Bool) : (applyPending s due).clk = s.clk := rfl
@[simp] theorem applyPending_grid (s : State) (due : Bound → Nat → Bool) : (applyPending s due).grid = s.grid := rfl
@[simp] theorem applyPending_ring (s : State) (due : Bound → Nat → Bool) : (applyPending s due).ring = s.ring := rfl
@[simp] theorem applyPending_front (s : State) (due : Bound → Nat → Bool) : (applyPending s due).front = s.front := rfl
@[simp] theorem applyPending_fus (s : State) (due : Bound → Nat → Bool) : (applyPending s due).fus = s.fus := rfl
@[simp] theorem applyPending_est (s : State) (due : Bound → Nat → Bool) : (applyPending s due).est = s.est := rfl
@[simp] theorem applyPending_therm (s : State) (due : Bound → Nat → Bool) : (applyPending s due).therm = s.therm := rfl
@[simp] theorem applyPending_ctl (s : State) (due : Bound → Nat → Bool) : (applyPending s due).ctl = s.ctl := rfl
@[simp] theorem applyPending_hold (s : State) (due : Bound → Nat → Bool) : (applyPending s due).hold = s.hold := rfl
@[simp] theorem applyPending_prot (s : State) (due : Bound → Nat → Bool) : (applyPending s due).prot = s.prot := rfl
@[simp] theorem applyPending_outr (s : State) (due : Bound → Nat → Bool) : (applyPending s due).outr = s.outr := rfl
@[simp] theorem applyPending_pair (s : State) (due : Bound → Nat → Bool) : (applyPending s due).pair = s.pair := rfl
@[simp] theorem applyPending_can (s : State) (due : Bound → Nat → Bool) : (applyPending s due).can = s.can := rfl
@[simp] theorem applyPending_host (s : State) (due : Bound → Nat → Bool) : (applyPending s due).host = s.host := rfl
@[simp] theorem applyPending_ev (s : State) (due : Bound → Nat → Bool) : (applyPending s due).ev = s.ev := rfl
@[simp] theorem applyPending_upd (s : State) (due : Bound → Nat → Bool) : (applyPending s due).upd = s.upd := rfl
@[simp] theorem applyPending_pending (s : State) (due : Bound → Nat → Bool) : (applyPending s due).pending = s.pending := rfl
@[simp] theorem applyPending_sent (s : State) (due : Bound → Nat → Bool) : (applyPending s due).sent = s.sent := rfl
@[simp] theorem applyPending_freeCtr (s : State) (due : Bound → Nat → Bool) : (applyPending s due).freeCtr = s.freeCtr := rfl

end Sys2Proof.Laws
end

