-- ==== Sys2Proof/Laws/Estimation.lean ====
section
/-! SUPPORT. What carries a cell over ticks depends on nothing but the parameters, the variant, the rings and the thermal nodes. -/

namespace Sys2Proof.Laws

open Sys2Proof Sys2Proof.Machine

variable {s t : State}

theorem parN_congr (hi : t.ident = s.ident) (hp : t.par = s.par) : parN t = parN s := by
  funext a; simp only [parN, hi, hp]
theorem parF_congr (hi : t.ident = s.ident) (hp : t.par = s.par) : parF t = parF s := by
  funext a; simp only [parF, parN_congr hi hp]
theorem parI_congr (hi : t.ident = s.ident) (hp : t.par = s.par) : parI t = parI s := by
  funext a; simp only [parI, parN_congr hi hp, hi]
theorem ocvEntry_congr (hi : t.ident = s.ident) (hp : t.par = s.par) : ocvEntry t = ocvEntry s := by
  funext j i; simp only [ocvEntry, parN_congr hi hp]
theorem ocv_congr (hi : t.ident = s.ident) (hp : t.par = s.par) : ocv t = ocv s := by
  funext x y; simp only [ocv, ocvAt, ocvEntry_congr hi hp]
theorem clampX_congr (hi : t.ident = s.ident) (hp : t.par = s.par) : clampX t = clampX s := by
  funext x; simp only [clampX, parN_congr hi hp]
theorem propagateCell_congr (hi : t.ident = s.ident) (hp : t.par = s.par) : propagateCell t = propagateCell s := by
  funext e c r n w q
  simp only [propagateCell, propagateCell.parF', parN_congr hi hp, parF_congr hi hp, ocv_congr hi hp, clampX_congr hi hp]
theorem nPop_congr (hr : t.ring = s.ring) : nPop t = nPop s := by
  funext x; simp only [nPop, strCells, car, hr]
theorem inletTemp_congr (hi : t.ident = s.ident) (hp : t.par = s.par) (ht : t.therm = s.therm) : inletTemp t = inletTemp s := by
  funext x c; simp only [inletTemp, nodeFor, parN_congr hi hp, ht]
theorem intervalOf_congr (hi : t.ident = s.ident) (hp : t.par = s.par) (ht : t.therm = s.therm) : intervalOf t = intervalOf s := by
  funext x late ts; simp only [intervalOf, inletTemp_congr hi hp ht]
theorem balLimit_congr (hi : t.ident = s.ident) (hp : t.par = s.par) (hr : t.ring = s.ring) : balLimit t = balLimit s := by
  funext x; unfold balLimit car; rw [hr, parN_congr hi hp]
theorem resistorOn_congr (hi : t.ident = s.ident) (hp : t.par = s.par) (hr : t.ring = s.ring) : resistorOn t = resistorOn s := by
  funext x u k p; simp only [resistorOn, balLimit_congr hi hp hr]
theorem balCharge_congr (hi : t.ident = s.ident) (hp : t.par = s.par) (hr : t.ring = s.ring) : balCharge t = balCharge s := by
  funext x e ts; simp only [balCharge, unitOfSerial, car, parF_congr hi hp, resistorOn_congr hi hp hr, hr]
/-- Carrying a cell over ticks depends on the parameters, the variant, the rings and the thermal nodes alone. -/
theorem carryCell_congr (hi : t.ident = s.ident) (hp : t.par = s.par) (hr : t.ring = s.ring) (ht : t.therm = s.therm) :
    carryCell t = carryCell s := by
  funext x late st n ts e
  simp only [carryCell, balCharge_congr hi hp hr, propagateCell_congr hi hp, intervalOf_congr hi hp ht]

/-- The ticks of one cycle form one part. -/
theorem byCycle_one (l : PendTick) : byCycle [l] = [[l]] := by simp [byCycle, List.splitBy, List.splitBy.loop]
/-- A frame-end latch leaves the state of the cell and its covariances as they are. -/
@[simp] theorem latchCell_x (c : Nat) (e : CellEst) : (latchCell c e).x = e.x := rfl
@[simp] theorem latchCell_cov (c : Nat) (e : CellEst) : (latchCell c e).cov = e.cov := rfl
/-- A cell carried over one tick has the state that the filter gives it. -/
theorem carryCell_one_x (s : State) (x : Ix) (late : Bool) (st : StrEst) (n : Nat) (l : PendTick) (e : CellEst) :
    (carryCell s x late st n [l] e).x = (propagateCell s e st.c st.r n (intervalOf s x late [l]) (balCharge s x e [l])).x := by
  simp only [carryCell, byCycle_one, List.foldl_cons, List.foldl_nil, List.length_singleton, Nat.le_refl, if_true]
  split <;> rfl

/-! ### One string -/

/-- Ending an open learning cycle changes the cycle alone in the string's estimate. -/
theorem disqualify_str (s : State) (x y : Ix) (reason tick cell : Nat) (v : F32) :
    ∃ l, (disqualify s x reason tick cell v).est.str.get y = { s.est.str.get y with learn := l } := by
  unfold disqualify
  split
  · exact ⟨_, rfl⟩
  · split
    · exact ⟨_, rfl⟩
    · rcases eq_or_ne y x with rfl | h
      · exact ⟨some _, by simp only [raise_est, modStr_est, two_get_modify]; rfl⟩
      · exact ⟨(s.est.str.get y).learn, by simp only [raise_est, modStr_est, two_get_modify_other _ _ h]⟩
/-- Early warnings change their own two states alone in the string's estimate. -/
theorem earlyWarnings_str (s : State) (x y : Ix) (k : Nat) (hi lo : Option (Rat × Nat)) :
    ∃ a b, (earlyWarnings s x k hi lo).est.str.get y = { s.est.str.get y with eoc := a, eod := b } := by
  rcases eq_or_ne y x with rfl | h
  · exact ⟨_, _, by simp only [earlyWarnings, raiseIf_est, modStr_est, two_get_modify]; rfl⟩
  · exact ⟨(s.est.str.get y).eoc, (s.est.str.get y).eod, by
      simp only [earlyWarnings, raiseIf_est, modStr_est, two_get_modify_other _ _ h]⟩

/-- Carrying one string leaves the estimate of the other as it was. -/
theorem propagateString_other (s : State) {x y : Ix} (h : y ≠ x) (late : Bool) (ts : List PendTick) :
    (propagateString s x late ts).est.str.get y = s.est.str.get y := by
  have hd (s : State) (reason tick cell : Nat) (v : F32) :
      (disqualify s x reason tick cell v).est.str.get y = s.est.str.get y := by
    unfold disqualify
    split
    · rfl
    · split
      · rfl
      · simp only [raise_est, modStr_est, two_get_modify_other _ _ h]
  have he (s : State) (k : Nat) (hi lo : Option (Rat × Nat)) : (earlyWarnings s x k hi lo).est.str.get y = s.est.str.get y := by
    simp only [earlyWarnings, raiseIf_est, modStr_est, two_get_modify_other _ _ h]
  unfold propagateString
  split
  · rfl
  · extract_lets now st dqR cyc bad w n st1 one st2 dss st3 st4 s1 s2 p
    split
    · rfl
    · have h1 : s1.est.str.get y = s.est.str.get y := by simp only [s1, modStr_est, two_get_modify_other _ _ h]
      clear_value bad s1
      have h2 : s2.est.str.get y = s1.est.str.get y := by
        simp only [s2]
        cases bad
        · rfl
        · exact hd ..
      clear_value s2
      split
      · rw [h2, h1]
      · rw [he, h2, h1]

/-- The weighted mean of the cells changes two fields of the string alone. -/
theorem withStringSoc_eq (st : StrEst) : ∃ b v, withStringSoc st = { st with spanZero := b, sI := v } := by
  unfold withStringSoc
  extract_lets p t
  split
  · exact ⟨true, st.sI, rfl⟩
  · exact ⟨false, _, rfl⟩

/-- The charge of an interval enters the running sum whatever the discharge state becomes (R203). -/
theorem dischargeStep_qSum (up : Nat) (st : StrEst) (dq : Rat) :
    (dischargeStep up st dq).qSum = st.qSum + dq ∧ (dischargeStep up st dq).init = st.init := by
  unfold dischargeStep
  extract_lets st1 c lo hi
  split
  · exact ⟨rfl, rfl⟩
  · split <;> exact ⟨rfl, rfl⟩

theorem capsAt_qSum (st : StrEst) (n : Nat) : (st.capsAt n).qSum = st.qSum ∧ (st.capsAt n).init = st.init := by
  unfold StrEst.capsAt
  split
  · split <;> exact ⟨rfl, rfl⟩
  · exact ⟨rfl, rfl⟩

/-- The charge of the ticks enters the running sum of a string with an estimate, and the state of its cells is that of the cells carried over the
ticks (R194, R203). -/
theorem propagateString_own (s : State) (x : Ix) (late : Bool) (ts : List PendTick) (l : PendTick) (hl : ts.getLast? = some l)
    (hi : (s.est.str.get x).init = true) (he : strEnabled s x = true) :
    ((propagateString s x late ts).est.str.get x).init = true ∧
    ((propagateString s x late ts).est.str.get x).qSum = (s.est.str.get x).qSum + chargeIn x late ts ∧
    ((propagateString s x late ts).est.str.get x).cells.map (·.x) =
      (((s.est.str.get x).capsAt l.at_).cells.zip ((s.est.str.get x).cells.map (·.kappa))).map fun p =>
        (carryCell s x late ((s.est.str.get x).capsAt l.at_) (nPop s x) ts p.1).x := by
  unfold propagateString
  split
  · rename_i h
    rw [h] at hl
    cases hl
  · rename_i last h
    obtain rfl : last = l := by rw [h] at hl; exact Option.some.inj hl
    extract_lets now st dqR cyc bad w n st1 one st2 dss st3 st4 s1 s2 p
    have hc : ¬ (!now.init || !strEnabled s x) = true := by simp [now, hi, he]
    rw [if_neg hc]
    have h1 : s1.est.str.get x = st4 := by simp only [s1, modStr_est, two_get_modify]
    obtain ⟨b, v, hw⟩ := withStringSoc_eq { st1 with
      c := now.c, cells := (st.cells.zip (now.cells.map (·.kappa))).map one, prior := now.prior.filter fun p => decide (last.at_ < p.at_) }
    have h4 : st4.init = true ∧ st4.qSum = now.qSum + dqR ∧
        st4.cells.map (·.x) = (st.cells.zip (now.cells.map (·.kappa))).map fun p => (carryCell s x late st n ts p.1).x := by
      have h2 : st2 = _ := hw
      have hd := dischargeStep_qSum last.up st dqR
      have hk := capsAt_qSum now last.at_
      simp only [st4, st3, h2]
      exact ⟨hd.2.trans (hk.2.trans hi), hd.1.trans (congrArg (· + dqR) hk.1), by rw [List.map_map]; rfl⟩
    clear_value st4 s1
    have h2 : ∃ a, s2.est.str.get x = { st4 with learn := a } := by
      rw [← h1]
      simp only [s2]
      cases bad
      · exact ⟨_, rfl⟩
      · exact disqualify_str ..
    obtain ⟨a, h2⟩ := h2
    clear_value s2
    split
    · rw [h2]; exact h4
    · obtain ⟨a', b', h5⟩ := earlyWarnings_str s2 x x ts.length p.1 p.2
      rw [h5, h2]; exact h4

end Sys2Proof.Laws
end

