-- ==== Sys2Proof/Laws/Events.lean ====
section
/-! SUPPORT. What raising an event does: the store of newest occurrences, the ports that stay as they are but for the signal. -/

namespace Sys2Proof.Laws

open Sys2Proof Sys2Proof.Machine

variable {κ α : Type} [DecidableEq κ]

theorem kv_get_put (m : KV κ α) (k j : κ) (v : α) : KV.get? (KV.put m k v) j = if j = k then some v else KV.get? m j := by
  induction m with
  | nil => by_cases h : j = k <;> simp [KV.put, KV.get?, h, eq_comm]
  | cons p m ih =>
    simp only [KV.put, KV.get?] at ih ⊢
    by_cases hk : p.1 = k
    · by_cases hj : j = k
      · simp [hk, hj]
      · simp only [hk, hj, List.any_cons, decide_true, Bool.true_or, if_true, if_false, List.map_cons]
        have hp : ¬ p.1 = j := fun e => hj (e.symm.trans hk)
        rw [List.find?_cons_of_neg (by simpa using fun e => hj e.symm), List.find?_cons_of_neg (by simpa using hp)]
        clear ih
        induction m with
        | nil => rfl
        | cons q m ih' =>
          rw [List.map_cons]
          by_cases hq : q.1 = k
          · have hqj : ¬ q.1 = j := fun e => hj (e.symm.trans hq)
            rw [if_pos hq, List.find?_cons_of_neg (by simpa using fun e => hj e.symm), List.find?_cons_of_neg (by simpa using hqj)]
            exact ih'
          · rw [if_neg hq]
            by_cases hqj : q.1 = j
            · rw [List.find?_cons_of_pos (by simpa using hqj), List.find?_cons_of_pos (by simpa using hqj)]
            · rw [List.find?_cons_of_neg (by simpa using hqj), List.find?_cons_of_neg (by simpa using hqj)]
              exact ih'
    · simp only [List.any_cons, hk, decide_false, Bool.false_or]
      by_cases ha : m.any (fun p => decide (p.1 = k)) = true
      · simp only [ha, if_true, List.map_cons, hk, if_false] at ih ⊢
        by_cases hpj : p.1 = j
        · have hj : ¬ j = k := fun e => hk (hpj.trans e)
          rw [List.find?_cons_of_pos (by simpa using hpj), List.find?_cons_of_pos (by simpa using hpj)]
          simp [hj]
        · rw [List.find?_cons_of_neg (by simpa using hpj), List.find?_cons_of_neg (by simpa using hpj)]
          exact ih
      · simp only [ha, Bool.false_eq_true, if_false] at ih ⊢
        by_cases hpj : p.1 = j
        · have hj : ¬ j = k := fun e => hk (hpj.trans e)
          rw [List.cons_append, List.find?_cons_of_pos (by simpa using hpj), List.find?_cons_of_pos (by simpa using hpj)]
          simp [hj]
        · rw [List.cons_append, List.find?_cons_of_neg (by simpa using hpj), List.find?_cons_of_neg (by simpa using hpj)]
          exact ih

/-! ### The store of newest occurrences -/

@[simp] theorem enqueue_last (s : State) (o : Occ) : (enqueue s o).ev.last = s.ev.last := by unfold enqueue; split <;> rfl
@[simp] theorem takeFree_last (s : State) : (takeFree s).ev.last = s.ev.last := rfl

/-- Raising past a freeze stores the occurrence as the newest of its event and leaves the others. -/
theorem raisePast_newest (s : State) (e f : Nat) (d : List Byte) :
    newest (raisePast s e d) f = if f = e then some d else newest s f := by
  unfold raisePast newest
  simp only
  split
  · split
    · rw [enqueue_last, signalBoth_ev, storeLast_ev]
      simp only [takeFree_ev, kv_get_put]
      by_cases h : f = e
      · subst h; simp [mkOcc]
      · rw [if_neg (by simpa [mkOcc] using h), if_neg h]
    · simp only [signalBoth_ev, storeLast_ev, takeFree_ev, kv_get_put]
      by_cases h : f = e
      · subst h; simp [mkOcc]
      · rw [if_neg (by simpa [mkOcc] using h), if_neg h]
  · rw [signalBoth_ev, storeLast_ev]
    simp only [takeFree_ev, kv_get_put]
    by_cases h : f = e
    · subst h; simp [mkOcc]
    · rw [if_neg (by simpa [mkOcc] using h), if_neg h]

/-- The end of a freeze raises only EV 248 and EV 249. -/
theorem endFreeze_newest (s : State) (c f : Nat) (h : f ≠ 248) (h' : f ≠ 249) : newest (endFreeze s c) f = newest s f := by
  unfold endFreeze
  split
  · rfl
  · dsimp only
    split
    · rw [raisePast_newest, if_neg h]; rfl
    · rw [applyClear, raisePast_newest, if_neg h']
      show newest (raisePast _ _ _) f = _
      rw [raisePast_newest, if_neg h]; rfl

/-- After an event is raised its newest occurrence carries the data. -/
@[simp] theorem raise_newest (s : State) (e : Nat) (d : List Byte) : newest (raise s e d) e = some d := by
  unfold raise
  split
  · rw [raisePast_newest, if_pos rfl]
  · split
    · rw [raisePast_newest, if_pos rfl]
    · split
      · rw [raisePast_newest, if_pos rfl]
      · unfold newest
        simp only [signalBoth_ev, storeLast_ev, takeFree_ev, kv_get_put]
        simp [mkOcc]

/-- Raising an event leaves the newest occurrence of every other but EV 248 and EV 249, which the end of a freeze raises. -/
theorem raise_newest_other (s : State) (e f : Nat) (d : List Byte) (h : f ≠ e) (h' : f ≠ 248) (h'' : f ≠ 249) :
    newest (raise s e d) f = newest s f := by
  unfold raise
  split
  · rw [raisePast_newest, if_neg h]
  · split
    · rw [raisePast_newest, if_neg h]
    · split
      · rw [raisePast_newest, if_neg h, endFreeze_newest _ _ _ h' h'']
      · unfold newest
        simp only [signalBoth_ev, storeLast_ev, takeFree_ev, kv_get_put]
        rw [if_neg (by simpa [mkOcc] using h)]

/-! ### Ports while events are raised -/

theorem port_of_rest {a b : HostBlock} (e : hostRest a = hostRest b) (p : Ix) : portRest (a.port.get p) = portRest (b.port.get p) := by
  have e' := congrArg (fun x => x.port) e
  have hz := congrArg Two.zero e'
  have ho := congrArg Two.one e'
  cases p
  · exact hz
  · exact ho
theorem longs_of_rest {a b : HostBlock} (e : hostRest a = hostRest b) : a.longs = b.longs := congrArg (·.longs) e

theorem raise_hostRest (s : State) (e : Nat) (d : List Byte) : hostRest (raise s e d).host = hostRest s.host :=
  same_host (m := 201981952) (by simp) (by decide)
@[simp] theorem raise_longs (s : State) (e : Nat) (d : List Byte) : (raise s e d).host.longs = s.host.longs :=
  longs_of_rest (raise_hostRest s e d)
@[simp] theorem raise_portUp (s : State) (e : Nat) (d : List Byte) (p : Ix) : portUp (raise s e d) p = portUp s p :=
  by have h := congrArg (fun q : PortState => q.up) (port_of_rest (raise_hostRest s e d) p); exact h
@[simp] theorem raise_rings (s : State) (e : Nat) (d : List Byte) (p : Ix) :
    ((raise s e d).host.port.get p).rings = (s.host.port.get p).rings :=
  by have h := congrArg (fun q : PortState => q.rings) (port_of_rest (raise_hostRest s e d) p); exact h
@[simp] theorem raise_responses (s : State) (e : Nat) (d : List Byte) (p : Ix) :
    ((raise s e d).host.port.get p).responses = (s.host.port.get p).responses :=
  by have h := congrArg (fun q : PortState => q.responses) (port_of_rest (raise_hostRest s e d) p); exact h
@[simp] theorem raise_streams (s : State) (e : Nat) (d : List Byte) (p : Ix) :
    ((raise s e d).host.port.get p).streams = (s.host.port.get p).streams :=
  by have h := congrArg (fun q : PortState => q.streams) (port_of_rest (raise_hostRest s e d) p); exact h

end Sys2Proof.Laws
end

