-- ==== Sys2Proof/Laws/FrameCtl.lean ====
section
/-! SUPPORT. What each operation leaves as it was, one lemma each, as equality of views: the control engine, the hold, leaving, protection, the frame update, CAN and captures. -/

namespace Sys2Proof.Laws

open Sys2Proof Sys2Proof.Machine

set_option maxRecDepth 4000
set_option linter.unusedTactic false
set_option linter.unreachableTactic false

/-! ### Control -/

@[simp] theorem inputEvent_view (m : Nat) (s n input lost) (h : m &&& 201981952 = 201981952) :
    view m (inputEvent s n input lost) = view m s := view_up h (by
  unfold inputEvent; simp)
@[simp] theorem takeConfig_view (m : Nat) (s n) (h : m &&& 2099200 = 2099200) :
    view m (takeConfig s n) = view m s := view_up h (by
  unfold takeConfig; (repeat' (first | (simp (maxDischargeDepth := 6); done) | split | (dsimp only; split) | (simp (maxDischargeDepth := 6); split))))
@[simp] theorem slotBound_view (m : Nat) (s n) (h : m &&& 2099200 = 2099200) :
    view m (slotBound s n) = view m s := view_up h (by
  unfold slotBound; (repeat' (first | (simp (maxDischargeDepth := 6); done) | split | (dsimp only; split) | (simp (maxDischargeDepth := 6); split))))
@[simp] theorem slotBounds_view (m : Nat) (s) (h : m &&& 2099200 = 2099200) :
    view m (slotBounds s) = view m s := view_up h (by
  unfold slotBounds; (repeat' (first | (simp (maxDischargeDepth := 6); done) | split | (dsimp only; split) | (simp (maxDischargeDepth := 6); split))))
@[simp] theorem runSlot_view (m : Nat) (s n y r f range old held) (h : m &&& 201984000 = 201984000) :
    view m (runSlot s n y r f range old held) = view m s := view_up h (by
  unfold runSlot; simp)
@[simp] theorem watchInputs_view (m : Nat) (s0 s n) (h : m &&& 2048 = 2048) :
    view m (watchInputs s0 s n) = view m s := view_up h (by
  unfold watchInputs; (repeat' (first | (simp (maxDischargeDepth := 6); done) | split | (dsimp only; split) | (simp (maxDischargeDepth := 6); split))))
@[simp] theorem latchEval_view (m : Nat) (s0 s n late cfg range old held) (h : m &&& 201984000 = 201984000) :
    view m (latchEval s0 s n late cfg range old held) = view m s := view_up h (by
  unfold latchEval; (repeat' (first | (simp (maxDischargeDepth := 6); done) | split | (dsimp only; split) | (simp (maxDischargeDepth := 6); split))))
theorem latchSlot_view (x0 a n) : view 201984000 (latchSlot x0 a n).st = view 201984000 a.st := by
  have h : view 201984000 (if slotRuns a.st n then watchInputs x0 a.st n else a.st) = view 201984000 a.st := by split <;> simp
  unfold latchSlot
  generalize (if slotRuns a.st n then watchInputs x0 a.st n else a.st) = s1 at h ⊢
  dsimp only
  split
  · exact h
  · split <;> simp [h]
theorem latchFold_view (s0 : State) (l : List Nat) (a : LatchAcc) :
    view 201984000 (l.foldl (latchSlot s0) a).st = view 201984000 a.st := by
  induction l generalizing a with
  | nil => rfl
  | cons n l ih => simp [List.foldl_cons, ih, latchSlot_view]
@[simp] theorem closeLateRun_view (m : Nat) (s) (h : m &&& 201984000 = 201984000) :
    view m (closeLateRun s) = view m s := view_up h (by
  unfold closeLateRun; split <;> simp)
@[simp] theorem abandonLate_view (m : Nat) (s) (h : m &&& 2048 = 2048) :
    view m (abandonLate s) = view m s := view_up h (by
  unfold abandonLate; simp)
@[simp] theorem formTotals_view (m : Nat) (s) (h : m &&& 4096 = 4096) :
    view m (formTotals s) = view m s := view_up h (by
  unfold formTotals; simp)
theorem latchAll_view0 (x0 x1 x2) : view 201988096 (latchAll x0 x1 x2) = view 201988096 x2 := by
  unfold latchAll
  extract_lets s c0 s' a n c q s1 s2
  have h0 : view 201988096 s' = view 201988096 x2 := by simp [s', c0, s]
  clear_value s'
  have ha : view 201988096 a.st = view 201988096 s' := view_up (by decide) (latchFold_view s' _ _)
  clear_value a
  have h1 : view 201988096 s1 = view 201988096 a.st := by simp [s1, q, c]
  clear_value s1
  have h2 : view 201988096 s2 = view 201988096 s1 := by simp only [s2]; split <;> simp
  simp [h0, ha, h1, h2]
@[simp] theorem latchAll_view (m : Nat) (x0 x1 x2) (h : m &&& 201988096 = 201988096) :
    view m (latchAll x0 x1 x2) = view m x2 := view_up h (latchAll_view0 x0 x1 x2)
@[simp] theorem enterTracking_view (m : Nat) (s n) (h : m &&& 201984000 = 201984000) :
    view m (enterTracking s n) = view m s := view_up h (by
  unfold enterTracking; simp)

/-! ### Leaving -/

@[simp] theorem activateBoot_view (m : Nat) (s) (h : m &&& 167772156 = 167772156) :
    view m (activateBoot s) = view m s := view_up h (by
  unfold activateBoot; split <;> simp)
@[simp] theorem windowRestart_view (m : Nat) (s) (h : m &&& 167772156 = 167772156) :
    view m (windowRestart s) = view m s := view_up h (by
  unfold windowRestart; simp)
@[simp] theorem leaveNow_view (m : Nat) (s) (h : m &&& 167772156 = 167772156) :
    view m (leaveNow s) = view m s := view_up h (by
  unfold leaveNow; split <;> simp)
@[simp] theorem leaveIfOpen_view (m : Nat) (s) (h : m &&& 167772156 = 167772156) :
    view m (leaveIfOpen s) = view m s := view_up h (by
  unfold leaveIfOpen; split <;> simp)

/-! ### Hold -/

@[simp] theorem holdRecord_view (m : Nat) (s b) (h : m &&& 4096 = 4096) :
    view m (holdRecord s b) = view m s := view_up h (by
  unfold holdRecord; simp)
@[simp] theorem judgeSet_view (m : Nat) (s k here outIn reading voted) (h : m &&& 201986048 = 201986048) :
    view m (judgeSet s k here outIn reading voted) = view m s := view_up h (by
  unfold judgeSet; simp)
@[simp] theorem restartSlot_view (m : Nat) (s n v) (h : m &&& 201984000 = 201984000) :
    view m (restartSlot s n v) = view m s := view_up h (by
  unfold restartSlot; (repeat' (first | (simp (maxDischargeDepth := 6); done) | split | (dsimp only; split) | (simp (maxDischargeDepth := 6); split))))
@[simp] theorem formRefs_view (m : Nat) (s) (h : m &&& 4096 = 4096) : view m (formRefs s) = view m s := view_up h (by
  unfold formRefs; simp)
@[simp] theorem sendSum_view (m : Nat) (s) (h : m &&& 67112960 = 67112960) :
    view m (sendSum s) = view m s := view_up h (by
  unfold sendSum; simp)
@[simp] theorem applyHoldSets_view (m : Nat) (s) (h : m &&& 201986048 = 201986048) :
    view m (applyHoldSets s) = view m s := view_up h (by
  unfold applyHoldSets; simp)
@[simp] theorem fractionEvent_view (m : Nat) (s kind) (h : m &&& 201981952 = 201981952) :
    view m (fractionEvent s kind) = view m s := view_up h (by
  unfold fractionEvent; simp)
@[simp] theorem applyFraction_view (m : Nat) (s f) (h : m &&& 201986048 = 201986048) :
    view m (applyFraction s f) = view m s := view_up h (by
  unfold applyFraction; simp)
@[simp] theorem withoutFraction_view (m : Nat) (s) (h : m &&& 201986048 = 201986048) :
    view m (withoutFraction s) = view m s := view_up h (by
  unfold withoutFraction; simp)
@[simp] theorem rejoinHold_view (m : Nat) (s) (h : m &&& 201986048 = 201986048) :
    view m (rejoinHold s) = view m s := view_up h (by
  unfold rejoinHold; simp)
@[simp] theorem sendFraction_view (m : Nat) (s) (h : m &&& 201986048 = 201986048) :
    view m (sendFraction s) = view m s := view_up h (by
  unfold sendFraction; simp)
@[simp] theorem compareLead_view (m : Nat) (s f) (h : m &&& 201988096 = 201988096) :
    view m (compareLead s f) = view m s := view_up h (by
  unfold compareLead; simp)

/-! ### Protection -/

@[simp] theorem judge_view (m : Nat) (s x cause holds need value unitNo cell) (h : m &&& 202317824 = 202317824) :
    view m (judge s x cause holds need value unitNo cell) = view m s := view_up h (by
  unfold judge; simp)
@[simp] theorem powerLimits_view (m : Nat) (s x) (h : m &&& 8192 = 8192) :
    view m (powerLimits s x) = view m s := view_up h (by
  unfold powerLimits; simp)
@[simp] theorem unconfirmed_view (m : Nat) (s x c) (h : m &&& 201990144 = 201990144) :
    view m (unconfirmed s x c) = view m s := view_up h (by
  unfold unconfirmed; (repeat' (first | (simp (maxDischargeDepth := 6); done) | split | (dsimp only; split) | (simp (maxDischargeDepth := 6); split))))
@[simp] theorem judgeComparator_view (m : Nat) (s x c) (h : m &&& 202317824 = 202317824) :
    view m (judgeComparator s x c) = view m s := view_up h (by
  unfold judgeComparator; split <;> simp)
@[simp] theorem setBlind_view (m : Nat) (s x blind) (h : m &&& 8192 = 8192) :
    view m (setBlind s x blind) = view m s := view_up h (by
  unfold setBlind; simp)
@[simp] theorem weldTick_view (m : Nat) (s x) (h : m &&& 8192 = 8192) :
    view m (weldTick s x) = view m s := view_up h (by
  unfold weldTick; (repeat' (first | (simp (maxDischargeDepth := 6); done) | split | (dsimp only; split) | (simp (maxDischargeDepth := 6); split))))
@[simp] theorem unconfTick_view (m : Nat) (s x) (h : m &&& 8192 = 8192) :
    view m (unconfTick s x) = view m s := view_up h (by
  unfold unconfTick; (repeat' (first | (simp (maxDischargeDepth := 6); done) | split | (dsimp only; split) | (simp (maxDischargeDepth := 6); split))))
@[simp] theorem procTick_view (m : Nat) (x0 x1 x2 x3) (h : m &&& 202317824 = 202317824) :
    view m (procTick x0 x1 x2 x3) = view m x0 := view_up h (by
  unfold procTick; (repeat' (first | (simp (maxDischargeDepth := 6); done) | split | (dsimp only; split) | (simp (maxDischargeDepth := 6); split))))
@[simp] theorem procTemps_view (m : Nat) (s x) (h : m &&& 202317824 = 202317824) :
    view m (procTemps s x) = view m s := view_up h (by
  unfold procTemps; (repeat' (first | (simp (maxDischargeDepth := 6); done) | split | (dsimp only; split) | (simp (maxDischargeDepth := 6); split))))
@[simp] theorem procCompat_view (m : Nat) (s x) (h : m &&& 202317824 = 202317824) :
    view m (procCompat s x) = view m s := view_up h (by
  unfold procCompat; (repeat' (first | (simp (maxDischargeDepth := 6); done) | split | (dsimp only; split) | (simp (maxDischargeDepth := 6); split))))
@[simp] theorem takeSum_view (m : Nat) (s x r) (h : m &&& 202317856 = 202317856) :
    view m (takeSum s x r) = view m s := view_up h (by
  unfold takeSum; simp)
@[simp] theorem outrTripString_view (m : Nat) (s x f) (h : m &&& 202252288 = 202252288) :
    view m (outrTripString s x f) = view m s := view_up h (by
  unfold outrTripString; simp)
@[simp] theorem reportLatch_view (m : Nat) (s x k) (h : m &&& 201990144 = 201990144) :
    view m (reportLatch s x k) = view m s := view_up h (by
  unfold reportLatch; (repeat' (first | (simp (maxDischargeDepth := 6); done) | split | (dsimp only; split) | (simp (maxDischargeDepth := 6); split))))
@[simp] theorem moveThresholds_view (m : Nat) (s x f) (h : m &&& 16384 = 16384) :
    view m (moveThresholds s x f) = view m s := view_up h (by
  unfold moveThresholds; simp)
@[simp] theorem inwardWrites_view (m : Nat) (s x) (h : m &&& 4210688 = 4210688) :
    view m (inwardWrites s x) = view m s := view_up h (by
  unfold inwardWrites; simp)
@[simp] theorem protBoundary_view (m : Nat) (s x) (h : m &&& 6316032 = 6316032) :
    view m (protBoundary s x) = view m s := view_up h (by
  unfold protBoundary; split <;> simp)
@[simp] theorem beginOpen_view (m : Nat) (s x ids) (h : m &&& 202256384 = 202256384) :
    view m (beginOpen s x ids) = view m s := view_up h (by
  unfold beginOpen; (repeat' (first | (simp (maxDischargeDepth := 6); done) | split | (dsimp only; split) | (simp (maxDischargeDepth := 6); split))))
@[simp] theorem coilFinding_view (m : Nat) (s x c sig hs r) (h : m &&& 202321920 = 202321920) :
    view m (coilFinding s x c sig hs r) = view m s := view_up h (by
  unfold coilFinding; simp)
@[simp] theorem testPassed_view (m : Nat) (s x c hs) (h : m &&& 8192 = 8192) :
    view m (testPassed s x c hs) = view m s := view_up h (by
  unfold testPassed; simp)
@[simp] theorem proofResult_view (m : Nat) (s x failed) (h : m &&& 201990144 = 201990144) :
    view m (proofResult s x failed).1 = view m s := view_up h (by
  unfold proofResult; (repeat' (first | (simp (maxDischargeDepth := 6); done) | split | (dsimp only; split) | (simp (maxDischargeDepth := 6); split))))
@[simp] theorem closeFails_view (m : Nat) (s x c rd) (h : m &&& 202321920 = 202321920) :
    view m (closeFails s x c rd) = view m s := view_up h (by
  unfold closeFails; simp)

/-! ### FrameUpdate -/

@[simp] theorem writeSnapshot_view (m : Nat) (s c whole) (h : m &&& 202244096 = 202244096) :
    view m (writeSnapshot s c whole) = view m s := view_up h (by
  unfold writeSnapshot; simp)

/-! ### Can -/

@[simp] theorem checkWindows_view (m : Nat) (s b) (h : m &&& 202047488 = 202047488) :
    view m (checkWindows s b) = view m s := view_up h (by
  unfold checkWindows; (repeat' (first | (simp (maxDischargeDepth := 6); done) | split | (dsimp only; split) | (simp (maxDischargeDepth := 6); split))))
@[simp] theorem canActive_view (m : Nat) (s b) (h : m &&& 202047488 = 202047488) :
    view m (canActive s b) = view m s := view_up h (by
  unfold canActive; simp)
@[simp] theorem canActiveBoth_view (m : Nat) (s) (h : m &&& 202047488 = 202047488) :
    view m (canActiveBoth s) = view m s := view_up h (by
  unfold canActiveBoth; simp)
@[simp] theorem adoptRate_view (m : Nat) (s b cand assumed fixed) (h : m &&& 202047488 = 202047488) :
    view m (adoptRate s b cand assumed fixed) = view m s := view_up h (by
  unfold adoptRate; simp)
@[simp] theorem startDetect_view (m : Nat) (s b) (h : m &&& 65536 = 65536) :
    view m (startDetect s b) = view m s := view_up h (by
  unfold startDetect; simp)
@[simp] theorem canBegin_view (m : Nat) (s b) (h : m &&& 202047488 = 202047488) :
    view m (canBegin s b) = view m s := view_up h (by
  unfold canBegin; simp)
@[simp] theorem nextCandidate_view (m : Nat) (s b) (h : m &&& 65536 = 65536) :
    view m (nextCandidate s b) = view m s := view_up h (by
  unfold nextCandidate; simp)
@[simp] theorem detectFrame_view (m : Nat) (s b f) (h : m &&& 202047488 = 202047488) :
    view m (detectFrame s b f) = view m s := view_up h (by
  unfold detectFrame; simp)
@[simp] theorem judgeErrors_view (m : Nat) (s b) (h : m &&& 202047488 = 202047488) :
    view m (judgeErrors s b) = view m s := view_up h (by
  unfold judgeErrors; simp)
@[simp] theorem txGood_view (m : Nat) (s b) (h : m &&& 202047488 = 202047488) :
    view m (txGood s b) = view m s := view_up h (by
  unfold txGood; simp)
@[simp] theorem txBad_view (m : Nat) (s b ack) (h : m &&& 202047488 = 202047488) :
    view m (txBad s b ack) = view m s := view_up h (by
  unfold txBad; simp)
@[simp] theorem rxGood_view (m : Nat) (s b) (h : m &&& 202047488 = 202047488) :
    view m (rxGood s b) = view m s := view_up h (by
  unfold rxGood; simp)
@[simp] theorem rxBad_view (m : Nat) (s b) (h : m &&& 202047488 = 202047488) :
    view m (rxBad s b) = view m s := view_up h (by
  unfold rxBad; simp)
@[simp] theorem endAlone_view (m : Nat) (s b) (h : m &&& 202047488 = 202047488) :
    view m (endAlone s b) = view m s := view_up h (by
  unfold endAlone; simp)
@[simp] theorem collide_view (m : Nat) (s b id_ window) (h : m &&& 202047488 = 202047488) :
    view m (collide s b id_ window) = view m s := view_up h (by
  unfold collide; simp)
@[simp] theorem startTx_view (m : Nat) (x0 x1 x2) (h : m &&& 67175424 = 67175424) :
    view m (startTx x0 x1 x2) = view m x0 := view_up h (by
  unfold startTx; split <;> simp)
@[simp] theorem queueMsg_view (m : Nat) (x0 x1 x2) (h : m &&& 65536 = 65536) :
    view m (queueMsg x0 x1 x2) = view m x0 := view_up h (by
  unfold queueMsg; simp)
@[simp] theorem startFirst_view (m : Nat) (s b) (h : m &&& 67175424 = 67175424) :
    view m (startFirst s b) = view m s := view_up h (by
  unfold startFirst; split <;> simp)
@[simp] theorem sendNormal_view (m : Nat) (s b) (h : m &&& 67175424 = 67175424) :
    view m (sendNormal s b) = view m s := view_up h (by
  unfold sendNormal; simp)
@[simp] theorem canTick_view (m : Nat) (s b) (h : m &&& 67175424 = 67175424) :
    view m (canTick s b) = view m s := view_up h (by
  unfold canTick; (repeat' (first | (simp (maxDischargeDepth := 6); done) | split | (dsimp only; split) | (simp (maxDischargeDepth := 6); split))))
@[simp] theorem pcsEvent_view (m : Nat) (s x kind) (h : m &&& 201981952 = 201981952) :
    view m (pcsEvent s x kind) = view m s := view_up h (by
  unfold pcsEvent; simp)
@[simp] theorem takeStatus_view (m : Nat) (s x d) (h : m &&& 202047616 = 202047616) :
    view m (takeStatus s x d) = view m s := view_up h (by
  unfold takeStatus; simp)
@[simp] theorem recordSetpoint_view (m : Nat) (s x d) (h : m &&& 65536 = 65536) :
    view m (recordSetpoint s x d) = view m s := view_up h (by
  unfold recordSetpoint; simp)
@[simp] theorem recordThCmd_view (m : Nat) (s i d) (h : m &&& 1024 = 1024) :
    view m (recordThCmd s i d) = view m s := view_up h (by
  unfold recordThCmd; simp)
@[simp] theorem takeThStat_view (m : Nat) (s i d) (h : m &&& 201982976 = 201982976) :
    view m (takeThStat s i d) = view m s := view_up h (by
  unfold takeThStat; simp)
@[simp] theorem heardFrame_view (m : Nat) (s b) (h : m &&& 65536 = 65536) :
    view m (heardFrame s b) = view m s := view_up h (by
  unfold heardFrame; (repeat' (first | (simp (maxDischargeDepth := 6); done) | split | (dsimp only; split) | (simp (maxDischargeDepth := 6); split))))
@[simp] theorem countPcs_view (m : Nat) (s x) (h : m &&& 202047488 = 202047488) :
    view m (countPcs s x) = view m s := view_up h (by
  unfold countPcs; simp)
@[simp] theorem missWindow_view (m : Nat) (x0 x1 x2 x3 x4) (h : m &&& 202047488 = 202047488) :
    view m (missWindow x0 x1 x2 x3 x4) = view m x0 := view_up h (by
  unfold missWindow; split <;> simp)
@[simp] theorem keepResult_view (m : Nat) (x0 x1 x2 x3) (h : m &&& 65536 = 65536) :
    view m (keepResult x0 x1 x2 x3) = view m x0 := view_up h (by
  unfold keepResult; simp)
@[simp] theorem answerLate_view (m : Nat) (x0 x1 x2) (h : m &&& 67502080 = 67502080) :
    view m (answerLate x0 x1 x2) = view m x0 := view_up h (by
  unfold answerLate; split <;> simp)
@[simp] theorem txFailed_view (m : Nat) (x0 x1 x2 x3) (h : m &&& 202309632 = 202309632) :
    view m (txFailed x0 x1 x2 x3) = view m x0 := view_up h (by
  unfold txFailed; simp)

/-! ### Capture -/

@[simp] theorem endRun_view (m : Nat) (x0 x1 x2) (h : m &&& 393216 = 393216) :
    view m (endRun x0 x1 x2) = view m x0 := view_up h (by
  unfold endRun; (repeat' (first | (simp (maxDischargeDepth := 6); done) | split | (dsimp only; split) | (simp (maxDischargeDepth := 6); split))))
@[simp] theorem failRun_view (m : Nat) (x0 x1 x2) (h : m &&& 393216 = 393216) :
    view m (failRun x0 x1 x2) = view m x0 := view_up h (by
  unfold failRun; (repeat' (first | (simp (maxDischargeDepth := 6); done) | split | (dsimp only; split) | (simp (maxDischargeDepth := 6); split))))
@[simp] theorem settleRun_view (m : Nat) (x0 x1 x2) (h : m &&& 67502080 = 67502080) :
    view m (settleRun x0 x1 x2) = view m x0 := view_up h (by
  unfold settleRun; simp)
theorem pullDump_view0 (x0 n x2) : view 202244096 (pullDump x0 n x2) = view 202244096 x2 := by
  induction n generalizing x2 with
  | zero => rfl
  | succ n ih =>
    unfold pullDump
    split
    · rfl
    · split
      · rfl
      · split
        · rfl
        · dsimp only
          split <;> simp [ih]
@[simp] theorem pullDump_view (m : Nat) (x0 n x2) (h : m &&& 202244096 = 202244096) :
    view m (pullDump x0 n x2) = view m x2 := view_up h (pullDump_view0 x0 n x2)
@[simp] theorem runDump_view (m : Nat) (s p) (h : m &&& 202244096 = 202244096) :
    view m (runDump s p) = view m s := view_up h (by
  unfold runDump; simp)
@[simp] theorem waveDeliver_view (m : Nat) (x0 x1 x2 x3) (h : m &&& 202244096 = 202244096) :
    view m (waveDeliver x0 x1 x2 x3) = view m x0 := view_up h (by
  unfold waveDeliver; simp)
@[simp] theorem waveEnd_view (m : Nat) (s p c trig) (h : m &&& 202244096 = 202244096) :
    view m (waveEnd s p c trig) = view m s := view_up h (by
  unfold waveEnd; simp)
theorem fireCapture_view0 (x0 x1 x2) : view 202244096 (fireCapture x0 x1 x2) = view 202244096 x0 := by
  unfold fireCapture
  split
  · rfl
  · rename_i c _
    have h (l : List TickRec) (s : State) : view 202244096 (l.foldl (fun s t => waveDeliver s x1 c.req t) s) = view 202244096 s :=
      view_foldl 202244096 _ (fun s a => by simp) l s
    dsimp only
    split
    · rw [waveEnd_view _ _ _ _ _ (by decide), h]; simp
    · rw [h]; simp
@[simp] theorem fireCapture_view (m : Nat) (x0 x1 x2) (h : m &&& 202244096 = 202244096) :
    view m (fireCapture x0 x1 x2) = view m x0 := view_up h (fireCapture_view0 x0 x1 x2)
@[simp] theorem captureTick_view (m : Nat) (s p) (h : m &&& 202244096 = 202244096) :
    view m (captureTick s p) = view m s := view_up h (by
  unfold captureTick; (repeat' split) <;> simp)

end Sys2Proof.Laws
end

