-- ==== Sys2Proof/Laws/FrameHost.lean ====
section
/-! SUPPORT. What each operation leaves as it was, one lemma each, as equality of views: the tick, the pair, the host port, events, parameters, update and boot. -/

namespace Sys2Proof.Laws

open Sys2Proof Sys2Proof.Machine

set_option maxRecDepth 4000
set_option linter.unusedTactic false
set_option linter.unreachableTactic false

/-! ### Tick -/

@[simp] theorem restartGap_view (m : Nat) (s n) (h : m &&& 201982020 = 201982020) :
    view m (restartGap s n) = view m s := view_up h (by
  unfold restartGap; split <;> simp)
@[simp] theorem linkFrom_view (m : Nat) (s x) (h : m &&& 8192 = 8192) :
    view m (linkFrom s x) = view m s := view_up h (by
  unfold linkFrom; (repeat' (first | (simp (maxDischargeDepth := 6); done) | split | (dsimp only; split) | (simp (maxDischargeDepth := 6); split))))
@[simp] theorem takeInputs_view (m : Nat) (x0 x1 x2) (h : m &&& 201990216 = 201990216) :
    view m (takeInputs x0 x1 x2).1 = view m x0 := view_up h (by
  unfold takeInputs; simp)
@[simp] theorem publishTick_view (m : Nat) (x0 x1 x2 x3) (h : m &&& 384 = 384) :
    view m (publishTick x0 x1 x2 x3) = view m x0 := view_up h (by
  unfold publishTick; simp)
@[simp] theorem coastCheck_view (m : Nat) (s n) (h : m &&& 201981968 = 201981968) :
    view m (coastCheck s n) = view m s := view_up h (by
  unfold coastCheck; (repeat' split) <;> simp)
@[simp] theorem coastTick_view (m : Nat) (s) (h : m &&& 67108880 = 67108880) :
    view m (coastTick s) = view m s := view_up h (by
  unfold coastTick; simp)
@[simp] theorem cycleDelays_view (m : Nat) (s) (h : m &&& 67108880 = 67108880) :
    view m (cycleDelays s) = view m s := view_up h (by
  unfold cycleDelays; simp)
@[simp] theorem cycleDuties_view (m : Nat) (s r) (h : m &&& 67108896 = 67108896) :
    view m (cycleDuties s r) = view m s := view_up h (by
  unfold cycleDuties
  split
  · rfl
  · refine view_foldl _ _ (fun s u => ?_) _ _
    split <;> simp)
@[simp] theorem cycleHistory_view (m : Nat) (s c) (h : m &&& 64 = 64) :
    view m (cycleHistory s c) = view m s := view_up h (by
  unfold cycleHistory; simp)
@[simp] theorem cycleStart_view (m : Nat) (s c) (h : m &&& 204342384 = 204342384) :
    view m (cycleStart s c) = view m s := view_up h (by
  unfold cycleStart; simp)
@[simp] theorem tickBounds_view (m : Nat) (s) (h : m &&& 2099200 = 2099200) :
    view m (tickBounds s) = view m s := view_up h (by
  unfold tickBounds; (repeat' (first | (simp (maxDischargeDepth := 6); done) | split | (dsimp only; split) | (simp (maxDischargeDepth := 6); split))))
@[simp] theorem findingTick_view (m : Nat) (s n) (h : m &&& 32768 = 32768) :
    view m (findingTick s n) = view m s := view_up h (by
  unfold findingTick; (repeat' (first | (simp (maxDischargeDepth := 6); done) | split | (dsimp only; split) | (simp (maxDischargeDepth := 6); split))))
@[simp] theorem tickCore_view (m : Nat) (x0 x1) (h : m &&& 208662012 = 208662012) :
    view m (tickCore x0 x1) = view m x0 := view_up h (by
  unfold tickCore; simp)
@[simp] theorem freeOvr_view (m : Nat) (s x i) (h : m &&& 201982016 = 201982016) :
    view m (freeOvr s x i) = view m s := view_up h (by
  unfold freeOvr; (repeat' (first | (simp (maxDischargeDepth := 6); done) | split | (dsimp only; split) | (simp (maxDischargeDepth := 6); split))))
@[simp] theorem freeRun_view (m : Nat) (x0 x1) (h : m &&& 201982020 = 201982020) :
    view m (freeRun x0 x1) = view m x0 := view_up h (by
  unfold freeRun; simp)

/-! ### Pair -/

@[simp] theorem hbFails_view (m : Nat) (s kind) (h : m &&& 202039296 = 202039296) :
    view m (hbFails s kind) = view m s := view_up h (by
  unfold hbFails; simp)
@[simp] theorem hbAccept_view (m : Nat) (s) (h : m &&& 16384 = 16384) : view m (hbAccept s) = view m s := view_up h (by
  unfold hbAccept; simp)
@[simp] theorem assertTakeover_view (m : Nat) (s retake) (h : m &&& 202039296 = 202039296) :
    view m (assertTakeover s retake) = view m s := view_up h (by
  unfold assertTakeover; simp)
@[simp] theorem takeFreeLine_view (m : Nat) (s) (h : m &&& 202039296 = 202039296) :
    view m (takeFreeLine s) = view m s := view_up h (by
  unfold takeFreeLine; (repeat' (first | (simp (maxDischargeDepth := 6); done) | split | (dsimp only; split) | (simp (maxDischargeDepth := 6); split))))
@[simp] theorem arbitrateActive_view (m : Nat) (s) (h : m &&& 202080260 = 202080260) :
    view m (arbitrateActive s) = view m s := view_up h (by
  unfold arbitrateActive; simp)
@[simp] theorem partnerAsserts_view (m : Nat) (s) (h : m &&& 311296 = 311296) :
    view m (partnerAsserts s) = view m s := view_up h (by
  unfold partnerAsserts; (repeat' (first | (simp (maxDischargeDepth := 6); done) | split | (dsimp only; split) | (simp (maxDischargeDepth := 6); split))))
@[simp] theorem loseTie_view (m : Nat) (s) (h : m &&& 202031108 = 202031108) :
    view m (loseTie s) = view m s := view_up h (by
  unfold loseTie; simp)
@[simp] theorem lineFault_view (m : Nat) (s line) (h : m &&& 202014720 = 202014720) :
    view m (lineFault s line) = view m s := view_up h (by
  unfold lineFault; (repeat' (first | (simp (maxDischargeDepth := 6); done) | split | (dsimp only; split) | (simp (maxDischargeDepth := 6); split))))
@[simp] theorem expireString_view (m : Nat) (s x) (h : m &&& 202252288 = 202252288) :
    view m (expireString s x) = view m s := view_up h (by
  unfold expireString; simp)
@[simp] theorem adoptTrips_view (m : Nat) (s x) (h : m &&& 8192 = 8192) :
    view m (adoptTrips s x) = view m s := view_up h (by
  unfold adoptTrips; split <;> simp)
@[simp] theorem acknowledge_view (m : Nat) (s) (h : m &&& 202039296 = 202039296) :
    view m (acknowledge s) = view m s := view_up h (by
  unfold acknowledge; simp)
@[simp] theorem endSequences_view (m : Nat) (s x) (h : m &&& 202252288 = 202252288) :
    view m (endSequences s x) = view m s := view_up h (by
  unfold endSequences; simp)
@[simp] theorem stopEngines_view (m : Nat) (s) (h : m &&& 201997216 = 201997216) :
    view m (stopEngines s) = view m s := view_up h (by
  unfold stopEngines; simp)
@[simp] theorem giveUp_view (m : Nat) (s role) (h : m &&& 202374064 = 202374064) :
    view m (giveUp s role) = view m s := view_up h (by
  unfold giveUp; simp)
@[simp] theorem goIsolated_view (m : Nat) (s reason) (h : m &&& 202374068 = 202374068) :
    view m (goIsolated s reason) = view m s := view_up h (by
  unfold goIsolated; simp)
@[simp] theorem requestRelease_view (m : Nat) (s cause ids) (h : m &&& 67141632 = 67141632) :
    view m (requestRelease s cause ids) = view m s := view_up h (by
  unfold requestRelease; split <;> simp)
@[simp] theorem refuseRelease_view (m : Nat) (s cause) (h : m &&& 201981952 = 201981952) :
    view m (refuseRelease s cause) = view m s := view_up h (by
  unfold refuseRelease; simp)
@[simp] theorem failSelfTest_view (m : Nat) (s) (h : m &&& 202374068 = 202374068) :
    view m (failSelfTest s) = view m s := view_up h (by
  unfold failSelfTest; simp)
@[simp] theorem mirrorStates_view (m : Nat) (s r) (h : m &&& 8192 = 8192) :
    view m (mirrorStates s r) = view m s := view_up h (by
  unfold mirrorStates; simp)
@[simp] theorem mirrorRecords_view (m : Nat) (s) (h : m &&& 524544 = 524544) :
    view m (mirrorRecords s) = view m s := view_up h (by
  unfold mirrorRecords; (repeat' (first | (simp (maxDischargeDepth := 6); done) | split | (dsimp only; split) | (simp (maxDischargeDepth := 6); split))))
@[simp] theorem takeHoldCopy_view (m : Nat) (s) (h : m &&& 4096 = 4096) :
    view m (takeHoldCopy s) = view m s := view_up h (by
  unfold takeHoldCopy; split <;> simp)
@[simp] theorem startSlots_view (m : Nat) (s) (h : m &&& 2048 = 2048) :
    view m (startSlots s) = view m s := view_up h (by
  unfold startSlots; simp)
@[simp] theorem startDemands_view (m : Nat) (s) (h : m &&& 4096 = 4096) :
    view m (startDemands s) = view m s := view_up h (by
  unfold startDemands; simp)
@[simp] theorem takeUpEstimates_view (m : Nat) (s) (h : m &&& 202015008 = 202015008) :
    view m (takeUpEstimates s) = view m s := view_up h (by
  unfold takeUpEstimates; simp)
@[simp] theorem becomeActive_view (m : Nat) (s) (h : m &&& 202109108 = 202109108) :
    view m (becomeActive s) = view m s := view_up h (by
  unfold becomeActive; simp)

/-! ### HostPort -/

@[simp] theorem goDown_view (m : Nat) (s p cause) (h : m &&& 214827264 = 214827264) :
    view m (goDown s p cause) = view m s := view_up h (by
  unfold goDown
  simp only [List.append_assoc, Nat.reduceAnd, raise_view, view_ite, endFreeze_view, view_mk, pick_ident,
    modPort_view, failRun_view, pick_elec, pick_clk, pick_grid, pick_ring, pick_front, pick_fus, Nat.reduceDiv,
    Nat.reduceMod, pick_on, pick_peerBuf, pick_therm, pick_ctl, pick_hold, pick_prot, pick_outr, pick_pair, pick_can,
    pick_records, pick_acting, pick_stores, pick_pending, Nat.mod_succ, ite_self, view_eq, none_est, none_signals,
    none_host, none_events, none_par, none_upd, none_sent, none_freeCtr, and_self])
@[simp] theorem doorbell_view (m : Nat) (s p ring w entries) (h : m &&& 67502080 = 67502080) :
    view m (doorbell s p ring w entries) = view m s := view_up h (by
  unfold doorbell; simp)
@[simp] theorem writeTail_view (m : Nat) (x0 x1 x2 x3) (h : m &&& 67502080 = 67502080) :
    view m (writeTail x0 x1 x2 x3) = view m x0 := view_up h (by
  unfold writeTail; simp)
@[simp] theorem feedStream_view (m : Nat) (x0 x1 x2) (h : m &&& 202244096 = 202244096) :
    view m (feedStream x0 x1 x2) = view m x0 := view_up h (by
  unfold feedStream; simp)
@[simp] theorem waitAnew_view (m : Nat) (x0 x1 x2) (h : m &&& 393216 = 393216) :
    view m (waitAnew x0 x1 x2) = view m x0 := view_up h (by
  unfold waitAnew; (repeat' (first | (simp (maxDischargeDepth := 6); done) | split | (dsimp only; split) | (simp (maxDischargeDepth := 6); split))))
@[simp] theorem maskWrite_view (m : Nat) (s p g w) (h : m &&& 67502080 = 67502080) :
    view m (maskWrite s p g w) = view m s := view_up h (by
  unfold maskWrite; simp)
@[simp] theorem writeClocks_view (m : Nat) (s off w) (h : m &&& 33800 = 33800) :
    view m (writeClocks s off w) = view m s := view_up h (by
  unfold writeClocks; split <;> simp)
@[simp] theorem writeSensing_view (m : Nat) (s off w) (h : m &&& 480 = 480) :
    view m (writeSensing s off w) = view m s := view_up h (by
  unfold writeSensing; split <;> simp)
@[simp] theorem writeActing_view (m : Nat) (s off w) (h : m &&& 88064 = 88064) :
    view m (writeActing s off w) = view m s := view_up h (by
  unfold writeActing; split <;> simp)
@[simp] theorem writeHost_view (m : Nat) (s p off w) (h : m &&& 67502080 = 67502080) :
    view m (writeHost s p off w) = view m s := view_up h (by
  unfold writeHost; simp)
@[simp] theorem writeEvents_view (m : Nat) (s p off w) (h : m &&& 80609280 = 80609280) :
    view m (writeEvents s p off w) = view m s := view_up h (by
  unfold writeEvents; (repeat' split) <;> simp)
@[simp] theorem writeMsix_view (m : Nat) (s p off w) (h : m &&& 67502080 = 67502080) :
    view m (writeMsix s p off w) = view m s := view_up h (by
  unfold writeMsix; split <;> simp)
@[simp] theorem bar0Write_view (m : Nat) (s p off w) (h : m &&& 80731624 = 80731624) :
    view m (bar0Write s p off w) = view m s := view_up h (by
  unfold bar0Write; simp)

/-! ### Events -/

theorem drainQueue_view0 (n x1) : view 1572864 (drainQueue n x1) = view 1572864 x1 := by
  induction n generalizing x1 with
  | zero => rfl
  | succ n ih =>
    unfold drainQueue
    split
    · rfl
    · rename_i o rest _
      have h (l : List Nat) (s : State) :
          view 1572864 (l.foldl (fun t p => if p < x1.ev.part then t else writeRecord t o p true) s) = view 1572864 s :=
        view_foldl 1572864 _ (fun s a => by simp) l s
      simp [ih, h]
@[simp] theorem drainQueue_view (m : Nat) (n x1) (h : m &&& 1572864 = 1572864) :
    view m (drainQueue n x1) = view m x1 := view_up h (drainQueue_view0 n x1)
@[simp] theorem drainAll_view (m : Nat) (s) (h : m &&& 203030528 = 203030528) :
    view m (drainAll s) = view m s := view_up h (by
  unfold drainAll; simp)

/-! ### Parameters -/

@[simp] theorem schedule_view (m : Nat) (s c a) (h : m &&& 2097152 = 2097152) :
    view m (schedule s c a) = view m s := view_up h (by
  unfold schedule
  dsimp only
  split
  · rfl
  · split <;> rfl)
@[simp] theorem startPersist_view (m : Nat) (s) (h : m &&& 4194304 = 4194304) :
    view m (startPersist s) = view m s := view_up h (by
  unfold startPersist; simp)
@[simp] theorem persisted_view (m : Nat) (s) (h : m &&& 4194304 = 4194304) :
    view m (persisted s) = view m s := view_up h (by
  unfold persisted; (repeat' (first | (simp (maxDischargeDepth := 6); done) | split | (dsimp only; split) | (simp (maxDischargeDepth := 6); split))))
@[simp] theorem touchSession_view (m : Nat) (x0 x1) (h : m &&& 4194304 = 4194304) :
    view m (touchSession x0 x1) = view m x0 := view_up h (by
  unfold touchSession; split <;> simp)
@[simp] theorem configureUnits_view (m : Nat) (s) (h : m &&& 67108896 = 67108896) :
    view m (configureUnits s) = view m s := view_up h (by
  unfold configureUnits; simp)
@[simp] theorem setCalValid_view (m : Nat) (s target ch ok) (h : m &&& 64 = 64) :
    view m (setCalValid s target ch ok) = view m s := view_up h (by
  unfold setCalValid; simp)
@[simp] theorem commitCal_view (m : Nat) (s staged changed) (h : m &&& 201982016 = 201982016) :
    view m (commitCal s staged changed) = view m s := view_up h (by
  unfold commitCal; simp)
@[simp] theorem install_view (m : Nat) (s c) (h : m &&& 208273760 = 208273760) :
    view m (install s c) = view m s := view_up h (by
  unfold install; simp)
@[simp] theorem releaseModel_view (m : Nat) (s) (h : m &&& 128 = 128) :
    view m (releaseModel s) = view m s := view_up h (by
  unfold releaseModel; simp)
@[simp] theorem reloadPair_view (m : Nat) (s b a) (h : m &&& 6291456 = 6291456) :
    view m (reloadPair s b a) = view m s := view_up h (by
  unfold reloadPair; simp)

/-! ### Update -/

@[simp] theorem touchLock_view (m : Nat) (x0 x1) (h : m &&& 8388608 = 8388608) :
    view m (touchLock x0 x1) = view m x0 := view_up h (by
  unfold touchLock; simp)
@[simp] theorem setLock_view (m : Nat) (s l) (h : m &&& 8388608 = 8388608) :
    view m (setLock s l) = view m s := view_up h (by
  unfold setLock; simp)
@[simp] theorem sessionEvent_view (m : Nat) (x0 x1 x2 x3 x4) (h : m &&& 201981952 = 201981952) :
    view m (sessionEvent x0 x1 x2 x3 x4) = view m x0 := view_up h (by
  unfold sessionEvent; simp)
@[simp] theorem setTarget_view (m : Nat) (x0 x1 x2) (h : m &&& 16777216 = 16777216) :
    view m (setTarget x0 x1 x2) = view m x0 := view_up h (by
  unfold setTarget
  split <;> rfl)
@[simp] theorem endSession_view (m : Nat) (x0 x1) (h : m &&& 210370560 = 210370560) :
    view m (endSession x0 x1) = view m x0 := view_up h (by
  unfold endSession; split <;> simp)
@[simp] theorem resumeSession_view (m : Nat) (x0 x1) (h : m &&& 218759168 = 218759168) :
    view m (resumeSession x0 x1) = view m x0 := view_up h (by
  unfold resumeSession; simp)
@[simp] theorem newSession_view (m : Nat) (x0 x1 x2 x3 x4 x5) (h : m &&& 227147776 = 227147776) :
    view m (newSession x0 x1 x2 x3 x4 x5) = view m x0 := view_up h (by
  unfold newSession; (repeat' (first | (simp (maxDischargeDepth := 6); done) | split | (dsimp only; split) | (simp (maxDischargeDepth := 6); split))))
@[simp] theorem programBlock_view (m : Nat) (s j offset crc data) (h : m &&& 25165824 = 25165824) :
    view m (programBlock s j offset crc data) = view m s := view_up h (by
  unfold programBlock; simp)
@[simp] theorem verifyFirmware_view (m : Nat) (x0 x1 x2) (h : m &&& 210370560 = 210370560) :
    view m (verifyFirmware x0 x1 x2).2.2 = view m x0 := view_up h (by
  unfold verifyFirmware; (repeat' split) <;> simp)
@[simp] theorem verifyModel_view (m : Nat) (x0 x1 x2) (h : m &&& 210370688 = 210370688) :
    view m (verifyModel x0 x1 x2).2.2 = view m x0 := view_up h (by
  unfold verifyModel; simp)
@[simp] theorem verifySession_view (m : Nat) (x0 x1) (h : m &&& 210370688 = 210370688) :
    view m (verifySession x0 x1).2.2 = view m x0 := view_up h (by
  unfold verifySession; (repeat' (first | (simp (maxDischargeDepth := 6); done) | split | (dsimp only; split) | (simp (maxDischargeDepth := 6); split))))
@[simp] theorem openAndLeave_view (m : Nat) (s activation) (h : m &&& 234881020 = 234881020) :
    view m (openAndLeave s activation) = view m s := view_up h (by
  unfold openAndLeave; simp)
@[simp] theorem releaseAndLeave_view (m : Nat) (s activation) (h : m &&& 75530240 = 75530240) :
    view m (releaseAndLeave s activation) = view m s := view_up h (by
  unfold releaseAndLeave; simp)

/-! ### Boot -/

@[simp] theorem deferEvent_view (m : Nat) (s evt data) (h : m &&& 134742016 = 134742016) :
    view m (deferEvent s evt data) = view m s := view_up h (by
  unfold deferEvent; simp)
@[simp] theorem fallbackEvent_view (m : Nat) (s r boots cause) (h : m &&& 134742016 = 134742016) :
    view m (fallbackEvent s r boots cause) = view m s := view_up h (by
  unfold fallbackEvent; simp)
@[simp] theorem fallBack_view (m : Nat) (s r boots cause) (h : m &&& 143130624 = 143130624) :
    view m (fallBack s r boots cause) = view m s := view_up h (by
  unfold fallBack; simp)
@[simp] theorem stayInLoader_view (m : Nat) (s) (h : m &&& 557060 = 557060) :
    view m (stayInLoader s) = view m s := view_up h (by
  unfold stayInLoader; simp)
@[simp] theorem bootFails_view (m : Nat) (s r cause) (h : m &&& 167772156 = 167772156) :
    view m (bootFails s r cause) = view m s := view_up h (by
  unfold bootFails; simp)
@[simp] theorem convertSettings_view (m : Nat) (s r) (h : m &&& 214564864 = 214564864) :
    view m (convertSettings s r) = view m s := view_up h (by
  unfold convertSettings
  split
  · rfl
  · dsimp only
    split <;> simp)
@[simp] theorem loadSettings_view (m : Nat) (s slot) (h : m &&& 6291456 = 6291456) :
    view m (loadSettings s slot) = view m s := view_up h (by
  unfold loadSettings; (repeat' (first | (simp (maxDischargeDepth := 6); done) | split | (dsimp only; split) | (simp (maxDischargeDepth := 6); split))))
@[simp] theorem loadModel_view (m : Nat) (s) (h : m &&& 201982080 = 201982080) :
    view m (loadModel s) = view m s := view_up h (by
  unfold loadModel; (repeat' split) <;> simp)
@[simp] theorem loadCal_view (m : Nat) (s) (h : m &&& 64 = 64) : view m (loadCal s) = view m s := view_up h (by
  unfold loadCal; simp)
@[simp] theorem takeHoldBits_view (m : Nat) (s) (h : m &&& 8192 = 8192) :
    view m (takeHoldBits s) = view m s := view_up h (by
  unfold takeHoldBits; simp)
@[simp] theorem verifyAgain_view (m : Nat) (s) (h : m &&& 210370688 = 210370688) :
    view m (verifyAgain s) = view m s := view_up h (by
  unfold verifyAgain; simp)
@[simp] theorem missedWhileDown_view (m : Nat) (s) (h : m &&& 210370560 = 210370560) :
    view m (missedWhileDown s) = view m s := view_up h (by
  unfold missedWhileDown; simp)
@[simp] theorem mirrorLoop_view (m : Nat) (s x) (h : m &&& 201981984 = 201981984) :
    view m (mirrorLoop s x) = view m s := view_up h (by
  unfold mirrorLoop; (repeat' (first | (simp (maxDischargeDepth := 6); done) | split | (dsimp only; split) | (simp (maxDischargeDepth := 6); split))))
@[simp] theorem startImage_view (m : Nat) (s r) (h : m &&& 216756452 = 216756452) :
    view m (startImage s r) = view m s := view_up h (by
  unfold startImage; simp)
@[simp] theorem trialFallsBack_view (m : Nat) (s r) (h : m &&& 143130628 = 143130628) :
    view m (trialFallsBack s r) = view m s := view_up h (by
  unfold trialFallsBack; simp)
@[simp] theorem countTrial_view (m : Nat) (s r) (h : m &&& 210370560 = 210370560) :
    view m (countTrial s r) = view m s := view_up h (by
  unfold countTrial; simp)
@[simp] theorem bootImage_view (m : Nat) (s r selfTest) (h : m &&& 234881020 = 234881020) :
    view m (bootImage s r selfTest) = view m s := view_up h (by
  unfold bootImage; simp)
@[simp] theorem writeEarly_view (m : Nat) (s o) (h : m &&& 67764224 = 67764224) :
    view m (writeEarly s o) = view m s := view_up h (by
  unfold writeEarly; simp)
@[simp] theorem writeAborted_view (m : Nat) (s a) (h : m &&& 201981952 = 201981952) :
    view m (writeAborted s a) = view m s := view_up h (by
  unfold writeAborted; simp)

end Sys2Proof.Laws
end

