-- ==== Sys2Proof/Laws/FrameExecA.lean ====
section
/-! SUPPORT. What each command leaves as it was, one lemma each, as equality of views. -/

namespace Sys2Proof.Laws

open Sys2Proof Sys2Proof.Machine

set_option maxRecDepth 4000
set_option linter.unusedTactic false
set_option linter.unreachableTactic false

/-! ### PowerClock -/

theorem execPowerGood_view (m : Nat) (slotB strap2s present s) (t : State) (hm : m &&& 33554428 = 33554428) (h : execPowerGood slotB strap2s present s = .next t) :
    view m t = view m s := by
  apply view_up hm
  unfold execPowerGood at h
  cases h
  simp
theorem execWithdrawal_view (m : Nat) (s) (t : State) (hm : m &&& 33554428 = 33554428) (h : execWithdrawal s = .next t) :
    view m t = view m s := by
  apply view_up hm
  unfold execWithdrawal at h
  cases h
  simp
theorem execSupplyLoss_view (m : Nat) (s) (t : State) (hm : m &&& 33554428 = 33554428) (h : execSupplyLoss s = .next t) :
    view m t = view m s := by
  apply view_up hm
  unfold execSupplyLoss at h
  cases h
  simp
theorem execReferenceDetect_view (m : Nat) (r s) (t : State) (hm : m &&& 12 = 12) (h : execReferenceDetect r s = .next t) :
    view m t = view m s := by
  apply view_up hm
  unfold execReferenceDetect at h
  cases h
  simp
theorem execReferenceLost_view (m : Nat) (r s) (t : State) (hm : m &&& 201981960 = 201981960) (h : execReferenceLost r s = .next t) :
    view m t = view m s := by
  apply view_up hm
  unfold execReferenceLost at h
  cases h
  simp
theorem execRefFreqCompare_view (m : Nat) (other s) (t : State) (hm : m &&& 201981960 = 201981960) (h : execRefFreqCompare other s = .next t) :
    view m t = view m s := by
  apply view_up hm
  unfold execRefFreqCompare at h
  cases h
  simp
theorem execBypassRun_view (m : Nat) (loaderRuns s) (t : State) (hm : m &&& 4 = 4) (h : execBypassRun loaderRuns s = .next t) :
    view m t = view m s := by
  apply view_up hm
  unfold execBypassRun at h
  cases h
  simp
theorem execPllLock_view (m : Nat) (s) (t : State) (hm : m &&& 12 = 12) (h : execPllLock s = .next t) : view m t = view m s := by
  apply view_up hm
  unfold execPllLock at h
  cases h
  simp
theorem execPllLockLost_view (m : Nat) (s) (t : State) (hm : m &&& 201981960 = 201981960) (h : execPllLockLost s = .next t) :
    view m t = view m s := by
  apply view_up hm
  unfold execPllLockLost at h
  cases h
  simp
theorem execDomainSwitchDone_view (m : Nat) (s) (t : State) (hm : m &&& 524296 = 524296) (h : execDomainSwitchDone s = .next t) :
    view m t = view m s := by
  apply view_up hm
  unfold execDomainSwitchDone at h
  cases h
  simp
theorem execDomainSwitchTimeout_view (m : Nat) (s) (t : State) (hm : m &&& 201984008 = 201984008) (h : execDomainSwitchTimeout s = .next t) :
    view m t = view m s := by
  apply view_up hm
  unfold execDomainSwitchTimeout at h
  cases h
  split <;> simp
theorem execPllEnWrite_view (m : Nat) (w s) (t : State) (hm : m &&& 524296 = 524296) (h : execPllEnWrite w s = .next t) :
    view m t = view m s := by
  apply view_up hm
  unfold execPllEnWrite at h
  cases h
  simp
theorem execApply_view (m : Nat) (w s) (t : State) (hm : m &&& 524296 = 524296) (h : execApply w s = .next t) : view m t = view m s := by
  apply view_up hm
  unfold execApply at h
  cases h
  simp
theorem execWatchdogExpiry_view (m : Nat) (s) (t : State) (hm : m &&& 167772156 = 167772156) (h : execWatchdogExpiry s = .next t) :
    view m t = view m s := by
  apply view_up hm
  unfold execWatchdogExpiry at h
  cases h
  simp
theorem execClocklessHold_view (m : Nat) (s) (t : State) (hm : m &&& 202008580 = 202008580) (h : execClocklessHold s = .next t) :
    view m t = view m s := by
  apply view_up hm
  unfold execClocklessHold at h
  cases h
  (repeat' (first | (simp (maxDischargeDepth := 6); done) | split | (dsimp only; split) | (simp (maxDischargeDepth := 6); split)))
theorem execReferenceReturnRestart_view (m : Nat) (r s) (t : State) (hm : m &&& 234881020 = 234881020) (h : execReferenceReturnRestart r s = .next t) :
    view m t = view m s := by
  apply view_up hm
  unfold execReferenceReturnRestart at h
  cases h
  simp

/-! ### Grid -/

theorem execWaymarkReceived_view (m : Nat) (port f arr s) (t : State) (hm : m &&& 210370576 = 210370576) (h : execWaymarkReceived port f arr s = .next t) :
    view m t = view m s := by
  apply view_up hm
  unfold execWaymarkReceived at h
  cases h
  simp
theorem execWaymarkMissed_view (m : Nat) (port s) (t : State) (hm : m &&& 201981968 = 201981968) (h : execWaymarkMissed port s = .next t) :
    view m t = view m s := by
  apply view_up hm
  unfold execWaymarkMissed at h
  cases h
  simp
theorem execUnsynchronised_view (m : Nat) (s) (t : State) (hm : m &&& 202051600 = 202051600) (h : execUnsynchronised s = .next t) :
    view m t = view m s := by
  apply view_up hm
  unfold execUnsynchronised at h
  cases h
  simp
theorem execResynchronise_view (m : Nat) (off s) (t : State) (hm : m &&& 202051600 = 202051600) (h : execResynchronise off s = .next t) :
    view m t = view m s := by
  apply view_up hm
  unfold execResynchronise at h
  cases h
  (repeat' (first | (simp (maxDischargeDepth := 6); done) | split | (dsimp only; split) | (simp (maxDischargeDepth := 6); split)))
theorem execUpstreamReturn_view (m : Nat) (s) (t : State) (hm : m &&& 201981968 = 201981968) (h : execUpstreamReturn s = .next t) :
    view m t = view m s := by
  apply view_up hm
  unfold execUpstreamReturn at h
  cases h
  simp
theorem execSuccessorBecomesSource_view (m : Nat) (s) (t : State) (hm : m &&& 201986068 = 201986068) (h : execSuccessorBecomesSource s = .next t) :
    view m t = view m s := by
  apply view_up hm
  unfold execSuccessorBecomesSource at h
  cases h
  simp
theorem execVirtualMainsEntry_view (m : Nat) (s) (t : State) (hm : m &&& 201981968 = 201981968) (h : execVirtualMainsEntry s = .next t) :
    view m t = view m s := by
  apply view_up hm
  unfold execVirtualMainsEntry at h
  cases h
  simp
theorem execVirtualMainsExit_view (m : Nat) (x0 x1) (t : State) (hm : m &&& 201981968 = 201981968) (h : execVirtualMainsExit x0 x1 = .next t) :
    view m t = view m x1 := by
  apply view_up hm
  unfold execVirtualMainsExit at h
  cases h
  simp
theorem execEchoReq_view (m : Nat) (port f inWaymark s) (t : State) (hm : m &&& 67141648 = 67141648) (h : execEchoReq port f inWaymark s = .next t) :
    view m t = view m s := by
  apply view_up hm
  unfold execEchoReq at h
  cases h
  (repeat' split) <;> simp
theorem execEchoRep_view (m : Nat) (port f rtt s) (t : State) (hm : m &&& 67108880 = 67108880) (h : execEchoRep port f rtt s = .next t) :
    view m t = view m s := by
  apply view_up hm
  unfold execEchoRep at h
  cases h
  simp
theorem execEchoTimeout_view (m : Nat) (port s) (t : State) (hm : m &&& 67108880 = 67108880) (h : execEchoTimeout port s = .next t) :
    view m t = view m s := by
  apply view_up hm
  unfold execEchoTimeout at h
  cases h
  simp
theorem execHopRemeasure_view (m : Nat) (s) (t : State) (hm : m &&& 67108880 = 67108880) (h : execHopRemeasure s = .next t) :
    view m t = view m s := by
  apply view_up hm
  unfold execHopRemeasure at h
  cases h
  simp
theorem execLoopTrace_view (m : Nat) (port f s) (t : State) (hm : m &&& 201981968 = 201981968) (h : execLoopTrace port f s = .next t) :
    view m t = view m s := by
  apply view_up hm
  unfold execLoopTrace at h
  cases h
  simp
theorem execRyranEnumeration_view (m : Nat) (e0 e1 s) (t : State) (hm : m &&& 201986068 = 201986068) (h : execRyranEnumeration e0 e1 s = .next t) :
    view m t = view m s := by
  apply view_up hm
  unfold execRyranEnumeration at h
  cases h
  (repeat' (first | (simp (maxDischargeDepth := 6); done) | split | (dsimp only; split) | (simp (maxDischargeDepth := 6); split)))

/-! ### Caravan -/

theorem execCaravanEnumeration_view (m : Nat) (f0 f1 s) (t : State) (hm : m &&& 212500516 = 212500516) (h : execCaravanEnumeration f0 f1 s = .next t) :
    view m t = view m s := by
  apply view_up hm
  unfold execCaravanEnumeration at h
  cases h
  simp
theorem execCaravanReenum_view (m : Nat) (x0 x1 x2 x3 x4) (t : State) (hm : m &&& 204341280 = 204341280) (h : execCaravanReenum x0 x1 x2 x3 x4 = .next t) :
    view m t = view m x4 := by
  apply view_up hm
  unfold execCaravanReenum at h
  cases h
  simp
theorem execCompatReenum_view (m : Nat) (ring find s) (t : State) (hm : m &&& 204079136 = 204079136) (h : execCompatReenum ring find s = .next t) :
    view m t = view m s := by
  apply view_up hm
  unfold execCompatReenum at h
  cases h
  simp
theorem execTriggerSend_view (m : Nat) (ring waitNs s) (t : State) (hm : m &&& 67108896 = 67108896) (h : execTriggerSend ring waitNs s = .next t) :
    view m t = view m s := by
  apply view_up hm
  unfold execTriggerSend at h
  cases h
  simp
theorem execSnapSend_view (m : Nat) (ring s) (t : State) (hm : m &&& 67108896 = 67108896) (h : execSnapSend ring s = .next t) :
    view m t = view m s := by
  apply view_up hm
  unfold execSnapSend at h
  cases h
  simp
theorem execDeliveryDeadline_view (m : Nat) (ring s) (t : State) (hm : m &&& 201981984 = 201981984) (h : execDeliveryDeadline ring s = .next t) :
    view m t = view m s := by
  apply view_up hm
  unfold execDeliveryDeadline at h
  cases h
  simp
theorem execTransactionTimeout_view (m : Nat) (ring seq s) (t : State) (hm : m &&& 201981984 = 201981984) (h : execTransactionTimeout ring seq s = .next t) :
    view m t = view m s := by
  apply view_up hm
  unfold execTransactionTimeout at h
  cases h
  split <;> simp
theorem execLostUnitPoll_view (m : Nat) (ring s) (t : State) (hm : m &&& 67108896 = 67108896) (h : execLostUnitPoll ring s = .next t) :
    view m t = view m s := by
  apply view_up hm
  unfold execLostUnitPoll at h
  cases h
  simp
theorem execStatusPoll_view (m : Nat) (ring s) (t : State) (hm : m &&& 67108896 = 67108896) (h : execStatusPoll ring s = .next t) :
    view m t = view m s := by
  apply view_up hm
  unfold execStatusPoll at h
  cases h
  (repeat' (first | (simp (maxDischargeDepth := 6); done) | split | (dsimp only; split) | (simp (maxDischargeDepth := 6); split)))
theorem execAck_view (m : Nat) (ring f s) (t : State) (hm : m &&& 201981984 = 201981984) (h : execAck ring f s = .next t) :
    view m t = view m s := by
  apply view_up hm
  unfold execAck at h
  cases h
  (repeat' (first | (simp (maxDischargeDepth := 6); done) | split | (dsimp only; split) | (simp (maxDischargeDepth := 6); split)))
theorem execNak_view (m : Nat) (ring f s) (t : State) (hm : m &&& 201981984 = 201981984) (h : execNak ring f s = .next t) :
    view m t = view m s := by
  apply view_up hm
  unfold execNak at h
  cases h
  simp
theorem execTickSumSend_view (m : Nat) (ring s) (t : State) (hm : m &&& 67108896 = 67108896) (h : execTickSumSend ring s = .next t) :
    view m t = view m s := by
  apply view_up hm
  unfold execTickSumSend at h
  cases h
  simp
theorem execWrapNotice_view (m : Nat) (ring f s) (t : State) (hm : m &&& 201981984 = 201981984) (h : execWrapNotice ring f s = .next t) :
    view m t = view m s := by
  apply view_up hm
  unfold execWrapNotice at h
  cases h
  (repeat' split) <;> simp
theorem execRingLockLoss_view (m : Nat) (ring endB s) (t : State) (hm : m &&& 201981984 = 201981984) (h : execRingLockLoss ring endB s = .next t) :
    view m t = view m s := by
  apply view_up hm
  unfold execRingLockLoss at h
  cases h
  simp
theorem execRingTriggerTimeout_view (m : Nat) (ring reached s) (t : State) (hm : m &&& 201981984 = 201981984) (h : execRingTriggerTimeout ring reached s = .next t) :
    view m t = view m s := by
  apply view_up hm
  unfold execRingTriggerTimeout at h
  cases h
  simp
theorem execRingRestore_view (m : Nat) (ring lRing s) (t : State) (hm : m &&& 201981984 = 201981984) (h : execRingRestore ring lRing s = .next t) :
    view m t = view m s := by
  apply view_up hm
  unfold execRingRestore at h
  cases h
  simp
theorem execBalanceRefresh_view (m : Nat) (ring s) (t : State) (hm : m &&& 67108896 = 67108896) (h : execBalanceRefresh ring s = .next t) :
    view m t = view m s := by
  apply view_up hm
  unfold execBalanceRefresh at h
  cases h
  (repeat' (first | (simp (maxDischargeDepth := 6); done) | split | (dsimp only; split) | (simp (maxDischargeDepth := 6); split)))
theorem execBal12Refresh_view (m : Nat) (ring s) (t : State) (hm : m &&& 67108896 = 67108896) (h : execBal12Refresh ring s = .next t) :
    view m t = view m s := by
  apply view_up hm
  unfold execBal12Refresh at h
  cases h
  simp

/-! ### CellDiag -/

theorem execFeatureRec_view (m : Nat) (ring f s) (t : State) (hm : m &&& 202244256 = 202244256) (h : execFeatureRec ring f s = .next t) :
    view m t = view m s := by
  apply view_up hm
  unfold execFeatureRec at h
  cases h
  (repeat' split) <;> simp
theorem execStatusRep_view (m : Nat) (ring f s) (t : State) (hm : m &&& 201982112 = 201982112) (h : execStatusRep ring f s = .next t) :
    view m t = view m s := by
  apply view_up hm
  unfold execStatusRep at h
  cases h
  (repeat' split) <;> simp
theorem execOpenwireSchedule_view (m : Nat) (ring s) (t : State) (hm : m &&& 67108896 = 67108896) (h : execOpenwireSchedule ring s = .next t) :
    view m t = view m s := by
  apply view_up hm
  unfold execOpenwireSchedule at h
  cases h
  (repeat' (first | (simp (maxDischargeDepth := 6); done) | split | (dsimp only; split) | (simp (maxDischargeDepth := 6); split)))
theorem execOpenwireRep_view (m : Nat) (ring f s) (t : State) (hm : m &&& 201982112 = 201982112) (h : execOpenwireRep ring f s = .next t) :
    view m t = view m s := by
  apply view_up hm
  unfold execOpenwireRep at h
  cases h
  (repeat' split) <;> simp
theorem execCompatibilityReply_view (m : Nat) (ring f s) (t : State) (hm : m &&& 202244256 = 202244256) (h : execCompatibilityReply ring f s = .next t) :
    view m t = view m s := by
  apply view_up hm
  unfold execCompatibilityReply at h
  cases h
  (repeat' split) <;> simp

/-! ### FrontEnd -/

theorem execCalPoint_view (m : Nat) (x0 x1 x2 x3 x4 x5) (t : State) (hm : m &&& 201719872 = 201719872) (h : execCalPoint x0 x1 x2 x3 x4 x5 = .next t) :
    view m t = view m x5 := by
  apply view_up hm
  unfold execCalPoint at h
  cases h
  split
  · rfl
  split
  · simp
  split
  · simp
  have e : view 201719872 (acceptLong x5 x0 0x0032).2 = view 201719872 x5 := by simp
  generalize acceptLong x5 x0 0x0032 = q at e ⊢
  obtain ⟨id, s1⟩ := q
  dsimp only at e ⊢
  split <;> simp [e]
theorem execCalPointDone_view (m : Nat) (target channel s) (t : State) (hm : m &&& 202244160 = 202244160) (h : execCalPointDone target channel s = .next t) :
    view m t = view m s := by
  apply view_up hm
  unfold execCalPointDone at h
  cases h
  (repeat' split) <;> simp
theorem execCalSolve_view (m : Nat) (x0 x1 x2 x3) (t : State) (hm : m &&& 206438464 = 206438464) (h : execCalSolve x0 x1 x2 x3 = .next t) :
    view m t = view m x3 := by
  apply view_up hm
  unfold execCalSolve at h
  cases h
  (repeat' split) <;> simp
theorem execIsoOkChange_view (m : Nat) (string ok s) (t : State) (hm : m &&& 201982016 = 201982016) (h : execIsoOkChange string ok s = .next t) :
    view m t = view m s := by
  apply view_up hm
  unfold execIsoOkChange at h
  cases h
  simp

/-! ### Fusion -/

theorem execCurrentVote_view (m : Nat) (string s) (t : State) (hm : m &&& 201982080 = 201982080) (h : execCurrentVote string s = .next t) :
    view m t = view m s := by
  apply view_up hm
  unfold execCurrentVote at h
  cases h
  simp
theorem execWatchStream_view (m : Nat) (ring f s) (t : State) (hm : m &&& 201982112 = 201982112) (h : execWatchStream ring f s = .next t) :
    view m t = view m s := by
  apply view_up hm
  unfold execWatchStream at h
  cases h
  (repeat' split) <;> simp
theorem execSourceClear_view (m : Nat) (x0 x1 x2 x3 x4 x5) (t : State) (hm : m &&& 202248320 = 202248320) (h : execSourceClear x0 x1 x2 x3 x4 x5 = .next t) :
    view m t = view m x5 := by
  apply view_up hm
  unfold execSourceClear at h
  cases h
  (repeat' split) <;> simp

/-! ### Balance -/

theorem execBalanceReview_view (m : Nat) (s) (t : State) (hm : m &&& 201982240 = 201982240) (h : execBalanceReview s = .next t) :
    view m t = view m s := by
  apply view_up hm
  unfold execBalanceReview at h
  cases h
  simp

/-! ### Thermal -/

theorem execThermalNodeLost_view (m : Nat) (node s) (t : State) (hm : m &&& 201982976 = 201982976) (h : execThermalNodeLost node s = .next t) :
    view m t = view m s := by
  apply view_up hm
  unfold execThermalNodeLost at h
  cases h
  split <;> simp
theorem execDieReading_view (m : Nat) (reading s) (t : State) (hm : m &&& 201982976 = 201982976) (h : execDieReading reading s = .next t) :
    view m t = view m s := by
  apply view_up hm
  unfold execDieReading at h
  cases h
  simp
theorem execDieTemp_view (m : Nat) (f s) (t : State) (hm : m &&& 33792 = 33792) (h : execDieTemp f s = .next t) : view m t = view m s := by
  apply view_up hm
  unfold execDieTemp at h
  cases h
  simp
theorem execTempHostWrite_view (m : Nat) (w s) (t : State) (hm : m &&& 1024 = 1024) (h : execTempHostWrite w s = .next t) :
    view m t = view m s := by
  apply view_up hm
  unfold execTempHostWrite at h
  cases h
  simp
theorem execDieTempSend_view (m : Nat) (s) (t : State) (hm : m &&& 67108864 = 67108864) (h : execDieTempSend s = .next t) :
    view m t = view m s := by
  apply view_up hm
  unfold execDieTempSend at h
  cases h
  simp
theorem execChargePumpStep_view (m : Nat) (s) (t : State) (hm : m &&& 8 = 8) (h : execChargePumpStep s = .next t) :
    view m t = view m s := by
  apply view_up hm
  unfold execChargePumpStep at h
  cases h
  simp

/-! ### Estimation -/

theorem execTickPropagation_view (m : Nat) (s) (t : State) (hm : m &&& 201982208 = 201982208) (h : execTickPropagation s = .next t) :
    view m t = view m s := by
  apply view_up hm
  unfold execTickPropagation at h
  cases h
  (repeat' split) <;> simp
theorem execDischargeStop_view (m : Nat) (string s) (t : State) (hm : m &&& 256 = 256) (h : execDischargeStop string s = .next t) :
    view m t = view m s := by
  apply view_up hm
  unfold execDischargeStop at h
  cases h
  simp
theorem execLearningDurationExpiry_view (m : Nat) (string s) (t : State) (hm : m &&& 201982208 = 201982208) (h : execLearningDurationExpiry string s = .next t) :
    view m t = view m s := by
  apply view_up hm
  unfold execLearningDurationExpiry at h
  cases h
  split <;> simp
theorem execReferenceStarved_view (m : Nat) (string s) (t : State) (hm : m &&& 201982208 = 201982208) (h : execReferenceStarved string s = .next t) :
    view m t = view m s := by
  apply view_up hm
  unfold execReferenceStarved at h
  cases h
  simp

/-! ### StateRecord -/

theorem execStateOffer_view (m : Nat) (x0 x1 x2 x3 x4) (t : State) (hm : m &&& 202244388 = 202244388) (h : execStateOffer x0 x1 x2 x3 x4 = .next t) :
    view m t = view m x4 := by
  apply view_up hm
  unfold execStateOffer at h
  cases h
  split
  · rfl
  have e : view 202244388 (acceptLong x4 x0 0x0040).2 = view 202244388 x4 := by simp
  generalize acceptLong x4 x0 0x0040 = q at e ⊢
  obtain ⟨id, s1⟩ := q
  dsimp only at e ⊢
  split
  · simp [e]
  split
  · split
    · rw [endLong_view _ _ _ _ _ _ (by decide), ← e]; simp
    · simp [e]
  split
  · simp [e]
  split
  · simp [e]
  · rw [endLong_view _ _ _ _ _ _ (by decide), ← e]
    have g := loadRecord_view 202244388 s1 x3 (some (ageOf s1 (recCycle x3))) 1 (by decide)
    rw [← g]; simp
theorem execStateRecordCapture_view (m : Nat) (s) (t : State) (hm : m &&& 202244352 = 202244352) (h : execStateRecordCapture s = .next t) :
    view m t = view m s := by
  apply view_up hm
  unfold execStateRecordCapture at h
  cases h
  simp

/-! ### Control -/

theorem execSlotInputTimeout_view (m : Nat) (slot s) (t : State) (hm : m &&& 201984000 = 201984000) (h : execSlotInputTimeout slot s = .next t) :
    view m t = view m s := by
  apply view_up hm
  unfold execSlotInputTimeout at h
  cases h
  simp
theorem execThermalInputTimeout_view (m : Nat) (slot s) (t : State) (hm : m &&& 201984000 = 201984000) (h : execThermalInputTimeout slot s = .next t) :
    view m t = view m s := by
  apply view_up hm
  unfold execThermalInputTimeout at h
  cases h
  simp
theorem execCtlBankReqWrite_view (m : Nat) (hi w s) (t : State) (hm : m &&& 2048 = 2048) (h : execCtlBankReqWrite hi w s = .next t) :
    view m t = view m s := by
  apply view_up hm
  unfold execCtlBankReqWrite at h
  cases h
  simp
theorem execLatClr_view (m : Nat) (w s) (t : State) (hm : m &&& 2048 = 2048) (h : execLatClr w s = .next t) : view m t = view m s := by
  apply view_up hm
  unfold execLatClr at h
  cases h
  simp
theorem execCtlSwap_view (m : Nat) (x0 x1 x2 x3) (t : State) (hm : m &&& 67504128 = 67504128) (h : execCtlSwap x0 x1 x2 x3 = .next t) :
    view m t = view m x3 := by
  apply view_up hm
  unfold execCtlSwap at h
  cases h
  simp
theorem execCtlReadSlot_view (m : Nat) (x0 x1 x2) (t : State) (hm : m &&& 67502080 = 67502080) (h : execCtlReadSlot x0 x1 x2 = .next t) :
    view m t = view m x2 := by
  apply view_up hm
  unfold execCtlReadSlot at h
  cases h
  simp

/-! ### Hold -/

theorem execPhasorRecordForm_view (m : Nat) (s) (t : State) (hm : m &&& 201330688 = 201330688) (h : execPhasorRecordForm s = .next t) :
    view m t = view m s := by
  apply view_up hm
  unfold execPhasorRecordForm at h
  cases h
  simp
theorem execPhasorRecord_view (m : Nat) (port f s) (t : State) (hm : m &&& 67112976 = 67112976) (h : execPhasorRecord port f s = .next t) :
    view m t = view m s := by
  apply view_up hm
  unfold execPhasorRecord at h
  cases h
  simp
theorem execVote_view (m : Nat) (s) (t : State) (hm : m &&& 201988112 = 201988112) (h : execVote s = .next t) : view m t = view m s := by
  apply view_up hm
  unfold execVote at h
  cases h
  extract_lets vd hh c fit rs qs vs contested mask mode changed was vals voted f good ref out outs q1 s1 s2 s3 s4
  split
  · rfl
  clear_value out vs outs ref
  have h1 : view 201988112 s1 = view 201988112 s := by simp only [s1, q1]; simp
  clear_value s1
  have h2 : view 201988112 s2 = view 201988112 s1 := by simp only [s2]; split <;> simp
  clear_value s2
  have h3 : view 201988112 s3 = view 201988112 s2 := view_foldl _ _ (fun s a => by dsimp only; split <;> simp) _ _
  clear_value s3
  have h4 : view 201988112 s4 = view 201988112 s3 := view_foldl _ _ (fun s a => by simp) _ _
  clear_value s4
  split <;> simp [h1, h2, h3, h4]
theorem execHoldingPeriodBoundary_view (m : Nat) (s) (t : State) (hm : m &&& 201986048 = 201986048) (h : execHoldingPeriodBoundary s = .next t) :
    view m t = view m s := by
  apply view_up hm
  unfold execHoldingPeriodBoundary at h
  cases h
  (repeat' (first | (simp (maxDischargeDepth := 6); done) | split | (dsimp only; split) | (simp (maxDischargeDepth := 6); split)))
theorem execHeadroomSum_view (m : Nat) (port f s) (t : State) (hm : m &&& 67112976 = 67112976) (h : execHeadroomSum port f s = .next t) :
    view m t = view m s := by
  apply view_up hm
  unfold execHeadroomSum at h
  cases h
  (repeat' (first | (simp (maxDischargeDepth := 6); done) | split | (dsimp only; split) | (simp (maxDischargeDepth := 6); split)))
theorem execSumSendDeadline_view (m : Nat) (s) (t : State) (hm : m &&& 67112960 = 67112960) (h : execSumSendDeadline s = .next t) :
    view m t = view m s := by
  apply view_up hm
  unfold execSumSendDeadline at h
  cases h
  simp
theorem execRoundClose_view (m : Nat) (s) (t : State) (hm : m &&& 201986064 = 201986064) (h : execRoundClose s = .next t) :
    view m t = view m s := by
  apply view_up hm
  unfold execRoundClose at h
  cases h
  simp
theorem execControlLatch_view (m : Nat) (late torn s) (t : State) (hm : m &&& 201988096 = 201988096) (h : execControlLatch late torn s = .next t) :
    view m t = view m s := by
  apply view_up hm
  unfold execControlLatch at h
  cases h
  simp
theorem execFraction_view (m : Nat) (port f s) (t : State) (hm : m &&& 201988112 = 201988112) (h : execFraction port f s = .next t) :
    view m t = view m s := by
  apply view_up hm
  unfold execFraction at h
  cases h
  (repeat' split) <;> simp
theorem execFractionHoldExpiry_view (m : Nat) (s) (t : State) (hm : m &&& 201986048 = 201986048) (h : execFractionHoldExpiry s = .next t) :
    view m t = view m s := by
  apply view_up hm
  unfold execFractionHoldExpiry at h
  cases h
  simp
theorem execPlanClose_view (m : Nat) (s) (t : State) (hm : m &&& 4096 = 4096) (h : execPlanClose s = .next t) : view m t = view m s := by
  apply view_up hm
  unfold execPlanClose at h
  cases h
  simp
theorem execHoldSet_view (m : Nat) (x0 x1 x2 x3 x4) (t : State) (hm : m &&& 67506176 = 67506176) (h : execHoldSet x0 x1 x2 x3 x4 = .next t) :
    view m t = view m x4 := by
  apply view_up hm
  unfold execHoldSet at h
  cases h
  simp
theorem execLeadMove_view (m : Nat) (x0 x1 x2 x3) (t : State) (hm : m &&& 67502096 = 67502096) (h : execLeadMove x0 x1 x2 x3 = .next t) :
    view m t = view m x3 := by
  apply view_up hm
  unfold execLeadMove at h
  cases h
  simp
theorem execLeadMoveExecute_view (m : Nat) (s) (t : State) (hm : m &&& 202051604 = 202051604) (h : execLeadMoveExecute s = .next t) :
    view m t = view m s := by
  apply view_up hm
  unfold execLeadMoveExecute at h
  cases h
  split <;> simp

end Sys2Proof.Laws
end

