-- ==== Sys2Proof/Laws/FrameExecB.lean ====
section
/-! SUPPORT. What each command leaves as it was, one lemma each, as equality of views. -/

namespace Sys2Proof.Laws

open Sys2Proof Sys2Proof.Machine

set_option maxRecDepth 4000
set_option linter.unusedTactic false
set_option linter.unreachableTactic false

/-! ### Protection -/

theorem execTickSum_view (m : Nat) (ring endB f s) (t : State) (hm : m &&& 202317856 = 202317856) (h : execTickSum ring endB f s = .next t) :
    view m t = view m s := by
  apply view_up hm
  unfold execTickSum at h
  cases h
  (repeat' (first | (simp (maxDischargeDepth := 6); done) | split | (dsimp only; split) | (simp (maxDischargeDepth := 6); split)))
theorem execComparatorTrip_view (m : Nat) (string c s) (t : State) (hm : m &&& 202252288 = 202252288) (h : execComparatorTrip string c s = .next t) :
    view m t = view m s := by
  apply view_up hm
  unfold execComparatorTrip at h
  cases h
  simp
theorem execComparatorRelease_view (m : Nat) (string c s) (t : State) (hm : m &&& 8192 = 8192) (h : execComparatorRelease string c s = .next t) :
    view m t = view m s := by
  apply view_up hm
  unfold execComparatorRelease at h
  cases h
  simp
theorem execFaultLoopOpen_view (m : Nat) (ring s) (t : State) (hm : m &&& 202252320 = 202252320) (h : execFaultLoopOpen ring s = .next t) :
    view m t = view m s := by
  apply view_up hm
  unfold execFaultLoopOpen at h
  cases h
  simp
theorem execFaultLoopClose_view (m : Nat) (ring s) (t : State) (hm : m &&& 201990176 = 201990176) (h : execFaultLoopClose ring s = .next t) :
    view m t = view m s := by
  apply view_up hm
  unfold execFaultLoopClose at h
  cases h
  simp
theorem execOutriderTripReport_view (m : Nat) (string s) (t : State) (hm : m &&& 201990144 = 201990144) (h : execOutriderTripReport string s = .next t) :
    view m t = view m s := by
  apply view_up hm
  unfold execOutriderTripReport at h
  cases h
  simp
theorem execBlindString_view (m : Nat) (string s) (t : State) (hm : m &&& 202317824 = 202317824) (h : execBlindString string s = .next t) :
    view m t = view m s := by
  apply view_up hm
  unfold execBlindString at h
  cases h
  split <;> simp
theorem execThresholdWrite_view (m : Nat) (k w s) (t : State) (hm : m &&& 201998336 = 201998336) (h : execThresholdWrite k w s = .next t) :
    view m t = view m s := by
  apply view_up hm
  unfold execThresholdWrite at h
  cases h
  simp
theorem execProtectionBoundary_view (m : Nat) (s) (t : State) (hm : m &&& 6316032 = 6316032) (h : execProtectionBoundary s = .next t) :
    view m t = view m s := by
  apply view_up hm
  unfold execProtectionBoundary at h
  cases h
  simp
theorem execCoilTest_view (m : Nat) (rd s) (t : State) (hm : m &&& 202338304 = 202338304) (h : execCoilTest rd s = .next t) :
    view m t = view m s := by
  apply view_up hm
  unfold execCoilTest at h
  cases h
  simp
theorem execTestOverdue_view (m : Nat) (string coil highSide s) (t : State) (hm : m &&& 202256384 = 202256384) (h : execTestOverdue string coil highSide s = .next t) :
    view m t = view m s := by
  apply view_up hm
  unfold execTestOverdue at h
  cases h
  simp
theorem execContactorDropout_view (m : Nat) (string coil rd s) (t : State) (hm : m &&& 202321920 = 202321920) (h : execContactorDropout string coil rd s = .next t) :
    view m t = view m s := by
  apply view_up hm
  unfold execContactorDropout at h
  cases h
  simp
theorem execComparatorTestDue_view (m : Nat) (string s) (t : State) (hm : m &&& 201981952 = 201981952) (h : execComparatorTestDue string s = .next t) :
    view m t = view m s := by
  apply view_up hm
  unfold execComparatorTestDue at h
  cases h
  simp
theorem execStringOpen_view (m : Nat) (x0 x1 x2) (t : State) (hm : m &&& 202256384 = 202256384) (h : execStringOpen x0 x1 x2 = .next t) :
    view m t = view m x2 := by
  apply view_up hm
  unfold execStringOpen at h
  cases h
  simp
theorem execOpenCurrentLow_view (m : Nat) (string s) (t : State) (hm : m &&& 234881020 = 234881020) (h : execOpenCurrentLow string s = .next t) :
    view m t = view m s := by
  apply view_up hm
  unfold execOpenCurrentLow at h
  cases h
  split <;> simp
theorem execWeldCheck_view (m : Nat) (string s) (t : State) (hm : m &&& 202252288 = 202252288) (h : execWeldCheck string s = .next t) :
    view m t = view m s := by
  apply view_up hm
  unfold execWeldCheck at h
  cases h
  (repeat' (first | (simp (maxDischargeDepth := 6); done) | split | (dsimp only; split) | (simp (maxDischargeDepth := 6); split)))
theorem execStringClose_view (m : Nat) (x0 x1 x2) (t : State) (hm : m &&& 201728000 = 201728000) (h : execStringClose x0 x1 x2 = .next t) :
    view m t = view m x2 := by
  apply view_up hm
  unfold execStringClose at h
  cases h
  simp
theorem execComparatorProof_view (m : Nat) (string failed s) (t : State) (hm : m &&& 206446592 = 206446592) (h : execComparatorProof string failed s = .next t) :
    view m t = view m s := by
  apply view_up hm
  unfold execComparatorProof at h
  cases h
  split <;> simp
theorem execKNegSettled_view (m : Nat) (string rd s) (t : State) (hm : m &&& 202321920 = 202321920) (h : execKNegSettled string rd s = .next t) :
    view m t = view m s := by
  apply view_up hm
  unfold execKNegSettled at h
  cases h
  split <;> simp
theorem execPrechargeReached_view (m : Nat) (string s) (t : State) (hm : m &&& 8192 = 8192) (h : execPrechargeReached string s = .next t) :
    view m t = view m s := by
  apply view_up hm
  unfold execPrechargeReached at h
  cases h
  split <;> simp
theorem execPrechargeFail_view (m : Nat) (string s) (t : State) (hm : m &&& 202252288 = 202252288) (h : execPrechargeFail string s = .next t) :
    view m t = view m s := by
  apply view_up hm
  unfold execPrechargeFail at h
  cases h
  split <;> simp
theorem execKPosSettled_view (m : Nat) (string rd s) (t : State) (hm : m &&& 202321920 = 202321920) (h : execKPosSettled string rd s = .next t) :
    view m t = view m s := by
  apply view_up hm
  unfold execKPosSettled at h
  cases h
  split <;> simp
theorem execProtReset_view (m : Nat) (x0 x1 x2 x3) (t : State) (hm : m &&& 202252288 = 202252288) (h : execProtReset x0 x1 x2 x3 = .next t) :
    view m t = view m x3 := by
  apply view_up hm
  unfold execProtReset at h
  cases h
  simp
theorem execCoilSupply_view (m : Nat) (mv s) (t : State) (hm : m &&& 201998336 = 201998336) (h : execCoilSupply mv s = .next t) :
    view m t = view m s := by
  apply view_up hm
  unfold execCoilSupply at h
  cases h
  simp

/-! ### FrameUpdate -/

theorem execFrameClose_view (m : Nat) (evaluated s) (t : State) (hm : m &&& 202318240 = 202318240) (h : execFrameClose evaluated s = .next t) :
    view m t = view m s := by
  apply view_up hm
  unfold execFrameClose at h
  cases h
  (repeat' (first | (simp (maxDischargeDepth := 6); done) | split | (dsimp only; split) | (simp (maxDischargeDepth := 6); split)))
theorem execFrameUpdate_view (m : Nat) (s) (t : State) (hm : m &&& 202319268 = 202319268) (h : execFrameUpdate s = .next t) :
    view m t = view m s := by
  apply view_up hm
  unfold execFrameUpdate at h
  cases h
  simp

/-! ### Can -/

theorem execCanFrame_view (m : Nat) (bus f s) (t : State) (hm : m &&& 202310784 = 202310784) (h : execCanFrame bus f s = .next t) :
    view m t = view m s := by
  apply view_up hm
  unfold execCanFrame at h
  cases h
  (repeat' split) <;> simp
theorem execRateDwellExpiry_view (m : Nat) (bus s) (t : State) (hm : m &&& 65536 = 65536) (h : execRateDwellExpiry bus s = .next t) :
    view m t = view m s := by
  apply view_up hm
  unfold execRateDwellExpiry at h
  cases h
  simp
theorem execRateSilentExpiry_view (m : Nat) (bus s) (t : State) (hm : m &&& 202047488 = 202047488) (h : execRateSilentExpiry bus s = .next t) :
    view m t = view m s := by
  apply view_up hm
  unfold execRateSilentExpiry at h
  cases h
  simp
theorem execBasicCycleStart_view (m : Nat) (bus s) (t : State) (hm : m &&& 204144640 = 204144640) (h : execBasicCycleStart bus s = .next t) :
    view m t = view m s := by
  apply view_up hm
  unfold execBasicCycleStart at h
  cases h
  simp
theorem execCanWindowStart_view (m : Nat) (bus window leftNs s) (t : State) (hm : m &&& 202048512 = 202048512) (h : execCanWindowStart bus window leftNs s = .next t) :
    view m t = view m s := by
  apply view_up hm
  unfold execCanWindowStart at h
  cases h
  (repeat' (first | (simp (maxDischargeDepth := 6); done) | split | (dsimp only; split) | (simp (maxDischargeDepth := 6); split)))
theorem execCanTxDone_view (m : Nat) (bus result s) (t : State) (hm : m &&& 202310656 = 202310656) (h : execCanTxDone bus result s = .next t) :
    view m t = view m s := by
  apply view_up hm
  unfold execCanTxDone at h
  cases h
  (repeat' split) <;> simp
theorem execCanBusOff_view (m : Nat) (bus s) (t : State) (hm : m &&& 202309632 = 202309632) (h : execCanBusOff bus s = .next t) :
    view m t = view m s := by
  apply view_up hm
  unfold execCanBusOff at h
  cases h
  (repeat' (first | (simp (maxDischargeDepth := 6); done) | split | (dsimp only; split) | (simp (maxDischargeDepth := 6); split)))
theorem execBusOffRecovery_view (m : Nat) (bus s) (t : State) (hm : m &&& 202048512 = 202048512) (h : execBusOffRecovery bus s = .next t) :
    view m t = view m s := by
  apply view_up hm
  unfold execBusOffRecovery at h
  cases h
  simp
theorem execCanPost_view (m : Nat) (x0 x1 x2 x3 x4 x5 x6 x7) (t : State) (hm : m &&& 201786368 = 201786368) (h : execCanPost x0 x1 x2 x3 x4 x5 x6 x7 = .next t) :
    view m t = view m x7 := by
  apply view_up hm
  unfold execCanPost at h
  cases h
  split
  · rfl
  split
  · simp
  split
  · simp
  split
  · have e : view 201786368 (newHandle x7).2 = view 201786368 x7 := by simp
    generalize newHandle x7 = q at e ⊢
    obtain ⟨id, s1⟩ := q
    dsimp only at e ⊢
    rw [respondOk_view _ _ _ _ _ (by decide)]
    split
    · simp [e]
    · rw [modBus_view _ _ _ _ (by decide)]
      split <;> simp [e]
  · simp
theorem execCanCancel_view (m : Nat) (x0 x1 x2) (t : State) (hm : m &&& 67567616 = 67567616) (h : execCanCancel x0 x1 x2 = .next t) :
    view m t = view m x2 := by
  apply view_up hm
  unfold execCanCancel at h
  cases h
  (repeat' (first | (simp (maxDischargeDepth := 6); done) | split | (dsimp only; split) | (simp (maxDischargeDepth := 6); split)))

/-! ### Tick -/

theorem execTickTrigger_view (m : Nat) (x0 x1) (t : State) (hm : m &&& 208662012 = 208662012) (h : execTickTrigger x0 x1 = .next t) :
    view m t = view m x1 := by
  apply view_up hm
  unfold execTickTrigger at h
  cases h
  simp
theorem execAngleSourceTick_view (m : Nat) (x0 x1) (t : State) (hm : m &&& 208662012 = 208662012) (h : execAngleSourceTick x0 x1 = .next t) :
    view m t = view m x1 := by
  apply view_up hm
  unfold execAngleSourceTick at h
  cases h
  simp

/-! ### Pair -/

theorem execHeartbeatAnswer_view (m : Nat) (answer elapsedUs s) (t : State) (hm : m &&& 202039296 = 202039296) (h : execHeartbeatAnswer answer elapsedUs s = .next t) :
    view m t = view m s := by
  apply view_up hm
  unfold execHeartbeatAnswer at h
  cases h
  simp
theorem execHeartbeatLate_view (m : Nat) (s) (t : State) (hm : m &&& 202039296 = 202039296) (h : execHeartbeatLate s = .next t) :
    view m t = view m s := by
  apply view_up hm
  unfold execHeartbeatLate at h
  cases h
  simp
theorem execPartnerReadyChange_view (m : Nat) (ready s) (t : State) (hm : m &&& 202039296 = 202039296) (h : execPartnerReadyChange ready s = .next t) :
    view m t = view m s := by
  apply view_up hm
  unfold execPartnerReadyChange at h
  cases h
  simp
theorem execOwnershipLineFree_view (m : Nat) (s) (t : State) (hm : m &&& 202039296 = 202039296) (h : execOwnershipLineFree s = .next t) :
    view m t = view m s := by
  apply view_up hm
  unfold execOwnershipLineFree at h
  cases h
  simp
theorem execOwnerQualified_view (m : Nat) (s) (t : State) (hm : m &&& 202104836 = 202104836) (h : execOwnerQualified s = .next t) :
    view m t = view m s := by
  apply view_up hm
  unfold execOwnerQualified at h
  cases h
  simp
theorem execReleaseOverlapEnd_view (m : Nat) (s) (t : State) (hm : m &&& 24576 = 24576) (h : execReleaseOverlapEnd s = .next t) :
    view m t = view m s := by
  apply view_up hm
  unfold execReleaseOverlapEnd at h
  cases h
  simp
theorem execReleaseRetake_view (m : Nat) (s) (t : State) (hm : m &&& 202301440 = 202301440) (h : execReleaseRetake s = .next t) :
    view m t = view m s := by
  apply view_up hm
  unfold execReleaseRetake at h
  cases h
  (repeat' split) <;> simp
theorem execOwnershipLineAsserted_view (m : Nat) (line s) (t : State) (hm : m &&& 202293252 = 202293252) (h : execOwnershipLineAsserted line s = .next t) :
    view m t = view m s := by
  apply view_up hm
  unfold execOwnershipLineAsserted at h
  cases h
  simp
theorem execHoldExpiry_view (m : Nat) (s) (t : State) (hm : m &&& 202301440 = 202301440) (h : execHoldExpiry s = .next t) :
    view m t = view m s := by
  apply view_up hm
  unfold execHoldExpiry at h
  cases h
  simp
theorem execHoldAck_view (m : Nat) (s) (t : State) (hm : m &&& 202039296 = 202039296) (h : execHoldAck s = .next t) :
    view m t = view m s := by
  apply view_up hm
  unfold execHoldAck at h
  cases h
  simp
theorem execHoldDrop_view (m : Nat) (string s) (t : State) (hm : m &&& 8192 = 8192) (h : execHoldDrop string s = .next t) :
    view m t = view m s := by
  apply view_up hm
  unfold execHoldDrop at h
  cases h
  simp
theorem execHandover_view (m : Nat) (x0 x1) (t : State) (hm : m &&& 202276864 = 202276864) (h : execHandover x0 x1 = .next t) :
    view m t = view m x1 := by
  apply view_up hm
  unfold execHandover at h
  cases h
  simp
theorem execOrderlyRelease_view (m : Nat) (s) (t : State) (hm : m &&& 234881020 = 234881020) (h : execOrderlyRelease s = .next t) :
    view m t = view m s := by
  apply view_up hm
  unfold execOrderlyRelease at h
  cases h
  split <;> simp
theorem execSelfRelease_view (m : Nat) (finding string s) (t : State) (hm : m &&& 202374068 = 202374068) (h : execSelfRelease finding string s = .next t) :
    view m t = view m s := by
  apply view_up hm
  unfold execSelfRelease at h
  cases h
  simp
theorem execEjectorOpen_view (m : Nat) (s) (t : State) (hm : m &&& 202014720 = 202014720) (h : execEjectorOpen s = .next t) :
    view m t = view m s := by
  apply view_up hm
  unfold execEjectorOpen at h
  cases h
  simp
theorem execPartnerPresence_view (m : Nat) (present s) (t : State) (hm : m &&& 202014720 = 202014720) (h : execPartnerPresence present s = .next t) :
    view m t = view m s := by
  apply view_up hm
  unfold execPartnerPresence at h
  cases h
  simp
theorem execIsolate_view (m : Nat) (x0 x1) (t : State) (hm : m &&& 202374068 = 202374068) (h : execIsolate x0 x1 = .next t) :
    view m t = view m x1 := by
  apply view_up hm
  unfold execIsolate at h
  cases h
  simp
theorem execRejoin_view (m : Nat) (x0 x1) (t : State) (hm : m &&& 202301444 = 202301444) (h : execRejoin x0 x1 = .next t) :
    view m t = view m x1 := by
  apply view_up hm
  unfold execRejoin at h
  cases h
  simp
theorem execPeerStatusSend_view (m : Nat) (s) (t : State) (hm : m &&& 67108864 = 67108864) (h : execPeerStatusSend s = .next t) :
    view m t = view m s := by
  apply view_up hm
  unfold execPeerStatusSend at h
  cases h
  simp
theorem execPeerStatus_view (m : Nat) (f s) (t : State) (hm : m &&& 202374068 = 202374068) (h : execPeerStatus f s = .next t) :
    view m t = view m s := by
  apply view_up hm
  unfold execPeerStatus at h
  cases h
  simp
theorem execPeerLinkDown_view (m : Nat) (s) (t : State) (hm : m &&& 202022912 = 202022912) (h : execPeerLinkDown s = .next t) :
    view m t = view m s := by
  apply view_up hm
  unfold execPeerLinkDown at h
  cases h
  simp
theorem execPairParamMismatch_view (m : Nat) (s) (t : State) (hm : m &&& 202014720 = 202014720) (h : execPairParamMismatch s = .next t) :
    view m t = view m s := by
  apply view_up hm
  unfold execPairParamMismatch at h
  cases h
  split <;> simp
theorem execStateRec_view (m : Nat) (f s) (t : State) (hm : m &&& 557824 = 557824) (h : execStateRec f s = .next t) :
    view m t = view m s := by
  apply view_up hm
  unfold execStateRec at h
  cases h
  simp
theorem execUnitTable_view (m : Nat) (f s) (t : State) (hm : m &&& 32800 = 32800) (h : execUnitTable f s = .next t) :
    view m t = view m s := by
  apply view_up hm
  unfold execUnitTable at h
  cases h
  simp
theorem execHopComp_view (m : Nat) (f s) (t : State) (hm : m &&& 32784 = 32784) (h : execHopComp f s = .next t) : view m t = view m s := by
  apply view_up hm
  unfold execHopComp at h
  cases h
  simp
theorem execHoldState_view (m : Nat) (f s) (t : State) (hm : m &&& 36864 = 36864) (h : execHoldState f s = .next t) :
    view m t = view m s := by
  apply view_up hm
  unfold execHoldState at h
  cases h
  simp
theorem execRelease_view (m : Nat) (f s) (t : State) (hm : m &&& 32768 = 32768) (h : execRelease f s = .next t) : view m t = view m s := by
  apply view_up hm
  unfold execRelease at h
  cases h
  simp
theorem execPeerEchoReq_view (m : Nat) (f inWaymark s) (t : State) (hm : m &&& 67141632 = 67141632) (h : execPeerEchoReq f inWaymark s = .next t) :
    view m t = view m s := by
  apply view_up hm
  unfold execPeerEchoReq at h
  cases h
  simp
theorem execPeerEchoRep_view (m : Nat) (f rtt s) (t : State) (hm : m &&& 67141648 = 67141648) (h : execPeerEchoRep f rtt s = .next t) :
    view m t = view m s := by
  apply view_up hm
  unfold execPeerEchoRep at h
  cases h
  simp
theorem execTakeover_view (m : Nat) (s) (t : State) (hm : m &&& 202111412 = 202111412) (h : execTakeover s = .next t) :
    view m t = view m s := by
  apply view_up hm
  unfold execTakeover at h
  cases h
  split
  · rfl
  extract_lets cause q1 s1 s2 q2 s3 s4 q3 s5 t0
  have h1 : view 202111412 s1 = view 202111412 s := by simp only [s1, q1]; simp
  clear_value s1
  have h2 : view 202111412 s2 = view 202111412 s1 := by simp [s2]
  clear_value s2
  have h3 : view 202111412 s3 = view 202111412 s2 := by simp only [s3, q2]; simp
  clear_value s3
  have h4 : view 202111412 s4 = view 202111412 s3 := by simp [s4]
  clear_value s4
  have h5 : view 202111412 s5 = view 202111412 s4 := by simp only [s5, q3]; simp
  clear_value s5
  simp [h1, h2, h3, h4, h5]

/-! ### HostPort -/

theorem execLatchedLoRead_view (m : Nat) (port offset s) (t : State) (hm : m &&& 393216 = 393216) (h : execLatchedLoRead port offset s = .next t) :
    view m t = view m s := by
  apply view_up hm
  unfold execLatchedLoRead at h
  cases h
  (repeat' split) <;> simp
theorem execPerst_view (m : Nat) (port cause s) (t : State) (hm : m &&& 214827264 = 214827264) (h : execPerst port cause s = .next t) :
    view m t = view m s := by
  apply view_up hm
  unfold execPerst at h
  cases h
  simp
theorem execHostLinkDown_view (m : Nat) (port cause s) (t : State) (hm : m &&& 214827264 = 214827264) (h : execHostLinkDown port cause s = .next t) :
    view m t = view m s := by
  apply view_up hm
  unfold execHostLinkDown at h
  cases h
  simp
theorem execHostLinkUp_view (m : Nat) (port speed wide s) (t : State) (hm : m &&& 202244096 = 202244096) (h : execHostLinkUp port speed wide s = .next t) :
    view m t = view m s := by
  apply view_up hm
  unfold execHostLinkUp at h
  cases h
  simp
theorem execPcieError_view (m : Nat) (port status uncorrectable s) (t : State) (hm : m &&& 201981952 = 201981952) (h : execPcieError port status uncorrectable s = .next t) :
    view m t = view m s := by
  apply view_up hm
  unfold execPcieError at h
  cases h
  simp
theorem execMbxDoorbell_view (m : Nat) (port ring w entries s) (t : State) (hm : m &&& 67502080 = 67502080) (h : execMbxDoorbell port ring w entries s = .next t) :
    view m t = view m s := by
  apply view_up hm
  unfold execMbxDoorbell at h
  cases h
  simp
theorem execCommandTimeout_view (m : Nat) (x0 x1 x2) (t : State) (hm : m &&& 202244096 = 202244096) (h : execCommandTimeout x0 x1 x2 = .next t) :
    view m t = view m x2 := by
  apply view_up hm
  unfold execCommandTimeout at h
  cases h
  simp
theorem execLongDone_view (m : Nat) (id s) (t : State) (hm : m &&& 202244096 = 202244096) (h : execLongDone id s = .next t) :
    view m t = view m s := by
  apply view_up hm
  unfold execLongDone at h
  cases h
  split <;> simp
theorem execLongResultExpiry_view (m : Nat) (id s) (t : State) (hm : m &&& 262144 = 262144) (h : execLongResultExpiry id s = .next t) :
    view m t = view m s := by
  apply view_up hm
  unfold execLongResultExpiry at h
  cases h
  split <;> rfl
theorem execNop_view (m : Nat) (x0 x1) (t : State) (hm : m &&& 67502080 = 67502080) (h : execNop x0 x1 = .next t) :
    view m t = view m x1 := by
  apply view_up hm
  unfold execNop at h
  cases h
  simp
theorem execIdentify_view (m : Nat) (x0 x1) (t : State) (hm : m &&& 67502080 = 67502080) (h : execIdentify x0 x1 = .next t) :
    view m t = view m x1 := by
  apply view_up hm
  unfold execIdentify at h
  cases h
  simp
theorem execLongQuery_view (m : Nat) (x0 x1 x2) (t : State) (hm : m &&& 67502080 = 67502080) (h : execLongQuery x0 x1 x2 = .next t) :
    view m t = view m x2 := by
  apply view_up hm
  unfold execLongQuery at h
  cases h
  (repeat' split) <;> simp
theorem execStreamOpen_view (m : Nat) (x0 x1 x2 x3 x4 x5) (t : State) (hm : m &&& 67502080 = 67502080) (h : execStreamOpen x0 x1 x2 x3 x4 x5 = .next t) :
    view m t = view m x5 := by
  apply view_up hm
  unfold execStreamOpen at h
  cases h
  (repeat' split) <;> simp
theorem execStreamClose_view (m : Nat) (x0 x1 x2) (t : State) (hm : m &&& 67502336 = 67502336) (h : execStreamClose x0 x1 x2 = .next t) :
    view m t = view m x2 := by
  apply view_up hm
  unfold execStreamClose at h
  cases h
  simp
theorem execStrmTailWrite_view (m : Nat) (port stream w s) (t : State) (hm : m &&& 67502080 = 67502080) (h : execStrmTailWrite port stream w s = .next t) :
    view m t = view m s := by
  apply view_up hm
  unfold execStrmTailWrite at h
  cases h
  simp
theorem execDescriptorFetchDone_view (m : Nat) (port stream d s) (t : State) (hm : m &&& 202244096 = 202244096) (h : execDescriptorFetchDone port stream d s = .next t) :
    view m t = view m s := by
  apply view_up hm
  unfold execDescriptorFetchDone at h
  cases h
  simp
theorem execDescriptorFetchFail_view (m : Nat) (port stream addr s) (t : State) (hm : m &&& 202244096 = 202244096) (h : execDescriptorFetchFail port stream addr s = .next t) :
    view m t = view m s := by
  apply view_up hm
  unfold execDescriptorFetchFail at h
  cases h
  (repeat' split) <;> simp
theorem execDescStarved_view (m : Nat) (port stream s) (t : State) (hm : m &&& 202244096 = 202244096) (h : execDescStarved port stream s = .next t) :
    view m t = view m s := by
  apply view_up hm
  unfold execDescStarved at h
  cases h
  (repeat' (first | (simp (maxDischargeDepth := 6); done) | split | (dsimp only; split) | (simp (maxDischargeDepth := 6); split)))
theorem execBufferWriteDone_view (m : Nat) (port stream s) (t : State) (hm : m &&& 67502336 = 67502336) (h : execBufferWriteDone port stream s = .next t) :
    view m t = view m s := by
  apply view_up hm
  unfold execBufferWriteDone at h
  cases h
  (repeat' split) <;> simp
theorem execCanrxFlush_view (m : Nat) (port s) (t : State) (hm : m &&& 67502080 = 67502080) (h : execCanrxFlush port s = .next t) :
    view m t = view m s := by
  apply view_up hm
  unfold execCanrxFlush at h
  cases h
  split <;> simp
theorem execCapture_view (m : Nat) (x0 x1 x2) (t : State) (hm : m &&& 202244096 = 202244096) (h : execCapture x0 x1 x2 = .next t) :
    view m t = view m x2 := by
  apply view_up hm
  unfold execCapture at h
  cases h
  (repeat' (first | (simp (maxDischargeDepth := 6); done) | split | (dsimp only; split) | (simp (maxDischargeDepth := 6); split)))
theorem execCaptureTrigger_view (m : Nat) (port s) (t : State) (hm : m &&& 202244096 = 202244096) (h : execCaptureTrigger port s = .next t) :
    view m t = view m s := by
  apply view_up hm
  unfold execCaptureTrigger at h
  cases h
  (repeat' split) <;> simp
theorem execHostReadDeferred_view (m : Nat) (port stream delayMs s) (t : State) (hm : m &&& 201981952 = 201981952) (h : execHostReadDeferred port stream delayMs s = .next t) :
    view m t = view m s := by
  apply view_up hm
  unfold execHostReadDeferred at h
  cases h
  simp
theorem execRegisterWrite_view (m : Nat) (port offset w s) (t : State) (hm : m &&& 80731624 = 80731624) (h : execRegisterWrite port offset w s = .next t) :
    view m t = view m s := by
  apply view_up hm
  unfold execRegisterWrite at h
  cases h
  simp
theorem execEvMaskWrite_view (m : Nat) (port group w s) (t : State) (hm : m &&& 67502080 = 67502080) (h : execEvMaskWrite port group w s = .next t) :
    view m t = view m s := by
  apply view_up hm
  unfold execEvMaskWrite at h
  cases h
  simp

/-! ### Events -/

theorem execLedgerRecordWrite_view (m : Nat) (first second s) (t : State) (hm : m &&& 203030528 = 203030528) (h : execLedgerRecordWrite first second s = .next t) :
    view m t = view m s := by
  apply view_up hm
  unfold execLedgerRecordWrite at h
  cases h
  (repeat' (first | (simp (maxDischargeDepth := 6); done) | split | (dsimp only; split) | (simp (maxDischargeDepth := 6); split)))
theorem execEvLast_view (m : Nat) (x0 x1 x2) (t : State) (hm : m &&& 201719808 = 201719808) (h : execEvLast x0 x1 x2 = .next t) :
    view m t = view m x2 := by
  apply view_up hm
  unfold execEvLast at h
  cases h
  (repeat' split) <;> simp
theorem execLedgerRead_view (m : Nat) (x0 x1 x2 x3) (t : State) (hm : m &&& 67502080 = 67502080) (h : execLedgerRead x0 x1 x2 x3 = .next t) :
    view m t = view m x3 := by
  apply view_up hm
  unfold execLedgerRead at h
  cases h
  simp
theorem execLedgerExport_view (m : Nat) (x0 x1 x2 x3) (t : State) (hm : m &&& 202244096 = 202244096) (h : execLedgerExport x0 x1 x2 x3 = .next t) :
    view m t = view m x3 := by
  apply view_up hm
  unfold execLedgerExport at h
  cases h
  (repeat' (first | (simp (maxDischargeDepth := 6); done) | split | (dsimp only; split) | (simp (maxDischargeDepth := 6); split)))
theorem execLedgerFreeze_view (m : Nat) (x0 x1 x2) (t : State) (hm : m &&& 203292672 = 203292672) (h : execLedgerFreeze x0 x1 x2 = .next t) :
    view m t = view m x2 := by
  apply view_up hm
  unfold execLedgerFreeze at h
  cases h
  (repeat' split) <;> simp
theorem execLedgerUnfreeze_view (m : Nat) (x0 x1) (t : State) (hm : m &&& 202244096 = 202244096) (h : execLedgerUnfreeze x0 x1 = .next t) :
    view m t = view m x1 := by
  apply view_up hm
  unfold execLedgerUnfreeze at h
  cases h
  (repeat' split) <;> simp
theorem execFreezeExpiry_view (m : Nat) (s) (t : State) (hm : m &&& 201981952 = 201981952) (h : execFreezeExpiry s = .next t) :
    view m t = view m s := by
  apply view_up hm
  unfold execFreezeExpiry at h
  cases h
  split <;> simp
theorem execLedgerClear_view (m : Nat) (x0 x1 x2) (t : State) (hm : m &&& 202244096 = 202244096) (h : execLedgerClear x0 x1 x2 = .next t) :
    view m t = view m x2 := by
  apply view_up hm
  unfold execLedgerClear at h
  cases h
  (repeat' split) <;> simp
theorem execLedgerInfo_view (m : Nat) (x0 x1) (t : State) (hm : m &&& 67502080 = 67502080) (h : execLedgerInfo x0 x1 = .next t) :
    view m t = view m x1 := by
  apply view_up hm
  unfold execLedgerInfo at h
  cases h
  simp
theorem execEvTest_view (m : Nat) (x0 x1 x2) (t : State) (hm : m &&& 202244096 = 202244096) (h : execEvTest x0 x1 x2 = .next t) :
    view m t = view m x2 := by
  apply view_up hm
  unfold execEvTest at h
  cases h
  simp

/-! ### Parameters -/

theorem execPersistenceDone_view (m : Nat) (verified s) (t : State) (hm : m &&& 4194304 = 4194304) (h : execPersistenceDone verified s = .next t) :
    view m t = view m s := by
  apply view_up hm
  unfold execPersistenceDone at h
  cases h
  split <;> simp
theorem execParRead_view (m : Nat) (x0 x1 x2 x3 x4 x5) (t : State) (hm : m &&& 67502080 = 67502080) (h : execParRead x0 x1 x2 x3 x4 x5 = .next t) :
    view m t = view m x5 := by
  apply view_up hm
  unfold execParRead at h
  cases h
  simp
theorem execParWrite_view (m : Nat) (x0 x1 x2) (t : State) (hm : m &&& 71696384 = 71696384) (h : execParWrite x0 x1 x2 = .next t) :
    view m t = view m x2 := by
  apply view_up hm
  unfold execParWrite at h
  cases h
  (repeat' split) <;> simp
theorem execParDiscard_view (m : Nat) (x0 x1) (t : State) (hm : m &&& 71696384 = 71696384) (h : execParDiscard x0 x1 = .next t) :
    view m t = view m x1 := by
  apply view_up hm
  unfold execParDiscard at h
  cases h
  (repeat' split) <;> simp
theorem execCommit_view (m : Nat) (x0 x1) (t : State) (hm : m &&& 208536032 = 208536032) (h : execCommit x0 x1 = .next t) :
    view m t = view m x1 := by
  apply view_up hm
  unfold execCommit at h
  cases h
  (repeat' (first | (simp (maxDischargeDepth := 6); done) | split | (dsimp only; split) | (simp (maxDischargeDepth := 6); split)))
theorem execSafetyScan_view (m : Nat) (s) (t : State) (hm : m &&& 208665524 = 208665524) (h : execSafetyScan s = .next t) :
    view m t = view m s := by
  apply view_up hm
  unfold execSafetyScan at h
  cases h
  (repeat' split) <;> simp

/-! ### Update -/

theorem execUpdOpen_view (m : Nat) (x0 x1 x2 x3 x4 x5 x6) (t : State) (hm : m &&& 229507072 = 229507072) (h : execUpdOpen x0 x1 x2 x3 x4 x5 x6 = .next t) :
    view m t = view m x6 := by
  apply view_up hm
  unfold execUpdOpen at h
  cases h
  split
  · rfl
  dsimp only
  split
  · simp
  split
  · simp
  split
  · simp
  have e : view 229507072 (acceptLong x6 x0 0x0120).2 = view 229507072 x6 := by simp
  generalize acceptLong x6 x0 0x0120 = q at e ⊢
  obtain ⟨id, s1⟩ := q
  dsimp only at e ⊢
  simp [e]
theorem execUpdClose_view (m : Nat) (x0 x1) (t : State) (hm : m &&& 210632704 = 210632704) (h : execUpdClose x0 x1 = .next t) :
    view m t = view m x1 := by
  apply view_up hm
  unfold execUpdClose at h
  cases h
  (repeat' split) <;> simp
theorem execUpdBlock_view (m : Nat) (x0 x1 x2 x3 x4 x5) (t : State) (hm : m &&& 227409920 = 227409920) (h : execUpdBlock x0 x1 x2 x3 x4 x5 = .next t) :
    view m t = view m x5 := by
  apply view_up hm
  unfold execUpdBlock at h
  cases h
  (repeat' (first | (simp (maxDischargeDepth := 6); done) | split | (dsimp only; split) | (simp (maxDischargeDepth := 6); split)))
theorem execUpdVerify_view (m : Nat) (x0 x1) (t : State) (hm : m &&& 210632832 = 210632832) (h : execUpdVerify x0 x1 = .next t) :
    view m t = view m x1 := by
  apply view_up hm
  unfold execUpdVerify at h
  cases h
  (repeat' split) <;> simp
theorem execUpdSchedule_view (m : Nat) (x0 x1 x2) (t : State) (hm : m &&& 210632704 = 210632704) (h : execUpdSchedule x0 x1 x2 = .next t) :
    view m t = view m x2 := by
  apply view_up hm
  unfold execUpdSchedule at h
  cases h
  simp
theorem execUpdCancel_view (m : Nat) (x0 x1 x2) (t : State) (hm : m &&& 210632704 = 210632704) (h : execUpdCancel x0 x1 x2 = .next t) :
    view m t = view m x2 := by
  apply view_up hm
  unfold execUpdCancel at h
  cases h
  (repeat' split) <;> simp
theorem execActivation_view (m : Nat) (s) (t : State) (hm : m &&& 234881020 = 234881020) (h : execActivation s = .next t) :
    view m t = view m s := by
  apply view_up hm
  unfold execActivation at h
  cases h
  simp
theorem execConfirmWindowExpiry_view (m : Nat) (s) (t : State) (hm : m &&& 234881020 = 234881020) (h : execConfirmWindowExpiry s = .next t) :
    view m t = view m s := by
  apply view_up hm
  unfold execConfirmWindowExpiry at h
  cases h
  simp
theorem execActivationOpenTimeout_view (m : Nat) (s) (t : State) (hm : m &&& 167772156 = 167772156) (h : execActivationOpenTimeout s = .next t) :
    view m t = view m s := by
  apply view_up hm
  unfold execActivationOpenTimeout at h
  cases h
  simp
theorem execUpdConfirm_view (m : Nat) (x0 x1 x2) (t : State) (hm : m &&& 210632704 = 210632704) (h : execUpdConfirm x0 x1 x2 = .next t) :
    view m t = view m x2 := by
  apply view_up hm
  unfold execUpdConfirm at h
  cases h
  (repeat' split) <;> simp
theorem execUpdInfo_view (m : Nat) (x0 x1) (t : State) (hm : m &&& 67502080 = 67502080) (h : execUpdInfo x0 x1 = .next t) :
    view m t = view m x1 := by
  apply view_up hm
  unfold execUpdInfo at h
  cases h
  simp

/-! ### Boot -/

theorem execFirmwareBoot_view (m : Nat) (selfTest s) (t : State) (hm : m &&& 234881020 = 234881020) (h : execFirmwareBoot selfTest s = .next t) :
    view m t = view m s := by
  apply view_up hm
  unfold execFirmwareBoot at h
  cases h
  (repeat' split) <;> simp
theorem execLedgerScan_view (m : Nat) (s) (t : State) (hm : m &&& 203030548 = 203030548) (h : execLedgerScan s = .next t) :
    view m t = view m s := by
  apply view_up hm
  unfold execLedgerScan at h
  cases h
  simp
theorem execOwnershipArbitration_view (m : Nat) (s) (t : State) (hm : m &&& 202374068 = 202374068) (h : execOwnershipArbitration s = .next t) :
    view m t = view m s := by
  apply view_up hm
  unfold execOwnershipArbitration at h
  cases h
  (repeat' (first | (simp (maxDischargeDepth := 6); done) | split | (dsimp only; split)))
theorem execDualActiveResolved_view (m : Nat) (s) (t : State) (hm : m &&& 202374064 = 202374064) (h : execDualActiveResolved s = .next t) :
    view m t = view m s := by
  apply view_up hm
  unfold execDualActiveResolved at h
  cases h
  simp
theorem execStateRecordRestoreTimeout_view (m : Nat) (s) (t : State) (hm : m &&& 260 = 260) (h : execStateRecordRestoreTimeout s = .next t) :
    view m t = view m s := by
  apply view_up hm
  unfold execStateRecordRestoreTimeout at h
  cases h
  simp
theorem execJoinDispatch_view (m : Nat) (s) (t : State) (hm : m &&& 201986052 = 201986052) (h : execJoinDispatch s = .next t) :
    view m t = view m s := by
  apply view_up hm
  unfold execJoinDispatch at h
  cases h
  simp

end Sys2Proof.Laws
end

