-- ==== Sys2Proof/Laws/Locality.lean ====
section
/-! SUPPORT. What the operations on one string, ring or bus leave of the other: everything. -/

namespace Sys2Proof.Laws

open Sys2Proof Sys2Proof.Machine

set_option linter.unusedTactic false
set_option linter.unusedSimpArgs false
set_option linter.unreachableTactic false

@[simp] theorem foldl_prot_other {α : Type} {y : Ix} (f : State → α → State) (h : ∀ s a, (f s a).prot.get y = s.prot.get y) (l : List α) (s : State) :
    (l.foldl f s).prot.get y = s.prot.get y := by
  induction l generalizing s with
  | nil => rfl
  | cons a l ih => rw [List.foldl_cons, ih, h]
@[simp] theorem foldl_ring_other {α : Type} {y : Ix} (f : State → α → State) (h : ∀ s a, (f s a).ring.get y = s.ring.get y) (l : List α) (s : State) :
    (l.foldl f s).ring.get y = s.ring.get y := by
  induction l generalizing s with
  | nil => rfl
  | cons a l ih => rw [List.foldl_cons, ih, h]
@[simp] theorem foldl_bus_other {α : Type} {y : Ix} (f : State → α → State) (h : ∀ s a, (f s a).can.bus.get y = s.can.bus.get y) (l : List α) (s : State) :
    (l.foldl f s).can.bus.get y = s.can.bus.get y := by
  induction l generalizing s with
  | nil => rfl
  | cons a l ih => rw [List.foldl_cons, ih, h]
@[simp] theorem modify_other {α : Type} (t : Two α) (f : α → α) {i j : Ix} (h : j ≠ i) : (t.modify i f).get j = t.get j :=
  two_get_modify_other t f h
@[simp] theorem set_other {α : Type} (t : Two α) (a : α) {i j : Ix} (h : j ≠ i) : (t.set i a).get j = t.get j :=
  two_get_set_other t a h
@[simp] theorem raiseOrDefer_prot (s : State) (e : Nat) (d : List Byte) : (raiseOrDefer s e d).prot = s.prot := by
  unfold raiseOrDefer
  split <;> simp [takeFree]
@[simp] theorem modProt_other (s : State) (x : Ix) (f : ProtState → ProtState) {y : Ix} (h : y ≠ x) :
    (modProt s x f).prot.get y = s.prot.get y := two_get_modify_other _ _ h
@[simp] theorem modCar_other (s : State) (x : Ix) (f : RingState → RingState) {y : Ix} (h : y ≠ x) :
    (modCar s x f).ring.get y = s.ring.get y := two_get_modify_other _ _ h
@[simp] theorem modBus_other (s : State) (x : Ix) (f : CanBus → CanBus) {y : Ix} (h : y ≠ x) :
    (modBus s x f).can.bus.get y = s.can.bus.get y := two_get_modify_other _ _ h

@[simp] theorem modPcs_bus (s : State) (x : Ix) (f) : (modPcs s x f).can.bus = s.can.bus := rfl

@[simp] theorem endReenums_ring (s : State) : (endReenums s).ring = s.ring := same_ring (m := 262144) (by simp) (by decide)

@[simp] theorem nextSeq_other (s : State) (r : Ix) {y : Ix} (h : y ≠ r) : (nextSeq s r).2.ring.get y = s.ring.get y :=
  two_get_modify_other _ _ h
@[simp] theorem showEvent_ring (s : State) (e k : Nat) (b : Bool) (d : Bool → List Byte) : (showEvent s e k b d).ring = s.ring := by
  unfold showEvent
  dsimp only
  (repeat' (first | (simp; done) | split))
@[simp] theorem ite_prot_other {c : Prop} [Decidable c] {a b s : State} {y : Ix} (ha : a.prot.get y = s.prot.get y) (hb : b.prot.get y = s.prot.get y) :
    (if c then a else b).prot.get y = s.prot.get y := by split <;> assumption
@[simp] theorem ite_ring_other {c : Prop} [Decidable c] {a b s : State} {y : Ix} (ha : a.ring.get y = s.ring.get y) (hb : b.ring.get y = s.ring.get y) :
    (if c then a else b).ring.get y = s.ring.get y := by split <;> assumption
@[simp] theorem ite_bus_other {c : Prop} [Decidable c] {a b s : State} {y : Ix} (ha : a.can.bus.get y = s.can.bus.get y)
    (hb : b.can.bus.get y = s.can.bus.get y) : (if c then a else b).can.bus.get y = s.can.bus.get y := by split <;> assumption

@[simp] theorem answerLate_can (s : State) (m : CanMsg) (ok : Bool) : (answerLate s m ok).can = s.can := by
  unfold answerLate
  split <;> simp

@[simp] theorem settleString_other (s : State) (x : Ix) {y : Ix} (h : y ≠ x) : (settleString s x).prot.get y = s.prot.get y := by
  unfold settleString
  (repeat' (first | (simp (maxDischargeDepth := 6) [h]; done) | split | (dsimp only; split) | (simp (maxDischargeDepth := 6) [h]; split)))
@[simp] theorem setReq_other (s : State) (x : Ix) (c : Coil) (hs : Bool) (ls : Bool) {y : Ix} (h : y ≠ x) :
    (setReq s x c hs ls).prot.get y = s.prot.get y := by
  unfold setReq
  (repeat' (first | (simp (maxDischargeDepth := 6) [h]; done) | split | (dsimp only; split) | (simp (maxDischargeDepth := 6) [h]; split)))
@[simp] theorem dropReqs_other (s : State) (x : Ix) {y : Ix} (h : y ≠ x) : (dropReqs s x).prot.get y = s.prot.get y := by
  unfold dropReqs
  (repeat' (first | (simp (maxDischargeDepth := 6) [h]; done) | split | (dsimp only; split) | (simp (maxDischargeDepth := 6) [h]; split)))
@[simp] theorem dropHoldBits_other (s : State) (x : Ix) {y : Ix} (h : y ≠ x) : (dropHoldBits s x).prot.get y = s.prot.get y := by
  unfold dropHoldBits
  (repeat' (first | (simp (maxDischargeDepth := 6) [h]; done) | split | (dsimp only; split) | (simp (maxDischargeDepth := 6) [h]; split)))
@[simp] theorem setStrState_other (s : State) (x : Ix) (st : StrState) (cause : Nat) {y : Ix} (h : y ≠ x) :
    (setStrState s x st cause).prot.get y = s.prot.get y := by
  unfold setStrState
  (repeat' (first | (simp (maxDischargeDepth := 6) [h]; done) | split | (dsimp only; split) | (simp (maxDischargeDepth := 6) [h]; split)))
@[simp] theorem abortClose_other (s : State) (x : Ix) (cause : Nat) {y : Ix} (h : y ≠ x) :
    (abortClose s x cause).prot.get y = s.prot.get y := by
  unfold abortClose
  (repeat' (first | (simp (maxDischargeDepth := 6) [h]; done) | split | (dsimp only; split) | (simp (maxDischargeDepth := 6) [h]; split)))
@[simp] theorem weldDue_other (s : State) (x : Ix) (ids : List Nat) {y : Ix} (h : y ≠ x) :
    (weldDue s x ids).prot.get y = s.prot.get y := by
  unfold weldDue
  (repeat' (first | (simp (maxDischargeDepth := 6) [h]; done) | split | (dsimp only; split) | (simp (maxDischargeDepth := 6) [h]; split)))
@[simp] theorem openToWeld_other (s : State) (x : Ix) {y : Ix} (h : y ≠ x) :
    (openToWeld s x).prot.get y = s.prot.get y := by
  unfold openToWeld
  (repeat' (first | (simp (maxDischargeDepth := 6) [h]; done) | split | (dsimp only; split) | (simp (maxDischargeDepth := 6) [h]; split)))
@[simp] theorem ownState_other (s : State) (x : Ix) (st : StrState) (cause : Nat) {y : Ix} (h : y ≠ x) :
    (ownState s x st cause).prot.get y = s.prot.get y := by
  unfold ownState
  (repeat' (first | (simp (maxDischargeDepth := 6) [h]; done) | split | (dsimp only; split) | (simp (maxDischargeDepth := 6) [h]; split)))
@[simp] theorem procTrip_other (s : State) (x : Ix) (cause : Nat) (value : F32) (unitNo : Nat) (cell : Nat) {y : Ix} (h : y ≠ x) :
    (procTrip s x cause value unitNo cell).prot.get y = s.prot.get y := by
  unfold procTrip
  split
  · rfl
  · simp (maxDischargeDepth := 12) [h]
@[simp] theorem judge_other (s : State) (x : Ix) (cause : Nat) (holds : Bool) (need : Nat) (value : F32) (unitNo : Nat) (cell : Nat) {y : Ix} (h : y ≠ x) :
    (judge s x cause holds need value unitNo cell).prot.get y = s.prot.get y := by
  unfold judge
  (repeat' (first | (simp (maxDischargeDepth := 6) [h]; done) | split | (dsimp only; split) | (simp (maxDischargeDepth := 6) [h]; split)))
@[simp] theorem powerLimits_other (s : State) (x : Ix) {y : Ix} (h : y ≠ x) : (powerLimits s x).prot.get y = s.prot.get y := by
  unfold powerLimits
  (repeat' (first | (simp (maxDischargeDepth := 6) [h]; done) | split | (dsimp only; split) | (simp (maxDischargeDepth := 6) [h]; split)))
@[simp] theorem unconfirmed_other (s : State) (x : Ix) (c : Comparator) {y : Ix} (h : y ≠ x) :
    (unconfirmed s x c).prot.get y = s.prot.get y := by
  unfold unconfirmed
  (repeat' (first | (simp (maxDischargeDepth := 6) [h]; done) | split | (dsimp only; split) | (simp (maxDischargeDepth := 6) [h]; split)))
@[simp] theorem weldTick_other (s : State) (x : Ix) {y : Ix} (h : y ≠ x) :
    (weldTick s x).prot.get y = s.prot.get y := by
  unfold weldTick
  (repeat' (first | (simp (maxDischargeDepth := 6) [h]; done) | split | (dsimp only; split) | (simp (maxDischargeDepth := 6) [h]; split)))
@[simp] theorem unconfTick_other (s : State) (x : Ix) {y : Ix} (h : y ≠ x) :
    (unconfTick s x).prot.get y = s.prot.get y := by
  unfold unconfTick
  (repeat' (first | (simp (maxDischargeDepth := 6) [h]; done) | split | (dsimp only; split) | (simp (maxDischargeDepth := 6) [h]; split)))
@[simp] theorem judgeComparator_other (s : State) (x : Ix) (c : Comparator) {y : Ix} (h : y ≠ x) :
    (judgeComparator s x c).prot.get y = s.prot.get y := by
  unfold judgeComparator
  (repeat' (first | (simp (maxDischargeDepth := 6) [h]; done) | split | (dsimp only; split) | (simp (maxDischargeDepth := 6) [h]; split)))
@[simp] theorem setBlind_other (s : State) (x : Ix) (blind : Bool) {y : Ix} (h : y ≠ x) :
    (setBlind s x blind).prot.get y = s.prot.get y := by
  unfold setBlind
  (repeat' (first | (simp (maxDischargeDepth := 6) [h]; done) | split | (dsimp only; split) | (simp (maxDischargeDepth := 6) [h]; split)))
@[simp] theorem procTick_other (s : State) (x : Ix) (t : TickRec) (n : Nat) {y : Ix} (h : y ≠ x) :
    (procTick s x t n).prot.get y = s.prot.get y := by
  unfold procTick
  (repeat' (first | (simp (maxDischargeDepth := 6) [h]; done) | split | (dsimp only; split) | (simp (maxDischargeDepth := 6) [h]; split)))
@[simp] theorem takeSum_other (s : State) (x : Ix) (r : TickSumRec) {y : Ix} (h : y ≠ x) : (takeSum s x r).prot.get y = s.prot.get y := by
  unfold takeSum
  (repeat' (first | (simp (maxDischargeDepth := 6) [h]; done) | split | (dsimp only; split) | (simp (maxDischargeDepth := 6) [h]; split)))
@[simp] theorem outrTripString_other (s : State) (x : Ix) (f : ProtState → ProtState) {y : Ix} (h : y ≠ x) :
    (outrTripString s x f).prot.get y = s.prot.get y := by
  unfold outrTripString
  (repeat' (first | (simp (maxDischargeDepth := 6) [h]; done) | split | (dsimp only; split) | (simp (maxDischargeDepth := 6) [h]; split)))
@[simp] theorem beginOpen_other (s : State) (x : Ix) (ids : List Nat) {y : Ix} (h : y ≠ x) :
    (beginOpen s x ids).prot.get y = s.prot.get y := by
  unfold beginOpen
  (repeat' (first | (simp (maxDischargeDepth := 6) [h]; done) | split | (dsimp only; split) | (simp (maxDischargeDepth := 6) [h]; split)))
@[simp] theorem coilFinding_other (s : State) (x : Ix) (c : Coil) (sig : Nat) (hs : Bool) (r : CoilRead) {y : Ix} (h : y ≠ x) :
    (coilFinding s x c sig hs r).prot.get y = s.prot.get y := by
  unfold coilFinding
  (repeat' (first | (simp (maxDischargeDepth := 6) [h]; done) | split | (dsimp only; split) | (simp (maxDischargeDepth := 6) [h]; split)))
@[simp] theorem testPassed_other (s : State) (x : Ix) (c : Coil) (hs : Bool) {y : Ix} (h : y ≠ x) :
    (testPassed s x c hs).prot.get y = s.prot.get y := by
  unfold testPassed
  (repeat' (first | (simp (maxDischargeDepth := 6) [h]; done) | split | (dsimp only; split) | (simp (maxDischargeDepth := 6) [h]; split)))
@[simp] theorem closeFails_other (s : State) (x : Ix) (c : Coil) (rd : CoilRead) {y : Ix} (h : y ≠ x) :
    (closeFails s x c rd).prot.get y = s.prot.get y := by
  unfold closeFails
  (repeat' (first | (simp (maxDischargeDepth := 6) [h]; done) | split | (dsimp only; split) | (simp (maxDischargeDepth := 6) [h]; split)))
@[simp] theorem stateAfterHold_other (s : State) (x : Ix) (cause : Nat) {y : Ix} (h : y ≠ x) :
    (stateAfterHold s x cause).prot.get y = s.prot.get y := by
  unfold stateAfterHold
  (repeat' (first | (simp (maxDischargeDepth := 6) [h]; done) | split | (dsimp only; split) | (simp (maxDischargeDepth := 6) [h]; split)))
@[simp] theorem modUnit_other (s : State) (r : Ix) (addr : Nat) (f : UnitState → UnitState) {y : Ix} (h : y ≠ r) :
    (modUnit s r addr f).ring.get y = s.ring.get y := by
  unfold modUnit
  (repeat' (first | (simp (maxDischargeDepth := 6) [h]; done) | split | (dsimp only; split) | (simp (maxDischargeDepth := 6) [h]; split)))
@[simp] theorem discardCar_other (s : State) (r : Ix) {y : Ix} (h : y ≠ r) : (discardCar s r).ring.get y = s.ring.get y := by
  unfold discardCar
  (repeat' (first | (simp (maxDischargeDepth := 6) [h]; done) | split | (dsimp only; split) | (simp (maxDischargeDepth := 6) [h]; split)))
@[simp] theorem sendUnit_other (s : State) (r : Ix) (addr : Nat) (type : Nat) (payload : List Byte) {y : Ix} (h : y ≠ r) :
    (sendUnit s r addr type payload).ring.get y = s.ring.get y := by
  unfold sendUnit
  simp [h]
@[simp] theorem sendAll_other (s : State) (r : Ix) (type : Nat) (payload : List Byte) {y : Ix} (h : y ≠ r) :
    (sendAll s r type payload).ring.get y = s.ring.get y := by
  unfold sendAll
  (repeat' (first | (simp (maxDischargeDepth := 6) [h]; done) | split | (dsimp only; split) | (simp (maxDischargeDepth := 6) [h]; split)))
@[simp] theorem sendHop_other (s : State) (r : Ix) (addr : Nat) (type : Nat) (payload : List Byte) {y : Ix} (h : y ≠ r) :
    (sendHop s r addr type payload).ring.get y = s.ring.get y := by
  unfold sendHop
  (repeat' (first | (simp (maxDischargeDepth := 6) [h]; done) | split | (dsimp only; split) | (simp (maxDischargeDepth := 6) [h]; split)))
@[simp] theorem markLost_other (s : State) (r : Ix) (addr : Nat) (cause : Nat) {y : Ix} (h : y ≠ r) :
    (markLost s r addr cause).ring.get y = s.ring.get y := by
  unfold markLost
  (repeat' (first | (simp (maxDischargeDepth := 6) [h]; done) | split | (dsimp only; split) | (simp (maxDischargeDepth := 6) [h]; split)))
@[simp] theorem returnUnits_other (s : State) (r : Ix) {y : Ix} (h : y ≠ r) : (returnUnits s r).ring.get y = s.ring.get y := by
  unfold returnUnits
  (repeat' (first | (simp (maxDischargeDepth := 6) [h]; done) | split | (dsimp only; split) | (simp (maxDischargeDepth := 6) [h]; split)))
@[simp] theorem sendBalance_other (s : State) (r : Ix) (addr : Nat) {y : Ix} (h : y ≠ r) :
    (sendBalance s r addr).ring.get y = s.ring.get y := by
  unfold sendBalance
  (repeat' (first | (simp (maxDischargeDepth := 6) [h]; done) | split | (dsimp only; split) | (simp (maxDischargeDepth := 6) [h]; split)))
@[simp] theorem setDuty_other (s : State) (r : Ix) (addr : Nat) (duty : List Nat) {y : Ix} (h : y ≠ r) :
    (setDuty s r addr duty).ring.get y = s.ring.get y := by
  unfold setDuty
  (repeat' (first | (simp (maxDischargeDepth := 6) [h]; done) | split | (dsimp only; split) | (simp (maxDischargeDepth := 6) [h]; split)))
@[simp] theorem sendConfig_other (s : State) (r : Ix) (addr : Nat) {y : Ix} (h : y ≠ r) :
    (sendConfig s r addr).ring.get y = s.ring.get y := by
  unfold sendConfig
  (repeat' (first | (simp (maxDischargeDepth := 6) [h]; done) | split | (dsimp only; split) | (simp (maxDischargeDepth := 6) [h]; split)))
@[simp] theorem ringUnserved_other (s : State) (r : Ix) (finding : Nat) {y : Ix} (h : y ≠ r) :
    (ringUnserved s r finding).ring.get y = s.ring.get y := by
  unfold ringUnserved
  (repeat' (first | (simp (maxDischargeDepth := 6) [h]; done) | split | (dsimp only; split) | (simp (maxDischargeDepth := 6) [h]; split)))
@[simp] theorem probes_ring (s : State) (r : Ix) (b : Bool) : (probes s r b).ring = s.ring := rfl
@[simp] theorem measureUnit_other (s : State) (r : Ix) (addr : Nat) {y : Ix} (h : y ≠ r) :
    (measureUnit s r addr).ring.get y = s.ring.get y := by
  unfold measureUnit
  (repeat' (first | (simp (maxDischargeDepth := 6) [h]; done) | split | (dsimp only; split) | (simp (maxDischargeDepth := 6) [h]; split)))
@[simp] theorem enumNative_other (s : State) (r : Ix) (units : List UnitState) {y : Ix} (h : y ≠ r) :
    (enumNative s r units).ring.get y = s.ring.get y := by
  unfold enumNative
  (repeat' (first | (simp (maxDischargeDepth := 6) [h]; done) | split | (dsimp only; split) | (simp (maxDischargeDepth := 6) [h]; split)))
@[simp] theorem enumCompat_other (s : State) (r : Ix) (units : List UnitState) {y : Ix} (h : y ≠ r) :
    (enumCompat s r units).ring.get y = s.ring.get y := by
  unfold enumCompat
  (repeat' (first | (simp (maxDischargeDepth := 6) [h]; done) | split | (dsimp only; split) | (simp (maxDischargeDepth := 6) [h]; split)))
@[simp] theorem serialEvents_other (s : State) (r : Ix) (old : List (Nat × Nat)) (units : List UnitState) {y : Ix} (h : y ≠ r) :
    (serialEvents s r old units).ring.get y = s.ring.get y := by
  unfold serialEvents
  have _ := h
  refine foldl_ring_other _ (fun s u => ?_) _ _
  split <;> simp
@[simp] theorem ringServed_other (s : State) (r : Ix) (f : RingFind) (compat : Bool) (split : Bool) {y : Ix} (h : y ≠ r) :
    (ringServed s r f compat split).ring.get y = s.ring.get y := by
  unfold ringServed
  (repeat' (first | (simp (maxDischargeDepth := 6) [h]; done) | split | (dsimp only; split) | (simp (maxDischargeDepth := 6) [h]; split)))
@[simp] theorem balStopped_other (s : State) (r : Ix) (addr : Nat) (frame : Nat) {y : Ix} (h : y ≠ r) :
    (balStopped s r addr frame).ring.get y = s.ring.get y := by
  unfold balStopped
  (repeat' (first | (simp (maxDischargeDepth := 6) [h]; done) | split | (dsimp only; split) | (simp (maxDischargeDepth := 6) [h]; split)))
@[simp] theorem enumEnds_other (s : State) (r : Ix) (ok : Bool) {y : Ix} (h : y ≠ r) :
    (enumEnds s r ok).ring.get y = s.ring.get y := by
  unfold enumEnds
  (repeat' (first | (simp (maxDischargeDepth := 6) [h]; done) | split | (dsimp only; split) | (simp (maxDischargeDepth := 6) [h]; split)))
@[simp] theorem enumProgress_other (s : State) (r : Ix) (c : Nat) {y : Ix} (h : y ≠ r) :
    (enumProgress s r c).ring.get y = s.ring.get y := by
  unfold enumProgress
  (repeat' (first | (simp (maxDischargeDepth := 6) [h]; done) | split | (dsimp only; split) | (simp (maxDischargeDepth := 6) [h]; split)))
@[simp] theorem storeFeature_other (s : State) (r : Ix) (u : UnitState) (f : FeatRec) {y : Ix} (h : y ≠ r) :
    (storeFeature s r u f).ring.get y = s.ring.get y := by
  unfold storeFeature
  (repeat' (first | (simp (maxDischargeDepth := 6) [h]; done) | split | (dsimp only; split) | (simp (maxDischargeDepth := 6) [h]; split)))
@[simp] theorem ackBalance_other (s : State) (r : Ix) (t : Txn) (status : Nat) {y : Ix} (h : y ≠ r) :
    (ackBalance s r t status).ring.get y = s.ring.get y := by
  unfold ackBalance
  (repeat' (first | (simp (maxDischargeDepth := 6) [h]; done) | split | (dsimp only; split) | (simp (maxDischargeDepth := 6) [h]; split)))
@[simp] theorem declareBreak_other (s : State) (r : Ix) (after : Nat) (cause : Nat) {y : Ix} (h : y ≠ r) :
    (declareBreak s r after cause).ring.get y = s.ring.get y := by
  unfold declareBreak
  (repeat' (first | (simp (maxDischargeDepth := 6) [h]; done) | split | (dsimp only; split) | (simp (maxDischargeDepth := 6) [h]; split)))
@[simp] theorem requestTest_other (s : State) (r : Ix) (addr : Nat) (mask : Nat) {y : Ix} (h : y ≠ r) :
    (requestTest s r addr mask).ring.get y = s.ring.get y := by
  unfold requestTest
  (repeat' (first | (simp (maxDischargeDepth := 6) [h]; done) | split | (dsimp only; split) | (simp (maxDischargeDepth := 6) [h]; split)))
@[simp] theorem renominate_other (s : State) (r : Ix) (addr : Nat) {y : Ix} (h : y ≠ r) :
    (renominate s r addr).ring.get y = s.ring.get y := by
  unfold renominate
  (repeat' (first | (simp (maxDischargeDepth := 6) [h]; done) | split | (dsimp only; split) | (simp (maxDischargeDepth := 6) [h]; split)))
@[simp] theorem suspectEvent_other (s : State) (r : Ix) (addr : Nat) (dv : List (Option Rat)) (x : Suspicion) {y : Ix} :
    (suspectEvent s r addr dv x).ring.get y = s.ring.get y := by
  unfold suspectEvent
  (repeat' (first | (simp (maxDischargeDepth := 6); done) | split | (dsimp only; split) | (simp (maxDischargeDepth := 6); split)))
@[simp] theorem diagnose_other (s : State) (r : Ix) (addr : Nat) (f : FeatRec) {y : Ix} (h : y ≠ r) :
    (diagnose s r addr f).ring.get y = s.ring.get y := by
  unfold diagnose
  (repeat' (first | (simp (maxDischargeDepth := 6) [h]; done) | split | (dsimp only; split) | (simp (maxDischargeDepth := 6) [h]; split)))
@[simp] theorem thermFaults_other (s : State) (r : Ix) (addr : Nat) (codes : List Nat) {y : Ix} (h : y ≠ r) :
    (thermFaults s r addr codes).ring.get y = s.ring.get y := by
  unfold thermFaults
  exact foldl_ring_other _ (fun s a => by simp [h]) _ _
@[simp] theorem recordFlags_other (s : State) (r : Ix) (addr : Nat) (f : FeatRec) {y : Ix} (h : y ≠ r) :
    (recordFlags s r addr f).ring.get y = s.ring.get y := by
  unfold recordFlags
  split
  · rfl
  · dsimp only
    rw [thermFaults_other _ _ _ _ h]
    refine foldl_ring_other _ (fun s a => ?_) _ _
    split
    · rfl
    · rw [foldl_ring_other _ (fun s a => by simp)]
      simp
@[simp] theorem judgeWire_other (s : State) (r : Ix) (addr : Nat) (w : Nat) (shift : Int) {y : Ix} (h : y ≠ r) :
    (judgeWire s r addr w shift).ring.get y = s.ring.get y := by
  unfold judgeWire
  (repeat' (first | (simp (maxDischargeDepth := 6) [h]; done) | split | (dsimp only; split) | (simp (maxDischargeDepth := 6) [h]; split)))
@[simp] theorem settleSuspicions_other (s : State) (r : Ix) (addr : Nat) (shifts : List (Nat × Nat)) {y : Ix} (h : y ≠ r) :
    (settleSuspicions s r addr shifts).ring.get y = s.ring.get y := by
  unfold settleSuspicions
  (repeat' (first | (simp (maxDischargeDepth := 6) [h]; done) | split | (dsimp only; split) | (simp (maxDischargeDepth := 6) [h]; split)))
@[simp] theorem setCan_other (s : State) (b : Ix) (st : CanState) (cause : Nat) {y : Ix} (h : y ≠ b) :
    (setCan s b st cause).can.bus.get y = s.can.bus.get y := by
  unfold setCan
  (repeat' (first | (simp (maxDischargeDepth := 6) [h]; done) | split | (dsimp only; split) | (simp (maxDischargeDepth := 6) [h]; split)))
@[simp] theorem checkWindows_other (s : State) (b : Ix) {y : Ix} (h : y ≠ b) : (checkWindows s b).can.bus.get y = s.can.bus.get y := by
  unfold checkWindows
  (repeat' (first | (simp (maxDischargeDepth := 6) [h]; done) | split | (dsimp only; split) | (simp (maxDischargeDepth := 6) [h]; split)))
@[simp] theorem canActive_other (s : State) (b : Ix) {y : Ix} (h : y ≠ b) : (canActive s b).can.bus.get y = s.can.bus.get y := by
  unfold canActive
  (repeat' (first | (simp (maxDischargeDepth := 6) [h]; done) | split | (dsimp only; split) | (simp (maxDischargeDepth := 6) [h]; split)))
@[simp] theorem adoptRate_other (s : State) (b : Ix) (cand : Nat) (assumed : Bool) (fixed : Bool) {y : Ix} (h : y ≠ b) :
    (adoptRate s b cand assumed fixed).can.bus.get y = s.can.bus.get y := by
  unfold adoptRate
  (repeat' (first | (simp (maxDischargeDepth := 6) [h]; done) | split | (dsimp only; split) | (simp (maxDischargeDepth := 6) [h]; split)))
@[simp] theorem startDetect_other (s : State) (b : Ix) {y : Ix} (h : y ≠ b) : (startDetect s b).can.bus.get y = s.can.bus.get y := by
  unfold startDetect
  (repeat' (first | (simp (maxDischargeDepth := 6) [h]; done) | split | (dsimp only; split) | (simp (maxDischargeDepth := 6) [h]; split)))
@[simp] theorem nextCandidate_other (s : State) (b : Ix) {y : Ix} (h : y ≠ b) : (nextCandidate s b).can.bus.get y = s.can.bus.get y := by
  unfold nextCandidate
  (repeat' (first | (simp (maxDischargeDepth := 6) [h]; done) | split | (dsimp only; split) | (simp (maxDischargeDepth := 6) [h]; split)))
@[simp] theorem detectFrame_other (s : State) (b : Ix) (f : CanFrame) {y : Ix} (h : y ≠ b) :
    (detectFrame s b f).can.bus.get y = s.can.bus.get y := by
  unfold detectFrame
  (repeat' (first | (simp (maxDischargeDepth := 6) [h]; done) | split | (dsimp only; split) | (simp (maxDischargeDepth := 6) [h]; split)))
@[simp] theorem judgeErrors_other (s : State) (b : Ix) {y : Ix} (h : y ≠ b) : (judgeErrors s b).can.bus.get y = s.can.bus.get y := by
  unfold judgeErrors
  (repeat' (first | (simp (maxDischargeDepth := 6) [h]; done) | split | (dsimp only; split) | (simp (maxDischargeDepth := 6) [h]; split)))
@[simp] theorem txGood_other (s : State) (b : Ix) {y : Ix} (h : y ≠ b) : (txGood s b).can.bus.get y = s.can.bus.get y := by
  unfold txGood
  (repeat' (first | (simp (maxDischargeDepth := 6) [h]; done) | split | (dsimp only; split) | (simp (maxDischargeDepth := 6) [h]; split)))
@[simp] theorem txBad_other (s : State) (b : Ix) (ack : Bool) {y : Ix} (h : y ≠ b) : (txBad s b ack).can.bus.get y = s.can.bus.get y := by
  unfold txBad
  (repeat' (first | (simp (maxDischargeDepth := 6) [h]; done) | split | (dsimp only; split) | (simp (maxDischargeDepth := 6) [h]; split)))
@[simp] theorem rxGood_other (s : State) (b : Ix) {y : Ix} (h : y ≠ b) : (rxGood s b).can.bus.get y = s.can.bus.get y := by
  unfold rxGood
  (repeat' (first | (simp (maxDischargeDepth := 6) [h]; done) | split | (dsimp only; split) | (simp (maxDischargeDepth := 6) [h]; split)))
@[simp] theorem rxBad_other (s : State) (b : Ix) {y : Ix} (h : y ≠ b) : (rxBad s b).can.bus.get y = s.can.bus.get y := by
  unfold rxBad
  (repeat' (first | (simp (maxDischargeDepth := 6) [h]; done) | split | (dsimp only; split) | (simp (maxDischargeDepth := 6) [h]; split)))
@[simp] theorem endAlone_other (s : State) (b : Ix) {y : Ix} (h : y ≠ b) : (endAlone s b).can.bus.get y = s.can.bus.get y := by
  unfold endAlone
  (repeat' (first | (simp (maxDischargeDepth := 6) [h]; done) | split | (dsimp only; split) | (simp (maxDischargeDepth := 6) [h]; split)))
@[simp] theorem collide_other (s : State) (b : Ix) (id_ : Nat) (window : Nat) {y : Ix} (h : y ≠ b) :
    (collide s b id_ window).can.bus.get y = s.can.bus.get y := by
  unfold collide
  (repeat' (first | (simp (maxDischargeDepth := 6) [h]; done) | split | (dsimp only; split) | (simp (maxDischargeDepth := 6) [h]; split)))
@[simp] theorem startTx_other (s : State) (b : Ix) (m : CanMsg) {y : Ix} (h : y ≠ b) : (startTx s b m).can.bus.get y = s.can.bus.get y := by
  unfold startTx
  dsimp only [emit]
  split <;> simp [h, modNode, modPcs]
@[simp] theorem queueMsg_other (s : State) (b : Ix) (m : CanMsg) {y : Ix} (h : y ≠ b) :
    (queueMsg s b m).can.bus.get y = s.can.bus.get y := by
  unfold queueMsg
  (repeat' (first | (simp (maxDischargeDepth := 6) [h]; done) | split | (dsimp only; split) | (simp (maxDischargeDepth := 6) [h]; split)))
@[simp] theorem startFirst_other (s : State) (b : Ix) {y : Ix} (h : y ≠ b) : (startFirst s b).can.bus.get y = s.can.bus.get y := by
  unfold startFirst
  (repeat' (first | (simp (maxDischargeDepth := 6) [h]; done) | split | (dsimp only; split) | (simp (maxDischargeDepth := 6) [h]; split)))
@[simp] theorem sendNormal_other (s : State) (b : Ix) {y : Ix} (h : y ≠ b) : (sendNormal s b).can.bus.get y = s.can.bus.get y := by
  unfold sendNormal
  (repeat' (first | (simp (maxDischargeDepth := 6) [h]; done) | split | (dsimp only; split) | (simp (maxDischargeDepth := 6) [h]; split)))
@[simp] theorem missWindow_other (s : State) (b : Ix) (w : Nat) (cause : Nat) (m : CanMsg) {y : Ix} (h : y ≠ b) :
    (missWindow s b w cause m).can.bus.get y = s.can.bus.get y := by
  unfold missWindow
  (repeat' (first | (simp (maxDischargeDepth := 6) [h]; done) | split | (dsimp only; split) | (simp (maxDischargeDepth := 6) [h]; split)))
@[simp] theorem keepResult_other (s : State) (b : Ix) (m : CanMsg) (ok : Bool) {y : Ix} (h : y ≠ b) :
    (keepResult s b m ok).can.bus.get y = s.can.bus.get y := by
  unfold keepResult
  (repeat' (first | (simp (maxDischargeDepth := 6) [h]; done) | split | (dsimp only; split) | (simp (maxDischargeDepth := 6) [h]; split)))
@[simp] theorem txFailed_other (s : State) (b : Ix) (m : CanMsg) (ack : Bool) {y : Ix} (h : y ≠ b) :
    (txFailed s b m ack).can.bus.get y = s.can.bus.get y := by
  unfold txFailed
  dsimp only
  (repeat' (first | (simp (maxDischargeDepth := 6) [h]; done) | split | (dsimp only; split) | (simp (maxDischargeDepth := 6) [h]; split)))

end Sys2Proof.Laws
end

