-- ==== Sys2Proof/Laws/Mailbox.lean ====
section
/-! SUPPORT. What a mailbox response does: the newest response of the port answers the command, nothing else answers it, and long
commands keep their records. -/

namespace Sys2Proof.Laws

open Sys2Proof Sys2Proof.Machine

theorem modAt_getElem? {α : Type} (f : α → α) : ∀ (l : List α) (i : Nat), (modAt l i f)[i]? = l[i]?.map f
  | [], _ => by simp [modAt]
  | x :: xs, 0 => by simp [modAt]
  | x :: xs, n + 1 => by simpa [modAt] using modAt_getElem? f xs n

theorem modAt_getElem?_other {α : Type} (f : α → α) : ∀ (l : List α) (i j : Nat), j ≠ i → (modAt l i f)[j]? = l[j]?
  | [], _, _, _ => by simp [modAt]
  | x :: xs, 0, 0, h => absurd rfl h
  | x :: xs, 0, j + 1, _ => by simp [modAt]
  | x :: xs, n + 1, 0, _ => by simp [modAt]
  | x :: xs, n + 1, j + 1, h => by simpa [modAt] using modAt_getElem?_other f xs n j (fun e => h (by rw [e]))

/-- Sending a vector changes nothing of a port but its MSI-X table. -/
theorem sendVector_hostRest (s : State) (p : Ix) (n : Nat) : hostRest (sendVector s p n).host = hostRest s.host :=
  same_host (m := 67239936) (by simp) (by decide)
theorem sendVector_port (s : State) (p q : Ix) (n : Nat) :
    portRest ((sendVector s p n).host.port.get q) = portRest (s.host.port.get q) := port_of_rest (sendVector_hostRest s p n) q
@[simp] theorem sendVector_longs (s : State) (p : Ix) (n : Nat) : (sendVector s p n).host.longs = s.host.longs :=
  longs_of_rest (sendVector_hostRest s p n)
@[simp] theorem sendVector_rings (s : State) (p q : Ix) (n : Nat) :
    ((sendVector s p n).host.port.get q).rings = (s.host.port.get q).rings := by
  have h := congrArg (fun q : PortState => q.rings) (sendVector_port s p q n); exact h
@[simp] theorem sendVector_responses (s : State) (p q : Ix) (n : Nat) :
    ((sendVector s p n).host.port.get q).responses = (s.host.port.get q).responses := by
  have h := congrArg (fun q : PortState => q.responses) (sendVector_port s p q n); exact h
@[simp] theorem sendVector_portUp (s : State) (p q : Ix) (n : Nat) : portUp (sendVector s p n) q = portUp s q := by
  have h := congrArg (fun q : PortState => q.up) (sendVector_port s p q n); exact h

/-- Writing a response puts it in front of the port's responses. -/
theorem writeResponse_head (s : State) (h : Hdr) (op : Nat) (st : Status) (dt id : Nat) (w : Option (Nat × Nat × Nat)) (b : List Byte) :
    ∃ r, ((writeResponse s h op st dt id w b).host.port.get h.port).responses.head? = some r ∧ r.ring = h.ring ∧ r.tag = h.tag ∧
      r.opcode = op ∧ r.status = st ∧ r.detail = dt ∧ r.longId = id ∧ r.payload = b := by
  unfold writeResponse
  dsimp only
  split
  · rw [sendVector_responses]
    simp [modRing, modPort_host]
  · simp [modRing, modPort_host]

/-- A response takes the entry it answers off its ring. -/
theorem writeResponse_waiting (s : State) (h : Hdr) (op : Nat) (st : Status) (dt id : Nat) (w : Option (Nat × Nat × Nat)) (b : List Byte) :
    (mbxRing (writeResponse s h op st dt id w b) h.port h.ring).waiting = (mbxRing s h.port h.ring).waiting.drop 1 := by
  unfold writeResponse mbxRing
  dsimp only
  have e : ∀ t : State, ((if h.raise = true then sendVector t h.port h.ring else t).host.port.get h.port).rings = (t.host.port.get h.port).rings := by
    intro t; split <;> simp
  rw [e]
  simp only [modRing, modPort_host, two_get_modify, modAt_getElem?]
  cases (s.host.port.get h.port).rings[h.ring]? <;> simp

@[simp] theorem modRing_longs (s : State) (p : Ix) (r : Nat) (f : MbxRing → MbxRing) : (modRing s p r f).host.longs = s.host.longs := rfl

/-- A response leaves the long commands as they are. -/
@[simp] theorem writeResponse_longs (s : State) (h : Hdr) (op : Nat) (st : Status) (dt id : Nat) (w : Option (Nat × Nat × Nat)) (b : List Byte) :
    (writeResponse s h op st dt id w b).host.longs = s.host.longs := by
  unfold writeResponse; dsimp only; split
  · rw [sendVector_longs]; rfl
  · rfl
@[simp] theorem answerBad_longs (p : Ix) (ring n : Nat) (s : State) : (answerBad p ring n s).host.longs = s.host.longs := by
  induction n generalizing s with
  | zero => rfl
  | succ n ih =>
    unfold answerBad
    split
    · rfl
    · split
      · rfl
      · rw [ih, writeResponse_longs]
@[simp] theorem respondFull_longs (s : State) (h : Hdr) (op : Nat) (st : Status) (dt id : Nat) (w : Option (Nat × Nat × Nat)) (b : List Byte) :
    (respondFull s h op st dt id w b).host.longs = s.host.longs := by
  unfold respondFull; split
  · rfl
  · simp

/-- A response in full answers the command that waits alone on its ring. -/
theorem respondFull_answered (s : State) (h : Hdr) (op : Nat) (st : Status) (dt id : Nat) (w : Option (Nat × Nat × Nat)) (b : List Byte)
    (hu : portUp s h.port = true) (ha : alone s h = true) : answered (respondFull s h op st dt id w b) h op st dt id b := by
  unfold respondFull
  rw [if_neg (by simp [hu])]
  have hw := writeResponse_waiting s h op st dt id w b
  have hl : (mbxRing s h.port h.ring).waiting.drop 1 = [] := by
    rw [List.drop_eq_nil_iff]; simpa [alone] using ha
  rw [hl] at hw
  have e : answerBad h.port h.ring 32 (writeResponse s h op st dt id w b) = writeResponse s h op st dt id w b := by
    unfold answerBad; rw [hw]
  dsimp only
  rw [e]
  exact writeResponse_head s h op st dt id w b

theorem respondOk_answered (s : State) (h : Hdr) (op : Nat) (b : List Byte) (hu : portUp s h.port = true) (ha : alone s h = true) :
    answered (respondOk s h op b) h op .ok 0 0 b := respondFull_answered s h op .ok 0 0 none b hu ha
theorem respond_answered (s : State) (h : Hdr) (op : Nat) (st : Status) (dt : Nat) (hu : portUp s h.port = true) (ha : alone s h = true) :
    answered (respond s h op st dt) h op st dt 0 [] := respondFull_answered s h op st dt 0 none [] hu ha
theorem respondBusy_answered (s : State) (h : Hdr) (op : Nat) (w : Nat × Nat × Nat) (hu : portUp s h.port = true) (ha : alone s h = true) :
    answered (respondBusy s h op w) h op .busy 0 0 [] := respondFull_answered s h op .busy 0 0 (some w) [] hu ha

/-- A host command that reaches the firmware finds its port up. -/
theorem hostReady_portUp {s : State} {h : Hdr} (e : hostReady s h = true) : portUp s h.port = true := by
  unfold hostReady at e; simp only [Bool.and_eq_true] at e; exact e.1.2
theorem loaderReady_portUp {s : State} {h : Hdr} (e : loaderReady s h = true) : portUp s h.port = true := by
  unfold loaderReady at e; simp only [Bool.and_eq_true] at e; exact e.1.2

/-- Two states with equal host blocks answer alike. -/
theorem portUp_host {s t : State} (e : t.host = s.host) (p : Ix) : portUp t p = portUp s p := by unfold portUp; rw [e]
theorem alone_host {s t : State} (e : t.host = s.host) (h : Hdr) : alone t h = alone s h := by unfold alone mbxRing; rw [e]
/-- Raising an event leaves the ring alone. -/
@[simp] theorem raise_alone (s : State) (e : Nat) (d : List Byte) (h : Hdr) : alone (raise s e d) h = alone s h := by
  unfold alone mbxRing; rw [raise_rings]

/-- Answers stand while events are raised. -/
theorem answered_raise {t : State} {h : Hdr} {op : Nat} {st : Status} {dt id : Nat} {b : List Byte} (e : Nat) (d : List Byte)
    (a : answered t h op st dt id b) : answered (raise t e d) h op st dt id b := by
  unfold answered at a ⊢; rw [raise_responses]; exact a
/-- The end of a long command leaves the answers. -/
theorem answered_endLong {t : State} {h : Hdr} {op : Nat} {st : Status} {dt id : Nat} {b : List Byte} (i : Nat) (r : Status) (k : Nat)
    (p : List Byte) (a : answered t h op st dt id b) : answered (endLong t i r k p) h op st dt id b := a
theorem answered_host {s t : State} (e : t.host = s.host) {h : Hdr} {op : Nat} {st : Status} {dt id : Nat} {b : List Byte}
    (a : answered s h op st dt id b) : answered t h op st dt id b := by unfold answered; rw [e]; exact a

/-- Accepting a long command answers ACCEPTED with a LONG_ID. -/
theorem acceptLong_answered (s : State) (h : Hdr) (op : Nat) (hu : portUp s h.port = true) (ha : alone s h = true) :
    answered (acceptLong s h op).2 h op .accepted 0 (acceptLong s h op).1 [] := by
  unfold acceptLong
  exact respondFull_answered _ h op .accepted 0 _ none [] hu ha
/-- An accepted long command has a record under its LONG_ID. -/
theorem acceptLong_longs (s : State) (h : Hdr) (op : Nat) : (acceptLong s h op).2.host.longs = s.host.longs ++
    [{ id := (acceptLong s h op).1, port := h.port, ring := h.ring, tag := h.tag, opcode := op, status := .pending, detail := 0, resp := [],
       ended := false, doneAt := Stamp.zero, doneUp := 0, reported := false }] := by
  unfold acceptLong; simp only [respondFull_longs]; rfl

/-! ### Results kept (R402) -/

theorem trimFold_left (xs : List LongRec) (k : Nat) (acc : List LongRec) :
    (xs.foldl (fun (a : Nat × List LongRec) l => if l.ended && decide (0 < a.1) then (a.1 - 1, a.2) else (a.1, a.2 ++ [l])) (k, acc)).1 =
      k - (xs.filter (·.ended)).length := by
  induction xs generalizing k acc with
  | nil => simp
  | cons x xs ih =>
    rw [List.foldl_cons, List.filter_cons]
    cases hx : x.ended
    · simpa using ih k (acc ++ [x])
    · by_cases hk : 0 < k
      · simp only [hk, decide_true, Bool.and_self, if_true, ih, List.length_cons]; omega
      · have : k = 0 := by omega
        subst this
        simpa using ih 0 (acc ++ [x])

/-- The newest result is kept when older ones are dropped. -/
theorem trimLongs_last (xs : List LongRec) (y : LongRec) : y ∈ trimLongs (xs ++ [y]) := by
  unfold trimLongs
  simp only [List.foldl_append, List.foldl_cons, List.foldl_nil, List.filter_append, List.length_append]
  have h := trimFold_left xs ((xs.filter (·.ended)).length + (([y] : List LongRec).filter (·.ended)).length - 64) []
  rw [if_neg]
  · simp
  · rw [h]
    have : (([y] : List LongRec).filter (·.ended)).length ≤ 1 := le_trans (List.length_filter_le _ _) (by simp)
    simp only [Bool.and_eq_true, decide_eq_true_eq, not_and]
    intro _; omega

/-- Ending the long command accepted last leaves its result among those kept. -/
theorem endLong_newest (s : State) (xs : List LongRec) (l : LongRec) (hs : s.host.longs = xs ++ [l]) (he : l.ended = false) (st : Status)
    (dt : Nat) (resp : List Byte) :
    { l with status := st, detail := dt, resp := resp, ended := true, doneAt := stampTick s, doneUp := s.elec.uptime, reported := false } ∈
      (endLong s l.id st dt resp).host.longs := by
  unfold endLong
  dsimp only
  rw [hs, List.map_append, List.map_cons, List.map_nil, if_pos ⟨rfl, he⟩]
  exact trimLongs_last _ _

/-- A long command that ends at once leaves its result for LONG_QUERY. -/
theorem longAtOnce_ended (s : State) (h : Hdr) (op : Nat) (st : Status) (dt : Nat) (resp : List Byte) :
    longEnded (longAtOnce s h op st dt resp) h op st dt resp :=
  ⟨_, endLong_newest _ _ _ (acceptLong_longs s h op) rfl st dt resp, rfl, rfl, rfl, rfl, rfl, rfl, rfl, rfl⟩
theorem longAtOnce_answered (s : State) (h : Hdr) (op : Nat) (st : Status) (dt : Nat) (resp : List Byte) (hu : portUp s h.port = true)
    (ha : alone s h = true) : answered (longAtOnce s h op st dt resp) h op .accepted 0 (acceptLong s h op).1 [] :=
  answered_endLong _ _ _ _ (acceptLong_answered s h op hu ha)

end Sys2Proof.Laws
end

