-- ==== Sys2Proof/Laws/Memory.lean ====
section
/-! SUPPORT. Laws of the sparse byte stores: every operation keeps the canonical form, a read after a write gives what was written, and a
write leaves every other address alone. -/

namespace Sys2Proof.Laws

open Sys2Proof

/-- A canonical form from a bound on is one from any lower bound. -/
theorem wfFrom_le {d : Byte} : ∀ {m : Mem} {lo hi : Nat}, lo ≤ hi → Mem.wfFrom d hi m = true → Mem.wfFrom d lo m = true
  | [], _, _, _, _ => rfl
  | (k, b) :: m, lo, hi, h, w => by
    simp only [Mem.wfFrom, Bool.and_eq_true, decide_eq_true_eq] at w ⊢
    exact ⟨⟨le_trans h w.1.1, w.1.2⟩, w.2⟩

/-- A byte above every listed address below the bound reads as unlisted. -/
theorem read_low {d : Byte} : ∀ {m : Mem} {lo a : Nat}, Mem.wfFrom d lo m = true → a < lo → Mem.read d m a = d
  | [], _, _, _, _ => rfl
  | (k, b) :: m, lo, a, w, h => by
    simp only [Mem.wfFrom, Bool.and_eq_true, decide_eq_true_eq] at w
    have hk : a < k := lt_of_lt_of_le h w.1.1
    simp [Mem.read, Nat.ne_of_gt hk, hk]

/-- Writing one byte keeps the canonical form from any bound that does not exceed the address. -/
theorem wfFrom_write {d : Byte} : ∀ {m : Mem} {lo a : Nat} (v : Byte), lo ≤ a → Mem.wfFrom d lo m = true →
    Mem.wfFrom d lo (Mem.write d m a v) = true
  | [], lo, a, v, h, _ => by
    by_cases hv : v = d <;> simp [Mem.write, Mem.wfFrom, hv, h]
  | (k, b) :: m, lo, a, v, h, w => by
    have w' := w
    simp only [Mem.wfFrom, Bool.and_eq_true, decide_eq_true_eq] at w'
    obtain ⟨⟨hk, hb⟩, hm⟩ := w'
    unfold Mem.write
    split
    · rename_i e
      subst e
      split
      · exact wfFrom_le (by omega) hm
      · rename_i hv
        simp only [Mem.wfFrom, Bool.and_eq_true, decide_eq_true_eq]
        exact ⟨⟨h, by simpa using hv⟩, hm⟩
    · split
      · rename_i hak
        split
        · exact w
        · rename_i hv
          simp only [Mem.wfFrom, Bool.and_eq_true, decide_eq_true_eq]
          exact ⟨⟨h, by simpa using hv⟩, ⟨by omega, hb⟩, hm⟩
      · simp only [Mem.wfFrom, Bool.and_eq_true, decide_eq_true_eq]
        exact ⟨⟨hk, hb⟩, wfFrom_write v (by omega) hm⟩

/-- Writing one byte keeps the canonical form. -/
theorem wf_write {d : Byte} {m : Mem} (a : Nat) (v : Byte) (h : m.wf d = true) : (Mem.write d m a v).wf d = true :=
  wfFrom_write v (Nat.zero_le a) h

/-- Writing several bytes keeps the canonical form. -/
theorem wf_writeAll {d : Byte} : ∀ {m : Mem} (a : Nat) (vs : List Byte), m.wf d = true → (Mem.writeAll d m a vs).wf d = true
  | _, _, [], h => h
  | _, a, v :: vs, h => wf_writeAll (a + 1) vs (wf_write a v h)

/-- Keeping some of the entries keeps the canonical form. -/
theorem wfFrom_filter {d : Byte} (p : Nat × Byte → Bool) : ∀ {m : Mem} {lo : Nat}, Mem.wfFrom d lo m = true →
    Mem.wfFrom d lo (m.filter p) = true
  | [], _, _ => rfl
  | (k, b) :: m, lo, w => by
    simp only [Mem.wfFrom, Bool.and_eq_true, decide_eq_true_eq] at w
    obtain ⟨⟨hk, hb⟩, hm⟩ := w
    rw [List.filter_cons]
    split
    · simp only [Mem.wfFrom, Bool.and_eq_true, decide_eq_true_eq]
      exact ⟨⟨hk, hb⟩, wfFrom_filter p hm⟩
    · exact wfFrom_le (by omega) (wfFrom_filter p hm)

/-- Erasing a range keeps the canonical form. -/
theorem wf_erase {d : Byte} {m : Mem} (a len : Nat) (h : m.wf d = true) : (m.erase a len).wf d = true :=
  wfFrom_filter _ h

/-- A read after a write at the same address gives the byte written. -/
theorem read_write_same {d : Byte} : ∀ {m : Mem} {lo : Nat} (a : Nat) (v : Byte), Mem.wfFrom d lo m = true →
    Mem.read d (Mem.write d m a v) a = v
  | [], _, a, v, _ => by
    by_cases hv : v = d <;> simp [Mem.write, Mem.read, hv]
  | (k, b) :: m, lo, a, v, w => by
    simp only [Mem.wfFrom, Bool.and_eq_true, decide_eq_true_eq] at w
    obtain ⟨_, hm⟩ := w
    unfold Mem.write
    split
    · rename_i e
      subst e
      split
      · rename_i hv
        rw [read_low hm (Nat.lt_succ_self _)]
        exact hv.symm
      · simp [Mem.read]
    · rename_i hne
      split
      · rename_i hak
        split
        · rename_i hv
          simp [Mem.read, hne, hak, hv]
        · simp [Mem.read]
      · rename_i hak
        simp only [Mem.read, hne, hak, if_false]
        exact read_write_same a v hm

/-- A write leaves every other address as it reads. -/
theorem read_write_other {d : Byte} : ∀ {m : Mem} {lo : Nat} {a c : Nat} (v : Byte), Mem.wfFrom d lo m = true → c ≠ a →
    Mem.read d (Mem.write d m a v) c = Mem.read d m c
  | [], _, a, c, v, _, h => by
    by_cases hv : v = d <;> simp [Mem.write, Mem.read, hv, h.symm]
  | (k, b) :: m, lo, a, c, v, w, h => by
    simp only [Mem.wfFrom, Bool.and_eq_true, decide_eq_true_eq] at w
    obtain ⟨_, hm⟩ := w
    unfold Mem.write
    split
    · rename_i e
      subst e
      split
      · by_cases hc : c < k
        · rw [read_low hm (by omega)]
          simp [Mem.read, h.symm, hc]
        · simp [Mem.read, h.symm, hc]
      · simp [Mem.read, h.symm]
    · rename_i hne
      split
      · rename_i hak
        split
        · rfl
        · by_cases hc : c < a
          · have : c < k := by omega
            simp [Mem.read, h.symm, hc, this, Nat.ne_of_gt this]
          · simp [Mem.read, h.symm, hc]
      · simp only [Mem.read]
        rw [read_write_other v hm h]

/-- A write of several bytes leaves every address outside their range as it reads. -/
theorem read_writeAll_other {d : Byte} : ∀ {m : Mem} {a c : Nat} (vs : List Byte), m.wf d = true → c < a ∨ a + vs.length ≤ c →
    Mem.read d (Mem.writeAll d m a vs) c = Mem.read d m c
  | _, _, _, [], _, _ => rfl
  | m, a, c, v :: vs, w, h => by
    rw [List.length_cons] at h
    rw [Mem.writeAll, read_writeAll_other vs (wf_write a v w) (by omega), read_write_other v w (by omega)]

/-- Reading back a run of bytes just written gives them. -/
theorem readAll_writeAll {d : Byte} : ∀ {m : Mem} (a : Nat) (vs : List Byte), m.wf d = true →
    Mem.readAll d (Mem.writeAll d m a vs) a vs.length = vs
  | _, _, [], _ => rfl
  | m, a, v :: vs, w => by
    rw [List.length_cons, Mem.readAll, Mem.writeAll, readAll_writeAll (a + 1) vs (wf_write a v w)]
    rw [read_writeAll_other vs (wf_write a v w) (by omega), read_write_same a v w]

end Sys2Proof.Laws
end

