-- ==== Sys2Proof/Tests/Fixtures.lean ====
section
/-! SUPPORT. States and frames that the tests and the witnesses share. -/

namespace Sys2Proof.Tests

open Sys2Proof Sys2Proof.Machine

/-- An active module of slot A that owns its line, holds synchronisation and has joined dispatch, 1,000 s after step 3. -/
def card : State :=
  { State.reset with
    elec := { powered := true, step := 12, fw := true, scanned := true, uptime := 8000000000000 }
    clk := { refOk := Two.both true, lock := true, bypass := false, cpuPll := true, engPll := true, fabPll := true, ctlPll := true }
    grid := { on := true, now := 128000, period := 1250000, sync := true, depth := 3 }
    pair := { role := .active, present := true, linkUp := true, stepsDone := true, variantMatch := true }
    outr := { owner := true, asserting := true, line := .aOwns, hbGood := true, goodRun := 3, timed := true, coilOk := true }
    host := { port := Two.both { up := true } } }
/-- The same module as standby. -/
def mate : State :=
  { card with
    pair := { card.pair with role := .standby }
    outr := { card.outr with owner := false, asserting := false, line := .bOwns } }
/-- The same module as angle source. -/
def source : State := { card with grid := { card.grid with head := true, sync := true } }
/-- A caravan unit of 16 cells. -/
def unit16 (addr : Nat) : UnitState := { addr := addr, gen16 := true, serial := 1000 + addr, dlyF := 10, dlyR := 10, pop := 0xFFFF }
/-- A caravan unit of 12 cells. -/
def unit12 (addr : Nat) : UnitState := { addr := addr, gen16 := false, serial := 1000 + addr, dlyF := 0, dlyR := 0, pop := 0xFFF }
/-- A native ring of two units. -/
def nativeRing : RingState :=
  { enumDone := true, lockA := true, lockB := true, count := 2, served := true, units := [unit16 1, unit16 2], trigFirst := some 1,
    trigSent := some 128001 }
/-- A compatibility ring of two units. -/
def compatRing : RingState :=
  { enumDone := true, compat := true, lockA := true, lockB := true, count := 2, served := true, units := [unit12 1, unit12 2] }
/-- `card` with a native ring 0. -/
def withRing : State := { card with ring := { zero := nativeRing, one := {} } }
/-- `card` with a compatibility ring 1. -/
def withCompat : State := { card with ring := { zero := {}, one := compatRing } }

/-- A waymark as sent. -/
def waymark (word : Nat) : WmFrame := ⟨word, crc16 (beBytes 8 word)⟩
/-- A Ryran frame as sent. -/
def ryran (type : Nat) (payload : List Byte) : RyrFrame :=
  ⟨BitVec.ofNat 8 type, BitVec.ofNat 8 payload.length, payload, crc16 (BitVec.ofNat 8 type :: BitVec.ofNat 8 payload.length :: payload)⟩
/-- A native caravan frame to the module as sent. -/
def caravan (type src seq : Nat) (payload : List Byte) : CarFrame :=
  ⟨0, BitVec.ofNat 8 type, BitVec.ofNat 8 src, BitVec.ofNat 8 seq, payload.length, payload,
    crc16 ([0, BitVec.ofNat 8 type, BitVec.ofNat 8 src, BitVec.ofNat 8 seq] ++ beBytes 2 payload.length ++ payload)⟩
/-- A compatibility frame as sent. -/
def caravan12 (hop type : Nat) (payload : List Byte) : Car12Frame :=
  ⟨BitVec.ofNat 8 hop, BitVec.ofNat 8 type, BitVec.ofNat 8 payload.length, payload,
    crc16 ([BitVec.ofNat 8 hop, BitVec.ofNat 8 type, BitVec.ofNat 8 payload.length] ++ payload)⟩
/-- A peer-link frame as sent. -/
def peerFrame (type : Nat) (payload : List Byte) : PeerFrame :=
  ⟨BitVec.ofNat 8 type, payload.length, payload, crc32c (BitVec.ofNat 8 type :: beBytes 2 payload.length ++ payload)⟩
/-- A channel that reads 0. -/
def chan0 : ChanIn := ⟨0, 0, none⟩
/-- A front end that reads 0. -/
def fe0 : FeIn := ⟨chan0, chan0, chan0, chan0, 3125⟩
/-- A tick of nominal length in which everything reads 0. -/
def tick0 : TickIn := ⟨1250000, fe0, fe0, List.replicate 8 ⟨0, 0, none⟩⟩
/-- A command header: Host A, ring 0, TAG 1, no vector. -/
def hd : Hdr := ⟨.zero, 0, 1, false⟩
/-- What an enumeration finds on a sound native ring of one unit. -/
def foundNative : RingFind :=
  ⟨true, true, some 1, [some ⟨true, 1001, 1, 16⟩], some 2, [List.replicate 16 1000], [List.replicate 16 1000], 2000, 0, 1⟩
/-- What an enumeration finds on a sound compatibility ring of one unit. -/
def foundCompat : RingFind :=
  ⟨true, true, some 1, [some ⟨false, 1001, 1, 12⟩], some 2, [[]], [[]], 2000, 0, 1⟩
/-- What an enumeration finds on a ring with no lock. -/
def foundNothing : RingFind := ⟨false, false, none, [], none, [], [], 0, 0, 3⟩

end Sys2Proof.Tests
end

