-- ==== Sys2Proof/Tests/Record.lean ====
section
/-! SUPPORT. A state record that passes every check of R223: the witness of the statement about an offered record. -/

namespace Sys2Proof.Tests

open Sys2Proof Sys2Proof.Machine

set_option Elab.async false

/-- An active module that waits for a state record in power-up step 9, with no units, so that a record holds no cells. -/
def waiting : State :=
  { card with
    elec := { card.elec with step := 9 }
    est := { str := Two.both { c := 0x42C80000, r := 0x3F800000 } } }

theorem slice_left (a b : List Byte) (off n : Nat) (h : off + n ≤ a.length) : slice (a ++ b) off n = slice a off n := by
  unfold slice
  rw [List.drop_append_of_le_length (by omega), List.take_append_of_le_length (by rw [List.length_drop]; omega)]
theorem slice_right (a b : List Byte) (off n : Nat) (h : a.length ≤ off) : slice (a ++ b) off n = slice b (off - a.length) n := by
  unfold slice
  rw [List.drop_append, List.drop_eq_nil_of_le h, List.nil_append]
theorem slice_copies (e : List Byte) (j n : Nat) (h : j + n ≤ e.length) :
    ∀ (k i : Nat), i < k → slice (List.replicate k e).flatten (e.length * i + j) n = slice e j n
  | 0, i, hi => absurd hi (Nat.not_lt_zero i)
  | k + 1, 0, _ => by
    rw [List.replicate_succ, List.flatten_cons, Nat.mul_zero, Nat.zero_add]
    exact slice_left _ _ _ _ h
  | k + 1, i + 1, hi => by
    rw [List.replicate_succ, List.flatten_cons, slice_right _ _ _ _ (by rw [Nat.mul_succ]; omega)]
    have : e.length * (i + 1) + j - e.length = e.length * i + j := by rw [Nat.mul_succ]; omega
    rw [this]
    exact slice_copies e j n h k i (by omega)
theorem agrees_left (a b : List Byte) (o c n : Nat) (ho : o + n ≤ a.length) (hc : c + n ≤ a.length) :
    agrees (a ++ b) o c n = agrees a o c n := by
  unfold agrees leAt; rw [slice_left _ _ _ _ ho, slice_left _ _ _ _ hc]
theorem agrees_right (a b : List Byte) (o c n : Nat) (ho : a.length ≤ o) (hc : a.length ≤ c) :
    agrees (a ++ b) o c n = agrees b (o - a.length) (c - a.length) n := by
  unfold agrees leAt; rw [slice_right _ _ _ _ ho, slice_right _ _ _ _ hc]
theorem leBytes_length : ∀ n v : Nat, (leBytes n v).length = n
  | 0, _ => rfl
  | n + 1, v => by rw [leBytes, List.length_cons, leBytes_length n]
theorem ofLe_leBytes : ∀ n v : Nat, ofLe (leBytes n v) = v % 256 ^ n
  | 0, v => by rw [leBytes, ofLe, Nat.pow_zero, Nat.mod_one]
  | n + 1, v => by
    have h : 256 ^ (n + 1) = 256 * 256 ^ n := by rw [Nat.pow_succ, Nat.mul_comm]
    rw [leBytes, ofLe, ofLe_leBytes n, toByte, BitVec.toNat_ofNat, h, Nat.mod_mul]
theorem crc32cStep_lt {c : Nat} (h : c < 2 ^ 32) : crc32cStep c < 2 ^ 32 := by
  unfold crc32cStep
  split
  · exact Nat.xor_lt_two_pow (by omega) (by decide)
  · omega
theorem crc32cByte_lt {c : Nat} (b : Byte) (h : c < 2 ^ 32) : crc32cByte c b < 2 ^ 32 := by
  unfold crc32cByte
  have hb : b.toNat < 2 ^ 32 := lt_trans b.isLt (by decide)
  repeat apply crc32cStep_lt
  exact Nat.xor_lt_two_pow h hb
theorem crc32c_lt (l : List Byte) : crc32c l < 2 ^ 32 := by
  have h : ∀ (l : List Byte) (c : Nat), c < 2 ^ 32 → l.foldl crc32cByte c < 2 ^ 32 := by
    intro l
    induction l with
    | nil => intro c hc; exact hc
    | cons b t ih => intro c hc; exact ih _ (crc32cByte_lt b hc)
  exact Nat.xor_lt_two_pow (h l _ (by decide)) (by decide)

/-- The header, the string blocks and the cell blocks of the record that `waiting` would capture with SEQ 5 in cycle 900. -/
def recHead : List Byte :=
  u32 0x45535452 ++ u16 1 ++ u16 (recordFlagBits waiting) ++ pairBytes 8 5 ++ u48 900 ++ u16 (treePosition waiting) ++ binding waiting ++
    u16 (nPop waiting .zero) ++ u16 (nPop waiting .one) ++ zeros 20
def recCells : List Byte := (List.replicate 448 emptyCell).flatten
def recBody : List Byte := recHead ++ (stringBlock waiting .zero ++ (stringBlock waiting .one ++ (recCells ++ recCells)))
def recTail : List Byte := u32 (crc32c recBody) ++ (zeros 52 ++ u64 (5 ^^^ 0x5A5A5A5A5A5A5A5A))
def offered : List Byte := recBody ++ recTail

theorem recHead_length : recHead.length = 64 := by decide +kernel
theorem recString_length (x : Ix) : (stringBlock waiting x).length = 64 := by cases x <;> decide +kernel
theorem recCells_length : recCells.length = 21504 := by
  rw [recCells, List.length_flatten, List.map_replicate, List.sum_replicate]; decide +kernel
theorem recBody_length : recBody.length = 43200 := by
  simp only [recBody, List.length_append, recHead_length, recString_length, recCells_length]
theorem recTail_length : recTail.length = 64 := by decide +kernel

theorem offered_head (o c n : Nat) (ho : o + n ≤ 64) (hc : c + n ≤ 64) : agrees offered o c n = agrees recHead o c n := by
  have hb := recBody_length
  rw [offered, agrees_left _ _ _ _ _ (by omega) (by omega), recBody,
    agrees_left _ _ _ _ _ (by rw [recHead_length]; omega) (by rw [recHead_length]; omega)]
theorem slice_string (x : Ix) (o n : Nat) (ho : o + n ≤ 64) : slice offered (strOff x + o) n = slice (stringBlock waiting x) o n := by
  have hb := recBody_length
  rw [offered, slice_left _ _ _ _ (by cases x <;> simp only [strOff, Ix.num] <;> omega), recBody,
    slice_right _ _ _ _ (by rw [recHead_length]; cases x <;> simp only [strOff, Ix.num] <;> omega), recHead_length]
  cases x
  · have e : strOff .zero + o - 64 = o := by simp only [strOff, Ix.num]; omega
    rw [e, slice_left _ _ _ _ (by rw [recString_length]; omega)]
  · have e : strOff .one + o - 64 = 64 + o := by simp only [strOff, Ix.num]; omega
    rw [e, slice_right _ _ _ _ (by rw [recString_length]; omega), recString_length, Nat.add_sub_cancel_left,
      slice_left _ _ _ _ (by rw [recString_length]; omega)]
theorem slice_cell (x : Ix) (i j n : Nat) (hi : i < 448) (hj : j + n ≤ 48) : slice offered (cellOff x i + j) n = slice emptyCell j n := by
  have hb := recBody_length
  have he : emptyCell.length = 48 := by decide +kernel
  have hc := slice_copies emptyCell j n (by omega) 448 i hi
  rw [he] at hc
  rw [offered, slice_left _ _ _ _ (by cases x <;> simp only [cellOff, Ix.num] <;> omega), recBody,
    slice_right _ _ _ _ (by rw [recHead_length]; cases x <;> simp only [cellOff, Ix.num] <;> omega), recHead_length,
    slice_right _ _ _ _ (by rw [recString_length]; cases x <;> simp only [cellOff, Ix.num] <;> omega), recString_length,
    slice_right _ _ _ _ (by rw [recString_length]; cases x <;> simp only [cellOff, Ix.num] <;> omega), recString_length]
  cases x
  · have e : cellOff .zero i + j - 64 - 64 - 64 = 48 * i + j := by simp only [cellOff, Ix.num]; omega
    rw [e, slice_left _ _ _ _ (by rw [recCells_length]; omega), recCells, hc]
  · have e : cellOff .one i + j - 64 - 64 - 64 = 21504 + (48 * i + j) := by simp only [cellOff, Ix.num]; omega
    rw [e, slice_right _ _ _ _ (by rw [recCells_length]; omega), recCells_length, Nat.add_sub_cancel_left, recCells, hc]

theorem offered_intact : recIntact offered = true := by
  have hb := recBody_length
  have h1 : leAt offered 0xA8F8 8 = 5 ^^^ 0x5A5A5A5A5A5A5A5A := by
    rw [leAt, offered, slice_right _ _ _ _ (by omega), hb, recTail, slice_right _ _ _ _ (by rw [u32, leBytes_length]; omega), u32,
      leBytes_length]
    decide +kernel
  have h2 : recSeq offered = 5 := by
    rw [recSeq, leAt, offered, slice_left _ _ _ _ (by omega), recBody, slice_left _ _ _ _ (by rw [recHead_length]; omega)]
    decide +kernel
  have h3 : leAt offered 0xA8C0 4 = crc32c recBody := by
    rw [leAt, offered, slice_right _ _ _ _ (by omega), hb, recTail, Nat.sub_self, slice_left _ _ _ _ (by rw [u32, leBytes_length])]
    have : slice (u32 (crc32c recBody)) 0 4 = u32 (crc32c recBody) := by
      rw [slice, List.drop_zero, List.take_of_length_le (by rw [u32, leBytes_length])]
    rw [this, u32, ofLe_leBytes]
    exact Nat.mod_eq_of_lt (crc32c_lt recBody)
  have h4 : offered.take 0xA8C0 = recBody := by rw [offered, List.take_left' hb]
  rw [recIntact, h1, h2, h3, h4]
  simp
theorem offered_complements : complementsOk offered = true := by
  have ha : ∀ (x : Ix) (o c n : Nat), o + n ≤ 64 → c + n ≤ 64 →
      agrees offered (strOff x + o) (strOff x + c) n = agrees (stringBlock waiting x) o c n := by
    intro x o c n ho hc
    unfold agrees leAt; rw [slice_string _ _ _ ho, slice_string _ _ _ hc]
  have hc : ∀ (x : Ix) (i o c n : Nat), i < 448 → o + n ≤ 48 → c + n ≤ 48 →
      agrees offered (cellOff x i + o) (cellOff x i + c) n = agrees emptyCell o c n := by
    intro x i o c n hi ho hc
    unfold agrees leAt; rw [slice_cell _ _ _ _ hi ho, slice_cell _ _ _ _ hi hc]
  unfold complementsOk
  rw [offered_head 8 16 8 (by omega) (by omega), Bool.and_eq_true, List.all_eq_true]
  refine ⟨by decide +kernel, fun x _ => ?_⟩
  dsimp only
  rw [← Nat.add_zero (strOff x)]
  simp only [Nat.add_assoc, Nat.zero_add]
  rw [ha x 0 4 4 (by omega) (by omega), ha x 8 12 4 (by omega) (by omega), ha x 16 18 2 (by omega) (by omega),
    ha x 20 44 4 (by omega) (by omega), Bool.and_eq_true, List.all_eq_true]
  refine ⟨by cases x <;> decide +kernel, fun i hi => ?_⟩
  have hi' : i < 448 := List.mem_range.mp hi
  rw [← Nat.add_zero (cellOff x i)]
  simp only [Nat.add_assoc, Nat.zero_add]
  rw [hc x i 0 4 4 hi' (by omega) (by omega), hc x i 8 10 2 hi' (by omega) (by omega), hc x i 12 16 4 hi' (by omega) (by omega)]
  decide +kernel
theorem slice_offered_head (o n : Nat) (h : o + n ≤ 64) : slice offered o n = slice recHead o n := by
  have hb := recBody_length
  rw [offered, slice_left _ _ _ _ (by omega), recBody, slice_left _ _ _ _ (by rw [recHead_length]; omega)]
theorem offered_ranges : rangesOk waiting offered = true := by
  have hw : ∀ (x : Ix) (o : Nat) (lo hi : F32), o + 4 ≤ 64 →
      within offered (strOff x + o) lo hi = within (stringBlock waiting x) o lo hi := by
    intro x o lo hi ho
    unfold within f32At leAt; rw [slice_string _ _ _ ho]
  unfold rangesOk
  rw [List.all_eq_true]
  intro x _
  have hp : nPop waiting x = 0 := by cases x <;> decide +kernel
  dsimp only
  rw [hp, ← Nat.add_zero (strOff x)]
  simp only [Nat.add_assoc, Nat.zero_add]
  rw [hw x 0 _ _ (by omega), hw x 8 _ _ (by omega), leAt, slice_string x 16 2 (by omega)]
  cases x <;> decide +kernel

set_option maxRecDepth 4000 in
theorem offered_good : recordFault waiting offered = none := by
  have hl : offered.length = 43264 := by rw [offered, List.length_append, recBody_length, recTail_length]
  have h0 : leAt offered 0 4 = 0x45535452 := by rw [leAt, slice_offered_head 0 4 (by omega)]; decide +kernel
  have h1 : leAt offered 4 2 = 1 := by rw [leAt, slice_offered_head 4 2 (by omega)]; decide +kernel
  have h2 : slice offered 32 8 = binding waiting := by rw [slice_offered_head 32 8 (by omega)]; rfl
  have h3 : leAt offered 30 2 = treePosition waiting := by rw [leAt, slice_offered_head 30 2 (by omega)]; decide +kernel
  have h4 : leAt offered 6 2 % 16 / 2 = recordFlagBits waiting / 2 := by
    rw [leAt, slice_offered_head 6 2 (by omega)]; decide +kernel
  have h5 : ¬ curCycle waiting < recCycle offered := by
    rw [recCycle, leAt, slice_offered_head 24 6 (by omega)]; decide +kernel
  unfold recordFault
  simp only [hl, h0, h1, h2, h3, h4, h5, offered_intact, offered_complements, offered_ranges]
  simp

theorem witness_EstimationCommandsTakeEffect_8 :
    ∃ (s : State) (h : Hdr) (addr len : Nat) (d : List Byte), hostReady s h = true ∧ alone s h = true ∧ s.est.began = false ∧
      isActive s = true ∧ s.elec.step = 9 ∧ ¬ (addr = 0 ∧ len = 0) ∧ recordFault s d = none :=
  ⟨waiting, hd, 4096, 43264, offered, by decide +kernel, by decide +kernel, by decide +kernel, by decide +kernel, by decide +kernel,
    by decide, offered_good⟩

end Sys2Proof.Tests
end

