-- ==== Sys2Proof/WellFormed.lean ====
section
/-! DEFINITION. Well-formed commands: every value a command carries lies in the width that the spec gives the field it comes from. -/

namespace Sys2Proof

/-- An integer fits `w` bits in two's complement. -/
def inBits (w : Nat) (i : Int) : Bool := decide (-(2 ^ (w - 1)) ≤ i) && decide (i < 2 ^ (w - 1))

/-- A mailbox ring is 0 to 7 and a TAG has 32 bits (R398, Table 14-3). -/
def Hdr.wf (h : Hdr) : Bool := decide (h.ring < 8) && decide (h.tag < 2 ^ 32)
/-- OPCODE and LEN have 16 and 32 bits (Table 14-3). -/
def MbxEntry.wf (e : MbxEntry) : Bool := decide (e.opcode < 2 ^ 16) && decide (e.len < 2 ^ 32) && decide (e.tag < 2 ^ 32)
/-- Widths of a descriptor (Table 14-8). -/
def Desc.wf (d : Desc) : Bool := decide (d.addr < 2 ^ 64) && decide (d.len < 2 ^ 32) && decide (d.tag < 2 ^ 32)
/-- Widths of a CAPTURE payload (Table 14-9). -/
def CaptureReq.wf (r : CaptureReq) : Bool :=
  decide (r.stringMask < 2 ^ 8) && decide (r.grefMask < 2 ^ 8) && decide (r.watch < 2 ^ 32) && decide (r.pre < 2 ^ 16) &&
    decide (r.post < 2 ^ 16) && decide (r.trigger < 2 ^ 8) && decide (r.evt < 2 ^ 8) && decide (r.cyc < 2 ^ 48)
/-- A waymark has 64 bits and a CRC-16 (R68, R71). -/
def WmFrame.wf (f : WmFrame) : Bool := decide (f.word < 2 ^ 64) && decide (f.crc < 2 ^ 16)
/-- A Ryran payload has at most 255 bytes (R71). -/
def RyrFrame.wf (f : RyrFrame) : Bool := decide (f.payload.length ≤ 255) && decide (f.crc < 2 ^ 16)
/-- LEN of a native caravan frame has 16 bits (Table 3-2). -/
def CarFrame.wf (f : CarFrame) : Bool := decide (f.len < 2 ^ 16) && decide (f.payload.length < 2 ^ 16) && decide (f.crc < 2 ^ 16)
/-- A compatibility payload has at most 255 bytes (R94). -/
def Car12Frame.wf (f : Car12Frame) : Bool := decide (f.payload.length ≤ 255) && decide (f.crc < 2 ^ 16)
/-- LEN of a peer frame has 16 bits (R346). -/
def PeerFrame.wf (f : PeerFrame) : Bool := decide (f.len < 2 ^ 16) && decide (f.payload.length < 2 ^ 16) && decide (f.crc < 2 ^ 32)
/-- An identifier of 11 or 29 bits and at most 64 data bytes (R363). -/
def CanFrame.wf (f : CanFrame) : Bool := decide (f.id < (if f.ext then 2 ^ 29 else 2 ^ 11)) && decide (f.data.length ≤ 64)
/-- Widths of an ECHO_REP (Table 2-11). -/
def EchoRun.wf (e : EchoRun) : Bool :=
  decide (e.rtts.length ≤ 64) && decide (e.pos < 2 ^ 16) && decide (e.depth < 2 ^ 16) && decide (e.dUp < 2 ^ 32) && decide (e.cycleMax < 2 ^ 48)
/-- Widths of an IDENT reply (Table 3-14). -/
def Ident.wf (i : Ident) : Bool := decide (i.serial < 2 ^ 64) && decide (i.fwVer < 2 ^ 32) && decide (i.cells < 2 ^ 16)
/-- A ring has at most 32 units (R89), and a unit's delay is measured with 16 probes from either end (R102). -/
def RingFind.wf (f : RingFind) : Bool :=
  decide (f.idents.length ≤ 32) && f.idents.all (fun i => i.all Ident.wf) && f.count.all (fun n => decide (n < 2 ^ 8)) &&
    f.enumNext.all (fun n => decide (n < 2 ^ 8)) && decide (f.lRing < 2 ^ 32) && decide (f.fromA ≤ 32) &&
    (f.rtA ++ f.rtB).all fun l => decide (l.length ≤ 16)
/-- A sample is a signed 24-bit code (R149) and the bits of a tick sum to at most one for each MOD cycle (R155). -/
def ChanIn.wf (c : ChanIn) (cycles : Nat) : Bool := inBits 24 c.sample && decide (c.bitSum ≤ cycles) && decide (-(cycles : Int) ≤ c.bitSum)
/-- The four channels of a front end. -/
def FeIn.wf (f : FeIn) : Bool :=
  f.shunt.wf f.modCycles && f.hall.wf f.modCycles && f.vpack.wf f.modCycles && f.vlink.wf f.modCycles
/-- A tick has a length and eight grid channels (R163). -/
def TickIn.wf (t : TickIn) : Bool :=
  decide (0 < t.len) && t.fe0.wf && t.fe1.wf && decide (t.gref.length = 8) &&
    t.gref.all (fun g => inBits 24 g.first && inBits 24 g.second)
/-- A readback current is at most 65,535 mA. -/
def CoilRead.wf (r : CoilRead) : Bool := decide (r.ma < 2 ^ 16)

/-- The command is well formed. -/
def Instr.wf : Instr → Bool
  | .powerGood _ _ _ => true
  | .withdrawal => true
  | .supplyLoss => true
  | .referenceDetect _ => true
  | .referenceLost _ => true
  | .refFreqCompare otherPeriods => decide (otherPeriods < 2 ^ 32)
  | .bypassRun _ => true
  | .pllLock => true
  | .pllLockLost => true
  | .domainSwitchDone => true
  | .domainSwitchTimeout => true
  | .pllEnWrite _ => true
  | .apply _ => true
  | .watchdogExpiry => true
  | .clocklessHold => true
  | .referenceReturnRestart _ => true
  | .firmwareBoot _ => true
  | .ledgerScan => true
  | .ownershipArbitration => true
  | .ryranEnumeration e0 e1 => e0.all EchoRun.wf && e1.all EchoRun.wf
  | .caravanEnumeration f0 f1 => f0.wf && f1.wf
  | .stateRecordRestoreTimeout => true
  | .joinDispatch => true
  | .dualActiveResolved => true
  | .tickTrigger t => t.wf
  | .angleSourceTick t => t.wf
  | .virtualMainsEntry => true
  | .virtualMainsExit off => decide (off < 2 ^ 16)
  | .waymarkReceived _ f arr => f.wf && decide (arr < 2 ^ 64)
  | .waymarkMissed _ => true
  | .unsynchronised => true
  | .resynchronise off => inBits 64 off
  | .upstreamReturn => true
  | .successorBecomesSource => true
  | .echoReq _ f _ => f.wf
  | .echoRep _ f rtt => f.wf && decide (rtt < 2 ^ 32)
  | .echoTimeout _ => true
  | .hopRemeasure => true
  | .loopTrace _ f => f.wf
  | .triggerSend _ waitNs => decide (waitNs < 2 ^ 32)
  | .snapSend _ => true
  | .featureRec _ f => f.wf
  | .deliveryDeadline _ => true
  | .transactionTimeout _ seq => decide (seq < 2 ^ 8)
  | .lostUnitPoll _ => true
  | .statusRep _ f => f.wf
  | .statusPoll _ => true
  | .ack _ f => f.wf
  | .nak _ f => f.wf
  | .watchStream _ f => f.wf
  | .tickSumSend _ => true
  | .tickSum _ _ f => f.wf
  | .wrapNotice _ f => f.wf
  | .ringLockLoss _ _ => true
  | .ringTriggerTimeout _ reached => decide (reached < 2 ^ 8)
  | .ringRestore _ lRing => decide (lRing < 2 ^ 32)
  | .compatReenum _ find => find.wf
  | .balanceRefresh _ => true
  | .bal12Refresh _ => true
  | .faultLoopOpen _ => true
  | .faultLoopClose _ => true
  | .openwireSchedule _ => true
  | .openwireRep _ f => f.wf
  | .isoOkChange _ _ => true
  | .latchedLoRead _ offset => (decide (offset < 2 ^ 16) && decide (offset % 4 = 0))
  | .calPoint h target channel _ _ => h.wf && decide (target < 2 ^ 8) && decide (channel < 2 ^ 8)
  | .calPointDone target channel => decide (target < 2 ^ 8) && decide (channel < 2 ^ 8)
  | .calSolve h target channel => h.wf && decide (target < 2 ^ 8) && decide (channel < 2 ^ 8)
  | .frameClose evaluated => decide (evaluated < 2 ^ 16)
  | .currentVote _ => true
  | .sourceClear h kind string unit index => h.wf && decide (kind < 2 ^ 8) && decide (string < 2 ^ 8) && decide (unit < 2 ^ 8) && decide (index < 2 ^ 8)
  | .tickPropagation => true
  | .dischargeStop _ => true
  | .frameUpdate => true
  | .learningDurationExpiry _ => true
  | .referenceStarved _ => true
  | .stateRecordCapture => true
  | .stateOffer h addr len data => h.wf && decide (addr < 2 ^ 64) && decide (len < 2 ^ 32) && decide (data.length ≤ 2 ^ 32)
  | .balanceReview => true
  | .thermalInputTimeout slot => decide (slot < 2 ^ 8)
  | .thermalNodeLost node => decide (node < 2 ^ 4)
  | .dieReading reading => inBits 16 reading
  | .dieTemp f => f.wf
  | .tempHostWrite _ => true
  | .controlLatch late torn => decide (late < 2 ^ 48) && decide (torn < 2 ^ 48)
  | .slotInputTimeout slot => decide (slot < 2 ^ 8)
  | .ctlBankReqWrite _ _ => true
  | .latClr _ => true
  | .ctlSwap h mask _ => h.wf && decide (mask < 2 ^ 48)
  | .ctlReadSlot h slot => h.wf && decide (slot < 2 ^ 8)
  | .phasorRecordForm => true
  | .phasorRecord _ f => f.wf
  | .vote => true
  | .holdingPeriodBoundary => true
  | .headroomSum _ f => f.wf
  | .sumSendDeadline => true
  | .roundClose => true
  | .fraction _ f => f.wf
  | .fractionHoldExpiry => true
  | .planClose => true
  | .holdSet h _ _ cycle => h.wf && decide (cycle < 2 ^ 48)
  | .leadMove h target cycle => h.wf && decide (target < 2 ^ 16) && decide (cycle < 2 ^ 48)
  | .leadMoveExecute => true
  | .comparatorTrip _ _ => true
  | .comparatorRelease _ _ => true
  | .outriderTripReport _ => true
  | .blindString _ => true
  | .thresholdWrite k _ => decide (k < 2 ^ 4)
  | .protectionBoundary => true
  | .comparatorProof _ failed => failed.all (fun k => decide (k < 5))
  | .coilTest rd => rd.wf
  | .testOverdue _ _ _ => true
  | .contactorDropout _ _ rd => rd.wf
  | .comparatorTestDue _ => true
  | .stringOpen h string => h.wf && decide (string < 2 ^ 8)
  | .openCurrentLow _ => true
  | .weldCheck _ => true
  | .stringClose h string => h.wf && decide (string < 2 ^ 8)
  | .kNegSettled _ rd => rd.wf
  | .prechargeReached _ => true
  | .prechargeFail _ => true
  | .kPosSettled _ rd => rd.wf
  | .protReset h string proof => h.wf && decide (string < 2 ^ 8) && proof.all (fun k => decide (k < 5))
  | .coilSupply mv => decide (mv < 2 ^ 16)
  | .heartbeatAnswer answer elapsedUs => decide (answer < 2 ^ 8) && decide (elapsedUs < 2 ^ 32)
  | .heartbeatLate => true
  | .ownershipLineFree => true
  | .ownerQualified => true
  | .releaseOverlapEnd => true
  | .releaseRetake => true
  | .holdExpiry => true
  | .holdAck => true
  | .holdDrop _ => true
  | .takeover => true
  | .handover h => h.wf
  | .orderlyRelease => true
  | .selfRelease _ _ => true
  | .ejectorOpen => true
  | .partnerPresence _ => true
  | .isolate h => h.wf
  | .rejoin h => h.wf
  | .peerStatus f => f.wf
  | .peerStatusSend => true
  | .peerLinkDown => true
  | .pairParamMismatch => true
  | .stateRec f => f.wf
  | .unitTable f => f.wf
  | .hopComp f => f.wf
  | .holdState f => f.wf
  | .release f => f.wf
  | .peerEchoReq f _ => f.wf
  | .peerEchoRep f rtt => f.wf && decide (rtt < 2 ^ 32)
  | .canFrame _ f => f.wf
  | .rateDwellExpiry _ => true
  | .rateSilentExpiry _ => true
  | .basicCycleStart _ => true
  | .canWindowStart _ window leftNs => decide (window < 2 ^ 5) && decide (leftNs < 2 ^ 32)
  | .canTxDone _ _ => true
  | .canBusOff _ => true
  | .busOffRecovery _ => true
  | .canPost h bus format length buffer id data => h.wf && decide (bus < 2 ^ 8) && decide (format < 2 ^ 8) && decide (length < 2 ^ 8) && decide (buffer < 2 ^ 8) && decide (id < 2 ^ 32) && decide (data.length ≤ 64)
  | .canCancel h handle => h.wf && decide (handle < 2 ^ 32)
  | .perst _ _ => true
  | .hostLinkDown _ _ => true
  | .hostLinkUp _ speed _ => decide (speed < 2 ^ 3)
  | .mbxDoorbell _ ring _ entries => decide (ring < 2 ^ 3) && entries.all MbxEntry.wf
  | .commandTimeout h opcode => h.wf && decide (opcode < 2 ^ 16)
  | .longDone id => decide (id < 2 ^ 64)
  | .longResultExpiry id => decide (id < 2 ^ 64)
  | .nop h => h.wf
  | .identify h => h.wf
  | .longQuery h id => h.wf && decide (id < 2 ^ 64)
  | .streamOpen h type addr entries descs => h.wf && decide (type < 2 ^ 8) && decide (addr < 2 ^ 64) && decide (entries < 2 ^ 32) && descs.all Desc.wf
  | .streamClose h type => h.wf && decide (type < 2 ^ 8)
  | .strmTailWrite _ stream _ => decide (stream < 2 ^ 3)
  | .descriptorFetchDone _ stream d => decide (stream < 2 ^ 3) && d.wf
  | .descriptorFetchFail _ stream addr => decide (stream < 2 ^ 3) && decide (addr < 2 ^ 64)
  | .descStarved _ stream => decide (stream < 2 ^ 3)
  | .bufferWriteDone _ stream => decide (stream < 2 ^ 3)
  | .canrxFlush _ => true
  | .capture h req => h.wf && req.wf
  | .captureTrigger _ => true
  | .hostReadDeferred _ stream _ => decide (stream < 2 ^ 3)
  | .registerWrite _ offset _ => (decide (offset < 2 ^ 16) && decide (offset % 4 = 0))
  | .evMaskWrite _ group _ => decide (group < 2 ^ 3)
  | .ledgerRecordWrite _ _ => true
  | .evLast h evt => h.wf && decide (evt < 2 ^ 8)
  | .ledgerRead h first count => h.wf && decide (first < 2 ^ 64) && decide (count < 2 ^ 8)
  | .ledgerExport h first last => h.wf && decide (first < 2 ^ 64) && decide (last < 2 ^ 64)
  | .ledgerFreeze h ms => h.wf && decide (ms < 2 ^ 16)
  | .ledgerUnfreeze h => h.wf
  | .freezeExpiry => true
  | .ledgerClear h upto => h.wf && decide (upto < 2 ^ 64)
  | .ledgerInfo h => h.wf
  | .evTest h data => h.wf && decide (data.length = 8)
  | .parRead h group first count source => h.wf && decide (group < 2 ^ 8) && decide (first < 2 ^ 8) && decide (count < 2 ^ 16) && decide (source < 2 ^ 8)
  | .parWrite h data => h.wf && decide (data.length ≤ 4032)
  | .commit h => h.wf
  | .parDiscard h => h.wf
  | .persistenceDone _ => true
  | .safetyScan => true
  | .updOpen h imgType _ imageLen version manifestCrc => h.wf && decide (imgType < 2 ^ 8) && decide (imageLen < 2 ^ 32) && decide (version < 2 ^ 64) && decide (manifestCrc < 2 ^ 32)
  | .updBlock h offset addr crc data => h.wf && decide (offset < 2 ^ 32) && decide (addr < 2 ^ 64) && decide (crc < 2 ^ 32) && decide (data.length ≤ 4096)
  | .updVerify h => h.wf
  | .updSchedule h cycle => h.wf && decide (cycle < 2 ^ 48)
  | .updCancel h _ => h.wf
  | .updConfirm h version => h.wf && decide (version < 2 ^ 64)
  | .updClose h => h.wf
  | .updInfo h => h.wf
  | .activation => true
  | .confirmWindowExpiry => true
  | .caravanReenum h mask f0 f1 => h.wf && decide (mask < 2 ^ 8) && f0.wf && f1.wf
  | .compatibilityReply _ f => f.wf
  | .partnerReadyChange _ => true
  | .ownershipLineAsserted _ => true
  | .dieTempSend => true
  | .pcieError _ status _ => decide (status < 2 ^ 32)
  | .activationOpenTimeout => true
  | .chargePumpStep => true

end Sys2Proof
end

