-- ==== Sys2Proof/Tests/Slice0.lean ====
section
/-! SUPPORT. Tests of the model: ill-formed commands are refused, the spec's worked examples come out, and the hypotheses of the
statements about frames and about the block as a whole are met. -/

namespace Sys2Proof.Tests

open Sys2Proof Sys2Proof.Machine

set_option Elab.async false

/-! ### Well-formed commands -/

/-- Each of these commands fails one check of Instr.wf. -/
theorem test_ill_formed_1 :
    ([.refFreqCompare (2 ^ 32),
      .ryranEnumeration (some ⟨[], 2 ^ 16, 0, 0, 0, false, false⟩) none,
      .ryranEnumeration none (some ⟨[], 2 ^ 16, 0, 0, 0, false, false⟩),
      .caravanEnumeration { foundNothing with fromA := 33 } foundNothing,
      .caravanEnumeration foundNothing { foundNothing with fromA := 33 },
      .tickTrigger { tick0 with len := 0 },
      .angleSourceTick { tick0 with len := 0 },
      .virtualMainsExit (2 ^ 16),
      .waymarkReceived .u0 ⟨2 ^ 64, 0⟩ 0,
      .waymarkReceived .u0 (waymark 0) (2 ^ 64),
      .resynchronise (2 ^ 63),
      .resynchronise (-(2 ^ 63) - 1),
      .echoReq .d0 ⟨0, 0, [], 65536⟩ true,
      .echoRep .zero ⟨0, 0, [], 65536⟩ 0,
      .echoRep .zero (ryran 0 []) (2 ^ 32),
      .loopTrace .zero ⟨0, 0, [], 65536⟩,
      .triggerSend .zero (2 ^ 32),
      .featureRec .zero ⟨0, 0, 0, 0, 65536, [], 0⟩,
      .transactionTimeout .zero (2 ^ 8),
      .statusRep .zero ⟨0, 0, 0, 0, 65536, [], 0⟩,
      .ack .zero ⟨0, 0, 0, 0, 65536, [], 0⟩,
      .nak .zero ⟨0, 0, 0, 0, 65536, [], 0⟩,
      .watchStream .zero ⟨0, 0, 0, 0, 65536, [], 0⟩,
      .tickSum .zero true ⟨0, 0, 0, 0, 65536, [], 0⟩,
      .wrapNotice .zero ⟨0, 0, 0, 0, 65536, [], 0⟩,
      .ringTriggerTimeout .zero (2 ^ 8),
      .ringRestore .zero (2 ^ 32),
      .compatReenum .zero { foundNothing with fromA := 33 },
      .openwireRep .zero ⟨0, 0, 0, 0, 65536, [], 0⟩,
      .latchedLoRead .zero (2 ^ 16)] : List Instr).all (fun c => !c.wf) = true := by decide +kernel
/-- Each of these commands fails one check of Instr.wf. -/
theorem test_ill_formed_2 :
    ([.latchedLoRead .zero 2,
      .calPoint { hd with ring := 8 } 0 0 true 0,
      .calPoint hd (2 ^ 8) 0 true 0,
      .calPoint hd 0 (2 ^ 8) true 0,
      .calPointDone (2 ^ 8) 0,
      .calPointDone 0 (2 ^ 8),
      .calSolve { hd with ring := 8 } 0 0,
      .calSolve hd (2 ^ 8) 0,
      .calSolve hd 0 (2 ^ 8),
      .frameClose (2 ^ 16),
      .sourceClear { hd with ring := 8 } 0 0 0 0,
      .sourceClear hd (2 ^ 8) 0 0 0,
      .sourceClear hd 0 (2 ^ 8) 0 0,
      .sourceClear hd 0 0 (2 ^ 8) 0,
      .sourceClear hd 0 0 0 (2 ^ 8),
      .stateOffer { hd with ring := 8 } 0 0 [],
      .stateOffer hd (2 ^ 64) 0 [],
      .stateOffer hd 0 (2 ^ 32) [],
      .thermalInputTimeout (2 ^ 8),
      .thermalNodeLost (2 ^ 4),
      .dieReading (2 ^ 15),
      .dieReading (-(2 ^ 15) - 1),
      .dieTemp ⟨0, 65536, [], 0⟩,
      .controlLatch (2 ^ 48) 0,
      .controlLatch 0 (2 ^ 48),
      .slotInputTimeout (2 ^ 8),
      .ctlSwap { hd with ring := 8 } 0 true,
      .ctlSwap hd (2 ^ 48) true,
      .ctlReadSlot { hd with ring := 8 } 0,
      .ctlReadSlot hd (2 ^ 8)] : List Instr).all (fun c => !c.wf) = true := by decide +kernel
/-- Each of these commands fails one check of Instr.wf. -/
theorem test_ill_formed_3 :
    ([.phasorRecord .zero ⟨0, 0, [], 65536⟩,
      .headroomSum .zero ⟨0, 0, [], 65536⟩,
      .fraction .zero ⟨0, 0, [], 65536⟩,
      .holdSet { hd with ring := 8 } 0 0 0,
      .holdSet hd 0 0 (2 ^ 48),
      .leadMove { hd with ring := 8 } 0 0,
      .leadMove hd (2 ^ 16) 0,
      .leadMove hd 0 (2 ^ 48),
      .thresholdWrite (2 ^ 4) 0,
      .comparatorProof .zero (some 5),
      .coilTest ⟨.low, .low, 65536, false⟩,
      .contactorDropout .zero .kPos ⟨.low, .low, 65536, false⟩,
      .stringOpen { hd with ring := 8 } 0,
      .stringOpen hd (2 ^ 8),
      .stringClose { hd with ring := 8 } 0,
      .stringClose hd (2 ^ 8),
      .kNegSettled .zero ⟨.low, .low, 65536, false⟩,
      .kPosSettled .zero ⟨.low, .low, 65536, false⟩,
      .protReset { hd with ring := 8 } 0 none,
      .protReset hd (2 ^ 8) none,
      .protReset hd 0 (some 5),
      .coilSupply (2 ^ 16),
      .heartbeatAnswer (2 ^ 8) 0,
      .heartbeatAnswer 0 (2 ^ 32),
      .handover { hd with ring := 8 },
      .isolate { hd with ring := 8 },
      .rejoin { hd with ring := 8 },
      .peerStatus ⟨0, 65536, [], 0⟩,
      .stateRec ⟨0, 65536, [], 0⟩,
      .unitTable ⟨0, 65536, [], 0⟩] : List Instr).all (fun c => !c.wf) = true := by decide +kernel
/-- Each of these commands fails one check of Instr.wf. -/
theorem test_ill_formed_4 :
    ([.hopComp ⟨0, 65536, [], 0⟩,
      .holdState ⟨0, 65536, [], 0⟩,
      .release ⟨0, 65536, [], 0⟩,
      .peerEchoReq ⟨0, 65536, [], 0⟩ true,
      .peerEchoRep ⟨0, 65536, [], 0⟩ 0,
      .peerEchoRep (peerFrame 0 []) (2 ^ 32),
      .canFrame .zero ⟨2048, false, false, false, false, [], false, false⟩,
      .canWindowStart .zero (2 ^ 5) 0,
      .canWindowStart .zero 0 (2 ^ 32),
      .canPost { hd with ring := 8 } 0 0 0 0 0 [],
      .canPost hd (2 ^ 8) 0 0 0 0 [],
      .canPost hd 0 (2 ^ 8) 0 0 0 [],
      .canPost hd 0 0 (2 ^ 8) 0 0 [],
      .canPost hd 0 0 0 (2 ^ 8) 0 [],
      .canPost hd 0 0 0 0 (2 ^ 32) [],
      .canPost hd 0 0 0 0 0 (List.replicate 65 0),
      .canCancel { hd with ring := 8 } 0,
      .canCancel hd (2 ^ 32),
      .hostLinkUp .zero (2 ^ 3) true,
      .mbxDoorbell .zero (2 ^ 3) 0 [],
      .mbxDoorbell .zero 0 0 ([⟨2 ^ 16, 0, 0, false⟩]),
      .commandTimeout { hd with ring := 8 } 0,
      .commandTimeout hd (2 ^ 16),
      .longDone (2 ^ 64),
      .longResultExpiry (2 ^ 64),
      .nop { hd with ring := 8 },
      .identify { hd with ring := 8 },
      .longQuery { hd with ring := 8 } 0,
      .longQuery hd (2 ^ 64),
      .streamOpen { hd with ring := 8 } 0 0 0 []] : List Instr).all (fun c => !c.wf) = true := by decide +kernel
/-- Each of these commands fails one check of Instr.wf. -/
theorem test_ill_formed_5 :
    ([.streamOpen hd (2 ^ 8) 0 0 [],
      .streamOpen hd 0 (2 ^ 64) 0 [],
      .streamOpen hd 0 0 (2 ^ 32) [],
      .streamOpen hd 0 0 0 ([⟨2 ^ 64, 0, false, 0⟩]),
      .streamClose { hd with ring := 8 } 0,
      .streamClose hd (2 ^ 8),
      .strmTailWrite .zero (2 ^ 3) 0,
      .descriptorFetchDone .zero (2 ^ 3) ⟨0, 0, false, 0⟩,
      .descriptorFetchDone .zero 0 ⟨2 ^ 64, 0, false, 0⟩,
      .descriptorFetchFail .zero (2 ^ 3) 0,
      .descriptorFetchFail .zero 0 (2 ^ 64),
      .descStarved .zero (2 ^ 3),
      .bufferWriteDone .zero (2 ^ 3),
      .capture { hd with ring := 8 } ⟨0, 0, 0, 0, 1, 0, 0, 0⟩,
      .capture hd ⟨256, 0, 0, 0, 1, 0, 0, 0⟩,
      .hostReadDeferred .zero (2 ^ 3) 0,
      .registerWrite .zero (2 ^ 16) 0,
      .registerWrite .zero 2 0,
      .evMaskWrite .zero (2 ^ 3) 0,
      .evLast { hd with ring := 8 } 0,
      .evLast hd (2 ^ 8),
      .ledgerRead { hd with ring := 8 } 0 0,
      .ledgerRead hd (2 ^ 64) 0,
      .ledgerRead hd 0 (2 ^ 8),
      .ledgerExport { hd with ring := 8 } 0 0,
      .ledgerExport hd (2 ^ 64) 0,
      .ledgerExport hd 0 (2 ^ 64),
      .ledgerFreeze { hd with ring := 8 } 0,
      .ledgerFreeze hd (2 ^ 16),
      .ledgerUnfreeze { hd with ring := 8 }] : List Instr).all (fun c => !c.wf) = true := by decide +kernel
/-- Each of these commands fails one check of Instr.wf. -/
theorem test_ill_formed_6 :
    ([.ledgerClear { hd with ring := 8 } 0,
      .ledgerClear hd (2 ^ 64),
      .ledgerInfo { hd with ring := 8 },
      .evTest { hd with ring := 8 } (List.replicate 8 0),
      .evTest hd [],
      .parRead { hd with ring := 8 } 0 0 0 0,
      .parRead hd (2 ^ 8) 0 0 0,
      .parRead hd 0 (2 ^ 8) 0 0,
      .parRead hd 0 0 (2 ^ 16) 0,
      .parRead hd 0 0 0 (2 ^ 8),
      .parWrite { hd with ring := 8 } [],
      .parWrite hd (List.replicate 4033 0),
      .commit { hd with ring := 8 },
      .parDiscard { hd with ring := 8 },
      .updOpen { hd with ring := 8 } 0 true 0 0 0,
      .updOpen hd (2 ^ 8) true 0 0 0,
      .updOpen hd 0 true (2 ^ 32) 0 0,
      .updOpen hd 0 true 0 (2 ^ 64) 0,
      .updOpen hd 0 true 0 0 (2 ^ 32),
      .updBlock { hd with ring := 8 } 0 0 0 [],
      .updBlock hd (2 ^ 32) 0 0 [],
      .updBlock hd 0 (2 ^ 64) 0 [],
      .updBlock hd 0 0 (2 ^ 32) [],
      .updBlock hd 0 0 0 (List.replicate 4097 0),
      .updVerify { hd with ring := 8 },
      .updSchedule { hd with ring := 8 } 0,
      .updSchedule hd (2 ^ 48),
      .updCancel { hd with ring := 8 } true,
      .updConfirm { hd with ring := 8 } 0,
      .updConfirm hd (2 ^ 64)] : List Instr).all (fun c => !c.wf) = true := by decide +kernel
/-- Each of these commands fails one check of Instr.wf. -/
theorem test_ill_formed_7 :
    ([.updClose { hd with ring := 8 },
      .updInfo { hd with ring := 8 },
      .caravanReenum { hd with ring := 8 } 0 foundNothing foundNothing,
      .caravanReenum hd (2 ^ 8) foundNothing foundNothing,
      .caravanReenum hd 0 { foundNothing with fromA := 33 } foundNothing,
      .caravanReenum hd 0 foundNothing { foundNothing with fromA := 33 },
      .compatibilityReply .zero ⟨0, 0, 0, [], 65536⟩,
      .pcieError .zero (2 ^ 32) true] : List Instr).all (fun c => !c.wf) = true := by decide +kernel
/-- Each of these fails one check of a record that a command carries. -/
theorem test_ill_formed_field_1 :
    ([.nop { hd with tag := 2 ^ 32 },
      .mbxDoorbell .zero 0 0 [⟨0, 2 ^ 32, 0, false⟩],
      .mbxDoorbell .zero 0 0 [⟨0, 0, 2 ^ 32, false⟩],
      .descriptorFetchDone .zero 0 ⟨0, 2 ^ 32, false, 0⟩,
      .descriptorFetchDone .zero 0 ⟨0, 0, false, 2 ^ 32⟩,
      .capture hd ⟨0, 256, 0, 0, 1, 0, 0, 0⟩,
      .capture hd ⟨0, 0, 2 ^ 32, 0, 1, 0, 0, 0⟩,
      .capture hd ⟨0, 0, 0, 65536, 1, 0, 0, 0⟩,
      .capture hd ⟨0, 0, 0, 0, 65536, 0, 0, 0⟩,
      .capture hd ⟨0, 0, 0, 0, 1, 256, 0, 0⟩,
      .capture hd ⟨0, 0, 0, 0, 1, 0, 256, 0⟩,
      .capture hd ⟨0, 0, 0, 0, 1, 0, 0, 2 ^ 48⟩,
      .waymarkReceived .u0 ⟨0, 65536⟩ 0,
      .echoReq .d0 ⟨0, 0, List.replicate 256 0, 0⟩ false,
      .canFrame .zero ⟨2 ^ 29, true, false, false, false, [], false, false⟩,
      .canFrame .zero ⟨0, false, false, false, false, List.replicate 65 0, false, false⟩,
      .compatibilityReply .zero ⟨0, 0, 0, List.replicate 256 0, 0⟩,
      .ack .zero ⟨0, 0, 0, 0, 0, [], 65536⟩,
      .release ⟨0, 0, [], 2 ^ 32⟩,
      .ryranEnumeration (some ⟨List.replicate 65 0, 0, 0, 0, 0, false, false⟩) none,
      .ryranEnumeration (some ⟨[], 0, 65536, 0, 0, false, false⟩) none,
      .ryranEnumeration (some ⟨[], 0, 0, 2 ^ 32, 0, false, false⟩) none,
      .ryranEnumeration (some ⟨[], 0, 0, 0, 2 ^ 48, false, false⟩) none,
      .compatReenum .zero { foundNothing with idents := List.replicate 33 none },
      .compatReenum .zero { foundNothing with idents := [some ⟨true, 2 ^ 64, 0, 0⟩] },
      .compatReenum .zero { foundNothing with idents := [some ⟨true, 0, 2 ^ 32, 0⟩] },
      .compatReenum .zero { foundNothing with idents := [some ⟨true, 0, 0, 65536⟩] },
      .compatReenum .zero { foundNothing with count := some 256 },
      .compatReenum .zero { foundNothing with enumNext := some 256 },
      .compatReenum .zero { foundNothing with lRing := 2 ^ 32 },
      .tickTrigger { tick0 with gref := [] },
      .tickTrigger { tick0 with gref := List.replicate 8 ⟨8388608, 0, none⟩ },
      .tickTrigger { tick0 with gref := List.replicate 8 ⟨0, -8388609, none⟩ },
      .tickTrigger { tick0 with len := 0 },
      .tickTrigger { tick0 with fe0 := { fe0 with shunt := ⟨3126, 0, none⟩ } },
      .tickTrigger { tick0 with fe0 := { fe0 with hall := ⟨-3126, 0, none⟩ } },
      .tickTrigger { tick0 with fe1 := { fe0 with vpack := ⟨0, 8388608, none⟩ } },
      .tickTrigger { tick0 with fe1 := { fe0 with vlink := ⟨0, -8388609, none⟩ } }] : List Instr).all (fun c => !c.wf) = true := by decide +kernel
/-- Their well-formed counterparts, one for each command. -/
theorem test_well_formed_1 :
    ([.powerGood true true true,
      .withdrawal,
      .supplyLoss,
      .referenceDetect .zero,
      .referenceLost .zero,
      .refFreqCompare 0,
      .bypassRun true,
      .pllLock,
      .pllLockLost,
      .domainSwitchDone,
      .domainSwitchTimeout,
      .pllEnWrite 0,
      .apply 0,
      .watchdogExpiry,
      .clocklessHold,
      .referenceReturnRestart .zero,
      .firmwareBoot true,
      .ledgerScan,
      .ownershipArbitration,
      .ryranEnumeration none none,
      .caravanEnumeration foundNothing foundNothing,
      .stateRecordRestoreTimeout,
      .joinDispatch,
      .dualActiveResolved,
      .tickTrigger tick0,
      .angleSourceTick tick0,
      .virtualMainsEntry,
      .virtualMainsExit 0,
      .waymarkReceived .u0 (waymark 0) 0,
      .waymarkMissed .u0,
      .unsynchronised,
      .resynchronise 0,
      .upstreamReturn,
      .successorBecomesSource,
      .echoReq .d0 (ryran 0 []) true,
      .echoRep .zero (ryran 0 []) 0,
      .echoTimeout .u0,
      .hopRemeasure,
      .loopTrace .zero (ryran 0 []),
      .triggerSend .zero 0,
      .snapSend .zero,
      .featureRec .zero (caravan 0 0 0 []),
      .deliveryDeadline .zero,
      .transactionTimeout .zero 0,
      .lostUnitPoll .zero,
      .statusRep .zero (caravan 0 0 0 []),
      .statusPoll .zero,
      .ack .zero (caravan 0 0 0 []),
      .nak .zero (caravan 0 0 0 []),
      .watchStream .zero (caravan 0 0 0 []),
      .tickSumSend .zero,
      .tickSum .zero true (caravan 0 0 0 []),
      .wrapNotice .zero (caravan 0 0 0 []),
      .ringLockLoss .zero true,
      .ringTriggerTimeout .zero 0] : List Instr).all (fun c => c.wf) = true := by decide +kernel
/-- Their well-formed counterparts, one for each command. -/
theorem test_well_formed_2 :
    ([.ringRestore .zero 0,
      .compatReenum .zero foundNothing,
      .balanceRefresh .zero,
      .bal12Refresh .zero,
      .faultLoopOpen .zero,
      .faultLoopClose .zero,
      .openwireSchedule .zero,
      .openwireRep .zero (caravan 0 0 0 []),
      .isoOkChange .zero true,
      .latchedLoRead .zero 0,
      .calPoint hd 0 0 true 0,
      .calPointDone 0 0,
      .calSolve hd 0 0,
      .frameClose 0,
      .currentVote .zero,
      .sourceClear hd 0 0 0 0,
      .tickPropagation,
      .dischargeStop .zero,
      .frameUpdate,
      .learningDurationExpiry .zero,
      .referenceStarved .zero,
      .stateRecordCapture,
      .stateOffer hd 0 0 [],
      .balanceReview,
      .thermalInputTimeout 0,
      .thermalNodeLost 0,
      .dieReading 0,
      .dieTemp (peerFrame 0 []),
      .tempHostWrite 0,
      .controlLatch 0 0,
      .slotInputTimeout 0,
      .ctlBankReqWrite true 0,
      .latClr 0,
      .ctlSwap hd 0 true,
      .ctlReadSlot hd 0,
      .phasorRecordForm,
      .phasorRecord .zero (ryran 0 []),
      .vote,
      .holdingPeriodBoundary,
      .headroomSum .zero (ryran 0 []),
      .sumSendDeadline,
      .roundClose,
      .fraction .zero (ryran 0 []),
      .fractionHoldExpiry,
      .planClose,
      .holdSet hd 0 0 0,
      .leadMove hd 0 0,
      .leadMoveExecute,
      .comparatorTrip .zero .iChg,
      .comparatorRelease .zero .iChg,
      .outriderTripReport .zero,
      .blindString .zero,
      .thresholdWrite 0 0,
      .protectionBoundary,
      .comparatorProof .zero none] : List Instr).all (fun c => c.wf) = true := by decide +kernel
/-- Their well-formed counterparts, one for each command. -/
theorem test_well_formed_3 :
    ([.coilTest ⟨.low, .low, 0, false⟩,
      .testOverdue .zero .kPos true,
      .contactorDropout .zero .kPos ⟨.low, .low, 0, false⟩,
      .comparatorTestDue .zero,
      .stringOpen hd 0,
      .openCurrentLow .zero,
      .weldCheck .zero,
      .stringClose hd 0,
      .kNegSettled .zero ⟨.low, .low, 0, false⟩,
      .prechargeReached .zero,
      .prechargeFail .zero,
      .kPosSettled .zero ⟨.low, .low, 0, false⟩,
      .protReset hd 0 none,
      .coilSupply 0,
      .heartbeatAnswer 0 0,
      .heartbeatLate,
      .ownershipLineFree,
      .ownerQualified,
      .releaseOverlapEnd,
      .releaseRetake,
      .holdExpiry,
      .holdAck,
      .holdDrop .zero,
      .takeover,
      .handover hd,
      .orderlyRelease,
      .selfRelease .noStream .zero,
      .ejectorOpen,
      .partnerPresence true,
      .isolate hd,
      .rejoin hd,
      .peerStatus (peerFrame 0 []),
      .peerStatusSend,
      .peerLinkDown,
      .pairParamMismatch,
      .stateRec (peerFrame 0 []),
      .unitTable (peerFrame 0 []),
      .hopComp (peerFrame 0 []),
      .holdState (peerFrame 0 []),
      .release (peerFrame 0 []),
      .peerEchoReq (peerFrame 0 []) true,
      .peerEchoRep (peerFrame 0 []) 0,
      .canFrame .zero ⟨0, false, false, false, false, [], false, false⟩,
      .rateDwellExpiry .zero,
      .rateSilentExpiry .zero,
      .basicCycleStart .zero,
      .canWindowStart .zero 0 0,
      .canTxDone .zero .success,
      .canBusOff .zero,
      .busOffRecovery .zero,
      .canPost hd 0 0 0 0 0 [],
      .canCancel hd 0,
      .perst .zero .link,
      .hostLinkDown .zero .link,
      .hostLinkUp .zero 0 true] : List Instr).all (fun c => c.wf) = true := by decide +kernel
/-- Their well-formed counterparts, one for each command. -/
theorem test_well_formed_4 :
    ([.mbxDoorbell .zero 0 0 [],
      .commandTimeout hd 0,
      .longDone 0,
      .longResultExpiry 0,
      .nop hd,
      .identify hd,
      .longQuery hd 0,
      .streamOpen hd 0 0 0 [],
      .streamClose hd 0,
      .strmTailWrite .zero 0 0,
      .descriptorFetchDone .zero 0 ⟨0, 0, false, 0⟩,
      .descriptorFetchFail .zero 0 0,
      .descStarved .zero 0,
      .bufferWriteDone .zero 0,
      .canrxFlush .zero,
      .capture hd ⟨0, 0, 0, 0, 1, 0, 0, 0⟩,
      .captureTrigger .zero,
      .hostReadDeferred .zero 0 0,
      .registerWrite .zero 0 0,
      .evMaskWrite .zero 0 0,
      .ledgerRecordWrite true true,
      .evLast hd 0,
      .ledgerRead hd 0 0,
      .ledgerExport hd 0 0,
      .ledgerFreeze hd 0,
      .ledgerUnfreeze hd,
      .freezeExpiry,
      .ledgerClear hd 0,
      .ledgerInfo hd,
      .evTest hd (List.replicate 8 0),
      .parRead hd 0 0 0 0,
      .parWrite hd [],
      .commit hd,
      .parDiscard hd,
      .persistenceDone true,
      .safetyScan,
      .updOpen hd 0 true 0 0 0,
      .updBlock hd 0 0 0 [],
      .updVerify hd,
      .updSchedule hd 0,
      .updCancel hd true,
      .updConfirm hd 0,
      .updClose hd,
      .updInfo hd,
      .activation,
      .confirmWindowExpiry,
      .caravanReenum hd 0 foundNothing foundNothing,
      .compatibilityReply .zero (caravan12 0 0 []),
      .partnerReadyChange true,
      .ownershipLineAsserted .free,
      .dieTempSend,
      .pcieError .zero 0 true,
      .activationOpenTimeout,
      .chargePumpStep] : List Instr).all (fun c => c.wf) = true := by decide +kernel

/-! ### Worked examples of the spec -/

/-- The card with some parameters acting. -/
def withPar (l : List (Nat × Nat)) : State := { card with par := { card.par with acting := l } }
/-- The state after a command. -/
def after (c : Instr) (s : State) : State :=
  match exec c s with
  | .next t => t
  | _ => s

/-- 00_scope.md, holding-period boundaries at H = 12: tick 120 of cycle 0, then tick 4 of cycle 1, not tick 0. -/
theorem test_holding_boundaries :
    [120, 128, 132].map (fun n => atBoundary { withPar [(0x0202, 12)] with grid := { card.grid with now := n } }) = [true, false, true] := by
  decide +kernel
/-- 03_caravan_rings.md, firing on time: a delay of 2,950 ns (a round trip of 6,900 ns with the unit's 1,000 ns) gives DLY_F 14,525, and
210 ns to the next character boundary give ADJ 105. -/
theorem test_firing_on_time :
    dlyOf (List.replicate 16 13800) = 14525 ∧
      (after (.triggerSend .zero 210) withRing).sent = [.trigger .zero false 1 105] := by decide +kernel
/-- 04_cell_sensing.md, impedance at order 6: 0.15114 − i0.02462 mΩ. -/
theorem test_impedance :
    (impedance card .zero ⟨41200, 0, [6], [], []⟩ ⟨0, false, false, false, false, [(1840, -610)]⟩ [some (25 / 2, -2)] 0).map
      (fun z => (roundHalfUp (F32.toRat z.1 * 100000), roundHalfUp (F32.toRat z.2 * 100000))) = some (15114, -2462) := by decide +kernel
/-- 05_string_front_ends.md, shunt calibration: c_z 1,230 and c_s 5,581,000 at 1,000 A give G = 1,000 ÷ 5,579,770 A per code. -/
theorem test_shunt_calibration :
    let s : State := { card with front.fe.zero.cal :=
      [(0, { port := .zero, zero := some (1230, 7900000000000), span := some (5581000, 0x447A0000, 7900000000000) })] }
    KV.get? (after (.calSolve hd 0 0) s).par.staged 0x0511 = some (F32.ofRat (1000 / 5579770)).toNat := by decide +kernel
/-- 06_alignment_and_fusion.md, step 3: of 352.4 A, 351.1 A and 329.0 A the PCS is outvoted and 351.75 A is voted. -/
theorem test_lying_pcs :
    (runCheck card (.current .zero) (agreeI card) [(.shunt .zero, some (3524 / 10)), (.hall .zero, some (3511 / 10)),
      (.pcs .zero, some 329)] greaterMag).2.value = some (1407 / 4) := by decide +kernel
/-- 06_alignment_and_fusion.md, step 5: 352.4 A and 361.0 A with the PCS convicted disagree, so no value is voted. -/
theorem test_drifting_hall :
    (runCheck card (.current .zero) (agreeI card) [(.shunt .zero, some (3524 / 10)), (.hall .zero, some 361), (.pcs .zero, none)]
      greaterMag).2.value = none := by decide +kernel
/-- The loop of the example of 09_control_engine.md, at Ts = 1.25 ms with the default bank of slot 0. -/
def loop (r y hi : Rat) : LoopIn :=
  { bank := bankOf card 0 false, ts := F32.ofRat (125 / 100000), r := F32.ofRat r, f := F32.ofRat r, y := F32.ofRat y,
    lo := F32.ofRat (-5000), hi := F32.ofRat hi }
/-- 09_control_engine.md, step 3: from I = 15.000 at the limit of 410 kW, v = 416.280, u = 410 and I = 13.750. -/
theorem test_loop_at_limit :
    (let r := (evalSlot (loop 400 (3936 / 10) 410) { i := F32.ofRat 15, uPrev := F32.ofRat 410 }).1
     [r.v, r.uPrev, r.i].map fun x => roundHalfUp (F32.toRat x * 1000)) = [416280, 410000, 13750] := by decide +kernel
/-- 09_control_engine.md, Table 9-6, evaluation 2 with KT = 200: v = 309.394 and I = 6.339. -/
theorem test_loop_after_fall :
    (let r := (evalSlot (loop 300 (279629 / 1000) 5000) { i := F32.ofRat (532 / 100), uPrev := F32.ofRat (29128 / 100) }).1
     [r.v, r.i].map fun x => roundHalfUp (F32.toRat x * 1000)) = [309394, 6339] := by decide +kernel
/-- The string 0 of M4 in the example of 10_point_hold_dispatch.md. -/
def m4 : State :=
  { card with
    est := { card.est with seed := true,
                           str := { zero := { spanZero := false, sR := F32.ofRat 62, u := F32.ofRat (8 / 10), c := F32.ofRat 294 }, one := {} } }
    hold := { card.hold with mode := .member, p := { zero := 300, one := 0 } }
    can := { bus := { zero := { st := .scheduled }, one := {} },
             pcs := { zero := { lost := false, ready := true, status := some (F32.ofRat 1250, F32.ofRat 1250, F32.ofRat 1000, F32.ofRat 1500) },
                      one := {} } }
    prot := { zero := { kPos := { a := .high }, kNeg := { a := .high }, lMax := F32.ofRat 1400, lMin := F32.ofRat (-900) }, one := {} }
    fus := { card.fus with frames := { zero := some ⟨0, false, [], [0, 0, F32.ofRat 1120, 0], none, false, none, none, [], 0⟩, one := none } }
    therm := { card.therm with dn := { zero := F32.ofRat (9 / 10), one := F32.one } } }
/-- 10_point_hold_dispatch.md: U_0 = 719.1 kW, D_0 = 362.7 kW, QC_0 = 1,000.0 kvar; B is low where a contactor is closed. -/
theorem test_headroom :
    headroomOf { m4 with prot := { m4.prot with zero := { m4.prot.zero with kPos := { a := .high, b := .low },
                                                                             kNeg := { a := .high, b := .low } } } } .zero =
      (7191 / 10, 3627 / 10, 1000) := by decide +kernel
/-- 11_protection_outrider.md, R327: CHAL 0x01 wants 0x08 XOR 0x5C = 0x54. -/
theorem test_heartbeat_answer : hbAnswer 1 = 0x54 := by decide
/-- 13_can_fd_buses.md: at candidate 1 a SETPOINT takes 115.6 µs and a STATUS 139.6 µs. -/
theorem test_can_frames : canFrameNs (candBit 1) 20 = 115600 ∧ canFrameNs (candBit 1) 32 = 139600 := by decide
/-- 16_parameter_dictionary.md: 600 A and −600 A have codes 2,633 and 1,463; 700 A and −700 A 0xAAA and 0x555. -/
theorem test_threshold_codes :
    [thrCode card 0, thrCode card 1, thrCode (withPar [(0x0B20, 700), (0x0B21, 700)]) 0,
      thrCode (withPar [(0x0B20, 700), (0x0B21, 700)]) 1] = [2633, 1463, 0xAAA, 0x555] := by decide +kernel
/-- 19_register_map.md: PROT1_STAT, the VP_OV threshold code and PROT1_TRIP_LO of a trip at 52250:40. -/
theorem test_trip_registers :
    regProtStat { card with prot := { zero := {}, one := { outrTrip := true, outrCause := 4, st := .tripped } } } .one = 0x00500011 ∧
      thrCode card 7 = 0xE18 ∧
      bar0Read { card with prot := { zero := {}, one := { tripStamp := ⟨52250, 40, 256⟩ } } } .one 0x091C = 0xCC1A5100 := by
  decide +kernel
/-- The table gives its rows no bits. -/
theorem test_no_table_words : decodeTableWord 32 0 = none := rfl

/-! ### The hypotheses of the statements about frames, reach and the whole block -/

/-- Every command answers a next state in every state: what the frame statements assume holds of each of their clauses. -/
theorem every_command_answers (c : Instr) (s : State) : exec c s = .next (after c s) := by cases c <;> rfl

theorem witness_PowerAndClockFrames : ∃ s t, exec .pllLockLost s = .next t ∧ s.clk.lock = true ∧ t.clk.lock = false :=
  ⟨card, after .pllLockLost card, every_command_answers _ _, by decide +kernel⟩
theorem witness_BringUpAndGridFrames : ∃ s t, exec .virtualMainsEntry s = .next t ∧ s.grid.virt = false ∧ t.grid.virt = true :=
  ⟨{ source with grid.outRefs := 8 }, after .virtualMainsEntry _, every_command_answers _ _, by decide +kernel⟩
theorem witness_RingAndSensingFrames :
    ∃ s t, exec (.ringTriggerTimeout .zero 1) s = .next t ∧ s.ring.zero.split = false ∧ t.ring.zero.split = true :=
  ⟨withRing, after (.ringTriggerTimeout .zero 1) withRing, every_command_answers _ _, by decide +kernel⟩
theorem witness_EstimationAndControlFrames : ∃ s t, exec (.tempHostWrite 400) s = .next t ∧ s.therm.slotT = 0 ∧ t.therm.slotT = 400 :=
  ⟨card, after (.tempHostWrite 400) card, every_command_answers _ _, by decide +kernel⟩
theorem witness_HoldAndRoleFrames :
    ∃ s t, exec .ownershipLineFree s = .next t ∧ s.outr.line = .bOwns ∧ t.outr.line = .free :=
  ⟨mate, after .ownershipLineFree mate, every_command_answers _ _, by decide +kernel⟩
theorem witness_ProtectionFrames :
    ∃ s t, exec (.comparatorTrip .one .vpOv) s = .next t ∧ s.prot.one.outrTrip = false ∧ t.prot.one.outrTrip = true :=
  ⟨card, after (.comparatorTrip .one .vpOv) card, every_command_answers _ _, by decide +kernel⟩
theorem witness_PairFrames : ∃ s t, exec .peerLinkDown s = .next t ∧ s.pair.linkUp = true ∧ t.pair.linkUp = false :=
  ⟨card, after .peerLinkDown card, every_command_answers _ _, by decide +kernel⟩
theorem witness_CanFrames : ∃ s t, exec (.canBusOff .zero) s = .next t ∧ t.can.bus.zero.fc = .busOff :=
  ⟨{ card with can := { card.can with bus := { zero := { st := .normal }, one := {} } } }, after (.canBusOff .zero) _,
    every_command_answers _ _, by decide +kernel⟩
theorem witness_PortFrames : ∃ s t, exec (.hostLinkDown .zero .link) s = .next t ∧ portUp s .zero = true ∧ portUp t .zero = false :=
  ⟨card, after (.hostLinkDown .zero .link) card, every_command_answers _ _, by decide +kernel⟩
theorem witness_LedgerParameterAndUpdateFrames : ∃ s t, exec (.ledgerClear hd 4) s = .next t ∧ s.ev.floor = 0 ∧ t.ev.floor = 5 :=
  ⟨{ card with ev := { card.ev with next := 9 } }, after (.ledgerClear hd 4) _, every_command_answers _ _, by decide +kernel⟩
theorem witness_StringCommandsLeaveTheOtherString :
    ∃ (x y : Ix) (c : Comparator) (s t : State), exec (.comparatorTrip x c) s = .next t ∧ y ≠ x ∧ t.prot.get x ≠ s.prot.get x :=
  ⟨.one, .zero, .vlOv, card, after (.comparatorTrip .one .vlOv) card, every_command_answers _ _, by decide +kernel⟩
theorem witness_RingCommandsLeaveTheOtherRing :
    ∃ (x y : Ix) (s t : State), exec (.tickSumSend x) s = .next t ∧ y ≠ x ∧ t.ring.get x ≠ s.ring.get x :=
  ⟨.zero, .one, withRing, after (.tickSumSend .zero) withRing, every_command_answers _ _, by decide +kernel⟩
theorem witness_BusAndPortCommandsLeaveTheOther :
    ∃ (x y : Ix) (s t : State), exec (.basicCycleStart x) s = .next t ∧ y ≠ x ∧ t.can.bus.get x ≠ s.can.bus.get x :=
  ⟨.zero, .one, card, after (.basicCycleStart .zero) card, every_command_answers _ _, by decide +kernel⟩
/-- A STATE_REC of the two last bytes of buffer 1, and an address just below them. -/
theorem witness_StoresChangeOnlyWhereWritten_1 :
    ∃ (f : PeerFrame) (s t : State) (k : Ix) (a : Nat), memsOk s = true ∧ exec (.stateRec f) s = .next t ∧ k = Ix.ofNum (byteAt f.payload 0) ∧
      a < beAt f.payload 1 4 ∧ t.est.peerBuf.get k = [(43262, 7), (43263, 9)] :=
  ⟨peerFrame 0x32 [1, 0, 0, 0xA8, 0xFE, 7, 9], mate, after (.stateRec (peerFrame 0x32 [1, 0, 0, 0xA8, 0xFE, 7, 9])) mate, .one, 43261,
    by decide +kernel, every_command_answers _ _, by decide +kernel⟩
theorem witness_StoresChangeOnlyWhereWritten_2 :
    ∃ (h : Hdr) (off ad crc : Nat) (d : List Byte) (s t : State) (a : Nat), memsOk s = true ∧ exec (.updBlock h off ad crc d) s = .next t ∧
      ((curJournal s).imgType ≠ 1 → a < off ∨ off + d.length ≤ a) :=
  ⟨hd, 4096, 0, 0, [], card, after (.updBlock hd 4096 0 0 []) card, 4095, by decide +kernel, every_command_answers _ _, fun _ => .inl (by decide)⟩
theorem witness_StepRunsTheFrontCommand :
    ∃ (c : Instr) (rest : List Instr) (s : State), s.pending = c :: rest ∧ step s = exec c { s with pending := rest } ∧
      (exec c { s with pending := rest } = .next (after c { s with pending := rest })) :=
  ⟨.withdrawal, [.powerGood true true true], { card with pending := [.withdrawal, .powerGood true true true] }, rfl, rfl,
    every_command_answers _ _⟩
theorem witness_StepRunsTheFrontCommand_idle : ∃ s : State, s.pending = [] := ⟨card, rfl⟩
theorem witness_QueueAndIdentityKept : ∃ (c : Instr) (s t : State), exec c s = .next t ∧ s.pending = [.nop hd] :=
  ⟨.withdrawal, { card with pending := [.nop hd] }, after .withdrawal _, every_command_answers _ _, rfl⟩
theorem witness_NonVolatileKept : ∃ s t : State, exec .supplyLoss s = .next t ∧ s.ev.floorMram ≠ State.reset.ev.floorMram :=
  ⟨{ card with ev := { card.ev with floorMram := (3, 2 ^ 64 - 4) } }, after .supplyLoss _, every_command_answers _ _, by decide +kernel⟩
/-- A step that writes a byte, from a state that meets the invariant. -/
theorem witness_StoresStayCanonical :
    ∃ s t : State, memsOk s = true ∧ step s = .next t ∧ t.est.peerBuf.get .one = [(43262, 7), (43263, 9)] :=
  ⟨{ mate with pending := [.stateRec (peerFrame 0x32 [1, 0, 0, 0xA8, 0xFE, 7, 9])] },
    after (.stateRec (peerFrame 0x32 [1, 0, 0, 0xA8, 0xFE, 7, 9])) mate, by decide +kernel,
    every_command_answers (.stateRec (peerFrame 0x32 [1, 0, 0, 0xA8, 0xFE, 7, 9])) mate, by decide +kernel⟩
/-- An active module takes a step that makes it standby, from a state that meets the invariant. -/
theorem witness_OnlyAnActiveModuleSends :
    ∃ s t : State, onlyActiveSends s = true ∧ step s = .next t ∧ isActive s = true ∧ isActive t = false :=
  ⟨{ card with outr := { card.outr with owner := false }, pending := [.dualActiveResolved] },
    after .dualActiveResolved { card with outr := { card.outr with owner := false } }, by decide +kernel,
    every_command_answers .dualActiveResolved { card with outr := { card.outr with owner := false } }, by decide +kernel⟩
theorem witness_RoleChangesOnlyAlongItsTransitions :
    ∃ (c : Instr) (s t : State), exec c s = .next t ∧ s.pair.role = .active ∧ t.pair.role = .isolated :=
  ⟨.isolate hd, card, after (.isolate hd) card, every_command_answers _ _, by decide +kernel⟩
/-- The active module that holds synchronisation and is in the normal state enters the scheduled state with a basic cycle. -/
theorem witness_ScheduledOnlyOnAnActiveModule_1 :
    ∃ (c : Instr) (s t : State) (b : Ix), exec c s = .next t ∧ (s.can.bus.get b).st ≠ .scheduled ∧ (t.can.bus.get b).st = .scheduled :=
  ⟨.basicCycleStart .zero, { card with can := { card.can with bus := { zero := { st := .normal, rate := 1 }, one := {} } } },
    after (.basicCycleStart .zero) _, .zero, every_command_answers _ _, by decide +kernel⟩
theorem witness_ScheduledOnlyOnAnActiveModule_2 :
    ∃ (c : Instr) (s t : State), onlyActiveSends s = true ∧ exec c s = .next t ∧ t.pair.role ≠ s.pair.role ∧ t.pair.role ≠ .active :=
  ⟨.isolate hd, card, after (.isolate hd) card, by decide +kernel, every_command_answers _ _, by decide +kernel⟩
theorem witness_TripOpensItsStringOnly_1 :
    ∃ (x : Ix) (c : Comparator) (s : State), s.elec.powered = true ∧
      (testBit (s.prot.get x).outrCause c.num = true → (s.prot.get x).outrTrip = true) ∧ hsOn s x .kPos = true :=
  ⟨.zero, .vlOv, { card with prot := { zero := { kPos := { reqHs := true } }, one := {} } }, by decide +kernel⟩
theorem witness_TripOpensItsStringOnly_2 :
    ∃ (x : Ix) (s : State), s.elec.powered = true ∧ ((s.prot.get x).fltLoop = true → (s.prot.get x).outrTrip = true) ∧
      hsOn s x .kPos = true :=
  ⟨.zero, { card with prot := { zero := { kPos := { reqHs := true } }, one := {} } }, by decide +kernel⟩
theorem witness_TripOpensItsStringOnly_3 : ∃ (x : Ix) (s : State), (s.prot.get x).procTrip = false ∧ hsOn s x .kPos = true :=
  ⟨.zero, { card with prot := { zero := { kPos := { reqHs := true } }, one := {} } }, by decide +kernel⟩
/-- A PEER_STATUS of a partner of variant 2. -/
def otherVariant : PeerFrame := peerFrame 0x30 (List.replicate 32 0)
theorem witness_VariantMismatchIsolates_1 :
    ∃ s : State, running s = true ∧ s.elec.step = 6 ∧ s.pair.arbitrating = false ∧ s.pair.role ≠ .isolated ∧
      s.pair.peer.isSome = true ∧ s.pair.variantMatch = false :=
  ⟨{ mate with elec := { mate.elec with step := 6 },
               pair := { mate.pair with variantMatch := false, peer := some (readPeerStatus otherVariant.payload) } }, by decide +kernel⟩
theorem witness_VariantMismatchIsolates_2 :
    ∃ (s : State) (f : PeerFrame), running s = true ∧ 7 ≤ s.elec.step ∧ s.pair.role ≠ .isolated ∧ f.good 0x30 (· == 32) = true ∧
      (readPeerStatus f.payload).variant ≠ s.ident.variant :=
  ⟨{ card with elec := { card.elec with step := 7 } }, otherVariant, by decide +kernel⟩
theorem witness_VariantMismatchIsolates_3 :
    ∃ (s : State) (h : Hdr), hostReady s h = true ∧ alone s h = true ∧ s.pair.role = .isolated ∧ s.pair.peer.isSome = true ∧
      s.pair.variantMatch = false :=
  ⟨{ mate with pair := { mate.pair with role := .isolated, variantMatch := false, peer := some (readPeerStatus otherVariant.payload) } }, hd,
    by decide +kernel⟩
theorem witness_VariantMismatchIsolates_4 :
    ∃ (s : State) (f : PeerFrame), running s = true ∧ 7 ≤ s.elec.step ∧ s.pair.role = .isolated ∧ f.good 0x30 (· == 32) = true ∧
      (readPeerStatus f.payload).variant ≠ s.ident.variant ∧ (s.pair.peer = none ∨ s.pair.variantMatch = true) :=
  ⟨{ mate with pair := { mate.pair with role := .isolated } }, otherVariant, by decide +kernel⟩
theorem witness_VariantMismatchIsolates_5 :
    ∃ s : State, s.pair.role = .isolated ∧ running s = true ∧ s.elec.step = 6 ∧ s.pair.arbitrating = false ∧
      s.pair.peer.isSome = true ∧ s.pair.variantMatch = false :=
  ⟨{ mate with elec := { mate.elec with step := 6 },
               pair := { mate.pair with role := .isolated, variantMatch := false, peer := some (readPeerStatus otherVariant.payload) } },
    by decide +kernel⟩
theorem witness_LedgerHalvesAreLatched_1 : ∃ (p : Ix) (s : State), clocked s = true ∧ portUp s p = true ∧ s.elec.fw = true :=
  ⟨.one, card, by decide +kernel⟩
/-- The value moves on between the reads of its halves. -/
theorem witness_LedgerHalvesAreLatched_2 :
    ∃ (p : Ix) (s u : State), clocked s = true ∧ portUp s p = true ∧ s.elec.fw = true ∧ clocked u = true ∧ portUp u p = true ∧
      u.elec.fw = true ∧ KV.get? (u.host.port.get p).latch 0x0E84 = KV.get? ((after (.latchedLoRead p 0x0E84) s).host.port.get p).latch 0x0E84 ∧
      KV.get? (u.host.port.get p).latch 0x0E8C = KV.get? ((after (.latchedLoRead p 0x0E8C) s).host.port.get p).latch 0x0E8C ∧
      u.ev.next ≠ s.ev.next :=
  ⟨.one, { card with ev := { card.ev with next := 2 ^ 32 - 1 } },
    { card with ev := { card.ev with next := 2 ^ 32 },
                host := { card.host with port := { card.host.port with one := { up := true, latch := [(0x0E84, 0), (0x0E8C, 0)] } } } },
    by decide +kernel⟩
theorem witness_UnfittedFrontEndReadsZero_1 :
    ∃ (s : State) (p : Ix) (off : Nat), s.ident.variant = 2 ∧ clocked s = true ∧ portUp s p = true ∧
      off ∈ [0x0404, 0x0418, 0x041C, 0x0430, 0x0434, 0x0438, 0x043C] :=
  ⟨{ card with ident := { card.ident with variant := 2 } }, .zero, 0x043C, by decide +kernel⟩
theorem witness_UnfittedFrontEndReadsZero_2 : ∃ s : State, s.ident.variant = 2 :=
  ⟨{ card with ident := { card.ident with variant := 2 } }, rfl⟩
theorem witness_UnfittedFrontEndReadsZero_3 :
    ∃ (s : State) (p : Ix), s.ident.variant ≠ 2 ∧ clocked s = true ∧ portUp s p = true ∧ s.elec.fw = true := ⟨card, .zero, by decide +kernel⟩
theorem witness_DividersTakeEffectOnApply_1 :
    ∃ (p : Ix) (w : Word) (s t : State), exec (.registerWrite p 0x0108 w) s = .next t ∧ t.clk.div ≠ s.clk.div :=
  ⟨.zero, 0, card, after (.registerWrite .zero 0x0108 0) card, every_command_answers _ _, by decide +kernel⟩
theorem witness_DividersTakeEffectOnApply_2 :
    ∃ (c : Instr) (s t : State), exec c s = .next t ∧ t.clk.divActing ≠ s.clk.divActing :=
  ⟨.domainSwitchDone, { card with clk := { card.clk with applying := true, queue := [⟨.cpu, true⟩], divTaken := ⟨8, 8, 12, 12, 240⟩ } },
    after .domainSwitchDone _, every_command_answers _ _, by decide +kernel⟩
theorem witness_DividersTakeEffectOnApply_3 :
    ∃ (c : Instr) (s t : State), exec c s = .next t ∧ t.clk.divTaken ≠ s.clk.divTaken :=
  ⟨.apply 1, { card with clk := { card.clk with div := ⟨8, 8, 12, 12, 240⟩ } }, after (.apply 1) _, every_command_answers _ _,
    by decide +kernel⟩
/-- A CPU divider just below its minimum of 4. -/
theorem witness_DividersTakeEffectOnApply_4 :
    ∃ (w : Word) (s : State), clocked s = true ∧ dividerBad s.clk.div = true ∧ testBit w.toNat 0 = true :=
  ⟨1, { card with clk := { card.clk with div := ⟨3, 6, 12, 12, 240⟩ } }, by decide +kernel⟩
/-- Every divider at its minimum. -/
theorem witness_DividersTakeEffectOnApply_5 : ∃ s : State, clocked s = true ∧ dividerBad s.clk.div = false :=
  ⟨{ card with clk := { card.clk with div := ⟨4, 6, 12, 6, 96⟩ } }, by decide +kernel⟩
theorem witness_EvLastReturnsTheNewestOccurrence_1 :
    ∃ (s : State) (e f : Nat), f ≠ e ∧ f ≠ 248 ∧ f ≠ 249 ∧ (KV.get? s.ev.last f).isSome = true :=
  ⟨{ card with ev := { card.ev with last := [(96, ⟨96, Stamp.zero, true, true, false, false, [1]⟩)] } }, 97, 96, by decide +kernel⟩
theorem witness_EvLastReturnsTheNewestOccurrence_2 :
    ∃ (s : State) (h : Hdr) (e : Nat) (o : Occ), hostReady s h = true ∧ alone s h = true ∧ KV.get? s.ev.last e = some o :=
  ⟨{ card with ev := { card.ev with last := [(96, ⟨96, Stamp.zero, true, true, false, false, [1]⟩)] } }, hd, 96,
    ⟨96, Stamp.zero, true, true, false, false, [1]⟩, by decide +kernel⟩
theorem witness_EvLastReturnsTheNewestOccurrence_3 :
    ∃ (s : State) (h : Hdr) (e : Nat), hostReady s h = true ∧ alone s h = true ∧ KV.get? s.ev.last e = none := ⟨card, hd, 255, by decide +kernel⟩
theorem witness_EvLastReturnsTheNewestOccurrence_4 : ∃ s : State, running s = true := ⟨card, by decide +kernel⟩
theorem witness_EventSignalsFollowThePort_1 : ∃ s : State, clocked s = true := ⟨card, by decide +kernel⟩
theorem witness_EventSignalsFollowThePort_2 : ∃ (p : Ix) (s : State), portUp s p = false := ⟨.one, State.reset, by decide +kernel⟩
theorem witness_EventSignalsFollowThePort_3 :
    ∃ (p : Ix) (s : State) (e : Nat), portUp s p = true ∧ e < 256 ∧ (s.host.port.get p).pend.length = 8 ∧
      testBit ((s.host.port.get p).mask.getD (e / 32) 0) (e % 32) = true := ⟨.one, card, 255, by decide +kernel⟩

/-! ### Single commands -/

/-- Powered down, the card answers nothing: the command leaves the state as it was. -/
theorem test_reset_nop : after (.nop hd) State.reset = State.reset := by decide +kernel
/-- R313: a threshold whose complement disagrees is kept out and reported. -/
theorem test_threshold_rejected : (after (.thresholdWrite 9 0x0FFF0001) card).outr.thr = card.outr.thr := by decide +kernel
/-- R399: a doorbell more than 32 entries ahead of DONE is an error; 32 is not. -/
theorem test_doorbell_bound :
    (mbxRing (after (.mbxDoorbell .zero 0 33 []) card) .zero 0).dbErr = true ∧
      (mbxRing (after (.mbxDoorbell .zero 0 32 []) card) .zero 0).dbErr = false := by decide +kernel
/-- R331: once HOLD has run out both strings stand latched with HOLD_EXP. -/
theorem test_hold_expiry :
    (after .holdExpiry { card with outr := { card.outr with hold := .takeover } }).prot.one.holdExp = true := by decide +kernel
/-- A list of more than 2^32 bytes is no payload of STATE_OFFER. -/
theorem test_ill_formed_offer : Instr.wf (.stateOffer hd 0 0 (List.replicate (2 ^ 32 + 1) 0)) = false := by
  simp only [Instr.wf, List.length_replicate]
  decide

end Sys2Proof.Tests
end

