-- ==== Sys2Proof/Tests/Witness1.lean ====
section
/-! SUPPORT. Witnesses: states and operands that meet the hypotheses of the statements about supply, clocks, power-up, ticks, waymarks, echoes and rings. -/

namespace Sys2Proof.Tests

open Sys2Proof Sys2Proof.Machine

set_option Elab.async false

/-! ### SupplyCommandsTakeEffect -/

theorem witness_SupplyCommandsTakeEffect_1 :
    ∃ (s : State) (_slotB : Bool) (_strap2s : Bool) (_present : Bool), s.elec.powered = false :=
  ⟨State.reset, true, true, true,
    by decide +kernel⟩
theorem witness_SupplyCommandsTakeEffect_2 :
    ∃ (s : State), s.elec.powered = true :=
  ⟨card,
    by decide +kernel⟩
theorem witness_SupplyCommandsTakeEffect_3 :
    ∃ (s : State), s.elec.powered = true :=
  ⟨card,
    by decide +kernel⟩
theorem witness_SupplyCommandsTakeEffect_4 :
    ∃ (s : State), running s = true :=
  ⟨card,
    by decide +kernel⟩
theorem witness_SupplyCommandsTakeEffect_5 :
    ∃ (s : State), s.elec.powered = true ∧ s.elec.clockless = false ∧ refPresent s = false ∧ 3 ≤ s.elec.step :=
  ⟨{ card with clk.refOk := Two.both false },
    by decide +kernel⟩
theorem witness_SupplyCommandsTakeEffect_6 :
    ∃ (s : State) (_r : Ix), s.elec.powered = true ∧ s.elec.clockless = true :=
  ⟨{ card with elec.clockless := true, outr.hold := .clockless }, .one,
    by decide +kernel⟩

/-! ### ClockCommandsTakeEffect -/

theorem witness_ClockCommandsTakeEffect_1 :
    ∃ (s : State) (_r : Ix), s.elec.powered = true ∧ s.elec.clockless = false ∧ (s.elec.step = 2 ∨ refPresent s = true) :=
  ⟨{ card with elec.step := 2, clk.refOk := Two.both false }, .one,
    by decide +kernel⟩
theorem witness_ClockCommandsTakeEffect_2 :
    ∃ (s : State) (r : Ix), clocked s = true ∧ s.clk.refOk.get r = true :=
  ⟨card, .zero,
    by decide +kernel⟩
theorem witness_ClockCommandsTakeEffect_3 :
    ∃ (s : State) (n : Nat), clocked s = true ∧ s.clk.refOk.zero = true ∧ s.clk.refOk.one = true ∧
      600 * 1048576 < ((n - 1048576) + (1048576 - n)) * 1000000 :=
  ⟨card, 1047946,
    by decide +kernel⟩
theorem witness_ClockCommandsTakeEffect_4 :
    ∃ (s : State), clocked s = true ∧ s.elec.step = 3 ∧ s.clk.refOk.zero || s.clk.refOk.one :=
  ⟨{ card with elec.step := 3, elec.fw := false },
    by decide +kernel⟩
theorem witness_ClockCommandsTakeEffect_5 :
    ∃ (s : State), clocked s = true ∧ 4 ≤ s.elec.step ∧ s.clk.pllEn = true ∧ s.clk.lock = false :=
  ⟨{ card with elec.step := 4, clk.lock := false },
    by decide +kernel⟩
theorem witness_ClockCommandsTakeEffect_6 :
    ∃ (s : State), clocked s = true ∧ s.clk.lock = true :=
  ⟨card,
    by decide +kernel⟩
theorem witness_ClockCommandsTakeEffect_7 :
    ∃ (s : State) (d : Domain) (pll : Bool) (rest : List DomSwitch), clocked s = true ∧ s.clk.queue = ⟨d, pll⟩ :: rest :=
  ⟨{ card with clk.queue := [⟨.cpu, false⟩, ⟨.eng, false⟩] }, .cpu, false, [⟨.eng, false⟩],
    by decide +kernel⟩
theorem witness_ClockCommandsTakeEffect_8 :
    ∃ (s : State) (d : Domain) (pll : Bool) (rest : List DomSwitch), clocked s = true ∧ s.clk.queue = ⟨d, pll⟩ :: rest :=
  ⟨{ card with clk.queue := [⟨.ctl, true⟩] }, .ctl, true, [],
    by decide +kernel⟩
theorem witness_ClockCommandsTakeEffect_9 :
    ∃ (s : State) (_w : Word), clocked s = true :=
  ⟨card, 0,
    by decide +kernel⟩
theorem witness_ClockCommandsTakeEffect_10 :
    ∃ (s : State) (_w : Word), clocked s = true :=
  ⟨card, 3,
    by decide +kernel⟩
theorem witness_ClockCommandsTakeEffect_11 :
    ∃ (s : State), clocked s = true ∧ s.clk.pumpWait = false ∧ s.clk.pump ≠ pumpOf s.therm.bandInForce :=
  ⟨{ card with clk.pump := 100 },
    by decide +kernel⟩

/-! ### PowerUpStepsTakeEffect -/

theorem witness_PowerUpStepsTakeEffect_1 :
    ∃ (s : State) (r : SelRec), clocked s = true ∧ s.elec.fw = false ∧ s.elec.isolation = 0 ∧
      (s.elec.step = 4 ∨ s.elec.step = 5) ∧ selOf s = some r ∧ r.trial = false ∧ slotSigned s r = true :=
  ⟨{ card with elec.fw := false, elec.step := 5 },
    { seq := 1, slot := .zero, trial := false, boots := 0, fallbackValid := false, converted := false, activeVer := 0, fallbackVer := 0, actCycle := 0, failBoots := 0 },
    by decide +kernel⟩
theorem witness_PowerUpStepsTakeEffect_2 :
    ∃ (s : State), running s = true ∧ s.elec.scanned = false :=
  ⟨{ card with
      elec.scanned := false,
      ev.slots := [(0, { seq := 41, occ := ⟨1, Stamp.zero, false, false, false, false, []⟩, more := false, part := 0, data := [], valid := true })] },
    by decide +kernel⟩
theorem witness_PowerUpStepsTakeEffect_3 :
    ∃ (s : State), running s = true ∧ s.elec.step = 6 ∧ s.pair.arbitrating = false ∧ s.pair.role ≠ .isolated ∧
      ¬ (s.outr.owner = true ∧ s.outr.hold = .restart) ∧ (s.pair.peer = none ∨ s.pair.variantMatch = true) :=
  ⟨{ mate with elec.step := 6, outr.line := .free },
    by decide +kernel⟩
theorem witness_PowerUpStepsTakeEffect_4 :
    ∃ (s : State), running s = true ∧ isActive s = true ∧ s.outr.owner = false :=
  ⟨{ card with outr.owner := false },
    by decide +kernel⟩
theorem witness_PowerUpStepsTakeEffect_5 :
    ∃ (s : State) (_e0 : Option EchoRun) (_e1 : Option EchoRun), running s = true ∧ s.elec.step = 7 :=
  ⟨{ card with elec.step := 7 }, none, none,
    by decide +kernel⟩
theorem witness_PowerUpStepsTakeEffect_6 :
    ∃ (s : State) (_f0 : RingFind) (_f1 : RingFind), running s = true ∧ s.elec.step = 8 :=
  ⟨{ card with elec.step := 8 }, foundNative, foundNothing,
    by decide +kernel⟩
theorem witness_PowerUpStepsTakeEffect_7 :
    ∃ (s : State), running s = true ∧ s.elec.step = 9 :=
  ⟨{ card with elec.step := 9 },
    by decide +kernel⟩
theorem witness_PowerUpStepsTakeEffect_8 :
    ∃ (s : State), drives s = true ∧ (s.elec.step = 10 ∨ s.elec.step = 11) ∧ atBoundary s = true ∧ s.grid.sync = true ∧
      s.grid.holdFrom.any (fun c => decide (c ≤ curCycle s)) = true :=
  ⟨{ card with elec.step := 10, grid.holdFrom := some 1000 },
    by decide +kernel⟩

/-! ### TicksAndVirtualMainsTakeEffect -/

theorem witness_TicksAndVirtualMainsTakeEffect_1 :
    ∃ (s : State) (_i : TickIn), running s = true ∧ s.grid.on = true ∧ s.grid.head = false :=
  ⟨card, tick0,
    by decide +kernel⟩
theorem witness_TicksAndVirtualMainsTakeEffect_2 :
    ∃ (s : State) (_i : TickIn), running s = true ∧ s.grid.on = false ∧ 3 ≤ s.elec.step :=
  ⟨{ card with grid := {} , elec.step := 3 }, tick0,
    by decide +kernel⟩
theorem witness_TicksAndVirtualMainsTakeEffect_3 :
    ∃ (s : State) (_i : TickIn), drives s = true ∧ s.grid.on = true ∧ s.grid.head = true :=
  ⟨source, tick0,
    by decide +kernel⟩
theorem witness_TicksAndVirtualMainsTakeEffect_4 :
    ∃ (s : State), running s = true ∧ s.grid.head = true ∧ s.grid.virt = false ∧ referenceGone s = true :=
  ⟨{ source with grid.badRefs := 4 },
    by decide +kernel⟩
theorem witness_TicksAndVirtualMainsTakeEffect_5 :
    ∃ (s : State) (_off : Nat), running s = true ∧ s.grid.head = true ∧ s.grid.virt = true ∧ s.grid.slew = false ∧ 100 ≤ s.grid.goodRefs :=
  ⟨{ source with grid.virt := true, grid.goodRefs := 100 }, 128,
    by decide +kernel⟩

/-! ### WaymarkCommandsTakeEffect -/

theorem witness_WaymarkCommandsTakeEffect_1 :
    ∃ (s : State) (p : UpPort) (f : WmFrame) (_arr : Nat), running s = true ∧ portUsed s p = true ∧ f.good = true ∧
      (stream s p).accepted = true ∧ (stream s p).next = some (readWaymark f.word).tick ∧
      (∀ m, (stream s p).lastNamed = some m → m / 128 ≤ (readWaymark f.word).tick / 128) :=
  ⟨{ card with
      grid.u0 := { accepted := true, next := some 128010, lastNamed := some 128009, linkUp := true, arrivals := [8000000000000 - 100, 8000000000000 - 1250100] } },
    .u0, waymark 65541120, 8000000000000,
    by decide +kernel⟩
theorem witness_WaymarkCommandsTakeEffect_2 :
    ∃ (s : State) (p : UpPort) (f : WmFrame) (_arr : Nat), running s = true ∧ portUsed s p = true ∧ f.good = true ∧
      (stream s p).accepted = false ∧ (stream s p).acq = 15 ∧ (stream s p).next = some (readWaymark f.word).tick ∧
      (∀ m, recordCycle s = some m → m ≤ (readWaymark f.word).tick / 128) :=
  ⟨{ card with grid.u1 := { acq := 15, next := some 128010, lastNamed := some 127900 } }, .u1, waymark 65541120, 8000000000000,
    by decide +kernel⟩
theorem witness_WaymarkCommandsTakeEffect_3 :
    ∃ (s : State) (p : UpPort) (f : WmFrame) (_arr : Nat), running s = true ∧ portUsed s p = true ∧ f.good = false :=
  ⟨{ card with
      grid.u0 := { accepted := true, next := some 128010, lastNamed := some 128009, linkUp := true, arrivals := [8000000000000 - 100, 8000000000000 - 1250100] } },
    .u0, ⟨65541120, 0⟩, 0,
    by decide +kernel⟩
theorem witness_WaymarkCommandsTakeEffect_4 :
    ∃ (s : State) (p : UpPort), running s = true ∧ portUsed s p = true ∧ (stream s p).accepted = true ∧
      (stream s p).next.isSome = true :=
  ⟨{ card with grid.u0 := { accepted := true, next := some 128010, lastNamed := some 128009, discards := 7 } }, .u0,
    by decide +kernel⟩
theorem witness_WaymarkCommandsTakeEffect_5 :
    ∃ (s : State), running s = true ∧ s.grid.head = false ∧ s.grid.sync = true ∧ s.grid.coast = true ∧ 8 ≤ s.grid.coastAge :=
  ⟨{ card with grid.coast := true, grid.coastAge := 8 },
    by decide +kernel⟩
theorem witness_WaymarkCommandsTakeEffect_6 :
    ∃ (s : State) (_off : Int) (k : Nat) (n : Nat), running s = true ∧ s.grid.resync = some k ∧
      (stream s (UpPort.ofNum k)).accepted = true ∧ (stream s (UpPort.ofNum k)).lastNamed = some n ∧
      (s.grid.head = false ∨ s.grid.yielding = true) :=
  ⟨{ card with
      grid.u0 := { accepted := true, next := some 128010, lastNamed := some 128009, linkUp := true, arrivals := [8000000000000 - 100, 8000000000000 - 1250100] },
      grid.resync := some 0 }, 0, 0, 128009,
    by decide +kernel⟩
theorem witness_WaymarkCommandsTakeEffect_7 :
    ∃ (s : State), running s = true ∧ s.grid.sel = .one ∧ s.grid.u0.accepted = true ∧ s.grid.u0.inconsistent = false ∧
      128 * parN s 0x0205 ≤ s.grid.u0.validTicks ∧ curTick s = 0 ∧ s.grid.head = false ∧ curStream s = .u1 :=
  ⟨{ card with
      grid.sel := .one,
      grid.u0 := { accepted := true, next := some 128010, lastNamed := some 128009, validTicks := 1000000 } },
    by decide +kernel⟩
theorem witness_WaymarkCommandsTakeEffect_8 :
    ∃ (s : State), drives s = true ∧ s.grid.head = false ∧ s.grid.coast = true ∧ 2 ≤ ownRank s ∧ s.grid.coastAge = ownRank s ∧
      s.grid.sync = true :=
  ⟨{ card with grid.coast := true, grid.coastAge := 2, par.acting := [(0x0204, 5), (0x0A03, 5)] },
    by decide +kernel⟩

/-! ### EchoAndTraceCommandsTakeEffect -/

theorem witness_EchoAndTraceCommandsTakeEffect_1 :
    ∃ (s : State) (f : RyrFrame), drives s = true ∧ f.good 0x04 4 = true :=
  ⟨card, ryran 4 [0, 0, 7, 9],
    by decide +kernel⟩
theorem witness_EchoAndTraceCommandsTakeEffect_2 :
    ∃ (s : State) (f : RyrFrame), drives s = true ∧ f.good 0x04 4 = true :=
  ⟨card, ryran 4 [0, 0, 7, 9],
    by decide +kernel⟩
theorem witness_EchoAndTraceCommandsTakeEffect_3 :
    ∃ (s : State) (f : RyrFrame), drives s = true ∧ f.good 0x04 4 = true :=
  ⟨card, ryran 4 [0, 0, 7, 9],
    by decide +kernel⟩
theorem witness_EchoAndTraceCommandsTakeEffect_4 :
    ∃ (s : State) (p : Ix) (f : RyrFrame) (_rtt : Nat), running s = true ∧ f.good 0x05 18 = true ∧ byteAt f.payload 1 = p.num ∧
      (stream s (upOf p)).echo.busy = true ∧ (stream s (upOf p)).echo.got + (stream s (upOf p)).echo.lost < 63 :=
  ⟨{ card with grid.u0.echo := { busy := true, got := 62, sent := 64, sum := 100 } }, .zero, ryran 5 (List.replicate 18 0), 77,
    by decide +kernel⟩
theorem witness_EchoAndTraceCommandsTakeEffect_5 :
    ∃ (s : State) (p : UpPort), running s = true ∧ (stream s p).echo.busy = true ∧
      (stream s p).echo.got + (stream s p).echo.lost < 63 :=
  ⟨{ card with grid.u1.echo := { busy := true, got := 62, sent := 64 } }, .u1,
    by decide +kernel⟩
theorem witness_EchoAndTraceCommandsTakeEffect_6 :
    ∃ (s : State), drives s = true ∧ s.grid.u0.linkUp = true ∧ s.grid.u1.linkUp = false :=
  ⟨{ card with grid.u0.linkUp := true },
    by decide +kernel⟩
theorem witness_EchoAndTraceCommandsTakeEffect_7 :
    ∃ (s : State) (_p : Ix) (f : RyrFrame), drives s = true ∧ f.good 0x06 4 = true ∧ beAt f.payload 0 2 = treePosition s ∧
      s.grid.traceAt.any (fun u => decide (s.elec.uptime ≤ u + sec 1)) = true :=
  ⟨{ card with grid.traceAt := some 7992000000000 }, .one, ryran 6 (beBytes 2 (treePosition card) ++ [0, 3]),
    by decide +kernel⟩
theorem witness_EchoAndTraceCommandsTakeEffect_8 :
    ∃ (s : State) (_p : Ix) (f : RyrFrame), drives s = true ∧ f.good 0x06 4 = true ∧ beAt f.payload 0 2 ≠ treePosition s ∧
      s.grid.head = false ∧ beAt f.payload 2 2 < 0xFFFF :=
  ⟨card, .zero, ryran 6 [0x12, 0x34, 0xFF, 0xFE],
    by decide +kernel⟩

/-! ### RingSendsTakeEffect -/

theorem witness_RingSendsTakeEffect_1 :
    ∃ (s : State) (r : Ix) (_w : Nat), drivesRing s r false = true ∧ s.grid.on = true :=
  ⟨withRing, .zero, 100,
    by decide +kernel⟩
theorem witness_RingSendsTakeEffect_2 :
    ∃ (s : State) (r : Ix), drivesRing s r true = true ∧ s.grid.on = true ∧ curTick s = 0 :=
  ⟨withCompat, .one,
    by decide +kernel⟩
theorem witness_RingSendsTakeEffect_3 :
    ∃ (s : State) (r : Ix), drivesRing s r false = true :=
  ⟨{ withRing with ring.zero.units := [unit16 1, { unit16 2 with lost := true }] }, .zero,
    by decide +kernel⟩
theorem witness_RingSendsTakeEffect_4 :
    ∃ (s : State) (r : Ix) (u : UnitState), drivesRing s r false = true ∧
      (car s r).units[(car s r).statusRot % (car s r).units.length]? = some u ∧ u.lost = false :=
  ⟨{ withRing with ring.zero.statusRot := 1 }, .zero, unit16 2,
    by decide +kernel⟩
theorem witness_RingSendsTakeEffect_5 :
    ∃ (s : State) (r : Ix) (a : Nat) (b : Nat), drivesRing s r false = true ∧ s.grid.on = true ∧ 0 < s.grid.now ∧
      (car s r).trigFirst = some a ∧ (car s r).trigSent = some b ∧ a ≤ s.grid.now - 1 ∧ s.grid.now - 1 ≤ b :=
  ⟨withRing, .zero, 1, 128001,
    by decide +kernel⟩
theorem witness_RingSendsTakeEffect_6 :
    ∃ (s : State) (r : Ix) (u : UnitState), drivesRing s r false = true ∧
      (car s r).units[(car s r).balRot % (car s r).units.length]? = some u ∧ u.lost = false ∧ unitAt s r u.addr = some u :=
  ⟨{ withRing with ring.zero.balRot := 3 }, .zero, unit16 2,
    by decide +kernel⟩
theorem witness_RingSendsTakeEffect_7 :
    ∃ (s : State) (r : Ix), drivesRing s r true = true :=
  ⟨withCompat, .one,
    by decide +kernel⟩
theorem witness_RingSendsTakeEffect_8 :
    ∃ (s : State) (r : Ix) (u : UnitState), drivesRing s r false = true ∧ (car s r).owCycle ≠ some (curCycle s) ∧
      (car s r).units[(car s r).owRot % (car s r).units.length]? = some u ∧ testDue s u = true ∧ unitAt s r u.addr = some u :=
  ⟨withRing, .zero, unit16 1,
    by decide +kernel⟩

/-! ### RingRepliesTakeEffect -/

theorem witness_RingRepliesTakeEffect_1 :
    ∃ (s : State) (r : Ix) (f : CarFrame) (u : UnitState), drivesRing s r false = true ∧ f.good 0x10 [4, 506] = true ∧
      unitAt s r f.src.toNat = some u ∧ frameExpected s r u (readFeature s f.payload).cyc = true :=
  ⟨withRing, .zero, caravan 0x10 2 5 [0x03, 0xE7, 0, 0], unit16 2,
    by decide +kernel⟩
theorem witness_RingRepliesTakeEffect_2 :
    ∃ (s : State) (r : Ix) (u : UnitState), drivesRing s r false = true ∧ 2 ≤ curCycle s ∧ u ∈ (car s r).units ∧
      u.lost = false ∧ (∀ p ∈ u.recs, p.1 ≠ curCycle s - 2) :=
  ⟨withRing, .zero, unit16 1,
    by decide +kernel⟩
theorem witness_RingRepliesTakeEffect_3 :
    ∃ (s : State) (r : Ix) (x : Txn) (seq : Nat), drives s = true ∧ (car s r).txns.find? (fun t => t.seq == seq) = some x ∧
      replyMayCome s x = false ∧ x.retries < parN s 0x0306 :=
  ⟨{ withRing with ring.zero.txns := [{ unit := 2, type := 0x13, seq := 9, payload := [], retries := 0 }] }, .zero, { unit := 2, type := 0x13, seq := 9, payload := [], retries := 0 }, 9,
    by decide +kernel⟩
theorem witness_RingRepliesTakeEffect_4 :
    ∃ (s : State) (r : Ix) (x : Txn) (u : UnitState) (seq : Nat), drives s = true ∧
      (car s r).txns.find? (fun t => t.seq == seq) = some x ∧ replyMayCome s x = false ∧ parN s 0x0306 ≤ x.retries ∧
      unitAt s r x.unit = some u ∧ u.lost = false :=
  ⟨{ withRing with ring.zero.txns := [{ unit := 2, type := 0x13, seq := 9, payload := [], retries := 200 }] }, .zero, { unit := 2, type := 0x13, seq := 9, payload := [], retries := 200 }, unit16 2, 9,
    by decide +kernel⟩
theorem witness_RingRepliesTakeEffect_5 :
    ∃ (s : State) (r : Ix) (f : CarFrame) (u : UnitState), drivesRing s r false = true ∧ f.good 0x14 [16] = true ∧
      unitAt s r f.src.toNat = some u :=
  ⟨withRing, .zero, caravan 0x14 1 0 (List.replicate 16 3), unit16 1,
    by decide +kernel⟩
theorem witness_RingRepliesTakeEffect_6 :
    ∃ (s : State) (r : Ix) (f : CarFrame) (x : Txn), drivesRing s r false = true ∧ f.good 0x09 [3] = true ∧ x ∈ (car s r).txns ∧
      x.unit = f.src.toNat ∧ x.type = byteAt f.payload 0 ∧ x.seq = byteAt f.payload 1 ∧ x.type ≠ 0x0B ∧ x.type ≠ 0x08 :=
  ⟨{ withRing with ring.zero.txns := [{ unit := 2, type := 0x06, seq := 9, payload := [], retries := 0 }] }, .zero, caravan 0x09 2 0 [0x06, 9, 0], { unit := 2, type := 0x06, seq := 9, payload := [], retries := 0 },
    by decide +kernel⟩
theorem witness_RingRepliesTakeEffect_7 :
    ∃ (s : State) (r : Ix) (f : CarFrame) (x : Txn) (u : UnitState), drivesRing s r false = true ∧ f.good 0x09 [3] = true ∧
      byteAt f.payload 0 = 0x08 ∧
      (car s r).txns.find? (fun t => t.unit == f.src.toNat && t.type == 0x08 && t.seq == byteAt f.payload 1) = some x ∧
      unitAt s r f.src.toNat = some u ∧ byteAt f.payload 2 = byteAt x.payload 0 :=
  ⟨{ withRing with ring.zero.txns := [{ unit := 2, type := 0x08, seq := 9, payload := [4], retries := 0 }] }, .zero,
    caravan 0x09 2 0 [0x08, 9, 4], { unit := 2, type := 0x08, seq := 9, payload := [4], retries := 0 }, unit16 2,
    by decide +kernel⟩
theorem witness_RingRepliesTakeEffect_8 :
    ∃ (s : State) (r : Ix) (f : CarFrame), drivesRing s r false = true ∧ f.good 0x0A [3] = true :=
  ⟨{ withRing with ring.zero.txns := [{ unit := 2, type := 0x06, seq := 9, payload := [], retries := 0 }] }, .zero, caravan 0x0A 2 0 [0x06, 9, 1],
    by decide +kernel⟩
theorem witness_RingRepliesTakeEffect_9 :
    ∃ (s : State) (r : Ix) (f : CarFrame) (u : UnitState) (p : Nat × Nat), drivesRing s r false = true ∧
      f.good 0x0C [34] = true ∧ unitAt s r f.src.toNat = some u ∧ u.owPending = some p :=
  ⟨{ withRing with ring.zero.units := [{ unit16 1 with owPending := some (0x1FFFF, 1000) }] }, .zero,
    caravan 0x0C 1 0 (List.replicate 34 0x70), { unit16 1 with owPending := some (0x1FFFF, 1000) }, (0x1FFFF, 1000),
    by decide +kernel⟩
theorem witness_RingRepliesTakeEffect_10 :
    ∃ (s : State) (r : Ix) (f : CarFrame) (u : UnitState), drivesRing s r false = true ∧ f.good 0x11 [72] = true ∧
      unitAt s r f.src.toNat = some u :=
  ⟨withRing, .zero, caravan 0x11 1 0 (List.replicate 72 0), unit16 1,
    by decide +kernel⟩
theorem witness_RingRepliesTakeEffect_11 :
    ∃ (s : State) (r : Ix) (f : Car12Frame) (x : Txn) (u : UnitState), drivesRing s r true = true ∧ f.type = 0xC4 ∧
      f.good 12 = true ∧ (car s r).txns.find? (fun t => t.type == 0x84) = some x ∧ unitAt s r x.unit = some u :=
  ⟨{ withCompat with ring.one.txns := [{ unit := 1, type := 0x84, seq := 9, payload := [], retries := 0 }] }, .one, caravan12 0 0xC4 [0, 0, 0, 0, 1, 2, 3, 4, 5, 6, 7, 8],
    { unit := 1, type := 0x84, seq := 9, payload := [], retries := 0 }, unit12 1,
    by decide +kernel⟩

end Sys2Proof.Tests
end

