-- ==== Sys2Proof/Tests/Witness2.lean ====
section
/-! SUPPORT. Witnesses: states and operands that meet the hypotheses of the statements about ring breaks, front ends, fusion, estimation, control, the point hold. -/

namespace Sys2Proof.Tests

open Sys2Proof Sys2Proof.Machine

set_option Elab.async false

/-! ### RingBreaksTakeEffect -/

theorem witness_RingBreaksTakeEffect_1 :
    ∃ (s : State) (r : Ix) (f : CarFrame), drivesRing s r false = true ∧ (car s r).split = false ∧ f.good 0x0E [1] = true ∧
      byteAt f.payload 0 = 1 :=
  ⟨withRing, .zero, caravan 0x0E 2 0 [1],
    by decide +kernel⟩
theorem witness_RingBreaksTakeEffect_2 :
    ∃ (s : State) (r : Ix) (f : CarFrame), drivesRing s r false = true ∧ (car s r).split = false ∧ f.good 0x0E [1] = true ∧
      byteAt f.payload 0 = 2 :=
  ⟨withRing, .zero, caravan 0x0E 2 0 [2],
    by decide +kernel⟩
theorem witness_RingBreaksTakeEffect_3 :
    ∃ (s : State) (_r : Ix) (_endB : Bool), running s = true :=
  ⟨withRing, .zero, true,
    by decide +kernel⟩
theorem witness_RingBreaksTakeEffect_4 :
    ∃ (s : State) (r : Ix) (_n : Nat), drivesRing s r false = true ∧ (car s r).split = false :=
  ⟨withRing, .zero, 5,
    by decide +kernel⟩
theorem witness_RingBreaksTakeEffect_5 :
    ∃ (s : State) (r : Ix) (_n : Nat), drivesRing s r false = true ∧ (car s r).split = true :=
  ⟨{ withRing with ring.zero.split := true }, .zero, 1,
    by decide +kernel⟩
theorem witness_RingBreaksTakeEffect_6 :
    ∃ (s : State) (r : Ix) (f : RingFind), drives s = true ∧ (car s r).compat = true ∧ (car s r).served = false ∧
      strEnabled s r = true ∧ f.lockA = false ∧ f.lockB = false :=
  ⟨{ withCompat with ring.one.served := false, par.acting := [(0x0101, 1), (0x0303, 1), (0x0304, 1)] }, .one, foundNothing,
    by decide +kernel⟩
theorem witness_RingBreaksTakeEffect_7 :
    ∃ (s : State) (r : Ix) (f : RingFind), drives s = true ∧ (car s r).compat = true ∧ (car s r).served = false ∧
      strEnabled s r = true ∧ s.par.pending = [] ∧ parN s (0x0303 + r.num) = 1 ∧ f.lockA = true ∧ f.lockB = true ∧
      enumFault f = none ∧ (∀ i ∈ f.idents, ∀ d, i = some d → d.gen16 = false) :=
  ⟨{ withCompat with ring.one.served := false, par.acting := [(0x0101, 1), (0x0303, 1), (0x0304, 1)] }, .one, foundCompat,
    by decide +kernel⟩
theorem witness_RingBreaksTakeEffect_8 :
    ∃ (s : State) (h : Hdr) (_mask : Nat) (_f0 : RingFind) (_f1 : RingFind), hostReady s h = true ∧ alone s h = true :=
  ⟨withRing, hd, 1, foundNative, foundNothing,
    by decide +kernel⟩

/-! ### FrontEndCommandsTakeEffect -/

theorem witness_FrontEndCommandsTakeEffect_1 :
    ∃ (s : State) (r : Ix) (_endB : Bool) (f : CarFrame) (k : Nat), drivesRing s r false = true ∧ f.good 0x12 [14] = true ∧
      (car s r).sumDue = some k ∧ byteAt f.payload 0 = k % 128 ∧ (car s r).split = false :=
  ⟨{ withRing with ring.zero.sumDue := some 127999 }, .zero, true, caravan 0x12 2 0 (127 :: List.replicate 13 1), 127999,
    by decide +kernel⟩
theorem witness_FrontEndCommandsTakeEffect_2 :
    ∃ (s : State) (x : Ix) (ok : Bool), clocked s = true ∧ feFitted s x = true ∧ 3 ≤ s.elec.step ∧ (s.front.fe.get x).isoOk ≠ ok :=
  ⟨card, .zero, true,
    by decide +kernel⟩
theorem witness_FrontEndCommandsTakeEffect_3 :
    ∃ (s : State) (p : Ix) (off : Nat) (v : Nat), clocked s = true ∧ portUp s p = true ∧ pairValue s off = some v ∧ s.elec.fw = true :=
  ⟨card, .zero, 0x24, (card.elec.uptime / us 1),
    by decide +kernel⟩
theorem witness_FrontEndCommandsTakeEffect_4 :
    ∃ (s : State) (h : Hdr) (target : Nat) (ch : Nat) (_span : Bool) (_v : F32), hostReady s h = true ∧ alone s h = true ∧
      calExists s target ch = true ∧ calHolder s h target ch = none :=
  ⟨card, hd, 0, 1, true, 0x42C80000,
    by decide +kernel⟩
theorem witness_FrontEndCommandsTakeEffect_5 :
    ∃ (s : State) (target : Nat) (ch : Nat) (p : CalPoint) (v : F32) (id : Nat) (ms : List Rat), running s = true ∧
      KV.get? (calOf s target) ch = some p ∧ p.busy = some (false, v, id, ms, false) ∧ parN s 0x0505 ≤ ms.length ∧
      varianceRat ms ≤ (5 / 10000 * 8388608) * (5 / 10000 * 8388608) :=
  ⟨{ card with front.fe.zero.cal := [(1, { port := .zero, busy := some (false, 0, 5, List.replicate 300 7, false) })] }, 0, 1,
    { port := .zero, busy := some (false, 0, 5, List.replicate 300 7, false) }, 0, 5, List.replicate 300 7,
    by decide +kernel⟩
theorem witness_FrontEndCommandsTakeEffect_6 :
    ∃ (s : State) (h : Hdr) (target : Nat) (ch : Nat) (p : CalPoint) (cz : Rat) (cs : Rat) (g : Rat) (uz : Nat) (us' : Nat) (y : F32), hostReady s h = true ∧ alone s h = true ∧ calExists s target ch = true ∧ calHolder s h target ch = none ∧ stagingHolder s h true = none ∧ KV.get? (calOf s target) ch = some p ∧ p.zero = some (cz, uz) ∧ p.span = some (cs, y, us') ∧ passed s (min uz us') (sec 600 + 1) = false ∧ -167772 ≤ cz ∧ cz ≤ 167772 ∧ cs ≠ cz ∧ g = F32.toRat y / (cs - cz) ∧ 0 < g ∧ gNom s target ch * 95 / 100 ≤ g ∧ g ≤ gNom s target ch * 105 / 100 :=
  ⟨{ card with
      front.fe.zero.cal := [(2, { port := .zero, zero := some (0, 7900000000000), span := some (8388608, 0x44FA0000, 7900000000001) })] },
    hd, 0, 2, { port := .zero, zero := some (0, 7900000000000), span := some (8388608, 0x44FA0000, 7900000000001) }, 0, 8388608,
    2000 / 8388608, 7900000000000, 7900000000001, 0x44FA0000,
    by decide +kernel⟩

/-! ### FusionCommandsTakeEffect -/

theorem witness_FusionCommandsTakeEffect_1 :
    ∃ (s : State) (_n : Nat), drives s = true ∧ s.grid.on = true ∧ 2 ≤ curCycle s ∧
      (∀ k, s.fus.startCycle = some k → k ≤ curCycle s - 2) :=
  ⟨card, 7,
    by decide +kernel⟩
theorem witness_FusionCommandsTakeEffect_2 :
    ∃ (s : State) (x : Ix) (v : VoteOut), drives s = true ∧ strEnabled s x = true ∧ 2 ≤ s.grid.now / holdPeriod s ∧
      v = (runCheck s (.current x) (agreeI s) [(.shunt x, periodMean s (s.grid.now / holdPeriod s - 2) x 0), (.hall x, periodMean s (s.grid.now / holdPeriod s - 2) x 1), (.pcs x, if (src s (.pcs x)).state = .unaligned then none else ((s.can.pcs.get x).reports.find? fun r => r.1 == s.grid.now / holdPeriod s - 2).map fun r => F32.toRat r.2.1)] greaterMag).2 :=
  ⟨card, .zero, _,
    by decide +kernel, by decide +kernel, by decide +kernel, rfl⟩
theorem witness_FusionCommandsTakeEffect_3 :
    ∃ (s : State) (h : Hdr) (kind : Nat) (str : Nat) (u : Nat) (i : Nat) (k : SrcKey), hostReady s h = true ∧ alone s h = true ∧
      kind ≠ 9 ∧ namedSource s kind str u i = some k :=
  ⟨{ card with fus.srcs := [(.hall .zero, { state := .convicted })] }, hd, 2, 0, 0, 0, .hall .zero,
    by decide +kernel⟩
theorem witness_FusionCommandsTakeEffect_4 :
    ∃ (s : State) (h : Hdr) (_str : Nat) (u : Nat) (_i : Nat) (x : SetRec), hostReady s h = true ∧ alone s h = true ∧ 1 ≤ u ∧
      u ≤ 3 ∧ s.hold.sets3[u - 1]? = some x :=
  ⟨{ card with hold.sets3 := [{}, { convicted := true }, {}] }, hd, 0, 2, 0, { convicted := true },
    by decide +kernel⟩

/-! ### EstimationCommandsTakeEffect -/

theorem witness_EstimationCommandsTakeEffect_1 :
    ∃ (s : State) (l : PendTick), drives s = true ∧ s.est.began = true ∧ s.est.pend.getLast? = some l :=
  ⟨{ card with est.began := true, est.pend := [⟨127999, 1250000, 7999999000000, Two.both 0, Two.both ⟨0, 0, false⟩⟩] },
    ⟨127999, 1250000, 7999999000000, Two.both 0, Two.both ⟨0, 0, false⟩⟩,
    by decide +kernel⟩
theorem witness_EstimationCommandsTakeEffect_2 :
    ∃ (s : State) (x : Ix) (u : Nat), drives s = true ∧ (s.est.str.get x).discharging = true ∧
      (s.est.str.get x).aboveAt = some u ∧ passed s u (sec 1) = true :=
  ⟨{ card with est.str.zero.discharging := true, est.str.zero.aboveAt := some 7990000000000 }, .zero, 7990000000000,
    by decide +kernel⟩
theorem witness_EstimationCommandsTakeEffect_3 :
    ∃ (s : State), drives s = true ∧ s.fus.handed = true ∧ s.est.began = true :=
  ⟨{ card with est.began := true, fus.handed := true },
    by decide +kernel⟩
theorem witness_EstimationCommandsTakeEffect_4 :
    ∃ (s : State) (x : Ix) (l : LearnState), drives s = true ∧ (s.est.str.get x).learn = some l ∧ l.disq = false ∧
      passed s l.anchorUp (sec 259200) = true :=
  ⟨{ card with elec.uptime := 8000000000 * 300000, est.str.one.learn := some ⟨0, 8000000000, 0, false⟩ }, .one,
    ⟨0, 8000000000, 0, false⟩,
    by decide +kernel⟩
theorem witness_EstimationCommandsTakeEffect_5 :
    ∃ (s : State) (x : Ix), drives s = true ∧ (s.est.str.get x).seeded = true ∧ (s.est.str.get x).starved = false ∧
      172800 ≤ sinceRef s (s.est.str.get x) :=
  ⟨{ card with elec.uptime := 8000000000 * 200000, est.str.one.seeded := true, est.str.one.u := 0x40000000 }, .one,
    by decide +kernel⟩
theorem witness_EstimationCommandsTakeEffect_6 :
    ∃ (s : State), drives s = true ∧ s.est.began = true ∧ s.grid.on = true ∧ curTick s = 0 ∧
      (s.est.captured = none ∨ passed s s.est.capturedUp (sec 1) = true) :=
  ⟨{ card with est.began := true },
    by decide +kernel⟩
theorem witness_EstimationCommandsTakeEffect_7 :
    ∃ (s : State) (h : Hdr) (_d : List Byte), hostReady s h = true ∧ alone s h = true ∧ s.est.began = false ∧
      isActive s = true ∧ s.elec.step = 9 :=
  ⟨{ card with elec.step := 9 }, hd, [],
    by decide +kernel⟩
theorem witness_EstimationCommandsTakeEffect_9 :
    ∃ (s : State), drives s = true ∧ s.est.began = true ∧
      (s.est.reviewDue = true ∨ ∀ u, s.est.reviewUp = some u → passed s u (sec (parN s 0x0717)) = true) :=
  ⟨{ card with est.began := true, est.reviewDue := true },
    by decide +kernel⟩

/-! ### ThermalAndControlCommandsTakeEffect -/

theorem witness_ThermalAndControlCommandsTakeEffect_1 :
    ∃ (s : State) (n : Nat), running s = true ∧ isActive s = true ∧ 40 ≤ n ∧ n ≤ 43 ∧ (slotAt s n).tracking = false ∧
      inputTimedOut s n = true ∧ slotRuns s n = true :=
  ⟨{ card with
      ctl.slots := setAt (List.replicate 48 {}) 40 { badInput := 1, badFrom := some (1, 0) },
      par.acting := [(0x0928, parN card 0x0928 ||| 1)] }, 40,
    by decide +kernel⟩
theorem witness_ThermalAndControlCommandsTakeEffect_2 :
    ∃ (s : State) (n : Nat) (d : NodeState), running s = true ∧ isActive s = true ∧ s.therm.nodes[n]? = some d ∧
      parN s (0x0D10 + n) % 256 ≠ 0 ∧ d.lost = false ∧ passed s (d.seenUp.getD 0) (sec (parN s 0x0811)) = true :=
  ⟨{ card with par.acting := [(0x0D13, 0x0101)] }, 3, {},
    by decide +kernel⟩
theorem witness_ThermalAndControlCommandsTakeEffect_3 :
    ∃ (s : State) (_r : Int), running s = true :=
  ⟨card, 400,
    by decide +kernel⟩
theorem witness_ThermalAndControlCommandsTakeEffect_4 :
    ∃ (s : State) (f : PeerFrame), running s = true ∧ f.good 0x31 (· == 4) = true :=
  ⟨card, peerFrame 0x31 [0x01, 0x90, 0, 0],
    by decide +kernel⟩
theorem witness_ThermalAndControlCommandsTakeEffect_5 :
    ∃ (s : State) (_w : Word), clocked s = true :=
  ⟨card, 0xFFFF1FFF,
    by decide +kernel⟩
theorem witness_ThermalAndControlCommandsTakeEffect_6 :
    ∃ (s : State), running s = true :=
  ⟨card,
    by decide +kernel⟩
theorem witness_ThermalAndControlCommandsTakeEffect_7 :
    ∃ (s : State) (_late : Nat) (_torn : Nat), running s = true ∧ isActive s = true ∧ s.grid.on = true :=
  ⟨{ card with ctl.lastDue := 6 }, 2, 0,
    by decide +kernel⟩
theorem witness_ThermalAndControlCommandsTakeEffect_8 :
    ∃ (s : State) (n : Nat), running s = true ∧ isActive s = true ∧ (n < 40 ∨ 43 < n) ∧ n < 48 ∧ (slotAt s n).tracking = false ∧
      inputTimedOut s n = true ∧ slotRuns s n = true :=
  ⟨{ card with
      ctl.slots := setAt (List.replicate 48 {}) 47 { badInput := 2, badFrom := some (1, 0) },
      par.acting := [(0x092F, parN card 0x092F ||| 1)] }, 47,
    by decide +kernel⟩
theorem witness_ThermalAndControlCommandsTakeEffect_9 :
    ∃ (s : State) (_w : Word), clocked s = true :=
  ⟨card, 0xFFFFFFFF,
    by decide +kernel⟩
theorem witness_ThermalAndControlCommandsTakeEffect_10 :
    ∃ (s : State) (_w : Word), clocked s = true :=
  ⟨card, 0xFFFFFFFF,
    by decide +kernel⟩
theorem witness_ThermalAndControlCommandsTakeEffect_11 :
    ∃ (s : State) (w : Word), clocked s = true ∧ testBit w.toNat 5 = true :=
  ⟨{ card with ctl.latMax := 9 }, 0x20,
    by decide +kernel⟩
theorem witness_ThermalAndControlCommandsTakeEffect_12 :
    ∃ (s : State) (h : Hdr) (mask : Nat) (_b : Bool), hostReady s h = true ∧ alone s h = true ∧ mask < 2 ^ 48 :=
  ⟨card, hd, 0x800000000001, true,
    by decide +kernel⟩
theorem witness_ThermalAndControlCommandsTakeEffect_13 :
    ∃ (s : State) (h : Hdr) (n : Nat) (k : SlotState), hostReady s h = true ∧ alone s h = true ∧ n < 48 ∧ slotAt s n = k :=
  ⟨card, hd, 47, {},
    by decide +kernel⟩

/-! ### PhasorCommandsTakeEffect -/

theorem witness_PhasorCommandsTakeEffect_1 :
    ∃ (s : State), drives s = true ∧ s.grid.on = true ∧ parN s 0x0A06 ≠ 0 ∧ parN s 0x0540 ≠ 0 ∧ curCycle s ≠ 0 ∧ s.grid.head = false :=
  ⟨{ card with par.acting := [(0x0204, 5), (0x0A02, 5), (0x0A06, 1), (0x0540, 1)] },
    by decide +kernel⟩
theorem witness_PhasorCommandsTakeEffect_2 :
    ∃ (s : State), drives s = true ∧ s.grid.on = true ∧ parN s 0x0A06 ≠ 0 ∧ parN s 0x0540 ≠ 0 ∧ curCycle s ≠ 0 ∧ s.grid.head = true :=
  ⟨{ source with par.acting := [(0x0204, 5), (0x0A02, 5), (0x0A06, 1), (0x0540, 1)] },
    by decide +kernel⟩
theorem witness_PhasorCommandsTakeEffect_3 :
    ∃ (s : State) (_p : Ix) (f : RyrFrame), drives s = true ∧ f.good 0x10 40 = true ∧ s.grid.head = true :=
  ⟨source, .zero, ryran 0x10 (List.replicate 40 1),
    by decide +kernel⟩
theorem witness_PhasorCommandsTakeEffect_4 :
    ∃ (s : State) (_p : Ix) (f : RyrFrame), drives s = true ∧ f.good 0x10 40 = true ∧ s.grid.head = false :=
  ⟨card, .zero, ryran 0x10 (List.replicate 40 1),
    by decide +kernel⟩
theorem witness_PhasorCommandsTakeEffect_5 :
    ∃ (s : State) (rs : List PhasorRec), drives s = true ∧ s.hold.mode = .lead ∧ curTick s % 64 = parN s 0x0A07 ∧
      rs = ((fitRecords s (curCycle s) (curTick s / 64)).filter fun r => !setConvicted s r.set) :=
  ⟨{ source with hold.mode := .lead, grid.now := 128000 + parN card 0x0A07 }, [],
    by decide +kernel⟩

/-! ### RoundCommandsTakeEffect -/

theorem witness_RoundCommandsTakeEffect_1 :
    ∃ (s : State), running s = true ∧ isActive s = true ∧ atBoundary s = true :=
  ⟨card,
    by decide +kernel⟩
theorem witness_RoundCommandsTakeEffect_2 :
    ∃ (s : State) (p : Ix) (f : RyrFrame), drives s = true ∧ s.grid.sync = true ∧ f.good 0x11 32 = true ∧
      (∀ off ∈ [8, 16, 24], beAt f.payload (off + 4) 4 = complement 4 (beAt f.payload off 4)) ∧
      beAt f.payload 0 2 = s.hold.round % 65536 ∧ s.grid.head = true ∧ s.hold.closed = false ∧ s.hold.got.get p = none :=
  ⟨source, .one,
    ryran 0x11 ([0, 0, 0, 2, 0, 0, 0, 9] ++ [0, 0, 0, 1, 0xFF, 0xFF, 0xFF, 0xFE] ++ [0, 0, 0, 1, 0xFF, 0xFF, 0xFF, 0xFE] ++ [0, 0, 0, 0, 0xFF, 0xFF, 0xFF, 0xFF]),
    by decide +kernel⟩
theorem witness_RoundCommandsTakeEffect_3 :
    ∃ (s : State), drives s = true ∧ s.hold.began = true ∧ s.hold.sent = false ∧ s.grid.head = false ∧ s.grid.sync = true :=
  ⟨{ card with hold.began := true },
    by decide +kernel⟩
theorem witness_RoundCommandsTakeEffect_4 :
    ∃ (s : State), drives s = true ∧ s.grid.head = true ∧ s.hold.mode = .lead ∧ s.hold.closed = false ∧ s.hold.began = true :=
  ⟨{ source with hold.began := true, hold.mode := .lead },
    by decide +kernel⟩
theorem witness_RoundCommandsTakeEffect_5 :
    ∃ (s : State) (_p : Ix) (f : RyrFrame), drives s = true ∧ f.good 0x12 48 = true ∧
      (∀ off ∈ [8, 16], beAt f.payload (off + 4) 4 = complement 4 (beAt f.payload off 4)) ∧ s.grid.head = false ∧
      s.hold.seen = false ∧ beAt f.payload 0 2 = s.hold.round % 65536 :=
  ⟨card, .zero,
    ryran 0x12 (List.replicate 8 0 ++ [0x80, 0, 0, 0, 0x7F, 0xFF, 0xFF, 0xFF] ++ [0, 0, 0, 5, 0xFF, 0xFF, 0xFF, 0xFA] ++ List.replicate 24 0),
    by decide +kernel⟩
theorem witness_RoundCommandsTakeEffect_6 :
    ∃ (s : State), running s = true ∧ isActive s = true ∧ s.hold.mode ≠ .off ∧ s.hold.fracRamp = false ∧
      s.hold.fracHold = true ∧ passed s s.hold.fracUp (ms (parN s 0x0A25)) = true :=
  ⟨{ card with hold.mode := .member, hold.fracHold := true },
    by decide +kernel⟩
theorem witness_RoundCommandsTakeEffect_7 :
    ∃ (s : State), running s = true ∧ isActive s = true ∧ s.hold.began = true :=
  ⟨{ card with hold.began := true },
    by decide +kernel⟩

/-! ### LeadCommandsTakeEffect -/

theorem witness_LeadCommandsTakeEffect_1 :
    ∃ (s : State) (h : Hdr) (_p : F32) (_q : F32) (_c : Nat), hostReady s h = true ∧ alone s h = true ∧ ownRank s ≠ 0 :=
  ⟨{ card with par.acting := [(0x0204, 5), (0x0A02, 5), (0x0A06, 1), (0x0540, 1)] }, hd, 0x42C80000, 0, 1000,
    by decide +kernel⟩
theorem witness_LeadCommandsTakeEffect_2 :
    ∃ (s : State) (h : Hdr) (x : Nat) (c : Nat), hostReady s h = true ∧ alone s h = true ∧ x ≠ 0xFFFF ∧ rankOf s x ≠ 0 ∧
      curCycle s + 8 ≤ c ∧ (s.grid.head = true ∨ x = treePosition s) ∧ s.grid.sync = true :=
  ⟨{ card with par.acting := [(0x0204, 5), (0x0A02, 5), (0x0A06, 1), (0x0540, 1)] }, hd, 5, 1008,
    by decide +kernel⟩
theorem witness_LeadCommandsTakeEffect_3 :
    ∃ (s : State) (m : MoveReq), running s = true ∧ s.grid.move = some m ∧ m.cycle * 128 ≤ s.grid.now ∧ m.target ≠ treePosition s :=
  ⟨{ source with grid.move := some ⟨9, 1000⟩ }, ⟨9, 1000⟩,
    by decide +kernel⟩
theorem witness_LeadCommandsTakeEffect_4 :
    ∃ (s : State) (m : MoveReq), running s = true ∧ s.grid.move = some m ∧ m.cycle * 128 ≤ s.grid.now ∧
      m.target = treePosition s ∧ drives s = true ∧ s.grid.sync = true :=
  ⟨{ card with grid.move := some ⟨treePosition card, 1000⟩ }, ⟨treePosition card, 1000⟩,
    by decide +kernel⟩

end Sys2Proof.Tests
end

