-- ==== Sys2Proof/Tests/Witness3.lean ====
section
/-! SUPPORT. Witnesses: states and operands that meet the hypotheses of the statements about protection, the outrider, the pair, CAN. -/

namespace Sys2Proof.Tests

open Sys2Proof Sys2Proof.Machine

set_option Elab.async false

/-- The parameter digest does not depend on the pair. -/
theorem parDigest_pair (s : State) (p : PairState) : parDigest { s with pair := p } = parDigest s := by
  unfold parDigest
  have h : digestEntry { s with pair := p } = digestEntry s := rfl
  rw [h]
/-- There is another number. -/
theorem other_number (n : Nat) : ∃ d, d ≠ n := ⟨n + 1, Nat.succ_ne_self n⟩

/-! ### TripCommandsTakeEffect -/

theorem witness_TripCommandsTakeEffect_1 :
    ∃ (s : State) (x : Ix), s.elec.powered = true ∧ coilsFitted s x = true ∧ (s.prot.get x).fltLoop = false :=
  ⟨card, .zero,
    by decide +kernel⟩
theorem witness_TripCommandsTakeEffect_2 :
    ∃ (s : State) (x : Ix), running s = true ∧ coilsFitted s x = true ∧ (car s x).fltLoop = true :=
  ⟨{ card with ring.zero.fltLoop := true, prot.zero.loopLive := true }, .zero,
    by decide +kernel⟩
theorem witness_TripCommandsTakeEffect_3 :
    ∃ (s : State) (x : Ix) (c : Comparator), s.elec.powered = true ∧ coilsFitted s x = true ∧ testBit (s.prot.get x).outrCause c.num = false :=
  ⟨card, .zero, .vlOv,
    by decide +kernel⟩
theorem witness_TripCommandsTakeEffect_4 :
    ∃ (s : State) (_x : Ix) (_c : Comparator), s.elec.powered = true :=
  ⟨{ card with prot.zero.live := 31 }, .zero, .vpUv,
    by decide +kernel⟩
theorem witness_TripCommandsTakeEffect_5 :
    ∃ (s : State) (x : Ix), running s = true ∧ (s.prot.get x).report = 0x20 :=
  ⟨{ card with prot.one.report := 0x20 }, .one,
    by decide +kernel⟩
theorem witness_TripCommandsTakeEffect_6 :
    ∃ (s : State) (x : Ix) (k : Nat), running s = true ∧ k < 7 ∧ testBit (s.prot.get x).report k = true ∧
      (∀ j < 7, k < j → testBit (s.prot.get x).report j = false) :=
  ⟨{ card with prot.one.report := 0x0B }, .one, 3,
    by decide +kernel⟩
theorem witness_TripCommandsTakeEffect_7 :
    ∃ (s : State) (x : Ix) (u : Nat), judges s x = true ∧ (s.prot.get x).blindUp = some u ∧
      passed s u (ms (protN s x 0x0B0B)) = true ∧ (s.prot.get x).procTrip = false :=
  ⟨{ card with prot.zero.blindUp := some 0 }, .zero, 0,
    by decide +kernel⟩

/-! ### ThresholdCommandsTakeEffect -/

theorem witness_ThresholdCommandsTakeEffect_1 :
    ∃ (s : State) (k : Nat) (w : Word), running s = true ∧ k < 10 ∧ bits w.toNat 27 16 + bits w.toNat 11 0 = 0xFFF :=
  ⟨card, 9, 0x0FFF0000,
    by decide +kernel⟩
theorem witness_ThresholdCommandsTakeEffect_2 :
    ∃ (s : State) (k : Nat) (w : Word), running s = true ∧ k < 10 ∧ bits w.toNat 27 16 + bits w.toNat 11 0 ≠ 0xFFF :=
  ⟨card, 9, 0x0FFF0001,
    by decide +kernel⟩
theorem witness_ThresholdCommandsTakeEffect_3 :
    ∃ (s : State) (x : Ix) (b : Nat), running s = true ∧ s.par.protAt.get x = some b ∧ b ≤ s.grid.now ∧ proofRuns s x = false :=
  ⟨{ card with par.protAt := { zero := some 128000, one := none } }, .zero, 128000,
    by decide +kernel⟩
theorem witness_ThresholdCommandsTakeEffect_4 :
    ∃ (s : State) (x : Ix) (q : CloseSeq), running s = true ∧ (s.prot.get x).close = some q ∧ q.stage = 0 ∧ coilsOff s x = true :=
  ⟨{ card with prot.zero.close := some { id := 7, stage := 0, preUp := 0 }, prot.zero.st := .precharge }, .zero,
    { id := 7, stage := 0, preUp := 0 },
    by decide +kernel⟩
theorem witness_ThresholdCommandsTakeEffect_5 :
    ∃ (s : State) (x : Ix) (q : CloseSeq) (_k : Nat), running s = true ∧ (s.prot.get x).close = some q ∧ q.stage = 0 ∧
      coilsOff s x = true :=
  ⟨{ card with prot.zero.close := some { id := 7, stage := 0, preUp := 0 }, prot.zero.st := .precharge }, .zero,
    { id := 7, stage := 0, preUp := 0 }, 3,
    by decide +kernel⟩

/-! ### CoilCommandsTakeEffect -/

theorem witness_CoilCommandsTakeEffect_1 :
    ∃ (s : State) (_rd : CoilRead), drives s = true :=
  ⟨card, ⟨.high, .low, 100, false⟩,
    by decide +kernel⟩
theorem witness_CoilCommandsTakeEffect_2 :
    ∃ (s : State) (rd : CoilRead), drives s = true ∧ s.outr.testRot % 12 = 0 ∧ strEnabled s .zero = true ∧
      tripped s.prot.zero = false ∧ fromHoldBits s = false ∧ s.prot.zero.close = none ∧ s.prot.zero.openSeq = none ∧
      s.pair.t0 = none ∧ hsOn s .zero .kPos = true ∧ lsOn s .zero .kPos = true ∧ coilSig false true rd = 0 :=
  ⟨{ card with
      prot.zero.st := .closed,
      prot.zero.kPos := { reqHs := true, reqLs := true, energised := true, a := .high, b := .low },
      prot.zero.kNeg := { reqHs := true, reqLs := true, energised := true, a := .high, b := .low } }, ⟨.mid, .low, 0, false⟩,
    by decide +kernel⟩
theorem witness_CoilCommandsTakeEffect_3 :
    ∃ (s : State) (x : Ix) (c : Coil) (hs : Bool), drives s = true ∧ strEnabled s x = true ∧
      ((s.prot.get x).coil c).energised = true ∧
      passed s (if hs then ((s.prot.get x).coil c).hsUp else ((s.prot.get x).coil c).lsUp) (sec 120) = true ∧
      (s.prot.get x).openSeq = none :=
  ⟨{ card with
      prot.zero.st := .closed,
      prot.zero.kPos := { reqHs := true, reqLs := true, energised := true, a := .high, b := .low },
      prot.zero.kNeg := { reqHs := true, reqLs := true, energised := true, a := .high, b := .low } }, .zero, .kPos, true,
    by decide +kernel⟩
theorem witness_CoilCommandsTakeEffect_4 :
    ∃ (s : State) (x : Ix) (c : Coil) (rd : CoilRead), drives s = true ∧ strEnabled s x = true ∧ (s.prot.get x).st = .closed ∧
      c ≠ .pre ∧ coilClosed rd = false :=
  ⟨{ card with
      prot.zero.st := .closed,
      prot.zero.kPos := { reqHs := true, reqLs := true, energised := true, a := .high, b := .low },
      prot.zero.kNeg := { reqHs := true, reqLs := true, energised := true, a := .high, b := .low } }, .zero, .kNeg,
    ⟨.low, .low, 0, false⟩,
    by decide +kernel⟩
theorem witness_CoilCommandsTakeEffect_5 :
    ∃ (s : State) (x : Ix), drives s = true ∧ (s.prot.get x).st = .closed ∧
      passed s (s.prot.get x).closedUp (sec (86400 * parN s 0x0B35)) = true ∧
      KV.get? s.ev.rate (208, x.num) ≠ some (s.elec.uptime / sec 86400) :=
  ⟨{ card with
      prot.zero.st := .closed,
      prot.zero.kPos := { reqHs := true, reqLs := true, energised := true, a := .high, b := .low },
      prot.zero.kNeg := { reqHs := true, reqLs := true, energised := true, a := .high, b := .low },
      elec.uptime := 8000000000 * 86400 * 400 }, .zero,
    by decide +kernel⟩
theorem witness_CoilCommandsTakeEffect_6 :
    ∃ (s : State) (mv : Nat), running s = true ∧ s.outr.coilOk ≠ (decide (18000 ≤ mv) && decide (mv ≤ 32000)) :=
  ⟨card, 32001,
    by decide +kernel⟩

/-! ### StringCommandsTakeEffect -/

theorem witness_StringCommandsTakeEffect_1 :
    ∃ (s : State) (h : Hdr) (k : Nat), hostReady s h = true ∧ alone s h = true ∧ k < 2 ∧ strEnabled s (Ix.ofNum k) = true ∧
      isActive s = true :=
  ⟨card, hd, 0,
    by decide +kernel⟩
theorem witness_StringCommandsTakeEffect_2 :
    ∃ (s : State) (x : Ix) (q : OpenSeq), running s = true ∧ (s.prot.get x).openSeq = some q ∧
      (currentLow s x || passed s q.up (ms (parN s 0x0B34))) = true ∧ s.upd.leaving = none :=
  ⟨{ card with prot.zero.openSeq := some ⟨[], 0⟩ }, .zero, ⟨[], 0⟩,
    by decide +kernel⟩
theorem witness_StringCommandsTakeEffect_3 :
    ∃ (s : State) (x : Ix) (l : List Nat), running s = true ∧ (s.prot.get x).weldFor = some l ∧
      passed s (s.prot.get x).weldUp (ms 100) = true :=
  ⟨{ card with prot.zero.weldFor := some [7] }, .zero, [7],
    by decide +kernel⟩
theorem witness_StringCommandsTakeEffect_4 :
    ∃ (s : State) (h : Hdr) (k : Nat), hostReady s h = true ∧ alone s h = true ∧ closeRefusal s k = 0 :=
  ⟨{ card with
      front.hist := [⟨127999, 1250000, Two.both ⟨⟨0, 0, 0, 0, none⟩, ⟨0, 0, 0, 0, none⟩, ⟨0, 0x447A0000, 0, 0x447A0000, none⟩, ⟨0, 0x447A0000, 0, 0x447A0000, none⟩, 0, false, true⟩, Two.both false, List.replicate 8 (0, 0), List.replicate 8 (0, 0),
        List.replicate 8 false⟩],
      ring.zero := nativeRing }, hd, 0,
    by decide +kernel⟩
theorem witness_StringCommandsTakeEffect_5 :
    ∃ (s : State) (x : Ix) (q : CloseSeq) (rd : CoilRead), drives s = true ∧ (s.prot.get x).close = some q ∧ q.stage = 1 ∧
      passed s q.up (ms (parN s 0x0B30)) = true ∧ coilClosed rd = true :=
  ⟨{ card with prot.zero.close := some { id := 7, stage := 1, preUp := 0 }, prot.zero.st := .precharge }, .zero,
    { id := 7, stage := 1, preUp := 0 }, ⟨.high, .low, 100, false⟩,
    by decide +kernel⟩
theorem witness_StringCommandsTakeEffect_6 :
    ∃ (s : State) (x : Ix) (q : CloseSeq), drives s = true ∧ (s.prot.get x).close = some q ∧ q.stage = 2 ∧
      absR (F32.toRat (packLink s x).1 - F32.toRat (packLink s x).2) ≤ parN s 0x0B31 :=
  ⟨{ card with
      front.hist := [⟨127999, 1250000, Two.both ⟨⟨0, 0, 0, 0, none⟩, ⟨0, 0, 0, 0, none⟩, ⟨0, 0x447A0000, 0, 0x447A0000, none⟩, ⟨0, 0x447A0000, 0, 0x447A0000, none⟩, 0, false, true⟩, Two.both false, List.replicate 8 (0, 0), List.replicate 8 (0, 0),
        List.replicate 8 false⟩],
      prot.zero.close := some { id := 7, stage := 2, preUp := 0 } }, .zero, { id := 7, stage := 2, preUp := 0 },
    by decide +kernel⟩
theorem witness_StringCommandsTakeEffect_7 :
    ∃ (s : State) (x : Ix) (q : CloseSeq), drives s = true ∧ (s.prot.get x).close = some q ∧ q.stage = 2 ∧
      passed s q.preUp (ms (parN s 0x0B32)) = true :=
  ⟨{ card with prot.zero.close := some { id := 7, stage := 2, preUp := 0 }, prot.zero.st := .precharge }, .zero,
    { id := 7, stage := 2, preUp := 0 },
    by decide +kernel⟩
theorem witness_StringCommandsTakeEffect_8 :
    ∃ (s : State) (x : Ix) (q : CloseSeq) (rd : CoilRead), drives s = true ∧ (s.prot.get x).close = some q ∧ q.stage = 3 ∧
      passed s q.up (ms (parN s 0x0B30)) = true ∧ coilClosed rd = true :=
  ⟨{ card with prot.zero.close := some { id := 7, stage := 3, preUp := 0 }, prot.zero.st := .precharge }, .zero,
    { id := 7, stage := 3, preUp := 0 }, ⟨.high, .low, 100, false⟩,
    by decide +kernel⟩
theorem witness_StringCommandsTakeEffect_9 :
    ∃ (s : State) (h : Hdr) (k : Nat) (_p : Option Nat), hostReady s h = true ∧ alone s h = true ∧ k < 2 :=
  ⟨{ card with prot.zero.outrTrip := true, prot.zero.outrCause := 1 }, hd, 0, none,
    by decide +kernel⟩

/-! ### OutriderCommandsTakeEffect -/

theorem witness_OutriderCommandsTakeEffect_1 :
    ∃ (s : State) (a : Nat) (us' : Nat), running s = true ∧ hbSuspended s = false ∧ a = hbAnswer s.outr.chal ∧
      (s.outr.timed = false ∨ (2000 ≤ us' ∧ us' ≤ 20000)) :=
  ⟨card, hbAnswer 1, 20000,
    by decide +kernel⟩
theorem witness_OutriderCommandsTakeEffect_2 :
    ∃ (s : State) (a : Nat) (_us' : Nat), running s = true ∧ hbSuspended s = false ∧ a ≠ hbAnswer s.outr.chal :=
  ⟨card, 0, 5000,
    by decide +kernel⟩
theorem witness_OutriderCommandsTakeEffect_3 :
    ∃ (s : State), s.elec.powered = true ∧ s.outr.timed = true ∧ hbSuspended s = false :=
  ⟨{ card with outr.partnerReady := true },
    by decide +kernel⟩
theorem witness_OutriderCommandsTakeEffect_4 :
    ∃ (s : State) (_b : Bool), s.elec.powered = true :=
  ⟨{ card with outr.hold := .heartbeat }, true,
    by decide +kernel⟩
theorem witness_OutriderCommandsTakeEffect_5 :
    ∃ (s : State), s.elec.powered = true ∧ s.outr.owner = false :=
  ⟨mate,
    by decide +kernel⟩
theorem witness_OutriderCommandsTakeEffect_6 :
    ∃ (s : State) (l : OwnLine), s.elec.powered = true ∧ l ≠ .free :=
  ⟨mate, .aOwns,
    by decide +kernel⟩
theorem witness_OutriderCommandsTakeEffect_7 :
    ∃ (s : State), s.elec.powered = true ∧ s.outr.asserting = true ∧ s.outr.owner = false :=
  ⟨{ card with outr.owner := false },
    by decide +kernel⟩
theorem witness_OutriderCommandsTakeEffect_8 :
    ∃ (s : State), s.outr.overlap = true :=
  ⟨{ card with outr.owner := false, outr.overlap := true },
    by decide +kernel⟩
theorem witness_OutriderCommandsTakeEffect_9 :
    ∃ (s : State) (u : Nat), s.elec.powered = true ∧ mayAssert s = true ∧ s.outr.line = .free ∧ s.outr.released = some u ∧
      passed s u (sec 2) = true :=
  ⟨{ mate with outr.line := .free, outr.released := some 0 }, 0,
    by decide +kernel⟩
theorem witness_OutriderCommandsTakeEffect_10 :
    ∃ (s : State), s.elec.powered = true ∧ s.outr.hold ≠ .none :=
  ⟨{ card with outr.hold := .heartbeat },
    by decide +kernel⟩
theorem witness_OutriderCommandsTakeEffect_11 :
    ∃ (s : State), running s = true ∧
      (s.outr.hold = .takeover ∧ isActive s = true ∧ s.outr.owner = true ∧ gapMayEnd s = true) ∨ (s.outr.hold = .heartbeat ∧ s.outr.hbGood = true) ∨ (s.outr.hold = .restart ∧ 9 ≤ s.elec.step) :=
  ⟨{ card with outr.hold := .heartbeat },
    by decide +kernel⟩
theorem witness_OutriderCommandsTakeEffect_12 :
    ∃ (s : State) (_x : Ix), running s = true ∧ fromHoldBits s = true :=
  ⟨{ card with outr.hold := .takeover }, .zero,
    by decide +kernel⟩

/-! ### RoleCommandsTakeEffect -/

theorem witness_RoleCommandsTakeEffect_1 :
    ∃ (s : State), running s = true ∧ s.outr.owner = true ∧ s.pair.role = .standby ∧ 7 ≤ s.elec.step :=
  ⟨{ mate with outr.owner := true, outr.asserting := true, outr.hold := .takeover, outr.line := .aOwns },
    by decide +kernel⟩
theorem witness_RoleCommandsTakeEffect_2 :
    ∃ (s : State) (h : Hdr), hostReady s h = true ∧ alone s h = true ∧ s.outr.owner = true ∧ isActive s = true ∧
      partnerFit s = true ∧ s.pair.req = none :=
  ⟨{ card with pair := { card.pair with peer := some ⟨true, 0, 0xFF, 1, 0, 0, 0xFFFF, 0, Two.both (0, 0, 0)⟩ } }, hd,
    by decide +kernel⟩
theorem witness_RoleCommandsTakeEffect_3 :
    ∃ (s : State) (q : ReleaseReq), running s = true ∧ isActive s = true ∧ s.outr.owner = true ∧ s.pair.req = some q ∧
      q.gone = false ∧ (s.grid.on = false ∨ q.at_ ≤ s.grid.now) ∧ s.upd.leaving = none :=
  ⟨{ card with pair := { card.pair with req := some ⟨3, 128000, [], false⟩ } }, ⟨3, 128000, [], false⟩,
    by decide +kernel⟩
theorem witness_RoleCommandsTakeEffect_4 :
    ∃ (s : State) (_x : Ix), running s = true ∧ s.pair.role ≠ .isolated :=
  ⟨card, .zero,
    by decide +kernel⟩
theorem witness_RoleCommandsTakeEffect_5 :
    ∃ (s : State) (f : SelfFinding) (x : Ix), running s = true ∧ isActive s = true ∧ f ≠ .selfTest ∧ s.outr.owner = true ∧
      testBit (parN s 0x0C02) f.bitNo = true ∧ partnerFit s = true ∧ selfFindingHolds s f x = true :=
  ⟨{ card with pair := { card.pair with peer := some ⟨true, 0, 0xFF, 1, 0, 0, 0xFFFF, 0, Two.both (0, 0, 0)⟩, streamLost := some 0 } }, .noStream, .zero,
    by decide +kernel⟩
theorem witness_RoleCommandsTakeEffect_6 :
    ∃ (s : State), s.elec.powered = true :=
  ⟨card,
    by decide +kernel⟩
theorem witness_RoleCommandsTakeEffect_7 :
    ∃ (s : State) (b : Bool), running s = true ∧ s.pair.present ≠ b :=
  ⟨card, false,
    by decide +kernel⟩
theorem witness_RoleCommandsTakeEffect_8 :
    ∃ (s : State) (h : Hdr), hostReady s h = true ∧ alone s h = true ∧ s.pair.role ≠ .isolated :=
  ⟨card, hd,
    by decide +kernel⟩
theorem witness_RoleCommandsTakeEffect_9 :
    ∃ (s : State) (h : Hdr), hostReady s h = true ∧ alone s h = true ∧ s.pair.role = .isolated ∧
      (s.pair.peer = none ∨ s.pair.variantMatch = true) ∧ s.elec.selfTestOk = true :=
  ⟨{ mate with pair := { mate.pair with role := .isolated } }, hd,
    by decide +kernel⟩

/-! ### PeerLinkCommandsTakeEffect -/

theorem witness_PeerLinkCommandsTakeEffect_1 :
    ∃ (s : State) (f : PeerFrame), clocked s = true ∧ (s.elec.fw || s.elec.loader) = true ∧ f.good 0x30 (· == 32) = true :=
  ⟨card, peerFrame 0x30 (List.replicate 32 0),
    by decide +kernel⟩
theorem witness_PeerLinkCommandsTakeEffect_2 :
    ∃ (s : State), clocked s = true ∧ (s.elec.fw || s.elec.loader) = true :=
  ⟨card,
    by decide +kernel⟩
theorem witness_PeerLinkCommandsTakeEffect_3 :
    ∃ (s : State), s.elec.powered = true ∧ s.pair.linkUp = true :=
  ⟨card,
    by decide +kernel⟩
theorem witness_PeerLinkCommandsTakeEffect_4 :
    ∃ (s : State) (r : PeerRec) (u : Nat), running s = true ∧ s.pair.linkUp = true ∧ s.pair.peer = some r ∧
      r.digest ≠ parDigest s ∧ s.pair.digestUp = some u ∧ passed s u (sec 1) = true := by
  obtain ⟨d, hd⟩ := other_number (parDigest card)
  exact ⟨{ card with pair := { card.pair with peer := some ⟨true, 0, 0xFF, 1, 0, 0, 0xFFFF, d, Two.both (0, 0, 0)⟩, digestUp := some 0 } },
    ⟨true, 0, 0xFF, 1, 0, 0, 0xFFFF, d, Two.both (0, 0, 0)⟩, 0,
    rfl, rfl, rfl, by rw [parDigest_pair card]; exact hd, rfl, rfl⟩
theorem witness_PeerLinkCommandsTakeEffect_5 :
    ∃ (s : State) (f : PeerFrame) (b : Nat) (off : Nat) (d : List Byte), running s = true ∧ s.outr.owner = false ∧
      f.good 0x32 (fun n => decide (5 ≤ n) && decide (n ≤ 2045)) = true ∧ byteAt f.payload 0 = b ∧ b ≤ 1 ∧ beAt f.payload 1 4 = off ∧
      f.payload.drop 5 = d ∧ off + d.length ≤ 43264 ∧ (s.est.peerBuf.get (Ix.ofNum b)).wf 0 = true :=
  ⟨mate, peerFrame 0x32 [1, 0, 0, 0xA8, 0xFE, 7, 0], 1, 43262, [7, 0],
    by decide +kernel⟩
theorem witness_PeerLinkCommandsTakeEffect_6 :
    ∃ (s : State) (f : PeerFrame) (n : Nat), running s = true ∧ s.outr.owner = false ∧
      f.good 0x33 (fun k => k == 6 + 16 * byteAt f.payload 1) = true ∧ byteAt f.payload 1 = n ∧ n ≤ 32 ∧ byteAt f.payload 0 ≤ 1 :=
  ⟨mate, peerFrame 0x33 (0 :: 1 :: [0, 0, 0, 9] ++ List.replicate 16 3), 1,
    by decide +kernel⟩
theorem witness_PeerLinkCommandsTakeEffect_7 :
    ∃ (s : State) (f : PeerFrame), running s = true ∧ s.outr.owner = false ∧ f.good 0x34 (· == 16) = true ∧ 8 ≤ s.elec.step :=
  ⟨mate, peerFrame 0x34 (List.replicate 16 1),
    by decide +kernel⟩
theorem witness_PeerLinkCommandsTakeEffect_8 :
    ∃ (s : State) (f : PeerFrame), running s = true ∧ s.outr.owner = false ∧ f.good 0x35 (· == 96) = true :=
  ⟨mate, peerFrame 0x35 (List.replicate 96 0),
    by decide +kernel⟩
theorem witness_PeerLinkCommandsTakeEffect_9 :
    ∃ (s : State) (f : PeerFrame), running s = true ∧ f.good 0x36 (· == 10) = true :=
  ⟨card, peerFrame 0x36 (3 :: List.replicate 9 0),
    by decide +kernel⟩
theorem witness_PeerLinkCommandsTakeEffect_10 :
    ∃ (s : State) (f : PeerFrame), drives s = true ∧ f.good 0x37 (· == 4) = true ∧ s.grid.head = true :=
  ⟨source, peerFrame 0x37 [0, 0, 4, 5],
    by decide +kernel⟩
theorem witness_PeerLinkCommandsTakeEffect_11 :
    ∃ (s : State) (f : PeerFrame) (_rtt : Nat), running s = true ∧ f.good 0x38 (· == 18) = true ∧ byteAt f.payload 1 = 2 ∧
      s.grid.peer.echo.busy = true ∧ s.grid.peer.echo.got + s.grid.peer.echo.lost < 63 :=
  ⟨{ mate with grid.peer.echo := { busy := true, got := 62 } }, peerFrame 0x38 (0 :: 2 :: List.replicate 16 0), 40,
    by decide +kernel⟩

/-! ### CanCommandsTakeEffect -/

theorem witness_CanCommandsTakeEffect_1 :
    ∃ (s : State) (_b : Ix) (f : CanFrame), running s = true ∧ f.err = false :=
  ⟨card, .one, ⟨5, false, false, false, false, [], false, false⟩,
    by decide +kernel⟩
theorem witness_CanCommandsTakeEffect_2 :
    ∃ (s : State) (_b : Ix) (f : CanFrame), running s = true ∧ f.err = true :=
  ⟨card, .one, ⟨0, false, false, false, false, [], true, false⟩,
    by decide +kernel⟩
theorem witness_CanCommandsTakeEffect_3 :
    ∃ (s : State) (b : Ix), running s = true ∧ (canBus s b).detecting = true ∧ passed s (canBus s b).candUp (ms (parN s 0x0D06)) = true :=
  ⟨{ card with can.bus.one := { detecting := true, cand := 8 } }, .one,
    by decide +kernel⟩
theorem witness_CanCommandsTakeEffect_4 :
    ∃ (s : State) (b : Ix), running s = true ∧ (canBus s b).detecting = true ∧ detectFails s b = true :=
  ⟨{ card with can.bus.one := { detecting := true, cand := 8 } }, .one,
    by decide +kernel⟩
theorem witness_CanCommandsTakeEffect_5 :
    ∃ (s : State) (_b : Ix), running s = true ∧ s.grid.on = true :=
  ⟨card, .zero,
    by decide +kernel⟩
theorem witness_CanCommandsTakeEffect_6 :
    ∃ (s : State) (b : Ix) (w : Nat) (left : Nat) (m : CanMsg), drives s = true ∧ w < 32 ∧ (canWin s b w).kind ≠ 0 ∧
      testBit (canWin s b w).mask (canBus s b).basic = true ∧ (canBus s b).st = .scheduled ∧ (canBus s b).fc ≠ .busOff ∧
      (canBus s b).tx = none ∧ yieldTo s b (canWin s b w) = none ∧ windowMsg s b w = some m ∧
      msgNs (canBus s b).rate m + 2000 ≤ left :=
  ⟨{ card with
      par.acting := [(0x0D43, 0x0120000003)],
      can.bus.zero := { st := .scheduled, rate := 1, hostBuf := some { kind := .host, window := none, index := 255, id := 0x700, format := 0, data := [1], handle := 9, attempts := 0, ackOnly := true, cancelled := false, waiter := none } :: List.replicate 7 none } },
    .zero, 3, 400000,
    { ({ kind := .host, window := none, index := 255, id := 0x700, format := 0, data := [1], handle := 9, attempts := 0, ackOnly := true, cancelled := false, waiter := none } : CanMsg) with
      window := some 3 },
    by decide +kernel⟩
theorem witness_CanCommandsTakeEffect_7 :
    ∃ (s : State) (b : Ix) (m : CanMsg), running s = true ∧ (canBus s b).tx = some m ∧ (canBus s b).st = .scheduled :=
  ⟨{ card with
      can.bus.zero := { st := .scheduled, tx := some { kind := .host, window := none, index := 255, id := 0x700, format := 0, data := [1], handle := 9, attempts := 0, ackOnly := true, cancelled := false, waiter := none } } },
    .zero,
    { kind := .host, window := none, index := 255, id := 0x700, format := 0, data := [1], handle := 9, attempts := 0, ackOnly := true, cancelled := false, waiter := none },
    by decide +kernel⟩
theorem witness_CanCommandsTakeEffect_8 :
    ∃ (s : State) (b : Ix), running s = true ∧ (canBus s b).fc ≠ .busOff ∧ (canBus s b).st ≠ .listenOnly :=
  ⟨{ card with can.bus.zero := { st := .normal } }, .zero,
    by decide +kernel⟩
theorem witness_CanCommandsTakeEffect_9 :
    ∃ (s : State) (b : Ix), running s = true ∧ (canBus s b).fc = .busOff :=
  ⟨{ card with can.bus.zero := { st := .normal, fc := .busOff } }, .zero,
    by decide +kernel⟩
theorem witness_CanCommandsTakeEffect_10 :
    ∃ (s : State) (h : Hdr) (bus : Nat) (fmt : Nat) (len : Nat) (buf : Nat) (i : Nat) (d : List Byte), hostReady s h = true ∧
      alone s h = true ∧ bus ≤ 1 ∧ postFault s bus fmt len buf i d = 0 ∧ buf < 8 ∧
      buf < (canBus s (Ix.ofNum bus)).hostBuf.length :=
  ⟨card, hd, 1, 0, 1, 7, 0x700, [5],
    by decide +kernel⟩
theorem witness_CanCommandsTakeEffect_11 :
    ∃ (s : State) (h : Hdr) (bus : Nat) (fmt : Nat) (len : Nat) (i : Nat) (d : List Byte), hostReady s h = true ∧
      alone s h = true ∧ bus ≤ 1 ∧ postFault s bus fmt len 0xFF i d = 0 :=
  ⟨card, hd, 1, 0, 1, 0x700, [5],
    by decide +kernel⟩
theorem witness_CanCommandsTakeEffect_12 :
    ∃ (s : State) (h : Hdr) (m : CanMsg), hostReady s h = true ∧ alone s h = true ∧ (canBus s .zero).tx = none ∧
      (canBus s .one).tx = none ∧ m ∈ (canBus s .zero).queue ∧ m.kind = .host :=
  ⟨{ card with
      can.bus.zero := { st := .normal, queue := [{ kind := .host, window := none, index := 255, id := 0x700, format := 0, data := [1], handle := 9, attempts := 0, ackOnly := true, cancelled := false, waiter := none }] } },
    hd,
    { kind := .host, window := none, index := 255, id := 0x700, format := 0, data := [1], handle := 9, attempts := 0, ackOnly := true, cancelled := false, waiter := none },
    by decide +kernel⟩
theorem witness_CanCommandsTakeEffect_13 :
    ∃ (s : State) (h : Hdr) (m : CanMsg), hostReady s h = true ∧ (canBus s .zero).tx = some m ∧ m.kind = .host :=
  ⟨{ card with
      can.bus.zero := { st := .normal, tx := some { kind := .host, window := none, index := 255, id := 0x700, format := 0, data := [1], handle := 9, attempts := 0, ackOnly := true, cancelled := false, waiter := none } } },
    hd,
    { kind := .host, window := none, index := 255, id := 0x700, format := 0, data := [1], handle := 9, attempts := 0, ackOnly := true, cancelled := false, waiter := none },
    by decide +kernel⟩

end Sys2Proof.Tests
end

