-- ==== Sys2Proof/Tests/Witness4.lean ====
section
/-! SUPPORT. Witnesses: states and operands that meet the hypotheses of the statements about the host ports, streams, the ledger, parameters and update. -/

namespace Sys2Proof.Tests

open Sys2Proof Sys2Proof.Machine

set_option Elab.async false

/-! ### PortCommandsTakeEffect -/

theorem witness_PortCommandsTakeEffect_1 :
    ∃ (s : State) (p : Ix) (_c : LinkCause), clocked s = true ∧ portUp s p = true :=
  ⟨card, .zero, .flr,
    by decide +kernel⟩
theorem witness_PortCommandsTakeEffect_2 :
    ∃ (s : State) (p : Ix) (_c : LinkCause), clocked s = true ∧ portUp s p = false :=
  ⟨{ card with host.port.zero.up := false }, .zero, .link,
    by decide +kernel⟩
theorem witness_PortCommandsTakeEffect_3 :
    ∃ (s : State) (p : Ix) (_c : LinkCause), clocked s = true ∧ portUp s p = true :=
  ⟨card, .one, .link,
    by decide +kernel⟩
theorem witness_PortCommandsTakeEffect_4 :
    ∃ (s : State) (p : Ix) (_v : Nat) (_wide : Bool), clocked s = true ∧ portUp s p = false ∧ 3 ≤ s.elec.step :=
  ⟨{ card with host.port.one.up := false }, .one, 2, true,
    by decide +kernel⟩
theorem witness_PortCommandsTakeEffect_5 :
    ∃ (s : State) (_p : Ix) (_st : Nat) (_b : Bool), clocked s = true ∧ 3 ≤ s.elec.step :=
  ⟨card, .one, 5, true,
    by decide +kernel⟩
theorem witness_PortCommandsTakeEffect_6 :
    ∃ (s : State) (p : Ix) (_w : Word), clocked s = true ∧ portUp s p = true :=
  ⟨card, .zero, 0xFFFFFFFF,
    by decide +kernel⟩
theorem witness_PortCommandsTakeEffect_7 :
    ∃ (_s : State) (_p : Ix) (off : Nat) (_w : Word), off % 4 ≠ 0 :=
  ⟨card, .zero, 0x1D, 3,
    by decide +kernel⟩
theorem witness_PortCommandsTakeEffect_8 :
    ∃ (s : State) (p : Ix) (_w : Word), clocked s = true ∧ portUp s p = true :=
  ⟨{ card with ev.overflow := true, ev.fault := true }, .one, 0x40,
    by decide +kernel⟩
theorem witness_PortCommandsTakeEffect_9 :
    ∃ (s : State) (p : Ix) (g : Nat) (_w : Word), clocked s = true ∧ portUp s p = true ∧ g < 8 ∧ g < (s.host.port.get p).mask.length :=
  ⟨card, .one, 7, 0xFFFFFFFF,
    by decide +kernel⟩

/-! ### MailboxCommandsTakeEffect -/

theorem witness_MailboxCommandsTakeEffect_1 :
    ∃ (s : State) (p : Ix) (r : Nat) (w : Word) (_l : List MbxEntry), clocked s = true ∧ (s.elec.fw || s.elec.loader) = true ∧
      portUp s p = true ∧ r < 8 ∧ r < (s.host.port.get p).rings.length ∧ (w.toNat % 64 + 64 - (mbxRing s p r).done) % 64 ≤ 32 :=
  ⟨card, .zero, 7, 32, [],
    by decide +kernel⟩
theorem witness_MailboxCommandsTakeEffect_2 :
    ∃ (s : State) (p : Ix) (r : Nat) (w : Word) (_l : List MbxEntry), clocked s = true ∧ (s.elec.fw || s.elec.loader) = true ∧
      portUp s p = true ∧ r < 8 ∧ r < (s.host.port.get p).rings.length ∧ 32 < (w.toNat % 64 + 64 - (mbxRing s p r).done) % 64 :=
  ⟨card, .zero, 7, 33, [],
    by decide +kernel⟩
theorem witness_MailboxCommandsTakeEffect_3 :
    ∃ (s : State) (h : Hdr) (op : Nat), hostReady s h = true ∧ alone s h = true ∧ (opcodeLens op).isSome = true ∧
      longOpcode op = false :=
  ⟨card, hd, 0x0010,
    by decide +kernel⟩
theorem witness_MailboxCommandsTakeEffect_4 :
    ∃ (s : State) (l : LongRec), running s = true ∧ (s.host.longs.find? fun k => k.id == l.id && k.ended && !k.reported) = some l :=
  ⟨{ card with host.longs := [⟨5, .zero, 0, 1, 0x32, .ok, 0, [], true, Stamp.zero, 0, false⟩] },
    ⟨5, .zero, 0, 1, 0x32, .ok, 0, [], true, Stamp.zero, 0, false⟩,
    by decide +kernel⟩
theorem witness_MailboxCommandsTakeEffect_5 :
    ∃ (s : State) (_id : Nat), running s = true :=
  ⟨card, 5,
    by decide +kernel⟩
theorem witness_MailboxCommandsTakeEffect_6 :
    ∃ (s : State) (h : Hdr), hostReady s h = true ∧ alone s h = true :=
  ⟨card, hd,
    by decide +kernel⟩
theorem witness_MailboxCommandsTakeEffect_7 :
    ∃ (s : State) (h : Hdr), loaderReady s h = true ∧ alone s h = true :=
  ⟨card, hd,
    by decide +kernel⟩
theorem witness_MailboxCommandsTakeEffect_8 :
    ∃ (s : State) (h : Hdr) (id : Nat) (l : LongRec), hostReady s h = true ∧ alone s h = true ∧
      (s.host.longs.find? fun k => k.id == id) = some l :=
  ⟨{ card with host.longs := [⟨5, .zero, 0, 1, 0x32, .ok, 0, [], true, Stamp.zero, 0, true⟩] }, hd, 5,
    ⟨5, .zero, 0, 1, 0x32, .ok, 0, [], true, Stamp.zero, 0, true⟩,
    by decide +kernel⟩

/-! ### StreamCommandsTakeEffect -/

theorem witness_StreamCommandsTakeEffect_1 :
    ∃ (s : State) (h : Hdr) (ty : Nat) (a : Nat) (n : Nat) (d : List Desc), hostReady s h = true ∧ alone s h = true ∧
      openFault s h.port ty a n d = none ∧ ty < (s.host.port.get h.port).streams.length :=
  ⟨card, hd, 4, 64, 4096, [],
    by decide +kernel⟩
theorem witness_StreamCommandsTakeEffect_2 :
    ∃ (s : State) (h : Hdr) (ty : Nat), hostReady s h = true ∧ alone s h = true ∧ (strm s h.port ty).isOpen = true ∧ ty ≤ 4 :=
  ⟨{ card with
      host.port.zero.streams := setAt (List.replicate 5 {}) 4 { isOpen := true, entries := 8, addr := 64, lost := 9 } }, hd, 4,
    by decide +kernel⟩
theorem witness_StreamCommandsTakeEffect_3 :
    ∃ (s : State) (p : Ix) (m : Nat) (_w : Word), running s = true ∧ portUp s p = true ∧ m ≠ 1 ∧ m ≤ 4 ∧
      m < (s.host.port.get p).streams.length :=
  ⟨card, .zero, 4, 0xFFFFFFFF,
    by decide +kernel⟩
theorem witness_StreamCommandsTakeEffect_4 :
    ∃ (s : State) (p : Ix) (m : Nat) (_d : Desc), running s = true ∧ strmRuns s p m = true ∧ (strm s p m).fetch.isSome = true :=
  ⟨{ card with
      host.port.zero.streams := setAt (List.replicate 5 {}) 4 { isOpen := true, entries := 8, addr := 64, fetch := some 0 } },
    .zero, 4, ⟨4096, 8192, false, 1⟩,
    by decide +kernel⟩
theorem witness_StreamCommandsTakeEffect_5 :
    ∃ (s : State) (p : Ix) (m : Nat) (_a : Nat) (n : Nat), running s = true ∧ strmRuns s p m = true ∧
      (strm s p m).fetch = some n ∧ n < parN s 0x0E02 :=
  ⟨{ card with
      host.port.zero.streams := setAt (List.replicate 5 {}) 4 { isOpen := true, entries := 8, addr := 64, fetch := some 0 } },
    .zero, 4, 64, 0,
    by decide +kernel⟩
theorem witness_StreamCommandsTakeEffect_6 :
    ∃ (s : State) (p : Ix) (m : Nat) (_a : Nat) (n : Nat), running s = true ∧ strmRuns s p m = true ∧
      (strm s p m).fetch = some n ∧ parN s 0x0E02 ≤ n :=
  ⟨{ card with
      host.port.zero.streams := setAt (List.replicate 5 {}) 4 { isOpen := true, entries := 8, addr := 64, fetch := some 200 } },
    .zero, 4, 64, 200,
    by decide +kernel⟩
theorem witness_StreamCommandsTakeEffect_7 :
    ∃ (s : State) (p : Ix) (m : Nat) (u : Nat), running s = true ∧ strmRuns s p m = true ∧ m ≠ 1 ∧ m ≠ 3 ∧
      (strm s p m).buf = none ∧ (strm s p m).waiting ≠ [] ∧ (strm s p m).needUp = some u ∧
      passed s u (ms (parN s 0x0E01)) = true :=
  ⟨{ card with
      host.port.zero.streams := setAt (List.replicate 5 {}) 0 { isOpen := true, entries := 8, addr := 64, waiting := [(Stamp.zero, [1, 2])], needUp := some 0 } },
    .zero, 0, 0,
    by decide +kernel⟩
theorem witness_StreamCommandsTakeEffect_8 :
    ∃ (s : State) (p : Ix) (m : Nat) (a : Nat) (b : List Byte) (want : Bool) (rest : List (Nat × List Byte × Bool)),
      clocked s = true ∧ strmRuns s p m = true ∧ outranked s p m = false ∧ (strm s p m).writing = (a, b, want) :: rest :=
  ⟨{ card with
      host.port.zero.streams := setAt (List.replicate 5 {}) 0 { isOpen := true, entries := 8, addr := 64, writing := [(4096, List.replicate 80 1, true)] } },
    .zero, 0, 4096, List.replicate 80 1, true, [],
    by decide +kernel⟩
theorem witness_StreamCommandsTakeEffect_9 :
    ∃ (s : State) (p : Ix) (c : Nat), running s = true ∧ (s.host.port.get p).rxCycle = some c ∧ strmRuns s p 2 = true ∧
      bufHolds s p 2 = true ∧ c + parN s 0x0E04 ≤ curCycle s :=
  ⟨{ { card with host.port.zero.streams := setAt (List.replicate 5 {}) 2 { isOpen := true, entries := 8, addr := 64, buf := some ⟨⟨4096, 8192, false, 1⟩, [1], Stamp.zero, 0⟩ } } with host.port.zero.rxCycle := some 0 },
    .zero, 0,
    by decide +kernel⟩
theorem witness_StreamCommandsTakeEffect_10 :
    ∃ (s : State) (h : Hdr) (r : CaptureReq), hostReady s h = true ∧ alone s h = true ∧
      (s.host.port.get h.port).capture = none ∧ captureOk r = true ∧ strmRuns s h.port 4 = true :=
  ⟨{ card with host.port.zero.streams := setAt (List.replicate 5 {}) 4 { isOpen := true, entries := 8, addr := 64 } }, hd,
    ⟨3, 0, 0, 1, 256, 2, 40, 0⟩,
    by decide +kernel⟩
theorem witness_StreamCommandsTakeEffect_11 :
    ∃ (s : State) (p : Ix) (c : CaptureRun), running s = true ∧ (s.host.port.get p).capture = some c ∧ c.triggered = none ∧
      c.req.trigger = 1 ∧ c.req.cyc * 128 ≤ s.grid.now :=
  ⟨{ { card with host.port.zero.streams := setAt (List.replicate 5 {}) 4 { isOpen := true, entries := 8, addr := 64 } } with host.port.zero.capture := some ⟨5, ⟨3, 0, 0, 1, 256, 1, 0, 1000⟩, 127000, none, false, 0, 0⟩ },
    .zero, ⟨5, ⟨3, 0, 0, 1, 256, 1, 0, 1000⟩, 127000, none, false, 0, 0⟩,
    by decide +kernel⟩
theorem witness_StreamCommandsTakeEffect_12 :
    ∃ (s : State) (p : Ix) (m : Nat) (ms' : F32), running s = true ∧ strmRuns s p m = true ∧ (m = 3 ∨ m = 4) ∧
      (strm s p m).writing ≠ [] ∧ 1 < F32.toRat ms' ∧ KV.get? s.ev.rate (161, 8 * p.num + m) ≠ some (curCycle s) :=
  ⟨{ card with host.port.zero.streams := setAt (List.replicate 5 {}) 3 { isOpen := true, entries := 8, addr := 64, writing := [(4096, [], false)] } }, .zero, 3,
    0x3F800001,
    by decide +kernel⟩

/-! ### LedgerCommandsTakeEffect -/

theorem witness_LedgerCommandsTakeEffect_1 :
    ∃ (s : State) (a : Bool) (b : Bool) (o : Occ) (rest : List Occ), running s = true ∧ s.elec.scanned = true ∧
      s.ev.freeze = none ∧ s.ev.queue = o :: rest ∧ (a || b) = true :=
  ⟨{ card with ev.queue := [⟨96, Stamp.zero, true, true, false, false, [1, 2]⟩], ev.next := 65535 }, false, true,
    ⟨96, Stamp.zero, true, true, false, false, [1, 2]⟩, [],
    by decide +kernel⟩
theorem witness_LedgerCommandsTakeEffect_2 :
    ∃ (s : State) (o : Occ) (rest : List Occ), running s = true ∧ s.elec.scanned = true ∧ s.ev.freeze = none ∧
      s.ev.queue = o :: rest ∧ fabOver s = false :=
  ⟨{ card with ev.queue := [⟨96, Stamp.zero, true, true, false, false, [1, 2]⟩], ev.next := 65535 },
    ⟨96, Stamp.zero, true, true, false, false, [1, 2]⟩, [],
    by decide +kernel⟩
theorem witness_LedgerCommandsTakeEffect_3 :
    ∃ (s : State) (h : Hdr) (e : Nat) (o : Occ), hostReady s h = true ∧ alone s h = true ∧ KV.get? s.ev.last e = some o :=
  ⟨{ card with ev.last := [(96, ⟨96, Stamp.zero, true, true, false, false, [1, 2]⟩)] }, hd, 96,
    ⟨96, Stamp.zero, true, true, false, false, [1, 2]⟩,
    by decide +kernel⟩
theorem witness_LedgerCommandsTakeEffect_4 :
    ∃ (s : State) (h : Hdr) (first : Nat) (count : Nat) (start : Nat), hostReady s h = true ∧ alone s h = true ∧ 1 ≤ count ∧
      count ≤ 63 ∧ start = min s.ev.next (max first (oldestSeq s)) :=
  ⟨{ card with
      ev.next := 5,
      ev.floor := 4,
      ev.slots := [(4, { seq := 4, occ := ⟨96, Stamp.zero, true, true, false, false, [1, 2]⟩, more := false, part := 0, data := [1, 2], valid := true })] },
    hd, 0, 63, 4,
    by decide +kernel⟩
theorem witness_LedgerCommandsTakeEffect_5 :
    ∃ (s : State) (h : Hdr) (_a : Nat) (_b : Nat), hostReady s h = true ∧ alone s h = true ∧ strmRuns s h.port 3 = true ∧
      (s.host.port.get h.port).dump = none :=
  ⟨{ card with host.port.zero.streams := setAt (List.replicate 5 {}) 3 { isOpen := true, entries := 8, addr := 64 } }, hd, 0, 9,
    by decide +kernel⟩
theorem witness_LedgerCommandsTakeEffect_6 :
    ∃ (s : State) (h : Hdr) (d : Nat), hostReady s h = true ∧ alone s h = true ∧ s.ev.freeze = none ∧ 1 ≤ d ∧ d ≤ 10000 ∧
      (∀ u, s.ev.freezeEnd = some u → passed s u (sec 1) = true) :=
  ⟨card, hd, 10000,
    by decide +kernel⟩
theorem witness_LedgerCommandsTakeEffect_7 :
    ∃ (s : State) (h : Hdr), hostReady s h = true ∧ alone s h = true ∧ freezeOther s h = none :=
  ⟨card, hd,
    by decide +kernel⟩
theorem witness_LedgerCommandsTakeEffect_8 :
    ∃ (s : State) (f : FreezeRec), running s = true ∧ s.ev.freeze = some f ∧ passed s f.up (ms (min 10000 f.ms)) = true :=
  ⟨{ card with ev.freeze := some ⟨.zero, 0, 1, Stamp.zero, 0, 10000, []⟩ }, ⟨.zero, 0, 1, Stamp.zero, 0, 10000, []⟩,
    by decide +kernel⟩
theorem witness_LedgerCommandsTakeEffect_9 :
    ∃ (s : State) (h : Hdr) (_u : Nat), hostReady s h = true ∧ alone s h = true ∧ s.ev.freeze = none :=
  ⟨{ card with ev.next := 5 }, hd, 4,
    by decide +kernel⟩
theorem witness_LedgerCommandsTakeEffect_10 :
    ∃ (s : State) (h : Hdr) (_u : Nat), hostReady s h = true ∧ alone s h = true ∧ s.ev.freeze.isSome = true ∧ freezeOther s h = none :=
  ⟨{ card with ev.next := 5, ev.freeze := some ⟨.zero, 0, 1, Stamp.zero, 0, 10000, []⟩ }, hd, 4,
    by decide +kernel⟩
theorem witness_LedgerCommandsTakeEffect_11 :
    ∃ (s : State) (h : Hdr), hostReady s h = true ∧ alone s h = true :=
  ⟨card, hd,
    by decide +kernel⟩
theorem witness_LedgerCommandsTakeEffect_12 :
    ∃ (s : State) (h : Hdr) (d : List Byte), hostReady s h = true ∧ alone s h = true ∧ d.length = 8 :=
  ⟨card, hd, [1, 2, 3, 4, 5, 6, 7, 8],
    by decide +kernel⟩
theorem witness_LedgerCommandsTakeEffect_13 :
    ∃ (s : State) (o : Occ) (rest : List Occ), running s = true ∧ s.elec.scanned = true ∧ s.ev.freeze = none ∧
      s.ev.queue = o :: rest ∧ fabOver s = true :=
  ⟨{ card with ev.queue := [⟨96, Stamp.zero, true, true, false, false, [1, 2]⟩], clk.divActing.fab := 13 },
    ⟨96, Stamp.zero, true, true, false, false, [1, 2]⟩, [],
    by decide +kernel⟩

/-! ### ParameterCommandsTakeEffect -/

theorem witness_ParameterCommandsTakeEffect_1 :
    ∃ (s : State) (h : Hdr) (g : Nat) (first : Nat) (n : Nat) (src : Nat) (l : List Nat), hostReady s h = true ∧
      alone s h = true ∧ 1 ≤ n ∧ n ≤ 256 ∧ src ≤ 3 ∧ first ≤ 255 ∧
      (((List.range (min n (256 - first))).map fun i => g * 256 + first + i).filter fun a => (pInfo s.ident.variant a).isSome) = l ∧
      l ≠ [] :=
  ⟨card, hd, 2, 3, 2, 0, [0x0203, 0x0204],
    by decide +kernel⟩
theorem witness_ParameterCommandsTakeEffect_2 :
    ∃ (s : State) (h : Hdr) (d : List Byte) (es : List (Nat × Nat)), hostReady s h = true ∧ alone s h = true ∧
      s.par.holder = none ∧ parseEntries s d.length d [] = .ok es :=
  ⟨card, hd, [0x0E, 0x05, 2, 0, 60, 0], [(0x0E05, 60)],
    by decide +kernel⟩
theorem witness_ParameterCommandsTakeEffect_3 :
    ∃ (s : State) (h : Hdr), hostReady s h = true ∧ alone s h = true ∧ stagingHolder s h false = none ∧
      updState s ≠ .scheduled ∧ (∀ e ∈ s.par.staged, e.2 = parC s e.1) :=
  ⟨card, hd,
    by decide +kernel⟩
theorem witness_ParameterCommandsTakeEffect_4 :
    ∃ (s : State) (h : Hdr) (c : Dict), hostReady s h = true ∧ alone s h = true ∧ stagingHolder s h false = none ∧
      updState s ≠ .scheduled ∧ (∃ e ∈ s.par.staged, e.2 ≠ parC s e.1) ∧ candidate s = c ∧
      (∀ a ∈ changedPars s c, (roleLimited a && isActive s) = false) ∧ commitFault s c = none :=
  ⟨{ card with par.staged := [(0x0E05, 60)] }, hd, [(0x0E05, 60)],
    by decide +kernel⟩
theorem witness_ParameterCommandsTakeEffect_5 :
    ∃ (s : State) (h : Hdr), hostReady s h = true ∧ alone s h = true ∧ stagingHolder s h false = none :=
  ⟨card, hd,
    by decide +kernel⟩
theorem witness_ParameterCommandsTakeEffect_6 :
    ∃ (s : State) (b : Bank), running s = true ∧ s.par.persisting = true ∧ s.par.snap = some b :=
  ⟨{ card with
      par.persisting := true,
      par.snap := some { seq := 3, cycle := 9, dict := [], model := none, valid := true } },
    { seq := 3, cycle := 9, dict := [], model := none, valid := true },
    by decide +kernel⟩
theorem witness_ParameterCommandsTakeEffect_7 :
    ∃ (s : State) (b : Bank), running s = true ∧ s.par.persisting = true ∧ s.par.snap = some b ∧ s.par.retried = true :=
  ⟨{ card with
      par.persisting := true,
      par.retried := true,
      par.snap := some { seq := 3, cycle := 9, dict := [], model := none, valid := true } },
    { seq := 3, cycle := 9, dict := [], model := none, valid := true },
    by decide +kernel⟩
theorem witness_ParameterCommandsTakeEffect_8 :
    ∃ (s : State) (x : Ix) (b : Bank), running s = true ∧ badPairs s ≠ [] ∧ bankInUse s = some (x, b) ∧ b.seq = s.par.seq :=
  ⟨{ card with
      par.comp := [(0x0B05, 1)],
      par.seq := 3,
      par.areas := { zero := { zero := some { seq := 3, cycle := 9, dict := [], model := none, valid := true }, one := none }, one := Two.both none } },
    .zero, { seq := 3, cycle := 9, dict := [], model := none, valid := true },
    by decide +kernel⟩
theorem witness_ParameterCommandsTakeEffect_9 :
    ∃ (s : State), running s = true ∧ badPairs s ≠ [] ∧ bankInUse s = none ∧ s.pair.role ≠ .isolated :=
  ⟨{ card with par.comp := [(0x0B05, 1)] },
    by decide +kernel⟩

/-! ### UpdateCommandsTakeEffect -/

theorem witness_UpdateCommandsTakeEffect_1 :
    ∃ (s : State) (h : Hdr) (ty : Nat) (_brk : Bool) (_len : Nat) (_ver : Nat) (_crc : Nat), loaderReady s h = true ∧
      alone s h = true ∧ otherHolder s h = none ∧ updState s = .idle ∧ (ty = 1 ∨ ty = 2) :=
  ⟨card, hd, 2, true, 8192, 7, 0,
    by decide +kernel⟩
theorem witness_UpdateCommandsTakeEffect_2 :
    ∃ (s : State) (h : Hdr) (off : Nat) (_a : Nat) (crc : Nat) (d : List Byte), loaderReady s h = true ∧ alone s h = true ∧
      otherHolder s h = none ∧ updState s = .receiving ∧ holdsLock s h = true ∧ s.par.persisting = false ∧ off % 4096 = 0 ∧
      off < (curJournal s).imageLen ∧ off < targetLen (curJournal s).imgType ∧ d.length = 4096 ∧ crc32c d = crc ∧
      markedCrc (curJournal s) (off / 4096) = none ∧
      (off = 0 → blockFault s d (curJournal s).imgType (curJournal s).imageLen = none) ∧
      (targetMem s (curJournal s)).wf 0xFF = true :=
  ⟨{ card with
      upd.journal := { zero := some { seq := 1, st := .receiving, imgType := 1, imageLen := 8192, version := 7, manifestCrc := 0, slot := .one, blocks := [], crcs := [], verifying := false, actCycle := 1000 }, one := none },
      upd.lock := some (.zero, 0, 1, 0) }, hd, 4096, 0, crc32c (List.replicate 4096 0), List.replicate 4096 0,
    by decide +kernel, by decide +kernel, by decide +kernel, by decide +kernel, by decide +kernel, by decide +kernel, by decide +kernel, by decide +kernel, by decide +kernel, List.length_replicate, rfl, by decide +kernel, fun h => absurd h (by decide), by decide +kernel⟩
theorem witness_UpdateCommandsTakeEffect_3 :
    ∃ (s : State) (h : Hdr), loaderReady s h = true ∧ alone s h = true ∧ otherHolder s h = none ∧ updState s = .receiving ∧
      holdsLock s h = true ∧ missingBlocks (curJournal s) = 0 :=
  ⟨{ card with
      upd.journal := { zero := some { seq := 1, st := .receiving, imgType := 1, imageLen := 8192, version := 7, manifestCrc := 0, slot := .one, blocks := [0, 1], crcs := [0, 0], verifying := false, actCycle := 1000 }, one := none },
      upd.lock := some (.zero, 0, 1, 0) }, hd,
    by decide +kernel⟩
theorem witness_UpdateCommandsTakeEffect_4 :
    ∃ (s : State) (h : Hdr) (c : Nat), loaderReady s h = true ∧ alone s h = true ∧ updState s = .verified ∧ synced s = true ∧
      curCycle s + parN s 0x1006 ≤ c ∧ (isActive s = true → pairAgrees s (s.upd.ver.get (curJournal s).slot) = true) :=
  ⟨{ card with
      upd.journal := { zero := some { seq := 1, st := .verified, imgType := 1, imageLen := 8192, version := 7, manifestCrc := 0, slot := .one, blocks := [], crcs := [], verifying := false, actCycle := 1000 }, one := none },
      pair := { card.pair with present := false } }, hd, (1000 + parN card 0x1006),
    by decide +kernel⟩
theorem witness_UpdateCommandsTakeEffect_5 :
    ∃ (s : State) (h : Hdr) (_b : Bool), loaderReady s h = true ∧ alone s h = true ∧ otherHolder s h = none ∧
      (updState s = .receiving ∨ updState s = .verified) :=
  ⟨{ card with
      upd.journal := { zero := some { seq := 1, st := .verified, imgType := 1, imageLen := 8192, version := 7, manifestCrc := 0, slot := .one, blocks := [], crcs := [], verifying := false, actCycle := 1000 }, one := none } },
    hd, true,
    by decide +kernel⟩
theorem witness_UpdateCommandsTakeEffect_6 :
    ∃ (s : State) (h : Hdr) (_b : Bool), loaderReady s h = true ∧ alone s h = true ∧ otherHolder s h = none ∧
      updState s = .scheduled ∧ (s.grid.on = false ∨ s.grid.now < (curJournal s).actCycle * 128) :=
  ⟨{ { card with upd.journal := { zero := some { seq := 1, st := .scheduled, imgType := 1, imageLen := 8192, version := 7, manifestCrc := 0, slot := .one, blocks := [], crcs := [], verifying := false, actCycle := 1000 }, one := none } } with grid.now := 127999 },
    hd, true,
    by decide +kernel⟩
theorem witness_UpdateCommandsTakeEffect_7 :
    ∃ (s : State) (h : Hdr) (r : SelRec), loaderReady s h = true ∧ alone s h = true ∧ selOf s = some r ∧ r.trial = true ∧
      s.upd.step8 = true :=
  ⟨{ card with
      upd.sel := { zero := some { seq := 2, slot := .one, trial := true, boots := 1, fallbackValid := true, converted := false, activeVer := 7, fallbackVer := 0, actCycle := 0, failBoots := 0 }, one := none },
      upd.step8 := true }, hd,
    { seq := 2, slot := .one, trial := true, boots := 1, fallbackValid := true, converted := false, activeVer := 7, fallbackVer := 0, actCycle := 0, failBoots := 0 },
    by decide +kernel⟩
theorem witness_UpdateCommandsTakeEffect_8 :
    ∃ (s : State) (h : Hdr), loaderReady s h = true ∧ alone s h = true ∧ updState s = .receiving ∧ holdsLock s h = true :=
  ⟨{ card with
      upd.journal := { zero := some { seq := 1, st := .receiving, imgType := 1, imageLen := 8192, version := 7, manifestCrc := 0, slot := .one, blocks := [], crcs := [], verifying := false, actCycle := 1000 }, one := none },
      upd.lock := some (.zero, 0, 1, 0) }, hd,
    by decide +kernel⟩
theorem witness_UpdateCommandsTakeEffect_9 :
    ∃ (s : State) (h : Hdr), loaderReady s h = true ∧ alone s h = true :=
  ⟨card, hd,
    by decide +kernel⟩

/-! ### ActivationCommandsTakeEffect -/

theorem witness_ActivationCommandsTakeEffect_1 :
    ∃ (s : State), running s = true ∧ updState s = .scheduled ∧ s.grid.on = true ∧ (curJournal s).actCycle * 128 ≤ s.grid.now ∧
      s.upd.leaving = none ∧ synced s = false :=
  ⟨{ { card with upd.journal := { zero := some { seq := 1, st := .scheduled, imgType := 1, imageLen := 8192, version := 7, manifestCrc := 0, slot := .one, blocks := [], crcs := [], verifying := false, actCycle := 1000 }, one := none } } with grid.sync := false },
    by decide +kernel⟩
theorem witness_ActivationCommandsTakeEffect_2 :
    ∃ (s : State), running s = true ∧ updState s = .scheduled ∧ s.grid.on = true ∧ (curJournal s).actCycle * 128 ≤ s.grid.now ∧
      s.upd.leaving = none ∧ synced s = true ∧ isActive s = false :=
  ⟨{ mate with
      upd.journal := { zero := some { seq := 1, st := .scheduled, imgType := 1, imageLen := 8192, version := 7, manifestCrc := 0, slot := .one, blocks := [], crcs := [], verifying := false, actCycle := 1000 }, one := none } },
    by decide +kernel⟩
theorem witness_ActivationCommandsTakeEffect_3 :
    ∃ (s : State), running s = true ∧ updState s = .scheduled ∧ s.grid.on = true ∧ (curJournal s).actCycle * 128 ≤ s.grid.now ∧
      s.upd.leaving = none ∧ synced s = true ∧ isActive s = true ∧ s.pair.present = true ∧
      pairAgrees s (s.upd.ver.get (curJournal s).slot) = true ∧ partnerFit s = true :=
  ⟨{ { card with upd.journal := { zero := some { seq := 1, st := .scheduled, imgType := 1, imageLen := 8192, version := 7, manifestCrc := 0, slot := .one, blocks := [], crcs := [], verifying := false, actCycle := 1000 }, one := none } } with pair := { card.pair with peer := some ⟨true, 0, 0xFF, 1, 0, 0, 0xFFFF, 0, Two.both (0, 0, 0)⟩ } },
    by decide +kernel⟩
theorem witness_ActivationCommandsTakeEffect_4 :
    ∃ (s : State), running s = true ∧ updState s = .scheduled ∧ s.grid.on = true ∧ (curJournal s).actCycle * 128 ≤ s.grid.now ∧
      s.upd.leaving = none ∧ synced s = true ∧ isActive s = true ∧ s.pair.present = false :=
  ⟨{ { card with upd.journal := { zero := some { seq := 1, st := .scheduled, imgType := 1, imageLen := 8192, version := 7, manifestCrc := 0, slot := .one, blocks := [], crcs := [], verifying := false, actCycle := 1000 }, one := none } } with pair := { card.pair with present := false } },
    by decide +kernel⟩
theorem witness_ActivationCommandsTakeEffect_5 :
    ∃ (s : State) (w : Nat), running s = true ∧ updState s = .trial ∧ s.upd.window = some w ∧ w ≤ s.elec.uptime ∧
      s.upd.leaving = none ∧ isActive s = false :=
  ⟨{ mate with
      upd.sel := { zero := some { seq := 2, slot := .one, trial := true, boots := 1, fallbackValid := true, converted := false, activeVer := 7, fallbackVer := 0, actCycle := 0, failBoots := 0 }, one := none },
      upd.window := some 0 }, 0,
    by decide +kernel⟩
theorem witness_ActivationCommandsTakeEffect_6 :
    ∃ (s : State) (w : Nat), running s = true ∧ updState s = .trial ∧ s.upd.window = some w ∧ w ≤ s.elec.uptime ∧
      s.upd.leaving = none ∧ isActive s = true ∧ partnerFit s = true :=
  ⟨{ card with
      upd.sel := { zero := some { seq := 2, slot := .one, trial := true, boots := 1, fallbackValid := true, converted := false, activeVer := 7, fallbackVer := 0, actCycle := 0, failBoots := 0 }, one := none },
      upd.window := some 0,
      pair := { card.pair with peer := some ⟨true, 0, 0xFF, 1, 0, 0, 0xFFFF, 0, Two.both (0, 0, 0)⟩ } }, 0,
    by decide +kernel⟩
theorem witness_ActivationCommandsTakeEffect_7 :
    ∃ (s : State), running s = true ∧ s.upd.leaving = some (2, false) ∧ passed s s.upd.leaveUp (sec 10) = true :=
  ⟨{ card with
      upd.sel := { zero := some { seq := 2, slot := .one, trial := true, boots := 1, fallbackValid := true, converted := false, activeVer := 7, fallbackVer := 0, actCycle := 0, failBoots := 0 }, one := none },
      upd.leaving := some (2, false) },
    by decide +kernel⟩
theorem witness_ActivationCommandsTakeEffect_8 :
    ∃ (s : State), running s = true ∧ s.upd.leaving = some (2, true) ∧ (journalOf s).isSome = true ∧
      passed s s.upd.leaveUp (sec 10) = true :=
  ⟨{ card with
      upd.journal := { zero := some { seq := 1, st := .scheduled, imgType := 1, imageLen := 8192, version := 7, manifestCrc := 0, slot := .one, blocks := [], crcs := [], verifying := false, actCycle := 1000 }, one := none },
      upd.leaving := some (2, true) },
    by decide +kernel⟩

end Sys2Proof.Tests
end

/-! PROOFS. Variant mismatch isolates (R9, R33): what a module keeps and loses as it becomes isolated, the state that a good PEER_STATUS
leaves before the variants are judged, and O55 from these. -/

namespace Sys2Proof.Proofs

open Sys2Proof Sys2Proof.Machine Sys2Proof.Laws

/-! ### The events that the loss of the active role can raise -/

/-- Change of lead, disqualified learning cycle, hold ended, change of STATE, BLOCK, change of a bus state; and the two that the end of a
freeze brings with any of them. -/
def roleLossEvents : List Nat := [98, 166, 196, 201, 207, 225, 248, 249]

theorem newest_of_ev {s t : State} (e : t.ev = s.ev) (f : Nat) : newest t f = newest s f := by unfold newest; rw [e]

theorem newest_ite (c : Prop) [Decidable c] (a b : State) (f : Nat) :
    newest (if c then a else b) f = if c then newest a f else newest b f := apply_ite (newest · f) c a b

section Newest

variable {f : Nat} (hf : f ∉ roleLossEvents)
include hf

theorem raise_newest_kept (s : State) {e : Nat} (he : e ∈ roleLossEvents) (d : List Byte) : newest (raise s e d) f = newest s f := by
  have out {k : Nat} (hk : k ∈ roleLossEvents) : f ≠ k := fun h => hf (h ▸ hk)
  exact raise_newest_other s e f d (out he) (out (by decide)) (out (by decide))

theorem raiseOrDefer_newest_kept (s : State) {e : Nat} (he : e ∈ roleLossEvents) (d : List Byte) :
    newest (raiseOrDefer s e d) f = newest s f := by
  unfold raiseOrDefer
  split
  · exact raise_newest_kept hf s he d
  · rfl

theorem ownState_newest_kept (s : State) (x : Ix) (st : StrState) (cause : Nat) : newest (ownState s x st cause) f = newest s f := by
  unfold ownState setStrState
  split
  · dsimp only
    split
    · rfl
    · exact raiseOrDefer_newest_kept hf _ (by decide) _
  · rfl

omit hf in
theorem abortClose_ev (s : State) (x : Ix) (cause : Nat) : (abortClose s x cause).ev = s.ev :=
  whole_ev (m := 270336) (by simp) (by decide) (by decide)

omit hf in
theorem endLongs_newest (ids : List Nat) (s : State) (f : Nat) :
    newest (ids.foldl (fun s i => endLong s i .failed 0 []) s) f = newest s f := by
  induction ids generalizing s with
  | nil => rfl
  | cons i ids ih => rw [List.foldl_cons, ih]; exact newest_of_ev (endLong_ev s i .failed 0 []) f

theorem endSequences_newest_kept (s : State) (x : Ix) : newest (endSequences s x) f = newest s f := by
  have aborted := newest_of_ev (abortClose_ev s x 3) f
  unfold endSequences
  dsimp only
  rw [endLongs_newest]
  refine (newest_of_ev (modProt_ev _ _ _) f).trans ?_
  split
  · exact (ownState_newest_kept hf _ x .opened 8).trans aborted
  · exact aborted

omit hf in
theorem noteIf_newest (s : State) (c : Bool) (k : ModeKind) (v f : Nat) : newest (noteIf s c k v) f = newest s f := by
  unfold noteIf; split <;> rfl

theorem setHold_newest_kept (s : State) (m : HoldMode) (cause : Nat) : newest (setHold s m cause) f = newest s f := by
  unfold setHold
  dsimp only
  split
  · exact (raise_newest_kept hf _ (by decide) _).trans (noteIf_newest _ _ _ _ f)
  · exact noteIf_newest _ _ _ _ f

theorem setCan_newest_kept (s : State) (b : Ix) (st : CanState) (cause : Nat) : newest (setCan s b st cause) f = newest s f := by
  unfold setCan
  dsimp only
  split
  · rfl
  · exact raise_newest_kept hf _ (by decide) _

theorem canSilent_newest_kept (s : State) : newest (canSilent s) f = newest s f :=
  (setCan_newest_kept hf _ .one .listenOnly 6).trans (setCan_newest_kept hf s .zero .listenOnly 6)

theorem disqualify_newest_kept (s : State) (x : Ix) (reason tick cell : Nat) (value : F32) :
    newest (disqualify s x reason tick cell value) f = newest s f := by
  unfold disqualify
  split
  · rfl
  · split
    · rfl
    · exact raise_newest_kept hf _ (by decide) _

theorem stopEngines_newest_kept (s : State) : newest (stopEngines s) f = newest s f := by
  unfold stopEngines setSeed
  dsimp only
  rw [noteIf_newest]
  exact (disqualify_newest_kept hf _ .one 5 _ 0 0).trans (disqualify_newest_kept hf s .zero 5 _ 0 0)

theorem judgeBlock_newest_kept (s : State) : newest (judgeBlock s) f = newest s f := by
  unfold judgeBlock
  split
  · exact raise_newest_kept hf _ (by decide) _
  · rfl

omit hf in
theorem settleCoils_ev (s : State) : (settleCoils s).ev = s.ev := whole_ev (m := 8192) (by simp) (by decide) (by decide)
omit hf in
theorem readPartner_ev (s : State) : (readPartner s).ev = s.ev := whole_ev (m := 8192) (by simp) (by decide) (by decide)
omit hf in
theorem dropReqs_ev (s : State) (x : Ix) : (dropReqs s x).ev = s.ev := whole_ev (m := 8192) (by simp) (by decide) (by decide)

theorem releaseLine_newest_kept (s : State) : newest (releaseLine s) f = newest s f := by
  have settled := newest_of_ev (settleCoils_ev s) f
  unfold releaseLine
  dsimp only
  rw [judgeBlock_newest_kept hf, newest_of_ev (readPartner_ev _), newest_of_ev (settleCoils_ev _)]
  show newest (if _ then _ else _) f = _
  split
  · exact settled
  · exact (raiseOrDefer_newest_kept hf _ (by decide) _).trans settled

end Newest

/-! ### Giving up a role -/

/-- Giving up a role as far as the ownership line: the sequences, the buses, Hold and the engines of an active module have ended. -/
def stepDown (s : State) (role : Role) : State :=
  let was := isActive s
  let s := if was then endSequences (endSequences s .zero) .one else s
  let s := canSilent s
  let s := if was then setHold s .off 2 else s
  let s := setRole { s with grid := { s.grid with head := false, yielding := false }, outr := { s.outr with block := false } } role
  if was then stopEngines s else if role = .isolated then setSeed s false else s

theorem giveUp_eq (s : State) (role : Role) : giveUp s role =
    dropReqs (dropReqs (if (stepDown s role).outr.owner || (stepDown s role).outr.asserting then releaseLine (stepDown s role)
      else stepDown s role) .zero) .one := rfl

theorem noteIf_pair (s : State) (c : Bool) (k : ModeKind) (v : Nat) : (noteIf s c k v).pair = s.pair := by unfold noteIf; split <;> rfl
theorem setRole_pair (s : State) (r : Role) : (setRole s r).pair = { s.pair with role := r } := noteIf_pair _ _ _ _
theorem setSeed_pair (s : State) (b : Bool) : (setSeed s b).pair = s.pair := noteIf_pair _ _ _ _
theorem stopEngines_pair (s : State) : (stopEngines s).pair = s.pair := same_pair (m := 201997216) (by simp) (by decide)
theorem canSilent_pair (s : State) : (canSilent s).pair = s.pair := same_pair (m := 202047488) (by simp) (by decide)
theorem setHold_pair (s : State) (m : HoldMode) (cause : Nat) : (setHold s m cause).pair = s.pair :=
  same_pair (m := 201986048) (by simp) (by decide)
theorem endSequences_pair (s : State) (x : Ix) : (endSequences s x).pair = s.pair := same_pair (m := 202252288) (by simp) (by decide)
theorem dropReqs_pair (s : State) (x : Ix) : (dropReqs s x).pair = s.pair := same_pair (m := 8192) (by simp) (by decide)
theorem dropReqs_outr (s : State) (x : Ix) : (dropReqs s x).outr = s.outr := same_outr (m := 8192) (by simp) (by decide)

theorem stepDown_pair (s : State) (role : Role) : (stepDown s role).pair = { s.pair with role := role } := by
  unfold stepDown
  dsimp only
  by_cases was : isActive s = true
  · simp only [was, if_true, stopEngines_pair, setRole_pair, setHold_pair, canSilent_pair, endSequences_pair]
  · simp only [was, if_false, apply_ite State.pair, setSeed_pair, setRole_pair, canSilent_pair, ite_self, Bool.false_eq_true]

theorem stepDown_newest_kept {f : Nat} (hf : f ∉ roleLossEvents) (s : State) (role : Role) : newest (stepDown s role) f = newest s f := by
  have roleSet (t : State) (g : GridState) (o : OutrState) :
      newest (setRole { t with grid := g, outr := o } role) f = newest t f := noteIf_newest _ _ _ _ f
  have seedSet (t : State) : newest (setSeed t false) f = newest t f := noteIf_newest _ _ _ _ f
  unfold stepDown
  dsimp only
  by_cases was : isActive s = true
  · simp only [was, if_true, stopEngines_newest_kept hf, roleSet, setHold_newest_kept hf, canSilent_newest_kept hf,
      endSequences_newest_kept hf]
  · simp only [was, if_false, newest_ite, seedSet, roleSet, canSilent_newest_kept hf, ite_self, Bool.false_eq_true]

/-- A released line is not asserted. -/
theorem releaseLine_asserting (s : State) : (releaseLine s).outr.asserting = false := by
  have judged (t : State) : (judgeBlock t).outr.asserting = t.outr.asserting := by
    unfold judgeBlock; split <;> simp
  have read (t : State) : (readPartner t).outr = t.outr := same_outr (m := 8192) (by simp) (by decide)
  have settled (t : State) : (settleCoils t).outr = t.outr := same_outr (m := 8192) (by simp) (by decide)
  unfold releaseLine
  dsimp only
  rw [judged, read, settled]

/-- A release touches the request alone of what the pair knows. -/
theorem releaseLine_pair (s : State) :
    (releaseLine s).pair = { s.pair with req := s.pair.req.map fun q => { q with gone := true } } := by
  have judged (t : State) : (judgeBlock t).pair = t.pair := same_pair (m := 201998336) (by simp) (by decide)
  have read (t : State) : (readPartner t).pair = t.pair := same_pair (m := 8192) (by simp) (by decide)
  have settled (t : State) : (settleCoils t).pair = t.pair := same_pair (m := 8192) (by simp) (by decide)
  have raised (t : State) (e : Nat) (d : List Byte) : (raiseOrDefer t e d).pair = t.pair := same_pair (m := 201981952) (by simp) (by decide)
  unfold releaseLine
  dsimp only
  rw [judged, read, settled]
  dsimp only
  split
  · rw [settled]
  · rw [raised, settled]

theorem giveUp_asserting (s : State) (role : Role) : (giveUp s role).outr.asserting = false := by
  rw [giveUp_eq, dropReqs_outr, dropReqs_outr]
  split
  · exact releaseLine_asserting _
  · next free => exact (Bool.or_eq_false_iff.mp (Bool.eq_false_iff.mpr free)).2

theorem giveUp_pair (s : State) (role : Role) : ∃ req, (giveUp s role).pair = { s.pair with role := role, req := req } := by
  rw [giveUp_eq, dropReqs_pair, dropReqs_pair]
  split
  · exact ⟨_, by rw [releaseLine_pair, stepDown_pair]⟩
  · exact ⟨_, stepDown_pair s role⟩

/-- Giving up a role leaves the newest occurrence of every event that is not one of its own. -/
theorem giveUp_newest_kept {f : Nat} (hf : f ∉ roleLossEvents) (s : State) (role : Role) : newest (giveUp s role) f = newest s f := by
  rw [giveUp_eq, newest_of_ev (dropReqs_ev _ _), newest_of_ev (dropReqs_ev _ _)]
  split
  · exact (releaseLine_newest_kept hf _).trans (stepDown_newest_kept hf s role)
  · exact stepDown_newest_kept hf s role

/-! ### Becoming isolated -/

theorem goIsolated_role (s : State) (reason : Nat) : (goIsolated s reason).pair.role = .isolated := by
  obtain ⟨req, gave⟩ := giveUp_pair s .isolated
  show (giveUp s .isolated).pair.role = _
  rw [gave]

theorem goIsolated_variantMatch (s : State) (reason : Nat) : (goIsolated s reason).pair.variantMatch = s.pair.variantMatch := by
  obtain ⟨req, gave⟩ := giveUp_pair s .isolated
  show (giveUp s .isolated).pair.variantMatch = _
  rw [gave]

theorem goIsolated_asserting (s : State) (reason : Nat) : (goIsolated s reason).outr.asserting = false := giveUp_asserting s .isolated

/-- EV 041 raised as the module becomes isolated stays the newest occurrence of its number. -/
theorem goIsolated_mismatch_newest (s : State) (reason : Nat) : newest (goIsolated (raise s 41 []) reason) 41 = some [] :=
  (giveUp_newest_kept (by decide) (raise s 41 []) .isolated).trans (raise_newest s 41 [])

/-! ### A PEER_STATUS from a partner of another variant -/

/-- The pair's state from a good PEER_STATUS. -/
def heardPair (s : State) (r : PeerRec) : PairState :=
  let same := r.digest == parDigest s
  { s.pair with
    peer := some r, linkUp := true, variantMatch := r.variant == s.ident.variant, imageMatch := r.version == s.upd.running,
    paramMatch := s.pair.paramMatch || same, digestUp := if same then none else some (s.pair.digestUp.getD s.elec.uptime) }

/-- The module once it has read a good PEER_STATUS, before it judges the variants. -/
def heard (s : State) (r : PeerRec) : State :=
  let t := { s with pair := heardPair s r }
  mirrorStates (if s.pair.linkUp then t else raiseOrDefer t 45 (u8 1 ++ u16 t.pair.disc)) r

/-- Reading a PEER_STATUS changes strings, the pair and the events alone. -/
theorem heard_view (s : State) (r : PeerRec) : view 202022912 (heard s r) = view 202022912 s := by
  unfold heard; simp

theorem heard_pair (s : State) (r : PeerRec) : (heard s r).pair = heardPair s r := by
  have mirrored (t : State) : (mirrorStates t r).pair = t.pair := same_pair (m := 8192) (by simp) (by decide)
  have raised (t : State) (e : Nat) (d : List Byte) : (raiseOrDefer t e d).pair = t.pair := same_pair (m := 201981952) (by simp) (by decide)
  unfold heard
  dsimp only
  rw [mirrored]
  split
  · rfl
  · rw [raised]

theorem heard_elec (s : State) (r : PeerRec) : (heard s r).elec = s.elec := same_elec (heard_view s r) (by decide)
theorem heard_ident (s : State) (r : PeerRec) : (heard s r).ident = s.ident := same_ident (heard_view s r) (by decide)
theorem heard_running (s : State) (r : PeerRec) : running (heard s r) = running s := by
  unfold running clocked refPresent; rw [heard_elec, same_clk (heard_view s r) (by decide)]

/-- PEER_STATUS through the state that it leaves before the variants are judged. -/
theorem exec_peerStatus_eq (f : PeerFrame) (s : State) : exec (.peerStatus f) s = .next (
    let r := readPeerStatus f.payload
    let t := heard s r
    if !(clocked s && (s.elec.fw || s.elec.loader)) then s
    else if !f.good 0x30 (· == 32) then discardPeer s
    else if running t && r.variant != t.ident.variant && decide (7 ≤ t.elec.step) then
      (if t.pair.role = .isolated then (if s.pair.peer.isNone || s.pair.variantMatch then raise t 41 [] else t)
        else goIsolated (raise t 41 []) 1)
    else t) := rfl

section Mismatch

variable {s : State} {f : PeerFrame} (run : running s = true) (step : 7 ≤ s.elec.step) (good : f.good 0x30 (· == 32) = true)
  (differs : (readPeerStatus f.payload).variant ≠ s.ident.variant)
include run step good differs

/-- A module past step 6 that reads of a partner of another variant judges the mismatch by its role and by what it knew before. -/
theorem exec_peerStatus_of_mismatch : exec (.peerStatus f) s = .next (
    let t := heard s (readPeerStatus f.payload)
    if s.pair.role = .isolated then (if s.pair.peer.isNone || s.pair.variantMatch then raise t 41 [] else t)
    else goIsolated (raise t 41 []) 1) := by
  have ⟨clock, firmware⟩ : clocked s = true ∧ s.elec.fw = true := by simpa [running] using run
  have role : (heard s (readPeerStatus f.payload)).pair.role = s.pair.role := by rw [heard_pair]; rfl
  rw [exec_peerStatus_eq]
  simp [clock, firmware, good, heard_running, run, heard_ident, differs, heard_elec, step, role]

omit run step good in
theorem heard_variantMatch : (heard s (readPeerStatus f.payload)).pair.variantMatch = false := by
  rw [heard_pair]; simpa [heardPair] using differs

/-- R9 after power-up: a PEER_STATUS that shows another variant isolates. -/
theorem peerStatus_isolates (role : s.pair.role ≠ .isolated) :
    runs (.peerStatus f) s fun t => t.pair.role = .isolated ∧ newest t 41 = some [] ∧ t.pair.variantMatch = false := by
  refine ⟨_, exec_peerStatus_of_mismatch run step good differs, ?_⟩
  simp only [if_neg role]
  exact ⟨goIsolated_role _ 1, goIsolated_mismatch_newest _ 1, by
    rw [goIsolated_variantMatch, raise_pair, heard_variantMatch differs]⟩

/-- R9, R33: an isolated module that learns of the mismatch raises EV 041 and stays isolated. -/
theorem peerStatus_keeps_isolated (role : s.pair.role = .isolated) (agreed : s.pair.peer = none ∨ s.pair.variantMatch = true) :
    runs (.peerStatus f) s fun t => t.pair.role = .isolated ∧ newest t 41 = some [] ∧ t.pair.variantMatch = false := by
  have learns : (s.pair.peer.isNone || s.pair.variantMatch) = true := by simpa using agreed
  refine ⟨_, exec_peerStatus_of_mismatch run step good differs, ?_⟩
  simp only [if_pos role, if_pos learns, raise_pair]
  exact ⟨by rw [heard_pair]; exact role, raise_newest _ 41 [], heard_variantMatch differs⟩

end Mismatch

/-! ### Arbitration and REJOIN while the variants differ -/

/-- R9 at power-up step 6: the mismatch isolates in place of arbitration. -/
theorem arbitration_isolates {s : State} (run : running s = true) (step : s.elec.step = 6) (idle : s.pair.arbitrating = false)
    (role : s.pair.role ≠ .isolated) (peer : s.pair.peer.isSome = true) (differs : s.pair.variantMatch = false) :
    runs .ownershipArbitration s fun t => t.pair.role = .isolated ∧ newest t 41 = some [] ∧ t.outr.asserting = false := by
  have outcome : exec .ownershipArbitration s = .next (goIsolated (raise { s with elec := { s.elec with step := 7 } } 41 []) 1) := by
    show execOwnershipArbitration s = _
    simp [execOwnershipArbitration, run, step, idle, role, peer, differs]
  exact ⟨_, outcome, goIsolated_role _ 1, goIsolated_mismatch_newest _ 1, goIsolated_asserting _ 1⟩

/-- R9, R33: arbitration leaves an isolated module isolated, with EV 041 where it finds the mismatch. -/
theorem arbitration_keeps_isolated {s : State} (role : s.pair.role = .isolated) :
    runs .ownershipArbitration s fun t => t.pair.role = .isolated ∧
      (running s = true → s.elec.step = 6 → s.pair.arbitrating = false → s.pair.peer.isSome = true → s.pair.variantMatch = false →
        newest t 41 = some []) := by
  have outcome : exec .ownershipArbitration s = .next (
      if !running s || s.elec.step ≠ 6 || s.pair.arbitrating then s
      else if s.pair.peer.isSome && !s.pair.variantMatch then raise { s with elec := { s.elec with step := 7 } } 41 []
      else { s with elec := { s.elec with step := 7 } }) := by
    show execOwnershipArbitration s = _
    simp only [execOwnershipArbitration, role, if_true]
  refine ⟨_, outcome, ?_, fun run step idle peer differs => ?_⟩
  · split
    · exact role
    · split
      · rw [raise_pair]; exact role
      · exact role
  · simp [run, step, idle, peer, differs]

/-- R33: REJOIN is refused with DETAIL 1 while the variants differ, and the module stays isolated. -/
theorem rejoin_refused_while_variants_differ {s : State} {h : Hdr} (ready : hostReady s h = true) (only : alone s h = true)
    (role : s.pair.role = .isolated) (peer : s.pair.peer.isSome = true) (differs : s.pair.variantMatch = false) :
    runs (.rejoin h) s fun t => answered t h 0x0022 .refused 1 0 [] ∧ t.pair.role = .isolated := by
  have outcome : exec (.rejoin h) s = .next (respond s h 0x0022 .refused 1) := by
    show execRejoin h s = _
    simp [execRejoin, ready, role, peer, differs]
  exact ⟨_, outcome, respond_answered s h 0x0022 .refused 1 (hostReady_portUp ready) only, by rw [respond_pair]; exact role⟩

/-- Settles O55: each clause is one of the five lemmas above, by the command and by whether the module is isolated already. -/
theorem variantMismatchIsolates : Obligations.VariantMismatchIsolates := by
  unfold Obligations.VariantMismatchIsolates
  refine ⟨?step6, ?later, ?rejoin, ?laterIsolated, ?step6Isolated⟩
  case step6 => exact fun s run step idle role peer differs => arbitration_isolates run step idle role peer differs
  case later => exact fun s f run step role good differs => peerStatus_isolates run step good differs role
  case rejoin => exact fun s h ready only role peer differs => rejoin_refused_while_variants_differ ready only role peer differs
  case laterIsolated =>
    exact fun s f run step role good differs agreed => peerStatus_keeps_isolated run step good differs role agreed
  case step6Isolated => exact fun s role => arbitration_keeps_isolated role

end Sys2Proof.Proofs

/-! PROOFS. Who may send on the CAN buses (R29, R44, Table 1-5): what every operation and command does to Role, the firmware's run and the
states of the buses, the invariant that only an active module sends, and O51 and O53 from these. -/

namespace Sys2Proof.Proofs

open Sys2Proof Sys2Proof.Machine Sys2Proof.Laws

/-! ### The mode that decides who may send -/

/-- The states of the two buses. -/
def busStates (c : CanBlock) : CanState × CanState := (c.bus.zero.st, c.bus.one.st)

/-- Role, whether the firmware runs, and the bus states, as far as a view shows them. -/
def modeOf (v : View) : Option Role × Option Bool × Option (CanState × CanState) :=
  (v.pair.map (·.role), v.elec.map (·.fw), v.can.map busStates)

/-- What `onlyActiveSends` reads of a state. The view leaves out every part but power, pair and buses, so that the frame lemma of an
operation that touches none of the three shows that it keeps the mode. -/
abbrev sendMode (s : State) : Option Role × Option Bool × Option (CanState × CanState) := modeOf (view 268337146 s)

/-- A choice between two states, a state that is written out, and its three parts again: what simp needs to carry `modeOf` inward. -/
theorem modeOf_simps :
    (∀ (c : Prop) [Decidable c] (v w : View), modeOf (if c then v else w) = if c then modeOf v else modeOf w) ∧
    (∀ i e cl g r fr fu es pb th ct ho pr ou p ca si hs ev re ac pa up st pe se fc,
      modeOf ⟨i, e, cl, g, r, fr, fu, es, pb, th, ct, ho, pr, ou, p, ca, si, hs, ev, re, ac, pa, up, st, pe, se, fc⟩ =
        (p.map (·.role), e.map (·.fw), ca.map busStates)) ∧
    (∀ v : View, (v.pair.map (·.role), v.elec.map (·.fw), v.can.map busStates) = modeOf v) :=
  ⟨fun _ _ _ _ => apply_ite .., fun _ _ _ _ _ _ _ _ _ _ _ _ _ _ _ _ _ _ _ _ _ _ _ _ _ _ _ => rfl, fun _ => rfl⟩

/-- The three parts that a mode reads are shown by its view. -/
theorem mode_shown :
    (∀ p : PairState, (pick 268337146 32768 p).map (·.role) = some p.role) ∧
    (∀ s : State, some s.pair.role = (view 268337146 s).pair.map (·.role)) ∧
    (∀ e : ElecState, (pick 268337146 4 e).map (·.fw) = some e.fw) ∧
    (∀ s : State, some s.elec.fw = (view 268337146 s).elec.map (·.fw)) ∧
    (∀ c : CanBlock, (pick 268337146 65536 c).map busStates = some (busStates c)) ∧
    (∀ s : State, some (busStates s.can) = (view 268337146 s).can.map busStates) :=
  ⟨fun _ => rfl, fun _ => rfl, fun _ => rfl, fun _ => rfl, fun _ => rfl, fun _ => rfl⟩

theorem modBus_mode (s : State) (b : Ix) {f : CanBus → CanBus} (h : ∀ c, (f c).st = c.st) : sendMode (modBus s b f) = sendMode s := by
  have same : busStates (modBus s b f).can = busStates s.can := by cases b <;> simp [busStates, Two.modify, Two.set, Two.get, h]
  exact Prod.ext rfl (Prod.ext rfl (congrArg some same))

theorem foldl_mode {α : Type} {f : State → α → State} (h : ∀ s a, sendMode (f s a) = sendMode s) (l : List α) (s : State) :
    sendMode (l.foldl f s) = sendMode s := by
  induction l generalizing s with
  | nil => rfl
  | cons a l ih => rw [List.foldl_cons, ih, h]

/-! ### Operations that keep the mode

They touch power, the pair or the buses, but not Role, the firmware's run or the state of a bus. -/

@[simp] theorem modPcs_mode (s : State) (x : Ix) (f : PcsState → PcsState) : sendMode (modPcs s x f) = sendMode s := by
  unfold modPcs
  rfl

@[simp] theorem placePcsReport_mode (s : State) (x : Ix) (hpnLo : Nat) (amps : F32) :
    sendMode (placePcsReport s x hpnLo amps) = sendMode s := by
  unfold placePcsReport
  simp [sendMode, modeOf_simps]

@[simp] theorem discardPeer_mode (s : State) : sendMode (discardPeer s) = sendMode s := by
  unfold discardPeer
  simp [sendMode, modeOf_simps, mode_shown]

@[simp] theorem releaseLine_mode (s : State) : sendMode (releaseLine s) = sendMode s := by
  unfold releaseLine
  simp [sendMode, modeOf_simps, mode_shown]

@[simp] theorem procTrip_mode (s : State) (x : Ix) (cause : Nat) (value : F32) (unitNo cell : Nat) :
    sendMode (procTrip s x cause value unitNo cell) = sendMode s := by
  unfold procTrip
  simp [sendMode, modeOf_simps]

@[simp] theorem becomeHead_mode (s : State) (cause : Nat) : sendMode (becomeHead s cause) = sendMode s := by
  unfold becomeHead
  simp [sendMode, modeOf_simps, mode_shown]

@[simp] theorem seedString_mode (s : State) (x : Ix) (fr : StrFrame) : sendMode (seedString s x fr) = sendMode s := by
  unfold seedString
  simp [sendMode, modeOf_simps, mode_shown]

@[simp] theorem updateString_mode (s : State) (x : Ix) : sendMode (updateString s x) = sendMode s := by
  unfold updateString
  (repeat' split) <;> simp [sendMode]

@[simp] theorem restoreTakeover_mode (s : State) : sendMode (restoreTakeover s) = sendMode s := by
  unfold restoreTakeover
  (repeat' split) <;> simp [sendMode, modeOf_simps, mode_shown]

@[simp] theorem judge_mode (s : State) (x : Ix) (cause : Nat) (holds : Bool) (need : Nat) (value : F32) (unitNo cell : Nat) :
    sendMode (judge s x cause holds need value unitNo cell) = sendMode s := by
  unfold judge
  simp [sendMode, modeOf_simps]

@[simp] theorem judgeComparator_mode (s : State) (x : Ix) (c : Comparator) : sendMode (judgeComparator s x c) = sendMode s := by
  unfold judgeComparator
  (repeat' split) <;> simp [sendMode, modeOf_simps]

@[simp] theorem procTick_mode (s : State) (x : Ix) (t : TickRec) (n : Nat) : sendMode (procTick s x t n) = sendMode s := by
  have compared (s : State) : sendMode (comparators.foldl (fun s c => judgeComparator s x c) s) = sendMode s :=
    foldl_mode (fun s c => judgeComparator_mode s x c) _ s
  unfold procTick
  dsimp only
  (repeat' split) <;> simp [sendMode, compared]

@[simp] theorem procTemps_mode (s : State) (x : Ix) : sendMode (procTemps s x) = sendMode s := by
  unfold procTemps
  (repeat' split) <;> simp [sendMode]

@[simp] theorem procCompat_mode (s : State) (x : Ix) : sendMode (procCompat s x) = sendMode s := by
  unfold procCompat
  (repeat' split) <;> simp [sendMode]

@[simp] theorem takeSum_mode (s : State) (x : Ix) (r : TickSumRec) : sendMode (takeSum s x r) = sendMode s := by
  unfold takeSum
  simp [sendMode, modeOf_simps]

@[simp] theorem coilFinding_mode (s : State) (x : Ix) (c : Coil) (sig : Nat) (hs : Bool) (r : CoilRead) :
    sendMode (coilFinding s x c sig hs r) = sendMode s := by
  unfold coilFinding
  simp [sendMode, modeOf_simps]

@[simp] theorem closeFails_mode (s : State) (x : Ix) (c : Coil) (rd : CoilRead) : sendMode (closeFails s x c rd) = sendMode s := by
  unfold closeFails
  simp [sendMode, modeOf_simps]

@[simp] theorem checkWindows_mode (s : State) (b : Ix) : sendMode (checkWindows s b) = sendMode s := by
  unfold checkWindows
  dsimp only
  (repeat' split) <;> simp [sendMode, modBus_mode]

@[simp] theorem startDetect_mode (s : State) (b : Ix) : sendMode (startDetect s b) = sendMode s := by
  unfold startDetect
  simp [sendMode, modBus_mode]

@[simp] theorem nextCandidate_mode (s : State) (b : Ix) : sendMode (nextCandidate s b) = sendMode s := by
  unfold nextCandidate
  simp [sendMode, modBus_mode]

@[simp] theorem judgeErrors_mode (s : State) (b : Ix) : sendMode (judgeErrors s b) = sendMode s := by
  unfold judgeErrors
  simp [sendMode, modeOf_simps, modBus_mode]

@[simp] theorem txGood_mode (s : State) (b : Ix) : sendMode (txGood s b) = sendMode s := by
  unfold txGood
  simp [sendMode, modBus_mode]

@[simp] theorem txBad_mode (s : State) (b : Ix) (ack : Bool) : sendMode (txBad s b ack) = sendMode s := by
  unfold txBad
  rw [judgeErrors_mode]
  exact modBus_mode s b fun c => by split <;> rfl

@[simp] theorem rxGood_mode (s : State) (b : Ix) : sendMode (rxGood s b) = sendMode s := by
  unfold rxGood
  simp [sendMode, modBus_mode]

@[simp] theorem rxBad_mode (s : State) (b : Ix) : sendMode (rxBad s b) = sendMode s := by
  unfold rxBad
  simp [sendMode, modBus_mode]

@[simp] theorem endAlone_mode (s : State) (b : Ix) : sendMode (endAlone s b) = sendMode s := by
  unfold endAlone
  simp [sendMode, modeOf_simps, modBus_mode]

@[simp] theorem collide_mode (s : State) (b : Ix) (id_ window : Nat) : sendMode (collide s b id_ window) = sendMode s := by
  unfold collide
  simp [sendMode, modeOf_simps, modBus_mode]

@[simp] theorem startTx_mode (s : State) (b : Ix) (m : CanMsg) : sendMode (startTx s b m) = sendMode s := by
  unfold startTx
  (repeat' split) <;> simp [sendMode, modBus_mode]

@[simp] theorem queueMsg_mode (s : State) (b : Ix) (m : CanMsg) : sendMode (queueMsg s b m) = sendMode s := by
  unfold queueMsg
  simp [sendMode, modBus_mode]

@[simp] theorem startFirst_mode (s : State) (b : Ix) : sendMode (startFirst s b) = sendMode s := by
  unfold startFirst
  (repeat' split) <;> simp [sendMode, modBus_mode]

@[simp] theorem sendNormal_mode (s : State) (b : Ix) : sendMode (sendNormal s b) = sendMode s := by
  unfold sendNormal
  simp [sendMode, modeOf_simps]

@[simp] theorem canTick_mode (s : State) (b : Ix) : sendMode (canTick s b) = sendMode s := by
  unfold canTick
  extract_lets h slot c slotted trip tripped
  have queued (t : State) (x : Ix) : sendMode (trip t x) = sendMode t := by
    simp only [trip]; split <;> simp
  have kept : sendMode tripped = sendMode s := by
    rw [queued, queued]; simp only [slotted]; split <;> simp [modBus_mode]
  clear_value tripped
  (repeat' split) <;> simp [kept]

@[simp] theorem takeStatus_mode (s : State) (x : Ix) (d : List Byte) : sendMode (takeStatus s x d) = sendMode s := by
  unfold takeStatus
  simp [sendMode]

@[simp] theorem recordSetpoint_mode (s : State) (x : Ix) (d : List Byte) : sendMode (recordSetpoint s x d) = sendMode s := by
  unfold recordSetpoint
  simp [sendMode, modeOf_simps]

@[simp] theorem heardFrame_mode (s : State) (b : Ix) : sendMode (heardFrame s b) = sendMode s := by
  unfold heardFrame
  simp [sendMode, modBus_mode]

@[simp] theorem countPcs_mode (s : State) (x : Ix) : sendMode (countPcs s x) = sendMode s := by
  unfold countPcs
  (repeat' split) <;> simp [sendMode]

@[simp] theorem missWindow_mode (s : State) (b : Ix) (w cause : Nat) (m : CanMsg) : sendMode (missWindow s b w cause m) = sendMode s := by
  unfold missWindow
  (repeat' split) <;> simp [sendMode, modBus_mode]

@[simp] theorem keepResult_mode (s : State) (b : Ix) (m : CanMsg) (ok : Bool) : sendMode (keepResult s b m ok) = sendMode s := by
  unfold keepResult
  simp [sendMode, modeOf_simps, modBus_mode]

@[simp] theorem txFailed_mode (s : State) (b : Ix) (m : CanMsg) (ack : Bool) : sendMode (txFailed s b m ack) = sendMode s := by
  unfold txFailed
  simp [sendMode, modeOf_simps, modBus_mode]

@[simp] theorem restartGap_mode (s : State) (n : Nat) : sendMode (restartGap s n) = sendMode s := by
  unfold restartGap
  (repeat' split) <;> simp [sendMode, modeOf_simps, mode_shown]

@[simp] theorem findingTick_mode (s : State) (n : Nat) : sendMode (findingTick s n) = sendMode s := by
  unfold findingTick
  simp [sendMode, modeOf_simps, mode_shown]

@[simp] theorem freeRun_mode (s : State) (t : TickIn) : sendMode (freeRun s t) = sendMode s := by
  unfold freeRun
  simp [sendMode, modeOf_simps, mode_shown]

@[simp] theorem hbFails_mode (s : State) (kind : Nat) : sendMode (hbFails s kind) = sendMode s := by
  unfold hbFails
  simp [sendMode, modeOf_simps]

@[simp] theorem assertTakeover_mode (s : State) (retake : Bool) : sendMode (assertTakeover s retake) = sendMode s := by
  unfold assertTakeover
  simp [sendMode, modeOf_simps, mode_shown]

@[simp] theorem takeFreeLine_mode (s : State) : sendMode (takeFreeLine s) = sendMode s := by
  unfold takeFreeLine
  simp [sendMode, modeOf_simps]

@[simp] theorem partnerAsserts_mode (s : State) : sendMode (partnerAsserts s) = sendMode s := by
  unfold partnerAsserts
  dsimp only
  (repeat' split) <;> simp [sendMode, modeOf_simps, mode_shown]

@[simp] theorem loseTie_mode (s : State) : sendMode (loseTie s) = sendMode s := by
  unfold loseTie
  simp [sendMode, modeOf_simps, mode_shown]

@[simp] theorem lineFault_mode (s : State) (line : OwnLine) : sendMode (lineFault s line) = sendMode s := by
  unfold lineFault
  simp [sendMode, modeOf_simps, mode_shown]

@[simp] theorem acknowledge_mode (s : State) : sendMode (acknowledge s) = sendMode s := by
  unfold acknowledge
  simp [sendMode, modeOf_simps, mode_shown]

@[simp] theorem requestRelease_mode (s : State) (cause : Nat) (ids : List Nat) : sendMode (requestRelease s cause ids) = sendMode s := by
  unfold requestRelease
  (repeat' split) <;> simp [sendMode, modeOf_simps, mode_shown]

@[simp] theorem takeUpEstimates_mode (s : State) : sendMode (takeUpEstimates s) = sendMode s := by
  unfold takeUpEstimates
  simp [sendMode, modeOf_simps]

@[simp] theorem writeClocks_mode (s : State) (off w : Nat) : sendMode (writeClocks s off w) = sendMode s := by
  unfold writeClocks
  (repeat' split) <;> simp [sendMode, modeOf_simps, mode_shown]

@[simp] theorem writeActing_mode (s : State) (off w : Nat) : sendMode (writeActing s off w) = sendMode s := by
  unfold writeActing
  (repeat' split) <;> simp [sendMode, modeOf_simps, modBus_mode]

@[simp] theorem trialFallsBack_mode (s : State) (r : SelRec) : sendMode (trialFallsBack s r) = sendMode s := by
  unfold trialFallsBack
  simp [sendMode, modeOf_simps, mode_shown]


@[simp] theorem tickCore_mode (s : State) (t : TickIn) : sendMode (tickCore s t) = sendMode s := by
  unfold tickCore
  simp [sendMode, modeOf_simps, mode_shown, foldl_mode]

@[simp] theorem bar0Write_mode (s : State) (p : Ix) (off w : Nat) : sendMode (bar0Write s p off w) = sendMode s := by
  unfold bar0Write
  simp [sendMode, modeOf_simps]

/-! ### Commands that keep the mode -/

theorem execReferenceDetect_mode {r : Ix} {s t : State} (ran : execReferenceDetect r s = .next t) : sendMode t = sendMode s := by
  unfold execReferenceDetect at ran
  cases ran
  simp [sendMode, modeOf_simps, mode_shown]

theorem execBypassRun_mode {loaderRuns : Bool} {s t : State} (ran : execBypassRun loaderRuns s = .next t) : sendMode t = sendMode s := by
  unfold execBypassRun at ran
  cases ran
  simp [sendMode, modeOf_simps, mode_shown]

theorem execPllLock_mode {s t : State} (ran : execPllLock s = .next t) : sendMode t = sendMode s := by
  unfold execPllLock at ran
  cases ran
  simp [sendMode, modeOf_simps, mode_shown]

theorem execClocklessHold_mode {s t : State} (ran : execClocklessHold s = .next t) : sendMode t = sendMode s := by
  unfold execClocklessHold at ran
  cases ran
  dsimp only
  (repeat' split) <;> simp [sendMode, modeOf_simps, mode_shown]

theorem execLedgerScan_mode {s t : State} (ran : execLedgerScan s = .next t) : sendMode t = sendMode s := by
  unfold execLedgerScan at ran
  cases ran
  simp [sendMode, modeOf_simps, mode_shown]

theorem execRyranEnumeration_mode {e0 e1 : Option EchoRun} {s t : State} (ran : execRyranEnumeration e0 e1 s = .next t) :
    sendMode t = sendMode s := by
  unfold execRyranEnumeration at ran
  cases ran
  split
  · rfl
  · extract_lets first power started
    have kept : sendMode started = sendMode s := by simp only [started]; split <;> rfl
    clear_value started
    rw [← kept]
    split
    · split <;> rfl
    · simp +zetaDelta [sendMode, modeOf_simps]

theorem execCaravanEnumeration_mode {f0 f1 : RingFind} {s t : State} (ran : execCaravanEnumeration f0 f1 s = .next t) :
    sendMode t = sendMode s := by
  unfold execCaravanEnumeration at ran
  cases ran
  simp [sendMode, modeOf_simps, mode_shown]

theorem execStateRecordRestoreTimeout_mode {s t : State} (ran : execStateRecordRestoreTimeout s = .next t) : sendMode t = sendMode s := by
  unfold execStateRecordRestoreTimeout at ran
  cases ran
  simp [sendMode, modeOf_simps, mode_shown]

theorem execJoinDispatch_mode {s t : State} (ran : execJoinDispatch s = .next t) : sendMode t = sendMode s := by
  unfold execJoinDispatch at ran
  cases ran
  simp [sendMode, modeOf_simps, mode_shown]

theorem execTickTrigger_mode {t : TickIn} {s : State} {t' : State} (ran : execTickTrigger t s = .next t') : sendMode t' = sendMode s := by
  unfold execTickTrigger at ran
  cases ran
  simp [sendMode, modeOf_simps]

theorem execAngleSourceTick_mode {t : TickIn} {s : State} {t' : State} (ran : execAngleSourceTick t s = .next t') :
    sendMode t' = sendMode s := by
  unfold execAngleSourceTick at ran
  cases ran
  simp [sendMode, modeOf_simps]

theorem execSuccessorBecomesSource_mode {s t : State} (ran : execSuccessorBecomesSource s = .next t) : sendMode t = sendMode s := by
  unfold execSuccessorBecomesSource at ran
  cases ran
  simp [sendMode, modeOf_simps]

theorem execEchoReq_mode {port : DnPort} {f : RyrFrame} {inWaymark : Bool} {s t : State} (ran : execEchoReq port f inWaymark s = .next t) :
    sendMode t = sendMode s := by
  unfold execEchoReq at ran
  cases ran
  dsimp only
  (repeat' split) <;> simp [sendMode, modeOf_simps, mode_shown]

theorem execTickSum_mode {ring : Ix} {endB : Bool} {f : CarFrame} {s t : State} (ran : execTickSum ring endB f s = .next t) :
    sendMode t = sendMode s := by
  unfold execTickSum at ran
  cases ran
  dsimp only
  (repeat' split) <;> simp [sendMode]

theorem execDieTemp_mode {f : PeerFrame} {s t : State} (ran : execDieTemp f s = .next t) : sendMode t = sendMode s := by
  unfold execDieTemp at ran
  cases ran
  simp [sendMode, modeOf_simps]

theorem execFrameClose_mode {evaluated : Nat} {s t : State} (ran : execFrameClose evaluated s = .next t) : sendMode t = sendMode s := by
  unfold execFrameClose at ran
  cases ran
  simp [sendMode, modeOf_simps, foldl_mode]

theorem execFrameUpdate_mode {s t : State} (ran : execFrameUpdate s = .next t) : sendMode t = sendMode s := by
  unfold execFrameUpdate at ran
  cases ran
  simp [sendMode, modeOf_simps, foldl_mode]

theorem execStateOffer_mode {h : Hdr} {addr len : Nat} {data : List Byte} {s t : State} (ran : execStateOffer h addr len data s = .next t) :
    sendMode t = sendMode s := by
  unfold execStateOffer at ran
  cases ran
  dsimp only
  (repeat' split) <;> simp [sendMode, modeOf_simps, mode_shown]

theorem execBlindString_mode {string : Ix} {s t : State} (ran : execBlindString string s = .next t) : sendMode t = sendMode s := by
  unfold execBlindString at ran
  cases ran
  (repeat' split) <;> simp [sendMode]

theorem execCoilTest_mode {rd : CoilRead} {s t : State} (ran : execCoilTest rd s = .next t) : sendMode t = sendMode s := by
  unfold execCoilTest at ran
  cases ran
  simp [sendMode, modeOf_simps]

theorem execContactorDropout_mode {string : Ix} {coil : Coil} {rd : CoilRead} {s t : State}
    (ran : execContactorDropout string coil rd s = .next t) :
    sendMode t = sendMode s := by
  unfold execContactorDropout at ran
  cases ran
  simp [sendMode, modeOf_simps]

theorem execKNegSettled_mode {string : Ix} {rd : CoilRead} {s t : State} (ran : execKNegSettled string rd s = .next t) :
    sendMode t = sendMode s := by
  unfold execKNegSettled at ran
  cases ran
  dsimp only
  (repeat' split) <;> simp [sendMode]

theorem execKPosSettled_mode {string : Ix} {rd : CoilRead} {s t : State} (ran : execKPosSettled string rd s = .next t) :
    sendMode t = sendMode s := by
  unfold execKPosSettled at ran
  cases ran
  dsimp only
  (repeat' split) <;> simp [sendMode]

theorem execHeartbeatAnswer_mode {answer elapsedUs : Nat} {s t : State} (ran : execHeartbeatAnswer answer elapsedUs s = .next t) :
    sendMode t = sendMode s := by
  unfold execHeartbeatAnswer at ran
  cases ran
  simp [sendMode, modeOf_simps]

theorem execHeartbeatLate_mode {s t : State} (ran : execHeartbeatLate s = .next t) : sendMode t = sendMode s := by
  unfold execHeartbeatLate at ran
  cases ran
  simp [sendMode, modeOf_simps]

theorem execOwnershipLineFree_mode {s t : State} (ran : execOwnershipLineFree s = .next t) : sendMode t = sendMode s := by
  unfold execOwnershipLineFree at ran
  cases ran
  simp [sendMode, modeOf_simps]

theorem execReleaseRetake_mode {s t : State} (ran : execReleaseRetake s = .next t) : sendMode t = sendMode s := by
  unfold execReleaseRetake at ran
  cases ran
  dsimp only
  (repeat' split) <;> simp [sendMode, modeOf_simps, mode_shown]

theorem execHoldExpiry_mode {s t : State} (ran : execHoldExpiry s = .next t) : sendMode t = sendMode s := by
  unfold execHoldExpiry at ran
  cases ran
  simp [sendMode, modeOf_simps, mode_shown]

theorem execHoldAck_mode {s t : State} (ran : execHoldAck s = .next t) : sendMode t = sendMode s := by
  unfold execHoldAck at ran
  cases ran
  simp [sendMode, modeOf_simps]

theorem execHandover_mode {h : Hdr} {s t : State} (ran : execHandover h s = .next t) : sendMode t = sendMode s := by
  unfold execHandover at ran
  cases ran
  simp [sendMode, modeOf_simps]

theorem execEjectorOpen_mode {s t : State} (ran : execEjectorOpen s = .next t) : sendMode t = sendMode s := by
  unfold execEjectorOpen at ran
  cases ran
  simp [sendMode, modeOf_simps, mode_shown]

theorem execPartnerPresence_mode {present : Bool} {s t : State} (ran : execPartnerPresence present s = .next t) :
    sendMode t = sendMode s := by
  unfold execPartnerPresence at ran
  cases ran
  simp [sendMode, modeOf_simps, mode_shown]

theorem execPeerLinkDown_mode {s t : State} (ran : execPeerLinkDown s = .next t) : sendMode t = sendMode s := by
  unfold execPeerLinkDown at ran
  cases ran
  simp [sendMode, modeOf_simps, mode_shown]

theorem execPairParamMismatch_mode {s t : State} (ran : execPairParamMismatch s = .next t) : sendMode t = sendMode s := by
  unfold execPairParamMismatch at ran
  cases ran
  (repeat' split) <;> simp [sendMode, modeOf_simps, mode_shown]

theorem execStateRec_mode {f : PeerFrame} {s t : State} (ran : execStateRec f s = .next t) : sendMode t = sendMode s := by
  unfold execStateRec at ran
  cases ran
  simp [sendMode, modeOf_simps]

theorem execUnitTable_mode {f : PeerFrame} {s t : State} (ran : execUnitTable f s = .next t) : sendMode t = sendMode s := by
  unfold execUnitTable at ran
  cases ran
  simp [sendMode, modeOf_simps]

theorem execHopComp_mode {f : PeerFrame} {s t : State} (ran : execHopComp f s = .next t) : sendMode t = sendMode s := by
  unfold execHopComp at ran
  cases ran
  simp [sendMode, modeOf_simps, mode_shown]

theorem execHoldState_mode {f : PeerFrame} {s t : State} (ran : execHoldState f s = .next t) : sendMode t = sendMode s := by
  unfold execHoldState at ran
  cases ran
  simp [sendMode, modeOf_simps]

theorem execRelease_mode {f : PeerFrame} {s t : State} (ran : execRelease f s = .next t) : sendMode t = sendMode s := by
  unfold execRelease at ran
  cases ran
  simp [sendMode, modeOf_simps, mode_shown]

theorem execPeerEchoReq_mode {f : PeerFrame} {inWaymark : Bool} {s t : State} (ran : execPeerEchoReq f inWaymark s = .next t) :
    sendMode t = sendMode s := by
  unfold execPeerEchoReq at ran
  cases ran
  simp [sendMode, modeOf_simps]

theorem execPeerEchoRep_mode {f : PeerFrame} {rtt : Nat} {s t : State} (ran : execPeerEchoRep f rtt s = .next t) :
    sendMode t = sendMode s := by
  unfold execPeerEchoRep at ran
  cases ran
  simp [sendMode, modeOf_simps]

theorem execRateDwellExpiry_mode {bus : Ix} {s t : State} (ran : execRateDwellExpiry bus s = .next t) : sendMode t = sendMode s := by
  unfold execRateDwellExpiry at ran
  cases ran
  simp [sendMode, modeOf_simps]

theorem execCanWindowStart_mode {bus : Ix} {window : Nat} {leftNs : Nat} {s t : State}
    (ran : execCanWindowStart bus window leftNs s = .next t) :
    sendMode t = sendMode s := by
  unfold execCanWindowStart at ran
  cases ran
  dsimp only
  (repeat' split) <;> simp [sendMode, modBus_mode]

theorem execCanTxDone_mode {bus : Ix} {result : CanResult} {s t : State} (ran : execCanTxDone bus result s = .next t) :
    sendMode t = sendMode s := by
  unfold execCanTxDone at ran
  cases ran
  dsimp only
  (repeat' split) <;> simp [sendMode, modBus_mode]

theorem execBusOffRecovery_mode {bus : Ix} {s t : State} (ran : execBusOffRecovery bus s = .next t) : sendMode t = sendMode s := by
  unfold execBusOffRecovery at ran
  cases ran
  simp [sendMode, modeOf_simps, modBus_mode]

theorem execCanPost_mode {h : Hdr} {bus format length buffer id_ : Nat} {data : List Byte} {s t : State}
    (ran : execCanPost h bus format length buffer id_ data s = .next t) :
    sendMode t = sendMode s := by
  unfold execCanPost at ran
  cases ran
  dsimp only
  (repeat' split) <;> simp [sendMode, modBus_mode]

theorem execCanCancel_mode {h : Hdr} {handle : Nat} {s t : State} (ran : execCanCancel h handle s = .next t) : sendMode t = sendMode s := by
  unfold execCanCancel at ran
  cases ran
  dsimp only
  (repeat' split) <;> simp [sendMode, modBus_mode]

theorem execRegisterWrite_mode {port : Ix} {offset : Nat} {w : Word} {s t : State} (ran : execRegisterWrite port offset w s = .next t) :
    sendMode t = sendMode s := by
  unfold execRegisterWrite at ran
  cases ran
  simp [sendMode, modeOf_simps]

theorem execPartnerReadyChange_mode {ready : Bool} {s t : State} (ran : execPartnerReadyChange ready s = .next t) :
    sendMode t = sendMode s := by
  unfold execPartnerReadyChange at ran
  cases ran
  simp [sendMode, modeOf_simps]

theorem execOwnershipLineAsserted_mode {line : OwnLine} {s t : State} (ran : execOwnershipLineAsserted line s = .next t) :
    sendMode t = sendMode s := by
  unfold execOwnershipLineAsserted at ran
  cases ran
  simp [sendMode, modeOf_simps, mode_shown]

/-! ### No new sender -/

theorem role_of_mode {s t : State} (h : sendMode t = sendMode s) : t.pair.role = s.pair.role := Option.some.inj (congrArg Prod.fst h)
theorem fw_of_mode {s t : State} (h : sendMode t = sendMode s) : t.elec.fw = s.elec.fw :=
  Option.some.inj (congrArg (·.2.1) h)
theorem bus_of_mode {s t : State} (h : sendMode t = sendMode s) (b : Ix) : (t.can.bus.get b).st = (s.can.bus.get b).st := by
  have both : busStates t.can = busStates s.can := Option.some.inj (congrArg (·.2.2) h)
  cases b
  · exact congrArg Prod.fst both
  · exact congrArg Prod.snd both

theorem busesQuiet_iff (s : State) : busesQuiet s = true ↔ ∀ b, (s.can.bus.get b).st = .listenOnly := by
  simp only [busesQuiet, Bool.and_eq_true, beq_iff_eq]
  exact ⟨fun ⟨zero, one⟩ b => by cases b <;> assumption, fun h => ⟨h .zero, h .one⟩⟩

theorem isActive_congr {s t : State} (role : t.pair.role = s.pair.role) : isActive t = isActive s := by unfold isActive; rw [role]

theorem onlyActiveSends_of_active {s : State} (active : isActive s = true) : onlyActiveSends s = s.elec.fw := by
  simp [onlyActiveSends, active]
theorem onlyActiveSends_of_inactive {s : State} (inactive : isActive s = false) : onlyActiveSends s = busesQuiet s := by
  simp [onlyActiveSends, inactive]

/-- What a bus may become from `s` to a later state so that it may send no more than it may in `s`, or the module is active. -/
def busFollows (s : State) (b : Ix) (st : CanState) : Prop :=
  st = (s.can.bus.get b).st ∨ st = .listenOnly ∨ st = .normal ∧ (isActive s = true ∨ (s.can.bus.get b).st ≠ .listenOnly)

/-- From `s` to `t` the invariant carries over and no bus becomes scheduled. -/
structure NoNewSender (s t : State) : Prop where
  invariant : onlyActiveSends s = true → onlyActiveSends t = true
  unscheduled : ∀ b, (t.can.bus.get b).st = .scheduled → (s.can.bus.get b).st = .scheduled

namespace NoNewSender

variable {s t u : State}

theorem refl (s : State) : NoNewSender s s := ⟨id, fun _ => id⟩
theorem trans (st : NoNewSender s t) (tu : NoNewSender t u) : NoNewSender s u :=
  ⟨tu.invariant ∘ st.invariant, fun b => st.unscheduled b ∘ tu.unscheduled b⟩

/-- The role stays, the firmware runs on, and each bus follows. -/
theorem of_buses (role : t.pair.role = s.pair.role) (fw : s.elec.fw = true → t.elec.fw = true)
    (buses : ∀ b, busFollows s b (t.can.bus.get b).st) : NoNewSender s t where
  invariant h := by
    cases active : isActive s
    · rw [onlyActiveSends_of_inactive active, busesQuiet_iff] at h
      rw [onlyActiveSends_of_inactive ((isActive_congr role).trans active), busesQuiet_iff]
      intro b
      obtain same | quiet | ⟨-, sends | loud⟩ := buses b
      · exact same.trans (h b)
      · exact quiet
      · simp [active] at sends
      · exact absurd (h b) loud
    · rw [onlyActiveSends_of_active active] at h
      rw [onlyActiveSends_of_active ((isActive_congr role).trans active)]
      exact fw h
  unscheduled b scheduled := by
    obtain same | quiet | ⟨normal, -⟩ := buses b
    · exact same.symm.trans scheduled
    · simp [quiet] at scheduled
    · simp [normal] at scheduled

theorem of_mode (h : sendMode t = sendMode s) : NoNewSender s t :=
  of_buses (role_of_mode h) (fun fw => (fw_of_mode h).trans fw) fun b => .inl (bus_of_mode h b)

theorem of_view (h : view 268337146 t = view 268337146 s) : NoNewSender s t := of_mode (congrArg modeOf h)

theorem ite {c : Prop} [Decidable c] (yes : NoNewSender s t) (no : NoNewSender s u) : NoNewSender s (if c then t else u) := by
  split <;> assumption

/-- Both buses listen only. -/
theorem of_quiet (inactive : isActive t = false) (quiet : busesQuiet t = true) : NoNewSender s t where
  invariant _ := (onlyActiveSends_of_inactive inactive).trans quiet
  unscheduled b scheduled := by simp [(busesQuiet_iff t).mp quiet b] at scheduled

/-- The role becomes active on running firmware, and the buses stay as they are. -/
theorem of_active (active : isActive t = true) (fw : t.elec.fw = true) (buses : t.can = s.can) : NoNewSender s t where
  invariant _ := (onlyActiveSends_of_active active).trans fw
  unscheduled b := by rw [buses]; exact id

/-- A module that is not active changes its role to another that is not. -/
theorem of_inactive (before : isActive s = false) (after : isActive t = false) (buses : t.can = s.can) : NoNewSender s t where
  invariant h := by
    rw [onlyActiveSends_of_inactive before] at h
    rw [onlyActiveSends_of_inactive after, ← h]
    unfold busesQuiet; rw [buses]
  unscheduled b := by rw [buses]; exact id

end NoNewSender

theorem raise_noNewSender (s : State) (e : Nat) (d : List Byte) : NoNewSender s (raise s e d) := .of_view (by simp)

/-! ### Changes of a bus state -/

theorem setCan_pair (s : State) (b : Ix) (st : CanState) (cause : Nat) : (setCan s b st cause).pair = s.pair :=
  same_pair (m := 202047488) (by simp) (by decide)
theorem setCan_elec (s : State) (b : Ix) (st : CanState) (cause : Nat) : (setCan s b st cause).elec = s.elec :=
  same_elec (m := 202047488) (by simp) (by decide)
theorem setCan_grid (s : State) (b : Ix) (st : CanState) (cause : Nat) : (setCan s b st cause).grid = s.grid :=
  same_grid (m := 202047488) (by simp) (by decide)
theorem setCan_st (s : State) (b : Ix) (st : CanState) (cause : Nat) : ((setCan s b st cause).can.bus.get b).st = st := by
  unfold setCan
  dsimp only
  split
  · assumption
  · simp

theorem setCan_noNewSender {s : State} {b : Ix} {st : CanState} (cause : Nat) (follows : busFollows s b st) :
    NoNewSender s (setCan s b st cause) := by
  refine .of_buses (by rw [setCan_pair]) (by rw [setCan_elec]; exact id) fun y => ?_
  by_cases h : y = b
  · rw [h, setCan_st]; exact follows
  · rw [setCan_other s b st cause h]; exact .inl rfl

theorem canUnsync_noNewSender (s : State) : NoNewSender s (canUnsync s) := by
  have falls (s : State) (b : Ix) : NoNewSender s (if (s.can.bus.get b).st = .scheduled then setCan s b .normal 4 else s) := by
    split
    · next scheduled => exact setCan_noNewSender 4 (.inr (.inr ⟨rfl, .inr (by simp [scheduled])⟩))
    · exact .refl s
  exact (falls s .zero).trans (falls _ .one)

theorem canSilent_busesQuiet (s : State) : busesQuiet (canSilent s) = true := by
  refine (busesQuiet_iff _).mpr fun b => ?_
  unfold canSilent
  cases b
  · rw [setCan_other _ _ _ _ (by decide), setCan_st]
  · exact setCan_st _ _ _ _

theorem loseSync_noNewSender (s : State) : NoNewSender s (loseSync s) := by
  unfold loseSync
  refine .trans (.of_view ?_) (canUnsync_noNewSender _)
  simp

theorem leaveHead_noNewSender (s : State) (cause : Nat) : NoNewSender s (leaveHead s cause) := by
  unfold leaveHead
  split
  · exact .refl s
  · dsimp only
    split
    · split
      · exact .trans (.of_view (by simp)) (.trans (loseSync_noNewSender _) (raise_noNewSender _ 10 []))
      · exact .of_view (by simp)
    · exact .of_view (by simp)

theorem canActive_noNewSender (s : State) (b : Ix) : NoNewSender s (canActive s b) := by
  unfold canActive
  dsimp only
  split
  · next may =>
    have active : isActive s = true := by simp only [Bool.and_eq_true] at may; exact may.1.1.1
    exact setCan_noNewSender 2 (.inr (.inr ⟨rfl, .inl active⟩))
  · exact .refl s

theorem canActiveBoth_noNewSender (s : State) : NoNewSender s (canActiveBoth s) :=
  (canActive_noNewSender s .zero).trans (canActive_noNewSender _ .one)

theorem adoptRate_noNewSender (s : State) (b : Ix) (cand : Nat) (assumed fixed : Bool) :
    NoNewSender s (adoptRate s b cand assumed fixed) := by
  unfold adoptRate
  refine .trans (.of_mode ?_) (canActive_noNewSender _ b)
  rw [checkWindows_mode]
  simp [sendMode, modBus_mode]

theorem canBegin_noNewSender (s : State) (b : Ix) : NoNewSender s (canBegin s b) := by
  unfold canBegin
  split
  · exact .of_mode (startDetect_mode s b)
  · exact adoptRate_noNewSender s b _ false true

theorem detectFrame_noNewSender (s : State) (b : Ix) (f : CanFrame) : NoNewSender s (detectFrame s b f) := by
  unfold detectFrame
  dsimp only
  have counted (run : Nat) (brs : Bool) : NoNewSender s (modBus s b fun c => { c with okRun := run, okBrs := brs }) :=
    .of_mode (modBus_mode s b fun _ => rfl)
  exact .ite (.refl s) (.ite ((counted _ _).trans (adoptRate_noNewSender _ b _ false false)) (counted _ _))

/-! ### Roles given up and taken -/

theorem busesQuiet_congr {s t : State} (h : t.can = s.can) : busesQuiet t = busesQuiet s := by unfold busesQuiet; rw [h]

theorem setRole_can (s : State) (r : Role) : (setRole s r).can = s.can := same_can (m := 557056) (by simp) (by decide)
theorem setRole_elec (s : State) (r : Role) : (setRole s r).elec = s.elec := same_elec (m := 557056) (by simp) (by decide)
theorem releaseLine_can (s : State) : (releaseLine s).can = s.can := same_can (m := 202039296) (by simp) (by decide)
theorem dropReqs_can (s : State) (x : Ix) : (dropReqs s x).can = s.can := same_can (m := 8192) (by simp) (by decide)

theorem setSeed_can (s : State) (b : Bool) : (setSeed s b).can = s.can := same_can (m := 524544) (by simp) (by decide)
theorem stopEngines_can (s : State) : (stopEngines s).can = s.can := same_can (m := 201997216) (by simp) (by decide)
theorem setHold_can (s : State) (m : HoldMode) (cause : Nat) : (setHold s m cause).can = s.can :=
  same_can (m := 201986048) (by simp) (by decide)

/-- R44: the buses are silent before the line is released. -/
theorem stepDown_busesQuiet (s : State) (role : Role) : busesQuiet (stepDown s role) = true := by
  have silent : ∃ t, (stepDown s role).can = (canSilent t).can := by
    unfold stepDown
    by_cases was : isActive s = true
    · exact ⟨endSequences (endSequences s .zero) .one, by simp only [was, if_true, stopEngines_can, setRole_can, setHold_can]⟩
    · exact ⟨s, by simp only [was, if_false, apply_ite State.can, setSeed_can, setRole_can, ite_self, Bool.false_eq_true]⟩
  obtain ⟨t, same⟩ := silent
  exact (busesQuiet_congr same).trans (canSilent_busesQuiet t)

theorem giveUp_busesQuiet (s : State) (role : Role) : busesQuiet (giveUp s role) = true := by
  refine (busesQuiet_congr ?_).trans (stepDown_busesQuiet s role)
  rw [giveUp_eq, dropReqs_can, dropReqs_can]
  split
  · exact releaseLine_can _
  · rfl

theorem giveUp_role (s : State) (role : Role) : (giveUp s role).pair.role = role := by
  obtain ⟨req, gave⟩ := giveUp_pair s role
  rw [gave]

theorem giveUp_noNewSender (s : State) {role : Role} (h : role ≠ .active) : NoNewSender s (giveUp s role) :=
  .of_quiet (by simpa [isActive, giveUp_role] using h) (giveUp_busesQuiet s role)

theorem goIsolated_noNewSender (s : State) (reason : Nat) : NoNewSender s (goIsolated s reason) := by
  refine (giveUp_noNewSender s (role := .isolated) (by decide)).trans (.of_mode ?_)
  simp [goIsolated, sendMode, modeOf_simps, mode_shown]

theorem failSelfTest_noNewSender (s : State) : NoNewSender s (failSelfTest s) := by
  unfold failSelfTest
  refine .trans (.of_mode ?_) (goIsolated_noNewSender _ 2)
  simp [sendMode, modeOf_simps, mode_shown]

/-- The role becomes active where the firmware runs. -/
theorem setRole_active_noNewSender {s : State} (fw : s.elec.fw = true) : NoNewSender s (setRole s .active) :=
  .of_active (by simp [isActive, setRole_pair]) (by rw [setRole_elec]; exact fw) (setRole_can s .active)

theorem arbitrateActive_noNewSender {s : State} (fw : s.elec.fw = true) : NoNewSender s (arbitrateActive s) := by
  unfold arbitrateActive
  refine .trans (.of_mode ?_) ((setRole_active_noNewSender ?_).trans (canActiveBoth_noNewSender _))
  · simp [sendMode, modeOf_simps, mode_shown]
  · exact fw

/-- The module as it has taken the active role, before it takes up its links. -/
def tookRole (s : State) : State :=
  setRole { s with
    outr := { s.outr with block := false },
    prot := s.prot.map freshJudgements, elec := { s.elec with step := 12 },
    ring := s.ring.map quietRing,
    fus := { model := s.fus.model, modelStaged := s.fus.modelStaged, modelDue := s.fus.modelDue,
             startCycle := some (curCycle s - 2 + bit (decide (65 < curTick s))) } } .active

/-- The hold state and the head position are taken up. -/
def takeUpLinks (s : State) (headPos : Bool) : State :=
  let s := takeHoldCopy s
  let s := if headPos then becomeHead s 2 else s
  if s.grid.sync then setHold s (configuredHold s) 2 else s

theorem becomeActive_eq (s : State) : becomeActive s = canActiveBoth (takeUpLinks (tookRole s)
    (s.grid.peer.accepted || (s.hold.copy.isSome && s.pair.hop.any fun h => h.2.2.2.2 % 4 == 0))) := rfl

theorem takeUpLinks_mode (s : State) (headPos : Bool) : sendMode (takeUpLinks s headPos) = sendMode s := by
  simp [takeUpLinks, sendMode, modeOf_simps]

theorem tookRole_noNewSender {s : State} (fw : s.elec.fw = true) : NoNewSender s (tookRole s) := by
  refine .of_active ?_ ?_ (setRole_can _ _)
  · simp [tookRole, isActive, setRole_pair]
  · rw [tookRole, setRole_elec]; exact fw

theorem becomeActive_noNewSender {s : State} (fw : s.elec.fw = true) : NoNewSender s (becomeActive s) := by
  rw [becomeActive_eq]
  exact (tookRole_noNewSender fw).trans (.trans (.of_mode (takeUpLinks_mode _ _)) (canActiveBoth_noNewSender _))

/-! ### Restarts -/

theorem restart_noNewSender (s t : State) (cause : Nat) : NoNewSender s (restart t cause) := .of_quiet rfl rfl
theorem powerOff_noNewSender (s t : State) : NoNewSender s (powerOff t) := .of_quiet rfl rfl
theorem powerUp_noNewSender (s t : State) (slotB strap2s present : Bool) :
    NoNewSender s (powerUp t slotB strap2s present) := .of_quiet rfl rfl

theorem activateBoot_noNewSender (s : State) : NoNewSender s (activateBoot s) := by
  unfold activateBoot
  split
  · exact .refl s
  · exact restart_noNewSender _ _ 5

theorem leaveNow_noNewSender (s : State) : NoNewSender s (leaveNow s) := by
  unfold leaveNow
  split
  · exact activateBoot_noNewSender s
  · exact restart_noNewSender _ _ 5
  · exact .refl s

theorem leaveIfOpen_noNewSender (s : State) : NoNewSender s (leaveIfOpen s) := by
  unfold leaveIfOpen
  split
  · exact .ite (leaveNow_noNewSender s) (.refl s)
  · exact .refl s

theorem openAndLeave_noNewSender (s : State) (activation : Bool) : NoNewSender s (openAndLeave s activation) :=
  .trans (.of_view (by simp)) (leaveIfOpen_noNewSender _)

/-! ### The boot -/

theorem stayInLoader_noNewSender {s : State} (fw : s.elec.fw = false) : NoNewSender s (stayInLoader s) where
  invariant h := by
    have inactive : isActive s = false := by
      by_contra active
      rw [onlyActiveSends_of_active (by simpa using active), fw] at h
      exact absurd h (by decide)
    rw [onlyActiveSends_of_inactive inactive] at h
    rw [onlyActiveSends_of_inactive (by simp [stayInLoader, isActive, setRole_pair])]
    exact (busesQuiet_congr (setRole_can _ _)).trans h
  unscheduled b := by
    rw [stayInLoader, setRole_can]; exact id

theorem bootFails_noNewSender {s : State} (fw : s.elec.fw = false) (r : SelRec) (cause : Nat) : NoNewSender s (bootFails s r cause) := by
  unfold bootFails
  dsimp only
  refine .ite (restart_noNewSender _ _ 7) (.ite (restart_noNewSender _ _ 7) (.ite (restart_noNewSender _ _ 4) ?_))
  exact .trans (.of_view (by simp)) (stayInLoader_noNewSender fw)

theorem startImage_noNewSender (s : State) (r : SelRec) : NoNewSender s (startImage s r) := by
  have cleared : NoNewSender s (if r.failBoots = 0 then s else writeSel s { r with failBoots := 0 }) := .of_view (by simp)
  have begun (t : State) (e : ElecState) (o : OutrState) (u : UpdBlock) (fw : e.fw = true) :
      NoNewSender t { t with elec := e, outr := o, upd := u } := .of_buses rfl (fun _ => fw) fun _ => .inl rfl
  have loaded (t : State) (p : SelRec) : NoNewSender t (loadThresholds (loadCal (loadModel (loadSettings (convertSettings t p) r.slot)))) :=
    .of_view (by simp)
  have held (t : State) (h : HoldState) : NoNewSender t { t with hold := h } := .of_view (by simp)
  have window (t : State) (w : Option Nat) : NoNewSender t (if r.trial then { t with upd := { t.upd with window := w } } else t) :=
    .of_view (by simp)
  have taken (t : State) : NoNewSender t (missedWhileDown (verifyAgain (takeHoldBits (mirrorLoop (mirrorLoop t .zero) .one)))) :=
    .of_view (by simp)
  unfold startImage
  exact cleared.trans (.trans (begun _ _ _ _ rfl) (.trans (loaded _ _) (.trans (held _ _) (.trans (canBegin_noNewSender _ .zero)
    (.trans (canBegin_noNewSender _ .one) (.trans (window _ _) (taken _)))))))

theorem bootImage_noNewSender {s : State} (fw : s.elec.fw = false) (r : SelRec) (selfTest : Bool) :
    NoNewSender s (bootImage s r selfTest) :=
  .ite (bootFails_noNewSender fw r 3) (.ite (bootFails_noNewSender fw r 2) (startImage_noNewSender s r))

/-! ### The commands that change a role, a bus state or the firmware's run -/

section Commands

variable {s t : State}

theorem fw_of_running (run : running s = true) : s.elec.fw = true := by
  simp only [running, Bool.and_eq_true] at run
  exact run.2

theorem execPowerGood_noNewSender {slotB strap2s present : Bool} (h : execPowerGood slotB strap2s present s = .next t) :
    NoNewSender s t := by
  cases h
  exact .ite (.refl s) (powerUp_noNewSender s s slotB strap2s present)

theorem execWithdrawal_noNewSender (h : execWithdrawal s = .next t) : NoNewSender s t := by
  cases h
  exact .ite (powerOff_noNewSender s s) (.refl s)

theorem execSupplyLoss_noNewSender (h : execSupplyLoss s = .next t) : NoNewSender s t := execWithdrawal_noNewSender h

theorem execWatchdogExpiry_noNewSender (h : execWatchdogExpiry s = .next t) : NoNewSender s t := by
  cases h
  exact .ite (restart_noNewSender s s 2) (.refl s)

theorem execReferenceReturnRestart_noNewSender {r : Ix} (h : execReferenceReturnRestart r s = .next t) : NoNewSender s t := by
  cases h
  have holds (u : State) (d : List Byte) :
      NoNewSender u (beginHold { raiseOrDefer u 196 d with outr := { (raiseOrDefer u 196 d).outr with hold := .none } } .restart) :=
    .of_view (by simp)
  exact .ite (.refl s) (.ite ((restart_noNewSender s _ 3).trans (holds _ _)) (restart_noNewSender s _ 3))

theorem execFirmwareBoot_noNewSender {selfTest : Bool} (h : execFirmwareBoot selfTest s = .next t) : NoNewSender s t := by
  cases h
  split
  · exact .refl s
  · next ready =>
    have fw : s.elec.fw = false := by simp at ready; exact ready.1.1.2
    have boots {u : State} (kept : sendMode u = sendMode s) (r : SelRec) : NoNewSender s (bootImage u r selfTest) :=
      (NoNewSender.of_mode kept).trans (bootImage_noNewSender ((fw_of_mode kept).trans fw) r selfTest)
    split
    · exact stayInLoader_noNewSender fw
    · exact .ite (boots rfl _) (.ite (boots (trialFallsBack_mode s _) _) (boots (by simp [countTrial, sendMode]) _))

theorem execOwnershipArbitration_noNewSender (h : execOwnershipArbitration s = .next t) : NoNewSender s t := by
  cases h
  split
  · exact .refl s
  · next ready =>
    have run : running s = true := by simp at ready; exact ready.1.1
    have done : NoNewSender s { s with elec := { s.elec with step := 7 } } := .of_mode rfl
    exact .ite (.ite (done.trans (raise_noNewSender _ 41 [])) done)
      (.ite (done.trans ((raise_noNewSender _ 41 []).trans (goIsolated_noNewSender _ 1)))
        (.ite (arbitrateActive_noNewSender (fw_of_running run))
          (.ite (done.trans (.of_mode (takeFreeLine_mode _))) (.of_mode rfl))))

theorem execDualActiveResolved_noNewSender (h : execDualActiveResolved s = .next t) : NoNewSender s t := by
  cases h
  exact .ite ((giveUp_noNewSender s (by decide)).trans (raise_noNewSender _ 42 [])) (.refl s)

theorem execUnsynchronised_noNewSender (h : execUnsynchronised s = .next t) : NoNewSender s t := by
  cases h
  exact .ite ((loseSync_noNewSender s).trans (raise_noNewSender _ 10 [])) (.refl s)

theorem execResynchronise_noNewSender {off : Int} (h : execResynchronise off s = .next t) : NoNewSender s t := by
  cases h
  split
  · exact .refl s
  · dsimp only
    split
    · exact .refl s
    · refine .ite (.refl s) ((leaveHead_noNewSender s 4).trans (.of_view ?_))
      simp

theorem execLeadMoveExecute_noNewSender (h : execLeadMoveExecute s = .next t) : NoNewSender s t := by
  cases h
  split
  · exact .refl s
  · have moved : NoNewSender s { s with grid := { s.grid with move := none } } := .of_mode rfl
    exact .ite (.refl s) (.ite (.ite (moved.trans (.of_mode (becomeHead_mode _ 5))) moved) (moved.trans (leaveHead_noNewSender _ 5)))

theorem execOpenCurrentLow_noNewSender {string : Ix} (h : execOpenCurrentLow string s = .next t) : NoNewSender s t := by
  cases h
  split
  · exact .refl s
  · refine .ite (.refl s) (.trans (.of_view ?_) (leaveIfOpen_noNewSender _))
    simp

theorem execOwnerQualified_noNewSender (h : execOwnerQualified s = .next t) : NoNewSender s t := by
  cases h
  have owns (o : OutrState) : sendMode (judgeState (judgeState (settleCoils { s with outr := o }) .zero) .one) = sendMode s := by
    simp [sendMode, modeOf_simps]
  refine .ite ?_ (.refl s)
  dsimp only
  split
  · next taken =>
    have run := (Bool.and_eq_true _ _).mp ((Bool.and_eq_true _ _).mp taken).1
    exact (NoNewSender.of_mode (owns _)).trans (arbitrateActive_noNewSender (fw_of_running run.1))
  · exact .of_mode (owns _)

/-- The estimates and demands of a new active (R353 to R357). -/
def takeUpEngines (s : State) : State :=
  let s := takeUpEstimates (startDemands (startSlots s))
  let s := { s with est := { s.est with reviewDue := true } }
  balanceZero (balanceZero s .zero) .one

/-- What PAIR_STAT and the takeover registers show of a takeover. -/
def noteTakeover (s : State) (cause : Nat) : State :=
  { s with pair := { s.pair with
    takeover := true, takeoverCnt := sat 0xFF (s.pair.takeoverCnt + 1), gapCause := cause, reason := none, retake := false } }

theorem takeUpEngines_mode (s : State) : sendMode (takeUpEngines s) = sendMode s := by
  simp [takeUpEngines, startDemands, startSlots, sendMode, modeOf_simps]

/-- The state that TAKEOVER reports with EV 044. -/
def tookOver (s : State) : State :=
  noteTakeover (takeUpEngines (becomeActive { s with pair := { s.pair with recCycle := 0 } })) (takeoverCause s)

/-- The module may take over. -/
def mayTakeOver (s : State) : Bool := running s && s.outr.owner && s.pair.role == .standby && decide (7 ≤ s.elec.step)

theorem execTakeover_eq (s : State) : ∃ data, execTakeover s = .next (if !mayTakeOver s then s else raise (tookOver s) 44 data) := by
  unfold execTakeover mayTakeOver tookOver noteTakeover takeUpEngines
  dsimp only
  exact ⟨_, rfl⟩

theorem tookOver_noNewSender (fw : s.elec.fw = true) : NoNewSender s (tookOver s) := by
  have cleared : NoNewSender s { s with pair := { s.pair with recCycle := 0 } } := .of_mode rfl
  have noted (u : State) (cause : Nat) : sendMode (noteTakeover u cause) = sendMode u := rfl
  unfold tookOver
  exact cleared.trans ((becomeActive_noNewSender (by exact fw)).trans (.of_mode ((noted _ _).trans (takeUpEngines_mode _))))

theorem execTakeover_noNewSender (h : execTakeover s = .next t) : NoNewSender s t := by
  obtain ⟨data, eq⟩ := execTakeover_eq s
  cases eq.symm.trans h
  split
  · exact .refl s
  · next ready =>
    have run : running s = true := by simp [mayTakeOver] at ready; exact ready.1.1.1
    exact (tookOver_noNewSender (fw_of_running run)).trans (raise_noNewSender _ 44 data)

theorem execOrderlyRelease_noNewSender (h : execOrderlyRelease s = .next t) : NoNewSender s t := by
  cases h
  split
  · exact .refl s
  · next q _ =>
    have released :
        NoNewSender s { giveUp s .standby with pair := { (giveUp s .standby).pair with req := some { q with gone := true } } } :=
      (giveUp_noNewSender s (by decide)).trans (.of_mode rfl)
    exact .ite (.ite (released.trans (leaveNow_noNewSender _)) released) (.refl s)

theorem execSelfRelease_noNewSender {f : SelfFinding} {x : Ix} (h : execSelfRelease f x s = .next t) : NoNewSender s t := by
  cases h
  exact .ite (.refl s) (.ite (failSelfTest_noNewSender s) (.ite (.of_mode (requestRelease_mode s 2 [])) (.refl s)))

theorem execIsolate_noNewSender {hd : Hdr} (h : execIsolate hd s = .next t) : NoNewSender s t := by
  cases h
  exact .ite (.refl s) (.ite (.of_view (by simp)) ((goIsolated_noNewSender s 3).trans (.of_view (by simp))))

theorem execRejoin_noNewSender {hd : Hdr} (h : execRejoin hd s = .next t) : NoNewSender s t := by
  cases h
  split
  · exact .refl s
  · split
    · exact .of_view (by simp)
    · next isolated =>
      refine .ite (.of_view (by simp)) (.ite (.of_view (by simp)) ?_)
      have back : NoNewSender s (setRole { s with elec := { s.elec with isolation := 0 } } .standby) :=
        .of_inactive (by simp at isolated; simp [isActive, isolated]) (by simp [isActive, setRole_pair]) (setRole_can _ _)
      exact back.trans (.trans (.of_mode (takeFreeLine_mode _)) (.of_view (by simp)))

theorem heard_mode (s : State) (r : PeerRec) : sendMode (heard s r) = sendMode s := by
  simp [heard, heardPair, sendMode, modeOf_simps, mode_shown]

theorem execPeerStatus_noNewSender {f : PeerFrame} (h : execPeerStatus f s = .next t) : NoNewSender s t := by
  have known := heard_mode s (readPeerStatus f.payload)
  rw [show execPeerStatus f s = _ from exec_peerStatus_eq f s] at h
  cases h
  exact .ite (.refl s) (.ite (.of_mode (discardPeer_mode s)) ((NoNewSender.of_mode known).trans
    (.ite (.ite (.ite (raise_noNewSender _ 41 []) (.refl _)) ((raise_noNewSender _ 41 []).trans (goIsolated_noNewSender _ 1))) (.refl _))))

theorem execCanFrame_noNewSender {bus : Ix} {f : CanFrame} (h : execCanFrame bus f s = .next t) : NoNewSender s t := by
  cases h
  refine .ite (.refl s) ?_
  dsimp only
  refine .ite (.of_mode (by simp [sendMode, modeOf_simps])) ?_
  generalize detects : detectFrame _ bus f = u
  have detected : NoNewSender s u := by
    rw [← detects]
    exact .trans (.of_mode (by simp [sendMode, modBus_mode])) (detectFrame_noNewSender _ bus f)
  refine detected.trans (.of_mode ?_)
  (repeat' split) <;> simp [sendMode]

theorem execRateSilentExpiry_noNewSender {bus : Ix} (h : execRateSilentExpiry bus s = .next t) : NoNewSender s t := by
  cases h
  exact .ite (.refl s) (.ite (.ite (adoptRate_noNewSender s bus _ true false) (.refl s)) (.ite (canActive_noNewSender s bus) (.refl s)))

theorem execCanBusOff_noNewSender {bus : Ix} (h : execCanBusOff bus s = .next t) : NoNewSender s t := by
  cases h
  have falls {u : State} (kept : sendMode u = sendMode s) :
      NoNewSender s (if (canBus s bus).st == .scheduled then setCan u bus .normal 5 else u) := by
    refine (NoNewSender.of_mode kept).trans ?_
    split
    · next scheduled =>
      have loud : (u.can.bus.get bus).st ≠ .listenOnly := by
        rw [bus_of_mode kept bus, show (s.can.bus.get bus).st = .scheduled from eq_of_beq scheduled]; decide
      exact setCan_noNewSender 5 (.inr (.inr ⟨rfl, .inr loud⟩))
    · exact .refl u
  have listens (u : State) :
      NoNewSender u (setCan (modBus u bus fun c => { c with offUp := [], candUp := u.elec.uptime }) bus .listenOnly 7) :=
    .trans (.of_mode (modBus_mode u bus (f := fun c => { c with offUp := [], candUp := u.elec.uptime }) fun _ => rfl))
      (setCan_noNewSender 7 (.inr (.inl rfl)))
  refine .ite (.refl s) (.trans (falls ?_) (.ite (.refl _) ((listens _).trans (.ite (.of_mode (startDetect_mode _ bus)) (.refl _)))))
  split <;> simp [sendMode, modBus_mode]

theorem execSafetyScan_noNewSender (h : execSafetyScan s = .next t) : NoNewSender s t := by
  cases h
  refine .ite (.refl s) ?_
  split
  · exact .refl s
  · split
    · exact .ite (.of_view (by simp)) (failSelfTest_noNewSender s)
    · exact failSelfTest_noNewSender s

theorem execActivation_noNewSender (h : execActivation s = .next t) : NoNewSender s t := by
  cases h
  exact .ite (.refl s) (.ite (.of_view (by simp)) (.ite (activateBoot_noNewSender s) (.ite (openAndLeave_noNewSender s true)
    (.ite (.trans (.of_mode rfl) (.of_mode (requestRelease_mode _ 6 []))) (.of_view (by simp))))))

theorem execConfirmWindowExpiry_noNewSender (h : execConfirmWindowExpiry s = .next t) : NoNewSender s t := by
  cases h
  exact .ite (.refl s) (.ite (restart_noNewSender s _ 5) (.ite (.trans (.of_mode rfl) (.of_mode (requestRelease_mode _ 6 [])))
    (openAndLeave_noNewSender s false)))

theorem execActivationOpenTimeout_noNewSender (h : execActivationOpenTimeout s = .next t) : NoNewSender s t := by
  cases h
  exact .ite (leaveNow_noNewSender s) (.refl s)

end Commands

/-! ### One step of the block -/

/-- What every command keeps: the invariant, and that a bus enters the scheduled state only on an active module with SYNC = 1. -/
structure SendsByRule (s t : State) : Prop where
  invariant : onlyActiveSends s = true → onlyActiveSends t = true
  scheduled : ∀ b, (s.can.bus.get b).st ≠ .scheduled → (t.can.bus.get b).st = .scheduled →
    isActive s = true ∧ isActive t = true ∧ s.grid.sync = true ∧ t.grid.sync = true

theorem NoNewSender.sendsByRule {s t : State} (h : NoNewSender s t) : SendsByRule s t :=
  ⟨h.invariant, fun b before after => absurd (h.unscheduled b after) before⟩

/-- R369: what a basic cycle brings before the bus may enter the scheduled state. -/
theorem basicCycle_noNewSender (s : State) (bus : Ix) (now was : Nat) : NoNewSender s (
    if now ≠ 0 ∧ now ≠ (canBus s bus).rate then adoptRate s bus now false true
    else if now = 0 ∧ was ≠ 0 ∧ (canBus s bus).st = .listenOnly then startDetect s bus
    else checkWindows s bus) :=
  .ite (adoptRate_noNewSender s bus now false true) (.ite (.of_mode (startDetect_mode s bus)) (.of_mode (checkWindows_mode s bus)))

/-- A module that drives its links and holds synchronisation may take a bus into the scheduled state. -/
theorem setCan_scheduled_sendsByRule {s u : State} (pair : u.pair = s.pair) (grid : u.grid = s.grid) (drive : drives u = true)
    (sync : synced u = true) (bus : Ix) (f : CanBus → CanBus) : SendsByRule s (setCan (modBus u bus f) bus .scheduled 3) := by
  have ⟨⟨run, active⟩, _⟩ : (running u = true ∧ isActive u = true) ∧ u.outr.owner = true := by simpa [drives] using drive
  have after : isActive (setCan (modBus u bus f) bus .scheduled 3) = true :=
    (isActive_congr (by rw [setCan_pair, modBus_pair])).trans active
  refine ⟨fun _ => ?_, fun _ _ _ => ⟨(isActive_congr (by rw [pair])).symm.trans active, after, ?_, ?_⟩⟩
  · rw [onlyActiveSends_of_active after, setCan_elec]; exact fw_of_running run
  · rw [← grid]; exact sync
  · rw [setCan_grid]; exact sync

/-- R44: a basic cycle takes a bus into the scheduled state only on a module that drives its links and holds synchronisation. -/
theorem execBasicCycleStart_sendsByRule {s t : State} {bus : Ix} (h : execBasicCycleStart bus s = .next t) : SendsByRule s t := by
  cases h
  split
  · exact (NoNewSender.refl s).sendsByRule
  · dsimp only
    generalize begins : judgeErrors _ bus = u
    have begun : NoNewSender s u := by
      have counted (v : State) :
          sendMode (judgeErrors (if bus = .zero then countPcs (countPcs v .zero) .one else v) bus) = sendMode v := by
        simp [sendMode, modeOf_simps]
      rw [← begins]
      refine .trans (.of_mode ?_) (.trans (basicCycle_noNewSender _ bus _ _) (.of_mode (counted _)))
      simp [sendMode, modBus_mode]
    have elsewhere : view 204144640 u = view 204144640 s := by rw [← begins]; simp
    split
    · next may =>
      simp only [Bool.and_eq_true] at may
      obtain ⟨⟨⟨⟨⟨-, drive⟩, sync⟩, -⟩, -⟩, -⟩ := may
      exact setCan_scheduled_sendsByRule (same_pair elsewhere (by decide)) (same_grid elsewhere (by decide)) drive sync bus _
    · refine (begun.trans (.ite (.of_mode (modBus_mode u bus ?_)) (.refl u))).sendsByRule
      exact fun _ => rfl

theorem SendsByRule.of_mode {s t : State} (h : sendMode t = sendMode s) : SendsByRule s t := (NoNewSender.of_mode h).sendsByRule
theorem SendsByRule.of_view {s t : State} (h : view 268337146 t = view 268337146 s) : SendsByRule s t := (NoNewSender.of_view h).sendsByRule

/-- Every command, by what it touches: nothing that sending depends on; power, pair or buses in a way that leaves the mode; or the
mode itself. -/
theorem exec_sendsByRule {c : Instr} {s t : State} (h : exec c s = .next t) : SendsByRule s t := by
  cases c with
  | powerGood _ _ _ => exact (execPowerGood_noNewSender h).sendsByRule
  | withdrawal => exact (execWithdrawal_noNewSender h).sendsByRule
  | supplyLoss => exact (execSupplyLoss_noNewSender h).sendsByRule
  | referenceDetect _ => exact .of_mode (execReferenceDetect_mode h)
  | referenceLost _ => exact .of_view (execReferenceLost_view 268337146 _ s t (by decide) h)
  | refFreqCompare _ => exact .of_view (execRefFreqCompare_view 268337146 _ s t (by decide) h)
  | bypassRun _ => exact .of_mode (execBypassRun_mode h)
  | pllLock => exact .of_mode (execPllLock_mode h)
  | pllLockLost => exact .of_view (execPllLockLost_view 268337146 s t (by decide) h)
  | domainSwitchDone => exact .of_view (execDomainSwitchDone_view 268337146 s t (by decide) h)
  | domainSwitchTimeout => exact .of_view (execDomainSwitchTimeout_view 268337146 s t (by decide) h)
  | pllEnWrite _ => exact .of_view (execPllEnWrite_view 268337146 _ s t (by decide) h)
  | apply _ => exact .of_view (execApply_view 268337146 _ s t (by decide) h)
  | watchdogExpiry => exact (execWatchdogExpiry_noNewSender h).sendsByRule
  | clocklessHold => exact .of_mode (execClocklessHold_mode h)
  | referenceReturnRestart _ => exact (execReferenceReturnRestart_noNewSender h).sendsByRule
  | firmwareBoot _ => exact (execFirmwareBoot_noNewSender h).sendsByRule
  | ledgerScan => exact .of_mode (execLedgerScan_mode h)
  | ownershipArbitration => exact (execOwnershipArbitration_noNewSender h).sendsByRule
  | ryranEnumeration _ _ => exact .of_mode (execRyranEnumeration_mode h)
  | caravanEnumeration _ _ => exact .of_mode (execCaravanEnumeration_mode h)
  | stateRecordRestoreTimeout => exact .of_mode (execStateRecordRestoreTimeout_mode h)
  | joinDispatch => exact .of_mode (execJoinDispatch_mode h)
  | dualActiveResolved => exact (execDualActiveResolved_noNewSender h).sendsByRule
  | tickTrigger _ => exact .of_mode (execTickTrigger_mode h)
  | angleSourceTick _ => exact .of_mode (execAngleSourceTick_mode h)
  | virtualMainsEntry => exact .of_view (execVirtualMainsEntry_view 268337146 s t (by decide) h)
  | virtualMainsExit off => exact .of_view (execVirtualMainsExit_view 268337146 off s t (by decide) h)
  | waymarkReceived _ _ _ => exact .of_view (execWaymarkReceived_view 268337146 _ _ _ s t (by decide) h)
  | waymarkMissed _ => exact .of_view (execWaymarkMissed_view 268337146 _ s t (by decide) h)
  | unsynchronised => exact (execUnsynchronised_noNewSender h).sendsByRule
  | resynchronise _ => exact (execResynchronise_noNewSender h).sendsByRule
  | upstreamReturn => exact .of_view (execUpstreamReturn_view 268337146 s t (by decide) h)
  | successorBecomesSource => exact .of_mode (execSuccessorBecomesSource_mode h)
  | echoReq _ _ _ => exact .of_mode (execEchoReq_mode h)
  | echoRep _ _ _ => exact .of_view (execEchoRep_view 268337146 _ _ _ s t (by decide) h)
  | echoTimeout _ => exact .of_view (execEchoTimeout_view 268337146 _ s t (by decide) h)
  | hopRemeasure => exact .of_view (execHopRemeasure_view 268337146 s t (by decide) h)
  | loopTrace _ _ => exact .of_view (execLoopTrace_view 268337146 _ _ s t (by decide) h)
  | triggerSend _ _ => exact .of_view (execTriggerSend_view 268337146 _ _ s t (by decide) h)
  | snapSend _ => exact .of_view (execSnapSend_view 268337146 _ s t (by decide) h)
  | featureRec _ _ => exact .of_view (execFeatureRec_view 268337146 _ _ s t (by decide) h)
  | deliveryDeadline _ => exact .of_view (execDeliveryDeadline_view 268337146 _ s t (by decide) h)
  | transactionTimeout _ _ => exact .of_view (execTransactionTimeout_view 268337146 _ _ s t (by decide) h)
  | lostUnitPoll _ => exact .of_view (execLostUnitPoll_view 268337146 _ s t (by decide) h)
  | statusRep _ _ => exact .of_view (execStatusRep_view 268337146 _ _ s t (by decide) h)
  | statusPoll _ => exact .of_view (execStatusPoll_view 268337146 _ s t (by decide) h)
  | ack _ _ => exact .of_view (execAck_view 268337146 _ _ s t (by decide) h)
  | nak _ _ => exact .of_view (execNak_view 268337146 _ _ s t (by decide) h)
  | watchStream _ _ => exact .of_view (execWatchStream_view 268337146 _ _ s t (by decide) h)
  | tickSumSend _ => exact .of_view (execTickSumSend_view 268337146 _ s t (by decide) h)
  | tickSum _ _ _ => exact .of_mode (execTickSum_mode h)
  | wrapNotice _ _ => exact .of_view (execWrapNotice_view 268337146 _ _ s t (by decide) h)
  | ringLockLoss _ _ => exact .of_view (execRingLockLoss_view 268337146 _ _ s t (by decide) h)
  | ringTriggerTimeout _ _ => exact .of_view (execRingTriggerTimeout_view 268337146 _ _ s t (by decide) h)
  | ringRestore _ _ => exact .of_view (execRingRestore_view 268337146 _ _ s t (by decide) h)
  | compatReenum _ _ => exact .of_view (execCompatReenum_view 268337146 _ _ s t (by decide) h)
  | balanceRefresh _ => exact .of_view (execBalanceRefresh_view 268337146 _ s t (by decide) h)
  | bal12Refresh _ => exact .of_view (execBal12Refresh_view 268337146 _ s t (by decide) h)
  | faultLoopOpen _ => exact .of_view (execFaultLoopOpen_view 268337146 _ s t (by decide) h)
  | faultLoopClose _ => exact .of_view (execFaultLoopClose_view 268337146 _ s t (by decide) h)
  | openwireSchedule _ => exact .of_view (execOpenwireSchedule_view 268337146 _ s t (by decide) h)
  | openwireRep _ _ => exact .of_view (execOpenwireRep_view 268337146 _ _ s t (by decide) h)
  | isoOkChange _ _ => exact .of_view (execIsoOkChange_view 268337146 _ _ s t (by decide) h)
  | latchedLoRead _ _ => exact .of_view (execLatchedLoRead_view 268337146 _ _ s t (by decide) h)
  | calPoint _ _ _ _ _ => exact .of_view (execCalPoint_view 268337146 _ _ _ _ _ s t (by decide) h)
  | calPointDone _ _ => exact .of_view (execCalPointDone_view 268337146 _ _ s t (by decide) h)
  | calSolve _ _ _ => exact .of_view (execCalSolve_view 268337146 _ _ _ s t (by decide) h)
  | frameClose _ => exact .of_mode (execFrameClose_mode h)
  | currentVote _ => exact .of_view (execCurrentVote_view 268337146 _ s t (by decide) h)
  | sourceClear _ _ _ _ _ => exact .of_view (execSourceClear_view 268337146 _ _ _ _ _ s t (by decide) h)
  | tickPropagation => exact .of_view (execTickPropagation_view 268337146 s t (by decide) h)
  | dischargeStop _ => exact .of_view (execDischargeStop_view 268337146 _ s t (by decide) h)
  | frameUpdate => exact .of_mode (execFrameUpdate_mode h)
  | learningDurationExpiry _ => exact .of_view (execLearningDurationExpiry_view 268337146 _ s t (by decide) h)
  | referenceStarved _ => exact .of_view (execReferenceStarved_view 268337146 _ s t (by decide) h)
  | stateRecordCapture => exact .of_view (execStateRecordCapture_view 268337146 s t (by decide) h)
  | stateOffer _ _ _ _ => exact .of_mode (execStateOffer_mode h)
  | balanceReview => exact .of_view (execBalanceReview_view 268337146 s t (by decide) h)
  | thermalInputTimeout _ => exact .of_view (execThermalInputTimeout_view 268337146 _ s t (by decide) h)
  | thermalNodeLost _ => exact .of_view (execThermalNodeLost_view 268337146 _ s t (by decide) h)
  | dieReading _ => exact .of_view (execDieReading_view 268337146 _ s t (by decide) h)
  | dieTemp _ => exact .of_mode (execDieTemp_mode h)
  | tempHostWrite _ => exact .of_view (execTempHostWrite_view 268337146 _ s t (by decide) h)
  | controlLatch _ _ => exact .of_view (execControlLatch_view 268337146 _ _ s t (by decide) h)
  | slotInputTimeout _ => exact .of_view (execSlotInputTimeout_view 268337146 _ s t (by decide) h)
  | ctlBankReqWrite _ _ => exact .of_view (execCtlBankReqWrite_view 268337146 _ _ s t (by decide) h)
  | latClr _ => exact .of_view (execLatClr_view 268337146 _ s t (by decide) h)
  | ctlSwap _ _ _ => exact .of_view (execCtlSwap_view 268337146 _ _ _ s t (by decide) h)
  | ctlReadSlot _ _ => exact .of_view (execCtlReadSlot_view 268337146 _ _ s t (by decide) h)
  | phasorRecordForm => exact .of_view (execPhasorRecordForm_view 268337146 s t (by decide) h)
  | phasorRecord _ _ => exact .of_view (execPhasorRecord_view 268337146 _ _ s t (by decide) h)
  | vote => exact .of_view (execVote_view 268337146 s t (by decide) h)
  | holdingPeriodBoundary => exact .of_view (execHoldingPeriodBoundary_view 268337146 s t (by decide) h)
  | headroomSum _ _ => exact .of_view (execHeadroomSum_view 268337146 _ _ s t (by decide) h)
  | sumSendDeadline => exact .of_view (execSumSendDeadline_view 268337146 s t (by decide) h)
  | roundClose => exact .of_view (execRoundClose_view 268337146 s t (by decide) h)
  | fraction _ _ => exact .of_view (execFraction_view 268337146 _ _ s t (by decide) h)
  | fractionHoldExpiry => exact .of_view (execFractionHoldExpiry_view 268337146 s t (by decide) h)
  | planClose => exact .of_view (execPlanClose_view 268337146 s t (by decide) h)
  | holdSet _ _ _ _ => exact .of_view (execHoldSet_view 268337146 _ _ _ _ s t (by decide) h)
  | leadMove _ _ _ => exact .of_view (execLeadMove_view 268337146 _ _ _ s t (by decide) h)
  | leadMoveExecute => exact (execLeadMoveExecute_noNewSender h).sendsByRule
  | comparatorTrip _ _ => exact .of_view (execComparatorTrip_view 268337146 _ _ s t (by decide) h)
  | comparatorRelease _ _ => exact .of_view (execComparatorRelease_view 268337146 _ _ s t (by decide) h)
  | outriderTripReport _ => exact .of_view (execOutriderTripReport_view 268337146 _ s t (by decide) h)
  | blindString _ => exact .of_mode (execBlindString_mode h)
  | thresholdWrite _ _ => exact .of_view (execThresholdWrite_view 268337146 _ _ s t (by decide) h)
  | protectionBoundary => exact .of_view (execProtectionBoundary_view 268337146 s t (by decide) h)
  | comparatorProof _ _ => exact .of_view (execComparatorProof_view 268337146 _ _ s t (by decide) h)
  | coilTest _ => exact .of_mode (execCoilTest_mode h)
  | testOverdue _ _ _ => exact .of_view (execTestOverdue_view 268337146 _ _ _ s t (by decide) h)
  | contactorDropout _ _ _ => exact .of_mode (execContactorDropout_mode h)
  | comparatorTestDue _ => exact .of_view (execComparatorTestDue_view 268337146 _ s t (by decide) h)
  | stringOpen _ _ => exact .of_view (execStringOpen_view 268337146 _ _ s t (by decide) h)
  | openCurrentLow _ => exact (execOpenCurrentLow_noNewSender h).sendsByRule
  | weldCheck _ => exact .of_view (execWeldCheck_view 268337146 _ s t (by decide) h)
  | stringClose _ _ => exact .of_view (execStringClose_view 268337146 _ _ s t (by decide) h)
  | kNegSettled _ _ => exact .of_mode (execKNegSettled_mode h)
  | prechargeReached _ => exact .of_view (execPrechargeReached_view 268337146 _ s t (by decide) h)
  | prechargeFail _ => exact .of_view (execPrechargeFail_view 268337146 _ s t (by decide) h)
  | kPosSettled _ _ => exact .of_mode (execKPosSettled_mode h)
  | protReset _ _ _ => exact .of_view (execProtReset_view 268337146 _ _ _ s t (by decide) h)
  | coilSupply _ => exact .of_view (execCoilSupply_view 268337146 _ s t (by decide) h)
  | heartbeatAnswer _ _ => exact .of_mode (execHeartbeatAnswer_mode h)
  | heartbeatLate => exact .of_mode (execHeartbeatLate_mode h)
  | ownershipLineFree => exact .of_mode (execOwnershipLineFree_mode h)
  | ownerQualified => exact (execOwnerQualified_noNewSender h).sendsByRule
  | releaseOverlapEnd => exact .of_view (execReleaseOverlapEnd_view 268337146 s t (by decide) h)
  | releaseRetake => exact .of_mode (execReleaseRetake_mode h)
  | holdExpiry => exact .of_mode (execHoldExpiry_mode h)
  | holdAck => exact .of_mode (execHoldAck_mode h)
  | holdDrop _ => exact .of_view (execHoldDrop_view 268337146 _ s t (by decide) h)
  | takeover => exact (execTakeover_noNewSender h).sendsByRule
  | handover _ => exact .of_mode (execHandover_mode h)
  | orderlyRelease => exact (execOrderlyRelease_noNewSender h).sendsByRule
  | selfRelease _ _ => exact (execSelfRelease_noNewSender h).sendsByRule
  | ejectorOpen => exact .of_mode (execEjectorOpen_mode h)
  | partnerPresence _ => exact .of_mode (execPartnerPresence_mode h)
  | isolate _ => exact (execIsolate_noNewSender h).sendsByRule
  | rejoin _ => exact (execRejoin_noNewSender h).sendsByRule
  | peerStatus _ => exact (execPeerStatus_noNewSender h).sendsByRule
  | peerStatusSend => exact .of_view (execPeerStatusSend_view 268337146 s t (by decide) h)
  | peerLinkDown => exact .of_mode (execPeerLinkDown_mode h)
  | pairParamMismatch => exact .of_mode (execPairParamMismatch_mode h)
  | stateRec _ => exact .of_mode (execStateRec_mode h)
  | unitTable _ => exact .of_mode (execUnitTable_mode h)
  | hopComp _ => exact .of_mode (execHopComp_mode h)
  | holdState _ => exact .of_mode (execHoldState_mode h)
  | release _ => exact .of_mode (execRelease_mode h)
  | peerEchoReq _ _ => exact .of_mode (execPeerEchoReq_mode h)
  | peerEchoRep _ _ => exact .of_mode (execPeerEchoRep_mode h)
  | canFrame _ _ => exact (execCanFrame_noNewSender h).sendsByRule
  | rateDwellExpiry _ => exact .of_mode (execRateDwellExpiry_mode h)
  | rateSilentExpiry _ => exact (execRateSilentExpiry_noNewSender h).sendsByRule
  | basicCycleStart _ => exact execBasicCycleStart_sendsByRule h
  | canWindowStart _ _ _ => exact .of_mode (execCanWindowStart_mode h)
  | canTxDone _ _ => exact .of_mode (execCanTxDone_mode h)
  | canBusOff _ => exact (execCanBusOff_noNewSender h).sendsByRule
  | busOffRecovery _ => exact .of_mode (execBusOffRecovery_mode h)
  | canPost _ _ _ _ _ _ _ => exact .of_mode (execCanPost_mode h)
  | canCancel _ _ => exact .of_mode (execCanCancel_mode h)
  | perst _ _ => exact .of_view (execPerst_view 268337146 _ _ s t (by decide) h)
  | hostLinkDown _ _ => exact .of_view (execHostLinkDown_view 268337146 _ _ s t (by decide) h)
  | hostLinkUp _ _ _ => exact .of_view (execHostLinkUp_view 268337146 _ _ _ s t (by decide) h)
  | mbxDoorbell _ _ _ _ => exact .of_view (execMbxDoorbell_view 268337146 _ _ _ _ s t (by decide) h)
  | commandTimeout _ _ => exact .of_view (execCommandTimeout_view 268337146 _ _ s t (by decide) h)
  | longDone _ => exact .of_view (execLongDone_view 268337146 _ s t (by decide) h)
  | longResultExpiry _ => exact .of_view (execLongResultExpiry_view 268337146 _ s t (by decide) h)
  | nop _ => exact .of_view (execNop_view 268337146 _ s t (by decide) h)
  | identify _ => exact .of_view (execIdentify_view 268337146 _ s t (by decide) h)
  | longQuery _ _ => exact .of_view (execLongQuery_view 268337146 _ _ s t (by decide) h)
  | streamOpen _ _ _ _ _ => exact .of_view (execStreamOpen_view 268337146 _ _ _ _ _ s t (by decide) h)
  | streamClose _ _ => exact .of_view (execStreamClose_view 268337146 _ _ s t (by decide) h)
  | strmTailWrite _ _ _ => exact .of_view (execStrmTailWrite_view 268337146 _ _ _ s t (by decide) h)
  | descriptorFetchDone _ _ _ => exact .of_view (execDescriptorFetchDone_view 268337146 _ _ _ s t (by decide) h)
  | descriptorFetchFail _ _ _ => exact .of_view (execDescriptorFetchFail_view 268337146 _ _ _ s t (by decide) h)
  | descStarved _ _ => exact .of_view (execDescStarved_view 268337146 _ _ s t (by decide) h)
  | bufferWriteDone _ _ => exact .of_view (execBufferWriteDone_view 268337146 _ _ s t (by decide) h)
  | canrxFlush _ => exact .of_view (execCanrxFlush_view 268337146 _ s t (by decide) h)
  | capture _ _ => exact .of_view (execCapture_view 268337146 _ _ s t (by decide) h)
  | captureTrigger _ => exact .of_view (execCaptureTrigger_view 268337146 _ s t (by decide) h)
  | hostReadDeferred _ _ _ => exact .of_view (execHostReadDeferred_view 268337146 _ _ _ s t (by decide) h)
  | registerWrite _ _ _ => exact .of_mode (execRegisterWrite_mode h)
  | evMaskWrite _ _ _ => exact .of_view (execEvMaskWrite_view 268337146 _ _ _ s t (by decide) h)
  | ledgerRecordWrite _ _ => exact .of_view (execLedgerRecordWrite_view 268337146 _ _ s t (by decide) h)
  | evLast _ _ => exact .of_view (execEvLast_view 268337146 _ _ s t (by decide) h)
  | ledgerRead _ _ _ => exact .of_view (execLedgerRead_view 268337146 _ _ _ s t (by decide) h)
  | ledgerExport _ _ _ => exact .of_view (execLedgerExport_view 268337146 _ _ _ s t (by decide) h)
  | ledgerFreeze _ _ => exact .of_view (execLedgerFreeze_view 268337146 _ _ s t (by decide) h)
  | ledgerUnfreeze _ => exact .of_view (execLedgerUnfreeze_view 268337146 _ s t (by decide) h)
  | freezeExpiry => exact .of_view (execFreezeExpiry_view 268337146 s t (by decide) h)
  | ledgerClear _ _ => exact .of_view (execLedgerClear_view 268337146 _ _ s t (by decide) h)
  | ledgerInfo _ => exact .of_view (execLedgerInfo_view 268337146 _ s t (by decide) h)
  | evTest _ _ => exact .of_view (execEvTest_view 268337146 _ _ s t (by decide) h)
  | parRead _ _ _ _ _ => exact .of_view (execParRead_view 268337146 _ _ _ _ _ s t (by decide) h)
  | parWrite _ _ => exact .of_view (execParWrite_view 268337146 _ _ s t (by decide) h)
  | commit _ => exact .of_view (execCommit_view 268337146 _ s t (by decide) h)
  | parDiscard _ => exact .of_view (execParDiscard_view 268337146 _ s t (by decide) h)
  | persistenceDone _ => exact .of_view (execPersistenceDone_view 268337146 _ s t (by decide) h)
  | safetyScan => exact (execSafetyScan_noNewSender (s := s) h).sendsByRule
  | updOpen _ _ _ _ _ _ => exact .of_view (execUpdOpen_view 268337146 _ _ _ _ _ _ s t (by decide) h)
  | updBlock hd offset addr crc data => exact .of_view (execUpdBlock_view 268337146 hd offset addr crc data s t (by decide) h)
  | updVerify _ => exact .of_view (execUpdVerify_view 268337146 _ s t (by decide) h)
  | updSchedule _ _ => exact .of_view (execUpdSchedule_view 268337146 _ _ s t (by decide) h)
  | updCancel _ _ => exact .of_view (execUpdCancel_view 268337146 _ _ s t (by decide) h)
  | updConfirm _ _ => exact .of_view (execUpdConfirm_view 268337146 _ _ s t (by decide) h)
  | updClose _ => exact .of_view (execUpdClose_view 268337146 _ s t (by decide) h)
  | updInfo _ => exact .of_view (execUpdInfo_view 268337146 _ s t (by decide) h)
  | activation => exact (execActivation_noNewSender h).sendsByRule
  | confirmWindowExpiry => exact (execConfirmWindowExpiry_noNewSender h).sendsByRule
  | caravanReenum _ _ _ _ => exact .of_view (execCaravanReenum_view 268337146 _ _ _ _ s t (by decide) h)
  | compatibilityReply _ _ => exact .of_view (execCompatibilityReply_view 268337146 _ _ s t (by decide) h)
  | partnerReadyChange _ => exact .of_mode (execPartnerReadyChange_mode h)
  | ownershipLineAsserted _ => exact .of_mode (execOwnershipLineAsserted_mode h)
  | dieTempSend => exact .of_view (execDieTempSend_view 268337146 s t (by decide) h)
  | pcieError _ _ _ => exact .of_view (execPcieError_view 268337146 _ _ _ s t (by decide) h)
  | activationOpenTimeout => exact (execActivationOpenTimeout_noNewSender h).sendsByRule
  | chargePumpStep => exact .of_view (execChargePumpStep_view 268337146 s t (by decide) h)

/-- Settles O51: the invariant is kept by the command at the front of the queue, which the queue's rest does not concern. -/
theorem onlyAnActiveModuleSends : Obligations.OnlyAnActiveModuleSends := by
  unfold Obligations.OnlyAnActiveModuleSends
  intro s t before ran
  unfold step at ran
  split at ran
  · cases ran
    exact before
  · exact (exec_sendsByRule ran).invariant before

/-- Settles O53: the first clause is what every command keeps; a role that is not active finds both buses silent by the invariant. -/
theorem scheduledOnlyOnAnActiveModule : Obligations.ScheduledOnlyOnAnActiveModule := by
  unfold Obligations.ScheduledOnlyOnAnActiveModule
  refine ⟨fun c s t b ran before after => (exec_sendsByRule ran).scheduled b before after, fun c s t before ran _ inactive => ?_⟩
  rw [← onlyActiveSends_of_inactive (by simpa [isActive] using inactive)]
  exact (exec_sendsByRule ran).invariant before

end Sys2Proof.Proofs

/-! PROOFS. The commands that take, give up and hand over the active role (R33, R350 to R353, R359, R360, R403): what the operations
they share do to the role, the line, the request and the ports, then one theorem per command. -/

namespace Sys2Proof.Proofs

open Sys2Proof Sys2Proof.Machine Sys2Proof.Laws

/-! ### The ports, as far as answers see them -/

/-- The ports without their signals: what decides whether a command's answer is written, and where. -/
def ports (s : State) : Two PortState := (hostRest s.host).port

theorem ports_of_view {m : Nat} {s t : State} (e : view m t = view m s) (h : m / 262144 % 2 = 1 → False) : ports t = ports s :=
  congrArg HostBlock.port (same_host e h)

theorem portRest_of_ports {s t : State} (e : ports t = ports s) (p : Ix) :
    portRest (t.host.port.get p) = portRest (s.host.port.get p) := by
  have rest : t.host.port.map portRest = s.host.port.map portRest := e
  cases p
  · exact congrArg Two.zero rest
  · exact congrArg Two.one rest

theorem portUp_of_ports {s t : State} (e : ports t = ports s) (p : Ix) : portUp t p = portUp s p :=
  (congrArg PortState.up (portRest_of_ports e p) :)

theorem alone_of_ports {s t : State} (e : ports t = ports s) (h : Hdr) : alone t h = alone s h := by
  have rings : (t.host.port.get h.port).rings = (s.host.port.get h.port).rings :=
    (congrArg PortState.rings (portRest_of_ports e h.port) :)
  unfold alone mbxRing
  rw [rings]

/-- OK is the answer to a command also when the work done for it has touched no port. -/
theorem respondOk_answered_of_ports {s t : State} {h : Hdr} (op : Nat) (payload : List Byte) (e : ports t = ports s)
    (ready : hostReady s h = true) (only : alone s h = true) : answered (respondOk t h op payload) h op .ok 0 0 payload :=
  respondOk_answered t h op payload ((portUp_of_ports e h.port).trans (hostReady_portUp ready)) ((alone_of_ports e h).trans only)

/-! ### Giving up a role -/

theorem endLongs_ports (ids : List Nat) (s : State) : ports (ids.foldl (fun s i => endLong s i .failed 0 []) s) = ports s := by
  induction ids generalizing s with
  | nil => rfl
  | cons i ids ih => rw [List.foldl_cons, ih]; rfl

theorem dropReqs_ports (s : State) (x : Ix) : ports (dropReqs s x) = ports s := ports_of_view (m := 8192) (by simp) (by decide)

theorem abortClose_ports (s : State) (x : Ix) (cause : Nat) : ports (abortClose s x cause) = ports s := by
  unfold abortClose
  split
  · rfl
  · exact dropReqs_ports _ x

/-- The ends of sequences and of their long commands reach the records of the commands, not the ports. -/
theorem endSequences_ports (s : State) (x : Ix) : ports (endSequences s x) = ports s := by
  have aborted := abortClose_ports s x 3
  have owned (t : State) : ports (ownState t x .opened 8) = ports t := ports_of_view (m := 201990144) (by simp) (by decide)
  unfold endSequences
  dsimp only
  rw [endLongs_ports]
  show ports (if _ then _ else _) = _
  split
  · exact (owned _).trans aborted
  · exact aborted

theorem endSequences_outr (s : State) (x : Ix) : (endSequences s x).outr = s.outr := same_outr (m := 202252288) (by simp) (by decide)
theorem canSilent_outr (s : State) : (canSilent s).outr = s.outr := same_outr (m := 202047488) (by simp) (by decide)
theorem setHold_outr (s : State) (m : HoldMode) (cause : Nat) : (setHold s m cause).outr = s.outr :=
  same_outr (m := 201986048) (by simp) (by decide)
theorem setRole_outr (s : State) (r : Role) : (setRole s r).outr = s.outr := same_outr (m := 557056) (by simp) (by decide)
theorem stopEngines_outr (s : State) : (stopEngines s).outr = s.outr := same_outr (m := 201997216) (by simp) (by decide)
theorem setSeed_outr (s : State) (b : Bool) : (setSeed s b).outr = s.outr := same_outr (m := 524544) (by simp) (by decide)

/-- The line is still held as it was when the buses and the engines have ended (R44). -/
theorem stepDown_outr (s : State) (role : Role) : (stepDown s role).outr = { s.outr with block := false } := by
  unfold stepDown
  dsimp only
  by_cases was : isActive s = true
  · simp only [was, if_true, stopEngines_outr, setRole_outr, setHold_outr, canSilent_outr, endSequences_outr]
  · simp only [was, if_false, apply_ite State.outr, setSeed_outr, setRole_outr, canSilent_outr, ite_self, Bool.false_eq_true]

theorem stepDown_ports (s : State) (role : Role) : ports (stepDown s role) = ports s := by
  have silent (t : State) : ports (canSilent t) = ports t := ports_of_view (m := 202047488) (by simp) (by decide)
  have off (t : State) : ports (setHold t .off 2) = ports t := ports_of_view (m := 201986048) (by simp) (by decide)
  have roleSet (t : State) (g : GridState) (o : OutrState) : ports (setRole { t with grid := g, outr := o } role) = ports t :=
    ports_of_view (m := 573456) (by simp) (by decide)
  have stopped (t : State) : ports (stopEngines t) = ports t := ports_of_view (m := 201997216) (by simp) (by decide)
  have seedSet (t : State) : ports (setSeed t false) = ports t := ports_of_view (m := 524544) (by simp) (by decide)
  unfold stepDown
  dsimp only
  by_cases was : isActive s = true
  · simp only [was, if_true, stopped, roleSet, off, silent, endSequences_ports]
  · simp only [was, if_false, apply_ite ports, seedSet, roleSet, silent, ite_self, Bool.false_eq_true]

/-- R342, R352: the line is free, and the outrider drives on in the release overlap. -/
def lineReleased (o : OutrState) : Prop := o.owner = false ∧ o.line = .free ∧ o.overlap = true

theorem releaseLine_released (s : State) : lineReleased (releaseLine s).outr := by
  have judged (t : State) : ∃ b, (judgeBlock t).outr = { t.outr with block := b } := by
    unfold judgeBlock
    split
    · exact ⟨true, by simp⟩
    · exact ⟨t.outr.block, rfl⟩
  have read (t : State) : (readPartner t).outr = t.outr := same_outr (m := 8192) (by simp) (by decide)
  have settled (t : State) : (settleCoils t).outr = t.outr := same_outr (m := 8192) (by simp) (by decide)
  unfold releaseLine
  dsimp only
  obtain ⟨b, block⟩ := judged (readPartner (settleCoils _))
  rw [block, read, settled]
  exact ⟨rfl, rfl, rfl⟩

theorem giveUp_released {s : State} (role : Role) (owner : s.outr.owner = true) : lineReleased (giveUp s role).outr := by
  have held : (stepDown s role).outr.owner = true := by rw [stepDown_outr]; exact owner
  rw [giveUp_eq, dropReqs_outr, dropReqs_outr, held, Bool.true_or, if_pos rfl]
  exact releaseLine_released _

/-- No module owns the line after it gave up its role. -/
theorem giveUp_owner (s : State) (role : Role) : (giveUp s role).outr.owner = false := by
  rw [giveUp_eq, dropReqs_outr, dropReqs_outr]
  split
  · exact (releaseLine_released _).1
  · next free => exact (Bool.or_eq_false_iff.mp (Bool.eq_false_iff.mpr free)).1

theorem giveUp_elec (s : State) (role : Role) : (giveUp s role).elec = s.elec := same_elec (m := 202374064) (by simp) (by decide)
theorem giveUp_upd (s : State) (role : Role) : (giveUp s role).upd = s.upd := whole_upd (m := 202374064) (by simp) (by decide) (by decide)

theorem giveUp_ports (s : State) (role : Role) : ports (giveUp s role) = ports s := by
  have released (t : State) : ports (releaseLine t) = ports t := ports_of_view (m := 202039296) (by simp) (by decide)
  rw [giveUp_eq, dropReqs_ports, dropReqs_ports]
  split
  · exact (released _).trans (stepDown_ports s role)
  · exact stepDown_ports s role

theorem goIsolated_isolation (s : State) (reason : Nat) : (goIsolated s reason).elec.isolation = reason := rfl
theorem goIsolated_selfTestOk (s : State) (reason : Nat) : (goIsolated s reason).elec.selfTestOk = s.elec.selfTestOk := by
  show (giveUp s .isolated).elec.selfTestOk = _
  rw [giveUp_elec]
theorem goIsolated_owner (s : State) (reason : Nat) : (goIsolated s reason).outr.owner = false := giveUp_owner s .isolated
theorem goIsolated_ports (s : State) (reason : Nat) : ports (goIsolated s reason) = ports s := giveUp_ports s .isolated

/-! ### Taking the role -/

/-- Beginning as angle source may change what the numbering rests on (R67), but not the power-up step. -/
theorem becomeHead_step (s : State) (cause : Nat) : (becomeHead s cause).elec.step = s.elec.step := by
  have budget (t : State) (d : Nat) : (budgetCheck t d).elec = t.elec := same_elec (m := 201986064) (by simp) (by decide)
  have leads (t : State) : (setHold t .lead cause).elec = t.elec := same_elec (m := 201986048) (by simp) (by decide)
  unfold becomeHead
  split
  · rfl
  · simp only [apply_ite State.elec, leads, budget, ite_self]

theorem becomeHead_pair (s : State) (cause : Nat) : (becomeHead s cause).pair = s.pair := same_pair (m := 201986068) (by simp) (by decide)
theorem takeHoldCopy_pair (s : State) : (takeHoldCopy s).pair = s.pair := same_pair (m := 4096) (by simp) (by decide)
theorem takeHoldCopy_elec (s : State) : (takeHoldCopy s).elec = s.elec := same_elec (m := 4096) (by simp) (by decide)
theorem setHold_elec (s : State) (m : HoldMode) (cause : Nat) : (setHold s m cause).elec = s.elec :=
  same_elec (m := 201986048) (by simp) (by decide)

theorem takeUpLinks_pair (s : State) (headPos : Bool) : (takeUpLinks s headPos).pair = s.pair := by
  simp only [takeUpLinks, apply_ite State.pair, setHold_pair, becomeHead_pair, takeHoldCopy_pair, ite_self]

theorem takeUpLinks_step (s : State) (headPos : Bool) : (takeUpLinks s headPos).elec.step = s.elec.step := by
  simp only [takeUpLinks, apply_ite State.elec, apply_ite ElecState.step, setHold_elec, becomeHead_step, takeHoldCopy_elec, ite_self]

theorem becomeActive_pair (s : State) : (becomeActive s).pair = { s.pair with role := .active } := by
  have buses (t : State) : (canActiveBoth t).pair = t.pair := same_pair (m := 202047488) (by simp) (by decide)
  rw [becomeActive_eq, buses, takeUpLinks_pair, tookRole, setRole_pair]

theorem becomeActive_step (s : State) : (becomeActive s).elec.step = 12 := by
  have buses (t : State) : (canActiveBoth t).elec = t.elec := same_elec (m := 202047488) (by simp) (by decide)
  rw [becomeActive_eq, buses, takeUpLinks_step, tookRole, setRole_elec]

/-- Of what the pair knows, the restore of a new active sets the cycle of the record it used (R225, R357). -/
theorem restoreTakeover_pair (s : State) : ∃ c, (restoreTakeover s).pair = { s.pair with recCycle := c } := by
  have loaded (t : State) (b : List Byte) (age : Option Rat) (source : Nat) : (loadRecord t b age source).pair = t.pair :=
    same_pair (m := 201982240) (by simp) (by decide)
  have bridged (c : Nat) (xs : List Ix) (t : State) : (xs.foldl (fun s x => bridge s x c) t).pair = t.pair := by
    induction xs generalizing t with
    | nil => rfl
    | cons x xs ih => rw [List.foldl_cons, ih]; exact same_pair (m := 256) (by simp) (by decide)
  unfold restoreTakeover
  split
  · exact ⟨s.pair.recCycle, rfl⟩
  · dsimp only
    split
    · exact ⟨_, by rw [bridged, loaded]⟩
    · exact ⟨_, by rw [loaded]⟩

theorem takeUpEngines_pair (s : State) : ∃ c, (takeUpEngines s).pair = { s.pair with recCycle := c } := by
  have started (t : State) : (startDemands (startSlots t)).pair = t.pair := rfl
  have balanced (t : State) (x : Ix) : (balanceZero t x).pair = t.pair := same_pair (m := 67108896) (by simp) (by decide)
  obtain ⟨c, restored⟩ := restoreTakeover_pair (startDemands (startSlots s))
  refine ⟨c, ?_⟩
  simp only [takeUpEngines, takeUpEstimates, balanced, apply_ite State.pair, ite_self, restored, started]

theorem takeUpEngines_elec (s : State) : (takeUpEngines s).elec = s.elec := by
  have restored (t : State) : (takeUpEstimates t).elec = t.elec := same_elec (m := 202015008) (by simp) (by decide)
  have balanced (t : State) (x : Ix) : (balanceZero t x).elec = t.elec := same_elec (m := 67108896) (by simp) (by decide)
  simp only [takeUpEngines, balanced, restored, startDemands, startSlots]

theorem tookOver_pair (s : State) : (tookOver s).pair.role = .active ∧ (tookOver s).pair.takeover = true ∧
    (tookOver s).pair.takeoverCnt = sat 0xFF (s.pair.takeoverCnt + 1) := by
  obtain ⟨c, engines⟩ := takeUpEngines_pair (becomeActive { s with pair := { s.pair with recCycle := 0 } })
  simp only [tookOver, noteTakeover, engines, becomeActive_pair, and_self]

theorem tookOver_step (s : State) : (tookOver s).elec.step = 12 := by
  simp only [tookOver, noteTakeover, takeUpEngines_elec, becomeActive_step]

/-- R353, R354: TAKEOVER makes the owner active and reports it. -/
theorem takeover_takesRole {s : State} (run : running s = true) (owner : s.outr.owner = true) (role : s.pair.role = .standby)
    (step : 7 ≤ s.elec.step) :
    runs .takeover s fun t => t.pair.role = .active ∧ t.elec.step = 12 ∧ t.pair.takeover = true ∧
      t.pair.takeoverCnt = sat 0xFF (s.pair.takeoverCnt + 1) ∧ (newest t 44).isSome = true := by
  obtain ⟨data, outcome⟩ := execTakeover_eq s
  obtain ⟨active, noted, counted⟩ := tookOver_pair s
  have may : mayTakeOver s = true := by simp [mayTakeOver, run, owner, role, step]
  rw [may] at outcome
  refine ⟨_, outcome, ?_⟩
  simp [active, noted, counted, tookOver_step]

/-! ### Orderly releases -/

theorem requestRelease_of_none {s : State} (none : s.pair.req = none) (cause : Nat) (ids : List Nat) :
    requestRelease s cause ids =
      emit { s with pair := { s.pair with req := some { cause := cause, at_ := releaseAt s, ids := ids, gone := false } } }
        (.peer 0x36 (releaseBytes cause (releaseAt s))) := by
  simp only [requestRelease, none]

theorem requestRelease_requested (s : State) (cause : Nat) (ids : List Nat) : (requestRelease s cause ids).pair.req.isSome = true := by
  unfold requestRelease; split <;> rfl

theorem requestRelease_eject (s : State) (cause : Nat) (ids : List Nat) : (requestRelease s cause ids).pair.eject = s.pair.eject := by
  unfold requestRelease; split <;> rfl

theorem releaseAt_acceptLong (s : State) (h : Hdr) (op : Nat) : releaseAt (acceptLong s h op).2 = releaseAt s := by
  simp only [releaseAt, holdPeriod, parN, acceptLong_grid, acceptLong_ident, acceptLong_par]

/-- R352: an accepted HANDOVER names the boundary of the release to the partner. -/
theorem handover_requestsRelease {s : State} {h : Hdr} (ready : hostReady s h = true) (only : alone s h = true)
    (owner : s.outr.owner = true) (active : isActive s = true) (fit : partnerFit s = true) (idle : s.pair.req = none) :
    runs (.handover h) s fun t => ∃ id, answered t h 0x0020 .accepted 0 id [] ∧
      t.pair.req = some { cause := 3, at_ := releaseAt s, ids := [id], gone := false } ∧
      Out.peer 0x36 (releaseBytes 3 (releaseAt s)) ∈ t.sent := by
  have outcome : exec (.handover h) s = .next (requestRelease (acceptLong s h 0x0020).2 3 [(acceptLong s h 0x0020).1]) := by
    show execHandover h s = _
    simp [execHandover, ready, owner, active, fit]
  have accepted := acceptLong_answered s h 0x0020 (hostReady_portUp ready) only
  rw [requestRelease_of_none (by rw [acceptLong_pair]; exact idle), releaseAt_acceptLong] at outcome
  exact ⟨_, outcome, _, answered_host rfl accepted, rfl, List.mem_append_right _ (List.mem_singleton_self _)⟩

/-- R352: at its boundary the owner releases the line and becomes standby. -/
theorem orderlyRelease_releases {s : State} {q : ReleaseReq} (run : running s = true) (active : isActive s = true)
    (owner : s.outr.owner = true) (requested : s.pair.req = some q) (waits : q.gone = false)
    (due : s.grid.on = false ∨ q.at_ ≤ s.grid.now) (stays : s.upd.leaving = none) :
    runs .orderlyRelease s fun t => t.pair.role = .standby ∧ t.outr.owner = false ∧ t.outr.line = .free ∧ t.outr.overlap = true ∧
      t.pair.req = some { q with gone := true } := by
  have outcome : exec .orderlyRelease s =
      .next { giveUp s .standby with pair := { (giveUp s .standby).pair with req := some { q with gone := true } } } := by
    show execOrderlyRelease s = _
    simp [execOrderlyRelease, requested, run, active, owner, waits, due, giveUp_upd, stays]
  obtain ⟨free, line, overlap⟩ := giveUp_released .standby owner
  exact ⟨_, outcome, giveUp_role s .standby, free, line, overlap, rfl⟩

/-- R351: a failed runtime self-test releases at once, and the module is isolated. -/
theorem selfTest_isolates {s : State} {x : Ix} (run : running s = true) :
    runs (.selfRelease .selfTest x) s fun t => t.pair.role = .isolated ∧ t.elec.isolation = 2 ∧ t.elec.selfTestOk = false ∧
      t.outr.owner = false := by
  have outcome : exec (.selfRelease .selfTest x) s = .next (failSelfTest s) := by
    show execSelfRelease .selfTest x s = _
    simp [execSelfRelease, run]
  refine ⟨_, outcome, goIsolated_role _ 2, goIsolated_isolation _ 2, ?_, goIsolated_owner _ 2⟩
  unfold failSelfTest
  rw [goIsolated_selfTestOk]
  dsimp only
  split <;> rfl

/-- R351: another finding of an active owner requests an orderly release. -/
theorem selfFinding_requestsRelease {s : State} {f : SelfFinding} {x : Ix} (run : running s = true) (active : isActive s = true)
    (other : f ≠ .selfTest) (owner : s.outr.owner = true) (enabled : testBit (parN s 0x0C02) f.bitNo = true) (fit : partnerFit s = true)
    (holds : selfFindingHolds s f x = true) : runs (.selfRelease f x) s fun t => t.pair.req.isSome = true := by
  have outcome : exec (.selfRelease f x) s = .next (requestRelease s 2 []) := by
    show execSelfRelease f x s = _
    simp [execSelfRelease, run, active, other, owner, enabled, fit, holds]
  exact ⟨_, outcome, requestRelease_requested s 2 []⟩

/-- R360: an opened ejector is noted, and requests an orderly release where par 0x0C:04 asks for it. -/
theorem ejectorOpen_requestsRelease {s : State} (powered : s.elec.powered = true) :
    runs .ejectorOpen s fun t => t.pair.eject = true ∧
      (running s = true → isActive s = true → s.outr.owner = true → parN s 0x0C04 = 1 → partnerFit s = true →
        t.pair.req.isSome = true) := by
  have outcome : exec .ejectorOpen s = .next (
      let o : State := { s with pair := { s.pair with eject := true } }
      if running s && isActive s && s.outr.owner && parN s 0x0C04 == 1 then
        (if partnerFit s then requestRelease o 5 [] else refuseRelease { o with pair := { o.pair with ejectRefused := true } } 5)
      else o) := by
    show execEjectorOpen s = _
    unfold execEjectorOpen
    rw [powered]
    rfl
  refine ⟨_, outcome, ?_, fun run active owner asked fit => ?_⟩
  · dsimp only
    split
    · split
      · exact requestRelease_eject _ 5 []
      · rw [refuseRelease, raise_pair]
    · rfl
  · simpa [run, active, owner, asked, fit] using requestRelease_requested { s with pair := { s.pair with eject := true } } 5 []

/-! ### The partner's presence, ISOLATE and REJOIN -/

theorem powered_of_running {s : State} (run : running s = true) : s.elec.powered = true := by
  simp only [running, clocked, Bool.and_eq_true] at run
  exact run.1.1.1

theorem lineFault_present (s : State) (line : OwnLine) : (lineFault s line).pair.present = s.pair.present := by
  have raised (t : State) (e : Nat) (d : List Byte) : (raiseOrDefer t e d).pair = t.pair := same_pair (m := 201981952) (by simp) (by decide)
  rw [lineFault, raised]

theorem lineFault_newest_presence (s : State) (line : OwnLine) : newest (lineFault s line) 46 = newest s 46 := by
  unfold lineFault raiseOrDefer
  split
  · exact raise_newest_other _ 48 46 _ (by decide) (by decide) (by decide)
  · rfl

/-- R359: a change of the partner's presence raises EV 046, which a line fault found with it leaves. -/
theorem partnerPresence_noted {s : State} {b : Bool} (run : running s = true) (changed : s.pair.present ≠ b) :
    runs (.partnerPresence b) s fun t => t.pair.present = b ∧
      newest t 46 = some (ub b ++ u8 ((s.pair.peer.map (·.role)).getD 0)) := by
  have outcome : exec (.partnerPresence b) s = .next (
      let t := raise { s with pair := { s.pair with present := b } } 46 (ub b ++ u8 ((s.pair.peer.map (·.role)).getD 0))
      if lineFaulty t t.outr.line && !t.pair.lineFault then lineFault t t.outr.line else t) := by
    have on : s.elec.powered = true := powered_of_running run
    have running' : running { s with pair := { s.pair with present := b } } = true := run
    show execPartnerPresence b s = _
    simp [execPartnerPresence, on, changed, raiseOrDefer, running']
  refine ⟨_, outcome, ?_⟩
  dsimp only
  split
  · exact ⟨by rw [lineFault_present, raise_pair], by rw [lineFault_newest_presence, raise_newest]⟩
  · exact ⟨by rw [raise_pair], raise_newest _ 46 _⟩

/-- R33, R403: ISOLATE is answered OK and isolates. -/
theorem isolate_isolates {s : State} {h : Hdr} (ready : hostReady s h = true) (only : alone s h = true)
    (role : s.pair.role ≠ .isolated) :
    runs (.isolate h) s fun t => answered t h 0x0021 .ok 0 0 [] ∧ t.pair.role = .isolated ∧ t.elec.isolation = 3 := by
  have outcome : exec (.isolate h) s = .next (respondOk (goIsolated s 3) h 0x0021 []) := by
    show execIsolate h s = _
    simp [execIsolate, ready, role]
  refine ⟨_, outcome, respondOk_answered_of_ports 0x0021 [] (goIsolated_ports s 3) ready only, ?_, ?_⟩
  · rw [respondOk_pair, goIsolated_role]
  · rw [respondOk_elec, goIsolated_isolation]

/-- R33, R403: REJOIN is answered OK and brings the role standby once the cause of isolation has cleared. -/
theorem rejoin_rejoins {s : State} {h : Hdr} (ready : hostReady s h = true) (only : alone s h = true) (role : s.pair.role = .isolated)
    (agreed : s.pair.peer = none ∨ s.pair.variantMatch = true) (selfTest : s.elec.selfTestOk = true) :
    runs (.rejoin h) s fun t => answered t h 0x0022 .ok 0 0 [] ∧ t.pair.role = .standby ∧ t.elec.isolation = 0 := by
  have outcome : exec (.rejoin h) s =
      .next (respondOk (takeFreeLine (setRole { s with elec := { s.elec with isolation := 0 } } .standby)) h 0x0022 []) := by
    show execRejoin h s = _
    obtain unknown | alike := agreed
    · simp [execRejoin, ready, role, selfTest, unknown]
    · simp [execRejoin, ready, role, selfTest, alike]
  have untouched : ports (takeFreeLine (setRole { s with elec := { s.elec with isolation := 0 } } .standby)) = ports s :=
    ports_of_view (m := 202039300) (by simp) (by decide)
  have line (t : State) : (takeFreeLine t).elec = t.elec := same_elec (m := 202039296) (by simp) (by decide)
  refine ⟨_, outcome, respondOk_answered_of_ports 0x0022 [] untouched ready only, ?_, ?_⟩
  · rw [respondOk_pair, role_of_mode (takeFreeLine_mode _), setRole_pair]
  · rw [respondOk_elec, line, setRole_elec]

/-- Settles O22: one theorem above for each clause, in the order of the commands. -/
theorem roleCommandsTakeEffect : Obligations.RoleCommandsTakeEffect := by
  unfold Obligations.RoleCommandsTakeEffect
  refine ⟨?takeover, ?handover, ?orderly, ?selfTest, ?finding, ?ejector, ?presence, ?isolate, ?rejoin⟩
  case takeover => exact fun s run owner role step => takeover_takesRole run owner role step
  case handover => exact fun s h ready only owner active fit idle => handover_requestsRelease ready only owner active fit idle
  case orderly => exact fun s q run active owner requested waits due stays =>
    orderlyRelease_releases run active owner requested waits due stays
  case selfTest => exact fun s x run _ => selfTest_isolates run
  case finding => exact fun s f x run active other owner enabled fit holds =>
    selfFinding_requestsRelease run active other owner enabled fit holds
  case ejector => exact fun s powered => ejectorOpen_requestsRelease powered
  case presence => exact fun s b run changed => partnerPresence_noted run changed
  case isolate => exact fun s h ready only role => isolate_isolates ready only role
  case rejoin => exact fun s h ready only role agreed selfTest => rejoin_rejoins ready only role agreed selfTest

end Sys2Proof.Proofs

/-! PROOFS. The clocks (R52 to R63, R248, R499): what a write of CLK_CTRL and a completed switch of a domain do to the clock state, the
commands of references, PLL and domains, and the dividers in force over every command. -/

namespace Sys2Proof.Proofs

open Sys2Proof Sys2Proof.Machine Sys2Proof.Laws

/-! ### Bits of a register word -/

theorem testBit_eq (n i : Nat) : testBit n i = n.testBit i := by
  simp only [testBit, Nat.testBit_eq_decide_div_mod_eq, Nat.shiftRight_eq_div_pow, beq_eq_decide]

/-- APPLY = 1 leaves PLL_EN. -/
theorem testBit_or_apply_zero (w : Nat) : testBit (w ||| 4) 0 = testBit w 0 := by
  simp [testBit_eq]
theorem testBit_or_apply_two (w : Nat) : testBit (w ||| 4) 2 = true := by
  simp [testBit_eq, show Nat.testBit 4 2 = true from rfl]

/-! ### The clock state in the state -/

theorem noteIf_clk (s : State) (c : Bool) (k : ModeKind) (v : Nat) : (noteIf s c k v).clk = s.clk := by unfold noteIf; split <;> rfl
@[simp] theorem setClk_clk (s : State) (c : ClkState) : (setClk s c).clk = c := noteIf_clk _ _ _ _

/-- A loss of lock may stop the stepping of the charge pump, and nothing else of the clocks. -/
theorem pumpStop_clk (was : Bool) (s : State) : ∃ b, (pumpStop was s).clk = { s.clk with pumpWait := b } := by
  unfold pumpStop
  split
  · exact ⟨true, rfl⟩
  · exact ⟨s.clk.pumpWait, rfl⟩

/-! ### A domain's switch -/

theorem setDom_onPll (c : ClkState) (d : Domain) (pll : Bool) : (c.setDom d pll).onPll d = pll := by cases d <;> rfl

/-- What the end of a switch leaves of the clock state, whether or not it is the last of the queue. -/
theorem finishSwitch_cons {c : ClkState} {d : Domain} {pll : Bool} {rest : List DomSwitch} (queue : c.queue = ⟨d, pll⟩ :: rest) :
    ∃ bypass sel move applying acting, finishSwitch c =
      { c.setDom d pll with
        queue := rest, bypass := bypass, sel := sel, refMove := move, applying := applying, divActing := acting } ∧
      (acting = c.divActing ∨ c.applying = true ∧ applying = false ∧ acting = c.divTaken) := by
  have domain : (c.setDom d pll).applying = c.applying ∧ (c.setDom d pll).divActing = c.divActing ∧
      (c.setDom d pll).divTaken = c.divTaken := by cases d <;> exact ⟨rfl, rfl, rfl⟩
  obtain ⟨applying, acting, taken⟩ := domain
  unfold finishSwitch
  rw [queue]
  dsimp only
  split
  · exact ⟨_, _, _, _, _, rfl, .inl acting⟩
  · cases (c.setDom d pll).refMove
    all_goals
      dsimp only
      split
      · next applies => exact ⟨_, _, _, _, _, rfl, .inr ⟨applying ▸ applies, rfl, taken⟩⟩
      · exact ⟨_, _, _, _, _, rfl, .inl acting⟩

theorem finishSwitch_onPll {c : ClkState} {d : Domain} {pll : Bool} {rest : List DomSwitch} (queue : c.queue = ⟨d, pll⟩ :: rest) :
    (finishSwitch c).onPll d = pll := by
  obtain ⟨_, _, _, _, _, done, -⟩ := finishSwitch_cons queue
  rw [done]
  exact (by cases d <;> rfl : ClkState.onPll _ d = (c.setDom d pll).onPll d).trans (setDom_onPll c d pll)

theorem finishSwitch_queue {c : ClkState} {d : Domain} {pll : Bool} {rest : List DomSwitch} (queue : c.queue = ⟨d, pll⟩ :: rest) :
    (finishSwitch c).queue = rest := by
  obtain ⟨_, _, _, _, _, done, -⟩ := finishSwitch_cons queue
  rw [done]

/-! ### A write of CLK_CTRL -/

/-- The clock state as a write of CLK_CTRL leaves it before APPLY: REF_PREF held, PLL_EN acting (R499). -/
def pllWritten (c : ClkState) (w : Nat) : ClkState :=
  let en := testBit w 0
  let c := { c with refPref := Ix.ofNum (bits w 1 1) }
  let c := if !en && (c.anyPll || c.queue.any (·.toPll)) then toBypass c else c
  { c with pllEn := en, lock := c.lock && en }

theorem writeClkCtrl_eq (c : ClkState) (w : Nat) : writeClkCtrl c w =
    if !testBit w 2 then pllWritten c w
    else if dividerBad (pllWritten c w).div then { pllWritten c w with divReject := true, applying := false }
    else if (pllWritten c w).refPref ≠ (pllWritten c w).sel ∧ (pllWritten c w).refOk.get (pllWritten c w).refPref = true then
      { toBypass (pllWritten c w) with applying := true, divTaken := (pllWritten c w).div, refMove := some (pllWritten c w).refPref }
    else { (pllWritten c w).askAgain purposeOrder with applying := true, divTaken := (pllWritten c w).div } := rfl

theorem pllWritten_pllEn (c : ClkState) (w : Nat) : (pllWritten c w).pllEn = testBit w 0 := rfl
theorem pllWritten_div (c : ClkState) (w : Nat) : (pllWritten c w).div = c.div := by unfold pllWritten; dsimp only; split <;> rfl
theorem pllWritten_divActing (c : ClkState) (w : Nat) : (pllWritten c w).divActing = c.divActing := by
  unfold pllWritten; dsimp only; split <;> rfl
theorem pllWritten_divTaken (c : ClkState) (w : Nat) : (pllWritten c w).divTaken = c.divTaken := by
  unfold pllWritten; dsimp only; split <;> rfl
theorem pllWritten_divReject (c : ClkState) (w : Nat) : (pllWritten c w).divReject = c.divReject := by
  unfold pllWritten; dsimp only; split <;> rfl

/-- With PLL_EN = 1 a write of CLK_CTRL requests no move of a domain by itself. -/
theorem pllWritten_of_enabled {c : ClkState} {w : Nat} (en : testBit w 0 = true) :
    pllWritten c w = { c with refPref := Ix.ofNum (bits w 1 1), pllEn := true } := by
  simp [pllWritten, en]

theorem writeClkCtrl_pllEn (c : ClkState) (w : Nat) : (writeClkCtrl c w).pllEn = testBit w 0 := by
  rw [writeClkCtrl_eq]
  simp only [apply_ite ClkState.pllEn, toBypass, ClkState.ask, ClkState.askAgain, pllWritten_pllEn, ite_self]

theorem writeClkCtrl_divActing (c : ClkState) (w : Nat) : (writeClkCtrl c w).divActing = c.divActing := by
  rw [writeClkCtrl_eq]
  simp only [apply_ite ClkState.divActing, toBypass, ClkState.ask, ClkState.askAgain, pllWritten_divActing, ite_self]

/-- R63: with a field below its minimum APPLY is refused. -/
theorem writeClkCtrl_of_bad {c : ClkState} {w : Nat} (apply : testBit w 2 = true) (bad : dividerBad c.div = true) :
    writeClkCtrl c w = { pllWritten c w with divReject := true, applying := false } := by
  rw [writeClkCtrl_eq, pllWritten_div]
  simp [apply, bad]

/-- R63: otherwise CLK_DIV is taken whole. -/
theorem writeClkCtrl_of_good {c : ClkState} {w : Nat} (apply : testBit w 2 = true) (good : dividerBad c.div = false) :
    (writeClkCtrl c w).applying = true ∧ (writeClkCtrl c w).divTaken = c.div ∧ (writeClkCtrl c w).divReject = c.divReject := by
  rw [writeClkCtrl_eq, pllWritten_div]
  simp only [apply, good, Bool.not_true, Bool.false_eq_true, if_false]
  split
  · exact ⟨rfl, rfl, pllWritten_divReject c w⟩
  · exact ⟨rfl, rfl, pllWritten_divReject c w⟩

/-- CLK_DIV is taken by an APPLY that is not refused, and by nothing else that a write of CLK_CTRL does. -/
theorem writeClkCtrl_divTaken (c : ClkState) (w : Nat) : (writeClkCtrl c w).divTaken = c.divTaken ∨
    dividerBad c.div = false ∧ (writeClkCtrl c w).applying = true ∧ (writeClkCtrl c w).divTaken = c.div := by
  cases apply : testBit w 2
  · exact .inl (by rw [writeClkCtrl_eq]; simp [apply, pllWritten_divTaken])
  · cases bad : dividerBad c.div
    · obtain ⟨applying, taken, -⟩ := writeClkCtrl_of_good apply bad
      exact .inr ⟨rfl, applying, taken⟩
    · exact .inl (by rw [writeClkCtrl_of_bad apply bad]; exact pllWritten_divTaken c w)

/-- The clock state after a write of CLK_CTRL, whose loss of lock may stop the charge pump. -/
theorem clkCtrlWrite_clk (s : State) (w : Nat) : ∃ b,
    (pumpStop s.clk.lock (setClk s (writeClkCtrl s.clk w))).clk = { writeClkCtrl s.clk w with pumpWait := b } := by
  obtain ⟨b, stopped⟩ := pumpStop_clk s.clk.lock (setClk s (writeClkCtrl s.clk w))
  exact ⟨b, by rw [stopped, setClk_clk]⟩

theorem exec_pllEnWrite {s : State} (clock : clocked s = true) (w : Word) :
    runs (.pllEnWrite w) s fun t => ∃ b, t.clk = { writeClkCtrl s.clk w.toNat with pumpWait := b } := by
  refine ⟨_, ?_, clkCtrlWrite_clk s w.toNat⟩
  show execPllEnWrite w s = _
  rw [execPllEnWrite, if_pos clock]

theorem exec_apply {s : State} (clock : clocked s = true) (w : Word) :
    runs (.apply w) s fun t => ∃ b, t.clk = { writeClkCtrl s.clk (w.toNat ||| 4) with pumpWait := b } := by
  refine ⟨_, ?_, clkCtrlWrite_clk s (w.toNat ||| 4)⟩
  show execApply w s = _
  rw [execApply, if_pos clock]

theorem runs_mono {c : Instr} {s : State} {post more : State → Prop} (ran : runs c s post) (h : ∀ t, post t → more t) : runs c s more := by
  obtain ⟨t, outcome, holds⟩ := ran
  exact ⟨t, outcome, h t holds⟩

/-! ### References -/

theorem referenceDetect_detects {s : State} (r : Ix) (powered : s.elec.powered = true) (clocks : s.elec.clockless = false)
    (may : s.elec.step = 2 ∨ refPresent s = true) :
    runs (.referenceDetect r) s fun t => t.clk.refOk.get r = true ∧ (s.elec.step = 2 → t.elec.step = 3) := by
  have outcome : exec (.referenceDetect r) s = .next (
      let c := { s.clk with refOk := s.clk.refOk.set r true }
      if s.elec.step = 2 then
        { s with clk := { c with sel := if (s.clk.refOk.set r true).zero then .zero else .one }, elec := { s.elec with step := 3 } }
      else { s with clk := c }) := by
    show execReferenceDetect r s = _
    obtain two | present := may
    · simp [execReferenceDetect, powered, clocks, two]
    · simp [execReferenceDetect, powered, clocks, present]
  refine ⟨_, outcome, ?_⟩
  by_cases two : s.elec.step = 2
  · simp [two]
  · simp [two]

/-- R53: the module moves to the other reference where it is present; in bypass that counts as a forced switch. -/
theorem referenceLost_moves {s : State} {r : Ix} (clock : clocked s = true) (present : s.clk.refOk.get r = true) :
    runs (.referenceLost r) s fun t => t.clk.refOk.get r = false ∧
      (s.clk.sel = r → t.clk.refLost = true ∧ (s.clk.refOk.get r.other = true → t.clk.sel = r.other)) := by
  have kept : (s.clk.refOk.set r false).get r.other = s.clk.refOk.get r.other := two_get_set_other _ _ (by cases r <;> decide)
  refine ⟨_, (rfl : exec (.referenceLost r) s = .next _), ?_⟩
  simp only [clock, present, Bool.not_true, Bool.or_self, Bool.false_eq_true, if_false]
  split
  · next unused => exact ⟨two_get_set _ _ _, fun used => absurd used.symm unused⟩
  · next used =>
    rw [ne_eq, Decidable.not_not] at used
    subst used
    rw [kept]
    split
    · next absent => exact ⟨two_get_set _ _ _, fun _ => ⟨rfl, fun there => by simp [there] at absent⟩⟩
    · split
      · exact ⟨by rw [raise_clk]; exact two_get_set _ _ _, fun _ => ⟨by rw [raise_clk]; rfl, fun _ => by rw [raise_clk]; rfl⟩⟩
      · exact ⟨two_get_set _ _ _, fun _ => ⟨rfl, fun _ => rfl⟩⟩

theorem refFreqCompare_differs {s : State} {n : Nat} (clock : clocked s = true) (a : s.clk.refOk.zero = true) (b : s.clk.refOk.one = true)
    (differs : 600 * 1048576 < ((n - 1048576) + (1048576 - n)) * 1000000) :
    runs (.refFreqCompare n) s fun t => t.clk.refDiff = true ∧ newest t 4 = some [] := by
  have outcome : exec (.refFreqCompare n) s = .next (raise { s with clk := { s.clk with refDiff := true } } 4 []) := by
    show execRefFreqCompare n s = _
    simp only [execRefFreqCompare, clock, a, b, gt_iff_lt, differs, decide_true, Bool.and_self, if_true]
  exact ⟨_, outcome, by rw [raise_clk], raise_newest _ 4 []⟩

/-! ### The PLL and the domains -/

theorem bypassRun_startsLoader {s : State} (clock : clocked s = true) (step : s.elec.step = 3)
    (present : s.clk.refOk.zero || s.clk.refOk.one) :
    runs (.bypassRun true) s fun t => t.elec.step = 4 ∧ t.elec.loader = true ∧ t.elec.uptime = 0 := by
  have outcome : exec (.bypassRun true) s = .next { s with elec := { s.elec with step := 4, loader := true, uptime := 0 } } := by
    show execBypassRun true s = _
    simp [execBypassRun, clock, step, present]
  exact ⟨_, outcome, rfl, rfl, rfl⟩

theorem pllLock_returnsDomains {s : State} (clock : clocked s = true) (step : 4 ≤ s.elec.step) (enabled : s.clk.pllEn = true)
    (unlocked : s.clk.lock = false) :
    runs .pllLock s fun t => t.clk.lock = true ∧
      t.clk.queue = s.clk.queue ++ [⟨.fab, true⟩, ⟨.ctl, true⟩, ⟨.eng, true⟩, ⟨.cpu, true⟩] ∧ (s.elec.step = 4 → t.elec.step = 5) := by
  have outcome : exec .pllLock s = .next { s with
      clk := { (s.clk.ask returnOrder true) with lock := true, pumpWait := false },
      elec := { s.elec with step := if s.elec.step = 4 then 5 else s.elec.step } } := by
    show execPllLock s = _
    simp [execPllLock, clock, step, enabled, unlocked]
  exact ⟨_, outcome, rfl, rfl, fun four => if_pos four⟩

theorem pllLockLost_counts {s : State} (clock : clocked s = true) (lock : s.clk.lock = true) :
    runs .pllLockLost s fun t => t.clk.lock = false ∧ t.clk.lockLost = true ∧ t.clk.lockLossCnt = sat 0xFFFF (s.clk.lockLossCnt + 1) ∧
      ∃ d, newest t 1 = some d := by
  have outcome : exec .pllLockLost s = .next (
      let t := pumpStop true (setClk s { s.clk.ask lossOrder false with
        lock := false, bypass := true, lockLost := true, lockLossCnt := sat 0xFFFF (s.clk.lockLossCnt + 1) })
      raise t 1 (u32 (clkStat t).toNat)) := by
    show execPllLockLost s = _
    simp [execPllLockLost, clock, lock]
  refine ⟨_, outcome, ?_⟩
  dsimp only
  obtain ⟨b, stopped⟩ := pumpStop_clk true (setClk s { s.clk.ask lossOrder false with
    lock := false, bypass := true, lockLost := true, lockLossCnt := sat 0xFFFF (s.clk.lockLossCnt + 1) })
  rw [raise_clk, stopped, setClk_clk]
  exact ⟨rfl, rfl, rfl, _, raise_newest _ 1 _⟩

theorem domainSwitchDone_switches {s : State} {d : Domain} {pll : Bool} {rest : List DomSwitch} (clock : clocked s = true)
    (queue : s.clk.queue = ⟨d, pll⟩ :: rest) : runs .domainSwitchDone s fun t => t.clk.onPll d = pll ∧ t.clk.queue = rest := by
  have outcome : exec .domainSwitchDone s = .next (setClk s (finishSwitch s.clk)) := by
    show execDomainSwitchDone s = _
    rw [execDomainSwitchDone, if_pos clock]
  exact ⟨_, outcome, by rw [setClk_clk, finishSwitch_onPll queue], by rw [setClk_clk, finishSwitch_queue queue]⟩

/-- R59: a switch that times out is complete, and forced. -/
theorem domainSwitchTimeout_forces {s : State} {d : Domain} {pll : Bool} {rest : List DomSwitch} (clock : clocked s = true)
    (queue : s.clk.queue = ⟨d, pll⟩ :: rest) :
    runs .domainSwitchTimeout s fun t => t.clk.onPll d = pll ∧ t.clk.queue = rest ∧ t.clk.forced = true ∧ newest t 2 = some [] := by
  have outcome : exec .domainSwitchTimeout s = .next (raise (setClk (if d = .ctl then markLate s s.ctl.lastDue else s)
      { finishSwitch s.clk with forced := true, forcedDom := (finishSwitch s.clk).forcedDom ||| 2 ^ d.bitNo }) 2 []) := by
    show execDomainSwitchTimeout s = _
    simp only [execDomainSwitchTimeout, queue, clock, if_true]
  refine ⟨_, outcome, ?_⟩
  dsimp only
  rw [raise_clk, setClk_clk]
  refine ⟨?_, finishSwitch_queue queue, rfl, raise_newest _ 2 []⟩
  exact (by cases d <;> rfl : ClkState.onPll _ d = (finishSwitch s.clk).onPll d).trans (finishSwitch_onPll queue)

/-- R248: one step of 5 µA toward the band's setting. -/
theorem chargePumpStep_steps {s : State} (clock : clocked s = true) (runs_ : s.clk.pumpWait = false)
    (off : s.clk.pump ≠ pumpOf s.therm.bandInForce) :
    runs .chargePumpStep s fun t =>
      t.clk.pump = (if s.clk.pump < pumpOf s.therm.bandInForce then s.clk.pump + 5 else s.clk.pump - 5) := by
  have outcome : exec .chargePumpStep s = .next { s with clk := { s.clk with
      pump := if s.clk.pump < pumpOf s.therm.bandInForce then s.clk.pump + 5 else s.clk.pump - 5 } } := by
    show execChargePumpStep s = _
    simp [execChargePumpStep, clock, runs_, off]
  exact ⟨_, outcome, rfl⟩

theorem apply_applies {s : State} (clock : clocked s = true) (w : Word) :
    runs (.apply w) s fun t => t.clk.pllEn = testBit w.toNat 0 ∧
      (dividerBad s.clk.div = true → t.clk.divReject = true ∧ t.clk.applying = false) ∧
      (dividerBad s.clk.div = false → t.clk.applying = true ∧ t.clk.divReject = s.clk.divReject) := by
  refine runs_mono (exec_apply clock w) fun t ⟨b, clk⟩ => ?_
  rw [clk]
  refine ⟨(writeClkCtrl_pllEn _ _).trans (testBit_or_apply_zero _), fun bad => ?_, fun good => ?_⟩
  · rw [writeClkCtrl_of_bad (testBit_or_apply_two _) bad]
    exact ⟨rfl, rfl⟩
  · obtain ⟨applying, -, reject⟩ := writeClkCtrl_of_good (testBit_or_apply_two w.toNat) good
    exact ⟨applying, reject⟩

/-- Settles O2: one theorem above for each clause, in the order of the commands. -/
theorem clockCommandsTakeEffect : Obligations.ClockCommandsTakeEffect := by
  unfold Obligations.ClockCommandsTakeEffect
  refine ⟨?detect, ?lost, ?compare, ?bypass, ?lock, ?lockLost, ?done, ?timeout, ?pllEn, ?apply, ?pump⟩
  case detect => exact fun s r powered clocks may => referenceDetect_detects r powered clocks may
  case lost => exact fun s r clock present => referenceLost_moves clock present
  case compare => exact fun s n clock a b differs => refFreqCompare_differs clock a b differs
  case bypass => exact fun s clock step present => bypassRun_startsLoader clock step present
  case lock => exact fun s clock step enabled unlocked => pllLock_returnsDomains clock step enabled unlocked
  case lockLost => exact fun s clock lock => pllLockLost_counts clock lock
  case done => exact fun s d pll rest clock queue => domainSwitchDone_switches clock queue
  case timeout => exact fun s d pll rest clock queue => domainSwitchTimeout_forces clock queue
  case pllEn => exact fun s w clock => runs_mono (exec_pllEnWrite clock w) fun t ⟨b, clk⟩ => by rw [clk]; exact writeClkCtrl_pllEn _ _
  case apply => exact fun s w clock => apply_applies clock w
  case pump => exact fun s clock going off => chargePumpStep_steps clock going off

end Sys2Proof.Proofs

/-! PROOFS. The dividers in force (R63): what every command does to them, and O58 from it. -/

namespace Sys2Proof.Proofs

open Sys2Proof Sys2Proof.Machine Sys2Proof.Laws

/-! ### What a command may do to the dividers -/

/-- The dividers in force, and CLK_DIV as the last APPLY took it. -/
def dividers (s : State) : Dividers × Dividers := (s.clk.divActing, s.clk.divTaken)

/-- The dividers stay as they are, or the module restarts. -/
def KeepsDividers (s t : State) : Prop := dividers t = dividers s ∨ t.elec.step ≤ 3

/-- R63: outside a restart the dividers in force change only as those taken come into force, and those taken only as an APPLY that is not
refused takes CLK_DIV. -/
structure DividersFollow (s t : State) : Prop where
  acting : t.clk.divActing = s.clk.divActing ∨ t.elec.step ≤ 3 ∨
    (s.clk.applying = true ∧ t.clk.applying = false ∧ t.clk.divActing = s.clk.divTaken)
  taken : t.clk.divTaken = s.clk.divTaken ∨ t.elec.step ≤ 3 ∨
    (dividerBad s.clk.div = false ∧ t.clk.applying = true ∧ t.clk.divTaken = s.clk.div)

variable {s t u : State}

theorem KeepsDividers.follows (h : KeepsDividers s t) : DividersFollow s t := by
  obtain same | restarted := h
  · exact ⟨.inl (congrArg Prod.fst same), .inl (congrArg Prod.snd same)⟩
  · exact ⟨.inr (.inl restarted), .inr (.inl restarted)⟩

theorem dividers_of_clk (h : t.clk = s.clk) : dividers t = dividers s := by unfold dividers; rw [h]

/-- The mask 268435446 leaves out every part but the clocks. -/
theorem dividers_of_view (h : view 268435446 t = view 268435446 s) : dividers t = dividers s := dividers_of_clk (same_clk h (by decide))

namespace KeepsDividers

theorem of_view (h : view 268435446 t = view 268435446 s) : KeepsDividers s t := .inl (dividers_of_view h)
theorem refl (s : State) : KeepsDividers s s := .inl rfl
theorem after (same : dividers t = dividers s) (h : KeepsDividers t u) : KeepsDividers s u := h.imp_left (·.trans same)
theorem ite {c : Prop} [Decidable c] (yes : KeepsDividers s t) (no : KeepsDividers s u) : KeepsDividers s (if c then t else u) := by
  split <;> assumption
theorem restarted (s t : State) (cause : Nat) : KeepsDividers s (restart t cause) := .inr (Nat.le_refl 3)

end KeepsDividers

theorem DividersFollow.of_dividers (h : dividers t = dividers s) : DividersFollow s t := KeepsDividers.follows (.inl h)
theorem DividersFollow.of_view (h : view 268435446 t = view 268435446 s) : DividersFollow s t := .of_dividers (dividers_of_view h)

/-! ### Restarts -/

theorem activateBoot_keepsDividers (s : State) : KeepsDividers s (activateBoot s) := by
  unfold activateBoot
  split
  · exact .refl s
  · exact .restarted _ _ 5

theorem leaveNow_keepsDividers (s : State) : KeepsDividers s (leaveNow s) := by
  unfold leaveNow
  split
  · exact activateBoot_keepsDividers s
  · exact .restarted _ _ 5
  · exact .refl s

theorem leaveIfOpen_keepsDividers (s : State) : KeepsDividers s (leaveIfOpen s) := by
  unfold leaveIfOpen
  split
  · exact .ite (leaveNow_keepsDividers s) (.refl s)
  · exact .refl s

theorem openAndLeave_keepsDividers (s : State) (activation : Bool) : KeepsDividers s (openAndLeave s activation) := by
  refine .after (dividers_of_view ?_) (leaveIfOpen_keepsDividers _)
  simp

theorem bootFails_keepsDividers (s : State) (r : SelRec) (cause : Nat) : KeepsDividers s (bootFails s r cause) := by
  unfold bootFails
  dsimp only
  refine .ite (.restarted _ _ 7) (.ite (.restarted _ _ 7) (.ite (.restarted _ _ 4) (.of_view ?_)))
  simp

theorem bootImage_keepsDividers (s : State) (r : SelRec) (selfTest : Bool) : KeepsDividers s (bootImage s r selfTest) := by
  have starts : KeepsDividers s (startImage s r) := .of_view (by simp)
  exact .ite (bootFails_keepsDividers s r 3) (.ite (bootFails_keepsDividers s r 2) starts)

theorem execPowerGood_keepsDividers {slotB strap2s present : Bool} (h : execPowerGood slotB strap2s present s = .next t) :
    KeepsDividers s t := by
  cases h
  exact .ite (.refl s) (.inr (Nat.le_succ 2))

theorem execWithdrawal_keepsDividers (h : execWithdrawal s = .next t) : KeepsDividers s t := by
  cases h
  exact .ite (.inr (Nat.zero_le 3)) (.refl s)

theorem execSupplyLoss_keepsDividers (h : execSupplyLoss s = .next t) : KeepsDividers s t := execWithdrawal_keepsDividers h

theorem execWatchdogExpiry_keepsDividers (h : execWatchdogExpiry s = .next t) : KeepsDividers s t := by
  cases h
  exact .ite (.restarted s s 2) (.refl s)

theorem execReferenceReturnRestart_keepsDividers {r : Ix} (h : execReferenceReturnRestart r s = .next t) : KeepsDividers s t := by
  cases h
  have held (v : State) (d : List Byte) :
      (beginHold { raiseOrDefer v 196 d with outr := { (raiseOrDefer v 196 d).outr with hold := .none } } .restart).elec = v.elec :=
    same_elec (m := 268435450) (by simp) (by decide)
  refine .ite (.refl s) (.ite (.inr ?_) (.restarted s _ 3))
  exact Nat.le_of_eq (congrArg ElecState.step (held _ _))

theorem execFirmwareBoot_keepsDividers {selfTest : Bool} (h : execFirmwareBoot selfTest s = .next t) : KeepsDividers s t := by
  cases h
  have boots {v : State} (same : view 268435446 v = view 268435446 s) (r : SelRec) : KeepsDividers s (bootImage v r selfTest) :=
    .after (dividers_of_view same) (bootImage_keepsDividers v r selfTest)
  split
  · exact .refl s
  · split
    · exact .of_view (by simp)
    · exact .ite (boots rfl _) (.ite (boots (by simp) _) (boots (by simp) _))

theorem execOpenCurrentLow_keepsDividers {string : Ix} (h : execOpenCurrentLow string s = .next t) : KeepsDividers s t := by
  cases h
  split
  · exact .refl s
  · refine .ite (.refl s) (.after (dividers_of_view ?_) (leaveIfOpen_keepsDividers _))
    simp

theorem execOrderlyRelease_keepsDividers (h : execOrderlyRelease s = .next t) : KeepsDividers s t := by
  cases h
  split
  · exact .refl s
  · next q _ =>
    have released : dividers { giveUp s .standby with pair := { (giveUp s .standby).pair with req := some { q with gone := true } } } =
        dividers s := dividers_of_view (by simp)
    exact .ite (.ite (.after released (leaveNow_keepsDividers _)) (.inl released)) (.refl s)

theorem execActivation_keepsDividers (h : execActivation s = .next t) : KeepsDividers s t := by
  cases h
  exact .ite (.refl s) (.ite (.of_view (by simp)) (.ite (activateBoot_keepsDividers s) (.ite (openAndLeave_keepsDividers s true)
    (.ite (.of_view (by simp)) (.of_view (by simp))))))

theorem execConfirmWindowExpiry_keepsDividers (h : execConfirmWindowExpiry s = .next t) : KeepsDividers s t := by
  cases h
  exact .ite (.refl s) (.ite (.restarted s _ 5) (.ite (.of_view (by simp)) (openAndLeave_keepsDividers s false)))

theorem execActivationOpenTimeout_keepsDividers (h : execActivationOpenTimeout s = .next t) : KeepsDividers s t := by
  cases h
  exact .ite (leaveNow_keepsDividers s) (.refl s)

/-! ### Commands that touch the clocks and leave the dividers -/

theorem dividers_ite {c : Prop} [Decidable c] : dividers (if c then t else u) = if c then dividers t else dividers u := apply_ite ..
theorem raise_dividers (s : State) (e : Nat) (d : List Byte) : dividers (raise s e d) = dividers s := dividers_of_clk (raise_clk s e d)
theorem setClk_dividers (s : State) (c : ClkState) : dividers (setClk s c) = (c.divActing, c.divTaken) := by rw [dividers, setClk_clk]
theorem pumpStop_dividers (was : Bool) (s : State) : dividers (pumpStop was s) = dividers s := by
  obtain ⟨b, stopped⟩ := pumpStop_clk was s
  rw [dividers, stopped]
  rfl

theorem execReferenceDetect_dividers {r : Ix} (h : execReferenceDetect r s = .next t) : dividers t = dividers s := by
  cases h
  simp only [dividers_ite]
  exact ite_eq_left_iff.mpr fun _ => ite_self _

theorem execReferenceLost_dividers {r : Ix} (h : execReferenceLost r s = .next t) : dividers t = dividers s := by
  cases h
  simp only [dividers_ite, raise_dividers]
  simp only [dividers, ClkState.ask, ite_self]

theorem execRefFreqCompare_dividers {n : Nat} (h : execRefFreqCompare n s = .next t) : dividers t = dividers s := by
  cases h
  simp only [dividers_ite, raise_dividers]
  simp only [dividers, ite_self]

theorem execPllLock_dividers (h : execPllLock s = .next t) : dividers t = dividers s := by
  cases h
  simp only [dividers_ite]
  simp only [dividers, ClkState.ask, ite_self]

theorem execPllLockLost_dividers (h : execPllLockLost s = .next t) : dividers t = dividers s := by
  cases h
  simp only [dividers_ite, raise_dividers, pumpStop_dividers, setClk_dividers]
  simp only [dividers, ClkState.ask, ite_self]

theorem execChargePumpStep_dividers (h : execChargePumpStep s = .next t) : dividers t = dividers s := by
  cases h
  simp only [dividers_ite]
  simp only [dividers, ite_self]

/-- Of the clocks a tick touches the stall of MOD alone. -/
theorem takeInputs_clk (s : State) (n : Nat) (i : TickIn) : (takeInputs s n i).1.clk = { s.clk with modStalled := false } := by
  have frontEnd (v : State) (x : Ix) (f : FeIn) : (feTick v x n f).1.clk = v.clk := same_clk (m := 268435446) (by simp) (by decide)
  have reference (v : State) (g : List GrefIn) : (grefTick v n g).clk = v.clk := same_clk (m := 268435446) (by simp) (by decide)
  have link (v : State) (x : Ix) : (linkFrom v x).clk = v.clk := same_clk (m := 8192) (by simp) (by decide)
  simp only [takeInputs, link, reference, frontEnd]

theorem tickCore_clk (s : State) (i : TickIn) : (tickCore s i).clk = { s.clk with modStalled := false } := by
  have same : view 268435446 (tickCore s i) = view 268435446 (takeInputs
      { s with elec := { s.elec with uptime := s.elec.uptime + i.len, lastTick := some s.grid.now } } s.grid.now i).1 := by
    simp [tickCore]
  rw [same_clk same (by decide), takeInputs_clk]

theorem execTickTrigger_dividers {i : TickIn} (h : execTickTrigger i s = .next t) : dividers t = dividers s := by
  cases h
  have ticked : dividers (tickCore s i) = dividers s := by rw [dividers, tickCore_clk]; rfl
  have free : dividers (freeRun s i) = dividers s := dividers_of_view (by simp)
  simp only [dividers_ite, ticked, free, ite_self]

theorem execAngleSourceTick_dividers {i : TickIn} (h : execAngleSourceTick i s = .next t) : dividers t = dividers s := by
  cases h
  have made : (makeTick s).1.clk = s.clk := same_clk (m := 16) (by simp) (by decide)
  have judged (v : State) : (judgeHalf v).clk = v.clk := same_clk (m := 16) (by simp) (by decide)
  simp only [dividers_ite]
  simp only [dividers, emits_clk, judged, tickCore_clk, made, ite_self]

/-! ### The commands by which dividers are taken and come into force -/

/-- A switch that completes lets the dividers taken come into force, or leaves those in force. -/
theorem finishSwitch_dividers (c : ClkState) : (finishSwitch c).divTaken = c.divTaken ∧ ((finishSwitch c).divActing = c.divActing ∨
    c.applying = true ∧ (finishSwitch c).applying = false ∧ (finishSwitch c).divActing = c.divTaken) := by
  cases queue : c.queue with
  | nil => exact ⟨by simp only [finishSwitch, queue], .inl (by simp only [finishSwitch, queue])⟩
  | cons q rest =>
    obtain ⟨_, _, _, _, _, done, acting⟩ := finishSwitch_cons queue
    rw [done]
    exact ⟨by cases q.dom <;> rfl, acting⟩

theorem switched_dividersFollow {v : State} (clk : ∃ forced dom, v.clk = { finishSwitch s.clk with forced := forced, forcedDom := dom }) :
    DividersFollow s v := by
  obtain ⟨forced, dom, same⟩ := clk
  obtain ⟨taken, acting⟩ := finishSwitch_dividers s.clk
  exact ⟨by rw [same]; exact acting.imp_right .inr, by rw [same]; exact .inl taken⟩

theorem execDomainSwitchDone_dividersFollow (h : execDomainSwitchDone s = .next t) : DividersFollow s t := by
  cases h
  split
  · exact switched_dividersFollow ⟨_, _, setClk_clk _ _⟩
  · exact .of_dividers rfl

theorem execDomainSwitchTimeout_dividersFollow (h : execDomainSwitchTimeout s = .next t) : DividersFollow s t := by
  cases h
  split
  · exact .of_dividers rfl
  · split
    · exact switched_dividersFollow ⟨true, _, by rw [raise_clk, setClk_clk]⟩
    · exact .of_dividers rfl

theorem clkCtrl_dividersFollow {v : State} {w : Nat} (was : Bool) (clk : v.clk = writeClkCtrl s.clk w) :
    DividersFollow s (pumpStop was v) := by
  obtain ⟨b, stopped⟩ := pumpStop_clk was v
  rw [clk] at stopped
  exact ⟨by rw [stopped]; exact .inl (writeClkCtrl_divActing _ _),
    by rw [stopped]; exact (writeClkCtrl_divTaken s.clk w).imp_right .inr⟩

theorem execPllEnWrite_dividersFollow {w : Word} (h : execPllEnWrite w s = .next t) : DividersFollow s t := by
  cases h
  split
  · exact clkCtrl_dividersFollow _ (setClk_clk _ _)
  · exact .of_dividers rfl

theorem execApply_dividersFollow {w : Word} (h : execApply w s = .next t) : DividersFollow s t := by
  cases h
  split
  · exact clkCtrl_dividersFollow _ (setClk_clk _ _)
  · exact .of_dividers rfl

/-- Of the clock registers CLK_CTRL alone moves dividers. -/
theorem writeClocks_dividersFollow (s : State) (off w : Nat) : DividersFollow s (writeClocks s off w) := by
  unfold writeClocks
  dsimp only
  split
  · exact clkCtrl_dividersFollow _ rfl
  all_goals exact .of_dividers rfl

theorem bar0Write_dividersFollow (s : State) (p : Ix) (off w : Nat) : DividersFollow s (bar0Write s p off w) := by
  have ite {c : Prop} [Decidable c] {u v : State} (yes : DividersFollow s u) (no : DividersFollow s v) :
      DividersFollow s (if c then u else v) := by split <;> assumption
  exact ite (.of_dividers rfl) (ite (.of_view (by simp)) (ite (writeClocks_dividersFollow s off w) (.of_view (by simp))))

theorem execRegisterWrite_dividersFollow {p : Ix} {off : Nat} {w : Word} (h : execRegisterWrite p off w s = .next t) :
    DividersFollow s t := by
  cases h
  split
  · exact bar0Write_dividersFollow s p off w.toNat
  · exact .of_dividers rfl

/-- Every command, by what it does to the clocks: nothing; something that leaves the dividers; a restart; or a step of an APPLY. -/
theorem exec_dividersFollow {c : Instr} {s t : State} (h : exec c s = .next t) : DividersFollow s t := by
  cases c with
  | powerGood _ _ _ => exact (execPowerGood_keepsDividers h).follows
  | withdrawal => exact (execWithdrawal_keepsDividers h).follows
  | supplyLoss => exact (execSupplyLoss_keepsDividers h).follows
  | referenceDetect _ => exact .of_dividers (execReferenceDetect_dividers h)
  | referenceLost _ => exact .of_dividers (execReferenceLost_dividers h)
  | refFreqCompare _ => exact .of_dividers (execRefFreqCompare_dividers h)
  | bypassRun _ => exact .of_view (execBypassRun_view 268435446 _ s t (by decide) h)
  | pllLock => exact .of_dividers (execPllLock_dividers h)
  | pllLockLost => exact .of_dividers (execPllLockLost_dividers h)
  | domainSwitchDone => exact execDomainSwitchDone_dividersFollow h
  | domainSwitchTimeout => exact execDomainSwitchTimeout_dividersFollow h
  | pllEnWrite _ => exact execPllEnWrite_dividersFollow h
  | apply _ => exact execApply_dividersFollow h
  | watchdogExpiry => exact (execWatchdogExpiry_keepsDividers h).follows
  | clocklessHold => exact .of_view (execClocklessHold_view 268435446 s t (by decide) h)
  | referenceReturnRestart _ => exact (execReferenceReturnRestart_keepsDividers h).follows
  | firmwareBoot _ => exact (execFirmwareBoot_keepsDividers h).follows
  | ledgerScan => exact .of_view (execLedgerScan_view 268435446 s t (by decide) h)
  | ownershipArbitration => exact .of_view (execOwnershipArbitration_view 268435446 s t (by decide) h)
  | ryranEnumeration _ _ => exact .of_view (execRyranEnumeration_view 268435446 _ _ s t (by decide) h)
  | caravanEnumeration _ _ => exact .of_view (execCaravanEnumeration_view 268435446 _ _ s t (by decide) h)
  | stateRecordRestoreTimeout => exact .of_view (execStateRecordRestoreTimeout_view 268435446 s t (by decide) h)
  | joinDispatch => exact .of_view (execJoinDispatch_view 268435446 s t (by decide) h)
  | dualActiveResolved => exact .of_view (execDualActiveResolved_view 268435446 s t (by decide) h)
  | tickTrigger _ => exact .of_dividers (execTickTrigger_dividers h)
  | angleSourceTick _ => exact .of_dividers (execAngleSourceTick_dividers h)
  | virtualMainsEntry => exact .of_view (execVirtualMainsEntry_view 268435446 s t (by decide) h)
  | virtualMainsExit off => exact .of_view (execVirtualMainsExit_view 268435446 off s t (by decide) h)
  | waymarkReceived _ _ _ => exact .of_view (execWaymarkReceived_view 268435446 _ _ _ s t (by decide) h)
  | waymarkMissed _ => exact .of_view (execWaymarkMissed_view 268435446 _ s t (by decide) h)
  | unsynchronised => exact .of_view (execUnsynchronised_view 268435446 s t (by decide) h)
  | resynchronise _ => exact .of_view (execResynchronise_view 268435446 _ s t (by decide) h)
  | upstreamReturn => exact .of_view (execUpstreamReturn_view 268435446 s t (by decide) h)
  | successorBecomesSource => exact .of_view (execSuccessorBecomesSource_view 268435446 s t (by decide) h)
  | echoReq _ _ _ => exact .of_view (execEchoReq_view 268435446 _ _ _ s t (by decide) h)
  | echoRep _ _ _ => exact .of_view (execEchoRep_view 268435446 _ _ _ s t (by decide) h)
  | echoTimeout _ => exact .of_view (execEchoTimeout_view 268435446 _ s t (by decide) h)
  | hopRemeasure => exact .of_view (execHopRemeasure_view 268435446 s t (by decide) h)
  | loopTrace _ _ => exact .of_view (execLoopTrace_view 268435446 _ _ s t (by decide) h)
  | triggerSend _ _ => exact .of_view (execTriggerSend_view 268435446 _ _ s t (by decide) h)
  | snapSend _ => exact .of_view (execSnapSend_view 268435446 _ s t (by decide) h)
  | featureRec _ _ => exact .of_view (execFeatureRec_view 268435446 _ _ s t (by decide) h)
  | deliveryDeadline _ => exact .of_view (execDeliveryDeadline_view 268435446 _ s t (by decide) h)
  | transactionTimeout _ _ => exact .of_view (execTransactionTimeout_view 268435446 _ _ s t (by decide) h)
  | lostUnitPoll _ => exact .of_view (execLostUnitPoll_view 268435446 _ s t (by decide) h)
  | statusRep _ _ => exact .of_view (execStatusRep_view 268435446 _ _ s t (by decide) h)
  | statusPoll _ => exact .of_view (execStatusPoll_view 268435446 _ s t (by decide) h)
  | ack _ _ => exact .of_view (execAck_view 268435446 _ _ s t (by decide) h)
  | nak _ _ => exact .of_view (execNak_view 268435446 _ _ s t (by decide) h)
  | watchStream _ _ => exact .of_view (execWatchStream_view 268435446 _ _ s t (by decide) h)
  | tickSumSend _ => exact .of_view (execTickSumSend_view 268435446 _ s t (by decide) h)
  | tickSum _ _ _ => exact .of_view (execTickSum_view 268435446 _ _ _ s t (by decide) h)
  | wrapNotice _ _ => exact .of_view (execWrapNotice_view 268435446 _ _ s t (by decide) h)
  | ringLockLoss _ _ => exact .of_view (execRingLockLoss_view 268435446 _ _ s t (by decide) h)
  | ringTriggerTimeout _ _ => exact .of_view (execRingTriggerTimeout_view 268435446 _ _ s t (by decide) h)
  | ringRestore _ _ => exact .of_view (execRingRestore_view 268435446 _ _ s t (by decide) h)
  | compatReenum _ _ => exact .of_view (execCompatReenum_view 268435446 _ _ s t (by decide) h)
  | balanceRefresh _ => exact .of_view (execBalanceRefresh_view 268435446 _ s t (by decide) h)
  | bal12Refresh _ => exact .of_view (execBal12Refresh_view 268435446 _ s t (by decide) h)
  | faultLoopOpen _ => exact .of_view (execFaultLoopOpen_view 268435446 _ s t (by decide) h)
  | faultLoopClose _ => exact .of_view (execFaultLoopClose_view 268435446 _ s t (by decide) h)
  | openwireSchedule _ => exact .of_view (execOpenwireSchedule_view 268435446 _ s t (by decide) h)
  | openwireRep _ _ => exact .of_view (execOpenwireRep_view 268435446 _ _ s t (by decide) h)
  | isoOkChange _ _ => exact .of_view (execIsoOkChange_view 268435446 _ _ s t (by decide) h)
  | latchedLoRead _ _ => exact .of_view (execLatchedLoRead_view 268435446 _ _ s t (by decide) h)
  | calPoint _ _ _ _ _ => exact .of_view (execCalPoint_view 268435446 _ _ _ _ _ s t (by decide) h)
  | calPointDone _ _ => exact .of_view (execCalPointDone_view 268435446 _ _ s t (by decide) h)
  | calSolve _ _ _ => exact .of_view (execCalSolve_view 268435446 _ _ _ s t (by decide) h)
  | frameClose _ => exact .of_view (execFrameClose_view 268435446 _ s t (by decide) h)
  | currentVote _ => exact .of_view (execCurrentVote_view 268435446 _ s t (by decide) h)
  | sourceClear _ _ _ _ _ => exact .of_view (execSourceClear_view 268435446 _ _ _ _ _ s t (by decide) h)
  | tickPropagation => exact .of_view (execTickPropagation_view 268435446 s t (by decide) h)
  | dischargeStop _ => exact .of_view (execDischargeStop_view 268435446 _ s t (by decide) h)
  | frameUpdate => exact .of_view (execFrameUpdate_view 268435446 s t (by decide) h)
  | learningDurationExpiry _ => exact .of_view (execLearningDurationExpiry_view 268435446 _ s t (by decide) h)
  | referenceStarved _ => exact .of_view (execReferenceStarved_view 268435446 _ s t (by decide) h)
  | stateRecordCapture => exact .of_view (execStateRecordCapture_view 268435446 s t (by decide) h)
  | stateOffer _ _ _ _ => exact .of_view (execStateOffer_view 268435446 _ _ _ _ s t (by decide) h)
  | balanceReview => exact .of_view (execBalanceReview_view 268435446 s t (by decide) h)
  | thermalInputTimeout _ => exact .of_view (execThermalInputTimeout_view 268435446 _ s t (by decide) h)
  | thermalNodeLost _ => exact .of_view (execThermalNodeLost_view 268435446 _ s t (by decide) h)
  | dieReading _ => exact .of_view (execDieReading_view 268435446 _ s t (by decide) h)
  | dieTemp _ => exact .of_view (execDieTemp_view 268435446 _ s t (by decide) h)
  | tempHostWrite _ => exact .of_view (execTempHostWrite_view 268435446 _ s t (by decide) h)
  | controlLatch _ _ => exact .of_view (execControlLatch_view 268435446 _ _ s t (by decide) h)
  | slotInputTimeout _ => exact .of_view (execSlotInputTimeout_view 268435446 _ s t (by decide) h)
  | ctlBankReqWrite _ _ => exact .of_view (execCtlBankReqWrite_view 268435446 _ _ s t (by decide) h)
  | latClr _ => exact .of_view (execLatClr_view 268435446 _ s t (by decide) h)
  | ctlSwap _ _ _ => exact .of_view (execCtlSwap_view 268435446 _ _ _ s t (by decide) h)
  | ctlReadSlot _ _ => exact .of_view (execCtlReadSlot_view 268435446 _ _ s t (by decide) h)
  | phasorRecordForm => exact .of_view (execPhasorRecordForm_view 268435446 s t (by decide) h)
  | phasorRecord _ _ => exact .of_view (execPhasorRecord_view 268435446 _ _ s t (by decide) h)
  | vote => exact .of_view (execVote_view 268435446 s t (by decide) h)
  | holdingPeriodBoundary => exact .of_view (execHoldingPeriodBoundary_view 268435446 s t (by decide) h)
  | headroomSum _ _ => exact .of_view (execHeadroomSum_view 268435446 _ _ s t (by decide) h)
  | sumSendDeadline => exact .of_view (execSumSendDeadline_view 268435446 s t (by decide) h)
  | roundClose => exact .of_view (execRoundClose_view 268435446 s t (by decide) h)
  | fraction _ _ => exact .of_view (execFraction_view 268435446 _ _ s t (by decide) h)
  | fractionHoldExpiry => exact .of_view (execFractionHoldExpiry_view 268435446 s t (by decide) h)
  | planClose => exact .of_view (execPlanClose_view 268435446 s t (by decide) h)
  | holdSet _ _ _ _ => exact .of_view (execHoldSet_view 268435446 _ _ _ _ s t (by decide) h)
  | leadMove _ _ _ => exact .of_view (execLeadMove_view 268435446 _ _ _ s t (by decide) h)
  | leadMoveExecute => exact .of_view (execLeadMoveExecute_view 268435446 s t (by decide) h)
  | comparatorTrip _ _ => exact .of_view (execComparatorTrip_view 268435446 _ _ s t (by decide) h)
  | comparatorRelease _ _ => exact .of_view (execComparatorRelease_view 268435446 _ _ s t (by decide) h)
  | outriderTripReport _ => exact .of_view (execOutriderTripReport_view 268435446 _ s t (by decide) h)
  | blindString _ => exact .of_view (execBlindString_view 268435446 _ s t (by decide) h)
  | thresholdWrite _ _ => exact .of_view (execThresholdWrite_view 268435446 _ _ s t (by decide) h)
  | protectionBoundary => exact .of_view (execProtectionBoundary_view 268435446 s t (by decide) h)
  | comparatorProof _ _ => exact .of_view (execComparatorProof_view 268435446 _ _ s t (by decide) h)
  | coilTest _ => exact .of_view (execCoilTest_view 268435446 _ s t (by decide) h)
  | testOverdue _ _ _ => exact .of_view (execTestOverdue_view 268435446 _ _ _ s t (by decide) h)
  | contactorDropout _ _ _ => exact .of_view (execContactorDropout_view 268435446 _ _ _ s t (by decide) h)
  | comparatorTestDue _ => exact .of_view (execComparatorTestDue_view 268435446 _ s t (by decide) h)
  | stringOpen _ _ => exact .of_view (execStringOpen_view 268435446 _ _ s t (by decide) h)
  | openCurrentLow _ => exact (execOpenCurrentLow_keepsDividers h).follows
  | weldCheck _ => exact .of_view (execWeldCheck_view 268435446 _ s t (by decide) h)
  | stringClose _ _ => exact .of_view (execStringClose_view 268435446 _ _ s t (by decide) h)
  | kNegSettled _ _ => exact .of_view (execKNegSettled_view 268435446 _ _ s t (by decide) h)
  | prechargeReached _ => exact .of_view (execPrechargeReached_view 268435446 _ s t (by decide) h)
  | prechargeFail _ => exact .of_view (execPrechargeFail_view 268435446 _ s t (by decide) h)
  | kPosSettled _ _ => exact .of_view (execKPosSettled_view 268435446 _ _ s t (by decide) h)
  | protReset _ _ _ => exact .of_view (execProtReset_view 268435446 _ _ _ s t (by decide) h)
  | coilSupply _ => exact .of_view (execCoilSupply_view 268435446 _ s t (by decide) h)
  | heartbeatAnswer _ _ => exact .of_view (execHeartbeatAnswer_view 268435446 _ _ s t (by decide) h)
  | heartbeatLate => exact .of_view (execHeartbeatLate_view 268435446 s t (by decide) h)
  | ownershipLineFree => exact .of_view (execOwnershipLineFree_view 268435446 s t (by decide) h)
  | ownerQualified => exact .of_view (execOwnerQualified_view 268435446 s t (by decide) h)
  | releaseOverlapEnd => exact .of_view (execReleaseOverlapEnd_view 268435446 s t (by decide) h)
  | releaseRetake => exact .of_view (execReleaseRetake_view 268435446 s t (by decide) h)
  | holdExpiry => exact .of_view (execHoldExpiry_view 268435446 s t (by decide) h)
  | holdAck => exact .of_view (execHoldAck_view 268435446 s t (by decide) h)
  | holdDrop _ => exact .of_view (execHoldDrop_view 268435446 _ s t (by decide) h)
  | takeover => exact .of_view (execTakeover_view 268435446 s t (by decide) h)
  | handover _ => exact .of_view (execHandover_view 268435446 _ s t (by decide) h)
  | orderlyRelease => exact (execOrderlyRelease_keepsDividers h).follows
  | selfRelease _ _ => exact .of_view (execSelfRelease_view 268435446 _ _ s t (by decide) h)
  | ejectorOpen => exact .of_view (execEjectorOpen_view 268435446 s t (by decide) h)
  | partnerPresence _ => exact .of_view (execPartnerPresence_view 268435446 _ s t (by decide) h)
  | isolate _ => exact .of_view (execIsolate_view 268435446 _ s t (by decide) h)
  | rejoin _ => exact .of_view (execRejoin_view 268435446 _ s t (by decide) h)
  | peerStatus _ => exact .of_view (execPeerStatus_view 268435446 _ s t (by decide) h)
  | peerStatusSend => exact .of_view (execPeerStatusSend_view 268435446 s t (by decide) h)
  | peerLinkDown => exact .of_view (execPeerLinkDown_view 268435446 s t (by decide) h)
  | pairParamMismatch => exact .of_view (execPairParamMismatch_view 268435446 s t (by decide) h)
  | stateRec _ => exact .of_view (execStateRec_view 268435446 _ s t (by decide) h)
  | unitTable _ => exact .of_view (execUnitTable_view 268435446 _ s t (by decide) h)
  | hopComp _ => exact .of_view (execHopComp_view 268435446 _ s t (by decide) h)
  | holdState _ => exact .of_view (execHoldState_view 268435446 _ s t (by decide) h)
  | release _ => exact .of_view (execRelease_view 268435446 _ s t (by decide) h)
  | peerEchoReq _ _ => exact .of_view (execPeerEchoReq_view 268435446 _ _ s t (by decide) h)
  | peerEchoRep _ _ => exact .of_view (execPeerEchoRep_view 268435446 _ _ s t (by decide) h)
  | canFrame _ _ => exact .of_view (execCanFrame_view 268435446 _ _ s t (by decide) h)
  | rateDwellExpiry _ => exact .of_view (execRateDwellExpiry_view 268435446 _ s t (by decide) h)
  | rateSilentExpiry _ => exact .of_view (execRateSilentExpiry_view 268435446 _ s t (by decide) h)
  | basicCycleStart _ => exact .of_view (execBasicCycleStart_view 268435446 _ s t (by decide) h)
  | canWindowStart _ _ _ => exact .of_view (execCanWindowStart_view 268435446 _ _ _ s t (by decide) h)
  | canTxDone _ _ => exact .of_view (execCanTxDone_view 268435446 _ _ s t (by decide) h)
  | canBusOff _ => exact .of_view (execCanBusOff_view 268435446 _ s t (by decide) h)
  | busOffRecovery _ => exact .of_view (execBusOffRecovery_view 268435446 _ s t (by decide) h)
  | canPost _ _ _ _ _ _ _ => exact .of_view (execCanPost_view 268435446 _ _ _ _ _ _ _ s t (by decide) h)
  | canCancel _ _ => exact .of_view (execCanCancel_view 268435446 _ _ s t (by decide) h)
  | perst _ _ => exact .of_view (execPerst_view 268435446 _ _ s t (by decide) h)
  | hostLinkDown _ _ => exact .of_view (execHostLinkDown_view 268435446 _ _ s t (by decide) h)
  | hostLinkUp _ _ _ => exact .of_view (execHostLinkUp_view 268435446 _ _ _ s t (by decide) h)
  | mbxDoorbell _ _ _ _ => exact .of_view (execMbxDoorbell_view 268435446 _ _ _ _ s t (by decide) h)
  | commandTimeout _ _ => exact .of_view (execCommandTimeout_view 268435446 _ _ s t (by decide) h)
  | longDone _ => exact .of_view (execLongDone_view 268435446 _ s t (by decide) h)
  | longResultExpiry _ => exact .of_view (execLongResultExpiry_view 268435446 _ s t (by decide) h)
  | nop _ => exact .of_view (execNop_view 268435446 _ s t (by decide) h)
  | identify _ => exact .of_view (execIdentify_view 268435446 _ s t (by decide) h)
  | longQuery _ _ => exact .of_view (execLongQuery_view 268435446 _ _ s t (by decide) h)
  | streamOpen _ _ _ _ _ => exact .of_view (execStreamOpen_view 268435446 _ _ _ _ _ s t (by decide) h)
  | streamClose _ _ => exact .of_view (execStreamClose_view 268435446 _ _ s t (by decide) h)
  | strmTailWrite _ _ _ => exact .of_view (execStrmTailWrite_view 268435446 _ _ _ s t (by decide) h)
  | descriptorFetchDone _ _ _ => exact .of_view (execDescriptorFetchDone_view 268435446 _ _ _ s t (by decide) h)
  | descriptorFetchFail _ _ _ => exact .of_view (execDescriptorFetchFail_view 268435446 _ _ _ s t (by decide) h)
  | descStarved _ _ => exact .of_view (execDescStarved_view 268435446 _ _ s t (by decide) h)
  | bufferWriteDone _ _ => exact .of_view (execBufferWriteDone_view 268435446 _ _ s t (by decide) h)
  | canrxFlush _ => exact .of_view (execCanrxFlush_view 268435446 _ s t (by decide) h)
  | capture _ _ => exact .of_view (execCapture_view 268435446 _ _ s t (by decide) h)
  | captureTrigger _ => exact .of_view (execCaptureTrigger_view 268435446 _ s t (by decide) h)
  | hostReadDeferred _ _ _ => exact .of_view (execHostReadDeferred_view 268435446 _ _ _ s t (by decide) h)
  | registerWrite _ _ _ => exact execRegisterWrite_dividersFollow h
  | evMaskWrite _ _ _ => exact .of_view (execEvMaskWrite_view 268435446 _ _ _ s t (by decide) h)
  | ledgerRecordWrite _ _ => exact .of_view (execLedgerRecordWrite_view 268435446 _ _ s t (by decide) h)
  | evLast _ _ => exact .of_view (execEvLast_view 268435446 _ _ s t (by decide) h)
  | ledgerRead _ _ _ => exact .of_view (execLedgerRead_view 268435446 _ _ _ s t (by decide) h)
  | ledgerExport _ _ _ => exact .of_view (execLedgerExport_view 268435446 _ _ _ s t (by decide) h)
  | ledgerFreeze _ _ => exact .of_view (execLedgerFreeze_view 268435446 _ _ s t (by decide) h)
  | ledgerUnfreeze _ => exact .of_view (execLedgerUnfreeze_view 268435446 _ s t (by decide) h)
  | freezeExpiry => exact .of_view (execFreezeExpiry_view 268435446 s t (by decide) h)
  | ledgerClear _ _ => exact .of_view (execLedgerClear_view 268435446 _ _ s t (by decide) h)
  | ledgerInfo _ => exact .of_view (execLedgerInfo_view 268435446 _ s t (by decide) h)
  | evTest _ _ => exact .of_view (execEvTest_view 268435446 _ _ s t (by decide) h)
  | parRead _ _ _ _ _ => exact .of_view (execParRead_view 268435446 _ _ _ _ _ s t (by decide) h)
  | parWrite _ _ => exact .of_view (execParWrite_view 268435446 _ _ s t (by decide) h)
  | commit _ => exact .of_view (execCommit_view 268435446 _ s t (by decide) h)
  | parDiscard _ => exact .of_view (execParDiscard_view 268435446 _ s t (by decide) h)
  | persistenceDone _ => exact .of_view (execPersistenceDone_view 268435446 _ s t (by decide) h)
  | safetyScan => exact .of_view (execSafetyScan_view 268435446 s t (by decide) h)
  | updOpen _ _ _ _ _ _ => exact .of_view (execUpdOpen_view 268435446 _ _ _ _ _ _ s t (by decide) h)
  | updBlock hd offset addr crc data => exact .of_view (execUpdBlock_view 268435446 hd offset addr crc data s t (by decide) h)
  | updVerify _ => exact .of_view (execUpdVerify_view 268435446 _ s t (by decide) h)
  | updSchedule _ _ => exact .of_view (execUpdSchedule_view 268435446 _ _ s t (by decide) h)
  | updCancel _ _ => exact .of_view (execUpdCancel_view 268435446 _ _ s t (by decide) h)
  | updConfirm _ _ => exact .of_view (execUpdConfirm_view 268435446 _ _ s t (by decide) h)
  | updClose _ => exact .of_view (execUpdClose_view 268435446 _ s t (by decide) h)
  | updInfo _ => exact .of_view (execUpdInfo_view 268435446 _ s t (by decide) h)
  | activation => exact (execActivation_keepsDividers h).follows
  | confirmWindowExpiry => exact (execConfirmWindowExpiry_keepsDividers h).follows
  | caravanReenum _ _ _ _ => exact .of_view (execCaravanReenum_view 268435446 _ _ _ _ s t (by decide) h)
  | compatibilityReply _ _ => exact .of_view (execCompatibilityReply_view 268435446 _ _ s t (by decide) h)
  | partnerReadyChange _ => exact .of_view (execPartnerReadyChange_view 268435446 _ s t (by decide) h)
  | ownershipLineAsserted _ => exact .of_view (execOwnershipLineAsserted_view 268435446 _ s t (by decide) h)
  | dieTempSend => exact .of_view (execDieTempSend_view 268435446 s t (by decide) h)
  | pcieError _ _ _ => exact .of_view (execPcieError_view 268435446 _ _ _ s t (by decide) h)
  | activationOpenTimeout => exact (execActivationOpenTimeout_keepsDividers h).follows
  | chargePumpStep => exact .of_dividers (execChargePumpStep_dividers h)

/-! ### CLK_DIV and APPLY -/

/-- R63: a write of CLK_DIV takes no effect. -/
theorem clkDivWrite_dividers {p : Ix} {w : Word} (h : exec (.registerWrite p 0x0108 w) s = .next t) : dividers t = dividers s := by
  have outcome : exec (.registerWrite p 0x0108 w) s =
      .next (if clocked s && portUp s p then writeClocks s 0x108 w.toNat else s) := rfl
  cases outcome.symm.trans h
  rw [dividers_ite]
  exact ite_self _

/-- R63: APPLY with a field below its minimum sets DIV_REJECT and clears APPLY. -/
theorem apply_rejects {w : Word} (clock : clocked s = true) (bad : dividerBad s.clk.div = true)
    (enabled : testBit w.toNat 0 = true) :
    runs (.apply w) s fun t => t.clk.divReject = true ∧ t.clk.applying = false ∧ t.clk.divActing = s.clk.divActing ∧
      t.clk.divTaken = s.clk.divTaken ∧ t.clk.sel = s.clk.sel ∧ t.clk.refMove = s.clk.refMove ∧ t.clk.queue = s.clk.queue := by
  refine runs_mono (exec_apply clock w) fun t ⟨b, clk⟩ => ?_
  rw [clk, writeClkCtrl_of_bad (testBit_or_apply_two _) bad, pllWritten_of_enabled ((testBit_or_apply_zero _).trans enabled)]
  exact ⟨rfl, rfl, rfl, rfl, rfl, rfl, rfl⟩

/-- R63: otherwise CLK_DIV is taken whole, and the dividers in force stay until the domains have switched. -/
theorem apply_takes (w : Word) (clock : clocked s = true) (good : dividerBad s.clk.div = false) :
    runs (.apply w) s fun t => t.clk.applying = true ∧ t.clk.divTaken = s.clk.div ∧ t.clk.divActing = s.clk.divActing := by
  refine runs_mono (exec_apply clock w) fun t ⟨b, clk⟩ => ?_
  obtain ⟨applying, taken, -⟩ := writeClkCtrl_of_good (testBit_or_apply_two w.toNat) good
  rw [clk]
  exact ⟨applying, taken, writeClkCtrl_divActing _ _⟩

/-- Settles O58: the second and third clause are what every command does to the dividers. -/
theorem dividersTakeEffectOnApply : Obligations.DividersTakeEffectOnApply := by
  unfold Obligations.DividersTakeEffectOnApply
  refine ⟨?write, ?acting, ?taken, ?bad, ?good⟩
  case write => exact fun p w s t h => Prod.mk.inj (clkDivWrite_dividers h)
  case acting => exact fun c s t h => (exec_dividersFollow h).acting
  case taken => exact fun c s t h => (exec_dividersFollow h).taken
  case bad => exact fun w s clock bad enabled => apply_rejects clock bad enabled
  case good => exact fun w s clock good => apply_takes w clock good

end Sys2Proof.Proofs

/-! PROOFS. The grid and the streams of waymarks (R77 to R85): what each operation of the grid leaves of a stream and of the tick that
the module has reached. -/

namespace Sys2Proof.Proofs

open Sys2Proof Sys2Proof.Machine Sys2Proof.Laws

/-! ### Streams -/

theorem stream_of_grid {s t : State} (h : t.grid = s.grid) (p : UpPort) : stream t p = stream s p := by
  cases p <;> simp only [stream, h]

@[simp] theorem stream_modStream (s : State) (p : UpPort) (f : StreamState → StreamState) : stream (modStream s p f) p = f (stream s p) := by
  cases p <;> rfl

@[simp] theorem stream_raise (s : State) (e : Nat) (d : List Byte) (p : UpPort) : stream (raise s e d) p = stream s p :=
  stream_of_grid (raise_grid s e d) p

/-! ### The course of a port -/

/-- Where the module's grid stands and how far the stream of a port has come: the tick reached; whether the stream is accepted, the last tick
it named and the one it must name next, and its discarded waymarks. -/
def course (s : State) (p : UpPort) : Nat × Bool × Option Nat × Option Nat × Nat :=
  let t := stream s p
  (s.grid.now, t.accepted, t.lastNamed, t.next, t.wmDisc)

section Course

variable {s t : State} {p : UpPort}

theorem now_of_course (h : course t p = course s p) : t.grid.now = s.grid.now := congrArg (·.1) h
theorem accepted_of_course (h : course t p = course s p) : (stream t p).accepted = (stream s p).accepted := congrArg (·.2.1) h
theorem lastNamed_of_course (h : course t p = course s p) : (stream t p).lastNamed = (stream s p).lastNamed := congrArg (·.2.2.1) h
theorem next_of_course (h : course t p = course s p) : (stream t p).next = (stream s p).next := congrArg (·.2.2.2.1) h
theorem wmDisc_of_course (h : course t p = course s p) : (stream t p).wmDisc = (stream s p).wmDisc := congrArg (·.2.2.2.2) h

theorem course_of_grid (h : t.grid = s.grid) (p : UpPort) : course t p = course s p := by
  unfold course; rw [stream_of_grid h, h]

end Course

theorem course_ite (c : Prop) [Decidable c] (s t : State) (p : UpPort) :
    course (if c then s else t) p = if c then course s p else course t p := apply_ite (course · p) c s t

@[simp] theorem raise_course (s : State) (e : Nat) (d : List Byte) (p : UpPort) : course (raise s e d) p = course s p :=
  course_of_grid (raise_grid s e d) p
@[simp] theorem emits_course (s : State) (os : List Out) (p : UpPort) : course (emits s os) p = course s p := course_of_grid rfl p
@[simp] theorem forward_course (s : State) (word : Nat) (p : UpPort) : course (forward s word) p = course s p := course_of_grid rfl p
@[simp] theorem sendHopComp_course (s : State) (p : UpPort) : course (sendHopComp s) p = course s p :=
  course_of_grid (same_grid (m := 67108864) (by simp) (by decide)) p

/-- A change of one stream that leaves its acceptance, its ticks and its count. -/
theorem modStream_course (s : State) (q : UpPort) {f : StreamState → StreamState}
    (h : ∀ t, (f t).accepted = t.accepted ∧ (f t).lastNamed = t.lastNamed ∧ (f t).next = t.next ∧ (f t).wmDisc = t.wmDisc) (p : UpPort) :
    course (modStream s q f) p = course s p := by
  cases q <;> cases p <;> simp [course, modStream, stream, h]

@[simp] theorem regainSync_course (s : State) (p : UpPort) : course (regainSync s) p = course s p := by
  unfold regainSync
  split
  · rfl
  · cases p <;> rfl

@[simp] theorem markIrregular_course (s : State) (frame : Nat) (p : UpPort) : course (markIrregular s frame) p = course s p := by
  cases p <;> rfl

@[simp] theorem settleAgain_course (s : State) (p : UpPort) : course (settleAgain s) p = course s p := by cases p <;> rfl

@[simp] theorem switchTo_course (s : State) (q p : UpPort) : course (switchTo s q) p = course s p := by
  unfold switchTo
  split
  · rfl
  · dsimp only
    rw [raise_course]
    cases p <;> rfl

@[simp] theorem judgeConflict_course (s : State) (q : UpPort) (n arr : Nat) (p : UpPort) : course (judgeConflict s q n arr) p = course s p := by
  have judged (f : StreamState → Bool × Nat) :
      course (modStream s q fun u => { u with inconsistent := (f u).1, agree := (f u).2 }) p = course s p :=
    modStream_course s q (by intro; exact ⟨rfl, rfl, rfl, rfl⟩) p
  unfold judgeConflict
  dsimp only
  split
  · rfl
  · split
    · refine modStream_course s q (fun u => ?_) p
      split
      · split <;> exact ⟨rfl, rfl, rfl, rfl⟩
      · exact ⟨rfl, rfl, rfl, rfl⟩
    · split
      · exact judged fun u => (u.inconsistent, 0)
      · rw [raise_course]; exact judged fun _ => (true, 0)

/-- Following a stream sets the trigger and the flags, and may set SYNC. -/
@[simp] theorem follow_course (s : State) (q : UpPort) (f : WmFields) (arr : Nat) (p : UpPort) : course (follow s q f arr) p = course s p := by
  unfold follow
  dsimp only
  rw [course_ite, markIrregular_course, ite_self, course_ite, regainSync_course, ite_self]
  cases p <;> rfl

@[simp] theorem extrapolate_course (s : State) (n : Nat) (p : UpPort) : course (extrapolate s n) p = course s p := by
  unfold extrapolate
  dsimp only
  rw [course_ite, forward_course, ite_self]
  cases p <;> rfl

@[simp] theorem coastMiss_course (s : State) (n : Nat) (p : UpPort) : course (coastMiss s n) p = course s p := by
  have coasts : course { s with grid := { s.grid with coast := true, coastAge := 0, coastTicks := 0 } } p = course s p := by cases p <;> rfl
  unfold coastMiss
  simp only [course_ite, extrapolate_course, raise_course, coasts, ite_self]

@[simp] theorem takeUp_course (s : State) (q p : UpPort) : course (takeUp s q) p = course s p := by
  have forwarded (w : Nat → Nat) (l : List Nat) (s : State) : course (l.foldl (fun s k => forward s (w k)) s) p = course s p := by
    induction l generalizing s with
    | nil => rfl
    | cons k l ih => rw [List.foldl_cons, ih, forward_course]
  unfold takeUp
  dsimp only
  split
  · simp only [course_ite, forwarded, follow_course, ite_self]
  · rfl

@[simp] theorem afterMiss_course (s : State) (n : Nat) (p : UpPort) : course (afterMiss s n) p = course s p := by
  unfold afterMiss
  dsimp only
  split
  · rfl
  · split
    · rfl
    · split
      · exact coastMiss_course s n p
      · simp only [course_ite, takeUp_course, switchTo_course, coastMiss_course, ite_self]

@[simp] theorem startEcho_course (s : State) (q p : UpPort) : course (startEcho s q) p = course s p := by
  unfold startEcho
  dsimp only
  rw [emits_course]
  exact modStream_course s q (by intro; exact ⟨rfl, rfl, rfl, rfl⟩) p

end Sys2Proof.Proofs

/-! PROOFS. Ticks and virtual mains (R64, R66, R77, R505): what a tick does to time, to the grid and to the module's hold of the line, then
one theorem per command. -/

namespace Sys2Proof.Proofs

open Sys2Proof Sys2Proof.Machine Sys2Proof.Laws

/-! ### The pulse of a tick -/

/-- Of a view: power and time but for the coulomb gap that awaits its report, the tick reached, and the line held. -/
def pulseOf (v : View) : Option ElecState × Option Nat × Option Bool :=
  (v.elec.map fun e => { e with gapFrom := none }, v.grid.map (·.now), v.outr.map (·.owner))

/-- What the statements about ticks read of a state. The view leaves out every part but power, grid and outrider. -/
abbrev pulse (s : State) : Option ElecState × Option Nat × Option Bool := pulseOf (view 268419050 s)

theorem pulse_of_parts {s t : State} (elec : t.elec = s.elec) (now : t.grid.now = s.grid.now) (outr : t.outr = s.outr) :
    pulse t = pulse s := by
  show (some { t.elec with gapFrom := none }, some t.grid.now, some t.outr.owner) = _
  rw [elec, now, outr]
  rfl

/-- What simp needs to carry `pulseOf` inward. -/
theorem pulseOf_simps :
    (∀ (c : Prop) [Decidable c] (v w : View), pulseOf (if c then v else w) = if c then pulseOf v else pulseOf w) ∧
    (∀ i e cl g r fr fu es pb th ct ho pr ou p ca si hs ev re ac pa up st pe se fc,
      pulseOf ⟨i, e, cl, g, r, fr, fu, es, pb, th, ct, ho, pr, ou, p, ca, si, hs, ev, re, ac, pa, up, st, pe, se, fc⟩ =
        (e.map fun e => { e with gapFrom := none }, g.map (·.now), ou.map (·.owner))) ∧
    (∀ v : View, (v.elec.map fun e => { e with gapFrom := none }, v.grid.map (·.now), v.outr.map (·.owner)) = pulseOf v) ∧
    (∀ g : GridState, (pick 268419050 16 g).map (·.now) = some g.now) :=
  ⟨fun _ _ _ _ => apply_ite .., fun _ _ _ _ _ _ _ _ _ _ _ _ _ _ _ _ _ _ _ _ _ _ _ _ _ _ _ => rfl, fun _ => rfl, fun _ => rfl⟩

theorem foldl_pulse {α : Type} {f : State → α → State} (h : ∀ s a, pulse (f s a) = pulse s) (l : List α) (s : State) :
    pulse (l.foldl f s) = pulse s := by
  induction l generalizing s with
  | nil => rfl
  | cons a l ih => rw [List.foldl_cons, ih, h]

@[simp] theorem restartGap_pulse (s : State) (n : Nat) : pulse (restartGap s n) = pulse s := by
  unfold restartGap
  split
  · rfl
  · have cleared : pulse { s with elec := { s.elec with gapFrom := none } } = pulse s := rfl
    refine (foldl_pulse (fun t x => ?_) _ _).trans cleared
    simp [pulse]

/-- The inward writes move thresholds. -/
@[simp] theorem inwardWrites_pulse (s : State) (x : Ix) : pulse (inwardWrites s x) = pulse s := by
  have moved (f : Nat → Nat → Nat → Bool) (s : State) : pulse (moveThresholds s x f) = pulse s := by
    unfold moveThresholds
    refine foldl_pulse (fun t c => ?_) _ _
    dsimp only
    split <;> rfl
  unfold inwardWrites
  split
  · exact moved _ _
  · rfl

theorem coastCheck_course (s : State) (n : Nat) (p : UpPort) : course (coastCheck s n) p = course s p := by
  unfold coastCheck
  split
  · rfl
  · split
    · rfl
    · split
      · simp only [course_ite, takeUp_course, switchTo_course, coastMiss_course, ite_self]
      · exact coastMiss_course s _ p

theorem coastTick_course (s : State) (p : UpPort) : course (coastTick s) p = course s p := by
  have aged (ticks age : Nat) : course { s with grid := { s.grid with coastTicks := ticks, coastAge := age } } p = course s p := by
    cases p <;> rfl
  unfold coastTick
  simp only [course_ite, extrapolate_course, aged, ite_self]

theorem cycleDelays_course (s : State) (p : UpPort) : course (cycleDelays s) p = course s p := by
  have again (c : Bool) (t : State) (q : UpPort) : course (if c then startEcho t q else t) p = course t p := by
    rw [course_ite, startEcho_course, ite_self]
  have moved (t : StreamState) : (moveDelay t).accepted = t.accepted ∧ (moveDelay t).lastNamed = t.lastNamed ∧
      (moveDelay t).next = t.next ∧ (moveDelay t).wmDisc = t.wmDisc := by
    unfold moveDelay
    split <;> exact ⟨rfl, rfl, rfl, rfl⟩
  unfold cycleDelays
  dsimp only
  rw [again, again, again]
  simp only [course_ite, markIrregular_course, sendHopComp_course, ite_self]
  cases p <;> simp [course, stream, moved]

theorem cycleStart_course (s : State) (c : Nat) (p : UpPort) : course (cycleStart s c) p = course s p := by
  unfold cycleStart
  dsimp only
  rw [course_ite, regainSync_course, ite_self, cycleDelays_course]
  exact course_of_grid (same_grid (m := 268435438) (by simp) (by decide)) p

@[simp] theorem coastCheck_pulse (s : State) (n : Nat) : pulse (coastCheck s n) = pulse s := by
  have others : view 201981968 (coastCheck s n) = view 201981968 s := by simp
  exact pulse_of_parts (same_elec others (by decide)) (now_of_course (coastCheck_course s n .u0)) (same_outr others (by decide))

@[simp] theorem coastTick_pulse (s : State) : pulse (coastTick s) = pulse s := by
  have others : view 67108880 (coastTick s) = view 67108880 s := by simp
  exact pulse_of_parts (same_elec others (by decide)) (now_of_course (coastTick_course s .u0)) (same_outr others (by decide))

@[simp] theorem cycleStart_pulse (s : State) (c : Nat) : pulse (cycleStart s c) = pulse s := by
  have others : view 204342384 (cycleStart s c) = view 204342384 s := by simp
  exact pulse_of_parts (same_elec others (by decide)) (now_of_course (cycleStart_course s c .u0)) (same_outr others (by decide))

/-- A tick moves time by its length and the grid by one tick, and leaves power and the line as they were. -/
theorem tickCore_pulse (s : State) (i : TickIn) : pulse (tickCore s i) = pulse { s with
    elec := { s.elec with uptime := s.elec.uptime + i.len, lastTick := some s.grid.now }, grid := { s.grid with now := s.grid.now + 1 } } := by
  unfold tickCore
  simp [pulse, pulseOf_simps]

section Pulse

variable {s t : State}

theorem elec_of_pulse (h : pulse t = pulse s) : { t.elec with gapFrom := none } = { s.elec with gapFrom := none } :=
  Option.some.inj (congrArg Prod.fst h)
theorem now_of_pulse (h : pulse t = pulse s) : t.grid.now = s.grid.now := Option.some.inj (congrArg (·.2.1) h)
theorem owner_of_pulse (h : pulse t = pulse s) : t.outr.owner = s.outr.owner := Option.some.inj (congrArg (·.2.2) h)

end Pulse

theorem tickCore_now (s : State) (i : TickIn) : (tickCore s i).grid.now = s.grid.now + 1 := now_of_pulse (tickCore_pulse s i)
theorem tickCore_uptime (s : State) (i : TickIn) : (tickCore s i).elec.uptime = s.elec.uptime + i.len :=
  (congrArg ElecState.uptime (elec_of_pulse (tickCore_pulse s i)) :)
theorem tickCore_lastTick (s : State) (i : TickIn) : (tickCore s i).elec.lastTick = some s.grid.now :=
  (congrArg ElecState.lastTick (elec_of_pulse (tickCore_pulse s i)) :)

/-- A module that drives its paths does so after the tick. -/
theorem tickCore_drives {s : State} (i : TickIn) : drives (tickCore s i) = drives s := by
  have elec := elec_of_pulse (tickCore_pulse s i)
  have powered : (tickCore s i).elec.powered = s.elec.powered := (congrArg ElecState.powered elec :)
  have clockless : (tickCore s i).elec.clockless = s.elec.clockless := (congrArg ElecState.clockless elec :)
  have mode := tickCore_mode s i
  have owner : (tickCore s i).outr.owner = s.outr.owner := (owner_of_pulse (tickCore_pulse s i) :)
  simp only [drives, running, clocked, refPresent, powered, clockless, fw_of_mode mode, isActive_congr (role_of_mode mode), owner,
    tickCore_clk]

/-! ### The tick of a module that follows a stream -/

/-- R77: the trigger moves the grid by one tick and UPTIME by its length. -/
theorem tickTrigger_moves {s : State} (i : TickIn) (run : running s = true) (on : s.grid.on = true) (follows : s.grid.head = false) :
    runs (.tickTrigger i) s fun t => t.grid.now = s.grid.now + 1 ∧ t.elec.uptime = s.elec.uptime + i.len ∧
      t.elec.lastTick = some s.grid.now := by
  have outcome : exec (.tickTrigger i) s = .next (tickCore s i) := by
    show execTickTrigger i s = _
    simp [execTickTrigger, run, on, follows]
  exact ⟨_, outcome, tickCore_now s i, tickCore_uptime s i, tickCore_lastTick s i⟩

theorem freeRun_grid (s : State) (i : TickIn) : (freeRun s i).grid = s.grid := same_grid (m := 201982020) (by simp) (by decide)

theorem freeRun_uptime (s : State) (i : TickIn) : (freeRun s i).elec.uptime = s.elec.uptime + i.len := by
  have same : view 268435450 (freeRun s i) = view 268435450 { s with elec := { s.elec with uptime := s.elec.uptime + i.len } } := by
    simp [freeRun]
  rw [same_elec same (by decide)]

/-- Before a module has a grid only time passes (log 17). -/
theorem tickTrigger_runsFree {s : State} (i : TickIn) (run : running s = true) (off : s.grid.on = false) (step : 3 ≤ s.elec.step) :
    runs (.tickTrigger i) s fun t => t.grid = s.grid ∧ t.elec.uptime = s.elec.uptime + i.len := by
  have clock : clocked s = true := by simp only [running, Bool.and_eq_true] at run; exact run.1
  have outcome : exec (.tickTrigger i) s = .next (freeRun s i) := by
    show execTickTrigger i s = _
    simp [execTickTrigger, run, clock, off, step]
  exact ⟨_, outcome, freeRun_grid s i, freeRun_uptime s i⟩

/-! ### The tick of the angle source -/

theorem makeTick_others (s : State) : view 16 (makeTick s).1 = view 16 s := by simp

theorem slewJudge_now (s : State) : (slewJudge s).grid.now = s.grid.now := by unfold slewJudge; split <;> rfl

theorem makeTick_now (s : State) : (makeTick s).1.grid.now = s.grid.now := by
  unfold makeTick
  dsimp only
  split
  · rfl
  · exact slewJudge_now s

theorem judgeHalf_now (s : State) : (judgeHalf s).grid.now = s.grid.now := by
  unfold judgeHalf
  split
  · rfl
  · split <;> rfl

theorem drives_of_view {s t : State} (h : view 16 t = view 16 s) : drives t = drives s := by
  unfold drives running clocked refPresent isActive
  rw [same_elec h (by decide), same_clk h (by decide), same_pair h (by decide), same_outr h (by decide)]

/-- The angle source at the end of the tick that it has made, before its waymark goes out: the next one is named. -/
def sourceTicked (made : State × Nat) (i : TickIn) : State :=
  let t := judgeHalf (tickCore made.1 { i with len := made.2 })
  { t with grid := { t.grid with trig := t.elec.uptime + waymarkAdv t * made.2, named := t.grid.now + waymarkAdv t } }

/-- The waymark by which the angle source names a tick (R68, R69). -/
def sourceWaymark (s : State) : Nat :=
  waymarkWord { tick := s.grid.named, virt := s.grid.virt, slew := s.grid.slew, f60 := s.grid.f60, coast := false, age := 0 }

theorem exec_angleSourceTick_eq (i : TickIn) (s : State) : exec (.angleSourceTick i) s = .next (
    if !running s || !s.grid.on || !s.grid.head then s
    else
      let t := sourceTicked (makeTick s) i
      if drives t then emits t [.waymark .d0 (sourceWaymark t), .waymark .d1 (sourceWaymark t), .waymark .peer (sourceWaymark t)]
      else t) := by
  show execAngleSourceTick i s = _
  unfold execAngleSourceTick sourceTicked
  generalize makeTick s = made
  obtain ⟨u, len⟩ := made
  dsimp only
  generalize judgeHalf _ = t
  rfl

theorem sourceTicked_now (made : State × Nat) (i : TickIn) : (sourceTicked made i).grid.now = made.1.grid.now + 1 := by
  unfold sourceTicked
  dsimp only
  rw [judgeHalf_now, tickCore_now]

theorem sourceTicked_named (made : State × Nat) (i : TickIn) :
    (sourceTicked made i).grid.named = (sourceTicked made i).grid.now + waymarkAdv (sourceTicked made i) := by
  unfold sourceTicked
  dsimp only
  generalize judgeHalf _ = t
  rfl

theorem sourceTicked_uptime (made : State × Nat) (i : TickIn) : (sourceTicked made i).elec.uptime = made.1.elec.uptime + made.2 := by
  have judged (t : State) : (judgeHalf t).elec = t.elec := same_elec (m := 16) (by simp) (by decide)
  unfold sourceTicked
  dsimp only
  rw [judged, tickCore_uptime]

theorem sourceTicked_drives (made : State × Nat) (i : TickIn) : drives (sourceTicked made i) = drives made.1 := by
  have judged : view 16 (sourceTicked made i) = view 16 (tickCore made.1 { i with len := made.2 }) := by simp [sourceTicked]
  rw [drives_of_view judged, tickCore_drives]

/-- R64, R69, R505: the angle source makes its own tick, and names the tick A ahead on D0, D1 and the peer link. -/
theorem angleSourceTick_makes {s : State} (i : TickIn) (drive : drives s = true) (on : s.grid.on = true) (head : s.grid.head = true) :
    runs (.angleSourceTick i) s fun t => t.grid.now = s.grid.now + 1 ∧ t.elec.uptime = s.elec.uptime + (makeTick s).2 ∧
      t.grid.named = t.grid.now + waymarkAdv t ∧
      ∃ w, w = waymarkWord { tick := t.grid.named, virt := t.grid.virt, slew := t.grid.slew, f60 := t.grid.f60, coast := false, age := 0 } ∧
        [Out.waymark .d0 w, .waymark .d1 w, .waymark .peer w] <:+ t.sent := by
  have run : running s = true := by simp only [drives, Bool.and_eq_true] at drive; exact drive.1.1
  refine ⟨_, exec_angleSourceTick_eq i s, ?_⟩
  have now := sourceTicked_now (makeTick s) i
  have uptime := sourceTicked_uptime (makeTick s) i
  have named := sourceTicked_named (makeTick s) i
  have ticks := sourceTicked_drives (makeTick s) i
  rw [makeTick_now] at now
  rw [same_elec (makeTick_others s) (by decide)] at uptime
  rw [drives_of_view (makeTick_others s), drive] at ticks
  generalize sourceTicked (makeTick s) i = t at now uptime named ticks ⊢
  simp only [run, on, head, Bool.not_true, Bool.or_self, Bool.false_eq_true, if_false, ticks, if_true]
  exact ⟨now, uptime, named, _, rfl, List.suffix_append _ _⟩

/-! ### Virtual mains -/

/-- R66: virtual mains begin where the reference is gone. -/
theorem virtualMainsEntry_begins {s : State} (run : running s = true) (head : s.grid.head = true) (tracks : s.grid.virt = false)
    (gone : referenceGone s = true) :
    runs .virtualMainsEntry s fun t => t.grid.virt = true ∧ t.grid.slew = false ∧ newest t 14 = some [] := by
  have outcome : exec .virtualMainsEntry s = .next (raise { s with grid := { s.grid with virt := true, slew := false } } 14 []) := by
    show execVirtualMainsEntry s = _
    simp [execVirtualMainsEntry, run, head, tracks, gone]
  exact ⟨_, outcome, by rw [raise_grid], by rw [raise_grid], raise_newest _ 14 []⟩

/-- R65: within 1/4 tick of the mains the angle source tracks at once. -/
theorem slewJudge_of_near {s : State} (near : absR s.grid.angErr ≤ 1 / 4) :
    (slewJudge s).grid = { s.grid with slew := false, virt := false } := by
  unfold slewJudge; rw [if_pos near]

theorem slewJudge_of_far {s : State} (far : 1 / 4 < absR s.grid.angErr) : (slewJudge s).grid = { s.grid with slew := true } := by
  unfold slewJudge; rw [if_neg (not_le.mpr far)]

/-- R66: virtual mains end once the reference has been back for 100 half cycles, at once or by a slew. -/
theorem virtualMainsExit_returns {s : State} (off : Nat) (run : running s = true) (head : s.grid.head = true) (virt : s.grid.virt = true)
    (steady : s.grid.slew = false) (back : 100 ≤ s.grid.goodRefs) :
    runs (.virtualMainsExit off) s fun t => newest t 14 = some [] ∧
      (absR s.grid.angErr ≤ 1 / 4 → t.grid.virt = false ∧ t.grid.slew = false) ∧
      (1 / 4 < absR s.grid.angErr → t.grid.slew = true ∧ t.grid.virt = true) := by
  have outcome : exec (.virtualMainsExit off) s = .next (raise (slewJudge s) 14 []) := by
    show execVirtualMainsExit off s = _
    simp [execVirtualMainsExit, run, head, virt, steady, back]
  refine ⟨_, outcome, raise_newest _ 14 [], fun near => ?_, fun far => ?_⟩
  · rw [raise_grid, slewJudge_of_near near]
    exact ⟨rfl, rfl⟩
  · rw [raise_grid, slewJudge_of_far far]
    exact ⟨rfl, virt⟩

/-- Settles O4: one theorem above for each clause, in the order of the commands. -/
theorem ticksAndVirtualMainsTakeEffect : Obligations.TicksAndVirtualMainsTakeEffect := by
  unfold Obligations.TicksAndVirtualMainsTakeEffect
  refine ⟨?trigger, ?free, ?source, ?entry, ?exit⟩
  case trigger => exact fun s i run on follows => tickTrigger_moves i run on follows
  case free => exact fun s i run off step => tickTrigger_runsFree i run off step
  case source => exact fun s i drive on head => angleSourceTick_makes i drive on head
  case entry => exact fun s run head tracks gone => virtualMainsEntry_begins run head tracks gone
  case exit => exact fun s off run head virt steady back => virtualMainsExit_returns off run head virt steady back

end Sys2Proof.Proofs

/-! PROOFS. Waymarks and synchronisation (R80 to R84, R297): what a waymark, a miss and a stream newly accepted do to their stream, what
losing and regaining synchronisation do to the grid, then one theorem per command. -/

namespace Sys2Proof.Proofs

open Sys2Proof Sys2Proof.Machine Sys2Proof.Laws

/-! ### A valid waymark -/

/-- A stream that has delivered a valid waymark. -/
def tookWaymark (f : WmFields) (word arr : Nat) (t : StreamState) : StreamState :=
  { t with discards := 0, next := some (f.tick + 1), lastNamed := some f.tick, arrivals := (arr :: t.arrivals).take 5,
           coast := f.coast, coastAge := f.age, lastWord := word, validTicks := t.validTicks + 1 }

/-- What follows on a valid waymark, a change of port or of the trigger, leaves the stream as the waymark left it. -/
theorem validWaymark_course (s : State) (p : UpPort) (f : WmFields) (word arr : Nat) :
    course (validWaymark s p f word arr) p = course (modStream s p (tookWaymark f word arr)) p := by
  unfold validWaymark
  dsimp only
  rw [show (fun t : StreamState => { t with
    discards := 0, next := some (f.tick + 1), lastNamed := some f.tick, arrivals := (arr :: t.arrivals).take 5,
    coast := f.coast, coastAge := f.age, lastWord := word, validTicks := t.validTicks + 1 }) = tookWaymark f word arr from rfl]
  simp only [course_ite, forward_course, follow_course, settleAgain_course, switchTo_course, judgeConflict_course, ite_self]

/-! ### A stream accepted -/

theorem missedSchedule_grid (s : State) : (missedSchedule s).grid = s.grid := same_grid (m := 210370560) (by simp) (by decide)

theorem streamAccepted_accepted (s : State) (p : UpPort) (f : WmFields) : (stream (streamAccepted s p f) p).accepted = true := by
  unfold streamAccepted
  dsimp only
  generalize began : (modStream s p fun t => { t with accepted := true, discards := 0, inconsistent := false, agree := 0 }) = u
  have accepted : (stream u p).accepted = true := by rw [← began, stream_modStream]
  split
  · exact accepted
  · split
    · rw [stream_of_grid (missedSchedule_grid _)]
      (repeat' split) <;> cases p <;> exact accepted
    · split
      · have same : course (settleAgain (if p = .peer then u else switchTo u p)) p = course u p := by
          simp only [settleAgain_course, course_ite, switchTo_course, ite_self]
        have resync (t : State) (k : Nat) : stream { t with grid := { t.grid with resync := some k } } p = stream t p := by cases p <;> rfl
        rw [resync, accepted_of_course same, accepted]
      · exact accepted

/-! ### A discarded waymark -/

/-- A stream one of whose waymarks is discarded. -/
def discarded (t : StreamState) : StreamState :=
  let t := { t with
    wmDisc := sat 0xFFFF (t.wmDisc + 1), discards := t.discards + 1, next := t.next.map (· + 1), validTicks := 0, arrivals := [], agree := 0 }
  if t.discards = 8 then { t with accepted := false, acq := 0, discards := 0, next := none } else t

theorem discarded_wmDisc (t : StreamState) : (discarded t).wmDisc = sat 0xFFFF (t.wmDisc + 1) := by
  unfold discarded
  dsimp only
  split <;> rfl

theorem discarded_accepted {t : StreamState} (seven : t.discards = 7) : (discarded t).accepted = false := by simp [discarded, seven]

/-- What follows on a discard leaves the stream as the discard left it. -/
theorem discardWaymark_course (s : State) (p : UpPort) : course (discardWaymark s p) p = course (modStream s p discarded) p := by
  unfold discardWaymark
  dsimp only
  split
  · rfl
  · rw [afterMiss_course]; rfl

/-! ### What comes on a port -/

/-- A stream that the sixteenth waymark in a row has reached. -/
def sixteenth (f : WmFields) (arr : Nat) (t : StreamState) : StreamState :=
  { t with acq := 16, next := some (f.tick + 1), arrivals := (arr :: t.arrivals).take 5 }

/-- A stream that delivers its first tick. -/
def delivered (f : WmFields) (word : Nat) (t : StreamState) : StreamState :=
  { t with lastNamed := some f.tick, coast := f.coast, coastAge := f.age, lastWord := word, validTicks := 1 }

section Received

variable {s : State} {p : UpPort} {f : WmFrame} (arr : Nat) (run : running s = true) (used : portUsed s p = true)
include run used

/-- R80: a waymark of an accepted stream that names the expected tick is taken, and the next tick is expected. -/
theorem waymarkReceived_taken (good : f.good = true) (accepted : (stream s p).accepted = true)
    (next : (stream s p).next = some (readWaymark f.word).tick)
    (rises : ∀ m, (stream s p).lastNamed = some m → m / 128 ≤ (readWaymark f.word).tick / 128) :
    runs (.waymarkReceived p f arr) s fun t => (stream t p).accepted = true ∧
      (stream t p).lastNamed = some (readWaymark f.word).tick ∧ (stream t p).next = some ((readWaymark f.word).tick + 1) := by
  have noFault : ((stream s p).lastNamed.map (· / 128)).any (fun m => decide ((readWaymark f.word).tick / 128 < m)) = false := by
    cases named : (stream s p).lastNamed with
    | none => rfl
    | some m => simpa using rises m named
  have outcome : exec (.waymarkReceived p f arr) s = .next
      (validWaymark (modStream s p fun t => { t with linkUp := true }) p (readWaymark f.word) f.word arr) := by
    show execWaymarkReceived p f arr s = _
    simp [execWaymarkReceived, run, used, good, accepted, next, noFault]
  have taken := validWaymark_course (modStream s p fun t => { t with linkUp := true }) p (readWaymark f.word) f.word arr
  refine ⟨_, outcome, ?_, ?_, ?_⟩
  · rw [accepted_of_course taken, stream_modStream, stream_modStream]; exact accepted
  · rw [lastNamed_of_course taken, stream_modStream]; rfl
  · rw [next_of_course taken, stream_modStream]; rfl

/-- R80: the sixteenth waymark in a row accepts the stream. -/
theorem waymarkReceived_accepts (good : f.good = true) (idle : (stream s p).accepted = false) (acq : (stream s p).acq = 15)
    (next : (stream s p).next = some (readWaymark f.word).tick)
    (rises : ∀ m, recordCycle s = some m → m ≤ (readWaymark f.word).tick / 128) :
    runs (.waymarkReceived p f arr) s fun t => (stream t p).accepted = true := by
  have record : recordCycle (modStream s p fun t => { t with linkUp := true }) = recordCycle s := by cases p <;> rfl
  have noFault : (recordCycle s).any (fun m => decide ((readWaymark f.word).tick / 128 < m)) = false := by
    cases named : recordCycle s with
    | none => rfl
    | some m => simpa using rises m named
  let u := modStream (modStream (modStream s p fun t => { t with linkUp := true }) p (sixteenth (readWaymark f.word) arr)) p
    (delivered (readWaymark f.word) f.word)
  let v := streamAccepted u p (readWaymark f.word)
  have outcome : exec (.waymarkReceived p f arr) s = .next (
      if v.grid.resync.isNone && !v.grid.head && curStream v = p then
        (let w := follow v p (readWaymark f.word) arr
         if drives w then forward w f.word else w)
      else v) := by
    show execWaymarkReceived p f arr s = _
    simp [execWaymarkReceived, run, used, good, idle, acq, next, record, noFault, u, v]
    rfl
  refine ⟨_, outcome, ?_⟩
  dsimp only
  rw [accepted_of_course (s := v), streamAccepted_accepted]
  simp only [course_ite, forward_course, follow_course, ite_self]

/-- R80: a waymark with a bad CRC is discarded and counted. -/
theorem waymarkReceived_discards (bad : f.good = false) :
    runs (.waymarkReceived p f arr) s fun t => (stream t p).wmDisc = sat 0xFFFF ((stream s p).wmDisc + 1) := by
  have outcome : exec (.waymarkReceived p f arr) s = .next (
      if (stream s p).accepted then discardWaymark s p
      else modStream s p fun t => { t with acq := 0, next := none, arrivals := [], wmDisc := sat 0xFFFF (t.wmDisc + 1) }) := by
    show execWaymarkReceived p f arr s = _
    simp [execWaymarkReceived, run, used, bad]
  refine ⟨_, outcome, ?_⟩
  dsimp only
  split
  · rw [wmDisc_of_course (discardWaymark_course s p), stream_modStream, discarded_wmDisc]
  · rw [stream_modStream]

end Received

/-- R80: a waymark that does not come is discarded and counted, and the eighth in a row ends acceptance. -/
theorem waymarkMissed_discards {s : State} {p : UpPort} (run : running s = true) (used : portUsed s p = true)
    (accepted : (stream s p).accepted = true) (awaited : (stream s p).next.isSome = true) :
    runs (.waymarkMissed p) s fun t => (stream t p).wmDisc = sat 0xFFFF ((stream s p).wmDisc + 1) ∧
      ((stream s p).discards = 7 → (stream t p).accepted = false) := by
  have outcome : exec (.waymarkMissed p) s = .next (discardWaymark s p) := by
    show execWaymarkMissed p s = _
    simp [execWaymarkMissed, run, used, accepted, awaited]
  refine ⟨_, outcome, ?_, fun seven => ?_⟩
  · rw [wmDisc_of_course (discardWaymark_course s p), stream_modStream, discarded_wmDisc]
  · rw [accepted_of_course (discardWaymark_course s p), stream_modStream, discarded_accepted seven]


/-! ### Synchronisation -/

theorem setHold_grid (s : State) (m : HoldMode) (cause : Nat) : (setHold s m cause).grid = s.grid :=
  same_grid (m := 201986048) (by simp) (by decide)
theorem canUnsync_grid (s : State) : (canUnsync s).grid = s.grid := same_grid (m := 202047488) (by simp) (by decide)

/-- The grid of a module that has lost synchronisation. -/
def unsynced (g : GridState) : GridState :=
  { g with sync := false, holdFrom := none, syncAt := none, u0 := { g.u0 with lastNamed := none }, u1 := { g.u1 with lastNamed := none },
           peer := { g.peer with lastNamed := none } }

theorem loseSync_grid (s : State) : (loseSync s).grid = unsynced s.grid := by
  unfold loseSync
  dsimp only
  rw [canUnsync_grid, setHold_grid]
  rfl

/-- R82: SYNC is lost once COAST_AGE has reached 8. -/
theorem unsynchronised_loses {s : State} (run : running s = true) (follows : s.grid.head = false) (sync : s.grid.sync = true)
    (coast : s.grid.coast = true) (age : 8 ≤ s.grid.coastAge) :
    runs .unsynchronised s fun t => t.grid.sync = false ∧ newest t 10 = some [] := by
  have outcome : exec .unsynchronised s = .next (raise (loseSync s) 10 []) := by
    show execUnsynchronised s = _
    simp [execUnsynchronised, run, follows, sync, coast, age]
  exact ⟨_, outcome, by rw [raise_grid, loseSync_grid]; rfl, raise_newest _ 10 []⟩

/-- Regaining synchronisation touches SYNC and what waits for it alone. -/
theorem regainSync_grid (s : State) :
    ∃ sync at_ hold, (regainSync s).grid = { s.grid with sync := sync, syncAt := at_, holdFrom := hold } := by
  unfold regainSync
  split
  · exact ⟨_, _, _, rfl⟩
  · exact ⟨_, _, _, rfl⟩

theorem leaveHead_head (s : State) (cause : Nat) : (leaveHead s cause).grid.head = false := by
  unfold leaveHead
  split
  · next follows => simpa using follows
  · dsimp only
    split
    · split
      · rw [raise_grid, loseSync_grid, setHold_grid]; rfl
      · rw [setHold_grid]
    · rw [setHold_grid]

theorem leaveHead_waymarkAdv (s : State) (cause : Nat) : waymarkAdv (leaveHead s cause) = waymarkAdv s := by
  have kept : view 202051600 (leaveHead s cause) = view 202051600 s := by simp
  have acting : (leaveHead s cause).par.acting = s.par.acting := congrArg Prod.fst (same_acting kept (by decide))
  unfold waymarkAdv parN
  rw [acting, same_ident kept (by decide)]

/-- R83: the module moves onto the stream accepted again: its tick becomes the one last named less A, and a yielding angle source leaves
its role. -/
theorem resynchronise_moves {s : State} {k n : Nat} (off : Int) (run : running s = true) (waits : s.grid.resync = some k)
    (accepted : (stream s (UpPort.ofNum k)).accepted = true) (named : (stream s (UpPort.ofNum k)).lastNamed = some n)
    (free : s.grid.head = false ∨ s.grid.yielding = true) :
    runs (.resynchronise off) s fun t => t.grid.resync = none ∧ t.grid.head = false ∧ t.grid.now = n - waymarkAdv s := by
  have yields : (s.grid.head && !s.grid.yielding) = false := by rcases free with h | h <;> simp [h]
  have marked (c : Prop) [Decidable c] (u : State) (frame : Nat) :
      (if c then markIrregular u frame else u).grid.head = u.grid.head := by split <;> rfl
  refine ⟨_, (rfl : exec (.resynchronise off) s = .next _), ?_⟩
  simp only [waits, named, run, accepted, yields, Bool.not_true, Bool.or_false, Bool.false_eq_true, if_false]
  split
  · exact ⟨rfl, (marked _ _ _).trans (leaveHead_head s 4), congrArg (n - ·) (leaveHead_waymarkAdv s 4)⟩
  · next =>
    generalize moved : State.mk .. = w
    obtain ⟨sync, at_, hold, regained⟩ := regainSync_grid w
    rw [regained, ← moved]
    exact ⟨rfl, (marked _ _ _).trans (leaveHead_head s 4), congrArg (n - ·) (leaveHead_waymarkAdv s 4)⟩

/-! ### The ports and the roles -/

/-- R84: U0, valid again for UPSTREAM_RETURN cycles, is selected at a cycle boundary. -/
theorem upstreamReturn_selects {s : State} (run : running s = true) (sel : s.grid.sel = .one) (accepted : s.grid.u0.accepted = true)
    (consistent : s.grid.u0.inconsistent = false) (lasting : 128 * parN s 0x0205 ≤ s.grid.u0.validTicks) (boundary : curTick s = 0)
    (follows : s.grid.head = false) (on : curStream s = .u1) :
    runs .upstreamReturn s fun t => t.grid.sel = .zero ∧ newest t 11 = some [] := by
  have outcome : exec .upstreamReturn s = .next (switchTo s .u0) := by
    show execUpstreamReturn s = _
    simp [execUpstreamReturn, run, sel, accepted, consistent, lasting, boundary, follows]
  refine ⟨_, outcome, ?_⟩
  unfold switchTo
  rw [if_neg (by simp [on])]
  exact ⟨by rw [raise_grid]; rfl, raise_newest _ 11 []⟩

/-- Checking the budget touches, of the grid, its own verdict alone. -/
theorem budgetCheck_grid (s : State) (dMax : Nat) : (budgetCheck s dMax).grid = { s.grid with budgetShort := budgetFails s dMax } := by
  unfold budgetCheck
  dsimp only
  split
  · rw [setHold_grid]
    split
    · rfl
    · rw [raise_grid]
  · rfl

/-- A position that becomes angle source heads the chain and no longer coasts. -/
theorem becomeHead_grid {s : State} (follows : s.grid.head = false) (cause : Nat) :
    (becomeHead s cause).grid.head = true ∧ (becomeHead s cause).grid.coast = false := by
  unfold becomeHead
  rw [if_neg (by simp [follows])]
  dsimp only
  rw [apply_ite State.grid, setHold_grid, ite_self, budgetCheck_grid]
  exact ⟨rfl, rfl⟩

/-- R297: the position of rank r that coasts with COAST_AGE r becomes angle source. -/
theorem successorBecomesSource_heads {s : State} (drive : drives s = true) (follows : s.grid.head = false) (coast : s.grid.coast = true)
    (rank : 2 ≤ ownRank s) (age : s.grid.coastAge = ownRank s) (sync : s.grid.sync = true) :
    runs .successorBecomesSource s fun t => t.grid.head = true ∧ t.grid.coast = false := by
  have outcome : exec .successorBecomesSource s = .next (becomeHead s 3) := by
    show execSuccessorBecomesSource s = _
    simp [execSuccessorBecomesSource, drive, follows, coast, rank, age, sync]
  exact ⟨_, outcome, becomeHead_grid follows 3⟩

/-- Settles O5: each command is answered with the state that R80, R82, R83, R84 and R297 give. -/
theorem waymarkCommandsTakeEffect : Obligations.WaymarkCommandsTakeEffect := by
  refine ⟨?taken, ?accepts, ?discards, ?missed, ?unsynchronised, ?resynchronise, ?upstreamReturn, ?successor⟩
  case taken => intro s p f arr run used good accepted next; exact waymarkReceived_taken arr run used good accepted next
  case accepts => intro s p f arr run used good idle acq next; exact waymarkReceived_accepts arr run used good idle acq next
  case discards => intro s p f arr run used; exact waymarkReceived_discards arr run used
  case missed => intro s p; exact waymarkMissed_discards
  case unsynchronised => intro s; exact unsynchronised_loses
  case resynchronise => intro s off k n; exact resynchronise_moves off
  case upstreamReturn => intro s; exact upstreamReturn_selects
  case successor => intro s; exact successorBecomesSource_heads

end Sys2Proof.Proofs

/-! PROOFS. Echoes and traces (R73 to R76, R86): the count of a measurement in progress, then one theorem per command. -/

namespace Sys2Proof.Proofs

open Sys2Proof Sys2Proof.Machine Sys2Proof.Laws

theorem running_of_drives {s : State} (drive : drives s = true) : running s = true := by
  simp only [drives, Bool.and_eq_true] at drive
  exact drive.1.1
theorem isActive_of_drives {s : State} (drive : drives s = true) : isActive s = true := by
  simp only [drives, Bool.and_eq_true] at drive
  exact drive.1.2

/-! ### Answers -/

/-- The answer to an echo goes out where the request came in (Tables 2-14 and 12-13). -/
def echoAnswer (port : DnPort) (payload : List Byte) : Out :=
  match port with
  | .d0 => .ryran true .zero 0x05 payload
  | .d1 => .ryran true .one 0x05 payload
  | .peer => .peer 0x38 payload

/-- R75: a good request that does not fall inside a waymark is answered. -/
theorem echoReq_answers {s : State} {f : RyrFrame} (port : DnPort) (drive : drives s = true) (good : f.good 0x04 4 = true) :
    runs (.echoReq port f false) s fun t =>
      t.sent = s.sent ++ [echoAnswer port (echoPayload s (byteAt f.payload 2) (byteAt f.payload 3))] := by
  refine ⟨_, (rfl : exec (.echoReq port f false) s = .next _), ?_⟩
  cases port <;> simp [drive, good, echoAnswer]

/-! ### A measurement in progress -/

/-- Before its 64th echo is answered or lost a measurement goes on. -/
theorem endEcho_of_few {t : StreamState} (few : t.echo.got + t.echo.lost < 64) : endEcho t = t := by
  unfold endEcho
  exact if_pos few

/-- Counting an echo that is not the last changes no stream. -/
theorem echoCounted_stream {s : State} {p : UpPort} (few : (stream s p).echo.got + (stream s p).echo.lost < 64) :
    stream (echoCounted s p) p = stream s p := by
  have depth (t : State) (d : Nat) : stream { t with grid := { t.grid with depth := d } } p = stream t p := by cases p <;> rfl
  have counted : stream (modStream s p endEcho) p = stream s p := by rw [stream_modStream, endEcho_of_few few]
  unfold echoCounted
  simp only [decide_eq_false (not_le.mpr few), Bool.false_and, Bool.false_eq_true, if_false]
  split
  · rw [depth, counted]
  · exact counted

/-- R75: an echo that comes back is counted, and its round trip summed. -/
theorem echoRep_counts {s : State} {p : Ix} {f : RyrFrame} (rtt : Nat) (run : running s = true) (good : f.good 0x05 18 = true)
    (port : byteAt f.payload 1 = p.num) (busy : (stream s (upOf p)).echo.busy = true)
    (few : (stream s (upOf p)).echo.got + (stream s (upOf p)).echo.lost < 63) :
    runs (.echoRep p f rtt) s fun t => (stream t (upOf p)).echo.got = (stream s (upOf p)).echo.got + 1 ∧
      (stream t (upOf p)).echo.sum = (stream s (upOf p)).echo.sum + rtt := by
  have outcome : exec (.echoRep p f rtt) s = .next (takeEcho s (upOf p) f.payload rtt) := by
    show execEchoRep p f rtt s = _
    simp [execEchoRep, run, good, port]
  refine ⟨_, outcome, ?_⟩
  unfold takeEcho
  simp only [busy, Bool.not_true, Bool.false_eq_true, if_false]
  rw [echoCounted_stream (by rw [stream_modStream]; dsimp only; omega), stream_modStream]
  exact ⟨rfl, rfl⟩

/-- R75: an echo that does not come back is counted as lost. -/
theorem echoTimeout_counts {s : State} {p : UpPort} (run : running s = true) (busy : (stream s p).echo.busy = true)
    (few : (stream s p).echo.got + (stream s p).echo.lost < 63) :
    runs (.echoTimeout p) s fun t => (stream t p).echo.lost = (stream s p).echo.lost + 1 := by
  have outcome : exec (.echoTimeout p) s =
      .next (echoCounted (modStream s p fun t => { t with echo := { t.echo with lost := t.echo.lost + 1 } }) p) := by
    show execEchoTimeout p s = _
    simp [execEchoTimeout, run, busy]
  refine ⟨_, outcome, ?_⟩
  dsimp only
  rw [echoCounted_stream (by rw [stream_modStream]; dsimp only; omega), stream_modStream]

/-- R74: a measurement of 64 echoes begins on each connected upstream port, of which U0 is the only one here. -/
theorem hopRemeasure_begins {s : State} (drive : drives s = true) (up : s.grid.u0.linkUp = true) (down : s.grid.u1.linkUp = false) :
    runs .hopRemeasure s fun t => t.grid.u0.echo.busy = true ∧ t.grid.u0.echo.sent = 64 ∧ t.grid.u0.echo.got = 0 ∧
      t.sent.length = s.sent.length + 64 := by
  have first : measures s .u0 = true := by simp [measures, drive, stream, up, portUsed]
  have second : measures (startEcho s .u0) .u1 = false := by
    have link : (stream (startEcho s .u0) .u1).linkUp = false := down
    simp [measures, link]
  have third : measures (startEcho s .u0) .peer = false := by
    have active : isActive (startEcho s .u0) = true := isActive_of_drives drive
    simp [measures, active]
  have outcome : exec .hopRemeasure s = .next (startEcho s .u0) := by
    show execHopRemeasure s = _
    simp [execHopRemeasure, first, second, third]
  refine ⟨_, outcome, rfl, rfl, rfl, ?_⟩
  show (s.sent ++ echoRequests _ .u0).length = _
  rw [List.length_append, echoRequests, List.length_map, List.length_range]

/-! ### Traces -/

section Trace

variable {s : State} {f : RyrFrame} (p : Ix) (drive : drives s = true) (good : f.good 0x06 4 = true)
include drive good

/-- R86: a module's own trace that comes back within 1 s shows a loop through U1, which is given up. -/
theorem loopTrace_findsLoop (own : beAt f.payload 0 2 = treePosition s)
    (recent : s.grid.traceAt.any (fun u => decide (s.elec.uptime ≤ u + sec 1)) = true) :
    runs (.loopTrace p f) s fun t => t.grid.u1Loop = true ∧ t.grid.u1.accepted = false ∧ newest t 13 = some [] := by
  have looped (t : State) : (switchTo t .u0).grid.u1Loop = t.grid.u1Loop := by
    unfold switchTo
    split
    · rfl
    · dsimp only; rw [raise_grid]; rfl
  have refused (t : State) : (switchTo t .u0).grid.u1.accepted = t.grid.u1.accepted := accepted_of_course (switchTo_course t .u0 .u1)
  have outcome : exec (.loopTrace p f) s = .next (
      let t := modStream s .u1 fun t => { t with accepted := false, acq := 0, next := none, arrivals := [] }
      let t := { t with grid := { t.grid with u1Loop := true, traceAt := none } }
      raise (if t.grid.sel = .one then switchTo t .u0 else t) 13 []) := by
    show execLoopTrace p f s = _
    simp only [execLoopTrace, drive, good, own, recent, beq_self_eq_true, Bool.and_self, Bool.not_true, Bool.false_eq_true, if_false, if_true]
  refine ⟨_, outcome, ?_, ?_, raise_newest _ 13 []⟩
  · rw [raise_grid]
    split
    · rw [looped]
    · rfl
  · rw [raise_grid]
    split
    · rw [refused]; rfl
    · rfl

/-- R86: another module's trace goes on upstream with HOPS raised. -/
theorem loopTrace_forwards (other : beAt f.payload 0 2 ≠ treePosition s) (follows : s.grid.head = false)
    (hops : beAt f.payload 2 2 < 0xFFFF) :
    runs (.loopTrace p f) s fun t =>
      t.sent = s.sent ++ [.ryran false s.grid.sel 0x06 (beBytes 2 (beAt f.payload 0 2) ++ beBytes 2 (beAt f.payload 2 2 + 1))] := by
  have outcome : exec (.loopTrace p f) s = .next
      (emit s (.ryran false s.grid.sel 0x06 (beBytes 2 (beAt f.payload 0 2) ++ beBytes 2 (beAt f.payload 2 2 + 1)))) := by
    show execLoopTrace p f s = _
    simp [execLoopTrace, drive, good, other, follows, hops]
  exact ⟨_, outcome, rfl⟩

end Trace

/-- Settles O6: one theorem above for each clause, in the order of the commands. -/
theorem echoAndTraceCommandsTakeEffect : Obligations.EchoAndTraceCommandsTakeEffect := by
  unfold Obligations.EchoAndTraceCommandsTakeEffect
  refine ⟨?d0, ?d1, ?peer, ?reply, ?timeout, ?remeasure, ?own, ?other⟩
  case d0 => exact fun s f drive good => echoReq_answers .d0 drive good
  case d1 => exact fun s f drive good => echoReq_answers .d1 drive good
  case peer => exact fun s f drive good => echoReq_answers .peer drive good
  case reply => exact fun s p f rtt run good port busy few => echoRep_counts rtt run good port busy few
  case timeout => exact fun s p run busy few => echoTimeout_counts run busy few
  case remeasure => exact fun s drive up down => hopRemeasure_begins drive up down
  case own => exact fun s p f drive good own recent => loopTrace_findsLoop p drive good own recent
  case other => exact fun s p f drive good other follows hops => loopTrace_forwards p drive good other follows hops

end Sys2Proof.Proofs

/-! PROOFS. The finding that the parameters of the pair differ (R349): EV 043 is raised once for each time the digests begin to differ
(log 166), so a later finding of the same difference does not report the digest that the partner has by then. -/

namespace Sys2Proof.Proofs

open Sys2Proof Sys2Proof.Machine Sys2Proof.Laws

/-- Log 166: a difference of the digests already reported is not reported again; the finding clears PARAM_MATCH alone. -/
theorem pairParamMismatch_reported {s : State} {r : PeerRec} {u : Nat} (run : running s = true) (up : s.pair.linkUp = true)
    (partner : s.pair.peer = some r) (differ : r.digest ≠ parDigest s) (began : s.pair.digestUp = some u)
    (long : passed s u (sec 1) = true) (reported : KV.get? s.ev.rate (43, 0) = some u) :
    exec .pairParamMismatch s = .next { s with pair := { s.pair with paramMatch := false } } := by
  have found : (running s && s.pair.linkUp && r.digest != parDigest s && s.pair.digestUp.any fun u => passed s u (sec 1)) = true := by
    rw [run, up, bne_iff_ne.mpr differ, began, Option.any_some, long]; rfl
  show execPairParamMismatch s = _
  unfold execPairParamMismatch raiseOnce
  rw [partner]
  dsimp only
  rw [if_pos found, if_pos (by rw [began]; exact reported)]

/-! ### A partner whose digest changes after the report -/

/-- What PEER_STATUS says of a partner with the given parameter digest. -/
def partnerWith (digest : Nat) : PeerRec := ⟨true, 0, 0xFF, 1, 0, 0, 0xFFFF, digest, Two.both (0, 0, 0)⟩

/-- EV 043 as the module raised it when its partner's digest was the given one. -/
def digestReport (digest : Nat) : Occ :=
  { evt := 43, at_ := Stamp.zero, sync := true, active := true, slotB := false, deferred := false,
    data := u32 (parDigest State.reset) ++ u32 digest }

/-- A module that has reported that its partner's digest, then `first`, differs from its own; the partner's digest has since become `later`. -/
def reportedCard (first later : Nat) : State :=
  { State.reset with
    elec := { powered := true, step := 12, fw := true, uptime := 8000000000000 }
    clk := { refOk := Two.both true, lock := true, bypass := false, cpuPll := true, engPll := true, fabPll := true, ctlPll := true }
    pair := { linkUp := true, peer := some (partnerWith later), digestUp := some 0 }
    ev := { rate := [((43, 0), 0)], last := [(43, digestReport first)] } }

section Reported

variable (first later : Nat)

/-- The dictionary of the module is that of a reset. -/
theorem reportedCard_parDigest : parDigest (reportedCard first later) = parDigest State.reset := by
  have entry : digestEntry (reportedCard first later) = digestEntry State.reset := rfl
  unfold parDigest
  rw [entry]
  rfl

/-- The newest EV 043 is the first report, whatever becomes of the pair. -/
theorem reportedCard_newest (p : PairState) : newest { reportedCard first later with pair := p } 43 = some (digestReport first).data := rfl

end Reported

/-- Were PAIR_PARAM_MISMATCH to report as claimed, the partner's first and later digests would have the same four bytes. -/
theorem u32_of_claimed (claimed : Obligations.PeerLinkCommandsTakeEffect) {first later : Nat} (differ : later ≠ parDigest State.reset) :
    u32 first = u32 later := by
  obtain ⟨-, -, -, mismatch, -⟩ := claimed
  have differ' : later ≠ parDigest (reportedCard first later) := by rw [reportedCard_parDigest]; exact differ
  have outcome := pairParamMismatch_reported (s := reportedCard first later) rfl rfl rfl differ' rfl rfl rfl
  obtain ⟨t, ran, -, newer⟩ := mismatch (reportedCard first later) (partnerWith later) 0 rfl rfl rfl differ' rfl rfl
  cases outcome.symm.trans ran
  rw [reportedCard_newest, reportedCard_parDigest] at newer
  exact List.append_cancel_left (Option.some.inj newer)

/-- Four bytes tell a number from its successor. -/
theorem u32_ne_succ (n : Nat) : u32 n ≠ u32 (n + 1) := by
  intro same
  have lowest : toByte n = toByte (n + 1) := (List.cons.inj same).1
  have numbers := congrArg BitVec.toNat lowest
  rw [toByte, toByte, BitVec.toNat_ofNat, BitVec.toNat_ofNat] at numbers
  omega

/-- Refutes O23: a partner's digest differs by 1 from the module's own, is reported, and then comes to differ by 2; PAIR_PARAM_MISMATCH raises
nothing (log 166), and the newest EV 043 keeps the first digest. -/
theorem not_peerLinkCommandsTakeEffect : ¬ Obligations.PeerLinkCommandsTakeEffect := by
  intro claimed
  have differ : parDigest State.reset + 1 + 1 ≠ parDigest State.reset := by omega
  exact u32_ne_succ _ (u32_of_claimed claimed differ)

end Sys2Proof.Proofs

/-! PROOFS. The caravan rings: what a change of a unit, a frame sent and an event raised make of a ring, and that what has gone out stays
out. -/

namespace Sys2Proof.Proofs

open Sys2Proof Sys2Proof.Machine Sys2Proof.Laws

/-! ### A ring that the module drives -/

theorem drivesRing_iff {s : State} {r : Ix} {compat : Bool} :
    drivesRing s r compat = true ↔ drives s = true ∧ (car s r).served = true ∧ (car s r).compat = compat := by
  simp only [drivesRing, Bool.and_eq_true, beq_iff_eq, and_assoc]

/-! ### The ring after each operation -/

theorem car_of_ring {s t : State} (h : t.ring = s.ring) (r : Ix) : car t r = car s r := by unfold car; rw [h]

theorem foldl_ring {α : Type} (f : State → α → State) (h : ∀ s a, (f s a).ring = s.ring) (l : List α) (s : State) :
    (l.foldl f s).ring = s.ring :=
  List.foldlRecOn (motive := fun t : State => t.ring = s.ring) l f rfl fun t same a _ => (h t a).trans same

@[simp] theorem car_modCar (s : State) (r : Ix) (f : RingState → RingState) : car (modCar s r f) r = f (car s r) := two_get_modify _ _ _
@[simp] theorem car_emit (s : State) (o : Out) (r : Ix) : car (emit s o) r = car s r := rfl
@[simp] theorem car_emits (s : State) (os : List Out) (r : Ix) : car (emits s os) r = car s r := rfl
@[simp] theorem car_raise (s : State) (e : Nat) (d : List Byte) (r : Ix) : car (raise s e d) r = car s r := car_of_ring (raise_ring s e d) r
@[simp] theorem car_raiseIf (s : State) (c : Bool) (e : Nat) (d : List Byte) (r : Ix) : car (raiseIf s c e d) r = car s r :=
  car_of_ring (raiseIf_ring s c e d) r
@[simp] theorem car_showEvent (s : State) (e k : Nat) (b : Bool) (d : Bool → List Byte) (r : Ix) : car (showEvent s e k b d) r = car s r :=
  car_of_ring (showEvent_ring s e k b d) r

/-- The unit of an address is changed, the others stay. -/
@[simp] theorem car_modUnit (s : State) (r : Ix) (a : Nat) (f : UnitState → UnitState) :
    car (modUnit s r a f) r = { car s r with units := (car s r).units.map fun u => if u.addr = a then f u else u } := car_modCar s r _

/-- A change of units that leaves their addresses finds the same unit at an address, changed. -/
theorem unitAt_modUnit (s : State) (r : Ix) (a : Nat) {f : UnitState → UnitState} (hf : ∀ u, (f u).addr = u.addr) (b : Nat) :
    unitAt (modUnit s r a f) r b = (unitAt s r b).map fun u => if u.addr = a then f u else u := by
  have addr (u : UnitState) : (if u.addr = a then f u else u).addr = u.addr := by split <;> simp [hf]
  unfold unitAt
  rw [car_modUnit, List.find?_map]
  simp only [Function.comp_def, addr]

theorem unitAt_of_units {s t : State} {r : Ix} (h : (car t r).units = (car s r).units) (a : Nat) : unitAt t r a = unitAt s r a := by
  unfold unitAt; rw [h]

@[simp] theorem unitAt_raise (s : State) (e : Nat) (d : List Byte) (r : Ix) (a : Nat) : unitAt (raise s e d) r a = unitAt s r a :=
  unitAt_of_units (by rw [car_raise]) a
theorem unitAt_modCar (s : State) (r : Ix) {f : RingState → RingState} (hf : ∀ c, (f c).units = c.units) (a : Nat) :
    unitAt (modCar s r f) r a = unitAt s r a := unitAt_of_units (by rw [car_modCar, hf]) a

theorem unitAt_addr {s : State} {r : Ix} {a : Nat} {u : UnitState} (h : unitAt s r a = some u) : u.addr = a := by
  simpa using List.find?_some h
theorem unitAt_mem {s : State} {r : Ix} {a : Nat} {u : UnitState} (h : unitAt s r a = some u) : u ∈ (car s r).units := List.mem_of_find?_eq_some h

/-- A unit of the table stands changed in the table after a change at its address. -/
theorem mem_modUnit {s : State} {r : Ix} {u : UnitState} (h : u ∈ (car s r).units) (f : UnitState → UnitState) :
    f u ∈ (car (modUnit s r u.addr f) r).units := by
  rw [car_modUnit]
  exact List.mem_map.mpr ⟨u, h, if_pos rfl⟩

/-- A unit of which something holds that the change at an address keeps. -/
theorem modUnit_keeps {s : State} {r : Ix} {a : Nat} {f : UnitState → UnitState} {p : UnitState → Prop} (hf : ∀ u, p u → p (f u))
    (h : ∃ v ∈ (car s r).units, p v) : ∃ v ∈ (car (modUnit s r a f) r).units, p v := by
  obtain ⟨v, mem, hp⟩ := h
  rw [car_modUnit]
  refine ⟨_, List.mem_map_of_mem mem, ?_⟩
  split
  · exact hf v hp
  · exact hp

/-! ### Sending -/

theorem balanceFrom_of {s t : State} {r : Ix} (grid : t.grid = s.grid) (trig : (car t r).trigSent = (car s r).trigSent) :
    balanceFrom t r = balanceFrom s r := by
  unfold balanceFrom curCycle
  rw [grid, trig]

/-- The ring after a frame to a unit that awaits an answer, native or compatibility (R106). -/
theorem car_sendUnit (s : State) (r : Ix) (a type : Nat) (p : List Byte) :
    car (sendUnit s r a type p) r = { car s r with
      seq := ((car s r).seq + 1) % 256,
      txns := (car s r).txns ++ [{ unit := a, type := type, seq := (car s r).seq, payload := p, retries := 0,
                                   eff := if type = 0x08 then balanceFrom s r else 0 }],
      units := (car s r).units.map fun u => if u.addr = a then { u with lastCmd := (type, (car s r).seq) } else u } := by
  have effect : balanceFrom (nextSeq s r).2 r = balanceFrom s r := balanceFrom_of rfl (by rw [nextSeq, car_modCar])
  unfold sendUnit
  dsimp only
  rw [car_emit, car_modUnit, car_modCar, effect, nextSeq, car_modCar]
theorem car_sendHop (s : State) (r : Ix) (a type : Nat) (p : List Byte) :
    car (sendHop s r a type p) r = { car s r with
      seq := ((car s r).seq + 1) % 256,
      txns := (car s r).txns ++ [{ unit := a, type := type, seq := (car s r).seq, payload := p, retries := 0 }],
      units := (car s r).units.map fun u => if u.addr = a then { u with lastCmd := (type, (car s r).seq) } else u } := by
  unfold sendHop
  dsimp only
  rw [car_emit, car_modUnit, car_modCar, nextSeq, car_modCar]
@[simp] theorem car_sendAll (s : State) (r : Ix) (type : Nat) (p : List Byte) :
    car (sendAll s r type p) r = { car s r with seq := ((car s r).seq + 1) % 256 } := by
  unfold sendAll
  dsimp only
  rw [car_emits, nextSeq, car_modCar]

/-- What goes out: one frame with the ring's SEQ, on the end where the unit is reached. -/
@[simp] theorem sendUnit_sent (s : State) (r : Ix) (a type : Nat) (p : List Byte) :
    (sendUnit s r a type p).sent = s.sent ++ [.caravan r (unitEnd s r a) a type (car s r).seq p] := by
  unfold sendUnit unitEnd
  dsimp only
  rw [emit_sent, car_modUnit, car_modCar, nextSeq, car_modCar]
  rfl
@[simp] theorem sendHop_sent (s : State) (r : Ix) (a type : Nat) (p : List Byte) :
    (sendHop s r a type p).sent = s.sent ++ [.caravan12 r a type p] := rfl
@[simp] theorem sendAll_sent (s : State) (r : Ix) (type : Nat) (p : List Byte) :
    (sendAll s r type p).sent = s.sent ++ (ringEnds s r).map fun e => .caravan r e 0xFF type (car s r).seq p := by
  unfold sendAll ringEnds
  dsimp only
  rw [emits_sent, nextSeq, car_modCar]
  rfl
theorem sendBalance_eq {s : State} {r : Ix} {a : Nat} {u : UnitState} (h : unitAt s r a = some u) :
    sendBalance s r a = sendUnit s r a 0x08 (toByte u.bseq :: dutyBytes u.duty) := by
  unfold sendBalance; rw [h]

/-! ### What has gone out stays out -/

section Sent

variable {out : List Out} {s : State} (h : out ⊆ s.sent)
include h

theorem sendVector_keepsSent (p : Ix) (n : Nat) : out ⊆ (sendVector s p n).sent := by
  unfold sendVector
  split
  · exact h
  · split
    · exact h
    · split
      · exact h
      · exact List.Subset.trans h (List.subset_append_left _ _)
theorem signal_keepsSent (p : Ix) (evt vec : Nat) : out ⊆ (signal s p evt vec).sent := by
  have pended (c : Bool) (f : PortState → PortState) : out ⊆ (if c then s else modPort s p f).sent := by split <;> exact h
  unfold signal
  dsimp only
  split
  · exact h
  · split
    · exact sendVector_keepsSent (pended _ _) p _
    · exact pended _ _
theorem signalBoth_keepsSent (evt : Nat) : out ⊆ (signalBoth s evt).sent := by
  have first (c : Bool) (vec : Nat) : out ⊆ (if c then signal s .zero evt vec else s).sent := by
    split
    · exact signal_keepsSent h _ _ _
    · exact h
  unfold signalBoth
  dsimp only
  split
  · exact signal_keepsSent (first _ _) _ _ _
  · exact first _ _
theorem raisePast_keepsSent (e : Nat) (d : List Byte) : out ⊆ (raisePast s e d).sent := by
  have signalled : out ⊆ (signalBoth (storeLast (takeFree s) (mkOcc s e d)) e).sent :=
    signalBoth_keepsSent (s := storeLast (takeFree s) (mkOcc s e d)) h e
  unfold raisePast
  dsimp only
  split
  · split
    · rw [enqueue_sent]; exact signalled
    · exact signalled
  · exact signalled
theorem applyClear_keepsSent (upto port ring tag : Nat) : out ⊆ (applyClear s upto port ring tag).sent := by
  unfold applyClear
  refine raisePast_keepsSent ?_ 249 _
  exact h
theorem endFreeze_keepsSent (cause : Nat) : out ⊆ (endFreeze s cause).sent := by
  unfold endFreeze
  split
  · exact h
  · dsimp only
    split
    · refine raisePast_keepsSent ?_ 248 _
      exact h
    · refine applyClear_keepsSent (raisePast_keepsSent ?_ 248 _) _ _ _ _
      exact h
theorem raise_keepsSent (e : Nat) (d : List Byte) : out ⊆ (raise s e d).sent := by
  unfold raise
  split
  · exact raisePast_keepsSent h e d
  · split
    · exact raisePast_keepsSent h e d
    · split
      · exact raisePast_keepsSent (endFreeze_keepsSent h 3) e d
      · exact signalBoth_keepsSent (s := storeLast (takeFree s) (mkOcc s e d)) h e

end Sent

/-- What one element of a list brings about holds after the whole list, if no element undoes it. -/
theorem foldl_reaches {σ α : Type} {f : σ → α → σ} {inv goal : σ → Prop} {l : List α} {a : α} (mem : a ∈ l)
    (inv_step : ∀ s b, inv s → inv (f s b)) (reach : ∀ s, inv s → goal (f s a)) (keep : ∀ s, ∀ b ∈ l, inv s → goal s → goal (f s b))
    {s : σ} (start : inv s) : goal (l.foldl f s) := by
  obtain ⟨before, after, rfl⟩ := List.append_of_mem mem
  rw [List.foldl_append, List.foldl_cons]
  have come : inv (before.foldl f s) := List.foldlRecOn before f start fun s h b _ => inv_step s b h
  refine (List.foldlRecOn (motive := fun s => inv s ∧ goal s) after f ⟨inv_step _ _ come, reach _ come⟩ fun s h b hb => ?_).2
  exact ⟨inv_step s b h.1, keep s b (by simp [hb]) h.1 h.2⟩

end Sys2Proof.Proofs

/-! PROOFS. What the module sends on a ring that it drives (R97, R107, R110, R112, R115, R135, R141, R236, R239): one theorem per command. -/

namespace Sys2Proof.Proofs

open Sys2Proof Sys2Proof.Machine Sys2Proof.Laws

/-- R97: the trigger of the next tick goes out on every end in use. -/
theorem triggerSend_sends {s : State} {r : Ix} (w : Nat) (drive : drivesRing s r false = true) (grid : s.grid.on = true) :
    runs (.triggerSend r w) s fun t => (car t r).trigSent = some (s.grid.now + 1) ∧
      ∀ e ∈ ringEnds s r, Out.trigger r e ((s.grid.now + 1) % 128) (min 167 ((w + 1) / 2)) ∈ t.sent := by
  refine ⟨_, (rfl : exec (.triggerSend r w) s = .next _), ?_⟩
  simp only [drive, grid, Bool.and_self, if_true]
  by_cases last : (s.grid.now + 1) % 128 = 127
  · simp only [last, if_true, car_sendAll, car_modCar, sendAll_sent, modCar_sent, emits_sent, true_and]
    intro e he
    exact List.mem_append_left _ (List.mem_append_right _ (List.mem_map_of_mem he))
  · simp only [last, if_false, car_modCar, modCar_sent, emits_sent, true_and]
    intro e he
    exact List.mem_append_right _ (List.mem_map_of_mem he)

/-- R115: SNAP goes out at tick 0, and each unit is asked for its voltages and its temperatures. -/
theorem snapSend_sends {s : State} {r : Ix} (drive : drivesRing s r true = true) (grid : s.grid.on = true) (tick : curTick s = 0) :
    runs (.snapSend r) s fun t => Out.caravan12 r 0xFF 0x82 (beBytes 4 (curCycle s)) ∈ t.sent ∧
      ∀ u ∈ (car s r).units, Out.caravan12 r u.addr 0x83 [] ∈ t.sent ∧ Out.caravan12 r u.addr 0x84 [] ∈ t.sent := by
  refine ⟨_, (rfl : exec (.snapSend r) s = .next _), ?_⟩
  simp only [drive, grid, tick, beq_self_eq_true, Bool.and_self, if_true, car_emit]
  constructor
  · refine List.foldlRecOn (motive := fun t : State => _ ∈ t.sent) _ _ ?_ fun t sent u _ => ?_
    · rw [emit_sent]; exact List.mem_append_right _ (List.mem_singleton_self _)
    · rw [sendHop_sent, sendHop_sent]; exact List.mem_append_left _ (List.mem_append_left _ sent)
  · intro u mem
    refine foldl_reaches (inv := fun _ => True) (goal := fun t : State => _ ∈ t.sent ∧ _ ∈ t.sent) mem (fun _ _ _ => trivial) (fun t _ => ?_)
      (fun t v _ _ sent => ?_) trivial
    · simp only [sendHop_sent, List.mem_append, List.mem_singleton, or_true, true_or, and_self]
    · simp only [sendHop_sent, List.mem_append, sent, true_or, and_self]

/-- R107: every lost unit is asked for its status. -/
theorem lostUnitPoll_sends {s : State} {r : Ix} (drive : drivesRing s r false = true) :
    runs (.lostUnitPoll r) s fun t => ∀ u ∈ (car s r).units, u.lost = true → ∃ e q, Out.caravan r e u.addr 0x13 q [] ∈ t.sent := by
  refine ⟨_, (rfl : exec (.lostUnitPoll r) s = .next _), fun u mem lost => ?_⟩
  rw [if_pos drive]
  refine foldl_reaches (inv := fun _ => True) (goal := fun t : State => ∃ e q, Out.caravan r e u.addr 0x13 q [] ∈ t.sent)
    (List.mem_filter.mpr ⟨mem, lost⟩) (fun _ _ _ => trivial) (fun t _ => ?_) (fun t v _ _ => ?_) trivial
  · rw [sendUnit_sent]
    exact ⟨_, _, List.mem_append_right _ (List.mem_singleton_self _)⟩
  · rintro ⟨e, q, sent⟩
    exact ⟨e, q, by rw [sendUnit_sent]; exact List.mem_append_left _ sent⟩

/-- A place of a rotation that holds a unit shows that the table is not empty. -/
theorem isEmpty_of_getElem? {units : List UnitState} {k : Nat} {u : UnitState} (h : units[k]? = some u) : units.isEmpty = false :=
  List.isEmpty_eq_false_iff.mpr fun e => by simp [e] at h

/-- R135: the next unit of the rotation is asked for its status. -/
theorem statusPoll_sends {s : State} {r : Ix} {u : UnitState} (drive : drivesRing s r false = true)
    (next : (car s r).units[(car s r).statusRot % (car s r).units.length]? = some u) (here : u.lost = false) :
    runs (.statusPoll r) s fun t => (car t r).statusRot = (car s r).statusRot % (car s r).units.length + 1 ∧
      ∃ e, Out.caravan r e u.addr 0x13 (car s r).seq [] ∈ t.sent := by
  have outcome : exec (.statusPoll r) s = .next
      (sendUnit (modCar s r fun c => { c with statusRot := (car s r).statusRot % (car s r).units.length + 1 }) r u.addr 0x13 []) := by
    show execStatusPoll r s = _
    simp only [execStatusPoll, drive, isEmpty_of_getElem? next, Bool.not_false, Bool.and_self, if_true, car_modCar, next, here,
      Bool.false_eq_true, if_false]
  refine ⟨_, outcome, ?_, ?_⟩
  · rw [car_sendUnit, car_modCar]
  · rw [sendUnit_sent, car_modCar]
    exact ⟨_, List.mem_append_right _ (List.mem_singleton_self _)⟩

/-- R110: the sum of the tick that has ended is asked for, if the module sent that tick's trigger. -/
theorem tickSumSend_sends {s : State} {r : Ix} {a b : Nat} (drive : drivesRing s r false = true) (grid : s.grid.on = true)
    (now : 0 < s.grid.now) (first : (car s r).trigFirst = some a) (last : (car s r).trigSent = some b) (since : a ≤ s.grid.now - 1)
    (upto : s.grid.now - 1 ≤ b) : runs (.tickSumSend r) s fun t => (car t r).sumDue = some (s.grid.now - 1) := by
  refine ⟨_, (rfl : exec (.tickSumSend r) s = .next _), ?_⟩
  simp only [drive, grid, now, first, last, since, upto, Option.any_some, decide_true, Bool.and_self, if_true, car_modCar]

/-- R112, R236: the next unit of the rotation gets its BSEQ and its duties again. -/
theorem balanceRefresh_sends {s : State} {r : Ix} {u : UnitState} (drive : drivesRing s r false = true)
    (next : (car s r).units[(car s r).balRot % (car s r).units.length]? = some u) (here : u.lost = false)
    (unit : unitAt s r u.addr = some u) :
    runs (.balanceRefresh r) s fun t => (car t r).balRot = (car s r).balRot % (car s r).units.length + 1 ∧
      ∃ e, Out.caravan r e u.addr 0x08 (car s r).seq (toByte u.bseq :: dutyBytes u.duty) ∈ t.sent := by
  have outcome : exec (.balanceRefresh r) s = .next
      (sendBalance (modCar s r fun c => { c with balRot := (car s r).balRot % (car s r).units.length + 1 }) r u.addr) := by
    show execBalanceRefresh r s = _
    simp only [execBalanceRefresh, drive, isEmpty_of_getElem? next, Bool.not_false, Bool.and_self, if_true, car_modCar, next, here,
      Bool.false_eq_true, if_false]
  have found : unitAt (modCar s r fun c => { c with balRot := (car s r).balRot % (car s r).units.length + 1 }) r u.addr = some u :=
    (unitAt_modCar s r (by intro; rfl) u.addr).trans unit
  rw [sendBalance_eq found] at outcome
  refine ⟨_, outcome, ?_, ?_⟩
  · rw [car_sendUnit, car_modCar]
  · rw [sendUnit_sent, car_modCar]
    exact ⟨_, List.mem_append_right _ (List.mem_singleton_self _)⟩

/-- R115, R239: every unit in service gets its mask again. -/
theorem bal12Refresh_sends {s : State} {r : Ix} (drive : drivesRing s r true = true) :
    runs (.bal12Refresh r) s fun t => ∀ u ∈ (car s r).units, u.lost = false →
      Out.caravan12 r u.addr 0x85 (beBytes 2 (bal12Mask u)) ∈ t.sent := by
  refine ⟨_, (rfl : exec (.bal12Refresh r) s = .next _), fun u mem here => ?_⟩
  rw [if_pos drive]
  refine foldl_reaches (inv := fun _ => True) (goal := fun t : State => _ ∈ t.sent) mem (fun _ _ _ => trivial) (fun t _ => ?_)
    (fun t v _ _ sent => ?_) trivial
  · rw [here, if_neg Bool.false_ne_true, sendHop_sent]
    exact List.mem_append_right _ (List.mem_singleton_self _)
  · split
    · exact sent
    · rw [sendHop_sent]; exact List.mem_append_left _ sent

/-- R141: a unit of the second generation with no test pending gets the request at once. -/
theorem requestTest_eq {s : State} {r : Ix} {a mask : Nat} {u : UnitState} (unit : unitAt s r a = some u) (gen : u.gen16 = true)
    (idle : u.owPending = none) (wires : mask ≠ 0) : requestTest s r a mask =
      sendUnit (modUnit s r a fun u => { u with owPending := some (mask, curCycle s) }) r a 0x0B (beBytes 3 mask) := by
  unfold requestTest
  rw [unit]
  simp [gen, idle, wires]

/-- The unit at place `k` and address `a` has its turn in the rotation of routine tests (R141). -/
def testTurn (s : State) (r : Ix) (k a : Nat) : State :=
  modUnit (modCar s r fun c => { c with owRot := k + 1, owCycle := some (curCycle s) }) r a fun u => { u with owAt := some s.elec.uptime }

theorem car_testTurn (s : State) (r : Ix) (k a : Nat) : car (testTurn s r k a) r =
    { car s r with owRot := k + 1, owCycle := some (curCycle s),
                   units := (car s r).units.map fun u => if u.addr = a then { u with owAt := some s.elec.uptime } else u } := by
  rw [testTurn, car_modUnit, car_modCar]

theorem unitAt_testTurn {s : State} {r : Ix} {a : Nat} {u : UnitState} (k : Nat) (unit : unitAt s r a = some u) :
    unitAt (testTurn s r k a) r a = some { u with owAt := some s.elec.uptime } := by
  have same : unitAt (modCar s r fun c => { c with owRot := k + 1, owCycle := some (curCycle s) }) r a = some u :=
    (unitAt_modCar s r (by intro; rfl) a).trans unit
  rw [testTurn, unitAt_modUnit, same, Option.map_some, if_pos (unitAt_addr unit)]
  exact fun _ => rfl

/-- The first place of a rotation that begins at a place in range is that place. -/
theorem find?_rotation {n k : Nat} {p : Nat → Bool} (nonempty : n ≠ 0) (h : p (k % n) = true) :
    ((List.range n).map fun i => (k + i) % n).find? p = some (k % n) := by
  obtain ⟨m, rfl⟩ := Nat.exists_eq_succ_of_ne_zero nonempty
  rw [Nat.succ_eq_add_one, List.range_succ_eq_map, List.map_cons, List.find?_cons_of_pos]
  · rw [Nat.add_zero]
  · exact h

/-- R141: the unit whose turn it is and whose test is due is tested. -/
theorem openwireSchedule_sends {s : State} {r : Ix} {u : UnitState} (drive : drivesRing s r false = true)
    (free : (car s r).owCycle ≠ some (curCycle s)) (next : (car s r).units[(car s r).owRot % (car s r).units.length]? = some u)
    (due : testDue s u = true) (unit : unitAt s r u.addr = some u) :
    runs (.openwireSchedule r) s fun t => (car t r).owCycle = some (curCycle s) ∧
      (car t r).owRot = (car s r).owRot % (car s r).units.length + 1 ∧
      ∃ e, Out.caravan r e u.addr 0x0B (car s r).seq (beBytes 3 0x1FFFF) ∈ t.sent := by
  obtain ⟨inTable, -⟩ := List.getElem?_eq_some_iff.mp next
  have turn := find?_rotation (p := fun k => ((car s r).units[k]?).any (testDue s)) (k := (car s r).owRot)
    (Nat.ne_zero_of_lt inTable) (by rw [next]; exact due)
  obtain ⟨gen, idle⟩ : u.gen16 = true ∧ u.owPending = none := by
    simp only [testDue, Bool.and_eq_true, Option.isNone_iff_eq_none] at due
    obtain ⟨⟨⟨gen, -⟩, idle⟩, -⟩ := due
    exact ⟨gen, idle⟩
  have outcome : exec (.openwireSchedule r) s = .next
      (requestTest (testTurn s r ((car s r).owRot % (car s r).units.length) u.addr) r u.addr 0x1FFFF) := by
    show execOpenwireSchedule r s = _
    simp only [execOpenwireSchedule, drive, bne_iff_ne.mpr free, Bool.and_self, if_true, turn, next]
    rfl
  rw [requestTest_eq (unitAt_testTurn _ unit) gen idle (by decide)] at outcome
  refine ⟨_, outcome, ?_, ?_, ?_⟩
  · rw [car_sendUnit, car_modUnit, car_testTurn]
  · rw [car_sendUnit, car_modUnit, car_testTurn]
  · rw [sendUnit_sent, car_modUnit, car_testTurn]
    exact ⟨_, List.mem_append_right _ (List.mem_singleton_self _)⟩

/-- Settles O7: one theorem above for each clause, in the order of the commands. -/
theorem ringSendsTakeEffect : Obligations.RingSendsTakeEffect := by
  unfold Obligations.RingSendsTakeEffect
  refine ⟨?trigger, ?snap, ?lost, ?status, ?sum, ?balance, ?mask, ?test⟩
  case trigger => exact fun s r w drive grid => triggerSend_sends w drive grid
  case snap => exact fun s r drive grid tick => snapSend_sends drive grid tick
  case lost => exact fun s r drive => lostUnitPoll_sends drive
  case status => exact fun s r u drive next here => statusPoll_sends drive next here
  case sum => exact fun s r a b drive grid now first last since upto => tickSumSend_sends drive grid now first last since upto
  case balance => exact fun s r u drive next here unit => balanceRefresh_sends drive next here unit
  case mask => exact fun s r drive => bal12Refresh_sends drive
  case test => exact fun s r u drive free next due unit => openwireSchedule_sends drive free next due unit

end Sys2Proof.Proofs

/-! PROOFS. What the units of a ring answer (R105 to R108, R116, R135, R139, R236): what neither sending nor a diagnosis changes of a unit, then
one theorem per command. -/

namespace Sys2Proof.Proofs

open Sys2Proof Sys2Proof.Machine Sys2Proof.Laws

/-! ### What neither sending nor a diagnosis changes of a unit -/

/-- The address of a unit, its records, its open wires and its temperatures: a frame sent to it and a diagnosis of its frame leave them. -/
def unitData (u : UnitState) : Nat × List (Nat × FeatRec) × List Nat × List Nat := (u.addr, u.recs, u.openWires, u.t12)

/-- These of every unit of a ring. -/
def unitsData (s : State) (r : Ix) : List (Nat × List (Nat × FeatRec) × List Nat × List Nat) := (car s r).units.map unitData

theorem unit_of_data {s t : State} {r : Ix} (p : Nat × List (Nat × FeatRec) × List Nat × List Nat → Prop)
    (h : unitsData t r = unitsData s r) (found : ∃ v ∈ (car s r).units, p (unitData v)) : ∃ v ∈ (car t r).units, p (unitData v) := by
  obtain ⟨v, hv, hp⟩ := found
  have there : unitData v ∈ unitsData t r := h ▸ List.mem_map_of_mem hv
  obtain ⟨w, hw, same⟩ := List.mem_map.mp there
  exact ⟨w, hw, same ▸ hp⟩

theorem data_of_units {s t : State} {r : Ix} (h : (car t r).units = (car s r).units) : unitsData t r = unitsData s r := by
  unfold unitsData; rw [h]
theorem data_of_car {s t : State} {r : Ix} (h : car t r = car s r) : unitsData t r = unitsData s r := data_of_units (h ▸ rfl)
theorem data_ite (c : Prop) [Decidable c] (a b : State) (r : Ix) :
    unitsData (if c then a else b) r = if c then unitsData a r else unitsData b r := apply_ite (unitsData · r) c a b

/-- A change of the units at one address that leaves these. -/
theorem map_data (l : List UnitState) (a : Nat) {f : UnitState → UnitState} (hf : ∀ u, unitData (f u) = unitData u) :
    (l.map fun u => if u.addr = a then f u else u).map unitData = l.map unitData := by
  rw [List.map_map]
  refine List.map_congr_left fun u _ => ?_
  rw [Function.comp_apply, apply_ite unitData, hf, ite_self]
theorem modUnit_data (s : State) (r : Ix) (a : Nat) {f : UnitState → UnitState} (hf : ∀ u, unitData (f u) = unitData u) :
    unitsData (modUnit s r a f) r = unitsData s r := by
  unfold unitsData
  rw [car_modUnit]
  exact map_data _ a hf
theorem foldl_data {α : Type} {r : Ix} (f : State → α → State) (h : ∀ s a, unitsData (f s a) r = unitsData s r) (l : List α) (s : State) :
    unitsData (l.foldl f s) r = unitsData s r :=
  List.foldlRecOn (motive := fun t => unitsData t r = unitsData s r) l f rfl fun t same a _ => (h t a).trans same

section Kept

variable (s : State) (r : Ix) (a : Nat)

@[simp] theorem sendUnit_data (type : Nat) (p : List Byte) : unitsData (sendUnit s r a type p) r = unitsData s r := by
  unfold unitsData
  rw [car_sendUnit]
  exact map_data _ a fun _ => rfl
@[simp] theorem sendHop_data (type : Nat) (p : List Byte) : unitsData (sendHop s r a type p) r = unitsData s r := by
  unfold unitsData
  rw [car_sendHop]
  exact map_data _ a fun _ => rfl
@[simp] theorem sendBalance_data : unitsData (sendBalance s r a) r = unitsData s r := by
  unfold sendBalance
  split
  · rfl
  · exact sendUnit_data s r a _ _
@[simp] theorem sendConfig_data : unitsData (sendConfig s r a) r = unitsData s r := by
  unfold sendConfig
  split
  · rfl
  · rw [data_ite, sendUnit_data, sendHop_data, ite_self]
@[simp] theorem balStopped_data (frame : Nat) : unitsData (balStopped s r a frame) r = unitsData s r := by
  have raised : unitsData (raise s 72 (ux r ++ u8 a ++ u48 frame)) r = unitsData s r := data_of_car (car_raise _ _ _ _)
  unfold balStopped
  dsimp only
  split
  · split
    · exact raised
    · exact (sendHop_data _ r a _ _).trans raised
  · exact (sendBalance_data _ r a).trans raised
@[simp] theorem enumProgress_data (c : Nat) : unitsData (enumProgress s r c) r = unitsData s r := by
  unfold enumProgress enumEnds
  dsimp only
  split
  · exact data_of_units (by rw [car_of_ring (endReenums_ring _), car_modCar])
  · rfl
@[simp] theorem thermFaults_data (codes : List Nat) : unitsData (thermFaults s r a codes) r = unitsData s r := by
  unfold thermFaults
  refine foldl_data _ (fun t p => ?_) _ s
  dsimp only
  rw [modUnit_data]
  · exact data_of_car (car_showEvent _ _ _ _ _ _)
  · intro u; rfl
@[simp] theorem recordFlags_data (f : FeatRec) : unitsData (recordFlags s r a f) r = unitsData s r := by
  unfold recordFlags
  split
  · rfl
  · dsimp only
    rw [thermFaults_data]
    refine foldl_data _ (fun t b => ?_) _ s
    split
    · rfl
    · rw [foldl_data _ fun t p => data_of_car (car_showEvent _ _ _ _ _ _)]
      exact data_of_car (car_showEvent _ _ _ _ _ _)
theorem car_suspectEvent (dv : List (Option Rat)) (x : Suspicion) : car (suspectEvent s r a dv x) r = car s r := suspectEvent_other s r a dv x
theorem suspectEvents_data (dv : List (Option Rat)) (xs : List Suspicion) :
    unitsData (xs.foldl (fun s x => suspectEvent s r a dv x) s) r = unitsData s r :=
  foldl_data _ (fun t x => data_of_car (car_suspectEvent t r a dv x)) xs s
@[simp] theorem requestTest_data (mask : Nat) : unitsData (requestTest s r a mask) r = unitsData s r := by
  unfold requestTest
  split
  · rfl
  · split
    · rfl
    · split
      · exact modUnit_data s r a fun _ => rfl
      · exact (sendUnit_data _ r a _ _).trans (modUnit_data s r a fun _ => rfl)
@[simp] theorem renominate_data : unitsData (renominate s r a) r = unitsData s r := by
  unfold renominate
  split
  · rfl
  · dsimp only
    split
    · rfl
    · exact (sendConfig_data _ r a).trans (modUnit_data s r a fun _ => rfl)
@[simp] theorem diagnose_data (f : FeatRec) : unitsData (diagnose s r a f) r = unitsData s r := by
  unfold diagnose
  split
  · rfl
  · dsimp only
    rw [requestTest_data, suspectEvents_data, suspectEvents_data]
    exact modUnit_data s r a fun _ => rfl
@[simp] theorem settleSuspicions_data (shifts : List (Nat × Nat)) : unitsData (settleSuspicions s r a shifts) r = unitsData s r := by
  unfold settleSuspicions
  split
  · rfl
  · dsimp only
    rw [suspectEvents_data, suspectEvents_data]
    exact modUnit_data s r a fun _ => rfl

end Kept

/-! ### Records (R107, R108) -/

/-- A record of a frame that is due stands at the head of its unit's records. -/
theorem storeFeature_stores {s : State} {r : Ix} {u : UnitState} {f : FeatRec} (due : frameExpected s r u f.cyc = true)
    (unit : u ∈ (car s r).units) : ∃ v ∈ (car (storeFeature s r u f) r).units, v.addr = u.addr ∧ (f.cyc, f) ∈ v.recs := by
  have new : u.recs.contains (f.cyc, f) = false := by
    simp only [frameExpected, hasRec, Bool.and_eq_true, Bool.not_eq_true', List.any_eq_false, beq_iff_eq] at due
    obtain ⟨missing, -⟩ := due
    by_contra held
    rw [Bool.not_eq_false, List.contains_iff_mem] at held
    exact missing _ held rfl
  have stored := mem_modUnit unit fun u =>
    { u with recs := ((f.cyc, f) :: u.recs.filter fun p => p.1 != f.cyc).take 4, ustat := f.ustat, flt := testBit f.ustat 11 }
  have same : unitsData (storeFeature s r u f) r = unitsData (modUnit s r u.addr fun u =>
      { u with recs := ((f.cyc, f) :: u.recs.filter fun p => p.1 != f.cyc).take 4, ustat := f.ustat, flt := testBit f.ustat 11 }) r := by
    unfold storeFeature
    rw [new, due]
    simp only [Bool.false_eq_true, Bool.not_true, if_false, data_ite, balStopped_data, sendBalance_data, enumProgress_data, ite_self]
    exact data_of_units (by rw [car_modCar])
  exact unit_of_data (fun d => d.1 = u.addr ∧ (f.cyc, f) ∈ d.2.1) same ⟨_, stored, rfl, List.mem_cons_self⟩

/-- R108: a record that is due is stored for its frame. -/
theorem featureRec_stores {s : State} {r : Ix} {f : CarFrame} {u : UnitState} (drive : drivesRing s r false = true)
    (good : f.good 0x10 [4, 506] = true) (unit : unitAt s r f.src.toNat = some u)
    (due : frameExpected s r u (readFeature s f.payload).cyc = true) :
    runs (.featureRec r f) s fun t => ∃ v ∈ (car t r).units, v.addr = u.addr ∧
      ((readFeature s f.payload).cyc, readFeature s f.payload) ∈ v.recs := by
  refine ⟨_, (rfl : exec (.featureRec r f) s = .next _), ?_⟩
  simp only [drive, good, unit, Bool.not_true, Bool.false_eq_true, if_false]
  refine unit_of_data (fun d => d.1 = u.addr ∧ (_, _) ∈ d.2.1) ?_ (storeFeature_stores due (unitAt_mem unit))
  simp only [data_ite, renominate_data, diagnose_data, recordFlags_data, ite_self]

theorem markLost_keepsSent {out : List Out} {s : State} (h : out ⊆ s.sent) (r : Ix) (a cause : Nat) : out ⊆ (markLost s r a cause).sent := by
  unfold markLost
  split
  · exact h
  · split
    · exact h
    · exact raise_keepsSent (by exact h) 68 _

/-- The low 16 bits decide the two bytes of a cycle number. -/
theorem beBytes_two_mod (n : Nat) : beBytes 2 (n % 65536) = beBytes 2 n := by
  have low : toByte (n % 65536) = toByte n := BitVec.eq_of_toNat_eq (by simp only [toByte, BitVec.toNat_ofNat]; omega)
  have high : toByte (n % 65536 / 256) = toByte (n / 256) := BitVec.eq_of_toNat_eq (by simp only [toByte, BitVec.toNat_ofNat]; omega)
  simp only [beBytes, leBytes, low, high]

/-- R108: the record of two cycles ago that a unit in service has not delivered is asked for again. -/
theorem deliveryDeadline_asks {s : State} {r : Ix} {u : UnitState} (drive : drivesRing s r false = true) (cycle : 2 ≤ curCycle s)
    (unit : u ∈ (car s r).units) (here : u.lost = false) (missing : ∀ p ∈ u.recs, p.1 ≠ curCycle s - 2) :
    runs (.deliveryDeadline r) s fun t => ∃ e q, Out.caravan r e u.addr 0x0D q (beBytes 2 (curCycle s - 2)) ∈ t.sent := by
  have absent : u.recs.any (fun p => p.1 == curCycle s - 2) = false := List.any_eq_false.mpr fun p hp => by simpa using missing p hp
  refine ⟨_, (rfl : exec (.deliveryDeadline r) s = .next _), ?_⟩
  simp only [drive, cycle, decide_true, Bool.and_self, if_true]
  refine foldl_reaches (inv := fun _ => True)
    (goal := fun t : State => ∃ e q, Out.caravan r e u.addr 0x0D q (beBytes 2 (curCycle s - 2)) ∈ t.sent) unit (fun _ _ _ => trivial)
    (fun t _ => ?_) (fun t v _ _ => ?_) trivial
  · have asked (t : State) : ∃ e q, Out.caravan r e u.addr 0x0D q (beBytes 2 (curCycle s - 2)) ∈
        (sendUnit t r u.addr 0x0D (beBytes 2 ((curCycle s - 2) % 65536))).sent := by
      rw [sendUnit_sent, beBytes_two_mod]
      exact ⟨_, _, List.mem_append_right _ (List.mem_singleton_self _)⟩
    simp only [here, absent, Bool.false_eq_true, if_false]
    split
    · obtain ⟨e, q, sent⟩ := asked (modUnit t r u.addr fun u => { u with misses := u.misses + 1 })
      exact ⟨e, q, markLost_keepsSent (List.Subset.refl _) r u.addr 2 sent⟩
    · exact asked _
  · rintro ⟨e, q, sent⟩
    have asked : t.sent ⊆ (sendUnit (modUnit t r v.addr fun u => { u with misses := u.misses + 1 }) r v.addr 0x0D
        (beBytes 2 ((curCycle s - 2) % 65536))).sent := by
      rw [sendUnit_sent]; exact List.subset_append_left _ _
    refine ⟨e, q, (show t.sent ⊆ _ from ?_) sent⟩
    split
    · exact List.Subset.refl _
    · split
      · exact List.Subset.refl _
      · split
        · exact markLost_keepsSent asked r v.addr 2
        · exact asked

/-! ### Commands that stay unanswered (R106, R107) -/

/-- R107, R501: marking a unit in service lost reports the last command sent to it. -/
theorem markLost_reports {s : State} {r : Ix} {a : Nat} {u : UnitState} (cause : Nat) (unit : unitAt s r a = some u) (here : u.lost = false) :
    (unitAt (markLost s r a cause) r a).any (·.lost) = true ∧ newest (markLost s r a cause) 68 = some (lostData r u cause true) := by
  unfold markLost
  rw [unit]
  simp only [here, Bool.false_eq_true, if_false]
  refine ⟨?_, raise_newest _ 68 _⟩
  rw [unitAt_raise, unitAt_modCar, unitAt_modUnit, unit, Option.map_some, if_pos (unitAt_addr unit)]
  · rfl
  · intro u; rfl
  · intro c; rfl

section Timeout

variable {s : State} {r : Ix} {x : Txn} {seq : Nat} (drive : drives s = true)
  (waits : (car s r).txns.find? (fun t => t.seq == seq) = some x) (silent : replyMayCome s x = false)
include drive waits silent

/-- R106: a command with retries left is sent again. -/
theorem transactionTimeout_resends (left : x.retries < parN s 0x0306) :
    runs (.transactionTimeout r seq) s fun t => t.sent = s.sent ++
      [if x.type ≥ 0x80 then Out.caravan12 r x.unit x.type x.payload else Out.caravan r (unitEnd s r x.unit) x.unit x.type seq x.payload] := by
  refine ⟨_, (rfl : exec (.transactionTimeout r seq) s = .next _), ?_⟩
  simp only [waits, drive, silent, left, Bool.not_true, Bool.or_self, Bool.false_eq_true, if_false, if_true]
  by_cases compat : x.type ≥ 0x80
  · rw [if_pos compat, if_pos compat]
    rfl
  · rw [if_neg compat, if_neg compat]
    cases r <;> rfl

/-- R106, R107: when the retries of a command are spent its unit is lost. -/
theorem transactionTimeout_loses {u : UnitState} (spent : parN s 0x0306 ≤ x.retries) (unit : unitAt s r x.unit = some u)
    (here : u.lost = false) :
    runs (.transactionTimeout r seq) s fun t => (unitAt t r x.unit).any (·.lost) = true ∧
      newest t 68 = some (ux r ++ u8 u.addr ++ u8 u.lastCmd.1 ++ u8 u.lastCmd.2 ++ u8 1 ++ ub true) := by
  refine ⟨_, (rfl : exec (.transactionTimeout r seq) s = .next _), ?_⟩
  simp only [waits, drive, silent, not_lt.mpr spent, Bool.not_true, Bool.or_self, Bool.false_eq_true, if_false]
  exact markLost_reports 1 ((unitAt_modCar s r (by intro; rfl) x.unit).trans unit) here

end Timeout

end Sys2Proof.Proofs

/-! PROOFS. What the answers of units do (R105, R106, R116, R135, R136, R139, R236 to R239): one theorem per command, and the statement about
replies. -/

namespace Sys2Proof.Proofs

open Sys2Proof Sys2Proof.Machine Sys2Proof.Laws

/-! ### Status and acknowledgements -/

section Native

variable {s : State} {r : Ix} {f : CarFrame} (drive : drivesRing s r false = true)
include drive

/-- R135: a status is noted with its cycle; a lost unit that sends one returns (R107). -/
theorem statusRep_notes {u : UnitState} (good : f.good 0x14 [16] = true) (unit : unitAt s r f.src.toNat = some u) :
    runs (.statusRep r f) s fun t => ∃ v ∈ (car t r).units, v.addr = u.addr ∧ v.statusAt = curCycle s ∧ v.returning = u.lost ∧
      v.ustat = beAt f.payload 0 2 := by
  refine ⟨_, (rfl : exec (.statusRep r f) s = .next _), ?_⟩
  simp only [drive, good, unit, Bool.not_true, Bool.false_eq_true, if_false, car_showEvent]
  exact ⟨_, mem_modUnit (by rw [car_modCar]; exact unitAt_mem unit) _, rfl, rfl, rfl, rfl⟩

/-- R106: a command acknowledged awaits no answer any more. -/
theorem ack_answers {x : Txn} (good : f.good 0x09 [3] = true) (waits : x ∈ (car s r).txns) (unit : x.unit = f.src.toNat)
    (type : x.type = byteAt f.payload 0) (seq : x.seq = byteAt f.payload 1) (notTest : x.type ≠ 0x0B) (notBalance : x.type ≠ 0x08) :
    runs (.ack r f) s fun t => ∀ y ∈ (car t r).txns, y.seq ≠ x.seq := by
  obtain ⟨y, found⟩ : ∃ y, (car s r).txns.find? (fun t => t.unit == f.src.toNat && t.type == byteAt f.payload 0 &&
      t.seq == byteAt f.payload 1) = some y := by
    rw [← Option.isSome_iff_exists, List.find?_isSome]
    exact ⟨x, waits, by simp [unit, type, seq]⟩
  refine ⟨_, (rfl : exec (.ack r f) s = .next _), ?_⟩
  rw [type] at notTest notBalance
  simp only [drive, good, found, notTest, notBalance, Bool.not_true, Bool.false_eq_true, if_false]
  have taken : (car (if byteAt f.payload 0 = 0x06 then
      modUnit (modCar s r fun c => { c with txns := c.txns.filter fun t => t.seq != byteAt f.payload 1 }) r y.unit
        fun u => { u with cfgRefused := false }
      else modCar s r fun c => { c with txns := c.txns.filter fun t => t.seq != byteAt f.payload 1 }) r).txns =
      (car s r).txns.filter fun t => t.seq != byteAt f.payload 1 := by
    split
    · rw [car_modUnit, car_modCar]
    · rw [car_modCar]
  rw [taken, seq]
  intro z hz
  simpa using (List.mem_filter.mp hz).2

/-- R105: a command refused awaits no answer any more. -/
theorem nak_answers (good : f.good 0x0A [3] = true) :
    runs (.nak r f) s fun t => (car t r).txns = (car s r).txns.filter fun x =>
      !(x.unit == f.src.toNat && x.type == byteAt f.payload 0 && x.seq == byteAt f.payload 1) := by
  refine ⟨_, (rfl : exec (.nak r f) s = .next _), ?_⟩
  simp only [drive, good, Bool.not_true, Bool.false_eq_true, if_false]
  split
  · rw [car_modUnit, car_modCar]
  · rw [car_modCar]

end Native

/-- R237, R238: a BALANCE acknowledged after a stop begins the record of duties anew. -/
theorem withDuty_afterStop {s : State} {r : Ix} {u : UnitState} (eff : Nat) (d : List Nat) (stopped : passed s u.balAt (balLimit s r) = true) :
    (withDuty s r u eff d).duties = [(eff, d)] := by
  simp [withDuty, stopped]

/-- The ACK of a BALANCE with the BSEQ that was sent. -/
theorem ackBalance_refreshes {s : State} {r : Ix} {x : Txn} {u : UnitState} {status : Nat} (unit : unitAt s r x.unit = some u)
    (same : status = byteAt x.payload 0) :
    ∃ v ∈ (car (ackBalance s r x status) r).units, v.addr = u.addr ∧ v.balAt = s.elec.uptime ∧ v.balResent = false ∧
      (passed s u.balAt (balLimit s r) = true → v.duties = [(x.eff, readDuties (x.payload.drop 1))]) := by
  unfold ackBalance
  simp only [unit, same, if_true]
  rw [← unitAt_addr unit]
  exact ⟨_, mem_modUnit (unitAt_mem unit) _, rfl, rfl, rfl, withDuty_afterStop _ _⟩

/-- R236 to R239: a BALANCE acknowledged with the BSEQ sent is refreshed, and its duties are in force from its tick 0. -/
theorem ack_refreshes {s : State} {r : Ix} {f : CarFrame} {x : Txn} {u : UnitState} (drive : drivesRing s r false = true)
    (good : f.good 0x09 [3] = true) (balance : byteAt f.payload 0 = 0x08)
    (waits : (car s r).txns.find? (fun t => t.unit == f.src.toNat && t.type == 0x08 && t.seq == byteAt f.payload 1) = some x)
    (unit : unitAt s r f.src.toNat = some u) (same : byteAt f.payload 2 = byteAt x.payload 0) :
    runs (.ack r f) s fun t => ∃ v ∈ (car t r).units, v.addr = u.addr ∧ v.balAt = s.elec.uptime ∧ v.balResent = false ∧
      (passed s u.balAt (balLimit s r) = true → v.duties = [(x.eff, readDuties (x.payload.drop 1))]) := by
  have own : x.unit = f.src.toNat := by
    have kind := List.find?_some waits
    simp only [Bool.and_eq_true, beq_iff_eq, and_assoc] at kind
    exact kind.1
  have outcome : exec (.ack r f) s = .next
      (ackBalance (modCar s r fun c => { c with txns := c.txns.filter fun t => t.seq != byteAt f.payload 1 }) r x (byteAt f.payload 2)) := by
    show execAck r f s = _
    simp only [execAck, drive, good, balance, waits, Bool.not_true, Bool.false_eq_true, if_false, if_true]
    rfl
  have limit : balLimit (modCar s r fun c => { c with txns := c.txns.filter fun t => t.seq != byteAt f.payload 1 }) r = balLimit s r := by
    unfold balLimit
    rw [car_modCar]
    rfl
  refine ⟨_, outcome, ?_⟩
  rw [← limit]
  exact ackBalance_refreshes ((unitAt_modCar s r (by intro; rfl) x.unit).trans (own ▸ unit)) same

/-! ### Open-wire tests (R139, R145) -/

/-- A unit of the address stands with the wire confirmed open. -/
def openAt (s : State) (r : Ix) (a w : Nat) : Prop := ∃ v ∈ (car s r).units, v.addr = a ∧ w ∈ v.openWires

theorem openAt_of_data {s t : State} {r : Ix} (h : unitsData t r = unitsData s r) {a w : Nat} (o : openAt s r a w) : openAt t r a w :=
  unit_of_data (fun d => d.1 = a ∧ w ∈ d.2.2.1) h o

/-- A unit after verdict `v` on its wire `w` (Table 4-7). -/
def judged (v w : Nat) (u : UnitState) : UnitState :=
  { u with openWires := if v = 2 then (if u.openWires.contains w then u.openWires else u.openWires ++ [w]) else
             (if v = 0 then u.openWires.filter (· ≠ w) else u.openWires),
           degraded := if v = 1 then (if u.degraded.contains w then u.degraded else u.degraded ++ [w]) else u.degraded.filter (· ≠ w) }

theorem judged_opens (w : Nat) (u : UnitState) : w ∈ (judged 2 w u).openWires := by
  unfold judged
  by_cases held : w ∈ u.openWires <;> simp [held]

/-- An open wire stays open at a verdict on another wire, and at one that finds a wire open. -/
theorem judged_keeps {v w k : Nat} {u : UnitState} (held : k ∈ u.openWires) (stays : k ≠ w ∨ v = 2) : k ∈ (judged v w u).openWires := by
  unfold judged
  dsimp only
  split
  · split
    · exact held
    · exact List.mem_append_left _ held
  · next notOpen =>
    split
    · exact List.mem_filter.mpr ⟨held, by simpa using stays.resolve_right notOpen⟩
    · exact held

/-- The verdict on a wire changes nothing of the ring but the unit. -/
theorem car_judgeWire (s : State) (r : Ix) (a w : Nat) (shift : Int) :
    car (judgeWire s r a w shift) r = car (modUnit s r a (judged (wireVerdict s shift) w)) r := by
  unfold judgeWire
  dsimp only
  rw [apply_ite (car · r)]
  simp only [car_showEvent, ite_self]
  rfl

theorem wireVerdict_judgeWire (s : State) (r : Ix) (a w : Nat) (shift : Int) : wireVerdict (judgeWire s r a w shift) = wireVerdict s := by
  have par : parN (judgeWire s r a w shift) = parN s := parN_congr (same_ident (m := 201982112) (by simp) (by decide))
    (whole_par (m := 201982112) (by simp) (by decide) (by decide))
  funext i
  unfold wireVerdict
  rw [par]

theorem judgeWire_txns (s : State) (r : Ix) (a w : Nat) (shift : Int) : (car (judgeWire s r a w shift) r).txns = (car s r).txns := by
  rw [car_judgeWire, car_modUnit]

theorem judgeWire_addr {s : State} {r : Ix} {a b w : Nat} {shift : Int} (h : ∃ v ∈ (car s r).units, v.addr = b) :
    ∃ v ∈ (car (judgeWire s r a w shift) r).units, v.addr = b := by
  rw [car_judgeWire]
  exact modUnit_keeps (fun _ addr => addr) h

theorem judgeWire_opens {s : State} {r : Ix} {a w : Nat} {shift : Int} (h : ∃ v ∈ (car s r).units, v.addr = a)
    (verdict : wireVerdict s shift = 2) : openAt (judgeWire s r a w shift) r a w := by
  obtain ⟨v, mem, rfl⟩ := h
  unfold openAt
  rw [car_judgeWire, verdict]
  exact ⟨_, mem_modUnit mem _, rfl, judged_opens w v⟩

theorem judgeWire_keepsOpen {s : State} {r : Ix} {a w k : Nat} {shift : Int} (h : openAt s r a k) (stays : k ≠ w ∨ wireVerdict s shift = 2) :
    openAt (judgeWire s r a w shift) r a k := by
  obtain ⟨v, mem, rfl, held⟩ := h
  unfold openAt
  rw [car_judgeWire]
  exact ⟨_, mem_modUnit mem _, rfl, judged_keeps held stays⟩

/-- Of the wires judged one after another, one whose verdict is open stands open at the end. -/
theorem judgeWires_opens {s : State} {r : Ix} {a w : Nat} {shift : Nat → Int} {ws : List Nat} (mem : w ∈ ws)
    (verdict : wireVerdict s (shift w) = 2) (unit : ∃ v ∈ (car s r).units, v.addr = a) :
    openAt (ws.foldl (fun s w => judgeWire s r a w (shift w)) s) r a w := by
  refine foldl_reaches (inv := fun t => wireVerdict t = wireVerdict s ∧ ∃ v ∈ (car t r).units, v.addr = a) (goal := fun t => openAt t r a w) mem
    (fun t k inv => ?_) (fun t inv => ?_) (fun t k _ inv opened => ?_) ⟨rfl, unit⟩
  · exact ⟨(wireVerdict_judgeWire t r a k (shift k)).trans inv.1, judgeWire_addr inv.2⟩
  · exact judgeWire_opens inv.2 (by rw [inv.1, verdict])
  · refine judgeWire_keepsOpen opened ?_
    rw [inv.1]
    obtain rfl | other := eq_or_ne w k
    · exact Or.inr verdict
    · exact Or.inl other

theorem judgeWires_txns (s : State) (r : Ix) (a : Nat) (shift : Nat → Int) (ws : List Nat) :
    (car (ws.foldl (fun s w => judgeWire s r a w (shift w)) s) r).txns = (car s r).txns :=
  List.foldlRecOn (motive := fun t => (car t r).txns = (car s r).txns) ws _ rfl fun t same w _ => (judgeWire_txns t r a w _).trans same

theorem settleSuspicions_txns (s : State) (r : Ix) (a : Nat) (shifts : List (Nat × Nat)) :
    (car (settleSuspicions s r a shifts) r).txns = (car s r).txns := by
  have events (dv : List (Option Rat)) (xs : List Suspicion) (t : State) :
      (car (xs.foldl (fun s x => suspectEvent s r a dv x) t) r).txns = (car t r).txns :=
    List.foldlRecOn (motive := fun u => (car u r).txns = (car t r).txns) xs _ rfl fun u same x _ => by rw [car_suspectEvent, same]
  unfold settleSuspicions
  split
  · rfl
  · dsimp only
    rw [events, events, car_modUnit]

/-- A new nomination asks for nothing but CONFIG. -/
theorem renominate_txns {s : State} {r : Ix} {a : Nat} {x : Txn} (h : x ∈ (car (renominate s r a) r).txns) :
    x ∈ (car s r).txns ∨ x.type = 0x06 ∨ x.type = 0x86 := by
  unfold renominate at h
  split at h
  · exact Or.inl h
  · dsimp only at h
    split at h
    · exact Or.inl h
    · unfold sendConfig at h
      split at h
      · rw [car_modUnit] at h
        exact Or.inl h
      · split at h
        · rw [car_sendUnit, car_modUnit, List.mem_append, List.mem_singleton] at h
          exact h.imp_right fun e => Or.inl (by rw [e])
        · rw [car_sendHop, car_modUnit, List.mem_append, List.mem_singleton] at h
          exact h.imp_right fun e => Or.inr (by rw [e])

theorem requestTest_none (s : State) (r : Ix) (a : Nat) : requestTest s r a 0 = s := by
  unfold requestTest
  split
  · rfl
  · simp

/-- R139: the reply ends the test, and each tested wire beyond the bound stands open. -/
theorem openwireRep_judges {s : State} {r : Ix} {f : CarFrame} {u : UnitState} {p : Nat × Nat} (drive : drivesRing s r false = true)
    (good : f.good 0x0C [34] = true) (unit : unitAt s r f.src.toNat = some u) (tested : u.owPending = some p) :
    runs (.openwireRep r f) s fun t => (u.owQueued = 0 → ∀ x ∈ (car t r).txns, ¬ (x.unit = u.addr ∧ x.type = 0x0B)) ∧
      ∀ w < 17, testBit p.1 w = true → wireVerdict s (toSigned 16 (beAt f.payload (2 * w) 2)) = 2 →
        ∃ v ∈ (car t r).units, v.addr = u.addr ∧ w ∈ v.openWires := by
  obtain ⟨mask, c⟩ := p
  refine ⟨_, (rfl : exec (.openwireRep r f) s = .next _), ?_, ?_⟩
  · intro queued x
    simp only [drive, good, unit, tested, queued, requestTest_none, Bool.not_true, Bool.false_eq_true, if_false]
    rintro asked ⟨own, test⟩
    obtain stays | config | config := renominate_txns asked
    · rw [settleSuspicions_txns, judgeWires_txns, car_modUnit, car_modCar, List.mem_filter] at stays
      obtain ⟨-, other⟩ := stays
      simp [own, test] at other
    · omega
    · omega
  · intro w range asked verdict
    simp only [drive, good, unit, tested, Bool.not_true, Bool.false_eq_true, if_false]
    refine openAt_of_data (a := u.addr) (w := w) ((renominate_data _ r _).trans ((requestTest_data _ r _ _).trans (settleSuspicions_data _ r _ _))) ?_
    refine judgeWires_opens (shift := fun w => toSigned 16 (beAt f.payload (2 * w) 2))
      (List.mem_filter.mpr ⟨List.mem_range.mpr range, asked⟩) verdict ⟨_, mem_modUnit ?_ _, rfl⟩
    rw [car_modCar]
    exact unitAt_mem unit

/-! ### Watched cells and compatibility units (R116, R136) -/

theorem alignSource_ring (s : State) (k : SrcKey) (ok : Bool) (n : Nat) (lag : Rat) : (alignSource s k ok n lag).ring = s.ring :=
  same_ring (m := 201982080) (by simp) (by decide)

/-- R109, R136: the number of a watched-cell frame is kept. -/
theorem watchStream_numbers {s : State} {r : Ix} {f : CarFrame} {u : UnitState} (drive : drivesRing s r false = true)
    (good : f.good 0x11 [72] = true) (unit : unitAt s r f.src.toNat = some u) :
    runs (.watchStream r f) s fun t => ∃ v ∈ (car t r).units, v.addr = u.addr ∧ v.wseq = some (beAt f.payload 0 2) := by
  refine ⟨_, (rfl : exec (.watchStream r f) s = .next _), ?_⟩
  simp only [drive, good, unit, Bool.not_true, Bool.false_eq_true, if_false]
  refine modUnit_keeps (p := fun v => v.addr = u.addr ∧ v.wseq = some (beAt f.payload 0 2)) (fun _ kept => kept) ?_
  rw [car_of_ring (foldl_ring _ (fun _ _ => alignSource_ring _ _ _ _ _) _ _)]
  exact ⟨_, mem_modUnit (unitAt_mem unit) _, rfl, rfl⟩

/-- R116: the temperatures that a compatibility unit sends stand for it. -/
theorem compatibilityReply_takes {s : State} {r : Ix} {f : Car12Frame} {x : Txn} {u : UnitState} (drive : drivesRing s r true = true)
    (type : f.type = 0xC4) (good : f.good 12 = true) (waits : (car s r).txns.find? (fun t => t.type == 0x84) = some x)
    (unit : unitAt s r x.unit = some u) :
    runs (.compatibilityReply r f) s fun t => ∃ v ∈ (car t r).units, v.addr = u.addr ∧
      v.t12 = (List.range 4).map fun k => beAt f.payload (4 + 2 * k) 2 := by
  have number : f.type.toNat = 0xC4 := by rw [type]; rfl
  have reply : reply12 0xC4 = some (12, 0x84) := rfl
  have takes (t : State) (c : Nat) (present : ∃ v ∈ (car t r).units, v.addr = u.addr) : ∃ v ∈ (car (modUnit t r u.addr fun u =>
      { u with t12 := (List.range 4).map fun k => beAt f.payload (4 + 2 * k) 2, t12At := c }) r).units,
      v.addr = u.addr ∧ v.t12 = (List.range 4).map fun k => beAt f.payload (4 + 2 * k) 2 := by
    obtain ⟨v, mem, addr⟩ := present
    rw [← addr]
    exact ⟨_, mem_modUnit mem _, rfl, rfl⟩
  refine ⟨_, (rfl : exec (.compatibilityReply r f) s = .next _), ?_⟩
  simp only [drive, number, reply, good, waits, ← unitAt_addr unit, Bool.not_true, Bool.false_eq_true, if_false]
  have present : ∃ v ∈ (car (modUnit (modCar s r fun c => { c with txns := c.txns.filter fun y => y.seq != x.seq }) r u.addr
      fun u => { u with returning := u.lost }) r).units, v.addr = u.addr :=
    modUnit_keeps (fun _ addr => addr) ⟨u, by rw [car_modCar]; exact unitAt_mem unit, rfl⟩
  split
  · exact unit_of_data (fun d => d.1 = u.addr ∧ d.2.2.2 = _) ((balStopped_data _ r _ _).trans
      ((modUnit_data _ r _ (by intro; rfl)).trans (thermFaults_data _ r _ _))) (takes _ _ present)
  · exact unit_of_data (fun d => d.1 = u.addr ∧ d.2.2.2 = _) ((modUnit_data _ r _ (by intro; rfl)).trans (thermFaults_data _ r _ _))
      (takes _ _ present)

/-- Settles O8: one theorem above for each clause, in the order of the commands. -/
theorem ringRepliesTakeEffect : Obligations.RingRepliesTakeEffect := by
  unfold Obligations.RingRepliesTakeEffect
  refine ⟨?record, ?deadline, ?resend, ?lost, ?status, ?ack, ?balance, ?nak, ?wires, ?watch, ?compat⟩
  case record => exact fun s r f u drive good unit due => featureRec_stores drive good unit due
  case deadline => exact fun s r u drive cycle unit here missing => deliveryDeadline_asks drive cycle unit here missing
  case resend => exact fun s r x seq drive waits silent left => transactionTimeout_resends drive waits silent left
  case lost => exact fun s r x u seq drive waits silent spent unit here => transactionTimeout_loses drive waits silent spent unit here
  case status => exact fun s r f u drive good unit => statusRep_notes drive good unit
  case ack => exact fun s r f x drive good waits unit type seq notTest notBalance =>
    ack_answers drive good waits unit type seq notTest notBalance
  case balance => exact fun s r f x u drive good balance waits unit same => ack_refreshes drive good balance waits unit same
  case nak => exact fun s r f drive good => nak_answers drive good
  case wires => exact fun s r f u p drive good unit tested => openwireRep_judges drive good unit tested
  case watch => exact fun s r f u drive good unit => watchStream_numbers drive good unit
  case compat => exact fun s r f x u drive type good waits unit => compatibilityReply_takes drive type good waits unit

end Sys2Proof.Proofs

/-! PROOFS. Ring breaks, their repair, and enumeration again (R101, R117, R118, R120): what a declared break and an enumeration make of a ring,
then one theorem per command. -/

namespace Sys2Proof.Proofs

open Sys2Proof Sys2Proof.Machine Sys2Proof.Laws

/-! ### Breaks (R118) -/

/-- A break of a native ring in one piece splits it where it was found. -/
theorem declareBreak_eq {s : State} {r : Ix} (after cause : Nat) (served : (car s r).served = true) (native : (car s r).compat = false)
    (whole : (car s r).split = false) : declareBreak s r after cause =
      raise (modCar s r fun c => { c with split := true, breakAfter := after, splitCnt := sat 0xFF (c.splitCnt + 1), sumHalf := none }) 65
        (ux r ++ u8 after ++ u8 cause) := by
  simp [declareBreak, served, native, whole]

section Break

variable {s : State} {r : Ix} (after cause : Nat) (served : (car s r).served = true) (native : (car s r).compat = false)
  (whole : (car s r).split = false)
include served native whole

theorem declareBreak_splits : (car (declareBreak s r after cause) r).split = true ∧
    (car (declareBreak s r after cause) r).breakAfter = after ∧
    newest (declareBreak s r after cause) 65 = some (ux r ++ u8 after ++ u8 cause) := by
  rw [declareBreak_eq after cause served native whole, car_raise, car_modCar]
  exact ⟨rfl, rfl, raise_newest _ 65 _⟩

end Break

/-- A break leaves the locks of both ends as they are. -/
theorem declareBreak_locks (s : State) (r : Ix) (after cause : Nat) : (car (declareBreak s r after cause) r).lockA = (car s r).lockA ∧
    (car (declareBreak s r after cause) r).lockB = (car s r).lockB := by
  unfold declareBreak ringUnserved
  split
  · exact ⟨rfl, rfl⟩
  · split
    · rw [car_raise, car_modCar, car_modCar]
      exact ⟨rfl, rfl⟩
    · rw [car_raise, car_modCar]
      exact ⟨rfl, rfl⟩

section Native

variable {s : State} {r : Ix} (drive : drivesRing s r false = true)
include drive

/-- R118: WRAP_NOTICE with SIDE 1 comes from the last unit before the break. -/
theorem wrapNotice_before {f : CarFrame} (whole : (car s r).split = false) (good : f.good 0x0E [1] = true) (side : byteAt f.payload 0 = 1) :
    runs (.wrapNotice r f) s fun t => (car t r).split = true ∧ (car t r).breakAfter = f.src.toNat ∧
      newest t 65 = some (ux r ++ u8 f.src.toNat ++ u8 1) := by
  obtain ⟨-, served, native⟩ := drivesRing_iff.mp drive
  have outcome : exec (.wrapNotice r f) s = .next (declareBreak s r f.src.toNat 1) := by
    show execWrapNotice r f s = _
    simp [execWrapNotice, drive, good, side]
  exact ⟨_, outcome, declareBreak_splits _ 1 served native whole⟩

/-- R118: WRAP_NOTICE with SIDE 2 comes from the first unit after the break. -/
theorem wrapNotice_after {f : CarFrame} (whole : (car s r).split = false) (good : f.good 0x0E [1] = true) (side : byteAt f.payload 0 = 2) :
    runs (.wrapNotice r f) s fun t => (car t r).split = true ∧ (car t r).breakAfter = f.src.toNat - 1 := by
  obtain ⟨-, served, native⟩ := drivesRing_iff.mp drive
  have outcome : exec (.wrapNotice r f) s = .next (declareBreak s r (f.src.toNat - 1) 1) := by
    show execWrapNotice r f s = _
    simp [execWrapNotice, drive, good, side]
  obtain ⟨splits, after, -⟩ := declareBreak_splits (f.src.toNat - 1) 1 served native whole
  exact ⟨_, outcome, splits, after⟩

/-- R118: a trigger that does not come round splits the ring behind the last unit that heard it. -/
theorem ringTriggerTimeout_splits (n : Nat) (whole : (car s r).split = false) :
    runs (.ringTriggerTimeout r n) s fun t => (car t r).split = true ∧ (car t r).breakAfter = min n (car s r).count ∧
      newest t 65 = some (ux r ++ u8 (min n (car s r).count) ++ u8 3) := by
  obtain ⟨owner, served, native⟩ := drivesRing_iff.mp drive
  have outcome : exec (.ringTriggerTimeout r n) s = .next (declareBreak s r (min n (car s r).count) 3) := by
    show execRingTriggerTimeout r n s = _
    simp [execRingTriggerTimeout, owner]
  exact ⟨_, outcome, declareBreak_splits _ 3 served native whole⟩

/-- R120: the ring is whole again with lock at both ends, and the check of its length is reported. -/
theorem ringRestore_restores (n : Nat) (broken : (car s r).split = true) :
    runs (.ringRestore r n) s fun t => (car t r).split = false ∧ (car t r).lockA = true ∧ (car t r).lockB = true ∧
      (newest t 67).isSome = true := by
  refine ⟨_, (rfl : exec (.ringRestore r n) s = .next _), ?_⟩
  simp only [drive, broken, Bool.and_self, if_true, car_raise, car_modCar, raise_newest, Option.isSome_some, and_self]

end Native

/-- Lock is lost at an end of the ring. -/
def lockLost (s : State) (r : Ix) (endB : Bool) : State := modCar s r fun c => if endB then { c with lockB := false } else { c with lockA := false }

theorem lockLost_lock (s : State) (r : Ix) (endB : Bool) :
    (if endB then (car (lockLost s r endB) r).lockB else (car (lockLost s r endB) r).lockA) = false := by
  rw [lockLost, car_modCar]
  cases endB <;> rfl
theorem lockLost_same (s : State) (r : Ix) (endB : Bool) : (car (lockLost s r endB) r).served = (car s r).served ∧
    (car (lockLost s r endB) r).compat = (car s r).compat ∧ (car (lockLost s r endB) r).split = (car s r).split ∧
    (car (lockLost s r endB) r).count = (car s r).count := by
  rw [lockLost, car_modCar]
  cases endB <;> exact ⟨rfl, rfl, rfl, rfl⟩

/-- R118: a loss of lock is noted, and splits a native ring in one piece at that end (log 44). -/
theorem ringLockLoss_splits {s : State} {r : Ix} (endB : Bool) (run : running s = true) :
    runs (.ringLockLoss r endB) s fun t => (if endB then (car t r).lockB else (car t r).lockA) = false ∧
      (drivesRing s r false = true → (car s r).split = false → (car t r).split = true ∧
        (car t r).breakAfter = (if endB then (car s r).count else 0)) := by
  obtain ⟨served, compat, unsplit, count⟩ := lockLost_same s r endB
  have outcome : exec (.ringLockLoss r endB) s = .next
      (if drives s then declareBreak (lockLost s r endB) r (if endB then (car s r).count else 0) 2 else lockLost s r endB) := by
    rw [← count]
    show execRingLockLoss r endB s = _
    simp only [execRingLockLoss, run, Bool.not_true, Bool.false_eq_true, if_false]
    rfl
  refine ⟨_, outcome, ?_, fun drive whole => ?_⟩
  · by_cases drive : drives s = true
    · obtain ⟨lockA, lockB⟩ := declareBreak_locks (lockLost s r endB) r (if endB then (car s r).count else 0) 2
      rw [if_pos drive, lockA, lockB]
      exact lockLost_lock s r endB
    · rw [if_neg drive]
      exact lockLost_lock s r endB
  · obtain ⟨drive, service, native⟩ := drivesRing_iff.mp drive
    obtain ⟨splits, after, -⟩ := declareBreak_splits (if endB then (car s r).count else 0) 2 (served.trans service) (compat.trans native)
      (unsplit.trans whole)
    rw [if_pos drive]
    exact ⟨splits, after⟩

/-! ### Enumeration of a compatibility ring (R101, R117) -/

theorem compatServed_sendHop {s : State} {r : Ix} (a type : Nat) (p : List Byte) (h : (car s r).served = true ∧ (car s r).compat = true) :
    (car (sendHop s r a type p) r).served = true ∧ (car (sendHop s r a type p) r).compat = true := by
  rw [car_sendHop]; exact h
theorem compatServed_sendConfig {s : State} {r : Ix} (a : Nat) (h : (car s r).served = true ∧ (car s r).compat = true) :
    (car (sendConfig s r a) r).served = true ∧ (car (sendConfig s r a) r).compat = true := by
  unfold sendConfig
  split
  · exact h
  · split
    · rw [car_sendUnit]; exact h
    · exact compatServed_sendHop a _ _ h

theorem serialEvents_ring (s : State) (r : Ix) (old : List (Nat × Nat)) (units : List UnitState) :
    (serialEvents s r old units).ring = s.ring := same_ring (m := 201981952) (by simp) (by decide)

theorem car_sendUnitTable (s : State) (r : Ix) : car (sendUnitTable s r) r = car s r := by
  unfold sendUnitTable; split <;> rfl

/-- A compatibility ring found whole is served. -/
theorem ringServed_compat (s : State) (r : Ix) (f : RingFind) :
    (car (ringServed s r f true false) r).served = true ∧ (car (ringServed s r f true false) r).compat = true := by
  unfold ringServed enumCompat
  simp only [Bool.false_eq_true, if_false, if_true]
  refine List.foldlRecOn (motive := fun t : State => (car t r).served = true ∧ (car t r).compat = true) _ _ ?_
    fun t served u _ => compatServed_sendHop u.addr _ _ (compatServed_sendConfig u.addr served)
  rw [car_raiseIf, car_raiseIf, car_of_ring (serialEvents_ring _ _ _ _), car_modCar]
  exact ⟨rfl, rfl⟩

/-- Nothing comes into force where no change waits. -/
theorem applyBound_settled {s : State} (settled : s.par.pending = []) (b : Bound) : applyBound s b = s := by
  have same : { s.par with acting := s.par.acting, pending := [] } = s.par := by rw [← settled]
  unfold applyBound applyPending
  rw [settled]
  simp only [List.filter_nil, List.foldl_nil, same]

section Reenum

variable {s : State} {r : Ix} {f : RingFind} (drive : drives s = true) (compat : (car s r).compat = true)
  (broken : (car s r).served = false) (enabled : strEnabled s r = true)
include drive compat broken

theorem compatReenum_enumerates : exec (.compatReenum r f) s = .next (enumerate s r f) := by
  show execCompatReenum r f s = _
  simp [execCompatReenum, drive, compat, broken]

include enabled

/-- R101: with lock at neither end the ring stays without service, and step 2 is reported. -/
theorem compatReenum_fails (lockA : f.lockA = false) (lockB : f.lockB = false) :
    runs (.compatReenum r f) s fun t => (car t r).served = false ∧ (car t r).finding = 4 ∧
      newest t 64 = some (ux r ++ u8 2 ++ u8 f.attempts) := by
  refine ⟨_, compatReenum_enumerates drive compat broken, ?_⟩
  unfold enumerate
  simp only [enabled, lockA, lockB, Bool.not_true, Bool.false_eq_true, if_false, bne_self_eq_false]
  rw [ringUnserved, car_raise, car_modCar]
  exact ⟨rfl, rfl, raise_newest _ 64 _⟩

/-- R117: a compatibility ring found whole and of compatibility units alone is served again. -/
theorem compatReenum_serves (settled : s.par.pending = []) (param : parN s (0x0303 + r.num) = 1) (lockA : f.lockA = true)
    (lockB : f.lockB = true) (sound : enumFault f = none) (units : ∀ i ∈ f.idents, ∀ d, i = some d → d.gen16 = false) :
    runs (.compatReenum r f) s fun t => (car t r).served = true ∧ (car t r).compat = true := by
  have none16 : (f.idents.filterMap id).filter (·.gen16) = [] := by
    rw [List.filter_eq_nil_iff]
    intro d hd
    obtain ⟨i, mem, found⟩ := List.mem_filterMap.mp hd
    simp [units i mem d found]
  refine ⟨_, compatReenum_enumerates drive compat broken, ?_⟩
  unfold enumerate
  rw [applyBound_settled settled]
  have mode (g : RingState → RingState) : parN (modCar s r g) (0x0303 + r.num) = 1 := param
  simp only [enabled, lockA, lockB, sound, mode, none16, bne_self_eq_false, beq_self_eq_true, List.length_nil, ne_eq, not_true_eq_false,
    decide_false, Bool.not_true, Bool.and_false, Bool.false_and, Bool.false_eq_true, if_false, if_true]
  rw [car_sendUnitTable]
  exact ringServed_compat _ r f

end Reenum

/-! ### CARAVAN_REENUM (R101, R402, R403) -/

/-- A CARAVAN_REENUM waits for the end of an enumeration of a ring of its mask. -/
def reenumWaits (s : State) (mask : Nat) : Bool := [Ix.zero, Ix.one].any fun r => testBit mask r.num && (car s r).enumFrom.isSome

theorem reenumWaits_iff {s : State} {mask : Nat} :
    reenumWaits s mask = true ↔ ∃ r : Ix, testBit mask r.num = true ∧ (car s r).enumFrom.isSome = true := by
  simp only [reenumWaits, List.any_cons, List.any_nil, Bool.or_false, Bool.or_eq_true, Bool.and_eq_true]
  constructor
  · rintro (zero | one)
    · exact ⟨.zero, zero⟩
    · exact ⟨.one, one⟩
  · rintro ⟨r, waits⟩
    cases r
    · exact Or.inl waits
    · exact Or.inr waits

theorem reenumReport_of_ring {s t : State} (h : t.ring = s.ring) (mask : Nat) (r : Ix) : reenumReport t mask r = reenumReport s mask r := by
  unfold reenumReport; rw [car_of_ring h]

/-- The commands whose rings are done have ended. -/
def reenumsEnded (s : State) : State :=
  (s.host.reenums.filter fun p => !reenumWaits s p.2).foldl (fun s p =>
    endLong s p.1 .ok 0 (reenumReport s p.2 .zero ++ reenumReport s p.2 .one)) s

theorem endReenums_host (s : State) : (endReenums s).host =
    { (reenumsEnded s).host with reenums := (reenumsEnded s).host.reenums.filter fun p => reenumWaits s p.2 } := rfl

/-- Their ends leave the ports and the list of the commands. -/
theorem reenumsEnded_kept (s : State) : (reenumsEnded s).host.port = s.host.port ∧ (reenumsEnded s).host.reenums = s.host.reenums :=
  List.foldlRecOn (motive := fun t : State => t.host.port = s.host.port ∧ t.host.reenums = s.host.reenums) _ _ ⟨rfl, rfl⟩
    fun _ same _ _ => same

theorem endReenums_port (s : State) : (endReenums s).host.port = s.host.port := by
  rw [endReenums_host]
  exact (reenumsEnded_kept s).1

/-- A command whose rings are not done goes on. -/
theorem endReenums_waits {s : State} {id mask : Nat} (mem : (id, mask) ∈ s.host.reenums) (waits : reenumWaits s mask = true) :
    (id, mask) ∈ (endReenums s).host.reenums := by
  rw [endReenums_host, (reenumsEnded_kept s).2]
  exact List.mem_filter.mpr ⟨mem, waits⟩

/-- The only command, once its rings are done, ends with their report. -/
theorem endReenums_longs {s : State} {id mask : Nat} (only : s.host.reenums = [(id, mask)]) (done : reenumWaits s mask = false) :
    (endReenums s).host.longs = (endLong s id .ok 0 (reenumReport s mask .zero ++ reenumReport s mask .one)).host.longs := by
  have ends : (s.host.reenums.filter fun p => !reenumWaits s p.2) = [(id, mask)] := by
    rw [only, List.filter_cons, List.filter_nil, done]
    rfl
  rw [endReenums_host, reenumsEnded, ends, List.foldl_cons, List.foldl_nil]

/-- What CARAVAN_REENUM does with one ring. -/
def reenumOne (mask : Nat) (s : State) (r : Ix) (f : RingFind) : State :=
  if !testBit mask r.num then s
  else if !strEnabled s r then modCar s r fun c => { c with finding := 5 }
  else if drives s then enumerate s r f else s

theorem reenumOne_hostRest (mask : Nat) (s : State) (r : Ix) (f : RingFind) : hostRest (reenumOne mask s r f).host = hostRest s.host := by
  unfold reenumOne
  split
  · rfl
  · split
    · rfl
    · split
      · exact same_host (m := 204079136) (by simp) (by decide)
      · rfl

theorem reenums_of_rest {a b : HostBlock} (e : hostRest a = hostRest b) : a.reenums = b.reenums := by
  have same := congrArg (fun b : HostBlock => b.reenums) e
  exact same
theorem writeResponse_reenums (s : State) (h : Hdr) (op : Nat) (st : Status) (dt id : Nat) (w : Option (Nat × Nat × Nat)) (b : List Byte) :
    (writeResponse s h op st dt id w b).host.reenums = s.host.reenums := by
  unfold writeResponse
  dsimp only
  split
  · rw [reenums_of_rest (sendVector_hostRest _ h.port h.ring)]
    rfl
  · rfl
theorem answerBad_reenums (p : Ix) (ring n : Nat) (s : State) : (answerBad p ring n s).host.reenums = s.host.reenums := by
  induction n generalizing s with
  | zero => rfl
  | succ n ih =>
    unfold answerBad
    split
    · rfl
    · split
      · rfl
      · rw [ih, writeResponse_reenums]
theorem acceptLong_reenums (s : State) (h : Hdr) (op : Nat) : (acceptLong s h op).2.host.reenums = s.host.reenums := by
  unfold acceptLong respondFull
  dsimp only
  split
  · rfl
  · rw [answerBad_reenums, writeResponse_reenums]
    rfl

/-- The enumerations of CARAVAN_REENUM have begun, or found their rings at fault; the command is among those that wait. -/
def reenumBegun (s : State) (h : Hdr) (mask : Nat) (f0 f1 : RingFind) : State :=
  let t := reenumOne mask (reenumOne mask (acceptLong s h 0x0030).2 .zero f0) .one f1
  { t with host := { t.host with reenums := t.host.reenums ++ [((acceptLong s h 0x0030).1, mask)] } }

theorem reenumBegun_host (s : State) (h : Hdr) (mask : Nat) (f0 f1 : RingFind) :
    ((reenumBegun s h mask f0 f1).host.port.get h.port).responses = ((acceptLong s h 0x0030).2.host.port.get h.port).responses ∧
      (reenumBegun s h mask f0 f1).host.longs = (acceptLong s h 0x0030).2.host.longs ∧
      (reenumBegun s h mask f0 f1).host.reenums = s.host.reenums ++ [((acceptLong s h 0x0030).1, mask)] := by
  have rest := (reenumOne_hostRest mask (reenumOne mask (acceptLong s h 0x0030).2 .zero f0) .one f1).trans
    (reenumOne_hostRest mask (acceptLong s h 0x0030).2 .zero f0)
  have responses := congrArg (fun q : PortState => q.responses) (port_of_rest rest h.port)
  have longs := longs_of_rest rest
  have reenums := reenums_of_rest rest
  refine ⟨responses, longs, ?_⟩
  exact congrArg (· ++ _) (reenums.trans (acceptLong_reenums s h 0x0030))

/-- R101, R402, R403: the command is accepted, waits for the enumerations of its rings, and ends with their report. -/
theorem caravanReenum_accepts {s : State} {h : Hdr} (mask : Nat) (f0 f1 : RingFind) (ready : hostReady s h = true) (only : alone s h = true) :
    runs (.caravanReenum h mask f0 f1) s fun t => ∃ id, answered t h 0x0030 .accepted 0 id [] ∧
      ((∃ r : Ix, testBit mask r.num = true ∧ (car t r).enumFrom.isSome = true) → (id, mask) ∈ t.host.reenums) ∧
      (s.host.reenums = [] → (∀ r : Ix, testBit mask r.num = true → (car t r).enumFrom = none) →
        longEnded t h 0x0030 .ok 0 (reenumReport t mask .zero ++ reenumReport t mask .one)) := by
  have outcome : exec (.caravanReenum h mask f0 f1) s = .next (endReenums (reenumBegun s h mask f0 f1)) := by
    show execCaravanReenum h mask f0 f1 s = _
    simp only [execCaravanReenum, ready, Bool.not_true, Bool.false_eq_true, if_false]
    rfl
  obtain ⟨responses, longs, reenums⟩ := reenumBegun_host s h mask f0 f1
  have ring := endReenums_ring (reenumBegun s h mask f0 f1)
  refine ⟨_, outcome, (acceptLong s h 0x0030).1, ?_, ?_, ?_⟩
  · have accepted := acceptLong_answered s h 0x0030 (hostReady_portUp ready) only
    unfold answered at accepted ⊢
    rw [endReenums_port, responses]
    exact accepted
  · rintro ⟨r, named, begun⟩
    rw [car_of_ring ring] at begun
    exact endReenums_waits (by rw [reenums]; exact List.mem_append_right _ (List.mem_singleton_self _)) (reenumWaits_iff.mpr ⟨r, named, begun⟩)
  · intro empty ended
    have done : reenumWaits (reenumBegun s h mask f0 f1) mask = false := by
      rw [Bool.eq_false_iff]
      intro waits
      obtain ⟨r, named, begun⟩ := reenumWaits_iff.mp waits
      rw [← car_of_ring ring, ended r named] at begun
      exact absurd begun (by decide)
    have kept := endLong_newest (reenumBegun s h mask f0 f1) s.host.longs _ (longs.trans (acceptLong_longs s h 0x0030)) rfl .ok 0
      (reenumReport (endReenums (reenumBegun s h mask f0 f1)) mask .zero ++ reenumReport (endReenums (reenumBegun s h mask f0 f1)) mask .one)
    unfold longEnded
    rw [endReenums_longs (by rw [reenums, empty]; rfl) done]
    rw [reenumReport_of_ring ring, reenumReport_of_ring ring] at kept ⊢
    exact ⟨_, kept, rfl, rfl, rfl, rfl, rfl, rfl, rfl, rfl⟩

/-- Settles O9: one theorem above for each clause, in the order of the commands. -/
theorem ringBreaksTakeEffect : Obligations.RingBreaksTakeEffect := by
  unfold Obligations.RingBreaksTakeEffect
  refine ⟨?before, ?after, ?lock, ?trigger, ?restore, ?fails, ?serves, ?reenum⟩
  case before => exact fun s r f drive whole good side => wrapNotice_before drive whole good side
  case after => exact fun s r f drive whole good side => wrapNotice_after drive whole good side
  case lock => exact fun s r endB run => ringLockLoss_splits endB run
  case trigger => exact fun s r n drive whole => ringTriggerTimeout_splits drive n whole
  case restore => exact fun s r n drive broken => ringRestore_restores drive n broken
  case fails => exact fun s r f drive compat broken enabled lockA lockB => compatReenum_fails drive compat broken enabled lockA lockB
  case serves => exact fun s r f drive compat broken enabled settled param lockA lockB sound units =>
    compatReenum_serves drive compat broken enabled settled param lockA lockB sound units
  case reenum => exact fun s h mask f0 f1 ready only => caravanReenum_accepts mask f0 f1 ready only

end Sys2Proof.Proofs

/-! PROOFS. The sums of a tick, the supply of a front end, the latch of a counter and the calibration of a channel (R110, R159, R167 to R169, R429,
R491): one theorem per command. -/

namespace Sys2Proof.Proofs

open Sys2Proof Sys2Proof.Machine Sys2Proof.Laws

/-! ### Sums, supplies and latches -/

/-- Taking a whole TICK_SUM changes of the rings what it brings: itself, the fault flags of the units and their bytes. -/
theorem takeSum_ring (s : State) (r : Ix) (x : TickSumRec) : (takeSum s r x).ring = (modCar s r fun c => { c with
    sum := some x, sumDue := none, sumHalf := none,
    units := c.units.map fun u => { u with flt := testBit x.flt (u.addr - 1) },
    view := c.view.zipIdx.map fun p => if p.1 = 0 then 0 else p.1 - 8 * bit (testBit p.1 3) + 8 * bit (testBit x.flt p.2) }).ring := by
  unfold takeSum
  exact same_ring (m := 202317824) (by simp) (by decide)

/-- A whole TICK_SUM is the ring's newest, and none is due any more. -/
theorem takeSum_taken (s : State) (r : Ix) (x : TickSumRec) : (car (takeSum s r x) r).sum = some x ∧ (car (takeSum s r x) r).sumDue = none := by
  rw [car_of_ring (takeSum_ring s r x), car_modCar]
  exact ⟨rfl, rfl⟩

/-- R110, R118: the sum of the tick that is due on a whole ring is taken. -/
theorem tickSum_taken {s : State} {r : Ix} {f : CarFrame} {k : Nat} (endB : Bool) (drive : drivesRing s r false = true)
    (good : f.good 0x12 [14] = true) (due : (car s r).sumDue = some k) (tick : byteAt f.payload 0 = k % 128) (whole : (car s r).split = false) :
    runs (.tickSum r endB f) s fun t => (car t r).sum = some (readSum k f.payload) ∧ (car t r).sumDue = none := by
  have outcome : exec (.tickSum r endB f) s = .next (takeSum s r (readSum k f.payload)) := by
    show execTickSum r endB f s = _
    simp [execTickSum, drive, good, due, tick, whole]
  exact ⟨_, outcome, takeSum_taken s r _⟩

/-- R169: a change of a front end's supply is noted and reported. -/
theorem isoOkChange_reports {s : State} {x : Ix} {ok : Bool} (clock : clocked s = true) (fitted : feFitted s x = true) (step : 3 ≤ s.elec.step)
    (change : (s.front.fe.get x).isoOk ≠ ok) :
    runs (.isoOkChange x ok) s fun t => (t.front.fe.get x).isoOk = ok ∧ newest t 89 = some (ux x ++ ub ok) := by
  refine ⟨_, (rfl : exec (.isoOkChange x ok) s = .next _), ?_⟩
  simp only [clock, fitted, step, bne_iff_ne.mpr change, decide_true, Bool.and_self, if_true, raise_front]
  exact ⟨by rw [modFe, two_get_modify], raise_newest _ 89 _⟩

/-- R159, R429, R491: a read of the lower half of a counter latches its upper half for the port. -/
theorem latchedLoRead_latches {s : State} {p : Ix} {off v : Nat} (clock : clocked s = true) (up : portUp s p = true)
    (pair : pairValue s off = some v) (firmware : s.elec.fw = true) :
    runs (.latchedLoRead p off) s fun t => KV.get? (t.host.port.get p).latch off = some (v / 2 ^ 32 % 2 ^ 32) := by
  have outcome : exec (.latchedLoRead p off) s = .next (modPort s p fun q => { q with latch := KV.put q.latch off (v / 2 ^ 32 % 2 ^ 32) }) := by
    show execLatchedLoRead p off s = _
    simp [execLatchedLoRead, clock, up, pair, firmware]
  refine ⟨_, outcome, ?_⟩
  simp only [modPort_host, two_get_modify, kv_get_put, if_true]

/-! ### Calibration points -/

theorem calOf_setCal (s : State) (target : Nat) (m : KV Nat CalPoint) : calOf (setCal s target m) target = m := by
  unfold calOf setCal
  split
  · rfl
  · rw [modFe, two_get_modify]
theorem calOf_setCal_put (s : State) (target : Nat) (m : KV Nat CalPoint) (ch : Nat) (p : CalPoint) :
    KV.get? (calOf (setCal s target (KV.put m ch p)) target) ch = some p := by
  rw [calOf_setCal, kv_get_put, if_pos rfl]
theorem calOf_of_front {s t : State} (h : t.front = s.front) (target : Nat) : calOf t target = calOf s target := by unfold calOf; rw [h]
theorem setCal_host (s : State) (target : Nat) (m : KV Nat CalPoint) : (setCal s target m).host = s.host := by unfold setCal; split <;> rfl
theorem setCal_par (s : State) (target : Nat) (m : KV Nat CalPoint) : (setCal s target m).par = s.par := by unfold setCal; split <;> rfl

/-- The point that a CAL_POINT goes on with is the port's own, or a new one. -/
theorem calPoint_port (m : KV Nat CalPoint) (ch : Nat) (h : Hdr) :
    (((KV.get? m ch).filter fun p => p.port = h.port).getD { port := h.port }).port = h.port := by
  cases found : (KV.get? m ch).filter fun p => p.port = h.port with
  | none => rfl
  | some p => simpa using (Option.filter_eq_some_iff.mp found).2

/-- R167: CAL_POINT is accepted, and the point is taken from the next cycle on. -/
theorem calPoint_begins {s : State} {h : Hdr} {target ch : Nat} (span : Bool) (v : F32) (ready : hostReady s h = true) (only : alone s h = true)
    (channel : calExists s target ch = true) (free : calHolder s h target ch = none) :
    runs (.calPoint h target ch span v) s fun t => ∃ id p, answered t h 0x0032 .accepted 0 id [] ∧
      KV.get? (calOf t target) ch = some p ∧ p.fromCycle = curCycle s + 1 ∧ p.port = h.port ∧ p.busy = some (span, v, id, [], false) := by
  have accepted := acceptLong_answered s h 0x0032 (hostReady_portUp ready) only
  have port := calPoint_port (calOf (acceptLong s h 0x0032).2 target) ch h
  have cycle : curCycle (acceptLong s h 0x0032).2 = curCycle s := by unfold curCycle; rw [acceptLong_grid]
  refine ⟨_, (rfl : exec (.calPoint h target ch span v) s = .next _), (acceptLong s h 0x0032).1, ?_⟩
  simp only [ready, channel, free, Bool.not_true, Bool.false_eq_true, if_false]
  generalize ((KV.get? (calOf (acceptLong s h 0x0032).2 target) ch).filter fun p => p.port = h.port).getD { port := h.port } = p at port ⊢
  split
  · exact ⟨_, answered_host (setCal_host _ _ _) (answered_endLong _ _ _ _ accepted), calOf_setCal_put _ _ _ _ _,
      congrArg (· + 1) cycle, port, rfl⟩
  · exact ⟨_, answered_host (setCal_host _ _ _) accepted, calOf_setCal_put _ _ _ _ _, congrArg (· + 1) cycle, port, rfl⟩

/-- R168: a zero point whose means lie close together is kept. -/
theorem calPointDone_keeps {s : State} {target ch : Nat} {p : CalPoint} {v : F32} {id : Nat} {ms : List Rat} (run : running s = true)
    (held : KV.get? (calOf s target) ch = some p) (busy : p.busy = some (false, v, id, ms, false)) (full : parN s 0x0505 ≤ ms.length)
    (stable : varianceRat ms ≤ (5 / 10000 * 8388608) * (5 / 10000 * 8388608)) :
    runs (.calPointDone target ch) s fun t => KV.get? (calOf t target) ch =
      some { p with busy := none, zero := some (meanRat ms, s.elec.uptime) } := by
  refine ⟨_, (rfl : exec (.calPointDone target ch) s = .next _), ?_⟩
  simp only [held, busy, run, not_lt.mpr full, not_lt.mpr stable, decide_false, Bool.not_true, Bool.or_self, Bool.false_and, Bool.false_eq_true,
    if_false]
  rw [calOf_of_front (endLong_front _ _ _ _ _), calOf_setCal_put]

/-! ### CAL_SOLVE (R167, R168) -/

/-- A number whose magnitude is bounded, as the checks of CAL_SOLVE read it. -/
theorem absQ_le_iff {x b : Rat} : execCalSolve.absQ x ≤ b ↔ -b ≤ x ∧ x ≤ b := by
  unfold execCalSolve.absQ
  split
  · constructor
    · intro le; constructor <;> linarith
    · rintro ⟨low, -⟩; linarith
  · constructor
    · intro le; constructor <;> linarith
    · exact And.right

section Solve

variable {s : State} {h : Hdr} {target ch : Nat} {p : CalPoint} {cz cs g : Rat} {uz us' : Nat} {y : F32}

/-- Staging two entries puts both into the staging copy. -/
theorem stage_two (s : State) (h : Hdr) (a x z : Nat) : KV.get? (stage s h [(a, x), (a + 1, z)]).par.staged a = some x ∧
    KV.get? (stage s h [(a, x), (a + 1, z)]).par.staged (a + 1) = some z := by
  simp only [stage, List.foldl_cons, List.foldl_nil, kv_get_put, if_true, Nat.left_eq_add, one_ne_zero, if_false, and_self]

/-- R167, R168: the coefficients of a channel from its two points are staged and answered. -/
theorem calSolve_stages (ready : hostReady s h = true) (only : alone s h = true) (channel : calExists s target ch = true)
    (free : calHolder s h target ch = none) (session : stagingHolder s h true = none) (held : KV.get? (calOf s target) ch = some p)
    (zero : p.zero = some (cz, uz)) (span : p.span = some (cs, y, us')) (fresh : passed s (min uz us') (sec 600 + 1) = false)
    (low : -167772 ≤ cz) (high : cz ≤ 167772) (apart : cs ≠ cz) (gain : g = F32.toRat y / (cs - cz)) (positive : 0 < g)
    (least : gNom s target ch * 95 / 100 ≤ g) (most : g ≤ gNom s target ch * 105 / 100) :
    runs (.calSolve h target ch) s fun t => answered t h 0x0033 .ok 0 0 (fb (F32.ofRat cz) ++ fb (F32.ofRat g)) ∧
      KV.get? t.par.staged (calAddr target ch) = some (F32.ofRat cz).toNat ∧
      KV.get? t.par.staged (calAddr target ch + 1) = some (F32.ofRat g).toNat := by
  have offset : ¬ 167772 < execCalSolve.absQ cz := not_lt.mpr (absQ_le_iff.mpr ⟨low, high⟩)
  have nominal : ¬ (g ≤ 0 ∨ gNom s target ch * 5 / 100 < execCalSolve.absQ (g - gNom s target ch)) := by
    rw [not_or, not_le, not_lt, absQ_le_iff]
    refine ⟨positive, ?_, ?_⟩ <;> linarith
  have outcome : exec (.calSolve h target ch) s = .next (
      let t := stage s h [(calAddr target ch, (F32.ofRat cz).toNat), (calAddr target ch + 1, (F32.ofRat g).toNat)]
      respondOk (setCal t target (KV.drop (calOf t target) ch)) h 0x0033 (fb (F32.ofRat cz) ++ fb (F32.ofRat g))) := by
    show execCalSolve h target ch s = _
    simp only [execCalSolve, ready, channel, free, held, zero, span, fresh, offset, apart, ← gain, nominal, session, Bool.not_true,
      Bool.false_eq_true, if_false]
  have host : (setCal (stage s h [(calAddr target ch, (F32.ofRat cz).toNat), (calAddr target ch + 1, (F32.ofRat g).toNat)]) target
      (KV.drop (calOf (stage s h [(calAddr target ch, (F32.ofRat cz).toNat), (calAddr target ch + 1, (F32.ofRat g).toNat)]) target) ch)).host =
      s.host := setCal_host _ _ _
  refine ⟨_, outcome, ?_, ?_⟩
  · exact respondOk_answered _ h 0x0033 _ ((portUp_host host _).trans (hostReady_portUp ready)) ((alone_host host h).trans only)
  · rw [respondOk_par, setCal_par]
    exact stage_two s h (calAddr target ch) _ _

end Solve

/-- Settles O10: one theorem above for each clause, in the order of the commands. -/
theorem frontEndCommandsTakeEffect : Obligations.FrontEndCommandsTakeEffect := by
  unfold Obligations.FrontEndCommandsTakeEffect
  refine ⟨?sum, ?supply, ?latch, ?point, ?done, ?solve⟩
  case sum => exact fun s r endB f k drive good due tick whole => tickSum_taken endB drive good due tick whole
  case supply => exact fun s x ok clock fitted step change => isoOkChange_reports clock fitted step change
  case latch => exact fun s p off v clock up pair firmware => latchedLoRead_latches clock up pair firmware
  case point => exact fun s h target ch span v ready only channel free => calPoint_begins span v ready only channel free
  case done => exact fun s target ch p v id ms run held busy full stable => calPointDone_keeps run held busy full stable
  case solve => exact fun s h target ch p cz cs g uz us' y ready only channel free session held zero span fresh low high apart gain positive
      least most =>
    calSolve_stages ready only channel free session held zero span fresh low high apart gain positive least most

end Sys2Proof.Proofs

/-! PROOFS. What the commands about one ring leave of the other (R89, R118): everything. One theorem per command, from what each operation
leaves (Laws/Locality). -/

namespace Sys2Proof.Proofs

open Sys2Proof Sys2Proof.Machine Sys2Proof.Laws

/-- Whatever the state, the command leaves the ring other than `x` as it was. -/
def LeavesOther (c : Instr) (x : Ix) : Prop := ∀ (y : Ix) (s t : State), exec c s = .next t → y ≠ x → t.ring.get y = s.ring.get y

theorem leavesOther_of {c : Instr} {x : Ix} {f : State → State} (runs : ∀ s, exec c s = .next (f s))
    (keeps : ∀ s y, y ≠ x → (f s).ring.get y = s.ring.get y) : LeavesOther c x := by
  intro y s t h other
  rw [runs s] at h
  cases h
  exact keeps s y other

@[simp] theorem takeSum_otherRing (s : State) (x : Ix) (r : TickSumRec) {y : Ix} (h : y ≠ x) : (takeSum s x r).ring.get y = s.ring.get y := by
  rw [takeSum_ring, modCar_other _ _ _ h]

theorem outrTripString_ring (s : State) (x : Ix) (f : ProtState → ProtState) : (outrTripString s x f).ring = s.ring :=
  same_ring (m := 202252288) (by simp) (by decide)

section Sends

variable (x : Ix)

theorem triggerSend_leavesOther (w : Nat) : LeavesOther (.triggerSend x w) x :=
  leavesOther_of (fun _ => rfl) fun s y other => by
    split
    · dsimp only
      split <;> simp [other]
    · rfl
theorem snapSend_leavesOther : LeavesOther (.snapSend x) x :=
  leavesOther_of (fun _ => rfl) fun s y other => by
    split
    · exact foldl_ring_other _ (fun s u => by simp [other]) _ _
    · rfl
theorem lostUnitPoll_leavesOther : LeavesOther (.lostUnitPoll x) x :=
  leavesOther_of (fun _ => rfl) fun s y other => by
    split
    · exact foldl_ring_other _ (fun s u => by simp [other]) _ _
    · rfl
theorem statusPoll_leavesOther : LeavesOther (.statusPoll x) x :=
  leavesOther_of (fun _ => rfl) fun s y other => by
    split
    · dsimp only
      split
      · simp [other]
      · split <;> simp [other]
    · rfl
theorem tickSumSend_leavesOther : LeavesOther (.tickSumSend x) x :=
  leavesOther_of (fun _ => rfl) fun s y other => by
    dsimp only
    split
    · simp [other]
    · rfl
theorem balanceRefresh_leavesOther : LeavesOther (.balanceRefresh x) x :=
  leavesOther_of (fun _ => rfl) fun s y other => by
    split
    · dsimp only
      split
      · simp [other]
      · split <;> simp [other]
    · rfl
theorem bal12Refresh_leavesOther : LeavesOther (.bal12Refresh x) x :=
  leavesOther_of (fun _ => rfl) fun s y other => by
    split
    · refine foldl_ring_other _ (fun s u => ?_) _ _
      split
      · rfl
      · simp [other]
    · rfl
theorem openwireSchedule_leavesOther : LeavesOther (.openwireSchedule x) x :=
  leavesOther_of (fun _ => rfl) fun s y other => by
    dsimp only
    split
    · split
      · rfl
      · split <;> simp [other]
    · rfl

end Sends

section Replies

variable (x : Ix)

theorem featureRec_leavesOther (f : CarFrame) : LeavesOther (.featureRec x f) x :=
  leavesOther_of (fun _ => rfl) fun s y other => by
    split
    · rfl
    · split
      · simp [other]
      · split
        · rfl
        · dsimp only
          split <;> simp [other]
theorem deliveryDeadline_leavesOther : LeavesOther (.deliveryDeadline x) x :=
  leavesOther_of (fun _ => rfl) fun s y other => by
    split
    · refine foldl_ring_other _ (fun s u => ?_) _ _
      split
      · rfl
      · split
        · simp [other]
        · dsimp only
          split <;> simp [other]
    · rfl
theorem transactionTimeout_leavesOther (n : Nat) : LeavesOther (.transactionTimeout x n) x :=
  leavesOther_of (fun _ => rfl) fun s y other => by
    split
    · rfl
    · split
      · rfl
      · split
        · dsimp only
          split <;> simp [other]
        · simp [other]
theorem statusRep_leavesOther (f : CarFrame) : LeavesOther (.statusRep x f) x :=
  leavesOther_of (fun _ => rfl) fun s y other => by
    split
    · rfl
    · split
      · simp [other]
      · split
        · rfl
        · simp [other]
theorem ack_leavesOther (f : CarFrame) : LeavesOther (.ack x f) x :=
  leavesOther_of (fun _ => rfl) fun s y other => by
    split
    · rfl
    · split
      · simp [other]
      · dsimp only
        split
        · rfl
        · have taken (g h : RingState → RingState) (c : Prop) [Decidable c] :
              (if c then modCar s x g else modCar s x h).ring.get y = s.ring.get y :=
            ite_ring_other (modCar_other s x g other) (modCar_other s x h other)
          have noted (t : State) (kept : t.ring.get y = s.ring.get y) (a : Nat) (g : UnitState → UnitState) (c : Prop) [Decidable c] :
              (if c then modUnit t x a g else t).ring.get y = s.ring.get y :=
            ite_ring_other ((modUnit_other t x a g other).trans kept) kept
          exact ite_ring_other ((ackBalance_other _ x _ _ other).trans (noted _ (taken _ _ _) _ _ _)) (noted _ (taken _ _ _) _ _ _)
theorem nak_leavesOther (f : CarFrame) : LeavesOther (.nak x f) x :=
  leavesOther_of (fun _ => rfl) fun s y other => by
    split
    · rfl
    · split
      · simp [other]
      · dsimp only
        split <;> simp [other]
theorem watchStream_leavesOther (f : CarFrame) : LeavesOther (.watchStream x f) x :=
  leavesOther_of (fun _ => rfl) fun s y other => by
    split
    · rfl
    · split
      · simp [other]
      · split
        · rfl
        · dsimp only
          rw [modUnit_other _ _ _ _ other, foldl_ring _ (fun _ _ => alignSource_ring _ _ _ _ _), modUnit_other _ _ _ _ other]
theorem tickSum_leavesOther (e : Bool) (f : CarFrame) : LeavesOther (.tickSum x e f) x :=
  leavesOther_of (fun _ => rfl) fun s y other => by
    split
    · rfl
    · split
      · simp [other]
      · dsimp only
        split
        · rfl
        · split
          · rfl
          · split
            · simp [other]
            · split
              · split <;> simp [other]
              · simp [other]
theorem openwireRep_leavesOther (f : CarFrame) : LeavesOther (.openwireRep x f) x :=
  leavesOther_of (fun _ => rfl) fun s y other => by
    split
    · rfl
    · split
      · simp [other]
      · split
        · rfl
        · split
          · rfl
          · simp [other]
theorem compatibilityReply_leavesOther (f : Car12Frame) : LeavesOther (.compatibilityReply x f) x :=
  leavesOther_of (fun _ => rfl) fun s y other => by
    split
    · rfl
    · split
      · simp [other]
      · split
        · simp [other]
        · split
          · rfl
          · have flags (t : State) (a n : Nat) (g : UnitState → UnitState) (c : Bool) :
                (if c then balStopped (modUnit t x a g) x a n else modUnit t x a g).ring.get y = t.ring.get y := by
              split <;> simp [other]
            dsimp only
            split
            · split
              · rw [diagnose_other _ _ _ _ other, enumProgress_other _ _ _ other, flags]; simp [other]
              · rw [enumProgress_other _ _ _ other, flags]; simp [other]
            · rw [flags]; simp [other]
            · simp [other]
            · simp [other]
            · simp [other]

end Replies

section Breaks

variable (x : Ix)

theorem wrapNotice_leavesOther (f : CarFrame) : LeavesOther (.wrapNotice x f) x :=
  leavesOther_of (fun _ => rfl) fun s y other => by
    split
    · rfl
    · split
      · simp [other]
      · split <;> simp [other]
theorem ringLockLoss_leavesOther (e : Bool) : LeavesOther (.ringLockLoss x e) x :=
  leavesOther_of (fun _ => rfl) fun s y other => by
    split
    · rfl
    · refine ite_ring_other ?_ (modCar_other _ _ _ other)
      rw [declareBreak_other _ _ _ _ other, modCar_other _ _ _ other]
theorem ringTriggerTimeout_leavesOther (n : Nat) : LeavesOther (.ringTriggerTimeout x n) x :=
  leavesOther_of (fun _ => rfl) fun s y other => by
    split
    · simp [other]
    · rfl
theorem ringRestore_leavesOther (n : Nat) : LeavesOther (.ringRestore x n) x :=
  leavesOther_of (fun _ => rfl) fun s y other => by
    have cleared (t : State) (kept : t.ring.get y = s.ring.get y) (a : Nat) (c : Prop) [Decidable c] :
        (if c then sendUnit t x a 0x0F [] else t).ring.get y = s.ring.get y :=
      ite_ring_other ((sendUnit_other t x a 0x0F [] other).trans kept) kept
    refine ite_ring_other ?_ rfl
    dsimp only
    rw [raise_ring, modCar_other _ _ _ other]
    exact cleared _ (cleared s rfl _ _) _ _
theorem faultLoopOpen_leavesOther : LeavesOther (.faultLoopOpen x) x :=
  leavesOther_of (fun _ => rfl) fun s y other => by
    have tripped (g h : ProtState → ProtState) (c : Prop) [Decidable c] :
        (if c then modProt s x g else outrTripString (modProt s x g) x h).ring = s.ring := by
      split
      · rfl
      · exact outrTripString_ring _ x h
    refine ite_ring_other rfl (ite_ring_other ?_ ?_)
    · rw [tripped]
    · rw [raise_ring, modCar_other _ _ _ other, tripped]
theorem faultLoopClose_leavesOther : LeavesOther (.faultLoopClose x) x :=
  leavesOther_of (fun _ => rfl) fun s y other => by
    split
    · rfl
    · dsimp only
      split <;> simp [other]

end Breaks

/-- Settles O43: one theorem above for each command, in their order. -/
theorem ringCommandsLeaveTheOtherRing : Obligations.RingCommandsLeaveTheOtherRing := by
  unfold Obligations.RingCommandsLeaveTheOtherRing
  refine ⟨?trigger, ?snap, ?record, ?deadline, ?timeout, ?lost, ?status, ?statusPoll, ?ack, ?nak, ?watch, ?sumSend, ?sum, ?wrap, ?lock,
    ?triggerTimeout, ?restore, ?balance, ?mask, ?loopOpen, ?loopClose, ?test, ?wires, ?compat⟩
  case trigger => exact fun x y w => triggerSend_leavesOther x w y
  case snap => exact fun x y => snapSend_leavesOther x y
  case record => exact fun x y f => featureRec_leavesOther x f y
  case deadline => exact fun x y => deliveryDeadline_leavesOther x y
  case timeout => exact fun x y n => transactionTimeout_leavesOther x n y
  case lost => exact fun x y => lostUnitPoll_leavesOther x y
  case status => exact fun x y f => statusRep_leavesOther x f y
  case statusPoll => exact fun x y => statusPoll_leavesOther x y
  case ack => exact fun x y f => ack_leavesOther x f y
  case nak => exact fun x y f => nak_leavesOther x f y
  case watch => exact fun x y f => watchStream_leavesOther x f y
  case sumSend => exact fun x y => tickSumSend_leavesOther x y
  case sum => exact fun x y e f => tickSum_leavesOther x e f y
  case wrap => exact fun x y f => wrapNotice_leavesOther x f y
  case lock => exact fun x y e => ringLockLoss_leavesOther x e y
  case triggerTimeout => exact fun x y n => ringTriggerTimeout_leavesOther x n y
  case restore => exact fun x y n => ringRestore_leavesOther x n y
  case balance => exact fun x y => balanceRefresh_leavesOther x y
  case mask => exact fun x y => bal12Refresh_leavesOther x y
  case loopOpen => exact fun x y => faultLoopOpen_leavesOther x y
  case loopClose => exact fun x y => faultLoopClose_leavesOther x y
  case test => exact fun x y => openwireSchedule_leavesOther x y
  case wires => exact fun x y f => openwireRep_leavesOther x f y
  case compat => exact fun x y f => compatibilityReply_leavesOther x f y

end Sys2Proof.Proofs

/-! PROOFS. What front end 1 shows at the host where it is not fitted (R37, R151): 0 in each of its registers, and its tick leaves the module as
it was. -/

namespace Sys2Proof.Proofs

open Sys2Proof Sys2Proof.Machine Sys2Proof.Laws

/-! ### The fields of a front end that is not fitted -/

/-- R151: on the MSC2-S15 front end 1 is not fitted, whatever the Strings mode. -/
theorem feFitted_one_of_variant_two {s : State} (s15 : s.ident.variant = 2) : feFitted s .one = false := by
  simp [feFitted, coilsFitted, s15]

/-- The lowest bit of a register is its field of width 1 there, where every other field lies above it. -/
theorem packWord_toNat_mod_two (v : Nat) (fs : List Field) (above : ∀ f ∈ fs, 1 ≤ f.lo) :
    (packWord (⟨0, 1, v⟩ :: fs)).toNat % 2 = v % 2 := by
  have folded (acc : Nat) : fs.foldl (fun acc f => acc + (f.val % 2 ^ f.width) * 2 ^ f.lo) acc % 2 = acc % 2 := by
    induction fs generalizing acc with
    | nil => rfl
    | cons f fs ih =>
      obtain ⟨aboveHead, aboveTail⟩ := List.forall_mem_cons.mp above
      have even : 2 ∣ f.val % 2 ^ f.width * 2 ^ f.lo := (dvd_pow_self 2 (by omega)).mul_left _
      rw [List.foldl_cons, ih aboveTail]
      omega
  have cut (n : Nat) : n % 2 ^ 32 % 2 = n % 2 := Nat.mod_mod_of_dvd n (by decide)
  rw [packWord, BitVec.toNat_ofNat, cut, List.foldl_cons, folded]
  simp

theorem regFeStat_one_of_variant_two {s : State} (s15 : s.ident.variant = 2) : regFeStat s .one = 0 := by
  simp [regFeStat, feFitted_one_of_variant_two s15, s15, packWord, bit]

/-- R37, R151: off the MSC2-S15 PRESENT of front end 1 is set, used or not. -/
theorem regFeStat_one_present {s : State} (other : s.ident.variant ≠ 2) : (regFeStat s .one).toNat % 2 = 1 := by
  unfold regFeStat
  dsimp only
  split
  · rw [packWord_toNat_mod_two _ [] (by simp)]
    simp [bit, other]
  · rw [packWord_toNat_mod_two _ _ (by simp)]

theorem regFeCh_of_unfitted {s : State} {x : Ix} (unfitted : feFitted s x = false) (k : Nat) : regFeCh s x k = 0 := by
  simp [regFeCh, unfitted]

theorem qBits_of_unfitted {s : State} {x : Ix} (unfitted : feFitted s x = false) : qBits s x = 0 := by simp [qBits, unfitted]

theorem feTick_of_unfitted {s : State} {x : Ix} (unfitted : feFitted s x = false) (n : Nat) (i : FeIn) : (feTick s x n i).1 = s := by
  simp [feTick, unfitted]

/-! ### The registers of front end 1 -/

/-- The registers of front end 1 (Table 19-1): FE1_STAT, its coulomb accumulator in two halves, and its four channels. -/
def frontEndOneOffsets : List Nat := [0x0404, 0x0418, 0x041C, 0x0430, 0x0434, 0x0438, 0x043C]

theorem regRaw_fe1Stat (s : State) (p : Ix) : regRaw s p 0x0404 = regFeStat s .one := rfl
theorem regRaw_fe1CoulombLo (s : State) (p : Ix) : regRaw s p 0x0418 = regWord (qBits s .one) := rfl
/-- The upper half reads 0 whatever an earlier read of the lower half has latched. -/
theorem regRaw_fe1CoulombHi {s : State} (unfitted : feFitted s .one = false) (p : Ix) : regRaw s p 0x041C = 0 := by
  simp [regRaw, pairValue, unfitted]
theorem regRaw_fe1Ch (s : State) (p : Ix) {k : Nat} (four : k < 4) : regRaw s p (0x0430 + 4 * k) = regFeCh s .one k := by
  match k, four with
  | 0, _ | 1, _ | 2, _ | 3, _ => rfl

/-- R151: each register of front end 1 holds 0 on the MSC2-S15. -/
theorem regRaw_frontEndOne {s : State} (s15 : s.ident.variant = 2) (p : Ix) {off : Nat} (one : off ∈ frontEndOneOffsets) :
    regRaw s p off = 0 := by
  have unfitted := feFitted_one_of_variant_two s15
  have channel {k : Nat} (four : k < 4) : regRaw s p (0x0430 + 4 * k) = 0 := (regRaw_fe1Ch s p four).trans (regFeCh_of_unfitted unfitted k)
  simp only [frontEndOneOffsets, List.mem_cons, List.not_mem_nil, or_false] at one
  rcases one with rfl | rfl | rfl | rfl | rfl | rfl | rfl
  · rw [regRaw_fe1Stat, regFeStat_one_of_variant_two s15]
  · rw [regRaw_fe1CoulombLo, qBits_of_unfitted unfitted]; rfl
  · exact regRaw_fe1CoulombHi unfitted p
  · exact channel (k := 0) (by decide)
  · exact channel (k := 1) (by decide)
  · exact channel (k := 2) (by decide)
  · exact channel (k := 3) (by decide)

/-- R494: an aligned read through a port that answers takes the register from the state, or before firmware runs from the reset values of the
same card. -/
theorem bar0Read_eq_regRaw {s : State} {p : Ix} {off : Nat} (clock : clocked s = true) (up : portUp s p = true) (aligned : off % 4 = 0) :
    ∃ u : State, u.ident = s.ident ∧ bar0Read s p off = regRaw u p off := by
  unfold bar0Read
  rw [if_neg (by simp [clock, up, aligned])]
  split
  · exact ⟨{ State.reset with ident := s.ident, elec := { s.elec with fw := false } }, rfl, rfl⟩
  · exact ⟨s, rfl, rfl⟩

/-- Settles O57: a read takes a register of a state of the same card, and the card alone says whether front end 1 is fitted. -/
theorem unfittedFrontEndReadsZero : Obligations.UnfittedFrontEndReadsZero := by
  unfold Obligations.UnfittedFrontEndReadsZero
  refine ⟨fun s p off s15 clock up one => ?_, fun s n i s15 => feTick_of_unfitted (feFitted_one_of_variant_two s15) n i,
    fun s p other clock up _ => ?_⟩
  · have aligned : ∀ off ∈ frontEndOneOffsets, off % 4 = 0 := by decide
    obtain ⟨u, card, read⟩ := bar0Read_eq_regRaw clock up (aligned off one)
    exact read.trans (regRaw_frontEndOne (card ▸ s15) p one)
  · obtain ⟨u, card, read⟩ := bar0Read_eq_regRaw (off := 0x0404) clock up rfl
    rw [read, regRaw_fe1Stat]
    exact regFeStat_one_present (card ▸ other)

end Sys2Proof.Proofs

/-! PROOFS. The frame that is closed and handed over, the current voted for a holding period, and the source or reference set that SOURCE_CLEAR
returns to use (R175, R181, R189, R191, R280): one theorem per clause, and O11 from these. -/

namespace Sys2Proof.Proofs

open Sys2Proof Sys2Proof.Machine Sys2Proof.Laws

/-! ### FRAME_CLOSE (R189, R191) -/

/-- R189, R191: a closed frame is handed over as the newest one; the events of a late or overrun model stage leave it so. -/
theorem frameClose_hands {s : State} (n : Nat) (drive : drives s = true) (mains : s.grid.on = true) (two : 2 ≤ curCycle s)
    (whole : ∀ k, s.fus.startCycle = some k → k ≤ curCycle s - 2) :
    runs (.frameClose n) s fun t => t.fus.handed = true ∧ t.fus.lastFrame = curCycle s - 2 := by
  have begun : s.fus.startCycle.any (fun k => decide (curCycle s - 2 < k)) = false := by
    cases start : s.fus.startCycle with
    | none => rfl
    | some k => exact decide_eq_false (not_lt.mpr (whole k start))
  refine ⟨_, (rfl : exec (.frameClose n) s = .next _), ?_⟩
  simp only [drive, mains, not_lt.mpr two, begun, decide_false, Bool.not_true, Bool.or_self, Bool.false_eq_true, if_false, raiseIf_fus, and_self]

/-! ### CURRENT_VOTE (R175) -/

/-- R175: the vote over shunt, Hall sensor and PCS of a holding period is the string's voted current. -/
theorem currentVote_votes {s : State} {x : Ix} {v : VoteOut} (drive : drives s = true) (enabled : strEnabled s x = true)
    (two : 2 ≤ s.grid.now / holdPeriod s)
    (vote : v = (runCheck s (.current x) (agreeI s) [(.shunt x, periodMean s (s.grid.now / holdPeriod s - 2) x 0),
      (.hall x, periodMean s (s.grid.now / holdPeriod s - 2) x 1),
      (.pcs x, if (src s (.pcs x)).state = .unaligned then none else
        ((s.can.pcs.get x).reports.find? fun r => r.1 == s.grid.now / holdPeriod s - 2).map fun r => F32.toRat r.2.1)] greaterMag).2) :
    runs (.currentVote x) s fun t => t.fus.voted.get x = v.value.map F32.ofRat := by
  refine ⟨_, (rfl : exec (.currentVote x) s = .next _), ?_⟩
  simp only [drive, enabled, not_lt.mpr two, decide_false, Bool.not_true, Bool.or_self, Bool.false_eq_true, if_false, two_get_set, vote]

/-! ### SOURCE_CLEAR (R181, R280) -/

/-- OK is the answer to a command also when an event was raised for it. -/
theorem respondOk_raise_answered {s t : State} {h : Hdr} (e : Nat) (d : List Byte) (op : Nat) (payload : List Byte) (host : t.host = s.host)
    (ready : hostReady s h = true) (only : alone s h = true) : answered (respondOk (raise t e d) h op payload) h op .ok 0 0 payload :=
  respondOk_answered _ h op payload ((raise_portUp t e d h.port).trans ((portUp_host host _).trans (hostReady_portUp ready)))
    ((raise_alone t e d h).trans ((alone_host host h).trans only))

theorem convicted_setSrc (s : State) (k : SrcKey) (r : SrcRec) : convicted (setSrc s k r) k = (r.state == .convicted) := by
  simp only [convicted, src, setSrc, kv_get_put, if_true, Option.getD_some]
theorem convicted_of_fus {s t : State} (e : t.fus = s.fus) (k : SrcKey) : convicted t k = convicted s k := by unfold convicted src; rw [e]

theorem setAt_eq_set {α : Type} (l : List α) (n : Nat) (a : α) : setAt l n a = l.set n a := by
  induction l generalizing n with
  | nil => rfl
  | cons b l ih => cases n with
    | zero => rfl
    | succ n => exact congrArg (b :: ·) (ih n)

/-- R181, R280: the named source is answered for as it stood, and stands convicted no longer. -/
theorem sourceClear_source {s : State} {h : Hdr} {kind str u i : Nat} {k : SrcKey} (ready : hostReady s h = true) (only : alone s h = true)
    (plain : kind ≠ 9) (named : namedSource s kind str u i = some k) :
    runs (.sourceClear h kind str u i) s fun t => answered t h 0x0031 .ok 0 0 (ub (convicted s k)) ∧ convicted t k = false := by
  refine ⟨_, (rfl : exec (.sourceClear h kind str u i) s = .next _), ?_⟩
  simp only [ready, plain, named, Bool.not_true, Bool.false_eq_true, if_false, convicted_of_fus (respondOk_fus _ _ _ _)]
  cases was : convicted s k with
  | true =>
    rw [if_pos rfl, convicted_of_fus (raise_fus _ _ _), convicted_setSrc]
    exact ⟨respondOk_raise_answered _ _ _ _ rfl ready only, rfl⟩
  | false => exact ⟨respondOk_answered s h _ _ (hostReady_portUp ready) only, was⟩

/-- R280: a convicted reference set is answered for, reported with EV 102 and taken into use again. -/
theorem sourceClear_set {s : State} {h : Hdr} {u : Nat} {x : SetRec} (str i : Nat) (ready : hostReady s h = true) (only : alone s h = true)
    (first : 1 ≤ u) (last : u ≤ 3) (held : s.hold.sets3[u - 1]? = some x) :
    runs (.sourceClear h 9 str u i) s fun t => answered t h 0x0031 .ok 0 0 (ub x.convicted) ∧
      (x.convicted = true → newest t 102 = some (u8 u ++ u8 2) ∧ ∃ y, t.hold.sets3[u - 1]? = some y ∧ y.convicted = false) := by
  have inside : u - 1 < s.hold.sets3.length := (List.getElem?_eq_some_iff.mp held).1
  refine ⟨_, (rfl : exec (.sourceClear h 9 str u i) s = .next _), ?_⟩
  simp only [ready, first, last, held, Bool.not_true, Bool.false_eq_true, if_false, if_true, and_self, Option.map_some, Option.getD_some,
    newest_of_ev (respondOk_ev _ _ _ _), respondOk_hold]
  cases was : x.convicted with
  | true =>
    rw [if_pos rfl, raise_newest, raise_hold, setAt_eq_set]
    exact ⟨respondOk_raise_answered _ _ _ _ rfl ready only, fun _ => ⟨rfl, {}, List.getElem?_set_self inside, rfl⟩⟩
  | false => exact ⟨respondOk_answered s h _ _ (hostReady_portUp ready) only, fun no => nomatch no⟩

/-- Settles O11: one theorem above for each clause, in the order of the commands. -/
theorem fusionCommandsTakeEffect : Obligations.FusionCommandsTakeEffect := by
  unfold Obligations.FusionCommandsTakeEffect
  refine ⟨?frame, ?vote, ?source, ?set⟩
  case frame => exact fun s n drive mains two whole => frameClose_hands n drive mains two whole
  case vote => exact fun s x v drive enabled two vote => currentVote_votes drive enabled two vote
  case source => exact fun s h kind str u i k ready only plain named => sourceClear_source ready only plain named
  case set => exact fun s h str u i x ready only first last held => sourceClear_set str i ready only first last held

end Sys2Proof.Proofs

/-! PROOFS. Ticks carried into the estimates, the end of a discharge, of a learning cycle and of the wait for a reference (R196, R198, R203, R211,
R215): what an operation on one string leaves of the estimation engine, then one theorem per command. -/

namespace Sys2Proof.Proofs

open Sys2Proof Sys2Proof.Machine Sys2Proof.Laws

/-! ### What an operation on one string changes of the estimation engine -/

/-- An operation on string `x` leaves the pending ticks, whether estimation has begun and the estimate of the other string; it changes its own
string's estimate as `r` says. -/
def Updates (x : Ix) (r : StrEst → StrEst → Prop) (s t : State) : Prop :=
  t.est.began = s.est.began ∧ t.est.pend = s.est.pend ∧ (∀ y, y ≠ x → t.est.str.get y = s.est.str.get y) ∧
    r (s.est.str.get x) (t.est.str.get x)

namespace Updates

variable {x : Ix} {p q r : StrEst → StrEst → Prop} {s t u : State}

theorem of_est (same : t.est = s.est) (refl : ∀ a, r a a) : Updates x r s t := by
  unfold Updates; rw [same]; exact ⟨rfl, rfl, fun _ _ => rfl, refl _⟩

theorem of_modStr {f : StrEst → StrEst} (own : r (s.est.str.get x) (f (s.est.str.get x))) : Updates x r s (modStr s x f) :=
  ⟨rfl, rfl, fun _ other => two_get_modify_other _ _ other, (two_get_modify s.est.str x f).symm ▸ own⟩

theorem comp (first : Updates x p s t) (next : Updates x q t u) (both : ∀ a b c, p a b → q b c → r a c) : Updates x r s u := by
  obtain ⟨began, pend, others, own⟩ := first
  obtain ⟨began', pend', others', own'⟩ := next
  exact ⟨began'.trans began, pend'.trans pend, fun y other => (others' y other).trans (others y other), both _ _ _ own own'⟩

theorem mono (h : Updates x p s t) (weaker : ∀ b, p (s.est.str.get x) b → r (s.est.str.get x) b) : Updates x r s t :=
  let ⟨began, pend, others, own⟩ := h
  ⟨began, pend, others, weaker _ own⟩

/-- An operation done or another in its place. -/
theorem ite {c : Prop} [Decidable c] (yes : Updates x r s t) (no : Updates x r s u) : Updates x r s (if c then t else u) := by
  split
  · exact yes
  · exact no

theorem began (h : Updates x p s t) : t.est.began = s.est.began := h.1
theorem pend (h : Updates x p s t) : t.est.pend = s.est.pend := h.2.1
theorem other (h : Updates x p s t) {y : Ix} (ne : y ≠ x) : t.est.str.get y = s.est.str.get y := h.2.2.1 y ne
theorem own (h : Updates x p s t) : p (s.est.str.get x) (t.est.str.get x) := h.2.2.2

end Updates

/-- An operation that reaches no further in the estimation engine than its own string. -/
abbrev Touches (x : Ix) (s t : State) : Prop := Updates x (fun _ _ => True) s t

theorem Updates.touches {x : Ix} {r : StrEst → StrEst → Prop} {s t : State} (h : Updates x r s t) : Touches x s t := h.mono fun _ _ => trivial

/-- The rest of a string is as it was. -/
def SameRest (a b : StrEst) : Prop := b.restUp = a.restUp

theorem SameRest.refl (a : StrEst) : SameRest a a := Eq.refl _

theorem Updates.andThen {x : Ix} {s t u : State} (first : Updates x SameRest s t) (next : Updates x SameRest t u) : Updates x SameRest s u :=
  first.comp next fun _ _ _ same same' => same'.trans same

theorem withStringSoc_rest (st : StrEst) : SameRest st (withStringSoc st) := by
  obtain ⟨b, v, same⟩ := withStringSoc_eq st
  exact same ▸ Eq.refl _

theorem withStringSoc_cells (st : StrEst) : (withStringSoc st).cells = st.cells := by
  obtain ⟨b, v, same⟩ := withStringSoc_eq st
  rw [same]
theorem withStringSoc_init (st : StrEst) : (withStringSoc st).init = st.init := by
  obtain ⟨b, v, same⟩ := withStringSoc_eq st
  rw [same]

theorem disqualify_updates (s : State) (x : Ix) (reason tick cell : Nat) (v : F32) :
    Updates x SameRest s (disqualify s x reason tick cell v) := by
  unfold disqualify
  split
  · exact .of_est rfl .refl
  · split
    · exact .of_est rfl .refl
    · refine Updates.andThen (t := modStr s x _) (.of_modStr ?_) (.of_est (raise_est _ _ _) .refl)
      exact Eq.refl _

theorem earlyWarnings_updates (s : State) (x : Ix) (k : Nat) (hi lo : Option (Rat × Nat)) :
    Updates x SameRest s (earlyWarnings s x k hi lo) := by
  unfold earlyWarnings
  refine (Updates.of_modStr (r := SameRest) ?_).andThen (.of_est ((raiseIf_est _ _ _ _).trans (raiseIf_est _ _ _ _)) .refl)
  exact Eq.refl _

/-! ### TICK_PROPAGATION (R196, R198, R203) -/

theorem propagateString_touches (s : State) (x : Ix) (late : Bool) (ts : List PendTick) :
    Touches x s (propagateString s x late ts) := by
  unfold propagateString
  split
  · exact .of_est rfl fun _ => trivial
  · extract_lets now st dqR cyc bad w n st1 one st2 dss st3 st4 carried judged p
    split
    · exact .of_est rfl fun _ => trivial
    · have first : Touches x s carried := .of_modStr trivial
      clear_value bad carried
      have next : Touches x s judged := by
        simp only [judged]
        cases bad with
        | nil => exact first
        | cons t _ => exact first.comp (disqualify_updates carried x 3 t 0 0) fun _ _ _ _ _ => trivial
      clear_value judged
      split
      · exact next
      · exact next.comp (earlyWarnings_updates judged x _ _ _) fun _ _ _ _ _ => trivial

theorem strEnabled_congr {s t : State} (hi : t.ident = s.ident) (hp : t.par = s.par) : strEnabled t = strEnabled s := by
  funext x; simp only [strEnabled, dualStrings, parN_congr hi hp]

/-- Both strings carried over the same ticks. -/
def propagateBoth (s : State) (late : Bool) (ts : List PendTick) : State := propagateString (propagateString s .zero late ts) .one late ts

/-- No tick waits for propagation. -/
def withoutPend (s : State) : State := { s with est := { s.est with pend := [] } }

theorem withoutPend_str (s : State) : (withoutPend s).est.str = s.est.str := rfl
theorem withoutPend_carries (s : State) : intervalOf (withoutPend s) = intervalOf s ∧ balCharge (withoutPend s) = balCharge s ∧
    propagateCell (withoutPend s) = propagateCell s ∧ nPop (withoutPend s) = nPop s :=
  ⟨intervalOf_congr rfl rfl rfl, balCharge_congr rfl rfl rfl, propagateCell_congr rfl rfl, nPop_congr rfl⟩

theorem exec_tickPropagation_eq {s : State} {l : PendTick} (drive : drives s = true) (began : s.est.began = true)
    (last : s.est.pend.getLast? = some l) : exec .tickPropagation s =
      .next (propagateBoth (propagateBoth (withoutPend s) true s.est.pend.dropLast) false [l]) := by
  have acts : (!drives s || !s.est.began) = false := by rw [drive, began]; rfl
  show execTickPropagation s = _
  rw [execTickPropagation, acts, if_neg Bool.false_ne_true, last]
  rfl

theorem propagateString_kept (s : State) (x : Ix) (late : Bool) (ts : List PendTick) :
    view 201982208 (propagateString s x late ts) = view 201982208 s := propagateString_view _ _ _ _ _ (by decide)
theorem propagateBoth_view (s : State) (late : Bool) (ts : List PendTick) : view 201982208 (propagateBoth s late ts) = view 201982208 s :=
  (propagateString_kept _ _ _ _).trans (propagateString_kept _ _ _ _)

theorem propagateBoth_pend (s : State) (late : Bool) (ts : List PendTick) : (propagateBoth s late ts).est.pend = s.est.pend :=
  (propagateString_touches _ _ _ _).pend.trans (propagateString_touches _ _ _ _).pend

/-- Each string with an estimate takes the charge of the ticks, and its cells are carried over them from the state before. -/
theorem propagateBoth_own {s : State} {x : Ix} {ts : List PendTick} {l : PendTick} (late : Bool) (last : ts.getLast? = some l)
    (begun : (s.est.str.get x).init = true) (enabled : strEnabled s x = true) :
    ((propagateBoth s late ts).est.str.get x).init = true ∧
    ((propagateBoth s late ts).est.str.get x).qSum = (s.est.str.get x).qSum + chargeIn x late ts ∧
    ((propagateBoth s late ts).est.str.get x).cells.map (·.x) =
      (((s.est.str.get x).capsAt l.at_).cells.zip ((s.est.str.get x).cells.map (·.kappa))).map fun p =>
        (carryCell s x late ((s.est.str.get x).capsAt l.at_) (nPop s x) ts p.1).x := by
  unfold propagateBoth
  cases x with
  | zero =>
    rw [propagateString_other _ (by decide : Ix.zero ≠ Ix.one)]
    exact propagateString_own s .zero late ts l last begun enabled
  | one =>
    have same := propagateString_kept s .zero late ts
    have kept := propagateString_other s (by decide : Ix.one ≠ Ix.zero) late ts
    have hi := same_ident same (by decide)
    have hp := whole_par same (by decide) (by decide)
    have hr := same_ring same (by decide)
    have ht := same_therm same (by decide)
    generalize propagateString s .zero late ts = t at kept hi hp hr ht
    have own := propagateString_own t .one late ts l last (by rw [kept]; exact begun) (by rw [strEnabled_congr hi hp]; exact enabled)
    rw [kept, carryCell_congr hi hp hr ht, nPop_congr hr] at own
    exact own

/-- The charge of ticks that waited together enters the count, and the string keeps its estimate; without such ticks nothing changes. -/
theorem propagateBoth_charge {s : State} {x : Ix} (late : Bool) (ts : List PendTick) (begun : (s.est.str.get x).init = true)
    (enabled : strEnabled s x = true) : ((propagateBoth s late ts).est.str.get x).init = true ∧
      ((propagateBoth s late ts).est.str.get x).qSum = (s.est.str.get x).qSum + chargeIn x late ts := by
  cases last : ts.getLast? with
  | none =>
    obtain rfl := List.getLast?_eq_none_iff.mp last
    exact ⟨begun, (Rat.add_zero _).symm⟩
  | some l =>
    obtain ⟨init, charge, _⟩ := propagateBoth_own late last begun enabled
    exact ⟨init, charge⟩

theorem map_zip_fst {α β γ : Type} (f : α → γ) (g : α → β) (l : List α) : (l.zip (l.map g)).map (fun p => f p.1) = l.map f := by
  rw [show (fun p : α × β => f p.1) = f ∘ Prod.fst from rfl, ← List.map_map, List.map_fst_zip (by rw [List.length_map])]

/-- R198, R203: the charge of every tick that waits enters the count of each string with an estimate, and the newest tick carries each cell. -/
theorem tickPropagation_propagates {s : State} {l : PendTick} (drive : drives s = true) (began : s.est.began = true)
    (last : s.est.pend.getLast? = some l) :
    runs .tickPropagation s fun t => t.est.pend = [] ∧ ∀ x : Ix, strEnabled s x = true → (s.est.str.get x).init = true →
      (t.est.str.get x).qSum = (s.est.str.get x).qSum + chargeIn x true s.est.pend.dropLast + chargeIn x false [l] ∧
      (s.est.pend = [l] → (s.est.str.get x).prior = none →
        (t.est.str.get x).cells.map (·.x) = (s.est.str.get x).cells.map fun e =>
          (propagateCell s e (s.est.str.get x).c (s.est.str.get x).r (nPop s x) (intervalOf s x false [l]) (balCharge s x e [l])).x) := by
  refine ⟨_, exec_tickPropagation_eq drive began last, (propagateBoth_pend _ _ _).trans (propagateBoth_pend _ _ _),
    fun x enabled begun => ⟨?_, ?_⟩⟩
  · have same := propagateBoth_view (withoutPend s) true s.est.pend.dropLast
    obtain ⟨init, charge⟩ := propagateBoth_charge (s := withoutPend s) true s.est.pend.dropLast begun enabled
    have enabled' := (congrFun (strEnabled_congr (same_ident same (by decide)) (whole_par same (by decide) (by decide))) x).trans enabled
    rw [(propagateBoth_charge false [l] init enabled').2, charge, withoutPend_str]
  · intro alone prior
    rw [alone]
    obtain ⟨_, _, cells⟩ := propagateBoth_own (s := withoutPend s) false (List.getLast?_singleton (a := l)) begun enabled
    have caps : (s.est.str.get x).capsAt l.at_ = s.est.str.get x := by unfold StrEst.capsAt; rw [prior]
    refine cells.trans ?_
    obtain ⟨interval, charge, cell, count⟩ := withoutPend_carries s
    simp only [withoutPend_str, caps, carryCell_one_x, interval, charge, cell, count]
    exact map_zip_fst (fun e => (propagateCell s e _ _ _ _ (balCharge s x e [l])).x) _ _

/-! ### Discharge, learning and starvation (R203, R211, R215) -/

/-- R203: a discharge whose count has stayed above its lowest for 1 s has stopped, and s_hi starts from the count. -/
theorem dischargeStop_stops {s : State} {x : Ix} {u : Nat} (drive : drives s = true) (discharging : (s.est.str.get x).discharging = true)
    (above : (s.est.str.get x).aboveAt = some u) (second : passed s u (sec 1) = true) :
    runs (.dischargeStop x) s fun t => (t.est.str.get x).discharging = false ∧ (t.est.str.get x).aboveAt = none ∧
      (t.est.str.get x).sHi = (s.est.str.get x).count := by
  have due : (drives s && (s.est.str.get x).discharging && (s.est.str.get x).aboveAt.any fun u => passed s u (sec 1)) = true := by
    rw [drive, discharging, above, Option.any_some, second]; rfl
  have ends : exec (.dischargeStop x) s = .next (modStr s x fun st => { st with discharging := false, sHi := st.count, aboveAt := none }) := by
    show execDischargeStop x s = _
    rw [execDischargeStop, if_pos due]
  refine ⟨_, ends, ?_⟩
  simp only [modStr_est, two_get_modify, and_self]

/-- R211: an open learning cycle that is disqualified closes, and EV 166 says why. -/
theorem disqualify_closes {s : State} {x : Ix} {l : LearnState} (reason tick cell : Nat) (v : F32)
    (opened : (s.est.str.get x).learn = some l) (fit : l.disq = false) :
    ((disqualify s x reason tick cell v).est.str.get x).learn = some { l with disq := true } ∧
      newest (disqualify s x reason tick cell v) 166 =
        some (ux x ++ u8 reason ++ ustamp (stampOf tick) ++ u16 cell ++ fb v) := by
  unfold disqualify
  simp only [opened, fit, Bool.false_eq_true, if_false, raise_est, modStr_est, two_get_modify, raise_newest, and_self]

/-- R211: a learning cycle is disqualified 72 h after its anchor. -/
theorem learningDurationExpiry_closes {s : State} {x : Ix} {l : LearnState} (drive : drives s = true)
    (opened : (s.est.str.get x).learn = some l) (fit : l.disq = false) (hours : passed s l.anchorUp (sec 259200) = true) :
    runs (.learningDurationExpiry x) s fun t => (t.est.str.get x).learn = some { l with disq := true } ∧
      newest t 166 = some (ux x ++ u8 6 ++ ustamp (stampOf s.grid.now) ++ u16 0 ++ fb (fq 72)) := by
  refine ⟨_, (rfl : exec (.learningDurationExpiry x) s = .next _), ?_⟩
  simp only [opened, drive, hours, Bool.and_self, if_true]
  exact disqualify_closes 6 s.grid.now 0 (fq 72) opened fit

theorem sinceRef_modStr (s : State) (x : Ix) (f : StrEst → StrEst) (st : StrEst) : sinceRef (modStr s x f) st = sinceRef s st := rfl

/-- R215: a seeded string that has had no reference for 48 h is starved, keeps its u_s of that time and raises EV 164. -/
theorem referenceStarved_starves {s : State} {x : Ix} (drive : drives s = true) (seeded : (s.est.str.get x).seeded = true)
    (fed : (s.est.str.get x).starved = false) (hours : 172800 ≤ sinceRef s (s.est.str.get x)) :
    runs (.referenceStarved x) s fun t => (t.est.str.get x).starved = true ∧ (t.est.str.get x).u48 = (s.est.str.get x).u ∧
      newest t 164 = some (ux x ++ fb (fq (sinceRef s (s.est.str.get x) / 3600)) ++ fb (s.est.str.get x).u ++ ub true) := by
  refine ⟨_, (rfl : exec (.referenceStarved x) s = .next _), ?_⟩
  simp only [drive, seeded, fed, hours, decide_true, Bool.not_false, Bool.and_self, if_true, raise_est, modStr_est, two_get_modify, raise_newest,
    sinceRef_modStr, and_self]

end Sys2Proof.Proofs

/-! PROOFS. The frame that each string's estimate takes (R199 to R217): a string that has none is initialised, and a rest whose current is above
REST_I_A ends. -/

namespace Sys2Proof.Proofs

open Sys2Proof Sys2Proof.Machine Sys2Proof.Laws

/-! ### FRAME_UPDATE (R207, R216) -/

theorem modCar_updates (s : State) (x y : Ix) (f : RingState → RingState) : Updates x SameRest s (modCar s y f) := .of_est rfl .refl
theorem elec_updates (s : State) (x : Ix) (e : ElecState) : Updates x SameRest s { s with elec := e } := .of_est rfl .refl
theorem raise_updates (s : State) (x : Ix) (e : Nat) (d : List Byte) : Updates x SameRest s (raise s e d) := .of_est (raise_est s e d) .refl
theorem raiseIf_updates (s : State) (x : Ix) (c : Bool) (e : Nat) (d : List Byte) : Updates x SameRest s (raiseIf s c e d) :=
  .of_est (raiseIf_est s c e d) .refl

theorem channelChange_updates (s : State) (x : Ix) (fr : StrFrame) : Updates x SameRest s (channelChange s x fr) := by
  unfold channelChange
  extract_lets st cells kept noted
  have own : Updates x SameRest s kept := .of_modStr (withStringSoc_rest _)
  exact (own.andThen (modCar_updates kept x x _)).andThen (disqualify_updates noted x _ _ _ _)
theorem correctString_updates (s : State) (x : Ix) (fr : StrFrame) (ref : Bool) : Updates x SameRest s (correctString s x fr ref) :=
  .of_modStr (.refl _)
theorem updateR_updates (s : State) (x : Ix) (fr : StrFrame) : Updates x SameRest s (updateR s x fr) := by
  refine .of_modStr ?_
  dsimp only
  split <;> exact .refl _
theorem setAnchor_updates (s : State) (x : Ix) (fr : StrFrame) (refs : List F32) : Updates x SameRest s (setAnchor s x fr refs) :=
  .of_modStr (.refl _)
theorem evaluateLearning_updates (s : State) (x : Ix) (fr : StrFrame) (l : LearnState) (refs : List F32) :
    Updates x SameRest s (evaluateLearning s x fr l refs) := by
  unfold evaluateLearning
  dsimp only
  split
  · exact raise_updates _ _ _ _
  · exact (Updates.of_modStr (.refl _)).andThen (raise_updates _ _ _ _)
theorem takeReference_updates (s : State) (x : Ix) (fr : StrFrame) (refs : List (F32 × F32)) :
    Updates x SameRest s (takeReference s x fr refs) := by
  unfold takeReference
  extract_lets st hours was noted aged ended taken rs
  have upto : Updates x SameRest s taken :=
    (((Updates.of_modStr (.refl _)).andThen (.of_modStr (.refl _))).andThen (raiseIf_updates _ _ _ _ _)).andThen (raise_updates _ _ _ _)
  clear_value taken
  split
  · exact upto.andThen (setAnchor_updates _ _ _ _)
  · split
    · exact upto.andThen (setAnchor_updates _ _ _ _)
    · split
      · exact (upto.andThen (evaluateLearning_updates _ _ _ _ _)).andThen (setAnchor_updates _ _ _ _)
      · exact upto

theorem judgeFrame_updates (s : State) (x : Ix) (fr : StrFrame) : Updates x SameRest s (judgeFrame s x fr) := by
  unfold judgeFrame
  extract_lets st judged
  have current : Updates x SameRest s judged := by
    simp only [judged]
    split
    · exact .ite (disqualify_updates _ _ _ _ _ _) (.of_est rfl .refl)
    · exact .of_est rfl .refl
  clear_value judged
  split
  · exact current.andThen (disqualify_updates _ _ _ _ _ _)
  · exact current
theorem judgeLearning_updates (s : State) (x : Ix) (fr : StrFrame) : Updates x SameRest s (judgeLearning s x fr) := by
  unfold judgeLearning
  dsimp only
  split
  · exact (disqualify_updates _ _ _ _ _ _).andThen (judgeFrame_updates _ _ _)
  · exact judgeFrame_updates _ _ _

theorem noteIf_est (s : State) (c : Bool) (k : ModeKind) (v : Nat) : (noteIf s c k v).est = s.est := by unfold noteIf; split <;> rfl
theorem setSeed_est (s : State) (b : Bool) : (setSeed s b).est = { s.est with seed := b } := noteIf_est _ _ _ _
theorem setSeed_updates (s : State) (x : Ix) (b : Bool) : Updates x SameRest s (setSeed s b) := by
  unfold Updates
  rw [setSeed_est]
  exact ⟨rfl, rfl, fun _ _ => rfl, .refl _⟩

theorem seedString_updates (s : State) (x : Ix) (fr : StrFrame) : Updates x SameRest s (seedString s x fr) := by
  unfold seedString
  extract_lets st due seeded begun step
  split
  · exact .of_est rfl .refl
  · split
    · exact .of_modStr (withStringSoc_rest _)
    · have own : Updates x SameRest s begun := .of_modStr (withStringSoc_rest _)
      clear_value begun
      exact .ite (((own.andThen (elec_updates _ x _)).andThen (setSeed_updates _ x true)).andThen (raise_updates _ x _ _)) own

/-- A frame on which a current above REST_I_A flows, or none is known. -/
def loud (s : State) (fr : StrFrame) : Prop := ∀ c, fr.cur = some c → parR s 0x0703 < absR (F32.toRat c)

/-- R207: such a frame ends the rest of the string. -/
theorem restStep_updates (s : State) (x : Ix) (fr : StrFrame) : Updates x (fun _ b => loud s fr → b.restUp = none) s (restStep s x fr) := by
  unfold restStep
  extract_lets i quiet len
  refine .of_modStr fun noise => ?_
  have noisy : quiet = false := by
    simp only [quiet]
    cases current : fr.cur with
    | none => rfl
    | some c => simp [i, not_le.mpr (noise c current)]
  simp only [noisy, Bool.not_false, if_true]

/-- What a frame brings to a string with an estimate once its rest has been judged (R199 to R217). -/
def afterRest (s : State) (x : Ix) (fr : StrFrame) : State :=
  let ref := qualified s x fr
  let refs := ((s.est.str.get x).cells.zip fr.cells).map fun (e, f) => refOf s e f fr.frame
  let s := updateR (correctString s x fr ref) x fr
  let s := if ref then takeReference s x fr refs else s
  let s := judgeLearning s x fr
  let s := seedString s x fr
  let s := modStr s x fun st => let st := withStringSoc st; { st with u := uOf s st }
  if (car s x).compat then
    let p := frameExtremes fr
    earlyWarnings s x 1 p.1 p.2
  else s

theorem afterRest_updates (s : State) (x : Ix) (fr : StrFrame) : Updates x SameRest s (afterRest s x fr) := by
  unfold afterRest
  extract_lets ref refs corrected taken judged seeded valued p
  have first : Updates x SameRest s corrected := (correctString_updates s x fr ref).andThen (updateR_updates _ x fr)
  have second : Updates x SameRest s taken := .ite (first.andThen (takeReference_updates corrected x fr refs)) first
  have third : Updates x SameRest s judged := second.andThen (judgeLearning_updates taken x fr)
  have fourth : Updates x SameRest s seeded := third.andThen (seedString_updates judged x fr)
  have last : Updates x SameRest s valued := fourth.andThen (.of_modStr (withStringSoc_rest _))
  exact .ite (last.andThen (earlyWarnings_updates valued x 1 p.1 p.2)) last

/-- The string after the changes of its channel set (R503). -/
def afterChange (s : State) (x : Ix) (fr : StrFrame) : State :=
  if (car s x).changed || (s.est.str.get x).cells.length != fr.cells.length then channelChange s x fr else s

theorem afterChange_updates (s : State) (x : Ix) (fr : StrFrame) : Updates x SameRest s (afterChange s x fr) :=
  .ite (channelChange_updates s x fr) (.of_est rfl .refl)
theorem afterChange_view (s : State) (x : Ix) (fr : StrFrame) : view 201982240 (afterChange s x fr) = view 201982240 s := by
  simp [afterChange]

theorem updateString_eq {s : State} {x : Ix} {fr : StrFrame} (frame : s.fus.frames.get x = some fr) (newest : fr.frame = s.fus.lastFrame) :
    updateString s x = if (s.est.str.get x).init then afterRest (restStep (afterChange s x fr) x fr) x fr else initString s x fr := by
  unfold updateString
  rw [frame]
  dsimp only
  rw [if_neg (not_not.mpr newest)]
  cases (s.est.str.get x).init <;> rfl

/-- What a frame gives a string: an estimate of its cells where it had none (R216), the end of a rest whose current is above REST_I_A (R207). -/
def TakesFrame (s : State) (fr : StrFrame) (a b : StrEst) : Prop :=
  (a.init = false → b.init = true ∧ b.cells.length = fr.cells.length) ∧
    (a.init = true → loud s fr → b.restUp = none)

theorem loud_congr {s t : State} (hi : t.ident = s.ident) (hp : t.par = s.par) (fr : StrFrame) : loud t fr = loud s fr := by
  simp only [loud, parR, parF_congr hi hp]

theorem initString_updates (s : State) (x : Ix) (fr : StrFrame) :
    Updates x (fun _ b => b.init = true ∧ b.cells.length = fr.cells.length) s (initString s x fr) := by
  unfold initString
  extract_lets st own
  have made : st.init = true ∧ st.cells.length = fr.cells.length := by
    simp only [st, withStringSoc_init, withStringSoc_cells, List.length_map, and_self]
  exact (Updates.of_modStr (r := fun _ b => b.init = true ∧ b.cells.length = fr.cells.length) made).comp
    (.of_est (r := Eq) (rfl : (modCar own x _).est = own.est) fun _ => rfl) fun _ b c h same => same ▸ h

theorem updateString_takes {s : State} {x : Ix} {fr : StrFrame} (frame : s.fus.frames.get x = some fr) (newest : fr.frame = s.fus.lastFrame) :
    Updates x (TakesFrame s fr) s (updateString s x) := by
  rw [updateString_eq frame newest]
  split
  case isTrue begun =>
    have same := afterChange_view s x fr
    have rested := (afterChange_updates s x fr).comp (restStep_updates (afterChange s x fr) x fr) (r := fun _ b => loud s fr → b.restUp = none)
      fun _ _ _ _ ends noise => ends ((loud_congr (same_ident same (by decide)) (whole_par same (by decide) (by decide)) fr).mpr noise)
    have taken := rested.comp (afterRest_updates _ x fr) (r := fun _ b => loud s fr → b.restUp = none)
      fun _ _ _ ends kept noise => kept.trans (ends noise)
    exact taken.mono fun b ends => ⟨fun none => absurd (begun.symm.trans none) (by decide), fun _ => ends⟩
  case isFalse fresh =>
    exact (initString_updates s x fr).mono fun b made => ⟨fun _ => made, fun begun => absurd begun fresh⟩

/-- A string without a frame, or whose frame is not the newest, keeps its estimate. -/
theorem updateString_touches (s : State) (x : Ix) : Touches x s (updateString s x) := by
  cases frame : s.fus.frames.get x with
  | none =>
    unfold updateString
    rw [frame]
    exact .of_est rfl fun _ => trivial
  | some fr =>
    by_cases newest : fr.frame = s.fus.lastFrame
    · exact (updateString_takes frame newest).touches
    · unfold updateString
      rw [frame]
      dsimp only
      rw [if_pos newest]
      exact .of_est rfl fun _ => trivial

/-! ### The frame update of both strings -/

/-- Whether a string has an estimate, of how many cells, and its rest are as they were. -/
def SameCourse (a b : StrEst) : Prop := b.init = a.init ∧ b.cells.length = a.cells.length ∧ b.restUp = a.restUp

theorem SameCourse.refl (a : StrEst) : SameCourse a a := ⟨Eq.refl _, Eq.refl _, Eq.refl _⟩
theorem SameCourse.trans (a b c : StrEst) (h : SameCourse a b) (h' : SameCourse b c) : SameCourse a c :=
  ⟨h'.1.trans h.1, h'.2.1.trans h.2.1, h'.2.2.trans h.2.2⟩
theorem SameCourse.takes {s : State} {fr : StrFrame} (a b c : StrEst) (h : TakesFrame s fr a b) (h' : SameCourse b c) : TakesFrame s fr a c :=
  ⟨fun fresh => ⟨h'.1.trans (h.1 fresh).1, h'.2.1.trans (h.1 fresh).2⟩, fun begun noise => h'.2.2.trans (h.2 begun noise)⟩

theorem updates_foldl {α : Type} {x : Ix} (f : State → α → State) (h : ∀ s a, Updates x SameCourse s (f s a)) (l : List α) (s : State) :
    Updates x SameCourse s (l.foldl f s) :=
  List.foldlRecOn (motive := fun t => Updates x SameCourse s t) l f (.of_est rfl .refl) fun t upto a _ => upto.comp (h t a) .trans

theorem select_est (s : State) (x : Ix) (a : Nat) (sel : List Nat) : (select s x a sel).est = s.est :=
  whole_est (m := 67108896) (by simp) (by decide) (by decide)
theorem balanceOff_est (s : State) (x : Ix) : (balanceOff s x).est = s.est := whole_est (m := 67108896) (by simp) (by decide) (by decide)

/-- Deselecting cells marks them in the string's estimate at most, cell by cell (R234). -/
theorem balDeselect_updates (s : State) (x : Ix) : Updates x SameCourse s (balDeselect s x) := by
  unfold balDeselect
  extract_lets st bs frozen
  split
  · exact .of_est (balanceOff_est s x) .refl
  · refine updates_foldl _ (fun s u => ?_) _ s
    extract_lets row placed mine kept limited sel
    have whole : Updates x SameCourse s placed := .of_est rfl .refl
    have fewer : Updates x SameCourse s (select placed x u.addr (u.selected.filter sel.contains)) := .of_est (select_est _ _ _ _) .refl
    refine .ite whole (.ite (fewer.comp (.of_modStr ?_) .trans) fewer)
    exact ⟨rfl, by simp only [List.length_map, List.length_zipIdx], rfl⟩

/-- The frame update of one string: its estimate, the processor path, balancing and derating. -/
def updateOne (s : State) (x : Ix) : State :=
  thermalDerate (balDeselect (procTemps (if s.est.began then updateString s x else s) x) x) x

theorem exec_frameUpdate_eq {s : State} (drive : drives s = true) (handed : s.fus.handed = true) : exec .frameUpdate s = .next (
    let t := (enabledStrings s).foldl updateOne s
    let t := { t with fus := { t.fus with handed := false } }
    writeSnapshot t t.fus.lastFrame true) := by
  show execFrameUpdate s = _
  rw [execFrameUpdate, if_pos drive, if_pos handed]
  rfl

theorem updateOne_view (s : State) (x : Ix) : view 202319140 (updateOne s x) = view 202319140 s := by
  simp [updateOne]

theorem procTemps_est (s : State) (x : Ix) : (procTemps s x).est = s.est := whole_est (m := 202317824) (by simp) (by decide) (by decide)
theorem thermalDerate_est (s : State) (x : Ix) : (thermalDerate s x).est = s.est := whole_est (m := 201982976) (by simp) (by decide) (by decide)

theorem updateOne_updates {s : State} {x : Ix} {r : StrEst → StrEst → Prop} (began : s.est.began = true)
    (taken : Updates x r s (updateString s x)) (settle : ∀ a b c, r a b → SameCourse b c → r a c) : Updates x r s (updateOne s x) := by
  unfold updateOne
  rw [began, if_pos rfl]
  have judged := taken.comp (.of_est (procTemps_est _ x) .refl) settle
  have balanced := judged.comp (balDeselect_updates _ x) settle
  exact balanced.comp (.of_est (thermalDerate_est _ x) .refl) settle

theorem updateOne_touches {s : State} (x : Ix) (began : s.est.began = true) : Touches x s (updateOne s x) :=
  updateOne_updates began (updateString_touches s x) fun _ _ _ _ _ => trivial

theorem updateAll_others {l : List Ix} {x : Ix} (absent : x ∉ l) {s : State} (began : s.est.began = true) :
    (l.foldl updateOne s).est.str.get x = s.est.str.get x := by
  induction l generalizing s with
  | nil => rfl
  | cons y l ih =>
    obtain ⟨ne, rest⟩ := not_or.mp (List.mem_cons.not.mp absent)
    have head := updateOne_touches y began
    exact (ih rest (head.began.trans began)).trans (head.other ne)

/-- Strings updated one after the other: each takes its frame from its own estimate, which no other string's update touches. -/
theorem updateAll_takes {l : List Ix} (once : l.Nodup) {x : Ix} (mem : x ∈ l) {s : State} {fr : StrFrame} (began : s.est.began = true)
    (frame : s.fus.frames.get x = some fr) (newest : fr.frame = s.fus.lastFrame) :
    TakesFrame s fr (s.est.str.get x) ((l.foldl updateOne s).est.str.get x) := by
  induction l generalizing s with
  | nil => cases mem
  | cons y l ih =>
    obtain ⟨absent, once⟩ := List.nodup_cons.mp once
    have head := updateOne_touches y began
    have began' := head.began.trans began
    rw [List.foldl_cons]
    rcases eq_or_ne x y with rfl | ne
    · rw [updateAll_others absent began']
      exact (updateOne_updates began (updateString_takes frame newest) SameCourse.takes).own
    · have same := updateOne_view s y
      have fus := same_fus same (by decide)
      have tail := ih once ((List.mem_cons.mp mem).resolve_left ne) began' (fus ▸ frame) (fus ▸ newest)
      rw [head.other ne, TakesFrame, loud_congr (same_ident same (by decide)) (whole_par same (by decide) (by decide))] at tail
      exact tail

theorem mem_enabledStrings {s : State} {x : Ix} : x ∈ enabledStrings s ↔ strEnabled s x = true := by
  unfold enabledStrings
  cases x <;> simp
theorem enabledStrings_nodup (s : State) : (enabledStrings s).Nodup := List.Nodup.filter _ (by decide)

theorem writeSnapshot_same (s : State) (c : Nat) (whole : Bool) :
    (writeSnapshot s c whole).fus = s.fus ∧ (writeSnapshot s c whole).est = s.est :=
  have same : view 202244096 (writeSnapshot s c whole) = view 202244096 s := by simp
  ⟨same_fus same (by decide), whole_est same (by decide) (by decide)⟩

/-- R207, R216: the frame that fusion handed over gives each enabled string an estimate, or ends a rest whose current is above REST_I_A. -/
theorem frameUpdate_takes {s : State} (drive : drives s = true) (handed : s.fus.handed = true) (began : s.est.began = true) :
    runs .frameUpdate s fun t => t.fus.handed = false ∧ ∀ (x : Ix) (fr : StrFrame), strEnabled s x = true →
      s.fus.frames.get x = some fr → fr.frame = s.fus.lastFrame →
      ((s.est.str.get x).init = false → (t.est.str.get x).init = true ∧ (t.est.str.get x).cells.length = fr.cells.length) ∧
      ((s.est.str.get x).init = true → (∀ c, fr.cur = some c → parR s 0x0703 < absR (F32.toRat c)) → (t.est.str.get x).restUp = none) := by
  refine ⟨_, exec_frameUpdate_eq drive handed, ?_, fun x fr enabled frame newest => ?_⟩
  · dsimp only
    rw [(writeSnapshot_same _ _ _).1]
  · dsimp only
    rw [(writeSnapshot_same _ _ _).2]
    exact updateAll_takes (enabledStrings_nodup s) (mem_enabledStrings.mpr enabled) began frame newest

end Sys2Proof.Proofs

/-! PROOFS. State records captured and offered (R218, R223, R224): one theorem per command and answer. -/

namespace Sys2Proof.Proofs

open Sys2Proof Sys2Proof.Machine Sys2Proof.Laws

/-! ### STATE_RECORD_CAPTURE (R218) -/

/-- The cycle of the last capture and the SEQ of the last record, captured and written. -/
def captureMarks (s : State) : Option Nat × Nat × Nat := (s.est.captured, s.est.lastSeq, s.est.maxSeq)

theorem marks_of_est {s t : State} (h : t.est = s.est) : captureMarks t = captureMarks s := by unfold captureMarks; rw [h]
theorem marks_foldl {α : Type} (f : State → α → State) (h : ∀ s a, captureMarks (f s a) = captureMarks s) (l : List α) (s : State) :
    captureMarks (l.foldl f s) = captureMarks s :=
  List.foldlRecOn (motive := fun t => captureMarks t = captureMarks s) l f rfl fun t upto a _ => (h t a).trans upto

theorem settleDest_marks (s : State) (d : Nat) : captureMarks (settleDest s d) = captureMarks s := by
  unfold settleDest
  split
  · refine (marks_of_est (raiseIf_est _ _ _ _)).trans ?_
    split <;> rfl
  · rfl
theorem openWrite_est (s : State) (p : Ix) (m : Nat) : (openWrite s p m).est = s.est :=
  whole_est (m := 67108864) (by simp) (by decide) (by decide)
theorem writeDest_marks (s : State) (d : Nat) (b : List Byte) : captureMarks (writeDest s d b) = captureMarks s := by
  unfold writeDest
  dsimp only
  split
  · split
    · rfl
    · split <;> rfl
  · split
    · rfl
    · split
      · rfl
      · exact (marks_of_est (openWrite_est _ _ _)).trans rfl

/-- The SEQ that a capture takes (R218). -/
def nextRecordSeq (s : State) : Nat := max s.est.maxSeq s.est.lastSeq + 1

/-- The capture is noted with its cycle and SEQ. -/
def noteCapture (s : State) : State :=
  { s with est := { s.est with
    captured := some (curCycle s), capturedUp := s.elec.uptime, lastSeq := nextRecordSeq s, maxSeq := nextRecordSeq s } }

theorem exec_stateRecordCapture_eq {s : State} (drive : drives s = true) (began : s.est.began = true) (mains : s.grid.on = true)
    (tick : curTick s = 0) (second : s.est.captured = none ∨ passed s s.est.capturedUp (sec 1) = true) :
    exec .stateRecordCapture s = .next (
      let t := [0, 1, 2].foldl settleDest s
      [0, 1, 2].foldl (fun u d => writeDest u d (buildRecord (noteCapture t) (nextRecordSeq t) (curCycle (noteCapture t))))
        (noteCapture t)) := by
  have due : (drives s && s.est.began && s.grid.on && curTick s == 0 &&
      (s.est.captured.isNone || passed s s.est.capturedUp (sec 1))) = true := by
    rw [drive, began, mains, tick]
    rcases second with none | late
    · rw [none]; rfl
    · rw [late, Bool.or_true]; rfl
  show execStateRecordCapture s = _
  rw [execStateRecordCapture, if_pos due]
  rfl

/-- R218: a record is captured at tick 0 of a cycle, with the SEQ after the highest that was written or captured. -/
theorem stateRecordCapture_captures {s : State} (drive : drives s = true) (began : s.est.began = true) (mains : s.grid.on = true)
    (tick : curTick s = 0) (second : s.est.captured = none ∨ passed s s.est.capturedUp (sec 1) = true) :
    runs .stateRecordCapture s fun t => t.est.captured = some (curCycle s) ∧ t.est.lastSeq = max s.est.maxSeq s.est.lastSeq + 1 ∧
      t.est.maxSeq = t.est.lastSeq := by
  refine ⟨_, exec_stateRecordCapture_eq drive began mains tick second, ?_⟩
  dsimp only
  have grid : ([0, 1, 2].foldl settleDest s).grid = s.grid := same_grid (m := 202244352) (by simp) (by decide)
  have settled := marks_foldl settleDest settleDest_marks [0, 1, 2] s
  generalize [0, 1, 2].foldl settleDest s = u at grid settled
  have written := marks_foldl (fun v d => writeDest v d (buildRecord (noteCapture u) (nextRecordSeq u) (curCycle (noteCapture u))))
    (fun v d => writeDest_marks v d _) [0, 1, 2] (noteCapture u)
  generalize [0, 1, 2].foldl _ (noteCapture u) = t at written
  simp only [captureMarks, Prod.mk.injEq] at settled written
  obtain ⟨_, last, top⟩ := settled
  obtain ⟨captured, seq, written⟩ := written
  refine ⟨captured.trans ?_, seq.trans ?_, written.trans seq.symm⟩
  · simp only [noteCapture, curCycle, grid]
  · simp only [noteCapture, nextRecordSeq, last, top]

/-! ### STATE_OFFER (R223, R224) -/

theorem recordFlagBits_congr {s t : State} (hi : t.ident = s.ident) (hp : t.par = s.par) (hr : t.ring = s.ring) (he : t.est = s.est) :
    recordFlagBits t = recordFlagBits s := by
  simp only [recordFlagBits, dualStrings, car, parN_congr hi hp, hr, he]
theorem rangesOk_congr {s t : State} (hi : t.ident = s.ident) (hp : t.par = s.par) (hr : t.ring = s.ring) : rangesOk t = rangesOk s := by
  funext b
  simp only [rangesOk, enabledStrings, strEnabled_congr hi hp, parN_congr hi hp, nPop_congr hr]
/-- The checks of a record rest on the parameters, the unit tables, the present cycle and whether the module is seeded alone. -/
theorem recordFault_congr {s t : State} (hi : t.ident = s.ident) (hp : t.par = s.par) (hr : t.ring = s.ring) (he : t.est = s.est)
    (hg : t.grid = s.grid) : recordFault t = recordFault s := by
  have bound : binding t = binding s := by simp only [binding, car, hr]
  have position : treePosition t = treePosition s := by simp only [treePosition, parN_congr hi hp]
  have cycle : curCycle t = curCycle s := by simp only [curCycle, hg]
  funext b
  simp only [recordFault, bound, position, cycle, recordFlagBits_congr hi hp hr he, rangesOk_congr hi hp hr]

/-- A long command that was accepted before its work was done stands accepted and ended, with the result of the work. -/
theorem endLong_accepted {s u : State} {h : Hdr} {op : Nat} (st : Status) (dt : Nat) (resp : List Byte) (ready : hostReady s h = true)
    (only : alone s h = true) (work : hostRest u.host = hostRest (acceptLong s h op).2.host) :
    (∃ id, answered (endLong u (acceptLong s h op).1 st dt resp) h op .accepted 0 id []) ∧
      longEnded (endLong u (acceptLong s h op).1 st dt resp) h op st dt resp := by
  have responses : (u.host.port.get h.port).responses = ((acceptLong s h op).2.host.port.get h.port).responses := by
    have same := congrArg (fun q : PortState => q.responses) (port_of_rest work h.port)
    exact same
  have longs := (longs_of_rest work).trans (acceptLong_longs s h op)
  refine ⟨⟨(acceptLong s h op).1, answered_endLong _ _ _ _ ?_⟩, _, endLong_newest u _ _ longs rfl st dt resp,
    rfl, rfl, rfl, rfl, rfl, rfl, rfl, rfl⟩
  have answer := acceptLong_answered s h op (hostReady_portUp ready) only
  unfold answered at answer ⊢
  rwa [responses]

/-- The host's own word that it holds no record is taken up (R50). -/
def declareNone (s : State) : State :=
  { s with est := { s.est with declaredNone := true, began := true }, elec := { s.elec with step := 10 } }

/-- A record comes into force at power-up step 9 (R224). -/
def restoreRecord (s : State) (d : List Byte) : State :=
  let t := loadRecord s d (some (ageOf s (recCycle d))) 1
  { t with elec := { t.elec with step := if t.est.seed then 11 else 10 } }

theorem loadRecord_hostRest (s : State) (b : List Byte) (age : Option Rat) (source : Nat) :
    hostRest (loadRecord s b age source).host = hostRest s.host :=
  same_host (m := 201982240) (by simp) (by decide)

/-- A record that has come into force stands restored, and estimation has begun (R224). -/
theorem loadRecord_begins (s : State) (b : List Byte) (age : Option Rat) (source : Nat) :
    (loadRecord s b age source).est.restored = true ∧ (loadRecord s b age source).est.began = true := by
  unfold loadRecord
  simp only [raise_est, setSeed_est, and_self]

section Offer

variable {s : State} {h : Hdr} (ready : hostReady s h = true) (only : alone s h = true) (fresh : s.est.began = false)
  (role : isActive s = true) (step : s.elec.step = 9)
include fresh role step

/-- What the offer's checks ask of the module stands after its entry is accepted. -/
theorem acceptLong_offer : (acceptLong s h 0x0040).2.est.began = false ∧ isActive (acceptLong s h 0x0040).2 = true ∧
    (acceptLong s h 0x0040).2.elec.step = 9 :=
  ⟨(congrArg EstState.began (acceptLong_est s h _)).trans fresh, (isActive_congr (by rw [acceptLong_pair])).trans role,
    (congrArg ElecState.step (acceptLong_elec s h _)).trans step⟩

include ready

theorem exec_stateOffer_none (d : List Byte) : exec (.stateOffer h 0 0 d) s =
    .next (endLong (declareNone (acceptLong s h 0x0040).2) (acceptLong s h 0x0040).1 .ok 0 []) := by
  obtain ⟨fresh, role, step⟩ := acceptLong_offer fresh role step (h := h)
  show execStateOffer h 0 0 d s = _
  rw [execStateOffer, ready]
  generalize acceptLong s h 0x0040 = q at fresh role step
  simp only [fresh, role, step, Bool.not_true, Bool.or_self, Bool.false_eq_true, if_false, if_true, and_self]
  rfl

theorem exec_stateOffer_record {addr len : Nat} {d : List Byte} (given : ¬ (addr = 0 ∧ len = 0)) (sound : recordFault s d = none) :
    exec (.stateOffer h addr len d) s =
      .next (endLong (restoreRecord (acceptLong s h 0x0040).2 d) (acceptLong s h 0x0040).1 .ok 0 (u64 (recSeq d) ++ u48 (recCycle d))) := by
  have sound : recordFault (acceptLong s h 0x0040).2 d = none :=
    (congrFun (recordFault_congr (acceptLong_ident s h _) (acceptLong_par s h _) (acceptLong_ring s h _) (acceptLong_est s h _)
      (acceptLong_grid s h _)) d).trans sound
  obtain ⟨fresh, role, step⟩ := acceptLong_offer fresh role step (h := h)
  show execStateOffer h addr len d s = _
  rw [execStateOffer, ready]
  generalize acceptLong s h 0x0040 = q at sound fresh role step
  simp only [fresh, role, step, given, sound, Bool.not_true, Bool.or_self, Bool.false_eq_true, if_false, ne_eq, not_true]
  rfl

include only

/-- R223: a host that declares that it holds no record lets estimation begin unseeded. -/
theorem stateOffer_declines (d : List Byte) :
    runs (.stateOffer h 0 0 d) s fun t => (∃ id, answered t h 0x0040 .accepted 0 id []) ∧ longEnded t h 0x0040 .ok 0 [] ∧
      t.elec.step = 10 ∧ t.est.declaredNone = true ∧ t.est.began = true := by
  have result := endLong_accepted (u := declareNone (acceptLong s h 0x0040).2) .ok 0 [] ready only rfl
  exact ⟨_, exec_stateOffer_none ready fresh role step d, result.1, result.2, rfl, rfl, rfl⟩

/-- R223, R224: a record that passes every check comes into force, and power-up goes on by whether the module is seeded. -/
theorem stateOffer_restores {addr len : Nat} {d : List Byte} (given : ¬ (addr = 0 ∧ len = 0)) (sound : recordFault s d = none) :
    runs (.stateOffer h addr len d) s fun t => (∃ id, answered t h 0x0040 .accepted 0 id []) ∧
      longEnded t h 0x0040 .ok 0 (u64 (recSeq d) ++ u48 (recCycle d)) ∧ t.est.restored = true ∧ t.est.began = true ∧
      t.elec.step = (if t.est.seed then 11 else 10) := by
  have result := endLong_accepted (u := restoreRecord (acceptLong s h 0x0040).2 d) .ok 0 (u64 (recSeq d) ++ u48 (recCycle d)) ready only
    (loadRecord_hostRest _ _ _ _)
  obtain ⟨restored, began⟩ := loadRecord_begins (acceptLong s h 0x0040).2 d (some (ageOf (acceptLong s h 0x0040).2 (recCycle d))) 1
  exact ⟨_, exec_stateOffer_record ready fresh role step given sound, result.1, result.2, restored, began, rfl⟩

end Offer

end Sys2Proof.Proofs

/-! PROOFS. The review of balancing (R231, R233): what a selection leaves of a ring's units, the review of one string, and the command. -/

namespace Sys2Proof.Proofs

open Sys2Proof Sys2Proof.Machine Sys2Proof.Laws

/-! ### Cells selected for balancing (R231, R236) -/

/-- The selection of each unit of a ring, by address. -/
def selections (s : State) (x : Ix) : List (Nat × List Nat) := (car s x).units.map fun u => (u.addr, u.selected)

/-- The units of an address get a selection, the others keep theirs. -/
def assign (a : Nat) (sel : List Nat) (l : List (Nat × List Nat)) : List (Nat × List Nat) := l.map fun p => if p.1 = a then (a, sel) else p

theorem forall_selected {s : State} {x : Ix} {p : List Nat → Prop} (h : ∀ q ∈ selections s x, p q.2) : ∀ u ∈ (car s x).units, p u.selected :=
  fun u mem => h (u.addr, u.selected) (List.mem_map_of_mem mem)

theorem map_units_selections (l : List UnitState) (a : Nat) {f : UnitState → UnitState}
    (kept : ∀ u, ((f u).addr, (f u).selected) = (u.addr, u.selected)) :
    (l.map fun u => if u.addr = a then f u else u).map (fun u => (u.addr, u.selected)) = l.map fun u => (u.addr, u.selected) := by
  rw [List.map_map]
  refine List.map_congr_left fun u _ => ?_
  rw [Function.comp_apply]
  split
  · exact kept u
  · rfl

section Sends

variable (s : State) (x : Ix) (a : Nat)

theorem modUnit_selections {f : UnitState → UnitState} (kept : ∀ u, ((f u).addr, (f u).selected) = (u.addr, u.selected)) :
    selections (modUnit s x a f) x = selections s x := by
  unfold selections
  rw [car_modUnit]
  exact map_units_selections _ a kept
theorem sendUnit_selections (type : Nat) (p : List Byte) : selections (sendUnit s x a type p) x = selections s x := by
  unfold selections
  rw [car_sendUnit]
  exact map_units_selections _ a fun _ => rfl
theorem sendHop_selections (type : Nat) (p : List Byte) : selections (sendHop s x a type p) x = selections s x := by
  unfold selections
  rw [car_sendHop]
  exact map_units_selections _ a fun _ => rfl
theorem sendBalance_selections : selections (sendBalance s x a) x = selections s x := by
  unfold sendBalance
  split
  · rfl
  · exact sendUnit_selections s x a _ _
theorem setDuty_selections (duty : List Nat) : selections (setDuty s x a duty) x = selections s x := by
  unfold setDuty
  extract_lets noted
  have same : selections noted x = selections s x := modUnit_selections s x a fun _ => rfl
  split
  · split
    · exact same
    · exact (sendHop_selections noted x a _ _).trans same
  · exact (sendBalance_selections noted x a).trans same

/-- A unit's selection stands whatever of its duties goes out now. -/
theorem select_selections (sel : List Nat) : selections (select s x a sel) x = assign a sel (selections s x) := by
  unfold select
  extract_lets chosen d
  have assigned : selections chosen x = assign a sel (selections s x) := by
    simp only [chosen, selections, assign, car_modUnit, List.map_map]
    refine List.map_congr_left fun u _ => ?_
    simp only [Function.comp_apply]
    split
    case isTrue there => rw [there]
    case isFalse => rfl
  split
  · exact assigned
  · extract_lets now sent
    have dutied : selections sent x = assign a sel (selections s x) := by
      simp only [sent]
      split
      · exact assigned
      · exact (setDuty_selections chosen x a now).trans assigned
    refine (modUnit_selections sent x a ?_).trans dutied
    exact fun _ => rfl

end Sends

/-- Where every step gives the units of one address a selection with a property, and every address has its step, every selection has it. -/
theorem foldl_assigns {σ : Type} {g : σ → List (Nat × List Nat)} {f : σ → UnitState → σ} {inv : σ → Prop} {p : List Nat → Prop}
    (step : ∀ a u, inv a → inv (f a u) ∧ ∃ sel, p sel ∧ g (f a u) = assign u.addr sel (g a)) {us : List UnitState} {a : σ} (start : inv a)
    (all : ∀ q ∈ g a, p q.2 ∨ ∃ u ∈ us, u.addr = q.1) : ∀ q ∈ g (us.foldl f a), p q.2 := by
  induction us generalizing a with
  | nil => exact fun q mem => (all q mem).resolve_right fun ⟨_, absent, _⟩ => nomatch absent
  | cons u us ih =>
    obtain ⟨inv', sel, good, same⟩ := step a u start
    refine ih inv' fun q mem => ?_
    rw [same] at mem
    obtain ⟨o, old, rfl⟩ := List.mem_map.mp mem
    split
    · exact .inl good
    case isFalse elsewhere =>
      refine (all o old).imp_right fun ⟨v, among, there⟩ => ⟨v, (List.mem_cons.mp among).resolve_left ?_, there⟩
      rintro rfl
      exact elsewhere there.symm

/-- A step for each unit of the ring reaches every selection. -/
theorem selections_addressed {s : State} {x : Ix} {q : Nat × List Nat} (mem : q ∈ selections s x) : ∃ u ∈ (car s x).units, u.addr = q.1 := by
  obtain ⟨u, among, rfl⟩ := List.mem_map.mp mem
  exact ⟨u, among, rfl⟩

theorem balanceOff_selections (s : State) (x : Ix) : ∀ q ∈ selections (balanceOff s x) x, q.2 = [] :=
  foldl_assigns (g := (selections · x)) (inv := fun _ => True) (p := (· = []))
    (fun t u _ => ⟨trivial, [], rfl, select_selections t x u.addr []⟩) trivial fun _ mem => .inr (selections_addressed mem)

/-! ### BALANCE_REVIEW (R231) -/

theorem unitLimit_le (s : State) (row : Nat) : unitLimit s row ≤ parN s 0x0716 := by
  unfold unitLimit
  split
  · exact le_rfl
  · exact Nat.div_le_self _ _
  · exact Nat.zero_le _

/-- A unit's row of Table 8-2 is noted. -/
def withRow (s : State) (x : Ix) (a row : Nat) : State := modUnit s x a fun u => { u with derateRow := row }

/-- A selection cut to the limit of the unit's row holds at most BAL_MAX_CELLS cells, and no parameter changes with it (R233). -/
theorem withRow_select {s t : State} (par : parN t = parN s) (x : Ix) (a row : Nat) (cells : List BalCell) :
    parN (select (withRow t x a row) x a ((cells.take (unitLimit (withRow t x a row) row)).map (·.k))) = parN s ∧
      ∃ sel : List Nat, sel.length ≤ parN s 0x0716 ∧
        selections (select (withRow t x a row) x a ((cells.take (unitLimit (withRow t x a row) row)).map (·.k))) x =
          assign a sel (selections t x) := by
  have rowPar : parN (withRow t x a row) = parN s := (parN_congr rfl rfl).trans par
  have rowSelections : selections (withRow t x a row) x = selections t x := modUnit_selections t x a fun _ => rfl
  generalize withRow t x a row = r at rowPar rowSelections
  have chosen : view 67108896 (select r x a ((cells.take (unitLimit r row)).map (·.k))) = view 67108896 r := by simp
  refine ⟨(parN_congr (same_ident chosen (by decide)) (whole_par chosen (by decide) (by decide))).trans rowPar, _, ?_,
    (select_selections r x a _).trans (congrArg _ rowSelections)⟩
  calc ((cells.take (unitLimit r row)).map (·.k)).length = min (unitLimit r row) cells.length := by rw [List.length_map, List.length_take]
    _ ≤ unitLimit r row := Nat.min_le_left _ _
    _ ≤ parN r 0x0716 := unitLimit_le r row
    _ = parN s 0x0716 := by rw [rowPar]

/-- What a review leaves of a ring: no cell selected while the string or the module is unseeded; else, outside a frozen rest, at most
BAL_MAX_CELLS cells of a unit (R231, R233). -/
def Reviewed (s : State) (x : Ix) (c : RingState) : Prop :=
  ((s.est.str.get x).seeded = false ∨ s.est.seed = false → ∀ u ∈ c.units, u.selected = []) ∧
    ((s.est.str.get x).seeded = true → s.est.seed = true → restFrozen s x = false → ∀ u ∈ c.units, u.selected.length ≤ parN s 0x0716)

theorem balReview_reviews (s : State) (x : Ix) : Reviewed s x (car (balReview s x) x) := by
  unfold balReview
  extract_lets st inhibited bins bs startAh stopAh wants selected step wanting
  have events (t : State) (cause n : Nat) : car (inhibited t cause n) x = car t x := car_raiseIf _ _ _ _ _
  have binned (t : State) : car (bins t) x = car t x := by
    simp only [bins]
    split
    · exact events _ _ _
    · rfl
  split
  case isTrue unseeded =>
    rw [events]
    refine ⟨fun _ => forall_selected (p := (· = [])) (balanceOff_selections s x), fun seeded seed => absurd unseeded ?_⟩
    simp [st, seeded, seed]
  case isFalse seeded =>
    have seeds : (s.est.str.get x).seeded = true ∧ s.est.seed = true := by simpa [st] using seeded
    split
    case isTrue frozen =>
      exact ⟨fun unseeded => by simp [seeds] at unseeded, fun _ _ thawed => absurd (frozen.symm.trans thawed) (by decide)⟩
    case isFalse =>
      have final := foldl_assigns (g := fun a : State × Nat => selections a.1 x) (inv := fun a => parN a.1 = parN s)
        (p := fun sel => sel.length ≤ parN s 0x0716) (f := step) (fun a u par => withRow_select par x u.addr _ _)
        (us := (car s x).units) (a := (s, 0)) rfl fun _ mem => .inr (selections_addressed mem)
      split
      rename_i chosen cut same
      rw [same] at final
      have warned (c : Bool) (t : State) (cause n : Nat) : car (if c then inhibited t cause n else t) x = car t x := by
        split
        · exact events _ _ _
        · rfl
      refine ⟨fun unseeded => by simp [seeds] at unseeded, fun _ _ _ => ?_⟩
      dsimp only
      rw [events, warned, warned, binned]
      exact forall_selected (p := fun sel => sel.length ≤ parN s 0x0716) final

theorem modUnit_other (s : State) {x y : Ix} (ne : y ≠ x) (a : Nat) (f : UnitState → UnitState) : car (modUnit s x a f) y = car s y :=
  modCar_other s x _ ne
theorem select_other (s : State) {x y : Ix} (ne : y ≠ x) (a : Nat) (sel : List Nat) : car (select s x a sel) y = car s y := by
  unfold select
  extract_lets chosen d
  have kept : car chosen y = car s y := modUnit_other s ne a _
  split
  · exact kept
  · extract_lets now sent
    have sentKept : car sent y = car s y := by
      simp only [sent]
      split
      · exact kept
      · exact (setDuty_other chosen x a now ne).trans kept
    exact (modUnit_other sent ne a _).trans sentKept
theorem balanceOff_other (s : State) {x y : Ix} (ne : y ≠ x) : car (balanceOff s x) y = car s y :=
  List.foldlRecOn (motive := fun t => car t y = car s y) _ _ rfl fun t same u _ => (select_other t ne u.addr []).trans same

/-- A review of one string leaves the other ring as it was. -/
theorem balReview_other (s : State) {x y : Ix} (ne : y ≠ x) : car (balReview s x) y = car s y := by
  unfold balReview
  extract_lets st inhibited bins bs startAh stopAh wants selected step wanting
  have events (t : State) (cause n : Nat) : car (inhibited t cause n) y = car t y := car_raiseIf _ _ _ _ _
  have warned (c : Bool) (t : State) (cause n : Nat) : car (if c then inhibited t cause n else t) y = car t y := by
    split
    · exact events _ _ _
    · rfl
  have binned (t : State) : car (bins t) y = car t y := warned _ t _ _
  split
  · rw [events]
    exact balanceOff_other s ne
  · split
    · exact binned s
    · have final : car ((car s x).units.foldl step (s, 0)).1 y = car s y :=
        List.foldlRecOn (motive := fun a : State × Nat => car a.1 y = car s y) _ _ rfl fun a same u _ =>
          (select_other (withRow a.1 x u.addr _) ne u.addr _).trans ((modUnit_other a.1 ne u.addr _).trans same)
      split
      rename_i chosen cut same
      rw [same] at final
      dsimp only
      rw [events, warned, warned, binned]
      exact final

theorem Reviewed.congr {s t : State} {x : Ix} {c : RingState} (hi : t.ident = s.ident) (hp : t.par = s.par) (he : t.elec = s.elec)
    (hest : t.est.str = s.est.str ∧ t.est.seed = s.est.seed) (h : Reviewed t x c) : Reviewed s x c := by
  unfold Reviewed restFrozen passed at *
  rwa [parN_congr hi hp, he, hest.1, hest.2] at h

/-- The review is noted with its time. -/
def noteReview (s : State) : State := { s with est := { s.est with reviewUp := some s.elec.uptime, reviewDue := false } }

/-- The review of one string where it is enabled. -/
def reviewOne (s : State) (x : Ix) : State := if strEnabled s x then balReview s x else s

theorem exec_balanceReview_eq {s : State} (drive : drives s = true) (began : s.est.began = true)
    (due : s.est.reviewDue = true ∨ ∀ u, s.est.reviewUp = some u → passed s u (sec (parN s 0x0717)) = true) :
    exec .balanceReview s = .next (reviewOne (reviewOne (noteReview s) .zero) .one) := by
  have all : (drives s && s.est.began && (s.est.reviewDue || s.est.reviewUp.all fun u => passed s u (sec (parN s 0x0717)))) = true := by
    rw [drive, began, Bool.and_self, Bool.true_and, Bool.or_eq_true, Option.all_eq_true]
    exact due
  show execBalanceReview s = _
  rw [execBalanceReview, if_pos all]
  rfl

theorem reviewOne_view (s : State) (x : Ix) : view 201981984 (reviewOne s x) = view 201981984 s := by simp [reviewOne]
theorem reviewOne_reviews {s : State} {x : Ix} (enabled : strEnabled s x = true) : Reviewed s x (car (reviewOne s x) x) := by
  unfold reviewOne
  rw [if_pos enabled]
  exact balReview_reviews s x
theorem reviewOne_other (s : State) {x y : Ix} (ne : y ≠ x) : car (reviewOne s x) y = car s y := by
  unfold reviewOne
  split
  · exact balReview_other s ne
  · rfl

/-- R231: a review selects no cell of an unseeded string and at most BAL_MAX_CELLS cells of a unit. -/
theorem balanceReview_reviews {s : State} (drive : drives s = true) (began : s.est.began = true)
    (due : s.est.reviewDue = true ∨ ∀ u, s.est.reviewUp = some u → passed s u (sec (parN s 0x0717)) = true) :
    runs .balanceReview s fun t => t.est.reviewUp = some s.elec.uptime ∧ t.est.reviewDue = false ∧
      ∀ x : Ix, strEnabled s x = true →
        ((s.est.str.get x).seeded = false ∨ s.est.seed = false → ∀ u ∈ (car t x).units, u.selected = []) ∧
        ((s.est.str.get x).seeded = true → s.est.seed = true → restFrozen s x = false →
          ∀ u ∈ (car t x).units, u.selected.length ≤ parN s 0x0716) := by
  have first := reviewOne_view (noteReview s) .zero
  have firstEst : (reviewOne (noteReview s) .zero).est = (noteReview s).est := whole_est first (by decide) (by decide)
  have bothEst : (reviewOne (reviewOne (noteReview s) .zero) .one).est = (noteReview s).est :=
    (whole_est (reviewOne_view _ .one) (by decide) (by decide)).trans firstEst
  refine ⟨_, exec_balanceReview_eq drive began due, by rw [bothEst]; rfl, by rw [bothEst]; rfl, fun x enabled => ?_⟩
  show Reviewed s x _
  cases x with
  | zero =>
    rw [reviewOne_other _ (by decide : Ix.zero ≠ Ix.one)]
    exact (reviewOne_reviews (s := noteReview s) enabled).congr rfl rfl rfl ⟨rfl, rfl⟩
  | one =>
    have hi := same_ident first (by decide)
    have hp := whole_par first (by decide) (by decide)
    have he := same_elec first (by decide)
    exact (reviewOne_reviews ((congrFun (strEnabled_congr hi hp) .one).trans enabled)).congr hi hp he
      ⟨(congrArg EstState.str firstEst).trans rfl, (congrArg EstState.seed firstEst).trans rfl⟩

/-- Settles O12: one theorem above for each clause, in the order of the commands. -/
theorem estimationCommandsTakeEffect : Obligations.EstimationCommandsTakeEffect := by
  unfold Obligations.EstimationCommandsTakeEffect
  refine ⟨?ticks, ?stop, ?frame, ?learning, ?starved, ?capture, ?declare, ?offer, ?review⟩
  case ticks => exact fun s l drive began last => tickPropagation_propagates drive began last
  case stop => exact fun s x u drive discharging above second => dischargeStop_stops drive discharging above second
  case frame => exact fun s drive handed began => frameUpdate_takes drive handed began
  case learning => exact fun s x l drive opened fit hours => learningDurationExpiry_closes drive opened fit hours
  case starved => exact fun s x drive seeded fed hours => referenceStarved_starves drive seeded fed hours
  case capture => exact fun s drive began mains tick second => stateRecordCapture_captures drive began mains tick second
  case declare => exact fun s h d ready only fresh role step => stateOffer_declines ready only fresh role step d
  case offer =>
    exact fun s h addr len d ready only fresh role step given sound => stateOffer_restores ready only fresh role step given sound
  case review => exact fun s drive began due => balanceReview_reviews drive began due

end Sys2Proof.Proofs

/-! PROOFS. Inputs and nodes lost, the die temperature, bank requests and the latch of a tick (R243, R244, R247, R249, R254, R260, R262, R267,
R270, R271): how a slot enters tracking, what a reading and a latch leave, then one theorem per command, and O13 from these. -/

namespace Sys2Proof.Proofs

open Sys2Proof Sys2Proof.Machine Sys2Proof.Laws

/-! ### A slot enters tracking (R243, R260) -/

theorem slotFallback_congr {s t : State} (hi : t.ident = s.ident) (hp : t.par = s.par) : slotFallback t = slotFallback s := by
  funext n; simp only [slotFallback, slotCfg, parBytes, parF_congr hi hp, parN_congr hi hp, hi]

/-- Slots 40 to 43 carry the thermal outputs, whose lost inputs are EV 180 (R243); those of the others are EV 114 (R260). -/
theorem inputEvent_thermal {n : Nat} (thermal : 40 ≤ n ∧ n ≤ 43) (s : State) (input : Nat) (lost : Bool) :
    inputEvent s n input lost = raise s 180 (u8 n ++ fb (slotFallback s n) ++ ub lost) := if_pos thermal
theorem inputEvent_other {n : Nat} (other : ¬ (40 ≤ n ∧ n ≤ 43)) (s : State) (input : Nat) (lost : Bool) :
    inputEvent s n input lost = raise s 114 (u8 n ++ u8 input ++ fb (slotFallback s n) ++ ub lost) := if_neg other
theorem inputEvent_ctl (s : State) (n input : Nat) (lost : Bool) : (inputEvent s n input lost).ctl = s.ctl :=
  same_ctl (inputEvent_view 201981952 s n input lost (by decide)) (by decide)

theorem slotAt_of_ctl {s t : State} (e : t.ctl = s.ctl) (n : Nat) : slotAt t n = slotAt s n := by unfold slotAt; rw [e]
theorem slotAt_modSlot {s : State} {n : Nat} (inside : n < s.ctl.slots.length) (f : SlotState → SlotState) :
    slotAt (modSlot s n f) n = f (slotAt s n) := by
  simp only [slotAt, modSlot_ctl, modAt_getElem?, List.getElem?_eq_getElem inside, Option.map_some, Option.getD_some]

/-- Only a slot of the engine has an input that timed out. -/
theorem slot_inside_of_timedOut {s : State} {n : Nat} (out : inputTimedOut s n = true) : n < s.ctl.slots.length := by
  by_contra outside
  have fresh : slotAt s n = {} := by rw [slotAt, List.getElem?_eq_none (not_lt.mp outside), Option.getD_none]
  rw [inputTimedOut, fresh] at out
  exact Bool.false_ne_true out

/-- A slot as it enters tracking on its fallback. -/
def onFallback (fallback : F32) (k : SlotState) : SlotState := { k with tracking := true, i := fallback, dPrev := 0, lostN := k.lostN + 1 }

section Tracking

variable {s : State} {n : Nat} (evaluated : (slotAt s n).tracking = false) (out : inputTimedOut s n = true) (works : slotRuns s n = true)
include evaluated out works

theorem enterTracking_eq :
    enterTracking s n = inputEvent (modSlot s n (onFallback (slotFallback s n))) n (slotAt s n).badInput true := by
  simp only [enterTracking, evaluated, out, works, Bool.not_true, Bool.or_self, Bool.false_eq_true, if_false]
  rfl

theorem enterTracking_slot : slotAt (enterTracking s n) n = onFallback (slotFallback s n) (slotAt s n) := by
  rw [enterTracking_eq evaluated out works, slotAt_of_ctl (inputEvent_ctl _ _ _ _), slotAt_modSlot (slot_inside_of_timedOut out)]

theorem enterTracking_newest_thermal (thermal : 40 ≤ n ∧ n ≤ 43) :
    newest (enterTracking s n) 180 = some (u8 n ++ fb (slotFallback s n) ++ ub true) := by
  rw [enterTracking_eq evaluated out works, inputEvent_thermal thermal, raise_newest, slotFallback_congr (modSlot_ident _ _ _) (modSlot_par _ _ _)]

theorem enterTracking_newest_other (other : ¬ (40 ≤ n ∧ n ≤ 43)) :
    newest (enterTracking s n) 114 = some (u8 n ++ u8 (slotAt s n).badInput ++ fb (slotFallback s n) ++ ub true) := by
  rw [enterTracking_eq evaluated out works, inputEvent_other other, raise_newest, slotFallback_congr (modSlot_ident _ _ _) (modSlot_par _ _ _)]

/-- R243: a thermal slot whose input stayed invalid for TH_INPUT_TIMEOUT_S puts out its fallback. -/
theorem thermalInputTimeout_tracks (fw : running s = true) (role : isActive s = true) (first : 40 ≤ n) (last : n ≤ 43) :
    runs (.thermalInputTimeout n) s fun t => (slotAt t n).tracking = true ∧ (slotAt t n).i = slotFallback s n ∧
      newest t 180 = some (u8 n ++ fb (slotFallback s n) ++ ub true) := by
  have outcome : exec (.thermalInputTimeout n) s = .next (enterTracking s n) := by
    show execThermalInputTimeout n s = _
    rw [execThermalInputTimeout, if_neg (by simp [fw, role, first, last])]
  refine ⟨_, outcome, ?_, ?_, enterTracking_newest_thermal evaluated out works ⟨first, last⟩⟩ <;>
    rw [enterTracking_slot evaluated out works] <;> rfl

/-- R260: any other slot whose input stayed invalid for INPUT_TIMEOUT puts out its fallback. -/
theorem slotInputTimeout_tracks (fw : running s = true) (role : isActive s = true) (other : n < 40 ∨ 43 < n) (last : n < 48) :
    runs (.slotInputTimeout n) s fun t => (slotAt t n).tracking = true ∧ (slotAt t n).i = slotFallback s n ∧
      newest t 114 = some (u8 n ++ u8 (slotAt s n).badInput ++ fb (slotFallback s n) ++ ub true) := by
  have outside : ¬ (40 ≤ n ∧ n ≤ 43) := by omega
  have outcome : exec (.slotInputTimeout n) s = .next (enterTracking s n) := by
    show execSlotInputTimeout n s = _
    rw [execSlotInputTimeout, if_neg]
    simpa [fw, role, last] using outside
  refine ⟨_, outcome, ?_, ?_, enterTracking_newest_other evaluated out works outside⟩ <;>
    rw [enterTracking_slot evaluated out works] <;> rfl

end Tracking

/-! ### Thermal nodes and the die temperature (R244, R247, R249) -/

/-- R244: a configured node that was silent for TH_NODE_TIMEOUT_S is lost, with EV 179. -/
theorem thermalNodeLost_loses {s : State} {n : Nat} {d : NodeState} (fw : running s = true) (role : isActive s = true)
    (node : s.therm.nodes[n]? = some d) (configured : parN s (0x0D10 + n) % 256 ≠ 0) (heard : d.lost = false)
    (silent : passed s (d.seenUp.getD 0) (sec (parN s 0x0811)) = true) :
    runs (.thermalNodeLost n) s fun t => t.therm.nodes[n]? = some { d with lost := true } ∧
      newest t 179 = some (u8 n ++ u8 (parN s (0x0D10 + n) / 256) ++ u8 1) := by
  have outcome : exec (.thermalNodeLost n) s =
      .next (raise (modNode s n fun d => { d with lost := true }) 179 (u8 n ++ u8 (parN s (0x0D10 + n) / 256) ++ u8 1)) := by
    show execThermalNodeLost n s = _
    simp only [execThermalNodeLost, node]
    rw [if_pos (by simp [fw, role, configured, heard, silent])]
  refine ⟨_, outcome, ?_, raise_newest _ 179 _⟩
  rw [raise_therm]
  show (modAt s.therm.nodes n _)[n]? = _
  rw [modAt_getElem?, node]
  rfl

/-- A judgement of the diode, and the band in force, take the readings as they are. -/
theorem judgeDiode_readings (s : State) (jump : Nat) :
    (judgeDiode s jump).therm.readings = s.therm.readings ∧ (judgeDiode s jump).therm.td = s.therm.td := by
  unfold judgeDiode
  extract_lets t p h inside far event bad near
  have reported (u : State) (b : Bool) : (event u b).therm = u.therm := raise_therm _ _ _
  split
  · split
    · rw [reported]; exact ⟨rfl, rfl⟩
    · exact ⟨rfl, rfl⟩
  · split
    · split
      · exact ⟨rfl, rfl⟩
      · split
        · rw [reported]; exact ⟨rfl, rfl⟩
        · exact ⟨rfl, rfl⟩
    · exact ⟨rfl, rfl⟩

theorem applyBand_readings (s : State) : (applyBand s).therm.readings = s.therm.readings ∧ (applyBand s).therm.td = s.therm.td := by
  unfold applyBand
  extract_lets t b n longer s'
  have changed : s'.therm.readings = s.therm.readings ∧ s'.therm.td = s.therm.td := by
    simp only [s']
    split
    · exact ⟨rfl, rfl⟩
    · rw [raise_therm]; exact ⟨rfl, rfl⟩
  split
  · split <;> exact changed
  · exact changed

/-- R247: the die temperature is the mean of the last 16 readings. -/
theorem dieReading_averages {s : State} (r : Int) (fw : running s = true) :
    runs (.dieReading r) s fun t => t.therm.readings = (r :: s.therm.readings).take 16 ∧
      t.therm.td = roundHalfUp ((((r :: s.therm.readings).take 16).sum : Rat) / ((r :: s.therm.readings).take 16).length) := by
  refine ⟨_, (rfl : exec (.dieReading r) s = .next _), ?_⟩
  rw [if_neg (by simp [fw])]
  dsimp only
  rw [(applyBand_readings _).1, (applyBand_readings _).2, (judgeDiode_readings _ _).1, (judgeDiode_readings _ _).2]
  exact ⟨rfl, rfl⟩

/-- R249: the partner's die temperature is kept with the time at which it came. -/
theorem dieTemp_keeps {s : State} {f : PeerFrame} (fw : running s = true) (good : f.good 0x31 (· == 4) = true) :
    runs (.dieTemp f) s fun t => t.therm.partner = some (toSigned 16 (beAt f.payload 0 2), s.elec.uptime) := by
  refine ⟨_, (rfl : exec (.dieTemp f) s = .next _), ?_⟩
  simp only [fw, good, Bool.not_true, Bool.false_eq_true, if_false]

/-- R249: a host's slot temperature is kept with the time at which it came. -/
theorem tempHostWrite_keeps {s : State} (w : Word) (clock : clocked s = true) :
    runs (.tempHostWrite w) s fun t => t.therm.slotT = w.toNat % 4096 ∧ t.therm.hostUp = some s.elec.uptime := by
  refine ⟨_, (rfl : exec (.tempHostWrite w) s = .next _), ?_⟩
  rw [if_pos clock]
  exact ⟨rfl, rfl⟩

/-- R249: the partner is sent the die temperature and whether the diode is broken. -/
theorem dieTempSend_sends {s : State} (fw : running s = true) :
    runs .dieTempSend s fun t =>
      t.sent = s.sent ++ [.peer 0x31 (beBytes 2 (ofSigned 16 s.therm.td) ++ [toByte (bit s.therm.broken), 0])] := by
  refine ⟨_, (rfl : exec .dieTempSend s = .next _), ?_⟩
  rw [if_pos fw]
  exact emit_sent _ _

/-! ### The latch of a tick (R254, R267) -/

theorem runSlot_lateBit (s : State) (n : Nat) (y r f : F32) (range : F32 × F32) (old held : Option (List F32)) :
    (runSlot s n y r f range old held).ctl.lateBit = s.ctl.lateBit := by
  unfold runSlot
  extract_lets
  split
  · rw [raise_ctl]; rfl
  · split
    · rw [raiseOnce_ctl]; rfl
    · rfl

theorem watchInputs_lateBit (s0 s : State) (n : Nat) : (watchInputs s0 s n).ctl.lateBit = s.ctl.lateBit := by
  unfold watchInputs
  extract_lets
  split <;> rfl

theorem latchEval_lateBit (s0 s : State) (n : Nat) (late : Bool) (cfg : List Byte) (range : F32 × F32) (old held : Option (List F32)) :
    (latchEval s0 s n late cfg range old held).ctl.lateBit = s.ctl.lateBit := by
  unfold latchEval
  split
  · extract_lets sl started returned before noted
    have kept : noted.ctl.lateBit = s.ctl.lateBit := by
      show returned.ctl.lateBit = _
      simp only [returned]
      split
      · rw [inputEvent_ctl]; rfl
      · rfl
    split
    · rfl
    · split
      · exact kept
      · exact (runSlot_lateBit _ _ _ _ _ _ _ _).trans kept
  · rfl

/-- The evaluations of a latch leave CTL_STAT.LATE to the next one. -/
theorem latchSlot_lateBit (s0 : State) (a : LatchAcc) (n : Nat) : (latchSlot s0 a n).st.ctl.lateBit = a.st.ctl.lateBit := by
  unfold latchSlot
  extract_lets watched cfg b0 old ask move held banked acc range
  have kept : watched.ctl.lateBit = a.st.ctl.lateBit := by
    simp only [watched]
    split
    · exact watchInputs_lateBit s0 a.st n
    · rfl
  split
  · exact kept
  · split
    · exact kept
    · exact (latchEval_lateBit _ _ _ _ _ _ _ _).trans kept

theorem latchFold_lateBit (s0 : State) (slots : List Nat) (a : LatchAcc) :
    (slots.foldl (latchSlot s0) a).st.ctl.lateBit = a.st.ctl.lateBit :=
  List.foldlRecOn (motive := fun b : LatchAcc => b.st.ctl.lateBit = a.st.ctl.lateBit) _ _ rfl fun b same n _ =>
    (latchSlot_lateBit s0 b n).trans same

theorem closeLateRun_lateBit (s : State) : (closeLateRun s).ctl.lateBit = s.ctl.lateBit := by
  unfold closeLateRun
  split
  · split
    · rfl
    · rw [raise_ctl]
  · rfl

theorem abandonLate_lateBit {s : State} (late : s.ctl.lateNow ≠ 0) : (abandonLate s).ctl.lateBit = true := by
  simp only [abandonLate, if_neg late]

theorem formTotals_ctl (s : State) : (formTotals s).ctl = s.ctl := same_ctl (formTotals_view 4096 s (by decide)) (by decide)
theorem sendFraction_ctl (s : State) : (sendFraction s).ctl = s.ctl := same_ctl (sendFraction_view 201986048 s (by decide)) (by decide)

/-- The engine after a latch at tick `now` that found it as `was`: what is late or torn of the slots that were due, and that an evaluation
abandoned at this latch shows. -/
def Latched (late torn now : Nat) (was c : CtlState) : Prop :=
  c.lastAt = now ∧ c.lateNow = (late ||| torn) &&& c.lastDue ∧ (torn &&& c.lastDue ≠ 0 → c.parityBit = true) ∧
    (was.lateNow ≠ 0 → c.lateBit = true)

theorem latchAll_latched (late torn : Nat) (s : State) : Latched late torn s.grid.now s.ctl (latchAll late torn s).ctl := by
  unfold latchAll
  extract_lets closed c0 begun a n c counted latched told
  have toldCtl : told.ctl = latched.ctl := by
    simp only [told]
    split
    · rfl
    · exact raise_ctl _ _ _
  have sameGrid : begun.grid = s.grid := same_grid (m := 201984000) (by simp [begun, c0, closed]) (by decide)
  rw [formTotals_ctl, toldCtl]
  refine ⟨congrArg GridState.now sameGrid, rfl, fun torn => ?_, fun wasLate => ?_⟩
  · simp only [latched, decide_eq_true torn, Bool.or_true]
  · calc a.st.ctl.lateBit = closed.ctl.lateBit := latchFold_lateBit begun _ _
      _ = (abandonLate s).ctl.lateBit := closeLateRun_lateBit _
      _ = true := abandonLate_lateBit wasLate

/-- R254, R267: a latch of an active module; the fraction that it may send leaves the engine as it is. -/
theorem controlLatch_latches {s : State} (late torn : Nat) (fw : running s = true) (role : isActive s = true) (mains : s.grid.on = true) :
    runs (.controlLatch late torn) s fun t => Latched late torn s.grid.now s.ctl t.ctl := by
  refine ⟨_, (rfl : exec (.controlLatch late torn) s = .next _), ?_⟩
  rw [if_neg (by simp [fw, role, mains])]
  dsimp only
  split
  · rw [sendFraction_ctl]
    exact latchAll_latched late torn s
  · exact latchAll_latched late torn s

/-! ### Bank requests and readings by a host (R262, R270, R271) -/

/-- R262, R270: CTL_BANK_REQ takes the lower half of its 48 bits and keeps the upper. -/
theorem ctlBankReqWrite_low {s : State} (w : Word) (clock : clocked s = true) :
    runs (.ctlBankReqWrite false w) s fun t => t.ctl.bankReq = s.ctl.bankReq / 2 ^ 32 * 2 ^ 32 + w.toNat := by
  refine ⟨_, (rfl : exec (.ctlBankReqWrite false w) s = .next _), ?_⟩
  simp only [clock, Bool.not_true, Bool.false_eq_true, if_false]

/-- R262, R270: and the upper 16 bits, keeping the lower half. -/
theorem ctlBankReqWrite_high {s : State} (w : Word) (clock : clocked s = true) :
    runs (.ctlBankReqWrite true w) s fun t => t.ctl.bankReq = w.toNat % 2 ^ 16 * 2 ^ 32 + s.ctl.bankReq % 2 ^ 32 := by
  refine ⟨_, (rfl : exec (.ctlBankReqWrite true w) s = .next _), ?_⟩
  simp only [clock, Bool.not_true, Bool.false_eq_true, if_false, if_true]

/-- Table 9-9, R493: a 1 written to CTL_STAT.LAT_CLR clears LAT_MAX. -/
theorem latClr_clears {s : State} {w : Word} (clock : clocked s = true) (asked : testBit w.toNat 5 = true) :
    runs (.latClr w) s fun t => t.ctl.latMax = 0 := by
  refine ⟨_, (rfl : exec (.latClr w) s = .next _), ?_⟩
  rw [if_pos (by rw [clock, asked]; rfl)]

/-- R262: CTL_SWAP asks bank A or B of the slots of its mask. -/
theorem ctlSwap_requests {s : State} {h : Hdr} {mask : Nat} (b : Bool) (ready : hostReady s h = true) (only : alone s h = true)
    (slots : mask < 2 ^ 48) :
    runs (.ctlSwap h mask b) s fun t => answered t h 0x0050 .ok 0 0 [] ∧
      t.ctl.bankReq = (if b then s.ctl.bankReq ||| mask else s.ctl.bankReq - (s.ctl.bankReq &&& mask)) := by
  refine ⟨_, (rfl : exec (.ctlSwap h mask b) s = .next _), ?_⟩
  simp only [ready, Nat.div_eq_of_lt slots, ne_eq, not_true_eq_false, Bool.not_true, Bool.false_eq_true, if_false, respondOk_ctl, and_true]
  exact respondOk_answered _ h _ _ (hostReady_portUp ready) only

/-- R271: CTL_READ_SLOT answers the last completed evaluation of a slot and its counts. -/
theorem ctlReadSlot_reads {s : State} {h : Hdr} {n : Nat} (ready : hostReady s h = true) (only : alone s h = true) (inside : n < 48) :
    runs (.ctlReadSlot h n) s fun t => answered t h 0x0051 .ok 0 0
      (fb (slotAt s n).e ++ fb (slotAt s n).p ++ fb (slotAt s n).iEval ++ fb (slotAt s n).d ++ fb (slotAt s n).v ++ fb (slotAt s n).uEval ++
        ub (slotAt s n).bankB ++ ub (slotAt s n).tracking ++ u16 0 ++ ustamp (slotAt s n).evalAt ++ u32 (slotAt s n).lateN ++
        u32 (slotAt s n).nonfN ++ u32 (slotAt s n).lostN) := by
  refine ⟨_, (rfl : exec (.ctlReadSlot h n) s = .next _), ?_⟩
  rw [if_neg (by simp [ready]), if_neg (not_le.mpr inside)]
  exact respondOk_answered s h _ _ (hostReady_portUp ready) only

/-- Settles O13: one theorem above for each clause, in the order of the commands. -/
theorem thermalAndControlCommandsTakeEffect : Obligations.ThermalAndControlCommandsTakeEffect := by
  unfold Obligations.ThermalAndControlCommandsTakeEffect
  refine ⟨?thermalInput, ?node, ?reading, ?partner, ?host, ?send, ?latch, ?slotInput, ?low, ?high, ?clear, ?swap, ?read⟩
  case thermalInput =>
    exact fun s n fw role first last evaluated out works => thermalInputTimeout_tracks evaluated out works fw role first last
  case node => exact fun s n d fw role node configured heard silent => thermalNodeLost_loses fw role node configured heard silent
  case reading => exact fun s r fw => dieReading_averages r fw
  case partner => exact fun s f fw good => dieTemp_keeps fw good
  case host => exact fun s w clock => tempHostWrite_keeps w clock
  case send => exact fun s fw => dieTempSend_sends fw
  case latch => exact fun s late torn fw role mains => controlLatch_latches late torn fw role mains
  case slotInput =>
    exact fun s n fw role other last evaluated out works => slotInputTimeout_tracks evaluated out works fw role other last
  case low => exact fun s w clock => ctlBankReqWrite_low w clock
  case high => exact fun s w clock => ctlBankReqWrite_high w clock
  case clear => exact fun s w clock asked => latClr_clears clock asked
  case swap => exact fun s h mask b ready only slots => ctlSwap_requests b ready only slots
  case read => exact fun s h n k ready only inside slot => slot ▸ ctlReadSlot_reads ready only inside

end Sys2Proof.Proofs

/-! PROOFS. Phasor records and their vote (R275, R277, R278, R279, R281): what the operations of Hold leave of it and of the grid, then one
theorem per clause, and O14 from these. -/

namespace Sys2Proof.Proofs

open Sys2Proof Sys2Proof.Machine Sys2Proof.Laws

/-! ### What the operations of Hold leave -/

theorem noteIf_hold (s : State) (c : Bool) (k : ModeKind) (v : Nat) : (noteIf s c k v).hold = s.hold := by unfold noteIf; split <;> rfl

theorem setHold_hold (s : State) (m : HoldMode) (cause : Nat) : (setHold s m cause).hold = { s.hold with mode := m } := by
  unfold setHold
  dsimp only
  split
  · rw [raise_hold, noteIf_hold]
  · rw [noteIf_hold]

/-- Checking the budget touches, of Hold, its mode alone. -/
theorem budgetCheck_hold (s : State) (dMax : Nat) : ∃ m, (budgetCheck s dMax).hold = { s.hold with mode := m } := by
  unfold budgetCheck
  extract_lets short _ judged
  split
  · refine ⟨.off, ?_⟩
    rw [setHold_hold, apply_ite State.hold, raise_hold, ite_self]
  · exact ⟨s.hold.mode, rfl⟩

theorem restartSlot_hold (s : State) (n : Nat) (v : F32) : (restartSlot s n v).hold = s.hold :=
  same_hold (restartSlot_view 201984000 s n v (by decide)) (by decide)
theorem restartSlot_grid (s : State) (n : Nat) (v : F32) : (restartSlot s n v).grid = s.grid :=
  same_grid (restartSlot_view 201984000 s n v (by decide)) (by decide)

/-- Marks of the round in progress: its HPN, that it began, that it and its plan are closed, and its fraction. -/
def roundMarks (h : HoldState) : Nat × Bool × Bool × Bool × Option FracRec := (h.round, h.began, h.closed, h.planClosed, h.frac)

theorem formRefs_marks (s : State) : roundMarks (formRefs s).hold = roundMarks s.hold := by
  unfold formRefs
  split <;> rfl

theorem sendSum_marks (s : State) : roundMarks (sendSum s).hold = roundMarks s.hold := by
  unfold sendSum
  split <;> rfl

/-! ### Phasor records (R275, R277) -/

/-- R275, R276: the record of the half cycle is formed; its angle is kept for the next. -/
theorem exec_phasorRecordForm_eq {s : State} (drive : drives s = true) (mains : s.grid.on = true) (reference : parN s 0x0A06 ≠ 0)
    (fitted : parN s 0x0540 ≠ 0) (begun : curCycle s ≠ 0) :
    exec .phasorRecordForm s = .next (
      let formed := takeFree { s with hold := { s.hold with lastAng := some (phasorRecord s (curCycle s) (curTick s / 64)).2 } }
      if s.grid.head then holdRecord formed (phasorRecord s (curCycle s) (curTick s / 64)).1
      else emit formed (Out.ryran false s.grid.sel 0x10 (phasorRecord s (curCycle s) (curTick s / 64)).1)) := by
  show execPhasorRecordForm s = _
  unfold execPhasorRecordForm
  dsimp only
  rw [if_neg (by simp [drive, mains, reference, fitted, begun])]
  rfl

/-- R277: a position that is not the angle source passes its record toward it. -/
theorem phasorRecordForm_sends {s : State} (drive : drives s = true) (mains : s.grid.on = true) (reference : parN s 0x0A06 ≠ 0)
    (fitted : parN s 0x0540 ≠ 0) (begun : curCycle s ≠ 0) (follows : s.grid.head = false) :
    runs .phasorRecordForm s fun t => t.hold.lastAng = some (phasorRecord s (curCycle s) (curTick s / 64)).2 ∧
      t.sent = s.sent ++ [Out.ryran false s.grid.sel 0x10 (phasorRecord s (curCycle s) (curTick s / 64)).1] := by
  refine ⟨_, exec_phasorRecordForm_eq drive mains reference fitted begun, ?_⟩
  dsimp only
  rw [if_neg (by simp [follows])]
  exact ⟨rfl, rfl⟩

/-- R277: the angle source holds its own record for the vote. -/
theorem phasorRecordForm_holds {s : State} (drive : drives s = true) (mains : s.grid.on = true) (reference : parN s 0x0A06 ≠ 0)
    (fitted : parN s 0x0540 ≠ 0) (begun : curCycle s ≠ 0) (head : s.grid.head = true) :
    runs .phasorRecordForm s fun t => t.hold.lastAng = some (phasorRecord s (curCycle s) (curTick s / 64)).2 ∧
      t.hold.recs = s.hold.recs ++ [readPhasor (phasorRecord s (curCycle s) (curTick s / 64)).1] := by
  refine ⟨_, exec_phasorRecordForm_eq drive mains reference fitted begun, ?_⟩
  dsimp only
  rw [if_pos head]
  exact ⟨rfl, rfl⟩

/-- R277: the angle source holds a good record that comes up from below. -/
theorem phasorRecord_holds {s : State} {f : RyrFrame} (p : Ix) (drive : drives s = true) (good : f.good 0x10 40 = true)
    (head : s.grid.head = true) : runs (.phasorRecord p f) s fun t => t.hold.recs = s.hold.recs ++ [readPhasor f.payload] := by
  refine ⟨_, (rfl : exec (.phasorRecord p f) s = .next _), ?_⟩
  simp only [drive, good, head, Bool.not_true, Bool.false_eq_true, if_false, if_true]
  rfl

/-- R277: any other position passes it on. -/
theorem phasorRecord_forwards {s : State} {f : RyrFrame} (p : Ix) (drive : drives s = true) (good : f.good 0x10 40 = true)
    (follows : s.grid.head = false) : runs (.phasorRecord p f) s fun t => t.sent = s.sent ++ [Out.ryran false s.grid.sel 0x10 f.payload] := by
  refine ⟨_, (rfl : exec (.phasorRecord p f) s = .next _), ?_⟩
  simp only [drive, good, follows, Bool.not_true, Bool.false_eq_true, if_false, emit_sent]

/-! ### The vote (R278, R279, R281) -/

/-- What follows a vote, the events and the judgement of the sets (R280), leaves the grid and, but for the records of the sets, Hold. -/
def VoteKept (s t : State) : Prop := t.grid = s.grid ∧ ∃ sets, t.hold = { s.hold with sets3 := sets }

section VoteKept

variable {s t u : State}

theorem VoteKept.of_same (grid : t.grid = s.grid) (hold : t.hold = s.hold) : VoteKept s t := ⟨grid, s.hold.sets3, hold⟩

theorem VoteKept.trans (h : VoteKept s t) (h' : VoteKept t u) : VoteKept s u := by
  obtain ⟨grid, _, hold⟩ := h
  obtain ⟨grid', sets, hold'⟩ := h'
  exact ⟨grid'.trans grid, sets, by rw [hold', hold]⟩

theorem VoteKept.foldl {α : Type} {f : State → α → State} (step : ∀ s a, VoteKept s (f s a)) (l : List α) (s : State) :
    VoteKept s (l.foldl f s) :=
  List.foldlRecOn (motive := VoteKept s) l f (.of_same rfl rfl) fun _ kept a _ => kept.trans (step _ a)

theorem raise_voteKept (s : State) (e : Nat) (d : List Byte) : VoteKept s (raise s e d) := .of_same (raise_grid s e d) (raise_hold s e d)
theorem raiseOnce_voteKept (s : State) (e k n : Nat) (d : List Byte) : VoteKept s (raiseOnce s e k n d) :=
  .of_same (raiseOnce_grid s e k n d) (raiseOnce_hold s e k n d)
theorem restartSlot_voteKept (s : State) (n : Nat) (v : F32) : VoteKept s (restartSlot s n v) :=
  .of_same (restartSlot_grid s n v) (restartSlot_hold s n v)

theorem judgeSet_voteKept (s : State) (k : Nat) (here : Bool) (outIn : Nat) (reading voted : F32) :
    VoteKept s (judgeSet s k here outIn reading voted) := by
  have put (r : SetRec) : VoteKept s { s with hold := { s.hold with sets3 := setAt s.hold.sets3 (k - 1) r } } := ⟨rfl, _, rfl⟩
  unfold judgeSet
  extract_lets r placed rehab outvoted
  split
  · split
    · exact (put _).trans (raise_voteKept _ _ _)
    · exact put _
  · split
    · exact (put _).trans (raise_voteKept _ _ _)
    · exact put _

end VoteKept

/-- R278, R279, R281: the lead votes the records of the half cycle that are fit and whose sets are not convicted. -/
theorem vote_votes {s : State} {rs : List PhasorRec} (drive : drives s = true) (lead : s.hold.mode = .lead)
    (due : curTick s % 64 = parN s 0x0A07)
    (fit : rs = ((fitRecords s (curCycle s) (curTick s / 64)).filter fun r => !setConvicted s r.set)) :
    runs .vote s fun t => t.hold.voteMode = rs.length ∧ t.hold.setsValid = (rs.map fun r => 2 ^ (r.set - 1)).sum ∧
      (rs = [] → t.hold.voted = none) ∧
      (rs ≠ [] → t.hold.voted = some ([0, 1, 3, 2, 4].map fun i => F32.ofRat (((voteQtys s)[i]?.bind fun q =>
          (voteOne q (rs.map fun r => (r.set, F32.toRat (q.read r)))).value).getD 0)) ∧
        (s.grid.head = true → t.grid.refSeen = true)) := by
  refine ⟨_, (rfl : exec .vote s = .next _), ?_⟩
  extract_lets vd h c present voters qs vs contested mask mode changed was vals voted f good ref out outs _ base told contests judged
  rw [if_neg (by simp [drive, lead, due, vd])]
  obtain rfl : rs = voters := fit
  have kept : VoteKept base (if was.isNone && voted.isSome then
      restartSlot (restartSlot judged 16 judged.hold.lastDem.1) 17 judged.hold.lastDem.2 else judged) := by
    have first : VoteKept base told := by
      simp only [told]
      split
      · exact raise_voteKept _ _ _
      · exact .of_same rfl rfl
    have second : VoteKept told contests := by
      refine .foldl (fun u p => ?_) _ _
      split
      split
      · exact raiseOnce_voteKept _ _ _ _ _
      · exact .of_same rfl rfl
    have third : VoteKept contests judged := .foldl (fun u p => judgeSet_voteKept u _ _ _ _ _) _ _
    have all := (first.trans second).trans third
    split
    · exact all.trans ((restartSlot_voteKept _ _ _).trans (restartSlot_voteKept _ _ _))
    · exact all
  obtain ⟨sameGrid, sets, sameHold⟩ := kept
  rw [sameHold, sameGrid]
  refine ⟨rfl, rfl, fun empty => if_pos (by rw [empty]; rfl), fun nonempty => ?_⟩
  have voting : voters.isEmpty = false := List.isEmpty_eq_false_iff.mpr nonempty
  have values : voted = some [vals.getD 0 0, vals.getD 1 0, vals.getD 3 0, vals.getD 2 0, vals.getD 4 0] :=
    if_neg (by rw [voting]; exact Bool.false_ne_true)
  constructor
  · show voted = _
    rw [values]
    simp only [vals, vs, qs, voteQtys, List.map_cons, List.map_nil, List.getD_cons_zero, List.getD_cons_succ, List.getElem?_cons_zero,
      List.getElem?_cons_succ, Option.bind_some]
  · intro head
    show (ref s.grid).refSeen = true
    simp only [ref, head, voting, Bool.not_true, Bool.or_self, Bool.false_eq_true, if_false]

/-- Settles O14: one theorem above for each clause, in the order of the commands. -/
theorem phasorCommandsTakeEffect : Obligations.PhasorCommandsTakeEffect := by
  refine ⟨?sends, ?keeps, ?takes, ?forwards, ?votes⟩
  case sends => intro s; exact phasorRecordForm_sends
  case keeps => intro s; exact phasorRecordForm_holds
  case takes => intro s p f; exact phasorRecord_holds p
  case forwards => intro s p f; exact phasorRecord_forwards p
  case votes => intro s rs; exact vote_votes

end Sys2Proof.Proofs

/-! PROOFS. The round of a holding period, its sums and its fraction (R287, R289, R290, R291, R293, R378): one theorem per command, and O15
from these. -/

namespace Sys2Proof.Proofs

open Sys2Proof Sys2Proof.Machine Sys2Proof.Laws

/-! ### The boundary (R287) -/

/-- The HPN depends on the grid, the parameters and the variant alone. -/
theorem curHpn_congr {s t : State} (hi : t.ident = s.ident) (hp : t.par = s.par) (hg : t.grid = s.grid) : curHpn t = curHpn s := by
  unfold curHpn holdPeriod
  rw [parN_congr hi hp, hg]
theorem curHpn_of_view {s t : State} (h : view 201986048 t = view 201986048 s) : curHpn t = curHpn s :=
  curHpn_congr (same_ident h (by decide)) (whole_par h (by decide) (by decide)) (same_grid h (by decide))

/-- R287, R289: a boundary begins the round of its HPN, with no fraction. -/
theorem holdingPeriodBoundary_begins {s : State} (run : running s = true) (active : isActive s = true) (boundary : atBoundary s = true) :
    runs .holdingPeriodBoundary s fun t => t.hold.round = curHpn s ∧ t.hold.began = true ∧ t.hold.closed = false ∧
      t.hold.planClosed = false ∧ t.hold.frac = none := by
  suffices begins : runs .holdingPeriodBoundary s fun t => roundMarks t.hold = (curHpn s, true, false, false, none) by
    obtain ⟨t, outcome, marks⟩ := begins
    simp only [roundMarks, Prod.mk.injEq] at marks
    exact ⟨t, outcome, marks⟩
  refine ⟨_, (rfl : exec .holdingPeriodBoundary s = .next _), ?_⟩
  rw [if_neg (by simp [run, active, boundary])]
  extract_lets due _ started rejoined missed _ noted applied newCycle _ told head got _ begun formed placed
  have sameStarted : view 201986048 started = view 201986048 s := by simp [started, due]
  have sameNoted : view 201986048 noted = view 201986048 s := by simp [noted, rejoined, sameStarted]
  have sameApplied : view 201986048 applied = view 201986048 s := by
    simp only [applied]
    split
    · split <;> simp [sameNoted]
    · simp [sameNoted]
  have sameTold : view 201986048 told = view 201986048 s := by simp [told, sameApplied]
  have begunMarks : roundMarks begun.hold = (curHpn s, true, false, false, none) := by
    rw [← curHpn_of_view sameTold]
    rfl
  have formedMarks : roundMarks formed.hold = (curHpn s, true, false, false, none) := (formRefs_marks begun).trans begunMarks
  have marks : roundMarks placed.hold = (curHpn s, true, false, false, none) := by
    clear_value formed
    simp only [placed]
    split
    · rw [emit_hold]; exact formedMarks
    · exact formedMarks
  split
  · exact (sendSum_marks placed).trans marks
  · exact marks

/-! ### The sums (R289) -/

/-- R289: the angle source takes the first sum of a D port for the round. -/
theorem headroomSum_takes {s : State} {p : Ix} {f : RyrFrame} (drive : drives s = true) (sync : s.grid.sync = true)
    (good : f.good 0x11 32 = true)
    (agree : ∀ off ∈ [8, 16, 24], beAt f.payload (off + 4) 4 = complement 4 (beAt f.payload off 4))
    (current : beAt f.payload 0 2 = s.hold.round % 65536) (head : s.grid.head = true) (during : s.hold.closed = false)
    (first : s.hold.got.get p = none) :
    runs (.headroomSum p f) s fun t => t.hold.got.get p =
      some { nmod := beAt f.payload 2 2, dmax := beAt f.payload 4 4, u := beAt f.payload 8 4, dn := beAt f.payload 16 4,
             qc := beAt f.payload 24 4 } := by
  simp only [List.forall_mem_cons, List.not_mem_nil, false_implies, implies_true, and_true] at agree
  obtain ⟨u, dn, qc⟩ := agree
  refine ⟨_, (rfl : exec (.headroomSum p f) s = .next _), ?_⟩
  simp only [drive, sync, good, u, dn, qc, current, head, during, first, beq_self_eq_true, Bool.not_true, Bool.or_self, Bool.false_eq_true,
    ne_eq, not_true_eq_false, if_false, if_true, two_get_modify]

/-- R289: at the deadline a position that is not the angle source sends the sum of what it has. -/
theorem sumSendDeadline_sends {s : State} (drive : drives s = true) (began : s.hold.began = true) (unsent : s.hold.sent = false)
    (follows : s.grid.head = false) (sync : s.grid.sync = true) :
    runs .sumSendDeadline s fun t => t.hold.sent = true ∧
      t.sent = s.sent ++ [Out.ryran false s.grid.sel 0x11 (sumBytes s.hold.round (roundSum s))] := by
  have outcome : exec .sumSendDeadline s = .next (sendSum s) := by
    show execSumSendDeadline s = _
    rw [execSumSendDeadline, if_pos began]
  refine ⟨_, outcome, ?_⟩
  unfold sendSum
  rw [if_neg (by simp [drive, unsent, follows, sync])]
  exact ⟨rfl, rfl⟩

/-- What closing a round gives: that it is closed, its sums and its count of modules. -/
def roundTotals (h : HoldState) : Bool × (Nat × Nat × Nat) × Nat := (h.closed, h.sums, h.nmod)

theorem budgetCheck_totals (s : State) (dMax : Nat) : roundTotals (budgetCheck s dMax).hold = roundTotals s.hold := by
  obtain ⟨m, mode⟩ := budgetCheck_hold s dMax
  rw [mode]
  rfl

theorem sendFraction_totals (s : State) : roundTotals (sendFraction s).hold = roundTotals s.hold := by
  unfold sendFraction
  extract_lets
  split
  split
  extract_lets
  split
  · rw [raiseOnce_hold]; rfl
  · rfl

/-- The state in which the lead has closed the round and not yet checked the budget. -/
def roundClosed (s : State) : State :=
  { s with
    hold := { s.hold with
      closed := true, sums := ((roundSum s).u, (roundSum s).dn, (roundSum s).qc), sumsValid := true, nmod := (roundSum s).nmod },
    grid := { s.grid with dMax := (roundSum s).dmax } }

/-- What follows the check of the budget: the FRACTION goes out at once or waits for the totals, unless Hold has ended. -/
def afterClose (s : State) : State :=
  if s.hold.mode ≠ .lead then s
  else if totalsFormed s then sendFraction s
  else { s with hold := { s.hold with fracDue := true } }

theorem afterClose_totals (s : State) : roundTotals (afterClose s).hold = roundTotals s.hold := by
  unfold afterClose
  split
  · rfl
  · split
    · exact sendFraction_totals s
    · rfl

theorem exec_roundClose_eq {s : State} (drive : drives s = true) (head : s.grid.head = true) (lead : s.hold.mode = .lead)
    (during : s.hold.closed = false) (began : s.hold.began = true) :
    exec .roundClose s = .next (afterClose (budgetCheck (roundClosed s) (roundSum s).dmax)) := by
  show execRoundClose s = _
  unfold execRoundClose
  rw [if_neg (by simp [drive, head, lead, during, began])]
  rfl

/-- R290: the lead closes the round with its sums, also where Hold then ends for want of budget (R87). -/
theorem roundClose_closes {s : State} (drive : drives s = true) (head : s.grid.head = true) (lead : s.hold.mode = .lead)
    (during : s.hold.closed = false) (began : s.hold.began = true) :
    runs .roundClose s fun t => t.hold.closed = true ∧ t.hold.sums = ((roundSum s).u, (roundSum s).dn, (roundSum s).qc) ∧
      t.hold.nmod = (roundSum s).nmod := by
  have totals : roundTotals (afterClose (budgetCheck (roundClosed s) (roundSum s).dmax)).hold = roundTotals (roundClosed s).hold :=
    (afterClose_totals _).trans (budgetCheck_totals _ _)
  simp only [roundTotals, Prod.mk.injEq] at totals
  exact ⟨_, exec_roundClose_eq drive head lead during began, totals⟩

/-! ### The fraction (R291, R293, R378) -/

theorem inputEvent_keepsSent {out : List Out} {s : State} (h : out ⊆ s.sent) (n input : Nat) (lost : Bool) :
    out ⊆ (inputEvent s n input lost).sent := by
  unfold inputEvent
  split
  · exact raise_keepsSent h _ _
  · exact raise_keepsSent h _ _
theorem restartSlot_keepsSent {out : List Out} {s : State} (h : out ⊆ s.sent) (n : Nat) (v : F32) : out ⊆ (restartSlot s n v).sent := by
  unfold restartSlot
  extract_lets k started
  split
  · exact inputEvent_keepsSent (s := started) h n _ _
  · exact h

/-- The comparison of a shadow lead (R295) leaves the fraction as it was accepted, and takes back nothing that has gone out. -/
theorem compareLead_kept (s : State) (f : FracRec) :
    ((compareLead s f).hold.seen = s.hold.seen ∧ (compareLead s f).hold.frac = s.hold.frac) ∧ s.sent ⊆ (compareLead s f).sent := by
  unfold compareLead
  extract_lets _ diverged told
  split
  · exact ⟨⟨rfl, rfl⟩, List.Subset.refl _⟩
  · split
    · exact ⟨⟨rfl, rfl⟩, List.Subset.refl _⟩
    · split
      · exact ⟨⟨rfl, rfl⟩, List.Subset.refl _⟩
      · refine List.foldlRecOn (motive := fun t : State => (t.hold.seen = s.hold.seen ∧ t.hold.frac = s.hold.frac) ∧ s.sent ⊆ t.sent) _ _ ?_
          fun t kept k _ => ?_
        · have same : told.hold = diverged.hold := raise_hold _ _ _
          rw [same]
          exact ⟨⟨rfl, rfl⟩, raise_keepsSent (s := diverged) (List.Subset.refl _) _ _⟩
        · rw [restartSlot_hold]
          exact ⟨kept.1, restartSlot_keepsSent kept.2 _ _⟩

/-- R291, R378: the first FRACTION of the round goes out on both D ports; it is the round's unless the plan is closed. -/
theorem fraction_accepts {s : State} {f : RyrFrame} (p : Ix) (drive : drives s = true) (good : f.good 0x12 48 = true)
    (agree : ∀ off ∈ [8, 16], beAt f.payload (off + 4) 4 = complement 4 (beAt f.payload off 4))
    (follows : s.grid.head = false) (first : s.hold.seen = false) (current : beAt f.payload 0 2 = s.hold.round % 65536) :
    runs (.fraction p f) s fun t => t.hold.seen = true ∧ Out.ryran true .zero 0x12 f.payload ∈ t.sent ∧
      Out.ryran true .one 0x12 f.payload ∈ t.sent ∧
      (s.hold.planClosed = false → ∃ r, t.hold.frac = some r ∧ r.phi = toSigned 32 (beAt f.payload 8 4) ∧
        r.psi = toSigned 32 (beAt f.payload 16 4)) ∧
      (s.hold.planClosed = true → t.hold.frac = s.hold.frac) := by
  simp only [List.forall_mem_cons, List.not_mem_nil, false_implies, implies_true, and_true] at agree
  obtain ⟨phi, psi⟩ := agree
  refine ⟨_, (rfl : exec (.fraction p f) s = .next _), ?_⟩
  rw [if_neg (by simp [drive]), if_neg (by simp [good])]
  extract_lets b agrees rank t _ flags valid v r shadow _ accepted forwarded
  rw [if_neg (by simp [agrees, b, phi, psi]), if_neg (by simp [follows]), if_neg (by simp [first, b, current])]
  obtain ⟨⟨seen, frac⟩, sent⟩ := compareLead_kept forwarded r
  rw [seen, frac]
  have out : [Out.ryran true .zero 0x12 b, .ryran true .one 0x12 b] ⊆ forwarded.sent := List.subset_append_right _ _
  refine ⟨rfl, sent (out (by simp [b])), sent (out (by simp [b])), fun waits => ⟨r, ?_, rfl, rfl⟩, fun closed => ?_⟩
  · exact if_neg (by simp [waits])
  · exact if_pos closed

/-- R293: with no fraction for FRACTION_HOLD the ramp begins, with EV 103. -/
theorem fractionHoldExpiry_ramps {s : State} (run : running s = true) (active : isActive s = true) (on : s.hold.mode ≠ .off)
    (level : s.hold.fracRamp = false) (held : s.hold.fracHold = true) (expired : passed s s.hold.fracUp (ms (parN s 0x0A25)) = true) :
    runs .fractionHoldExpiry s fun t => t.hold.fracRamp = true ∧ newest t 103 = some (u8 2 ++ u16 s.hold.fracHpn) := by
  refine ⟨_, (rfl : exec .fractionHoldExpiry s = .next _), ?_⟩
  rw [if_pos (by simp [run, active, on, level, held, expired])]
  exact ⟨congrArg HoldState.fracRamp (raise_hold _ 103 _), raise_newest _ 103 _⟩

/-- R291, R378: the plan of the next basic cycle is closed. -/
theorem planClose_closes {s : State} (run : running s = true) (active : isActive s = true) (began : s.hold.began = true) :
    runs .planClose s fun t => t.hold.planClosed = true := by
  refine ⟨_, (rfl : exec .planClose s = .next _), ?_⟩
  rw [if_pos (by simp [run, active, began])]

/-- Settles O15: one theorem above for each command, in their order. -/
theorem roundCommandsTakeEffect : Obligations.RoundCommandsTakeEffect := by
  refine ⟨?boundary, ?sum, ?deadline, ?close, ?fraction, ?expiry, ?plan⟩
  case boundary => intro s; exact holdingPeriodBoundary_begins
  case sum => intro s p f; exact headroomSum_takes
  case deadline => intro s; exact sumSendDeadline_sends
  case close => intro s; exact roundClose_closes
  case fraction => intro s p f; exact fraction_accepts p
  case expiry => intro s; exact fractionHoldExpiry_ramps
  case plan => intro s; exact planClose_closes

end Sys2Proof.Proofs

/-! PROOFS. HOLD_SET and the movement of the lead (R283, R300): one theorem per command, and O16 from these. -/

namespace Sys2Proof.Proofs

open Sys2Proof Sys2Proof.Machine Sys2Proof.Laws

/-- R283: a HOLD_SET waits for its holding-period boundary, whose stamp is the answer. -/
theorem holdSet_waits {s : State} {h : Hdr} (p q : F32) (c : Nat) (ready : hostReady s h = true) (only : alone s h = true)
    (ranked : ownRank s ≠ 0) :
    runs (.holdSet h p q c) s fun t => answered t h 0x0060 .ok 0 0 (ustamp (stampOf (holdSetBoundary s c))) ∧
      t.hold.sets = s.hold.sets ++ [(holdSetBoundary s c, p, q)] := by
  refine ⟨_, (rfl : exec (.holdSet h p q c) s = .next _), ?_⟩
  rw [if_neg (by simp [ready]), if_neg ranked]
  exact ⟨respondOk_answered _ h _ _ (hostReady_portUp ready) only, congrArg HoldState.sets (respondOk_hold _ h _ _)⟩

/-- R300: a LEAD_MOVE in order waits for its cycle. -/
theorem leadMove_waits {s : State} {h : Hdr} {x c : Nat} (ready : hostReady s h = true) (only : alone s h = true) (named : x ≠ 0xFFFF)
    (ranked : rankOf s x ≠ 0) (ahead : curCycle s + 8 ≤ c) (place : s.grid.head = true ∨ x = treePosition s) (sync : s.grid.sync = true) :
    runs (.leadMove h x c) s fun t => answered t h 0x0061 .ok 0 0 [] ∧ t.grid.move = some { target := x, cycle := c } := by
  have concerned : ¬ (s.grid.head = false ∧ x ≠ treePosition s) := by
    rintro ⟨follows, other⟩
    rcases place with head | own
    · simp [follows] at head
    · exact other own
  refine ⟨_, (rfl : exec (.leadMove h x c) s = .next _), ?_⟩
  rw [if_neg (by simp [ready]), if_neg (not_or.mpr ⟨named, ranked⟩), if_neg (not_lt.mpr ahead), if_neg concerned, if_neg (by simp [sync])]
  exact ⟨respondOk_answered _ h _ _ (hostReady_portUp ready) only, congrArg GridState.move (respondOk_grid _ h _ _)⟩

theorem leaveHead_move (s : State) (cause : Nat) : (leaveHead s cause).grid.move = s.grid.move := by
  unfold leaveHead
  split
  · rfl
  · dsimp only
    split
    · split
      · rw [raise_grid, loseSync_grid, setHold_grid]; rfl
      · rw [setHold_grid]
    · rw [setHold_grid]

theorem becomeHead_move (s : State) (cause : Nat) : (becomeHead s cause).grid.move = s.grid.move := by
  unfold becomeHead
  split
  · rfl
  · dsimp only
    rw [apply_ite State.grid, setHold_grid, ite_self, budgetCheck_grid]

/-- A position is angle source after it became one, whether or not it was one before. -/
theorem becomeHead_head (s : State) (cause : Nat) : (becomeHead s cause).grid.head = true := by
  by_cases follows : s.grid.head = false
  · exact (becomeHead_grid follows cause).1
  · have head : s.grid.head = true := by simpa using follows
    rwa [becomeHead, if_pos head]

/-- The module without the LEAD_MOVE that waits. -/
def withoutMove (s : State) : State := { s with grid := { s.grid with move := none } }

/-- R300: once its cycle has come, the LEAD_MOVE that waits makes its target angle source, where it can be, and any other position none. -/
theorem exec_leadMoveExecute_eq {s : State} {m : MoveReq} (run : running s = true) (waits : s.grid.move = some m)
    (come : m.cycle * 128 ≤ s.grid.now) :
    exec .leadMoveExecute s = .next (
      if m.target = treePosition s then (if drives s && s.grid.sync then becomeHead (withoutMove s) 5 else withoutMove s)
      else leaveHead (withoutMove s) 5) := by
  show execLeadMoveExecute s = _
  unfold execLeadMoveExecute
  simp only [waits]
  rw [if_neg (by simp [run, come])]
  rfl

/-- R300: a position other than the target is no longer angle source. -/
theorem leadMoveExecute_leaves {s : State} {m : MoveReq} (run : running s = true) (waits : s.grid.move = some m)
    (come : m.cycle * 128 ≤ s.grid.now) (other : m.target ≠ treePosition s) :
    runs .leadMoveExecute s fun t => t.grid.head = false ∧ t.grid.move = none := by
  refine ⟨_, exec_leadMoveExecute_eq run waits come, ?_⟩
  rw [if_neg other]
  exact ⟨leaveHead_head _ 5, leaveHead_move _ 5⟩

/-- R300: the target, synchronised, is angle source. -/
theorem leadMoveExecute_heads {s : State} {m : MoveReq} (run : running s = true) (waits : s.grid.move = some m)
    (come : m.cycle * 128 ≤ s.grid.now) (own : m.target = treePosition s) (drive : drives s = true) (sync : s.grid.sync = true) :
    runs .leadMoveExecute s fun t => t.grid.head = true ∧ t.grid.move = none := by
  refine ⟨_, exec_leadMoveExecute_eq run waits come, ?_⟩
  rw [if_pos own, if_pos (by simp [drive, sync])]
  exact ⟨becomeHead_head _ 5, becomeHead_move _ 5⟩

/-- Settles O16: one theorem above for each clause, in the order of the commands. -/
theorem leadCommandsTakeEffect : Obligations.LeadCommandsTakeEffect := by
  refine ⟨?set, ?move, ?leaves, ?heads⟩
  case set => intro s h p q c; exact holdSet_waits p q c
  case move => intro s h x c; exact leadMove_waits
  case leaves => intro s m; exact leadMoveExecute_leaves
  case heads => intro s m; exact leadMoveExecute_heads

end Sys2Proof.Proofs

/-! PROOFS. The protection of a string: what stands of it whatever its coils are driven to and its STATE reads, the requests and hold bits of
its coils, and when none of its switches conducts (R306, R318, R330). -/

namespace Sys2Proof.Proofs

open Sys2Proof Sys2Proof.Machine Sys2Proof.Laws

/-! ### Parts of the state that the operations of the outrider leave -/

theorem settleString_outr (s : State) (x : Ix) : (settleString s x).outr = s.outr := same_outr (m := 8192) (by simp) (by decide)
theorem settleCoils_outr (s : State) : (settleCoils s).outr = s.outr := same_outr (m := 8192) (by simp) (by decide)
theorem dropHoldBits_outr (s : State) (x : Ix) : (dropHoldBits s x).outr = s.outr := same_outr (m := 8192) (by simp) (by decide)
theorem openToWeld_outr (s : State) (x : Ix) : (openToWeld s x).outr = s.outr := same_outr (m := 8192) (by simp) (by decide)
theorem abortClose_outr (s : State) (x : Ix) (cause : Nat) : (abortClose s x cause).outr = s.outr :=
  same_outr (m := 270336) (by simp) (by decide)
theorem abortClose_hold (s : State) (x : Ix) (cause : Nat) : (abortClose s x cause).hold = s.hold :=
  same_hold (m := 270336) (by simp) (by decide)
theorem raiseOrDefer_outr (s : State) (e : Nat) (d : List Byte) : (raiseOrDefer s e d).outr = s.outr :=
  same_outr (m := 201981952) (by simp) (by decide)
theorem ownState_hold (s : State) (x : Ix) (st : StrState) (cause : Nat) : (ownState s x st cause).hold = s.hold :=
  same_hold (m := 201990144) (by simp) (by decide)

/-! ### What stands of a string's protection -/

/-- A string's protection without its coils and their link, its STATE and when that last came to CLOSED: the latches, the causes, the
inhibits and the sequences. -/
def standing (p : ProtState) : ProtState :=
  { p with kPos := {}, kNeg := {}, pre := {}, linkBroken := true, st := .opened, closedUp := 0 }

/-- What stands of a string's protection in a state. -/
def stands (s : State) (x : Ix) : ProtState := standing (s.prot.get x)

theorem stands_of_prot {s t : State} (e : t.prot = s.prot) (x : Ix) : stands t x = stands s x := by unfold stands; rw [e]

theorem stands_modProt (s : State) (x : Ix) (f : ProtState → ProtState) : stands (modProt s x f) x = standing (f (s.prot.get x)) := by
  unfold stands
  rw [modProt_prot, two_get_modify]

/-- A change of a string's coils, link or STATE leaves what stands of either string. -/
theorem stands_modProt_kept {s : State} {x : Ix} {f : ProtState → ProtState} (keeps : ∀ p, standing (f p) = standing p) (y : Ix) :
    stands (modProt s x f) y = stands s y := by
  by_cases own : y = x
  · subst own
    rw [stands_modProt, keeps]
    rfl
  · unfold stands
    rw [modProt_other _ _ _ own]

@[simp] theorem raise_stands (s : State) (e : Nat) (d : List Byte) (x : Ix) : stands (raise s e d) x = stands s x :=
  stands_of_prot (raise_prot s e d) x

@[simp] theorem settleString_stands (s : State) (x y : Ix) : stands (settleString s x) y = stands s y := by
  unfold settleString
  extract_lets driven t
  rw [stands_modProt_kept (fun p => by rfl)]
  simp only [t]
  split
  · rw [stands_modProt_kept (fun p => by rfl)]
  · rfl

@[simp] theorem settleCoils_stands (s : State) (y : Ix) : stands (settleCoils s) y = stands s y := by
  unfold settleCoils
  rw [settleString_stands, settleString_stands]

@[simp] theorem setReq_stands (s : State) (x : Ix) (c : Coil) (hs ls : Bool) (y : Ix) : stands (setReq s x c hs ls) y = stands s y := by
  unfold setReq
  rw [settleString_stands, stands_modProt_kept (fun p => by cases c <;> rfl)]

@[simp] theorem dropReqs_stands (s : State) (x y : Ix) : stands (dropReqs s x) y = stands s y := by
  unfold dropReqs
  rw [settleString_stands, stands_modProt_kept (fun p => by rfl)]

@[simp] theorem dropHoldBits_stands (s : State) (x y : Ix) : stands (dropHoldBits s x) y = stands s y := by
  unfold dropHoldBits
  rw [settleString_stands, stands_modProt_kept (fun p => by rfl)]

@[simp] theorem ownState_stands (s : State) (x : Ix) (st : StrState) (cause : Nat) (y : Ix) : stands (ownState s x st cause) y = stands s y := by
  unfold ownState setStrState
  split
  · dsimp only
    split
    · rfl
    · rw [stands_of_prot (raiseOrDefer_prot _ _ _), stands_modProt_kept (fun p => by rfl)]
  · rfl

@[simp] theorem stands_ite (c : Prop) [Decidable c] (s t : State) (x : Ix) :
    stands (if c then s else t) x = if c then stands s x else stands t x := apply_ite (stands · x) c s t

/-- An aborted close sequence is gone (R324). -/
@[simp] theorem abortClose_stands (s : State) (x : Ix) (cause : Nat) : stands (abortClose s x cause) x = { stands s x with close := none } := by
  unfold abortClose
  split
  next waits => simp only [stands, standing, ← waits]
  next q waits =>
    show stands (dropReqs _ x) x = _
    rw [dropReqs_stands, stands_modProt]
    rfl

/-- An orderly open in progress has become a weld check that is due (R322). -/
@[simp] theorem openToWeld_stands (s : State) (x : Ix) : stands (openToWeld s x) x = { stands s x with
    openSeq := none, weldLow := false, weldUp := s.elec.uptime
    weldFor := some ((stands s x).weldFor.getD [] ++ ((stands s x).openSeq.map (·.ids)).getD []) } := by
  unfold openToWeld weldDue
  rw [stands_modProt, modProt_prot, two_get_modify]
  rfl

/-! ### STATE -/

/-- A change of STATE on the owner of the line takes effect. -/
theorem ownState_st {s : State} (owner : s.outr.owner = true) (x : Ix) (st : StrState) (cause : Nat) :
    ((ownState s x st cause).prot.get x).st = st := by
  unfold ownState setStrState
  rw [if_pos owner]
  dsimp only
  split
  next same => exact same
  · rw [raiseOrDefer_prot, modProt_prot, two_get_modify]

theorem ownState_coil (s : State) (x : Ix) (st : StrState) (cause : Nat) (c : Coil) :
    ((ownState s x st cause).prot.get x).coil c = (s.prot.get x).coil c := by
  unfold ownState setStrState
  split
  · dsimp only
    split
    · rfl
    · rw [raiseOrDefer_prot, modProt_prot, two_get_modify]
      cases c <;> rfl
  · rfl

/-! ### The coils (R318, R330) -/

/-- One coil after a change of drive. -/
def settledCoil (s : State) (x : Ix) (c : Coil) (k : CoilState) : CoilState :=
  if s.outr.owner || s.outr.overlap then
    { k with
      a := (expectNodes (hsOn s x c) (lsOn s x c)).1, b := (expectNodes (hsOn s x c) (lsOn s x c)).2,
      energised := k.energised && hsOn s x c && lsOn s x c,
      holdBit := if s.outr.owner && !fromHoldBits s then hsOn s x c && lsOn s x c else k.holdBit }
  else k

theorem settleString_coil (s : State) (x : Ix) (c : Coil) :
    ((settleString s x).prot.get x).coil c = settledCoil s x c ((s.prot.get x).coil c) := by
  unfold settleString settledCoil
  extract_lets driven t
  rw [modProt_prot, two_get_modify]
  simp only [t]
  split
  · rw [modProt_prot, two_get_modify]
    cases c <;> rfl
  · cases c <;> rfl

theorem settleString_reqHs (s : State) (x : Ix) (c : Coil) :
    (((settleString s x).prot.get x).coil c).reqHs = ((s.prot.get x).coil c).reqHs := by
  rw [settleString_coil]; unfold settledCoil; split <;> rfl
theorem settleString_reqLs (s : State) (x : Ix) (c : Coil) :
    (((settleString s x).prot.get x).coil c).reqLs = ((s.prot.get x).coil c).reqLs := by
  rw [settleString_coil]; unfold settledCoil; split <;> rfl

/-- On an owner in no hold the hold bit follows the coil's own drive, and elsewhere stays. -/
theorem settleString_holdBit (s : State) (x : Ix) (c : Coil) : (((settleString s x).prot.get x).coil c).holdBit =
    if s.outr.owner && !fromHoldBits s then hsOn s x c && lsOn s x c else ((s.prot.get x).coil c).holdBit := by
  rw [settleString_coil]
  unfold settledCoil
  split
  · rfl
  next off => rw [if_neg (by simp only [Bool.or_eq_true, not_or] at off; simp [off.1])]

theorem coil_modCoil (p : ProtState) (c : Coil) (f : CoilState → CoilState) : (p.modCoil c f).coil c = f (p.coil c) := by cases c <;> rfl
theorem coil_allCoils (p : ProtState) (c : Coil) (f : CoilState → CoilState) : (p.allCoils f).coil c = f (p.coil c) := by cases c <;> rfl

/-- The processor asks for neither switch of any coil of the string. -/
def unrequested (s : State) (x : Ix) : Prop := ∀ c, ((s.prot.get x).coil c).reqHs = false ∧ ((s.prot.get x).coil c).reqLs = false
/-- No coil of the string has its hold bit. -/
def unheld (s : State) (x : Ix) : Prop := ∀ c, ((s.prot.get x).coil c).holdBit = false

theorem dropReqs_unrequested (s : State) (x : Ix) : unrequested (dropReqs s x) x := by
  intro c
  unfold dropReqs
  rw [settleString_reqHs, settleString_reqLs, modProt_prot, two_get_modify, coil_allCoils]
  exact ⟨rfl, rfl⟩

theorem dropHoldBits_unrequested {s : State} {x : Ix} (h : unrequested s x) : unrequested (dropHoldBits s x) x := by
  intro c
  unfold dropHoldBits
  rw [settleString_reqHs, settleString_reqLs, modProt_prot, two_get_modify, coil_allCoils]
  exact h c

/-- With no request and no hold bit of its coil a high-side switch does not conduct. -/
theorem hsOn_false {s : State} {x : Ix} {c : Coil} (req : ((s.prot.get x).coil c).reqHs = false)
    (held : ((s.prot.get x).coil c).holdBit = false) : hsOn s x c = false := by
  unfold hsOn; simp [req, held]
theorem lsOn_false {s : State} {x : Ix} {c : Coil} (req : ((s.prot.get x).coil c).reqLs = false)
    (held : ((s.prot.get x).coil c).holdBit = false) : lsOn s x c = false := by
  unfold lsOn; simp [req, held]

theorem noSwitchConducts_iff (s : State) (x : Ix) : noSwitchConducts s x = true ↔ ∀ c, hsOn s x c = false ∧ lsOn s x c = false := by
  constructor
  · intro h c
    simp only [noSwitchConducts, coils, List.all_cons, List.all_nil, Bool.and_true, Bool.and_eq_true, Bool.not_eq_true'] at h
    obtain ⟨kPos, kNeg, pre⟩ := h
    cases c with
    | kPos => exact kPos
    | kNeg => exact kNeg
    | pre => exact pre
  · intro h
    simp [noSwitchConducts, h]

/-- R312, R330: a latch of the outrider keeps every switch off. -/
theorem noSwitchConducts_of_latched {s : State} {x : Ix} (latched : outrLatched (stands s x) = true) : noSwitchConducts s x = true := by
  replace latched : outrLatched (s.prot.get x) = true := latched
  refine (noSwitchConducts_iff s x).mpr fun c => ?_
  simp [hsOn, lsOn, latched]

/-- R8, R37: the coils of a string that is not the module's conduct in no state. -/
theorem noSwitchConducts_of_unfitted {s : State} {x : Ix} (unfitted : coilsFitted s x = false) : noSwitchConducts s x = true := by
  refine (noSwitchConducts_iff s x).mpr fun c => ?_
  simp [hsOn, lsOn, unfitted]

/-- While the outrider drives from the hold bits, no switch of a coil without one conducts. -/
theorem noSwitchConducts_of_unheld {s : State} {x : Ix} (driven : fromHoldBits s = true) (holds : unheld s x) :
    noSwitchConducts s x = true := by
  refine (noSwitchConducts_iff s x).mpr fun c => ?_
  simp [hsOn, lsOn, driven, holds c]

theorem settleString_unheld {s : State} {x : Ix} (requests : unrequested s x) (holds : unheld s x) : unheld (settleString s x) x := by
  intro c
  rw [settleString_holdBit, hsOn_false (requests c).1 (holds c), holds c, Bool.false_and, ite_self]

/-- Requests withdrawn, then hold bits cleared: the coils are idle. -/
theorem dropHoldBits_unheld {s : State} {x : Ix} (requests : unrequested s x) : unheld (dropHoldBits s x) x := by
  unfold dropHoldBits
  refine settleString_unheld (fun c => ?_) fun c => ?_
  · rw [modProt_prot, two_get_modify, coil_allCoils]
    exact requests c
  · rw [modProt_prot, two_get_modify, coil_allCoils]

theorem dropReqs_unheld {s : State} {x : Ix} (holds : unheld s x) : unheld (dropReqs s x) x := by
  unfold dropReqs
  refine settleString_unheld (fun c => ?_) fun c => ?_
  · rw [modProt_prot, two_get_modify, coil_allCoils]
    exact ⟨rfl, rfl⟩
  · rw [modProt_prot, two_get_modify, coil_allCoils]
    exact holds c

theorem fromHoldBits_of_outr {s t : State} (e : t.outr = s.outr) : fromHoldBits t = fromHoldBits s := by unfold fromHoldBits; rw [e]

/-- While the outrider drives from the hold bits, those that are cleared stay cleared. -/
theorem dropHoldBits_unheld_of_driven {s : State} (x : Ix) (driven : fromHoldBits s = true) : unheld (dropHoldBits s x) x := by
  intro c
  unfold dropHoldBits
  rw [settleString_holdBit, fromHoldBits_of_outr (modProt_outr s x _), driven, modProt_prot, two_get_modify, coil_allCoils]
  simp

/-- Outside the hold bits no switch that is not requested conducts. -/
theorem hsOn_false_of_free {s : State} {x : Ix} {c : Coil} (free : fromHoldBits s = false)
    (req : ((s.prot.get x).coil c).reqHs = false) : hsOn s x c = false := by
  unfold hsOn; simp [free, req]

/-- Hold bits cleared, then requests withdrawn: on an owner in no hold the bits follow the requests, elsewhere they stay cleared. -/
theorem dropReqs_dropHoldBits_unheld (s : State) (x : Ix) : unheld (dropReqs (dropHoldBits s x) x) x := by
  intro c
  have cleared : ¬ (s.outr.owner && !fromHoldBits s) = true → (((dropHoldBits s x).prot.get x).coil c).holdBit = false := by
    intro kept
    unfold dropHoldBits
    rw [settleString_holdBit, modProt_outr, fromHoldBits_of_outr (modProt_outr s x _), if_neg kept, modProt_prot, two_get_modify,
      coil_allCoils]
  have sameOutr : (modProt (dropHoldBits s x) x fun p => p.allCoils fun k => { k with reqHs := false, reqLs := false }).outr = s.outr :=
    dropHoldBits_outr s x
  unfold dropReqs
  rw [settleString_holdBit, sameOutr, fromHoldBits_of_outr sameOutr]
  split
  next follows =>
    have free : fromHoldBits s = false := by simp at follows; exact follows.2
    rw [hsOn_false_of_free ((fromHoldBits_of_outr sameOutr).trans free) (by rw [modProt_prot, two_get_modify, coil_allCoils]),
      Bool.false_and]
  next kept =>
    rw [modProt_prot, two_get_modify, coil_allCoils]
    exact cleared kept

/-! ### Idle coils -/

/-- The coils of the string are neither requested nor held. -/
def idle (s : State) (x : Ix) : Prop := unrequested s x ∧ unheld s x

theorem noSwitchConducts_of_idle {s : State} {x : Ix} (h : idle s x) : noSwitchConducts s x = true :=
  (noSwitchConducts_iff s x).mpr fun c => ⟨hsOn_false (h.1 c).1 (h.2 c), lsOn_false (h.1 c).2 (h.2 c)⟩

theorem idle_of_coils {s t : State} {x : Ix} (e : ∀ c, (t.prot.get x).coil c = (s.prot.get x).coil c) (h : idle s x) : idle t x :=
  ⟨fun c => by rw [e c]; exact h.1 c, fun c => by rw [e c]; exact h.2 c⟩

theorem idle_of_prot {s t : State} {x : Ix} (e : t.prot = s.prot) (h : idle s x) : idle t x := idle_of_coils (fun c => by rw [e]) h

theorem dropHoldBits_dropReqs_idle (s : State) (x : Ix) : idle (dropHoldBits (dropReqs s x) x) x :=
  ⟨dropHoldBits_unrequested (dropReqs_unrequested s x), dropHoldBits_unheld (dropReqs_unrequested s x)⟩

theorem dropReqs_dropHoldBits_idle (s : State) (x : Ix) : idle (dropReqs (dropHoldBits s x) x) x :=
  ⟨dropReqs_unrequested _ x, dropReqs_dropHoldBits_unheld s x⟩

theorem ownState_idle {s : State} {x : Ix} (st : StrState) (cause : Nat) (h : idle s x) : idle (ownState s x st cause) x :=
  idle_of_coils (ownState_coil s x st cause) h

theorem abortClose_idle {s : State} {x : Ix} (cause : Nat) (h : idle s x) : idle (abortClose s x cause) x := by
  unfold abortClose
  split
  · exact h
  · have ended : idle (modProt s x fun p => { p with close := none }) x :=
      idle_of_coils (fun c => by rw [modProt_prot, two_get_modify]; cases c <;> rfl) h
    exact idle_of_prot (endLong_prot _ _ _ _ _) ⟨dropReqs_unrequested _ x, dropReqs_unheld ended.2⟩

end Sys2Proof.Proofs

/-! PROOFS. What the commands about one string leave of the other string's protection (R37, R306): everything. One theorem per command, from what
each operation leaves (Laws/Locality), and O42 from these. -/

namespace Sys2Proof.Proofs

open Sys2Proof Sys2Proof.Machine Sys2Proof.Laws

/-- Whatever the state, the command leaves the protection of the string other than `x` as it was. -/
def LeavesOtherString (c : Instr) (x : Ix) : Prop := ∀ (y : Ix) (s t : State), exec c s = .next t → y ≠ x → t.prot.get y = s.prot.get y

theorem leavesOtherString_of {c : Instr} {x : Ix} {f : State → State} (runs : ∀ s, exec c s = .next (f s))
    (keeps : ∀ s y, y ≠ x → (f s).prot.get y = s.prot.get y) : LeavesOtherString c x := by
  intro y s t h other
  rw [runs s] at h
  cases h
  exact keeps s y other

theorem proofResult_other (s : State) (x : Ix) (failed : Option Nat) {y : Ix} (other : y ≠ x) :
    (proofResult s x failed).1.prot.get y = s.prot.get y := by
  unfold proofResult
  dsimp only
  split <;> simp [other]

theorem reportLatch_other (s : State) (x : Ix) (k : Nat) {y : Ix} (other : y ≠ x) : (reportLatch s x k).prot.get y = s.prot.get y := by
  unfold reportLatch
  dsimp only
  split
  · rfl
  · split
    · split <;> simp [other]
    · simp

section Trips

variable (x : Ix)

theorem comparatorTrip_leavesOtherString (c : Comparator) : LeavesOtherString (.comparatorTrip x c) x :=
  leavesOtherString_of (fun _ => rfl) fun s y other => by
    split
    · rfl
    · dsimp only
      split <;> simp [other]
theorem comparatorRelease_leavesOtherString (c : Comparator) : LeavesOtherString (.comparatorRelease x c) x :=
  leavesOtherString_of (fun _ => rfl) fun s y other => by
    split
    · rfl
    · exact modProt_other s x _ other
theorem faultLoopOpen_leavesOtherString : LeavesOtherString (.faultLoopOpen x) x :=
  leavesOtherString_of (fun _ => rfl) fun s y other => by
    have live := modProt_other s x (fun p => { p with loopLive := true }) other
    have latched (f : ProtState → ProtState) (c : Prop) [Decidable c] :
        (if c then modProt s x (fun p => { p with loopLive := true })
          else outrTripString (modProt s x fun p => { p with loopLive := true }) x f).prot.get y = s.prot.get y :=
      ite_prot_other live ((outrTripString_other _ x f other).trans live)
    refine ite_prot_other rfl (ite_prot_other (latched _ _) ?_)
    rw [raise_prot, modCar_prot]
    exact latched _ _
theorem faultLoopClose_leavesOtherString : LeavesOtherString (.faultLoopClose x) x :=
  leavesOtherString_of (fun _ => rfl) fun s y other => by
    split
    · rfl
    · dsimp only
      split <;> simp [other]
theorem tickSum_leavesOtherString (e : Bool) (f : CarFrame) : LeavesOtherString (.tickSum x e f) x :=
  leavesOtherString_of (fun _ => rfl) fun s y other => by
    have discarded : (discardCar s x).prot = s.prot := same_prot (m := 201981984) (by simp) (by decide)
    split
    · rfl
    · split
      · rw [discarded]
      · dsimp only
        split
        · rfl
        · split
          · rfl
          · split
            · simp [other]
            · split
              · split <;> simp [other]
              · simp
theorem outriderTripReport_leavesOtherString : LeavesOtherString (.outriderTripReport x) x :=
  leavesOtherString_of (fun _ => rfl) fun s y other => by
    split
    · rfl
    · dsimp only
      rw [modProt_other _ _ _ other, foldl_prot_other _ (fun s k => reportLatch_other s x k other), modProt_other _ _ _ other]
theorem blindString_leavesOtherString : LeavesOtherString (.blindString x) x :=
  leavesOtherString_of (fun _ => rfl) fun s y other => by
    split
    · rfl
    · split
      · exact procTrip_other s x 9 _ 0 0 other
      · rfl

end Trips

section Coils

variable (x : Ix)

theorem comparatorProof_leavesOtherString (f : Option Nat) : LeavesOtherString (.comparatorProof x f) x :=
  leavesOtherString_of (fun _ => rfl) fun s y other => by
    have proved := proofResult_other s x f other
    split
    · rfl
    · split
      · rfl
      · dsimp only
        split
        · exact (abortClose_other _ x 6 other).trans proved
        · exact ((setReq_other _ x .kNeg true true other).trans (modProt_other _ x _ other)).trans proved
theorem testOverdue_leavesOtherString (c : Coil) (hs : Bool) : LeavesOtherString (.testOverdue x c hs) x :=
  leavesOtherString_of (fun _ => rfl) fun s y other => by
    refine ite_prot_other rfl ?_
    rw [beginOpen_other _ _ _ other, raise_prot]
theorem contactorDropout_leavesOtherString (c : Coil) (r : CoilRead) : LeavesOtherString (.contactorDropout x c r) x :=
  leavesOtherString_of (fun _ => rfl) fun s y other => by
    refine ite_prot_other rfl ?_
    rw [procTrip_other _ _ _ _ _ _ other]
    exact ite_prot_other rfl (coilFinding_other s x c _ false r other)
theorem holdDrop_leavesOtherString : LeavesOtherString (.holdDrop x) x :=
  leavesOtherString_of (fun _ => rfl) fun s _ other => ite_prot_other (dropHoldBits_other s x other) rfl

end Coils

section Sequences

variable (x : Ix)

theorem weldCheck_leavesOtherString : LeavesOtherString (.weldCheck x) x :=
  leavesOtherString_of (fun _ => rfl) fun s y other => by
    dsimp only
    split
    · rfl
    · split
      · rfl
      · rw [foldl_prot_other _ (fun s id => by rw [endLong_prot]), raiseIf_prot, modProt_other _ _ _ other]
theorem kNegSettled_leavesOtherString (r : CoilRead) : LeavesOtherString (.kNegSettled x r) x :=
  leavesOtherString_of (fun _ => rfl) fun s y other => by
    split
    · rfl
    · split
      · rfl
      · split
        · exact closeFails_other s x .kNeg r other
        · dsimp only
          rw [ownState_other _ _ _ _ other, setReq_other _ _ _ _ _ other, modProt_other _ _ _ other]
theorem prechargeReached_leavesOtherString : LeavesOtherString (.prechargeReached x) x :=
  leavesOtherString_of (fun _ => rfl) fun s y other => by
    split
    · rfl
    · dsimp only
      split
      · rfl
      · rw [setReq_other _ _ _ _ _ other, modProt_other _ _ _ other]
theorem prechargeFail_leavesOtherString : LeavesOtherString (.prechargeFail x) x :=
  leavesOtherString_of (fun _ => rfl) fun s y other => by
    split
    · rfl
    · split
      · rfl
      · dsimp only
        rw [ownState_other _ _ _ _ other, abortClose_other _ _ _ other, raise_prot]
theorem kPosSettled_leavesOtherString (r : CoilRead) : LeavesOtherString (.kPosSettled x r) x :=
  leavesOtherString_of (fun _ => rfl) fun s y other => by
    split
    · rfl
    · split
      · rfl
      · split
        · exact closeFails_other s x .kPos r other
        · dsimp only
          rw [endLong_prot, ownState_other _ _ _ _ other, setReq_other _ _ _ _ _ other, modProt_other _ _ _ other]

end Sequences

section Answered

variable (h : Hdr) (n : Nat)

theorem stringOpen_leavesOtherString : LeavesOtherString (.stringOpen h n) (Ix.ofNum n) :=
  leavesOtherString_of (fun _ => rfl) fun s y other => by
    split
    · rfl
    · split
      · rw [respond_prot]
      · split
        · rw [respond_prot]
        · rw [beginOpen_other _ _ _ other, acceptLong_prot]
theorem stringClose_leavesOtherString : LeavesOtherString (.stringClose h n) (Ix.ofNum n) :=
  leavesOtherString_of (fun _ => rfl) fun s y other => by
    split
    · rfl
    · dsimp only
      split
      · rw [respond_prot]
      · rw [modProt_other _ _ _ other, acceptLong_prot]
theorem protReset_leavesOtherString (p : Option Nat) : LeavesOtherString (.protReset h n p) (Ix.ofNum n) :=
  leavesOtherString_of (fun _ => rfl) fun s y other => by
    split
    · rfl
    · split
      · rw [respond_prot]
      · dsimp only
        rw [respondOk_prot, settleString_other _ _ other]
        refine ite_prot_other ((ownState_other _ _ _ _ other).trans ?_) ?_
        all_goals
          rw [raise_prot, modProt_other _ _ _ other, modProt_other _ _ _ other]
          exact ite_prot_other (proofResult_other s _ p other) rfl

end Answered

/-- Settles O42: one theorem above for each command, in their order. -/
theorem stringCommandsLeaveTheOtherString : Obligations.StringCommandsLeaveTheOtherString := by
  unfold Obligations.StringCommandsLeaveTheOtherString
  refine ⟨?trip, ?release, ?loopOpen, ?loopClose, ?sum, ?report, ?blind, ?proof, ?overdue, ?dropout, ?weld, ?kNeg, ?reached, ?fail, ?kPos,
    ?drop, ?opening, ?closing, ?reset⟩
  case trip => exact fun x y c => comparatorTrip_leavesOtherString x c y
  case release => exact fun x y c => comparatorRelease_leavesOtherString x c y
  case loopOpen => exact fun x y => faultLoopOpen_leavesOtherString x y
  case loopClose => exact fun x y => faultLoopClose_leavesOtherString x y
  case sum => exact fun x y e f => tickSum_leavesOtherString x e f y
  case report => exact fun x y => outriderTripReport_leavesOtherString x y
  case blind => exact fun x y => blindString_leavesOtherString x y
  case proof => exact fun x y f => comparatorProof_leavesOtherString x f y
  case overdue => exact fun x y c hs => testOverdue_leavesOtherString x c hs y
  case dropout => exact fun x y c r => contactorDropout_leavesOtherString x c r y
  case weld => exact fun x y => weldCheck_leavesOtherString x y
  case kNeg => exact fun x y r => kNegSettled_leavesOtherString x r y
  case reached => exact fun x y => prechargeReached_leavesOtherString x y
  case fail => exact fun x y => prechargeFail_leavesOtherString x y
  case kPos => exact fun x y r => kPosSettled_leavesOtherString x r y
  case drop => exact fun x y => holdDrop_leavesOtherString x y
  case opening => exact fun h n y => stringOpen_leavesOtherString h n y
  case closing => exact fun h n y => stringClose_leavesOtherString h n y
  case reset => exact fun h n p y => protReset_leavesOtherString h n p y

end Sys2Proof.Proofs

/-! PROOFS. Trips of a string (R306, R307, R312, R315, R501): what a trip of the outrider and one of the processor path leave of the string, then
one theorem per command, and O54 and O17 from these. -/

namespace Sys2Proof.Proofs

open Sys2Proof Sys2Proof.Machine Sys2Proof.Laws

/-! ### What a trip does -/

/-- A string whose weld check falls due, no orderly open waiting (R322). -/
def weldAwaited (p : ProtState) (up : Nat) : ProtState :=
  { p with openSeq := none, weldLow := false, weldUp := up, weldFor := some (p.weldFor.getD [] ++ (p.openSeq.map (·.ids)).getD []) }

/-- What a latch of the outrider does to its string, whichever latch it is: the weld check falls due, the coils are off, and while the firmware
runs the close sequence ends (R306, R330). -/
def latchedOff (s : State) (x : Ix) (latch : ProtState → ProtState) : State :=
  let s := dropHoldBits (openToWeld (modProt s x latch) x) x
  ownState (if s.elec.fw then abortClose (dropReqs s x) x 1 else s) x .tripped 2

theorem outrTripString_eq (s : State) (x : Ix) (f : ProtState → ProtState) :
    outrTripString s x f = latchedOff s x fun p => { f p with outrTrip := true } := rfl

theorem latchedOff_stands (s : State) (x : Ix) (latch : ProtState → ProtState) : ∃ q, stands (latchedOff s x latch) x =
    { weldAwaited (standing (latch (s.prot.get x))) s.elec.uptime with close := q } := by
  unfold latchedOff
  dsimp only
  rw [ownState_stands]
  split
  · exact ⟨none, by
      rw [abortClose_stands, dropReqs_stands, dropHoldBits_stands, openToWeld_stands, stands_modProt]; rfl⟩
  · exact ⟨_, by rw [dropHoldBits_stands, openToWeld_stands, stands_modProt]; rfl⟩

theorem latchedOff_other (s : State) {x y : Ix} (latch : ProtState → ProtState) (other : y ≠ x) :
    (latchedOff s x latch).prot.get y = s.prot.get y := by
  have dropped : (dropHoldBits (openToWeld (modProt s x latch) x) x).prot.get y = s.prot.get y := by
    rw [dropHoldBits_other _ _ other, openToWeld_other _ _ other, modProt_other _ _ _ other]
  unfold latchedOff
  dsimp only
  rw [ownState_other _ _ _ _ other]
  refine ite_prot_other ?_ dropped
  rw [abortClose_other _ _ _ other, dropReqs_other _ _ other, dropped]

theorem outrTripString_outrTrip (s : State) (x : Ix) (f : ProtState → ProtState) :
    ((outrTripString s x f).prot.get x).outrTrip = true := by
  obtain ⟨q, after⟩ := latchedOff_stands s x fun p => { f p with outrTrip := true }
  rw [outrTripString_eq]
  exact congrArg ProtState.outrTrip after

theorem noSwitchConducts_of_outrTrip {s : State} {x : Ix} (trip : (s.prot.get x).outrTrip = true) : noSwitchConducts s x = true :=
  noSwitchConducts_of_latched (by unfold outrLatched; rw [show (stands s x).outrTrip = true from trip, Bool.true_or])

/-- R307: a trip of the processor path latches with its cause, and ends the close sequence. -/
theorem procTrip_stands {s : State} {x : Ix} (untripped : (s.prot.get x).procTrip = false) (cause : Nat) (v : F32) (u n : Nat) :
    stands (procTrip s x cause v u n) x =
      { weldAwaited (stands s x) s.elec.uptime with procTrip := true, procCause := cause, tripStamp := stampNow s, close := none } := by
  unfold procTrip
  rw [if_neg (by rw [untripped]; exact Bool.false_ne_true)]
  dsimp only
  rw [ownState_stands, abortClose_stands, raise_stands, dropHoldBits_stands, dropReqs_stands, stands_of_prot (modPcs_prot _ _ _),
    openToWeld_stands, stands_modProt]
  rfl

/-- R306: the coils of a string that the processor path trips are neither requested nor held. -/
theorem procTrip_idle {s : State} {x : Ix} (untripped : (s.prot.get x).procTrip = false) (cause : Nat) (v : F32) (u n : Nat) :
    idle (procTrip s x cause v u n) x := by
  unfold procTrip
  rw [if_neg (by rw [untripped]; exact Bool.false_ne_true)]
  exact ownState_idle _ 2 (abortClose_idle 1 (idle_of_prot (raise_prot _ 193 _) (dropHoldBits_dropReqs_idle _ x)))

/-- A string is tripped after a trip of the processor path, whether or not it was before. -/
theorem procTrip_procTrip (s : State) (x : Ix) (cause : Nat) (v : F32) (u n : Nat) :
    ((procTrip s x cause v u n).prot.get x).procTrip = true := by
  by_cases already : (s.prot.get x).procTrip = true
  · unfold procTrip
    rwa [if_pos already]
  · exact congrArg ProtState.procTrip (procTrip_stands (Bool.eq_false_iff.mpr already) cause v u n)

/-- R326: the owner of the line shows a string that it trips as tripped. -/
theorem procTrip_st {s : State} {x : Ix} (untripped : (s.prot.get x).procTrip = false) (owner : s.outr.owner = true) (cause : Nat)
    (v : F32) (u n : Nat) : ((procTrip s x cause v u n).prot.get x).st = .tripped := by
  unfold procTrip
  rw [if_neg (by rw [untripped]; exact Bool.false_ne_true)]
  refine ownState_st ?_ x .tripped 2
  rw [abortClose_outr, raise_outr, dropHoldBits_outr, dropReqs_outr, modPcs_outr, openToWeld_outr]
  exact owner

/-! ### The comparators (R312) -/

/-- A comparator that has not tripped the string since its reset trips it. -/
theorem exec_comparatorTrip_eq {s : State} {x : Ix} {c : Comparator} (power : s.elec.powered = true) (fitted : coilsFitted s x = true)
    (new : testBit (s.prot.get x).outrCause c.num = false) : exec (.comparatorTrip x c) s = .next (
      outrTripString (modProt s x fun p => { p with live := p.live ||| 2 ^ c.num }) x fun p =>
        { p with outrCause := p.outrCause ||| 2 ^ c.num, report := p.report ||| 2 ^ c.num }) := by
  show execComparatorTrip x c s = _
  unfold execComparatorTrip
  rw [if_neg (by simp [power, fitted])]
  dsimp only
  rw [if_neg (by simp [new])]

theorem exec_comparatorTrip_of_latched {s : State} {x : Ix} {c : Comparator} (power : s.elec.powered = true)
    (fitted : coilsFitted s x = true) (old : testBit (s.prot.get x).outrCause c.num = true) :
    exec (.comparatorTrip x c) s = .next (modProt s x fun p => { p with live := p.live ||| 2 ^ c.num }) := by
  show execComparatorTrip x c s = _
  unfold execComparatorTrip
  rw [if_neg (by simp [power, fitted])]
  dsimp only
  rw [if_pos old]

/-- R8, R37: a trip of a string that is not the module's is ignored. -/
theorem exec_comparatorTrip_of_unfitted {s : State} {x : Ix} (c : Comparator) (unfitted : coilsFitted s x = false) :
    exec (.comparatorTrip x c) s = .next s := by
  show execComparatorTrip x c s = _
  unfold execComparatorTrip
  rw [if_pos (by simp [unfitted])]

theorem comparatorTrip_latches {s : State} {x : Ix} {c : Comparator} (power : s.elec.powered = true) (fitted : coilsFitted s x = true)
    (new : testBit (s.prot.get x).outrCause c.num = false) :
    runs (.comparatorTrip x c) s fun t => (t.prot.get x).outrTrip = true ∧
      (t.prot.get x).outrCause = (s.prot.get x).outrCause ||| 2 ^ c.num ∧ noSwitchConducts t x = true := by
  refine ⟨_, exec_comparatorTrip_eq power fitted new, ?_⟩
  have trip := outrTripString_outrTrip (modProt s x fun p => { p with live := p.live ||| 2 ^ c.num }) x fun p =>
    { p with outrCause := p.outrCause ||| 2 ^ c.num, report := p.report ||| 2 ^ c.num }
  obtain ⟨q, after⟩ := latchedOff_stands (modProt s x fun p => { p with live := p.live ||| 2 ^ c.num }) x fun p =>
    { p with outrCause := p.outrCause ||| 2 ^ c.num, report := p.report ||| 2 ^ c.num, outrTrip := true }
  rw [modProt_prot, two_get_modify] at after
  exact ⟨trip, congrArg ProtState.outrCause after, noSwitchConducts_of_outrTrip trip⟩

/-- R306, R312: whether or not the comparator had tripped the string before, the string is off and the other is as it was. -/
theorem comparatorTrip_trips {s : State} {x : Ix} {c : Comparator} (power : s.elec.powered = true)
    (latched : testBit (s.prot.get x).outrCause c.num = true → (s.prot.get x).outrTrip = true) :
    runs (.comparatorTrip x c) s fun t => (coilsFitted s x = true → (t.prot.get x).outrTrip = true) ∧ noSwitchConducts t x = true ∧
      t.prot.get x.other = s.prot.get x.other := by
  have apart : x.other ≠ x := by cases x <;> decide
  have kept (t : State) (outcome : exec (.comparatorTrip x c) s = .next t) :=
    comparatorTrip_leavesOtherString x c x.other s t outcome apart
  by_cases fitted : coilsFitted s x = true
  · by_cases old : testBit (s.prot.get x).outrCause c.num = true
    · have outcome := exec_comparatorTrip_of_latched power fitted old
      have trip : ((modProt s x fun p => { p with live := p.live ||| 2 ^ c.num }).prot.get x).outrTrip = true := by
        rw [modProt_prot, two_get_modify]; exact latched old
      exact ⟨_, outcome, fun _ => trip, noSwitchConducts_of_outrTrip trip, kept _ outcome⟩
    · obtain ⟨t, outcome, trip, -, off⟩ := comparatorTrip_latches power fitted (Bool.eq_false_iff.mpr old)
      exact ⟨t, outcome, fun _ => trip, off, kept t outcome⟩
  · have outcome := exec_comparatorTrip_of_unfitted (x := x) c (Bool.eq_false_iff.mpr fitted)
    exact ⟨s, outcome, fun fit => absurd fit fitted, noSwitchConducts_of_unfitted (Bool.eq_false_iff.mpr fitted), kept s outcome⟩

theorem comparatorRelease_releases {s : State} (x : Ix) (c : Comparator) (power : s.elec.powered = true) :
    runs (.comparatorRelease x c) s fun t =>
      (t.prot.get x).live = (s.prot.get x).live - ((s.prot.get x).live &&& 2 ^ c.num) ∧
      (t.prot.get x).outrTrip = (s.prot.get x).outrTrip := by
  refine ⟨_, (rfl : exec (.comparatorRelease x c) s = .next _), ?_⟩
  rw [if_neg (by simp [power])]
  dsimp only
  rw [modProt_prot, two_get_modify]
  exact ⟨rfl, rfl⟩

/-! ### The fault loop (R315, R501) -/

/-- The loop read open: latched where it was not, and reported once while the firmware runs. -/
def loopOpened (s : State) (x : Ix) : State :=
  let live := modProt s x fun p => { p with loopLive := true }
  if (s.prot.get x).fltLoop then live else outrTripString live x fun p => { p with fltLoop := true, report := p.report ||| 0x20 }

theorem exec_faultLoopOpen_eq {s : State} {x : Ix} (power : s.elec.powered = true) (fitted : coilsFitted s x = true) :
    ∃ t, exec (.faultLoopOpen x) s = .next t ∧ t.prot = (loopOpened s x).prot := by
  refine ⟨_, (rfl : exec (.faultLoopOpen x) s = .next _), ?_⟩
  rw [if_neg (by simp [power, fitted])]
  extract_lets p live latched
  split
  · rfl
  · rw [raise_prot]
    rfl

/-- R315: an open loop that had not tripped the string trips it. -/
theorem loopOpened_latches {s : State} {x : Ix} (new : (s.prot.get x).fltLoop = false) :
    ((loopOpened s x).prot.get x).fltLoop = true ∧ ((loopOpened s x).prot.get x).outrTrip = true ∧
      ((loopOpened s x).prot.get x).loopLive = true := by
  unfold loopOpened
  dsimp only
  rw [if_neg (by simp [new])]
  obtain ⟨q, after⟩ := latchedOff_stands (modProt s x fun p => { p with loopLive := true }) x fun p =>
    { p with fltLoop := true, report := p.report ||| 0x20, outrTrip := true }
  rw [modProt_prot, two_get_modify] at after
  exact ⟨congrArg ProtState.fltLoop after, congrArg ProtState.outrTrip after, congrArg ProtState.loopLive after⟩

theorem faultLoopOpen_latches {s : State} {x : Ix} (power : s.elec.powered = true) (fitted : coilsFitted s x = true)
    (new : (s.prot.get x).fltLoop = false) :
    runs (.faultLoopOpen x) s fun t => (t.prot.get x).fltLoop = true ∧ (t.prot.get x).outrTrip = true ∧
      (t.prot.get x).loopLive = true ∧ noSwitchConducts t x = true := by
  obtain ⟨t, outcome, strings⟩ := exec_faultLoopOpen_eq power fitted
  obtain ⟨loop, trip, live⟩ := loopOpened_latches new
  rw [← strings] at loop trip live
  exact ⟨t, outcome, loop, trip, live, noSwitchConducts_of_outrTrip trip⟩

/-- R306, R315: whether or not the loop had tripped the string before, the string is off and the other is as it was. -/
theorem faultLoopOpen_trips {s : State} {x : Ix} (power : s.elec.powered = true)
    (latched : (s.prot.get x).fltLoop = true → (s.prot.get x).outrTrip = true) :
    runs (.faultLoopOpen x) s fun t => (coilsFitted s x = true → (t.prot.get x).outrTrip = true) ∧ noSwitchConducts t x = true ∧
      t.prot.get x.other = s.prot.get x.other := by
  have apart : x.other ≠ x := by cases x <;> decide
  have kept (t : State) (outcome : exec (.faultLoopOpen x) s = .next t) := faultLoopOpen_leavesOtherString x x.other s t outcome apart
  by_cases fitted : coilsFitted s x = true
  · obtain ⟨t, outcome, strings⟩ := exec_faultLoopOpen_eq power fitted
    have trip : (t.prot.get x).outrTrip = true := by
      rw [strings]
      by_cases old : (s.prot.get x).fltLoop = true
      · unfold loopOpened
        dsimp only
        rw [if_pos old, modProt_prot, two_get_modify]
        exact latched old
      · exact (loopOpened_latches (Bool.eq_false_iff.mpr old)).2.1
    exact ⟨t, outcome, fun _ => trip, noSwitchConducts_of_outrTrip trip, kept t outcome⟩
  · have unfitted := Bool.eq_false_iff.mpr fitted
    have outcome : exec (.faultLoopOpen x) s = .next s := by
      show execFaultLoopOpen x s = _
      unfold execFaultLoopOpen
      rw [if_pos (by simp [unfitted])]
    exact ⟨s, outcome, fun fit => absurd fit fitted, noSwitchConducts_of_unfitted unfitted, kept s outcome⟩

theorem running_powered {s : State} (run : running s = true) : s.elec.powered = true := by
  simp only [running, clocked, Bool.and_eq_true] at run
  exact run.1.1.1

/-- R501: the loop read closed is no longer live; its end is reported, the latch stays. -/
theorem faultLoopClose_reports {s : State} {x : Ix} (run : running s = true) (fitted : coilsFitted s x = true)
    (loop : (car s x).fltLoop = true) :
    runs (.faultLoopClose x) s fun t => (t.prot.get x).loopLive = false ∧ (car t x).fltLoop = false ∧
      newest t 73 = some (ux x ++ ub false ++ u32 (((car s x).sum.map (·.flt)).getD 0)) := by
  refine ⟨_, (rfl : exec (.faultLoopClose x) s = .next _), ?_⟩
  rw [if_neg (by simp [running_powered run, fitted])]
  extract_lets quiet
  have sameRun : running quiet = true := run
  have sameCar : car quiet x = car s x := rfl
  rw [if_neg (by simp [sameRun, sameCar, loop])]
  dsimp only
  rw [raise_newest, sameCar, car_raise, car_modCar, raise_prot, modCar_prot, modProt_prot,
    two_get_modify]
  exact ⟨rfl, rfl, rfl⟩

/-! ### What is reported of a trip (R312, R315, R333, R336) -/

/-- What a report reads and keeps: the front ends, the rings and the latches that wait. -/
def reportBasis (s : State) (x : Ix) : FrontState × Two RingState × Nat := (s.front, s.ring, (s.prot.get x).report)

theorem unconfirmed_basis (s : State) (x : Ix) (c : Comparator) : reportBasis (unconfirmed s x c) x = reportBasis s x := by
  have sameFront : (unconfirmed s x c).front = s.front := same_front (m := 201990144) (by simp) (by decide)
  have sameRing : (unconfirmed s x c).ring = s.ring := same_ring (m := 201990144) (by simp) (by decide)
  have sameReport : ((unconfirmed s x c).prot.get x).report = (s.prot.get x).report := by
    unfold unconfirmed
    split
    · rfl
    · split
      · rw [raise_prot, modProt_prot, two_get_modify]
      · rfl
  unfold reportBasis
  rw [sameFront, sameRing, sameReport]

theorem raise_basis (s : State) (e : Nat) (d : List Byte) (x : Ix) : reportBasis (raise s e d) x = reportBasis s x := by
  unfold reportBasis
  rw [raise_front, raise_ring, raise_prot]

theorem reportLatch_basis (s : State) (x : Ix) (k : Nat) : reportBasis (reportLatch s x k) x = reportBasis s x := by
  unfold reportLatch
  split
  · rfl
  · dsimp only
    split
    · split
      · rw [unconfirmed_basis, raise_basis]
      · rw [raise_basis]
    · rw [raise_basis]

theorem reportLatch_of_clear {s : State} {x : Ix} {k : Nat} (clear : testBit (s.prot.get x).report k = false) : reportLatch s x k = s := by
  unfold reportLatch
  rw [if_pos (by simp [clear])]

/-- EV 192 as a latch is reported: its number, a comparator's reading and the units with FLT set. -/
def latchReport (s : State) (x : Ix) (k : Nat) : List Byte :=
  ux x ++ u8 (k + 1) ++ fb ((comparators[k]?.bind (cmpReading s x)).getD 0) ++ u32 (((car s x).sum.map (·.flt)).getD 0)

theorem latchReport_of_basis {s t : State} {x : Ix} (e : reportBasis t x = reportBasis s x) (k : Nat) :
    latchReport t x k = latchReport s x k := by
  simp only [reportBasis, Prod.mk.injEq] at e
  obtain ⟨front, ring, -⟩ := e
  have reading (c : Comparator) : cmpReading t x c = cmpReading s x c := by unfold cmpReading; rw [front]
  unfold latchReport
  rw [car_of_ring ring, show cmpReading t x = cmpReading s x from funext reading]

theorem unconfirmed_newest (s : State) (x : Ix) (c : Comparator) : newest (unconfirmed s x c) 192 = newest s 192 := by
  unfold unconfirmed
  split
  · rfl
  · split
    · rw [raise_newest_other _ 200 192 _ (by decide) (by decide) (by decide)]
      rfl
    · rfl

theorem reportLatch_newest {s : State} {x : Ix} {k : Nat} (waits : testBit (s.prot.get x).report k = true) :
    newest (reportLatch s x k) 192 = some (latchReport s x k) := by
  unfold reportLatch
  rw [if_neg (by simp [waits])]
  dsimp only
  split
  · split
    · rw [unconfirmed_newest, raise_newest]; rfl
    · rw [raise_newest]; rfl
  · rw [raise_newest]; rfl

theorem reportLatches_basis (l : List Nat) (s : State) (x : Ix) :
    reportBasis (l.foldl (fun s k => reportLatch s x k) s) x = reportBasis s x :=
  List.foldlRecOn (motive := fun t => reportBasis t x = reportBasis s x) l _ rfl fun _ kept k _ => (reportLatch_basis _ x k).trans kept

theorem reportLatches_of_clear {l : List Nat} {s : State} {x : Ix} (clear : ∀ j ∈ l, testBit (s.prot.get x).report j = false) :
    l.foldl (fun s k => reportLatch s x k) s = s :=
  List.foldlRecOn (motive := fun t => t = s) l _ rfl fun t same k listed => by
    subst same
    exact reportLatch_of_clear (clear k listed)

/-- The newest EV 192 is that of the highest latch that waits. -/
theorem reportLatches_newest {s : State} {x : Ix} {k : Nat} (inside : k < 7) (waits : testBit (s.prot.get x).report k = true)
    (highest : ∀ j < 7, k < j → testBit (s.prot.get x).report j = false) :
    newest ((List.range 7).foldl (fun s k => reportLatch s x k) s) 192 = some (latchReport s x k) := by
  have cut : List.range 7 = List.range k ++ k :: List.range' (k + 1) (6 - k) := by
    clear waits highest
    revert k
    decide
  rw [cut, List.foldl_append, List.foldl_cons]
  generalize lower : (List.range k).foldl (fun s k => reportLatch s x k) s = t
  have sameBasis : reportBasis t x = reportBasis s x := lower ▸ reportLatches_basis (List.range k) s x
  have sameReport (u : State) (e : reportBasis u x = reportBasis s x) : (u.prot.get x).report = (s.prot.get x).report :=
    congrArg (fun b => b.2.2) e
  have after : ∀ j ∈ List.range' (k + 1) (6 - k), testBit ((reportLatch t x k).prot.get x).report j = false := by
    intro j listed
    rw [sameReport _ ((reportLatch_basis t x k).trans sameBasis)]
    obtain ⟨above, below⟩ := List.mem_range'_1.mp listed
    exact highest j (by omega) (by omega)
  rw [reportLatches_of_clear after, reportLatch_newest (by rw [sameReport t sameBasis]; exact waits), latchReport_of_basis sameBasis]

/-- R312, R315: the report of the highest latch that waits is the newest, and none waits after it. -/
theorem outriderTripReport_reports {s : State} {x : Ix} {k : Nat} (run : running s = true) (inside : k < 7)
    (waits : testBit (s.prot.get x).report k = true) (highest : ∀ j < 7, k < j → testBit (s.prot.get x).report j = false) :
    runs (.outriderTripReport x) s fun t => (t.prot.get x).report = 0 ∧ newest t 192 = some (latchReport s x k) := by
  have nonzero : (s.prot.get x).report ≠ 0 := by
    intro zero
    rw [zero] at waits
    simp [testBit] at waits
  refine ⟨_, (rfl : exec (.outriderTripReport x) s = .next _), ?_⟩
  rw [if_neg (by simp [run, nonzero])]
  extract_lets stamped told
  have sameReport : (stamped.prot.get x).report = (s.prot.get x).report := by
    simp only [stamped, modProt_prot, two_get_modify]
  refine ⟨by rw [modProt_prot, two_get_modify], ?_⟩
  show newest told 192 = _
  rw [show told = (List.range 7).foldl (fun s k => reportLatch s x k) stamped from rfl,
    reportLatches_newest inside (by rw [sameReport]; exact waits) (by rw [sameReport]; exact highest)]
  rfl

/-! ### A blind string (R307) -/

theorem blindString_trips {s : State} {x : Ix} {u : Nat} (judged : judges s x = true) (blind : (s.prot.get x).blindUp = some u)
    (long : passed s u (ms (protN s x 0x0B0B)) = true) (untripped : (s.prot.get x).procTrip = false) :
    runs (.blindString x) s fun t => (t.prot.get x).procTrip = true ∧ (t.prot.get x).procCause = 9 ∧ noSwitchConducts t x = true ∧
      (s.outr.owner = true → (t.prot.get x).st = .tripped) := by
  refine ⟨_, (rfl : exec (.blindString x) s = .next _), ?_⟩
  simp only [blind, judged, long, Bool.and_true, if_true]
  have after := procTrip_stands untripped 9 (F32.ofRat (((s.elec.uptime - u : Nat) : Rat) / 8000000000)) 0 0
  exact ⟨congrArg ProtState.procTrip after, congrArg ProtState.procCause after, noSwitchConducts_of_idle (procTrip_idle untripped 9 _ 0 0),
    fun owner => procTrip_st untripped owner 9 _ 0 0⟩

/-- Settles O17: one theorem above for each clause; a latch of the loop alone is the latch of highest number, 5. -/
theorem tripCommandsTakeEffect : Obligations.TripCommandsTakeEffect := by
  refine ⟨?opened, ?closed, ?trip, ?release, ?loopReport, ?report, ?blind⟩
  case opened => intro s x; exact faultLoopOpen_latches
  case closed => intro s x; exact faultLoopClose_reports
  case trip => intro s x c; exact comparatorTrip_latches
  case release => intro s x c; exact comparatorRelease_releases x c
  case loopReport =>
    intro s x run loop
    exact outriderTripReport_reports (k := 5) run (by decide) (by rw [loop]; decide) (by rw [loop]; decide)
  case report => intro s x k; exact outriderTripReport_reports
  case blind => intro s x u; exact blindString_trips

/-- Settles O54: the two trips of the outrider, and the operation that every trip of the processor path goes through. -/
theorem tripOpensItsStringOnly : Obligations.TripOpensItsStringOnly := by
  refine ⟨?comparator, ?loop, ?processor⟩
  case comparator => intro x c s; exact comparatorTrip_trips
  case loop => intro x s; exact faultLoopOpen_trips
  case processor =>
    intro x s cause v u n untripped
    exact ⟨procTrip_procTrip s x cause v u n, noSwitchConducts_of_idle (procTrip_idle untripped cause v u n),
      procTrip_other s x cause v u n (by cases x <;> decide)⟩

end Sys2Proof.Proofs

/-! PROOFS. Threshold codes, the protection boundary and the comparator proof (R313, R316, R324, R442): one theorem per command, and O18 from
these. -/

namespace Sys2Proof.Proofs

open Sys2Proof Sys2Proof.Machine Sys2Proof.Laws

/-! ### Thresholds (R313) -/

theorem thresholdWrite_takes {s : State} {k : Nat} {w : Word} (run : running s = true) (inside : k < 10)
    (complement : bits w.toNat 27 16 + bits w.toNat 11 0 = 0xFFF) :
    runs (.thresholdWrite k w) s fun t => t.outr.thr = setAt s.outr.thr k (bits w.toNat 11 0) := by
  refine ⟨_, (rfl : exec (.thresholdWrite k w) s = .next _), ?_⟩
  rw [if_neg (by simp [run, inside]), if_pos complement]

theorem thresholdWrite_rejects {s : State} {k : Nat} {w : Word} (run : running s = true) (inside : k < 10)
    (torn : bits w.toNat 27 16 + bits w.toNat 11 0 ≠ 0xFFF) :
    runs (.thresholdWrite k w) s fun t => t.outr.thr = s.outr.thr ∧ t.outr.thrReject = true ∧
      newest t 206 = some (u8 k ++ u16 (bits w.toNat 11 0)) := by
  refine ⟨_, (rfl : exec (.thresholdWrite k w) s = .next _), ?_⟩
  rw [if_neg (by simp [run, inside]), if_neg torn]
  dsimp only
  rw [raise_outr, raise_newest]
  exact ⟨rfl, rfl, rfl⟩

/-! ### The protection boundary (R442) -/

/-- Writing thresholds and publishing limits leaves parameters, grid and the other string. -/
theorem limitsMoved_kept (s : State) (x : Ix) (f : Nat → Nat → Nat → Bool) :
    (powerLimits (moveThresholds s x f) x).par = s.par ∧ (powerLimits (moveThresholds s x f) x).grid = s.grid ∧
      ∀ y, y ≠ x → (powerLimits (moveThresholds s x f) x).prot.get y = s.prot.get y := by
  have same : view 24576 (powerLimits (moveThresholds s x f) x) = view 24576 s := by simp
  have strings : (moveThresholds s x f).prot = s.prot := same_prot (m := 16384) (by simp) (by decide)
  exact ⟨whole_par same (by decide) (by decide), same_grid same (by decide), fun y other => by rw [powerLimits_other _ _ other, strings]⟩

theorem protBoundary_grid (s : State) (x : Ix) : (protBoundary s x).grid = s.grid := same_grid (m := 6316032) (by simp) (by decide)

theorem protBoundary_otherString (s : State) {x y : Ix} (other : y ≠ x) : (protBoundary s x).prot.get y = s.prot.get y := by
  unfold protBoundary
  split
  · rfl
  · refine ite_prot_other rfl ?_
    exact (limitsMoved_kept _ x outward).2.2 y other

/-- A boundary that comes waits no more. -/
theorem protBoundary_takes {s : State} {x : Ix} {b : Nat} (waits : s.par.protAt.get x = some b) (come : b ≤ s.grid.now)
    (proven : proofRuns s x = false) : (protBoundary s x).par.protAt.get x = none := by
  unfold protBoundary
  rw [waits]
  dsimp only
  rw [if_neg (by simp [proven, come]), (limitsMoved_kept _ x outward).1]
  exact two_get_set _ _ _

theorem protBoundary_otherBoundary (s : State) {x y : Ix} (other : y ≠ x) :
    (protBoundary s x).par.protAt.get y = s.par.protAt.get y := by
  unfold protBoundary
  split
  · rfl
  · dsimp only
    split
    · rfl
    · rw [(limitsMoved_kept _ x outward).1]
      exact two_get_set_other _ _ other

theorem protectionBoundary_takes {s : State} {x : Ix} {b : Nat} (run : running s = true) (waits : s.par.protAt.get x = some b)
    (come : b ≤ s.grid.now) (proven : proofRuns s x = false) :
    runs .protectionBoundary s fun t => t.par.protAt.get x = none := by
  refine ⟨_, (rfl : exec .protectionBoundary s = .next _), ?_⟩
  rw [if_neg (by simp [run])]
  cases x with
  | zero =>
    have other : Ix.zero ≠ Ix.one := by decide
    exact (protBoundary_otherBoundary _ other).trans (protBoundary_takes waits come proven)
  | one =>
    have other : Ix.one ≠ Ix.zero := by decide
    refine protBoundary_takes ((protBoundary_otherBoundary s other).trans waits) (by rw [protBoundary_grid]; exact come) ?_
    unfold proofRuns
    rw [protBoundary_otherString s other]
    exact proven

/-! ### The comparator proof (R316, R324) -/

theorem setReq_requests (s : State) (x : Ix) (c : Coil) (hs ls : Bool) :
    (((setReq s x c hs ls).prot.get x).coil c).reqHs = hs ∧ (((setReq s x c hs ls).prot.get x).coil c).reqLs = ls := by
  unfold setReq
  rw [settleString_reqHs, settleString_reqLs, modProt_prot, two_get_modify, coil_modCoil]
  exact ⟨rfl, rfl⟩

/-- The string as a comparator proof that found every input well leaves it. -/
def proofPassed (s : State) (x : Ix) : State :=
  modProt s x fun p => { p with
    proofOk := true, inhProof := false, proofSinceAck := true, proofUp := s.elec.uptime, suspect := 0, suspectRun := List.replicate 5 0 }
/-- The string as a comparator proof that found input `k` faulty leaves it. -/
def proofFailed (s : State) (x : Ix) (k : Nat) : State :=
  raise (modProt s x fun p => { p with proofOk := false, inhProof := true }) 204 (ux x ++ u8 k)

theorem proofResult_of_off {s : State} {x : Ix} (off : coilsOff s x = true) (failed : Option Nat) :
    proofResult s x failed = match failed with
      | none => (proofPassed s x, true)
      | some k => (proofFailed s x k, false) := by
  unfold proofResult
  simp only [off, Bool.not_true, Bool.false_eq_true, if_false]
  cases failed <;> rfl

/-- The boundary of a string moved past the tick that follows a proof (R442). -/
def boundaryDeferred (s : State) (x : Ix) : State :=
  { s with par := { s.par with protAt := s.par.protAt.set x ((s.par.protAt.get x).map fun t => max t (s.grid.now + 2)) } }

/-- The proof of a close sequence goes on to K−, or ends it. -/
theorem exec_comparatorProof_eq {s : State} {x : Ix} {q : CloseSeq} (run : running s = true) (closing : (s.prot.get x).close = some q)
    (first : q.stage = 0) (off : coilsOff s x = true) (failed : Option Nat) : exec (.comparatorProof x failed) s = .next (
      match failed with
      | none => setReq (modProt (boundaryDeferred (proofPassed s x) x) x fun p =>
          { p with close := some { q with stage := 1, up := s.elec.uptime } }) x .kNeg true true
      | some k => abortClose (boundaryDeferred (proofFailed s x k) x) x 6) := by
  show execComparatorProof x failed s = _
  unfold execComparatorProof
  simp only [closing]
  rw [if_neg (by simp [run, first]), proofResult_of_off off]
  cases failed <;> rfl

theorem comparatorProof_passes {s : State} {x : Ix} {q : CloseSeq} (run : running s = true) (closing : (s.prot.get x).close = some q)
    (first : q.stage = 0) (off : coilsOff s x = true) :
    runs (.comparatorProof x none) s fun t => (t.prot.get x).proofOk = true ∧ (t.prot.get x).inhProof = false ∧
      (t.prot.get x).close = some { q with stage := 1, up := s.elec.uptime } ∧ (t.prot.get x).kNeg.reqHs = true ∧
      (t.prot.get x).kNeg.reqLs = true := by
  refine ⟨_, exec_comparatorProof_eq run closing first off none, ?_⟩
  dsimp only
  generalize next : modProt (boundaryDeferred (proofPassed s x) x) x _ = u
  have strings : stands (setReq u x .kNeg true true) x = standing { ((proofPassed s x).prot.get x) with
      close := some { q with stage := 1, up := s.elec.uptime } } := by
    rw [setReq_stands, ← next, stands_modProt]; rfl
  rw [proofPassed, modProt_prot, two_get_modify] at strings
  obtain ⟨hs, ls⟩ := setReq_requests u x .kNeg true true
  exact ⟨congrArg ProtState.proofOk strings, congrArg ProtState.inhProof strings, congrArg ProtState.close strings, hs, ls⟩

theorem comparatorProof_fails {s : State} {x : Ix} {q : CloseSeq} {k : Nat} (run : running s = true)
    (closing : (s.prot.get x).close = some q) (first : q.stage = 0) (off : coilsOff s x = true) :
    runs (.comparatorProof x (some k)) s fun t => (t.prot.get x).proofOk = false ∧ (t.prot.get x).inhProof = true ∧
      (t.prot.get x).close = none ∧ newest t 204 = some (ux x ++ u8 k) := by
  refine ⟨_, exec_comparatorProof_eq run closing first off (some k), ?_⟩
  have strings : stands (abortClose (boundaryDeferred (proofFailed s x k) x) x 6) x =
      { stands (proofFailed s x k) x with close := none } := abortClose_stands _ x 6
  rw [proofFailed, raise_stands, stands_modProt] at strings
  refine ⟨congrArg ProtState.proofOk strings, congrArg ProtState.inhProof strings, congrArg ProtState.close strings, ?_⟩
  rw [newest_of_ev (abortClose_ev _ x 6)]
  exact raise_newest _ 204 _

/-- Settles O18: one theorem above for each clause. -/
theorem thresholdCommandsTakeEffect : Obligations.ThresholdCommandsTakeEffect := by
  refine ⟨?takes, ?rejects, ?boundary, ?passes, ?fails⟩
  case takes => intro s k w; exact thresholdWrite_takes
  case rejects => intro s k w; exact thresholdWrite_rejects
  case boundary => intro s x b; exact protectionBoundary_takes
  case passes => intro s x q; exact comparatorProof_passes
  case fails => intro s x q k; exact comparatorProof_fails

end Sys2Proof.Proofs

/-! PROOFS. The coil tests, a test overdue, a contactor that drops out, the comparator test that is due and the coil supply (R316, R319, R320, R321,
R325, R338): what an orderly open begins with, then one theorem per command, and O19 from these. -/

namespace Sys2Proof.Proofs

open Sys2Proof Sys2Proof.Machine Sys2Proof.Laws

/-! ### The beginning of an orderly open (R322) -/

/-- The string's demand is 0 and its close sequence has ended. -/
def demandWithdrawn (s : State) (x : Ix) : State :=
  abortClose { s with hold := { s.hold with p := s.hold.p.set x 0, q := s.hold.q.set x 0 } } x 2

/-- An orderly open changes, of a string whose demand is withdrawn, only what waits for its end, and STATE. -/
theorem beginOpen_cases (s : State) (x : Ix) (ids : List Nat) : ∃ f : ProtState → ProtState,
    (∀ p, (f p).close = p.close ∧ ((f p).openSeq.isSome = true ∨ (f p).weldFor.isSome = true)) ∧
      (beginOpen s x ids = modProt (demandWithdrawn s x) x f ∨
        ∃ st, beginOpen s x ids = ownState (modProt (demandWithdrawn s x) x f) x st 1) := by
  unfold beginOpen
  dsimp only
  split
  next q _ =>
    exact ⟨fun p => { p with openSeq := some { q with ids := q.ids ++ ids } }, fun p => ⟨rfl, .inl rfl⟩, .inl rfl⟩
  · split
    · refine ⟨fun p => { p with weldFor := some (p.weldFor.getD [] ++ ids), weldUp := (demandWithdrawn s x).elec.uptime, weldLow := false },
        fun p => ⟨rfl, .inr rfl⟩, ?_⟩
      split
      · exact .inr ⟨_, rfl⟩
      · exact .inl rfl
    · refine ⟨fun p => { p with openSeq := some { ids := ids, up := (demandWithdrawn s x).elec.uptime } }, fun p => ⟨rfl, .inl rfl⟩, ?_⟩
      split
      · exact .inr ⟨_, rfl⟩
      · exact .inl rfl

/-- What an orderly open is known by: what waits for its end, no close sequence, and the module's state but for the string and STATE. -/
theorem beginOpen_begins (s : State) (x : Ix) (ids : List Nat) :
    (((beginOpen s x ids).prot.get x).openSeq.isSome = true ∨ ((beginOpen s x ids).prot.get x).weldFor.isSome = true) ∧
      ((beginOpen s x ids).prot.get x).close = none ∧ (beginOpen s x ids).hold.p.get x = 0 ∧ (beginOpen s x ids).hold.q.get x = 0 := by
  obtain ⟨f, kept, outcome⟩ := beginOpen_cases s x ids
  have demand : (beginOpen s x ids).hold = (demandWithdrawn s x).hold := by
    rcases outcome with plain | ⟨st, shown⟩
    · rw [plain]; rfl
    · rw [shown, ownState_hold]; rfl
  have strings : stands (beginOpen s x ids) x = standing (f ((demandWithdrawn s x).prot.get x)) := by
    rcases outcome with plain | ⟨st, shown⟩
    · rw [plain, stands_modProt]
    · rw [shown, ownState_stands, stands_modProt]
  obtain ⟨sameClose, awaits⟩ := kept ((demandWithdrawn s x).prot.get x)
  have ended : ((demandWithdrawn s x).prot.get x).close = none :=
    congrArg ProtState.close (abortClose_stands { s with hold := { s.hold with p := s.hold.p.set x 0, q := s.hold.q.set x 0 } } x 2)
  refine ⟨?_, (congrArg ProtState.close strings).trans (sameClose.trans ended), ?_, ?_⟩
  · rcases awaits with opening | checked
    · exact .inl ((congrArg (fun p => p.openSeq.isSome) strings).trans opening)
    · exact .inr ((congrArg (fun p => p.weldFor.isSome) strings).trans checked)
  · rw [demand, demandWithdrawn, abortClose_hold]
    exact two_get_set _ _ _
  · rw [demand, demandWithdrawn, abortClose_hold]
    exact two_get_set _ _ _

theorem beginOpen_newest_kept {e : Nat} (other : e ∉ roleLossEvents) (s : State) (x : Ix) (ids : List Nat) :
    newest (beginOpen s x ids) e = newest s e := by
  have withdrawn (f : ProtState → ProtState) : newest (modProt (demandWithdrawn s x) x f) e = newest s e :=
    newest_of_ev (abortClose_ev _ x 2) e
  obtain ⟨f, -, outcome⟩ := beginOpen_cases s x ids
  rcases outcome with plain | ⟨st, shown⟩
  · rw [plain, withdrawn]
  · rw [shown, ownState_newest_kept other, withdrawn]

/-! ### COIL_TEST (R319 to R321) -/

theorem testPassed_outr (s : State) (x : Ix) (c : Coil) (hs : Bool) : (testPassed s x c hs).outr = s.outr :=
  same_outr (m := 8192) (by simp) (by decide)
theorem coilFinding_outr (s : State) (x : Ix) (c : Coil) (sig : Nat) (hs : Bool) (r : CoilRead) : (coilFinding s x c sig hs r).outr = s.outr :=
  same_outr (m := 202321920) (by simp) (by decide)

/-- R320: every slot takes the rotation on by one place. -/
theorem coilTest_rotates {s : State} (rd : CoilRead) (drive : drives s = true) :
    runs (.coilTest rd) s fun t => t.outr.testRot = (s.outr.testRot % 12 + 1) % 12 := by
  refine ⟨_, (rfl : exec (.coilTest rd) s = .next _), ?_⟩
  rw [if_neg (by simp [drive])]
  extract_lets k x c hs _ turned p on tested
  suffices same : State.outr _ = turned.outr from congrArg OutrState.testRot same
  split
  · rfl
  · split
    dsimp only
    split
    · exact testPassed_outr _ _ _ _
    · exact coilFinding_outr _ _ _ _ _ _

/-- A test that passed takes its time. -/
theorem testPassed_hs (s : State) (x : Ix) (c : Coil) : (((testPassed s x c true).prot.get x).coil c).hsUp = s.elec.uptime ∧
    (((testPassed s x c true).prot.get x).coil c).hsDone = true := by
  unfold testPassed
  dsimp only
  rw [modProt_prot, two_get_modify, coil_modCoil]
  exact ⟨rfl, Bool.or_true _⟩

/-- R319, R320: at the first place of the rotation the high side of string 0's K+ is tested. -/
theorem coilTest_passes {s : State} {rd : CoilRead} (drive : drives s = true) (place : s.outr.testRot % 12 = 0)
    (enabled : strEnabled s .zero = true) (untripped : tripped s.prot.zero = false) (free : fromHoldBits s = false)
    (closing : s.prot.zero.close = none) (opening : s.prot.zero.openSeq = none) (gap : s.pair.t0 = none)
    (hs : hsOn s .zero .kPos = true) (ls : lsOn s .zero .kPos = true) (good : coilSig false true rd = 0) :
    runs (.coilTest rd) s fun t => t.prot.zero.kPos.hsUp = s.elec.uptime ∧ t.prot.zero.kPos.hsDone = true := by
  have outcome : exec (.coilTest rd) s = .next (testPassed { s with outr := { s.outr with testRot := 1 } } .zero .kPos true) := by
    show execCoilTest rd s = _
    unfold execCoilTest
    rw [if_neg (by simp [drive])]
    simp only [place]
    have enabled' : strEnabled { s with outr := { s.outr with testRot := 1 } } .zero = true := enabled
    have free' : fromHoldBits { s with outr := { s.outr with testRot := 1 } } = false := free
    have hs' : hsOn { s with outr := { s.outr with testRot := 1 } } .zero .kPos = true := hs
    have ls' : lsOn { s with outr := { s.outr with testRot := 1 } } .zero .kPos = true := ls
    simp [Ix.ofNum, Two.get, enabled', untripped, free', closing, opening, gap, hs', ls', good]
  exact ⟨_, outcome, testPassed_hs _ .zero .kPos⟩

/-! ### Tests that are due, and a contactor that drops out -/

/-- R320: a switch untested for 120 s is reported and its string opened in order. -/
theorem testOverdue_opens {s : State} {x : Ix} {c : Coil} {hs : Bool} (drive : drives s = true) (enabled : strEnabled s x = true)
    (energised : ((s.prot.get x).coil c).energised = true)
    (old : passed s (if hs then ((s.prot.get x).coil c).hsUp else ((s.prot.get x).coil c).lsUp) (sec 120) = true)
    (opening : (s.prot.get x).openSeq = none) :
    runs (.testOverdue x c hs) s fun t => (newest t 198).isSome = true ∧
      ((t.prot.get x).openSeq.isSome = true ∨ (t.prot.get x).weldFor.isSome = true) ∧
      t.hold.p.get x = 0 ∧ t.hold.q.get x = 0 := by
  refine ⟨_, (rfl : exec (.testOverdue x c hs) s = .next _), ?_⟩
  extract_lets k up told
  have late : passed s up (sec 120) = true := old
  rw [if_neg (by simp [drive, enabled, k, energised, late, opening])]
  obtain ⟨awaits, -, p, q⟩ := beginOpen_begins told x []
  refine ⟨?_, awaits, p, q⟩
  rw [beginOpen_newest_kept (by decide), raise_newest]
  rfl

/-- R325: a contactor that reads de-energised on a closed string trips it. -/
theorem contactorDropout_trips {s : State} {x : Ix} {c : Coil} {rd : CoilRead} (drive : drives s = true) (enabled : strEnabled s x = true)
    (closed : (s.prot.get x).st = .closed) (contactor : c ≠ .pre) (dropped : coilClosed rd = false) :
    runs (.contactorDropout x c rd) s fun t => (t.prot.get x).procTrip = true := by
  refine ⟨_, (rfl : exec (.contactorDropout x c rd) s = .next _), ?_⟩
  rw [if_neg (by simp [drive, enabled, closed, contactor, dropped])]
  exact procTrip_procTrip _ x 11 _ 0 0

/-- R316: a string closed for longer than COMP_TEST_DAYS is reported once a day. -/
theorem comparatorTestDue_reports {s : State} {x : Ix} (drive : drives s = true) (closed : (s.prot.get x).st = .closed)
    (long : passed s (s.prot.get x).closedUp (sec (86400 * parN s 0x0B35)) = true)
    (first : KV.get? s.ev.rate (208, x.num) ≠ some (s.elec.uptime / sec 86400)) :
    runs (.comparatorTestDue x) s fun t =>
      newest t 208 = some (ux x ++ u16 (sat 0xFFFF ((s.elec.uptime - (s.prot.get x).proofUp) / sec 86400))) := by
  refine ⟨_, (rfl : exec (.comparatorTestDue x) s = .next _), ?_⟩
  rw [if_pos (by simp [drive, closed, long])]
  dsimp only
  unfold raiseOnce
  rw [if_neg first]
  exact raise_newest _ 208 _

/-- R338: a change of the coil supply into or out of its range is kept and reported. -/
theorem coilSupply_reports {s : State} {mv : Nat} (run : running s = true)
    (changed : s.outr.coilOk ≠ (decide (18000 ≤ mv) && decide (mv ≤ 32000))) :
    runs (.coilSupply mv) s fun t => t.outr.coilOk = (decide (18000 ≤ mv) && decide (mv ≤ 32000)) ∧
      newest t 205 = some (fb (F32.ofRat ((mv : Rat) / 1000)) ++ ub (decide (18000 ≤ mv) && decide (mv ≤ 32000))) := by
  refine ⟨_, (rfl : exec (.coilSupply mv) s = .next _), ?_⟩
  rw [if_neg (by simp [running_powered run])]
  extract_lets ok was _ supplied
  have told : (ok != was && running supplied) = true := by
    rw [show running supplied = true from run, Bool.and_true]
    exact bne_iff_ne.mpr (Ne.symm changed)
  rw [raiseIf, if_pos told]
  dsimp only
  rw [raise_outr, raise_newest]
  exact ⟨rfl, rfl⟩

/-- Settles O19: one theorem above for each clause. -/
theorem coilCommandsTakeEffect : Obligations.CoilCommandsTakeEffect := by
  refine ⟨?rotates, ?passes, ?overdue, ?dropout, ?due, ?supply⟩
  case rotates => intro s; exact coilTest_rotates
  case passes => intro s rd; exact coilTest_passes
  case overdue => intro s x c hs; exact testOverdue_opens
  case dropout => intro s x c rd; exact contactorDropout_trips
  case due => intro s x; exact comparatorTestDue_reports
  case supply => intro s mv; exact coilSupply_reports

end Sys2Proof.Proofs

/-! PROOFS. Opening a string in order, its weld check, its close sequence and PROT_RESET (R316, R322, R323, R324, R326): one theorem per command, and
O20 from these. -/

namespace Sys2Proof.Proofs

open Sys2Proof Sys2Proof.Machine Sys2Proof.Laws

/-! ### Answers while strings change -/

/-- An answer stands while the ports stay as they are but for their signals. -/
theorem answered_of_ports {s t : State} (e : ports t = ports s) {h : Hdr} {op : Nat} {st : Status} {dt id : Nat} {b : List Byte}
    (a : answered s h op st dt id b) : answered t h op st dt id b := by
  have responses : (t.host.port.get h.port).responses = (s.host.port.get h.port).responses :=
    (congrArg PortState.responses (portRest_of_ports e h.port) :)
  unfold answered
  rw [responses]
  exact a

theorem settleString_ports (s : State) (x : Ix) : ports (settleString s x) = ports s := ports_of_view (m := 8192) (by simp) (by decide)
theorem ownState_ports (s : State) (x : Ix) (st : StrState) (cause : Nat) : ports (ownState s x st cause) = ports s :=
  ports_of_view (m := 201990144) (by simp) (by decide)

theorem beginOpen_ports (s : State) (x : Ix) (ids : List Nat) : ports (beginOpen s x ids) = ports s := by
  have withdrawn (f : ProtState → ProtState) : ports (modProt (demandWithdrawn s x) x f) = ports s := abortClose_ports _ x 2
  obtain ⟨f, -, outcome⟩ := beginOpen_cases s x ids
  rcases outcome with plain | ⟨st, shown⟩
  · rw [plain, withdrawn]
  · rw [shown, ownState_ports, withdrawn]

/-! ### Opening (R322) -/

theorem stringOpen_begins {s : State} {h : Hdr} {k : Nat} (ready : hostReady s h = true) (only : alone s h = true) (string : k < 2)
    (enabled : strEnabled s (Ix.ofNum k) = true) (active : isActive s = true) :
    runs (.stringOpen h k) s fun t => (∃ id, answered t h 0x0070 .accepted 0 id []) ∧ t.hold.p.get (Ix.ofNum k) = 0 ∧
      t.hold.q.get (Ix.ofNum k) = 0 ∧ (t.prot.get (Ix.ofNum k)).close = none := by
  refine ⟨_, (rfl : exec (.stringOpen h k) s = .next _), ?_⟩
  rw [if_neg (by simp [ready]), if_neg (by simp [enabled, string]), if_neg (by simp [active])]
  dsimp only
  obtain ⟨-, close, p, q⟩ := beginOpen_begins (acceptLong s h 0x0070).2 (Ix.ofNum k) [(acceptLong s h 0x0070).1]
  exact ⟨⟨_, answered_of_ports (beginOpen_ports _ _ _) (acceptLong_answered s h 0x0070 (hostReady_portUp ready) only)⟩, p, q, close⟩

theorem leaveIfOpen_of_staying {s : State} (stays : s.upd.leaving = none) : leaveIfOpen s = s := by
  unfold leaveIfOpen
  rw [stays]

theorem openToWeld_upd (s : State) (x : Ix) : (openToWeld s x).upd = s.upd := whole_upd (m := 8192) (by simp) (by decide) (by decide)
theorem dropHoldBits_upd (s : State) (x : Ix) : (dropHoldBits s x).upd = s.upd := whole_upd (m := 8192) (by simp) (by decide) (by decide)
theorem dropReqs_upd (s : State) (x : Ix) : (dropReqs s x).upd = s.upd := whole_upd (m := 8192) (by simp) (by decide) (by decide)
theorem ownState_upd (s : State) (x : Ix) (st : StrState) (cause : Nat) : (ownState s x st cause).upd = s.upd :=
  whole_upd (m := 201990144) (by simp) (by decide) (by decide)

/-- R322: once the current is low or the ramp has passed the coils are off, and the weld check is due. -/
theorem openCurrentLow_opens {s : State} {x : Ix} {q : OpenSeq} (run : running s = true) (opening : (s.prot.get x).openSeq = some q)
    (low : (currentLow s x || passed s q.up (ms (parN s 0x0B34))) = true) (stays : s.upd.leaving = none) :
    runs (.openCurrentLow x) s fun t => (t.prot.get x).openSeq = none ∧ (t.prot.get x).weldFor.isSome = true ∧
      noSwitchConducts t x = true := by
  refine ⟨_, (rfl : exec (.openCurrentLow x) s = .next _), ?_⟩
  simp only [opening]
  rw [if_neg (by simp only [run, low]; decide)]
  generalize coilsDropped : dropReqs (dropHoldBits (openToWeld s x) x) x = u
  have strings : stands u x = stands (openToWeld s x) x := by rw [← coilsDropped, dropReqs_stands, dropHoldBits_stands]
  have off : idle u x := coilsDropped ▸ dropReqs_dropHoldBits_idle _ x
  have stays' : u.upd.leaving = none := by rw [← coilsDropped, dropReqs_upd, dropHoldBits_upd, openToWeld_upd]; exact stays
  rw [openToWeld_stands] at strings
  split
  · rw [leaveIfOpen_of_staying stays']
    exact ⟨congrArg ProtState.openSeq strings, congrArg (fun p => p.weldFor.isSome) strings, noSwitchConducts_of_idle off⟩
  · rw [leaveIfOpen_of_staying (by rw [ownState_upd]; exact stays')]
    have strings' := (ownState_stands u x .opened 1 x).trans strings
    exact ⟨congrArg ProtState.openSeq strings', congrArg (fun p => p.weldFor.isSome) strings',
      noSwitchConducts_of_idle (ownState_idle .opened 1 off)⟩

/-- The ends of long commands leave the strings and the events. -/
theorem endLongs_kept (ids : List Nat) (s : State) (payload : State → List Byte) :
    (ids.foldl (fun s id => endLong s id .ok 0 (payload s)) s).prot = s.prot ∧
      (ids.foldl (fun s id => endLong s id .ok 0 (payload s)) s).ev = s.ev :=
  List.foldlRecOn (motive := fun t : State => t.prot = s.prot ∧ t.ev = s.ev) ids _ ⟨rfl, rfl⟩ fun t kept id _ => by
    rw [endLong_prot, endLong_ev]; exact kept

/-- The Hall current is above I_OPEN_A at the check and has not been low since the opening (R322). -/
def weldFound (s : State) (x : Ix) : Bool := !(s.prot.get x).weldLow && decide (parR s 0x0B33 < absR (F32.toRat (hallNow s x)))

/-- The string after its weld check: no check is due, a weld inhibits closing and is reported. -/
def weldChecked (s : State) (x : Ix) : State :=
  raiseIf (modProt s x fun p => { p with weldFor := none, inhWeld := p.inhWeld || weldFound s x }) (weldFound s x) 203
    (ux x ++ fb (hallNow s x))

theorem weldChecked_string (s : State) (x : Ix) : (weldChecked s x).prot.get x =
    { (s.prot.get x) with weldFor := none, inhWeld := (s.prot.get x).inhWeld || weldFound s x } := by
  unfold weldChecked
  rw [raiseIf_prot, modProt_prot, two_get_modify]

theorem exec_weldCheck_eq {s : State} {x : Ix} {l : List Nat} (run : running s = true) (awaited : (s.prot.get x).weldFor = some l)
    (due : passed s (s.prot.get x).weldUp (ms 100) = true) : exec (.weldCheck x) s = .next (
      l.foldl (fun t id => endLong t id .ok 0 (u8 (t.prot.get x).st.code ++ fb (hallNow s x))) (weldChecked s x)) := by
  show execWeldCheck x s = _
  unfold execWeldCheck
  simp only [awaited]
  rw [if_neg (by simp [run, due])]
  rfl

/-- R322: a current still flowing 100 ms after the opening inhibits closing. -/
theorem weldCheck_judges {s : State} {x : Ix} {l : List Nat} (run : running s = true) (awaited : (s.prot.get x).weldFor = some l)
    (due : passed s (s.prot.get x).weldUp (ms 100) = true) :
    runs (.weldCheck x) s fun t => (t.prot.get x).weldFor = none ∧
      ((s.prot.get x).weldLow = false → parR s 0x0B33 < absR (F32.toRat (hallNow s x)) →
        (t.prot.get x).inhWeld = true ∧ newest t 203 = some (ux x ++ fb (hallNow s x))) ∧
      ((s.prot.get x).weldLow = true → (t.prot.get x).inhWeld = (s.prot.get x).inhWeld ∧ newest t 203 = newest s 203) := by
  obtain ⟨strings, events⟩ := endLongs_kept l (weldChecked s x) fun t => u8 (t.prot.get x).st.code ++ fb (hallNow s x)
  have told : newest (weldChecked s x) 203 = if weldFound s x = true then some (ux x ++ fb (hallNow s x)) else newest s 203 := by
    unfold weldChecked raiseIf
    rw [newest_ite, raise_newest]
    rfl
  refine ⟨_, exec_weldCheck_eq run awaited due, ?_⟩
  dsimp only
  rw [strings, weldChecked_string, newest_of_ev events, told]
  refine ⟨rfl, fun high above => ?_, fun low => ?_⟩
  · have found : weldFound s x = true := by simp [weldFound, high, above]
    rw [found, Bool.or_true, if_pos rfl]
    exact ⟨rfl, rfl⟩
  · have unfound : weldFound s x = false := by simp [weldFound, low]
    rw [unfound, Bool.or_false, if_neg Bool.false_ne_true]
    exact ⟨rfl, rfl⟩

/-! ### Closing (R315, R316, R324) -/

theorem stringClose_begins {s : State} {h : Hdr} {k : Nat} (ready : hostReady s h = true) (only : alone s h = true)
    (allowed : closeRefusal s k = 0) :
    runs (.stringClose h k) s fun t => ∃ id, answered t h 0x0071 .accepted 0 id [] ∧
      (t.prot.get (Ix.ofNum k)).close = some { id := id, stage := 0, preUp := 0 } := by
  refine ⟨_, (rfl : exec (.stringClose h k) s = .next _), ?_⟩
  rw [if_neg (by simp [ready])]
  dsimp only
  rw [if_neg (by simp [allowed])]
  refine ⟨_, acceptLong_answered s h 0x0071 (hostReady_portUp ready) only, ?_⟩
  rw [modProt_prot, two_get_modify]

/-- R324: K− read back closed, precharge begins. -/
theorem kNegSettled_precharges {s : State} {x : Ix} {q : CloseSeq} {rd : CoilRead} (drive : drives s = true)
    (closing : (s.prot.get x).close = some q) (stage : q.stage = 1) (settled : passed s q.up (ms (parN s 0x0B30)) = true)
    (closed : coilClosed rd = true) :
    runs (.kNegSettled x rd) s fun t => (t.prot.get x).close = some { q with stage := 2, preUp := s.elec.uptime } ∧
      (t.prot.get x).pre.reqHs = true ∧ (t.prot.get x).pre.reqLs = true := by
  refine ⟨_, (rfl : exec (.kNegSettled x rd) s = .next _), ?_⟩
  simp only [closing]
  rw [if_neg (by simp [drive, stage, settled]), if_neg (by simp [closed])]
  generalize after : modProt s x _ = u
  have strings : stands (ownState (setReq u x .pre true true) x .precharge 1) x = stands u x := by rw [ownState_stands, setReq_stands]
  rw [← after, stands_modProt] at strings
  have coil := ownState_coil (setReq u x .pre true true) x .precharge 1 .pre
  obtain ⟨hs, ls⟩ := setReq_requests u x .pre true true
  rw [← coil] at hs ls
  exact ⟨by rw [← after]; exact congrArg ProtState.close strings, hs, ls⟩

/-- R324: V_PACK and V_LINK equal within the tolerance, K+ is energised. -/
theorem prechargeReached_goesOn {s : State} {x : Ix} {q : CloseSeq} (drive : drives s = true) (closing : (s.prot.get x).close = some q)
    (stage : q.stage = 2) (equal : absR (F32.toRat (packLink s x).1 - F32.toRat (packLink s x).2) ≤ parN s 0x0B31) :
    runs (.prechargeReached x) s fun t => (t.prot.get x).kPos.reqHs = true ∧ (t.prot.get x).kPos.reqLs = true ∧
      (t.prot.get x).close.any (·.stage == 3) = true := by
  refine ⟨_, (rfl : exec (.prechargeReached x) s = .next _), ?_⟩
  simp only [closing]
  rw [if_neg (by simp [drive, stage, equal])]
  generalize after : modProt s x _ = u
  have strings : stands (setReq u x .kPos true true) x = stands u x := setReq_stands u x .kPos true true x
  rw [← after, stands_modProt] at strings
  obtain ⟨hs, ls⟩ := setReq_requests u x .kPos true true
  exact ⟨hs, ls, by rw [← after]; exact congrArg (fun p => p.close.any (·.stage == 3)) strings⟩

/-- R324: a precharge that takes too long ends the sequence. -/
theorem prechargeFail_aborts {s : State} {x : Ix} {q : CloseSeq} (drive : drives s = true) (closing : (s.prot.get x).close = some q)
    (stage : q.stage = 2) (long : passed s q.preUp (ms (parN s 0x0B32)) = true) :
    runs (.prechargeFail x) s fun t => (t.prot.get x).close = none ∧
      newest t 202 = some (ux x ++ fb (packLink s x).1 ++ fb (packLink s x).2) := by
  refine ⟨_, (rfl : exec (.prechargeFail x) s = .next _), ?_⟩
  simp only [closing]
  rw [if_neg (by simp [drive, stage, long])]
  constructor
  · exact congrArg ProtState.close ((ownState_stands _ x .opened 7 x).trans (abortClose_stands _ x 4))
  · rw [ownState_newest_kept (by decide), newest_of_ev (abortClose_ev _ x 4), raise_newest]

/-- R324: K+ read back closed, precharge is de-energised and the sequence ends with the string CLOSED. -/
theorem kPosSettled_closes {s : State} {x : Ix} {q : CloseSeq} {rd : CoilRead} (drive : drives s = true)
    (closing : (s.prot.get x).close = some q) (stage : q.stage = 3) (settled : passed s q.up (ms (parN s 0x0B30)) = true)
    (closed : coilClosed rd = true) :
    runs (.kPosSettled x rd) s fun t => (t.prot.get x).close = none ∧ (t.prot.get x).pre.reqHs = false ∧
      (t.prot.get x).pre.reqLs = false ∧ (s.outr.owner = true → (t.prot.get x).st = .closed) := by
  refine ⟨_, (rfl : exec (.kPosSettled x rd) s = .next _), ?_⟩
  simp only [closing]
  rw [if_neg (by simp [drive, stage, settled]), if_neg (by simp [closed])]
  rw [endLong_prot]
  generalize after : modProt s x _ = u
  have strings : stands (ownState (setReq u x .pre false false) x .closed 1) x = stands u x := by rw [ownState_stands, setReq_stands]
  rw [← after, stands_modProt] at strings
  have coil := ownState_coil (setReq u x .pre false false) x .closed 1 .pre
  obtain ⟨hs, ls⟩ := setReq_requests u x .pre false false
  rw [← coil] at hs ls
  have sameOutr : (setReq u x .pre false false).outr = s.outr := by rw [← after]; exact settleString_outr _ x
  exact ⟨by rw [← after]; exact congrArg ProtState.close strings, hs, ls,
    fun owner => ownState_st (by rw [sameOutr]; exact owner) x .closed 1⟩

/-! ### PROT_RESET (R316, R321, R323, R326) -/

theorem settleString_ev (s : State) (x : Ix) : (settleString s x).ev = s.ev := whole_ev (m := 8192) (by simp) (by decide) (by decide)

/-- A comparator proof leaves the latches of the outrider and what keeps them. -/
theorem proofResult_latches (s : State) (x : Ix) (failed : Option Nat) :
    ((proofResult s x failed).1.prot.get x).live = (s.prot.get x).live ∧
      ((proofResult s x failed).1.prot.get x).loopLive = (s.prot.get x).loopLive := by
  unfold proofResult
  dsimp only
  split
  · rw [raise_prot, modProt_prot, two_get_modify]; exact ⟨rfl, rfl⟩
  · rw [modProt_prot, two_get_modify]; exact ⟨rfl, rfl⟩

/-- R323: what is reset is answered and reported; with nothing live the latches of the outrider end. -/
theorem protReset_resets {s : State} {h : Hdr} {k : Nat} (p : Option Nat) (ready : hostReady s h = true) (only : alone s h = true)
    (string : k < 2) :
    runs (.protReset h k p) s fun t =>
      (∃ cleared kept, answered t h 0x0072 .ok 0 0 (u16 cleared ++ u16 kept) ∧
        newest t 194 = some (ux (Ix.ofNum k) ++ u8 cleared ++ u8 kept)) ∧
      ((s.prot.get (Ix.ofNum k)).live = 0 → (s.prot.get (Ix.ofNum k)).loopLive = false →
        (t.prot.get (Ix.ofNum k)).outrTrip = false ∧ (t.prot.get (Ix.ofNum k)).holdExp = false) := by
  refine ⟨_, (rfl : exec (.protReset h k p) s = .next _), ?_⟩
  rw [if_neg (by simp [ready]), if_neg (by omega)]
  extract_lets x p0 proved p1 quiet fault weld tested cOutr cExp cProc coilOk adopted was reset marked kept p2 cleared keptM told shown
  have untouched : ports proved = ports s ∧ p1.live = (s.prot.get x).live ∧ p1.loopLive = (s.prot.get x).loopLive := by
    simp only [p1, proved]
    split
    · exact ⟨ports_of_view (m := 201990144) (by simp) (by decide), proofResult_latches s x p⟩
    · exact ⟨rfl, rfl, rfl⟩
  obtain ⟨provedPorts, sameLive, sameLoop⟩ := untouched
  have toldPorts : ports told = ports s := (ports_of_view (s := marked) (m := 201981952) (by simp [told]) (by decide)).trans provedPorts
  have shownPorts : ports (settleString shown x) = ports s := by
    refine (settleString_ports shown x).trans (Eq.trans ?_ toldPorts)
    simp only [shown, apply_ite ports, ownState_ports, ite_self]
  have strings : stands (settleString shown x) x = standing (marked.prot.get x) := by
    simp only [settleString_stands, shown, stands_ite, ownState_stands, ite_self, told, raise_stands]
    rfl
  refine ⟨⟨cleared, keptM, respondOk_answered_of_ports 0x0072 _ shownPorts ready only, ?_⟩, fun live loop => ?_⟩
  · rw [newest_of_ev (respondOk_ev _ _ _ _), newest_of_ev (settleString_ev _ _)]
    simp only [shown, newest_ite, ownState_newest_kept (show 194 ∉ roleLossEvents by decide), ite_self, told, raise_newest, x]
  · have silent : quiet = true := by simp [quiet, sameLive, sameLoop, x, live, loop]
    rw [respondOk_prot]
    have trip : (stands (settleString shown x) x).outrTrip = (p1.outrTrip && !cOutr) := by
      rw [strings]; simp only [marked, reset, modProt_prot, two_get_modify]; rfl
    have expiry : (stands (settleString shown x) x).holdExp = (p1.holdExp && !cExp) := by
      rw [strings]; simp only [marked, reset, modProt_prot, two_get_modify]; rfl
    refine ⟨trip.trans ?_, expiry.trans ?_⟩
    · simp [cOutr, silent]
    · simp [cExp, silent]

/-- Settles O20: one theorem above for each clause, in the order of the commands. -/
theorem stringCommandsTakeEffect : Obligations.StringCommandsTakeEffect := by
  refine ⟨?opening, ?low, ?weld, ?closing, ?kNeg, ?reached, ?fail, ?kPos, ?reset⟩
  case opening => intro s h k; exact stringOpen_begins
  case low => intro s x q; exact openCurrentLow_opens
  case weld => intro s x l; exact weldCheck_judges
  case closing => intro s h k; exact stringClose_begins
  case kNeg => intro s x q rd; exact kNegSettled_precharges
  case reached => intro s x q; exact prechargeReached_goesOn
  case fail => intro s x q; exact prechargeFail_aborts
  case kPos => intro s x q rd; exact kPosSettled_closes
  case reset => intro s h k p; exact protReset_resets p

end Sys2Proof.Proofs

/-! PROOFS. The heartbeat, the ownership line and the holds of the outrider (R327 to R332, R341, R343, R504): what each operation makes of the
outrider, then one theorem per command, and O21 from these. -/

namespace Sys2Proof.Proofs

open Sys2Proof Sys2Proof.Machine Sys2Proof.Laws

/-! ### What each operation makes of the outrider -/

theorem judgeState_outr (s : State) (x : Ix) : (judgeState s x).outr = s.outr := same_outr (m := 201990144) (by simp) (by decide)
theorem stateAfterHold_outr (s : State) (x : Ix) (cause : Nat) : (stateAfterHold s x cause).outr = s.outr :=
  same_outr (m := 201990144) (by simp) (by decide)
theorem readPartner_outr (s : State) : (readPartner s).outr = s.outr := same_outr (m := 8192) (by simp) (by decide)
theorem arbitrateActive_outr (s : State) : (arbitrateActive s).outr = s.outr := same_outr (m := 202080260) (by simp) (by decide)
theorem raiseOrDefer_pair (s : State) (e : Nat) (d : List Byte) : (raiseOrDefer s e d).pair = s.pair :=
  same_pair (m := 201981952) (by simp) (by decide)
theorem raiseOrDefer_elec (s : State) (e : Nat) (d : List Byte) : (raiseOrDefer s e d).elec = s.elec :=
  same_elec (m := 201981952) (by simp) (by decide)
theorem settleCoils_elec (s : State) : (settleCoils s).elec = s.elec := same_elec (m := 8192) (by simp) (by decide)
theorem beginHold_pair (s : State) (c : HoldCause) : (beginHold s c).pair = s.pair := same_pair (m := 202006528) (by simp) (by decide)
theorem expireString_outr (s : State) (x : Ix) : (expireString s x).outr = s.outr := same_outr (m := 202252288) (by simp) (by decide)

theorem beginHold_outr (s : State) (c : HoldCause) : (beginHold s c).outr = { s.outr with hold := c, restart := c == .restart } := by
  unfold beginHold
  dsimp only
  rw [raiseOrDefer_outr, judgeState_outr, judgeState_outr, settleCoils_outr]

theorem judgeBlock_outr (s : State) : ∃ b, (judgeBlock s).outr = { s.outr with block := b } := by
  unfold judgeBlock
  split
  · exact ⟨true, raise_outr _ 207 _⟩
  · exact ⟨s.outr.block, rfl⟩

/-- Releasing the line as far as the end of the hold in progress. -/
def holdReleased (s : State) : State :=
  let s := settleCoils s
  if s.outr.hold = .none then s else raiseOrDefer s 196 (u8 s.outr.hold.evCode ++ u8 (heldMask s) ++ u8 0 ++ u8 3)

theorem holdReleased_kept (s : State) : (holdReleased s).outr = s.outr ∧ (holdReleased s).elec = s.elec := by
  unfold holdReleased
  dsimp only
  split
  · exact ⟨settleCoils_outr s, settleCoils_elec s⟩
  · rw [raiseOrDefer_outr, raiseOrDefer_elec]
    exact ⟨settleCoils_outr s, settleCoils_elec s⟩

/-- The outrider once it has released the line at an UPTIME (R331, R342). -/
def lineGivenUp (o : OutrState) (up : Nat) : OutrState :=
  { o with owner := false, asserting := false, line := .free, overlap := true, hold := .none, released := some up }

theorem releaseLine_eq (s : State) : releaseLine s = judgeBlock (readPartner (settleCoils { holdReleased s with
    outr := lineGivenUp (holdReleased s).outr (holdReleased s).elec.uptime,
    pair := { (holdReleased s).pair with req := (holdReleased s).pair.req.map fun q => { q with gone := true } } })) := rfl

theorem releaseLine_outr (s : State) : ∃ b, (releaseLine s).outr = { lineGivenUp s.outr s.elec.uptime with block := b } := by
  obtain ⟨sameOutr, sameElec⟩ := holdReleased_kept s
  rw [releaseLine_eq]
  generalize holdReleased s = ended at sameOutr sameElec
  obtain ⟨b, judged⟩ := judgeBlock_outr (readPartner (settleCoils { ended with
    outr := lineGivenUp ended.outr ended.elec.uptime,
    pair := { ended.pair with req := ended.pair.req.map fun q => { q with gone := true } } }))
  refine ⟨b, judged.trans ?_⟩
  rw [readPartner_outr, settleCoils_outr]
  dsimp only
  rw [sameOutr, sameElec]

theorem assertTakeover_outr (s : State) (retake : Bool) : (assertTakeover s retake).outr =
    { s.outr with asserting := true, released := none, hold := .takeover, restart := false } := beginHold_outr _ .takeover
theorem assertTakeover_retake (s : State) (retake : Bool) : (assertTakeover s retake).pair.retake = retake :=
  congrArg PairState.retake (beginHold_pair _ .takeover)

/-- R48, R328: a free line is taken or stays free; nothing else of the outrider is concerned. -/
theorem takeFreeLine_outr (s : State) : (takeFreeLine s).outr = s.outr ∨
    (takeFreeLine s).outr = { s.outr with asserting := true, released := none, hold := .takeover, restart := false } := by
  unfold takeFreeLine
  split
  · exact .inr (assertTakeover_outr s false)
  · exact .inl rfl

theorem takeFreeLine_takes {s : State} (may : mayAssert s = true) (free : s.outr.line = .free) (unreleased : s.outr.released = none)
    (other : s.outr.owner = false) : takeFreeLine s = assertTakeover s false := by
  unfold takeFreeLine
  rw [if_pos (by simp [may, free, unreleased, other])]

/-- R330: no hold is in progress once one has ended. -/
theorem endHold_hold (s : State) (how cause : Nat) : (endHold s how cause).outr.hold = .none := by
  unfold endHold
  split
  next free => exact free
  · dsimp only
    rw [settleCoils_outr, stateAfterHold_outr, stateAfterHold_outr, raiseOrDefer_outr]

/-! ### The heartbeat (R327, R331) -/

theorem heartbeatAnswer_accepts {s : State} {a us' : Nat} (run : running s = true) (judged : hbSuspended s = false)
    (right : a = hbAnswer s.outr.chal) (inTime : s.outr.timed = false ∨ (2000 ≤ us' ∧ us' ≤ 20000)) :
    runs (.heartbeatAnswer a us') s fun t => t.outr.chal = hbNext s.outr.chal ∧ t.outr.goodRun = min 3 (s.outr.goodRun + 1) := by
  have early : ¬ (s.outr.timed && decide (us' < 2000)) = true := by
    rcases inTime with untimed | ⟨low, high⟩
    · simp [untimed]
    · simp [not_lt.mpr low]
  have late : ¬ (s.outr.timed && decide (20000 < us')) = true := by
    rcases inTime with untimed | ⟨low, high⟩
    · simp [untimed]
    · simp [not_lt.mpr high]
  refine ⟨_, (rfl : exec (.heartbeatAnswer a us') s = .next _), ?_⟩
  rw [if_neg (by simp [run]), if_neg (by simp [judged]), if_neg (not_not.mpr right), if_neg early, if_neg late]
  rcases takeFreeLine_outr (hbAccept s) with same | taken
  · rw [same]; exact ⟨rfl, rfl⟩
  · rw [taken]; exact ⟨rfl, rfl⟩

/-- The outrider as a failed heartbeat finds it (R327). -/
def hbFailed (s : State) (kind : Nat) : State :=
  raiseOrDefer { s with outr := { s.outr with
    hbGood := false, hbFail := true, failCnt := sat 0xFF (s.outr.failCnt + 1), goodRun := 0, timed := false } } 195 (u8 kind ++ u8 s.outr.chal)

theorem hbFailed_outr (s : State) (kind : Nat) : (hbFailed s kind).outr = { s.outr with
    hbGood := false, hbFail := true, failCnt := sat 0xFF (s.outr.failCnt + 1), goodRun := 0, timed := false } := raiseOrDefer_outr _ _ _

theorem hbFails_eq (s : State) (kind : Nat) : hbFails s kind =
    if !(hbFailed s kind).outr.owner then hbFailed s kind
    else if (hbFailed s kind).outr.partnerReady then releaseLine (hbFailed s kind)
    else if (hbFailed s kind).outr.hold = .none then beginHold (hbFailed s kind) .heartbeat
    else hbFailed s kind := rfl

/-- A failed heartbeat is counted, and the challenge stays. -/
theorem hbFails_counts (s : State) (kind : Nat) : (hbFails s kind).outr.hbGood = false ∧ (hbFails s kind).outr.timed = false ∧
    (hbFails s kind).outr.failCnt = sat 0xFF (s.outr.failCnt + 1) ∧ (hbFails s kind).outr.chal = s.outr.chal := by
  have failed := hbFailed_outr s kind
  rw [hbFails_eq]
  split
  · rw [failed]; exact ⟨rfl, rfl, rfl, rfl⟩
  · split
    · obtain ⟨b, released⟩ := releaseLine_outr (hbFailed s kind)
      rw [released, failed]
      exact ⟨rfl, rfl, rfl, rfl⟩
    · split
      · rw [beginHold_outr, failed]; exact ⟨rfl, rfl, rfl, rfl⟩
      · rw [failed]; exact ⟨rfl, rfl, rfl, rfl⟩

/-- R331: an owner whose heartbeat fails releases the line to a partner that is READY. -/
theorem hbFails_releases {s : State} (kind : Nat) (owner : s.outr.owner = true) (ready : s.outr.partnerReady = true) :
    (hbFails s kind).outr.owner = false := by
  obtain ⟨b, released⟩ := releaseLine_outr (hbFailed s kind)
  rw [hbFails_eq, if_neg (by rw [hbFailed_outr]; simp [owner]), if_pos (by rw [hbFailed_outr]; exact ready), released]
  rfl

/-- R330: with no partner that is READY it begins a heartbeat hold. -/
theorem hbFails_holds {s : State} (kind : Nat) (owner : s.outr.owner = true) (ready : s.outr.partnerReady = false)
    (free : s.outr.hold = .none) : (hbFails s kind).outr.hold = .heartbeat := by
  rw [hbFails_eq, if_neg (by rw [hbFailed_outr]; simp [owner]), if_neg (by rw [hbFailed_outr]; simp [ready]),
    if_pos (by rw [hbFailed_outr]; exact free), beginHold_outr]

theorem heartbeatAnswer_fails {s : State} {a us' : Nat} (run : running s = true) (judged : hbSuspended s = false)
    (wrong : a ≠ hbAnswer s.outr.chal) :
    runs (.heartbeatAnswer a us') s fun t => t.outr.hbGood = false ∧ t.outr.failCnt = sat 0xFF (s.outr.failCnt + 1) ∧
      t.outr.chal = s.outr.chal := by
  refine ⟨_, (rfl : exec (.heartbeatAnswer a us') s = .next _), ?_⟩
  rw [if_neg (by simp [run]), if_neg (by simp [judged]), if_pos wrong]
  obtain ⟨good, -, count, chal⟩ := hbFails_counts s 1
  exact ⟨good, count, chal⟩

theorem heartbeatLate_fails {s : State} (power : s.elec.powered = true) (timed : s.outr.timed = true) (judged : hbSuspended s = false) :
    runs .heartbeatLate s fun t => t.outr.hbGood = false ∧ t.outr.timed = false ∧
      (s.outr.owner = true → s.outr.partnerReady = true → t.outr.owner = false) ∧
      (s.outr.owner = true → s.outr.partnerReady = false → s.outr.hold = .none → t.outr.hold = .heartbeat) := by
  refine ⟨_, (rfl : exec .heartbeatLate s = .next _), ?_⟩
  rw [if_pos (by simp [power, timed, judged])]
  obtain ⟨good, untimed, -, -⟩ := hbFails_counts s 3
  exact ⟨good, untimed, hbFails_releases 3, hbFails_holds 3⟩

/-- R331: in a heartbeat hold the owner releases the line once its partner is READY. -/
theorem partnerReadyChange_takes {s : State} (b : Bool) (power : s.elec.powered = true) :
    runs (.partnerReadyChange b) s fun t => t.outr.partnerReady = b ∧
      (b = true → s.outr.owner = true → s.outr.hold = .heartbeat → t.outr.owner = false ∧ t.outr.hold = .none) := by
  refine ⟨_, (rfl : exec (.partnerReadyChange b) s = .next _), ?_⟩
  rw [if_neg (by simp [power])]
  dsimp only
  split
  · obtain ⟨block, released⟩ := releaseLine_outr { s with outr := { s.outr with partnerReady := b } }
    rw [released]
    exact ⟨rfl, fun _ _ _ => ⟨rfl, rfl⟩⟩
  next stays => exact ⟨rfl, fun ready owner hold => absurd (by simp [ready, owner, hold]) stays⟩

/-! ### The ownership line (R328, R341, R343, R504) -/

theorem ownershipLineFree_takes {s : State} (power : s.elec.powered = true) (other : s.outr.owner = false) :
    runs .ownershipLineFree s fun t => t.outr.line = .free ∧
      (mayAssert s = true → s.outr.released = none → t.outr.asserting = true ∧ t.outr.hold = .takeover) := by
  refine ⟨_, (rfl : exec .ownershipLineFree s = .next _), ?_⟩
  rw [if_neg (by simp [power, other])]
  dsimp only
  constructor
  · rcases takeFreeLine_outr { s with outr := { s.outr with line := .free } } with same | taken
    · rw [same]
    · rw [taken]
  · intro may unreleased
    rw [takeFreeLine_takes (s := { s with outr := { s.outr with line := .free } }) may rfl unreleased other, assertTakeover_outr]
    exact ⟨rfl, rfl⟩

theorem partnerAsserts_outr (s : State) : (partnerAsserts s).outr = { s.outr with seenOwned := true, released := none } := by
  unfold partnerAsserts
  dsimp only
  split
  · split
    · exact same_outr (s := { s with
        outr := { s.outr with seenOwned := true, released := none } }) (m := 294912) (by simp) (by decide)
    · rfl
  · rfl

theorem loseTie_outr (s : State) : (loseTie s).outr = { s.outr with asserting := false, hold := .none } := by
  unfold loseTie
  dsimp only
  split
  · rfl
  · rw [raiseOrDefer_outr]

theorem lineFault_outr (s : State) (l : OwnLine) : (lineFault s l).outr = s.outr := raiseOrDefer_outr _ _ _
theorem lineFault_set (s : State) (l : OwnLine) : (lineFault s l).pair.lineFault = true :=
  congrArg PairState.lineFault (raiseOrDefer_pair _ _ _)

theorem ownershipLineAsserted_reads {s : State} {l : OwnLine} (power : s.elec.powered = true) (owned : l ≠ .free) :
    runs (.ownershipLineAsserted l) s fun t => t.outr.line = l ∧ (lineFaulty s l = true → t.pair.lineFault = true) ∧
      (lineFaulty s l = false → l = partnerReading s → t.outr.seenOwned = true) := by
  refine ⟨_, (rfl : exec (.ownershipLineAsserted l) s = .next _), ?_⟩
  rw [if_neg (by simp [power, owned])]
  extract_lets faulty was _ read tied
  split
  next fault =>
    rw [lineFault_outr, lineFault_set]
    exact ⟨rfl, fun _ => rfl, fun sound => absurd fault (by simp [faulty, sound])⟩
  next sound =>
    split
    next partner =>
      have line : tied.outr.line = l := by
        simp only [tied]
        split
        · rw [loseTie_outr]
        · rfl
      rw [partnerAsserts_outr]
      exact ⟨line, fun fault => absurd fault sound, fun _ _ => rfl⟩
    next own => exact ⟨rfl, fun fault => absurd fault sound, fun _ partner => absurd (beq_iff_eq.mpr partner) own⟩

/-- R341: the outrider that asserted and reads its own level owns the line. -/
theorem ownerQualified_owns {s : State} (power : s.elec.powered = true) (asserting : s.outr.asserting = true)
    (other : s.outr.owner = false) : runs .ownerQualified s fun t => t.outr.owner = true ∧ t.outr.line = ownReading s := by
  refine ⟨_, (rfl : exec .ownerQualified s = .next _), ?_⟩
  rw [if_pos (by simp [power, asserting, other])]
  extract_lets _ settled judged
  have outr : judged.outr = { s.outr with owner := true, line := ownReading s, block := false } := by
    simp only [judged, settled]
    rw [judgeState_outr, judgeState_outr, settleCoils_outr]
  have same : (if (running judged && judged.pair.arbitrating && judged.pair.role != .isolated) = true then arbitrateActive judged
      else judged).outr = judged.outr := by
    rw [apply_ite State.outr, arbitrateActive_outr, ite_self]
  dsimp only
  rw [same, outr]
  exact ⟨rfl, rfl⟩

/-- R331: the coils of a releasing outrider fall open unless the partner asserts the line. -/
theorem releaseOverlapEnd_stops {s : State} (overlap : s.outr.overlap = true) :
    runs .releaseOverlapEnd s fun t => t.outr.overlap = false ∧
      (partnerOwns s = false → ∀ x c, ((t.prot.get x).coil c).energised = false ∧ ((t.prot.get x).coil c).holdBit = false) := by
  refine ⟨_, (rfl : exec .releaseOverlapEnd s = .next _), ?_⟩
  rw [if_neg (by simp [overlap])]
  dsimp only
  split
  next partner => exact ⟨rfl, fun unowned => absurd partner (Bool.eq_false_iff.mp unowned)⟩
  · exact ⟨rfl, fun _ x c => by cases x <;> cases c <;> exact ⟨rfl, rfl⟩⟩

/-- The release request dropped, its HANDOVERs FAILED. -/
def requestDropped (s : State) : State :=
  match s.pair.req with
  | none => s
  | some q => q.ids.foldl (fun s i => endLong s i .failed 0 []) { s with pair := { s.pair with req := none } }

theorem exec_releaseRetake_eq {s : State} {u : Nat} (power : s.elec.powered = true) (may : mayAssert s = true)
    (free : s.outr.line = .free) (released : s.outr.released = some u) (long : passed s u (sec 2) = true) :
    exec .releaseRetake s = .next (assertTakeover (requestDropped s) true) := by
  have due : (s.elec.powered && mayAssert s && s.outr.line == .free && s.outr.released.any fun u => passed s u (sec 2)) = true := by
    rw [released, free, power, may, Option.any_some, long]
    rfl
  show execReleaseRetake s = _
  unfold execReleaseRetake
  rw [if_pos due]
  rfl

/-- R504: a line that no partner took up is taken back 2 s after the release. -/
theorem releaseRetake_asserts {s : State} {u : Nat} (power : s.elec.powered = true) (may : mayAssert s = true)
    (free : s.outr.line = .free) (released : s.outr.released = some u) (long : passed s u (sec 2) = true) :
    runs .releaseRetake s fun t => t.outr.asserting = true ∧ t.outr.hold = .takeover ∧ t.pair.retake = true := by
  refine ⟨_, exec_releaseRetake_eq power may free released long, ?_⟩
  dsimp only
  rw [assertTakeover_outr, assertTakeover_retake]
  exact ⟨rfl, rfl, rfl⟩

/-! ### Holds (R330, R332) -/

theorem expireString_eq (s : State) (x : Ix) : expireString s x =
    latchedOff s x fun p => { p with holdExp := true, report := p.report ||| 0x40 } := rfl

theorem expireString_holdExp (s : State) (x : Ix) : (stands (expireString s x) x).holdExp = true := by
  obtain ⟨q, after⟩ := latchedOff_stands s x fun p => { p with holdExp := true, report := p.report ||| 0x40 }
  rw [expireString_eq, after]
  rfl

theorem noSwitchConducts_of_holdExp {s : State} {x : Ix} (expired : (stands s x).holdExp = true) : noSwitchConducts s x = true :=
  noSwitchConducts_of_latched (by unfold outrLatched; rw [expired, Bool.or_true])

/-- R330: a hold that expires latches both strings off. -/
theorem holdExpiry_latches {s : State} (power : s.elec.powered = true) (held : s.outr.hold ≠ .none) :
    runs .holdExpiry s fun t => t.outr.hold = .none ∧ t.prot.zero.holdExp = true ∧ t.prot.one.holdExp = true ∧
      noSwitchConducts t .zero = true ∧ noSwitchConducts t .one = true := by
  refine ⟨_, (rfl : exec .holdExpiry s = .next _), ?_⟩
  rw [if_neg (by simp [power, held])]
  extract_lets mask _ ended _ timed
  generalize after : settleCoils (expireString (expireString timed .zero) .one) = t
  have hold : t.outr.hold = .none := by
    rw [← after, settleCoils_outr, expireString_outr, expireString_outr]
    simp only [timed, ended]
    rw [raiseOrDefer_outr]
  have one : (stands t .one).holdExp = true := by rw [← after, settleCoils_stands]; exact expireString_holdExp _ .one
  have zero : (stands t .zero).holdExp = true := by
    rw [← after, settleCoils_stands]
    unfold stands
    rw [expireString_eq (expireString timed .zero), latchedOff_other _ _ (show Ix.zero ≠ Ix.one by decide)]
    exact expireString_holdExp timed .zero
  exact ⟨hold, zero, one, noSwitchConducts_of_holdExp zero, noSwitchConducts_of_holdExp one⟩

theorem acknowledge_hold (s : State) : (acknowledge s).outr.hold = .none := by
  unfold acknowledge
  dsimp only
  split
  · exact endHold_hold _ 1 _
  · exact endHold_hold _ 1 _

/-- R332: each hold is acknowledged once what it waits for has come. -/
theorem holdAck_ends {s : State} (run : running s = true)
    (due : (s.outr.hold = .takeover ∧ isActive s = true ∧ s.outr.owner = true ∧ gapMayEnd s = true) ∨
      (s.outr.hold = .heartbeat ∧ s.outr.hbGood = true) ∨ (s.outr.hold = .restart ∧ 9 ≤ s.elec.step)) :
    runs .holdAck s fun t => t.outr.hold = .none := by
  have outcome : exec .holdAck s = .next (acknowledge s) := by
    show execHoldAck s = _
    unfold execHoldAck
    rcases due with ⟨hold, active, owner, gap⟩ | ⟨hold, good⟩ | ⟨hold, step⟩
    · simp [hold, run, active, owner, gap]
    · simp [hold, run, good]
    · simp [hold, run, step]
  exact ⟨_, outcome, acknowledge_hold s⟩

/-- R330: while the outrider drives from the hold bits, a string whose bits are cleared is off. -/
theorem holdDrop_drops {s : State} {x : Ix} (run : running s = true) (driven : fromHoldBits s = true) :
    runs (.holdDrop x) s fun t => noSwitchConducts t x = true ∧ ∀ c, ((t.prot.get x).coil c).holdBit = false := by
  refine ⟨_, (rfl : exec (.holdDrop x) s = .next _), ?_⟩
  rw [if_pos run]
  have cleared := dropHoldBits_unheld_of_driven x driven
  exact ⟨noSwitchConducts_of_unheld ((fromHoldBits_of_outr (dropHoldBits_outr s x)).trans driven) cleared, cleared⟩

/-- Settles O21: one theorem above for each clause, in the order of the commands. -/
theorem outriderCommandsTakeEffect : Obligations.OutriderCommandsTakeEffect := by
  refine ⟨?answer, ?wrong, ?late, ?ready, ?free, ?asserted, ?qualified, ?overlap, ?retake, ?expiry, ?ack, ?drop⟩
  case answer => intro s a us'; exact heartbeatAnswer_accepts
  case wrong => intro s a us'; exact heartbeatAnswer_fails
  case late => intro s; exact heartbeatLate_fails
  case ready => intro s b; exact partnerReadyChange_takes b
  case free => intro s; exact ownershipLineFree_takes
  case asserted => intro s l; exact ownershipLineAsserted_reads
  case qualified => intro s; exact ownerQualified_owns
  case overlap => intro s; exact releaseOverlapEnd_stops
  case retake => intro s u; exact releaseRetake_asserts
  case expiry => intro s; exact holdExpiry_latches
  case ack => intro s; exact holdAck_ends
  case drop => intro s x; exact holdDrop_drops

end Sys2Proof.Proofs

/-! PROOFS. The byte stores (R348, R449, R456, R458): what STATE_REC and UPD_BLOCK write into them, what every command does to their
canonical form, and O49 and O45 from these. -/

namespace Sys2Proof.Proofs

open Sys2Proof Sys2Proof.Machine Sys2Proof.Laws

/-! ### The stores in the state -/

/-- The byte stores: the mask leaves out every other part, so that the frame lemma of an operation that touches none of them shows that it
keeps them all. -/
abbrev stores (s : State) : View := view 251657726 s

theorem peerBuf_of_stores {s t : State} (h : stores t = stores s) : t.est.peerBuf = s.est.peerBuf := same_peerBuf h (by decide)
theorem image_of_stores {s t : State} (h : stores t = stores s) : t.upd.image = s.upd.image :=
  congrArg Prod.fst (same_stores h (by decide))
theorem modelArea_of_stores {s t : State} (h : stores t = stores s) : t.upd.modelArea = s.upd.modelArea :=
  congrArg Prod.snd (same_stores h (by decide))

theorem memsOk_iff {s : State} : memsOk s = true ↔ (∀ k, (s.est.peerBuf.get k).wf 0 = true) ∧
    (∀ k, (s.upd.image.get k).wf 0xFF = true) ∧ s.upd.modelArea.wf 0xFF = true := by
  have both (p : Ix → Prop) : (∀ k, p k) ↔ p .zero ∧ p .one := ⟨fun h => ⟨h _, h _⟩, fun h k => by cases k; exacts [h.1, h.2]⟩
  simp only [memsOk, Bool.and_eq_true, both, Two.get, and_assoc]

theorem wf_set {d : Byte} {two : Two Mem} {i : Ix} {m : Mem} (all : ∀ k, (two.get k).wf d = true) (new : m.wf d = true) (k : Ix) :
    ((two.set i m).get k).wf d = true := by
  by_cases same : k = i
  · rwa [same, two_get_set]
  · rw [two_get_set_other _ _ same]; exact all k

/-! ### What STATE_REC and UPD_BLOCK write -/

theorem targetMem_canonical {s : State} (h : memsOk s = true) (j : Journal) : (targetMem s j).wf 0xFF = true := by
  obtain ⟨-, image, model⟩ := memsOk_iff.mp h
  unfold targetMem
  split
  · exact image j.slot
  · exact model

/-- The buffer of the partner's records that a frame names, with the frame's bytes written. -/
def frameWritten (f : PeerFrame) (s : State) : State :=
  let k := Ix.ofNum (byteAt f.payload 0)
  { s with est := { s.est with
      peerBuf := s.est.peerBuf.set k (Mem.writeAll 0 (s.est.peerBuf.get k) (beAt f.payload 1 4) (f.payload.drop 5)) } }

/-- R348: STATE_REC leaves the stores as they are, or writes its frame's bytes. -/
theorem execStateRec_stores {f : PeerFrame} {s t : State} (h : execStateRec f s = .next t) :
    stores t = stores s ∨ stores t = stores (frameWritten f s) := by
  cases h
  split
  · exact .inl rfl
  split
  · exact .inl (by simp)
  dsimp only
  split
  · exact .inl rfl
  · exact .inr (by split <;> simp [frameWritten])

/-- The target of the session with a block's bytes written. -/
def blockWritten (off : Nat) (d : List Byte) (s : State) : State :=
  setTarget s (curJournal s) (Mem.writeAll 0xFF (targetMem s (curJournal s)) off d)

theorem programBlock_stores (s : State) (h : Hdr) (off crc : Nat) (d : List Byte) :
    stores (programBlock (touchLock s h) (curJournal (touchLock s h)) off crc d) = stores (blockWritten off d s) := by
  have journal : curJournal (touchLock s h) = curJournal s := rfl
  rw [journal]
  unfold programBlock blockWritten setTarget
  split <;> rfl

/-- R458: UPD_BLOCK leaves the stores as they are, or writes its block into the target of the session. -/
theorem execUpdBlock_stores {h : Hdr} {off crc : Nat} (ad : Nat) {d : List Byte} {s t : State}
    (ran : execUpdBlock h off ad crc d s = .next t) :
    stores t = stores s ∨ stores t = stores (blockWritten off d s) := by
  cases ran
  split
  · exact .inl rfl
  split
  · exact .inl (by simp)
  split
  · exact .inl (by simp)
  dsimp only
  split
  · exact .inl (by simp)
  split
  · exact .inl (by simp)
  split
  · exact .inl (by simp)
  split
  · exact .inl (by split <;> simp)
  split
  · exact .inl (by simp)
  · exact .inr ((respondOk_view _ _ h 0x0121 [] (by decide)).trans (programBlock_stores s h off crc d))

/-! ### Every byte elsewhere (R348, R458) -/

theorem read_frameWritten {f : PeerFrame} {s : State} (canonical : memsOk s = true) (k : Ix) (a : Nat)
    (outside : k = Ix.ofNum (byteAt f.payload 0) → a < beAt f.payload 1 4 ∨ beAt f.payload 1 4 + (f.payload.drop 5).length ≤ a) :
    Mem.read 0 ((frameWritten f s).est.peerBuf.get k) a = Mem.read 0 (s.est.peerBuf.get k) a := by
  by_cases named : k = Ix.ofNum (byteAt f.payload 0)
  · obtain ⟨peer, -, -⟩ := memsOk_iff.mp canonical
    rw [frameWritten, named, two_get_set]
    exact read_writeAll_other _ (peer _) (outside named)
  · rw [frameWritten, two_get_set_other _ _ named]

theorem setTarget_image {s : State} {j : Journal} {m : Mem} (k : Ix) :
    (setTarget s j m).upd.image.get k = if j.imgType = 1 ∧ k = j.slot then m else s.upd.image.get k := by
  unfold setTarget
  by_cases firmware : j.imgType = 1
  · by_cases slot : k = j.slot
    · simp [firmware, slot]
    · simp [firmware, slot]
  · simp [firmware]

theorem setTarget_modelArea {s : State} {j : Journal} {m : Mem} :
    (setTarget s j m).upd.modelArea = if j.imgType = 1 then s.upd.modelArea else m := by
  unfold setTarget
  split <;> rfl

theorem read_blockWritten_image {off : Nat} {d : List Byte} {s : State} (canonical : memsOk s = true) (k : Ix) (a : Nat)
    (outside : (curJournal s).imgType = 1 → k = (curJournal s).slot → a < off ∨ off + d.length ≤ a) :
    Mem.read 0xFF ((blockWritten off d s).upd.image.get k) a = Mem.read 0xFF (s.upd.image.get k) a := by
  rw [blockWritten, setTarget_image]
  split
  · next target =>
    obtain ⟨firmware, slot⟩ := target
    rw [read_writeAll_other d (targetMem_canonical canonical _) (outside firmware slot), targetMem, if_pos firmware, slot]
  · rfl

theorem read_blockWritten_modelArea {off : Nat} {d : List Byte} {s : State} (canonical : memsOk s = true) (a : Nat)
    (outside : (curJournal s).imgType ≠ 1 → a < off ∨ off + d.length ≤ a) :
    Mem.read 0xFF (blockWritten off d s).upd.modelArea a = Mem.read 0xFF s.upd.modelArea a := by
  rw [blockWritten, setTarget_modelArea]
  split
  · rfl
  · next model =>
    rw [read_writeAll_other d (targetMem_canonical canonical _) (outside model), targetMem, if_neg model]

/-- Settles O45: each of the two commands leaves the stores, or writes its bytes, and the bytes elsewhere read as before. -/
theorem storesChangeOnlyWhereWritten : Obligations.StoresChangeOnlyWhereWritten := by
  refine ⟨fun f s t canonical ran k a outside => ?record,
    fun h off ad crc d s t canonical ran => ⟨fun k a outside => ?image, fun a outside => ?model⟩⟩
  case record =>
    obtain kept | written := execStateRec_stores ran
    · rw [peerBuf_of_stores kept]
    · rw [peerBuf_of_stores written, read_frameWritten canonical k a outside]
  case image =>
    obtain kept | written := execUpdBlock_stores ad ran
    · rw [image_of_stores kept]
    · rw [image_of_stores written, read_blockWritten_image canonical k a outside]
  case model =>
    obtain kept | written := execUpdBlock_stores ad ran
    · rw [modelArea_of_stores kept]
    · rw [modelArea_of_stores written, read_blockWritten_modelArea canonical a outside]

/-! ### Operations and canonical form -/

/-- Where the stores of `s` are in canonical form, those of `t` are. -/
def KeepsCanonical (s t : State) : Prop := memsOk s = true → memsOk t = true

namespace KeepsCanonical

variable {s t u : State}

theorem refl (s : State) : KeepsCanonical s s := id
theorem trans (first : KeepsCanonical s t) (second : KeepsCanonical t u) : KeepsCanonical s u := second ∘ first
theorem ite {c : Prop} [Decidable c] (yes : KeepsCanonical s t) (no : KeepsCanonical s u) : KeepsCanonical s (if c then t else u) := by
  split <;> assumption

theorem of_view (h : stores t = stores s) : KeepsCanonical s t := by
  intro canonical
  rw [memsOk_iff] at canonical ⊢
  rwa [peerBuf_of_stores h, image_of_stores h, modelArea_of_stores h]

end KeepsCanonical

theorem setTarget_keepsCanonical (s : State) (j : Journal) {m : Mem} (canonical : m.wf 0xFF = true) :
    KeepsCanonical s (setTarget s j m) := by
  intro before
  obtain ⟨peer, image, model⟩ := memsOk_iff.mp before
  unfold setTarget
  split
  · exact memsOk_iff.mpr ⟨peer, wf_set image canonical, model⟩
  · exact memsOk_iff.mpr ⟨peer, image, canonical⟩

theorem blockWritten_keepsCanonical (off : Nat) (d : List Byte) (s : State) : KeepsCanonical s (blockWritten off d s) :=
  fun before => setTarget_keepsCanonical s _ (wf_writeAll off d (targetMem_canonical before _)) before

theorem frameWritten_keepsCanonical (f : PeerFrame) (s : State) : KeepsCanonical s (frameWritten f s) := by
  intro before
  obtain ⟨peer, image, model⟩ := memsOk_iff.mp before
  exact memsOk_iff.mpr ⟨wf_set peer (wf_writeAll _ _ (peer _)), image, model⟩

/-- R456: the blocks that are kept are some of the bytes of the target. -/
theorem resumeSession_keepsCanonical (s : State) (h : Hdr) : KeepsCanonical s (resumeSession s h) := by
  have kept : KeepsCanonical s (setTarget s (curJournal s)
      ((targetMem s (curJournal s)).filter fun p => (curJournal s).blocks.contains (p.1 / 4096))) :=
    fun before => setTarget_keepsCanonical s _ (wfFrom_filter _ (targetMem_canonical before _)) before
  exact kept.trans (.of_view (sessionEvent_view _ _ h 2 _ _ (by decide)))

/-- R456: the whole target is erased. -/
theorem newSession_keepsCanonical (s : State) (h : Hdr) (imgType imageLen version manifestCrc : Nat) :
    KeepsCanonical s (newSession s h imgType imageLen version manifestCrc) := by
  unfold newSession
  extract_lets idle j written unselected erased upd versions
  have prepared : KeepsCanonical s unselected := .of_view (by
    simp only [unselected]
    split
    · simp [written]
    · split <;> simp [written])
  have erases : KeepsCanonical unselected erased := setTarget_keepsCanonical _ _ rfl
  exact prepared.trans (erases.trans (.of_view (by simp [versions, upd])))

/-! ### Restarts: MRAM and NOR flash stay, the partner's records go -/

theorem keepsCanonical_of_flash {s t : State} (fresh : t.est.peerBuf = Two.both []) (flash : t.upd = keepUpd s) : KeepsCanonical s t := by
  intro before
  obtain ⟨-, image, model⟩ := memsOk_iff.mp before
  exact memsOk_iff.mpr ⟨fun k => by rw [fresh]; cases k <;> rfl, by rw [flash]; exact image, by rw [flash]; exact model⟩

theorem restart_keepsCanonical {s t : State} (same : stores t = stores s) (cause : Nat) : KeepsCanonical s (restart t cause) :=
  .trans (.of_view same) (keepsCanonical_of_flash rfl rfl)
theorem powerOff_keepsCanonical (s : State) : KeepsCanonical s (powerOff s) := keepsCanonical_of_flash rfl rfl
theorem powerUp_keepsCanonical (s : State) (slotB strap2s present : Bool) : KeepsCanonical s (powerUp s slotB strap2s present) :=
  keepsCanonical_of_flash rfl rfl

theorem activateBoot_keepsCanonical (s : State) : KeepsCanonical s (activateBoot s) := by
  unfold activateBoot
  split
  · exact .refl s
  · exact restart_keepsCanonical (by simp) 5

theorem windowRestart_keepsCanonical (s : State) : KeepsCanonical s (windowRestart s) := restart_keepsCanonical rfl 5

theorem leaveNow_keepsCanonical (s : State) : KeepsCanonical s (leaveNow s) := by
  unfold leaveNow
  split
  · exact activateBoot_keepsCanonical s
  · exact windowRestart_keepsCanonical s
  · exact .refl s

theorem leaveIfOpen_keepsCanonical (s : State) : KeepsCanonical s (leaveIfOpen s) := by
  unfold leaveIfOpen
  split
  · exact .ite (leaveNow_keepsCanonical s) (.refl s)
  · exact .refl s

theorem openAndLeave_keepsCanonical (s : State) (activation : Bool) : KeepsCanonical s (openAndLeave s activation) :=
  .trans (.of_view (by simp)) (leaveIfOpen_keepsCanonical _)

theorem bootFails_keepsCanonical (s : State) (r : SelRec) (cause : Nat) : KeepsCanonical s (bootFails s r cause) := by
  unfold bootFails
  dsimp only
  exact .ite (restart_keepsCanonical rfl 7) (.ite (restart_keepsCanonical (by simp) 7) (.ite (restart_keepsCanonical (by simp) 4)
    (.of_view (by simp))))

theorem bootImage_keepsCanonical (s : State) (r : SelRec) (selfTest : Bool) : KeepsCanonical s (bootImage s r selfTest) :=
  .ite (bootFails_keepsCanonical s r 3) (.ite (bootFails_keepsCanonical s r 2) (.of_view (by simp)))

/-! ### A role given up: the partner's records stay -/

@[simp] theorem stopEngines_stores (s : State) : stores (stopEngines s) = stores s := by
  unfold stopEngines
  simp
@[simp] theorem giveUp_stores (s : State) (role : Role) : stores (giveUp s role) = stores s := by
  unfold giveUp
  simp
@[simp] theorem goIsolated_stores (s : State) (reason : Nat) : stores (goIsolated s reason) = stores s := by
  unfold goIsolated
  simp
@[simp] theorem failSelfTest_stores (s : State) : stores (failSelfTest s) = stores s := by
  unfold failSelfTest
  simp

/-! ### The commands that touch the stores' parts -/

section Commands

variable {s t : State}

theorem execPowerGood_keepsCanonical {slotB strap2s present : Bool} (h : execPowerGood slotB strap2s present s = .next t) :
    KeepsCanonical s t := by
  cases h
  exact .ite (.refl s) (powerUp_keepsCanonical s slotB strap2s present)

theorem execWithdrawal_keepsCanonical (h : execWithdrawal s = .next t) : KeepsCanonical s t := by
  cases h
  exact .ite (powerOff_keepsCanonical s) (.refl s)

theorem execSupplyLoss_keepsCanonical (h : execSupplyLoss s = .next t) : KeepsCanonical s t := execWithdrawal_keepsCanonical h

theorem execWatchdogExpiry_keepsCanonical (h : execWatchdogExpiry s = .next t) : KeepsCanonical s t := by
  cases h
  exact .ite (restart_keepsCanonical rfl 2) (.refl s)

theorem execReferenceReturnRestart_keepsCanonical {r : Ix} (h : execReferenceReturnRestart r s = .next t) : KeepsCanonical s t := by
  cases h
  have holds (u : State) (d : List Byte) :
      KeepsCanonical u (beginHold { raiseOrDefer u 196 d with outr := { (raiseOrDefer u 196 d).outr with hold := .none } } .restart) :=
    .of_view (by simp)
  have restarts (c : ClkState) : KeepsCanonical s (restart { s with clk := c } 3) := restart_keepsCanonical rfl 3
  exact .ite (.refl s) (.ite ((restarts _).trans (holds _ _)) (restarts _))

theorem execFirmwareBoot_keepsCanonical {selfTest : Bool} (h : execFirmwareBoot selfTest s = .next t) : KeepsCanonical s t := by
  cases h
  have boots {u : State} (same : stores u = stores s) (r : SelRec) : KeepsCanonical s (bootImage u r selfTest) :=
    .trans (.of_view same) (bootImage_keepsCanonical u r selfTest)
  split
  · exact .refl s
  · split
    · exact .of_view (by simp)
    · exact .ite (boots rfl _) (.ite (boots (by simp) _) (boots (by simp) _))

theorem execOwnershipArbitration_keepsCanonical (h : execOwnershipArbitration s = .next t) : KeepsCanonical s t := by
  cases h
  exact .ite (.refl s) (.ite (.ite (.of_view (by simp)) (.of_view rfl)) (.ite (.of_view (by simp)) (.ite (.of_view (by simp))
    (.ite (.of_view (by simp)) (.of_view rfl)))))

theorem execDualActiveResolved_keepsCanonical (h : execDualActiveResolved s = .next t) : KeepsCanonical s t := by
  cases h
  exact .ite (.of_view (by simp)) (.refl s)

theorem execOpenCurrentLow_keepsCanonical {string : Ix} (h : execOpenCurrentLow string s = .next t) : KeepsCanonical s t := by
  cases h
  split
  · exact .refl s
  · exact .ite (.refl s) (.trans (.of_view (by simp)) (leaveIfOpen_keepsCanonical _))

theorem execOrderlyRelease_keepsCanonical (h : execOrderlyRelease s = .next t) : KeepsCanonical s t := by
  cases h
  split
  · exact .refl s
  · next q _ =>
    have released : KeepsCanonical s
        { giveUp s .standby with pair := { (giveUp s .standby).pair with req := some { q with gone := true } } } := .of_view (by simp)
    exact .ite (.ite (released.trans (leaveNow_keepsCanonical _)) released) (.refl s)

theorem execSelfRelease_keepsCanonical {finding : SelfFinding} {string : Ix} (h : execSelfRelease finding string s = .next t) :
    KeepsCanonical s t := by
  cases h
  exact .ite (.refl s) (.ite (.of_view (by simp)) (.ite (.of_view (by simp)) (.refl s)))

theorem execIsolate_keepsCanonical {hd : Hdr} (h : execIsolate hd s = .next t) : KeepsCanonical s t := by
  cases h
  exact .ite (.refl s) (.ite (.of_view (by simp)) (.of_view (by simp)))

theorem execPeerStatus_keepsCanonical {f : PeerFrame} (h : execPeerStatus f s = .next t) : KeepsCanonical s t := by
  cases h
  exact .ite (.refl s) (.ite (.of_view (by simp)) (.of_view (by simp)))

theorem execStateRec_keepsCanonical {f : PeerFrame} (h : execStateRec f s = .next t) : KeepsCanonical s t := by
  obtain kept | written := execStateRec_stores h
  · exact .of_view kept
  · exact (frameWritten_keepsCanonical f s).trans (.of_view written)

theorem execSafetyScan_keepsCanonical (h : execSafetyScan s = .next t) : KeepsCanonical s t := by
  cases h
  split
  · exact .refl s
  · split
    · exact .refl s
    · split
      · exact .ite (.of_view (by simp)) (.of_view (by simp))
      · exact .of_view (by simp)

theorem execUpdOpen_keepsCanonical {hd : Hdr} {imgType imageLen version manifestCrc : Nat} {brk : Bool}
    (h : execUpdOpen hd imgType brk imageLen version manifestCrc s = .next t) : KeepsCanonical s t := by
  cases h
  split
  · exact .refl s
  dsimp only
  split
  · exact .of_view (by simp)
  split
  · exact .of_view (by simp)
  split
  · exact .of_view (by simp)
  have ended (u : State) (id : Nat) (resp : List Byte) : KeepsCanonical u (endLong u id .ok 0 resp) := .of_view (by simp)
  have begun {u : State} (same : stores u = stores s) (c : Prop) [Decidable c] :
      KeepsCanonical s (if c then resumeSession u hd else newSession u hd imgType imageLen version manifestCrc) :=
    .trans (.of_view same) (.ite (resumeSession_keepsCanonical u hd) (newSession_keepsCanonical u hd _ _ _ _))
  refine (begun ?_ _).trans (ended _ _ _)
  simp

theorem execUpdBlock_keepsCanonical {hd : Hdr} {off crc : Nat} (ad : Nat) {d : List Byte} (h : execUpdBlock hd off ad crc d s = .next t) :
    KeepsCanonical s t := by
  obtain kept | written := execUpdBlock_stores ad h
  · exact .of_view kept
  · exact (blockWritten_keepsCanonical off d s).trans (.of_view written)

theorem execActivation_keepsCanonical (h : execActivation s = .next t) : KeepsCanonical s t := by
  cases h
  exact .ite (.refl s) (.ite (.of_view (by simp)) (.ite (activateBoot_keepsCanonical s) (.ite (openAndLeave_keepsCanonical s true)
    (.ite (.of_view (by simp)) (.of_view (by simp))))))

theorem execConfirmWindowExpiry_keepsCanonical (h : execConfirmWindowExpiry s = .next t) : KeepsCanonical s t := by
  cases h
  exact .ite (.refl s) (.ite (windowRestart_keepsCanonical s) (.ite (.of_view (by simp)) (openAndLeave_keepsCanonical s false)))

theorem execActivationOpenTimeout_keepsCanonical (h : execActivationOpenTimeout s = .next t) : KeepsCanonical s t := by
  cases h
  exact .ite (leaveNow_keepsCanonical s) (.refl s)

end Commands

/-! ### Every command -/

/-- Every command: it touches no store, it restarts the module or gives up its role, or it writes a store as above. -/
theorem exec_keepsCanonical {c : Instr} {s t : State} (h : exec c s = .next t) : KeepsCanonical s t := by
  cases c with
  | powerGood _ _ _ => exact execPowerGood_keepsCanonical h
  | withdrawal => exact execWithdrawal_keepsCanonical h
  | supplyLoss => exact execSupplyLoss_keepsCanonical h
  | referenceDetect _ => exact .of_view (execReferenceDetect_view _ _ s t (by decide) h)
  | referenceLost _ => exact .of_view (execReferenceLost_view _ _ s t (by decide) h)
  | refFreqCompare _ => exact .of_view (execRefFreqCompare_view _ _ s t (by decide) h)
  | bypassRun _ => exact .of_view (execBypassRun_view _ _ s t (by decide) h)
  | pllLock => exact .of_view (execPllLock_view _ s t (by decide) h)
  | pllLockLost => exact .of_view (execPllLockLost_view _ s t (by decide) h)
  | domainSwitchDone => exact .of_view (execDomainSwitchDone_view _ s t (by decide) h)
  | domainSwitchTimeout => exact .of_view (execDomainSwitchTimeout_view _ s t (by decide) h)
  | pllEnWrite _ => exact .of_view (execPllEnWrite_view _ _ s t (by decide) h)
  | apply _ => exact .of_view (execApply_view _ _ s t (by decide) h)
  | watchdogExpiry => exact execWatchdogExpiry_keepsCanonical h
  | clocklessHold => exact .of_view (execClocklessHold_view _ s t (by decide) h)
  | referenceReturnRestart _ => exact execReferenceReturnRestart_keepsCanonical h
  | firmwareBoot _ => exact execFirmwareBoot_keepsCanonical h
  | ledgerScan => exact .of_view (execLedgerScan_view _ s t (by decide) h)
  | ownershipArbitration => exact execOwnershipArbitration_keepsCanonical h
  | ryranEnumeration _ _ => exact .of_view (execRyranEnumeration_view _ _ _ s t (by decide) h)
  | caravanEnumeration _ _ => exact .of_view (execCaravanEnumeration_view _ _ _ s t (by decide) h)
  | stateRecordRestoreTimeout => exact .of_view (execStateRecordRestoreTimeout_view _ s t (by decide) h)
  | joinDispatch => exact .of_view (execJoinDispatch_view _ s t (by decide) h)
  | dualActiveResolved => exact execDualActiveResolved_keepsCanonical h
  | tickTrigger _ => exact .of_view (execTickTrigger_view _ _ s t (by decide) h)
  | angleSourceTick _ => exact .of_view (execAngleSourceTick_view _ _ s t (by decide) h)
  | virtualMainsEntry => exact .of_view (execVirtualMainsEntry_view _ s t (by decide) h)
  | virtualMainsExit off => exact .of_view (execVirtualMainsExit_view _ off s t (by decide) h)
  | waymarkReceived _ _ _ => exact .of_view (execWaymarkReceived_view _ _ _ _ s t (by decide) h)
  | waymarkMissed _ => exact .of_view (execWaymarkMissed_view _ _ s t (by decide) h)
  | unsynchronised => exact .of_view (execUnsynchronised_view _ s t (by decide) h)
  | resynchronise _ => exact .of_view (execResynchronise_view _ _ s t (by decide) h)
  | upstreamReturn => exact .of_view (execUpstreamReturn_view _ s t (by decide) h)
  | successorBecomesSource => exact .of_view (execSuccessorBecomesSource_view _ s t (by decide) h)
  | echoReq _ _ _ => exact .of_view (execEchoReq_view _ _ _ _ s t (by decide) h)
  | echoRep _ _ _ => exact .of_view (execEchoRep_view _ _ _ _ s t (by decide) h)
  | echoTimeout _ => exact .of_view (execEchoTimeout_view _ _ s t (by decide) h)
  | hopRemeasure => exact .of_view (execHopRemeasure_view _ s t (by decide) h)
  | loopTrace _ _ => exact .of_view (execLoopTrace_view _ _ _ s t (by decide) h)
  | triggerSend _ _ => exact .of_view (execTriggerSend_view _ _ _ s t (by decide) h)
  | snapSend _ => exact .of_view (execSnapSend_view _ _ s t (by decide) h)
  | featureRec _ _ => exact .of_view (execFeatureRec_view _ _ _ s t (by decide) h)
  | deliveryDeadline _ => exact .of_view (execDeliveryDeadline_view _ _ s t (by decide) h)
  | transactionTimeout _ _ => exact .of_view (execTransactionTimeout_view _ _ _ s t (by decide) h)
  | lostUnitPoll _ => exact .of_view (execLostUnitPoll_view _ _ s t (by decide) h)
  | statusRep _ _ => exact .of_view (execStatusRep_view _ _ _ s t (by decide) h)
  | statusPoll _ => exact .of_view (execStatusPoll_view _ _ s t (by decide) h)
  | ack _ _ => exact .of_view (execAck_view _ _ _ s t (by decide) h)
  | nak _ _ => exact .of_view (execNak_view _ _ _ s t (by decide) h)
  | watchStream _ _ => exact .of_view (execWatchStream_view _ _ _ s t (by decide) h)
  | tickSumSend _ => exact .of_view (execTickSumSend_view _ _ s t (by decide) h)
  | tickSum _ _ _ => exact .of_view (execTickSum_view _ _ _ _ s t (by decide) h)
  | wrapNotice _ _ => exact .of_view (execWrapNotice_view _ _ _ s t (by decide) h)
  | ringLockLoss _ _ => exact .of_view (execRingLockLoss_view _ _ _ s t (by decide) h)
  | ringTriggerTimeout _ _ => exact .of_view (execRingTriggerTimeout_view _ _ _ s t (by decide) h)
  | ringRestore _ _ => exact .of_view (execRingRestore_view _ _ _ s t (by decide) h)
  | compatReenum _ _ => exact .of_view (execCompatReenum_view _ _ _ s t (by decide) h)
  | balanceRefresh _ => exact .of_view (execBalanceRefresh_view _ _ s t (by decide) h)
  | bal12Refresh _ => exact .of_view (execBal12Refresh_view _ _ s t (by decide) h)
  | faultLoopOpen _ => exact .of_view (execFaultLoopOpen_view _ _ s t (by decide) h)
  | faultLoopClose _ => exact .of_view (execFaultLoopClose_view _ _ s t (by decide) h)
  | openwireSchedule _ => exact .of_view (execOpenwireSchedule_view _ _ s t (by decide) h)
  | openwireRep _ _ => exact .of_view (execOpenwireRep_view _ _ _ s t (by decide) h)
  | isoOkChange _ _ => exact .of_view (execIsoOkChange_view _ _ _ s t (by decide) h)
  | latchedLoRead _ _ => exact .of_view (execLatchedLoRead_view _ _ _ s t (by decide) h)
  | calPoint _ _ _ _ _ => exact .of_view (execCalPoint_view _ _ _ _ _ _ s t (by decide) h)
  | calPointDone _ _ => exact .of_view (execCalPointDone_view _ _ _ s t (by decide) h)
  | calSolve _ _ _ => exact .of_view (execCalSolve_view _ _ _ _ s t (by decide) h)
  | frameClose _ => exact .of_view (execFrameClose_view _ _ s t (by decide) h)
  | currentVote _ => exact .of_view (execCurrentVote_view _ _ s t (by decide) h)
  | sourceClear _ _ _ _ _ => exact .of_view (execSourceClear_view _ _ _ _ _ _ s t (by decide) h)
  | tickPropagation => exact .of_view (execTickPropagation_view _ s t (by decide) h)
  | dischargeStop _ => exact .of_view (execDischargeStop_view _ _ s t (by decide) h)
  | frameUpdate => exact .of_view (execFrameUpdate_view _ s t (by decide) h)
  | learningDurationExpiry _ => exact .of_view (execLearningDurationExpiry_view _ _ s t (by decide) h)
  | referenceStarved _ => exact .of_view (execReferenceStarved_view _ _ s t (by decide) h)
  | stateRecordCapture => exact .of_view (execStateRecordCapture_view _ s t (by decide) h)
  | stateOffer _ _ _ _ => exact .of_view (execStateOffer_view _ _ _ _ _ s t (by decide) h)
  | balanceReview => exact .of_view (execBalanceReview_view _ s t (by decide) h)
  | thermalInputTimeout _ => exact .of_view (execThermalInputTimeout_view _ _ s t (by decide) h)
  | thermalNodeLost _ => exact .of_view (execThermalNodeLost_view _ _ s t (by decide) h)
  | dieReading _ => exact .of_view (execDieReading_view _ _ s t (by decide) h)
  | dieTemp _ => exact .of_view (execDieTemp_view _ _ s t (by decide) h)
  | tempHostWrite _ => exact .of_view (execTempHostWrite_view _ _ s t (by decide) h)
  | controlLatch _ _ => exact .of_view (execControlLatch_view _ _ _ s t (by decide) h)
  | slotInputTimeout _ => exact .of_view (execSlotInputTimeout_view _ _ s t (by decide) h)
  | ctlBankReqWrite _ _ => exact .of_view (execCtlBankReqWrite_view _ _ _ s t (by decide) h)
  | latClr _ => exact .of_view (execLatClr_view _ _ s t (by decide) h)
  | ctlSwap _ _ _ => exact .of_view (execCtlSwap_view _ _ _ _ s t (by decide) h)
  | ctlReadSlot _ _ => exact .of_view (execCtlReadSlot_view _ _ _ s t (by decide) h)
  | phasorRecordForm => exact .of_view (execPhasorRecordForm_view _ s t (by decide) h)
  | phasorRecord _ _ => exact .of_view (execPhasorRecord_view _ _ _ s t (by decide) h)
  | vote => exact .of_view (execVote_view _ s t (by decide) h)
  | holdingPeriodBoundary => exact .of_view (execHoldingPeriodBoundary_view _ s t (by decide) h)
  | headroomSum _ _ => exact .of_view (execHeadroomSum_view _ _ _ s t (by decide) h)
  | sumSendDeadline => exact .of_view (execSumSendDeadline_view _ s t (by decide) h)
  | roundClose => exact .of_view (execRoundClose_view _ s t (by decide) h)
  | fraction _ _ => exact .of_view (execFraction_view _ _ _ s t (by decide) h)
  | fractionHoldExpiry => exact .of_view (execFractionHoldExpiry_view _ s t (by decide) h)
  | planClose => exact .of_view (execPlanClose_view _ s t (by decide) h)
  | holdSet _ _ _ _ => exact .of_view (execHoldSet_view _ _ _ _ _ s t (by decide) h)
  | leadMove _ _ _ => exact .of_view (execLeadMove_view _ _ _ _ s t (by decide) h)
  | leadMoveExecute => exact .of_view (execLeadMoveExecute_view _ s t (by decide) h)
  | comparatorTrip _ _ => exact .of_view (execComparatorTrip_view _ _ _ s t (by decide) h)
  | comparatorRelease _ _ => exact .of_view (execComparatorRelease_view _ _ _ s t (by decide) h)
  | outriderTripReport _ => exact .of_view (execOutriderTripReport_view _ _ s t (by decide) h)
  | blindString _ => exact .of_view (execBlindString_view _ _ s t (by decide) h)
  | thresholdWrite _ _ => exact .of_view (execThresholdWrite_view _ _ _ s t (by decide) h)
  | protectionBoundary => exact .of_view (execProtectionBoundary_view _ s t (by decide) h)
  | comparatorProof _ _ => exact .of_view (execComparatorProof_view _ _ _ s t (by decide) h)
  | coilTest _ => exact .of_view (execCoilTest_view _ _ s t (by decide) h)
  | testOverdue _ _ _ => exact .of_view (execTestOverdue_view _ _ _ _ s t (by decide) h)
  | contactorDropout _ _ _ => exact .of_view (execContactorDropout_view _ _ _ _ s t (by decide) h)
  | comparatorTestDue _ => exact .of_view (execComparatorTestDue_view _ _ s t (by decide) h)
  | stringOpen _ _ => exact .of_view (execStringOpen_view _ _ _ s t (by decide) h)
  | openCurrentLow _ => exact execOpenCurrentLow_keepsCanonical h
  | weldCheck _ => exact .of_view (execWeldCheck_view _ _ s t (by decide) h)
  | stringClose _ _ => exact .of_view (execStringClose_view _ _ _ s t (by decide) h)
  | kNegSettled _ _ => exact .of_view (execKNegSettled_view _ _ _ s t (by decide) h)
  | prechargeReached _ => exact .of_view (execPrechargeReached_view _ _ s t (by decide) h)
  | prechargeFail _ => exact .of_view (execPrechargeFail_view _ _ s t (by decide) h)
  | kPosSettled _ _ => exact .of_view (execKPosSettled_view _ _ _ s t (by decide) h)
  | protReset _ _ _ => exact .of_view (execProtReset_view _ _ _ _ s t (by decide) h)
  | coilSupply _ => exact .of_view (execCoilSupply_view _ _ s t (by decide) h)
  | heartbeatAnswer _ _ => exact .of_view (execHeartbeatAnswer_view _ _ _ s t (by decide) h)
  | heartbeatLate => exact .of_view (execHeartbeatLate_view _ s t (by decide) h)
  | ownershipLineFree => exact .of_view (execOwnershipLineFree_view _ s t (by decide) h)
  | ownerQualified => exact .of_view (execOwnerQualified_view _ s t (by decide) h)
  | releaseOverlapEnd => exact .of_view (execReleaseOverlapEnd_view _ s t (by decide) h)
  | releaseRetake => exact .of_view (execReleaseRetake_view _ s t (by decide) h)
  | holdExpiry => exact .of_view (execHoldExpiry_view _ s t (by decide) h)
  | holdAck => exact .of_view (execHoldAck_view _ s t (by decide) h)
  | holdDrop _ => exact .of_view (execHoldDrop_view _ _ s t (by decide) h)
  | takeover => exact .of_view (execTakeover_view _ s t (by decide) h)
  | handover _ => exact .of_view (execHandover_view _ _ s t (by decide) h)
  | orderlyRelease => exact execOrderlyRelease_keepsCanonical h
  | selfRelease _ _ => exact execSelfRelease_keepsCanonical h
  | ejectorOpen => exact .of_view (execEjectorOpen_view _ s t (by decide) h)
  | partnerPresence _ => exact .of_view (execPartnerPresence_view _ _ s t (by decide) h)
  | isolate _ => exact execIsolate_keepsCanonical h
  | rejoin _ => exact .of_view (execRejoin_view _ _ s t (by decide) h)
  | peerStatus _ => exact execPeerStatus_keepsCanonical h
  | peerStatusSend => exact .of_view (execPeerStatusSend_view _ s t (by decide) h)
  | peerLinkDown => exact .of_view (execPeerLinkDown_view _ s t (by decide) h)
  | pairParamMismatch => exact .of_view (execPairParamMismatch_view _ s t (by decide) h)
  | stateRec _ => exact execStateRec_keepsCanonical h
  | unitTable _ => exact .of_view (execUnitTable_view _ _ s t (by decide) h)
  | hopComp _ => exact .of_view (execHopComp_view _ _ s t (by decide) h)
  | holdState _ => exact .of_view (execHoldState_view _ _ s t (by decide) h)
  | release _ => exact .of_view (execRelease_view _ _ s t (by decide) h)
  | peerEchoReq _ _ => exact .of_view (execPeerEchoReq_view _ _ _ s t (by decide) h)
  | peerEchoRep _ _ => exact .of_view (execPeerEchoRep_view _ _ _ s t (by decide) h)
  | canFrame _ _ => exact .of_view (execCanFrame_view _ _ _ s t (by decide) h)
  | rateDwellExpiry _ => exact .of_view (execRateDwellExpiry_view _ _ s t (by decide) h)
  | rateSilentExpiry _ => exact .of_view (execRateSilentExpiry_view _ _ s t (by decide) h)
  | basicCycleStart _ => exact .of_view (execBasicCycleStart_view _ _ s t (by decide) h)
  | canWindowStart _ _ _ => exact .of_view (execCanWindowStart_view _ _ _ _ s t (by decide) h)
  | canTxDone _ _ => exact .of_view (execCanTxDone_view _ _ _ s t (by decide) h)
  | canBusOff _ => exact .of_view (execCanBusOff_view _ _ s t (by decide) h)
  | busOffRecovery _ => exact .of_view (execBusOffRecovery_view _ _ s t (by decide) h)
  | canPost _ _ _ _ _ _ _ => exact .of_view (execCanPost_view _ _ _ _ _ _ _ _ s t (by decide) h)
  | canCancel _ _ => exact .of_view (execCanCancel_view _ _ _ s t (by decide) h)
  | perst _ _ => exact .of_view (execPerst_view _ _ _ s t (by decide) h)
  | hostLinkDown _ _ => exact .of_view (execHostLinkDown_view _ _ _ s t (by decide) h)
  | hostLinkUp _ _ _ => exact .of_view (execHostLinkUp_view _ _ _ _ s t (by decide) h)
  | mbxDoorbell _ _ _ _ => exact .of_view (execMbxDoorbell_view _ _ _ _ _ s t (by decide) h)
  | commandTimeout _ _ => exact .of_view (execCommandTimeout_view _ _ _ s t (by decide) h)
  | longDone _ => exact .of_view (execLongDone_view _ _ s t (by decide) h)
  | longResultExpiry _ => exact .of_view (execLongResultExpiry_view _ _ s t (by decide) h)
  | nop _ => exact .of_view (execNop_view _ _ s t (by decide) h)
  | identify _ => exact .of_view (execIdentify_view _ _ s t (by decide) h)
  | longQuery _ _ => exact .of_view (execLongQuery_view _ _ _ s t (by decide) h)
  | streamOpen _ _ _ _ _ => exact .of_view (execStreamOpen_view _ _ _ _ _ _ s t (by decide) h)
  | streamClose _ _ => exact .of_view (execStreamClose_view _ _ _ s t (by decide) h)
  | strmTailWrite _ _ _ => exact .of_view (execStrmTailWrite_view _ _ _ _ s t (by decide) h)
  | descriptorFetchDone _ _ _ => exact .of_view (execDescriptorFetchDone_view _ _ _ _ s t (by decide) h)
  | descriptorFetchFail _ _ _ => exact .of_view (execDescriptorFetchFail_view _ _ _ _ s t (by decide) h)
  | descStarved _ _ => exact .of_view (execDescStarved_view _ _ _ s t (by decide) h)
  | bufferWriteDone _ _ => exact .of_view (execBufferWriteDone_view _ _ _ s t (by decide) h)
  | canrxFlush _ => exact .of_view (execCanrxFlush_view _ _ s t (by decide) h)
  | capture _ _ => exact .of_view (execCapture_view _ _ _ s t (by decide) h)
  | captureTrigger _ => exact .of_view (execCaptureTrigger_view _ _ s t (by decide) h)
  | hostReadDeferred _ _ _ => exact .of_view (execHostReadDeferred_view _ _ _ _ s t (by decide) h)
  | registerWrite _ _ _ => exact .of_view (execRegisterWrite_view _ _ _ _ s t (by decide) h)
  | evMaskWrite _ _ _ => exact .of_view (execEvMaskWrite_view _ _ _ _ s t (by decide) h)
  | ledgerRecordWrite _ _ => exact .of_view (execLedgerRecordWrite_view _ _ _ s t (by decide) h)
  | evLast _ _ => exact .of_view (execEvLast_view _ _ _ s t (by decide) h)
  | ledgerRead _ _ _ => exact .of_view (execLedgerRead_view _ _ _ _ s t (by decide) h)
  | ledgerExport _ _ _ => exact .of_view (execLedgerExport_view _ _ _ _ s t (by decide) h)
  | ledgerFreeze _ _ => exact .of_view (execLedgerFreeze_view _ _ _ s t (by decide) h)
  | ledgerUnfreeze _ => exact .of_view (execLedgerUnfreeze_view _ _ s t (by decide) h)
  | freezeExpiry => exact .of_view (execFreezeExpiry_view _ s t (by decide) h)
  | ledgerClear _ _ => exact .of_view (execLedgerClear_view _ _ _ s t (by decide) h)
  | ledgerInfo _ => exact .of_view (execLedgerInfo_view _ _ s t (by decide) h)
  | evTest _ _ => exact .of_view (execEvTest_view _ _ _ s t (by decide) h)
  | parRead _ _ _ _ _ => exact .of_view (execParRead_view _ _ _ _ _ _ s t (by decide) h)
  | parWrite _ _ => exact .of_view (execParWrite_view _ _ _ s t (by decide) h)
  | commit _ => exact .of_view (execCommit_view _ _ s t (by decide) h)
  | parDiscard _ => exact .of_view (execParDiscard_view _ _ s t (by decide) h)
  | persistenceDone _ => exact .of_view (execPersistenceDone_view _ _ s t (by decide) h)
  | safetyScan => exact execSafetyScan_keepsCanonical h
  | updOpen _ _ _ _ _ _ => exact execUpdOpen_keepsCanonical h
  | updBlock _ _ addr _ _ => exact execUpdBlock_keepsCanonical addr h
  | updVerify _ => exact .of_view (execUpdVerify_view _ _ s t (by decide) h)
  | updSchedule _ _ => exact .of_view (execUpdSchedule_view _ _ _ s t (by decide) h)
  | updCancel _ _ => exact .of_view (execUpdCancel_view _ _ _ s t (by decide) h)
  | updConfirm _ _ => exact .of_view (execUpdConfirm_view _ _ _ s t (by decide) h)
  | updClose _ => exact .of_view (execUpdClose_view _ _ s t (by decide) h)
  | updInfo _ => exact .of_view (execUpdInfo_view _ _ s t (by decide) h)
  | activation => exact execActivation_keepsCanonical h
  | confirmWindowExpiry => exact execConfirmWindowExpiry_keepsCanonical h
  | caravanReenum _ _ _ _ => exact .of_view (execCaravanReenum_view _ _ _ _ _ s t (by decide) h)
  | compatibilityReply _ _ => exact .of_view (execCompatibilityReply_view _ _ _ s t (by decide) h)
  | partnerReadyChange _ => exact .of_view (execPartnerReadyChange_view _ _ s t (by decide) h)
  | ownershipLineAsserted _ => exact .of_view (execOwnershipLineAsserted_view _ _ s t (by decide) h)
  | dieTempSend => exact .of_view (execDieTempSend_view _ s t (by decide) h)
  | pcieError _ _ _ => exact .of_view (execPcieError_view _ _ _ _ s t (by decide) h)
  | activationOpenTimeout => exact execActivationOpenTimeout_keepsCanonical h
  | chargePumpStep => exact .of_view (execChargePumpStep_view _ s t (by decide) h)

/-- Settles O49: the command at the front of the queue keeps the canonical form, which the queue's rest does not concern. -/
theorem storesStayCanonical : Obligations.StoresStayCanonical := by
  unfold Obligations.StoresStayCanonical
  intro s t before ran
  unfold step at ran
  split at ran
  · cases ran
    exact before
  · exact exec_keepsCanonical ran before

end Sys2Proof.Proofs

/-! PROOFS. What each command of the block leaves as it was (spec/95_what_each_step_holds.md): the parts that a command may change, one
frame for all commands, and O32 to O41, O46, O47 and O50 from it. -/

namespace Sys2Proof.Proofs

open Sys2Proof Sys2Proof.Machine Sys2Proof.Laws

/-- The parts of the card that a command may change. -/
def touched : Instr → List Block
  | .powerGood _ _ _ =>
      [.elec, .clk, .grid, .ring, .front, .fus, .est, .peerBuf, .therm, .ctl, .hold, .prot, .outr, .pair, .can, .signals, .host,
      .events, .records, .acting, .par, .upd, .stores]
  | .withdrawal =>
      [.elec, .clk, .grid, .ring, .front, .fus, .est, .peerBuf, .therm, .ctl, .hold, .prot, .outr, .pair, .can, .signals, .host,
      .events, .records, .acting, .par, .upd, .stores]
  | .supplyLoss =>
      [.elec, .clk, .grid, .ring, .front, .fus, .est, .peerBuf, .therm, .ctl, .hold, .prot, .outr, .pair, .can, .signals, .host,
      .events, .records, .acting, .par, .upd, .stores]
  | .referenceDetect _ => [.elec, .clk]
  | .referenceLost _ => [.clk, .signals, .events, .sent, .freeCtr]
  | .refFreqCompare _ => [.clk, .signals, .events, .sent, .freeCtr]
  | .bypassRun _ => [.elec]
  | .pllLock => [.elec, .clk]
  | .pllLockLost => [.clk, .signals, .events, .sent, .freeCtr]
  | .domainSwitchDone => [.clk, .events]
  | .domainSwitchTimeout => [.clk, .ctl, .signals, .events, .sent, .freeCtr]
  | .pllEnWrite _ => [.clk, .events]
  | .apply _ => [.clk, .events]
  | .watchdogExpiry =>
      [.elec, .clk, .grid, .ring, .front, .fus, .est, .peerBuf, .therm, .ctl, .hold, .prot, .outr, .pair, .can, .signals, .host,
      .events, .records, .acting, .par, .upd, .stores, .freeCtr]
  | .clocklessHold => [.elec, .ctl, .prot, .outr, .signals, .events, .sent, .freeCtr]
  | .referenceReturnRestart _ =>
      [.elec, .clk, .grid, .ring, .front, .fus, .est, .peerBuf, .therm, .ctl, .hold, .prot, .outr, .pair, .can, .signals, .host,
      .events, .records, .acting, .par, .upd, .stores, .sent, .freeCtr]
  | .firmwareBoot _ =>
      [.elec, .clk, .grid, .ring, .front, .fus, .est, .peerBuf, .therm, .ctl, .hold, .prot, .outr, .pair, .can, .signals, .host,
      .events, .records, .acting, .par, .upd, .stores, .sent, .freeCtr]
  | .ledgerScan => [.elec, .grid, .signals, .events, .records, .sent, .freeCtr]
  | .ownershipArbitration =>
      [.elec, .grid, .ring, .fus, .est, .peerBuf, .ctl, .hold, .prot, .outr, .pair, .can, .signals, .host, .events, .sent,
      .freeCtr]
  | .ryranEnumeration _ _ => [.elec, .grid, .hold, .signals, .events, .sent, .freeCtr]
  | .caravanEnumeration _ _ => [.elec, .ring, .pair, .signals, .events, .acting, .upd, .sent, .freeCtr]
  | .stateRecordRestoreTimeout => [.elec, .est]
  | .joinDispatch => [.elec, .hold, .signals, .events, .sent, .freeCtr]
  | .dualActiveResolved =>
      [.grid, .ring, .fus, .est, .peerBuf, .ctl, .hold, .prot, .outr, .pair, .can, .signals, .host, .events, .sent, .freeCtr]
  | .tickTrigger _ =>
      [.elec, .clk, .grid, .ring, .front, .fus, .est, .therm, .ctl, .prot, .outr, .pair, .can, .signals, .host, .events, .acting,
      .par, .sent, .freeCtr]
  | .angleSourceTick _ =>
      [.elec, .clk, .grid, .ring, .front, .fus, .est, .therm, .ctl, .prot, .outr, .pair, .can, .signals, .host, .events, .acting,
      .par, .sent, .freeCtr]
  | .virtualMainsEntry => [.grid, .signals, .events, .sent, .freeCtr]
  | .virtualMainsExit _ => [.grid, .signals, .events, .sent, .freeCtr]
  | .waymarkReceived _ _ _ => [.grid, .signals, .events, .upd, .sent, .freeCtr]
  | .waymarkMissed _ => [.grid, .signals, .events, .sent, .freeCtr]
  | .unsynchronised => [.grid, .hold, .can, .signals, .events, .sent, .freeCtr]
  | .resynchronise _ => [.grid, .hold, .can, .signals, .events, .sent, .freeCtr]
  | .upstreamReturn => [.grid, .signals, .events, .sent, .freeCtr]
  | .successorBecomesSource => [.elec, .grid, .hold, .signals, .events, .sent, .freeCtr]
  | .echoReq _ _ _ => [.grid, .pair, .sent]
  | .echoRep _ _ _ => [.grid, .sent]
  | .echoTimeout _ => [.grid, .sent]
  | .hopRemeasure => [.grid, .sent]
  | .loopTrace _ _ => [.grid, .signals, .events, .sent, .freeCtr]
  | .triggerSend _ _ => [.ring, .sent]
  | .snapSend _ => [.ring, .sent]
  | .featureRec _ _ => [.ring, .fus, .signals, .host, .events, .sent, .freeCtr]
  | .deliveryDeadline _ => [.ring, .signals, .events, .sent, .freeCtr]
  | .transactionTimeout _ _ => [.ring, .signals, .events, .sent, .freeCtr]
  | .lostUnitPoll _ => [.ring, .sent]
  | .statusRep _ _ => [.ring, .fus, .signals, .events, .sent, .freeCtr]
  | .statusPoll _ => [.ring, .sent]
  | .ack _ _ => [.ring, .signals, .events, .sent, .freeCtr]
  | .nak _ _ => [.ring, .signals, .events, .sent, .freeCtr]
  | .watchStream _ _ => [.ring, .fus, .signals, .events, .sent, .freeCtr]
  | .tickSumSend _ => [.ring, .sent]
  | .tickSum _ _ _ => [.ring, .prot, .can, .signals, .host, .events, .sent, .freeCtr]
  | .wrapNotice _ _ => [.ring, .signals, .events, .sent, .freeCtr]
  | .ringLockLoss _ _ => [.ring, .signals, .events, .sent, .freeCtr]
  | .ringTriggerTimeout _ _ => [.ring, .signals, .events, .sent, .freeCtr]
  | .ringRestore _ _ => [.ring, .signals, .events, .sent, .freeCtr]
  | .compatReenum _ _ => [.ring, .signals, .events, .acting, .sent, .freeCtr]
  | .balanceRefresh _ => [.ring, .sent]
  | .bal12Refresh _ => [.ring, .sent]
  | .faultLoopOpen _ => [.ring, .prot, .signals, .host, .events, .sent, .freeCtr]
  | .faultLoopClose _ => [.ring, .prot, .signals, .events, .sent, .freeCtr]
  | .openwireSchedule _ => [.ring, .sent]
  | .openwireRep _ _ => [.ring, .fus, .signals, .events, .sent, .freeCtr]
  | .isoOkChange _ _ => [.front, .signals, .events, .sent, .freeCtr]
  | .latchedLoRead _ _ => [.signals, .host]
  | .calPoint _ _ _ _ _ => [.front, .signals, .host, .sent, .freeCtr]
  | .calPointDone _ _ => [.front, .signals, .host, .events, .sent, .freeCtr]
  | .calSolve _ _ _ => [.front, .signals, .host, .events, .par, .sent, .freeCtr]
  | .frameClose _ => [.ring, .fus, .est, .prot, .can, .signals, .host, .events, .sent, .freeCtr]
  | .currentVote _ => [.fus, .signals, .events, .sent, .freeCtr]
  | .sourceClear _ _ _ _ _ => [.fus, .hold, .signals, .host, .events, .sent, .freeCtr]
  | .tickPropagation => [.est, .signals, .events, .sent, .freeCtr]
  | .dischargeStop _ => [.est]
  | .frameUpdate => [.elec, .ring, .fus, .est, .therm, .prot, .can, .signals, .host, .events, .sent, .freeCtr]
  | .learningDurationExpiry _ => [.est, .signals, .events, .sent, .freeCtr]
  | .referenceStarved _ => [.est, .signals, .events, .sent, .freeCtr]
  | .stateRecordCapture => [.est, .signals, .host, .events, .sent, .freeCtr]
  | .stateOffer _ _ _ _ => [.elec, .ring, .est, .signals, .host, .events, .sent, .freeCtr]
  | .balanceReview => [.ring, .est, .signals, .events, .sent, .freeCtr]
  | .thermalInputTimeout _ => [.ctl, .signals, .events, .sent, .freeCtr]
  | .thermalNodeLost _ => [.therm, .signals, .events, .sent, .freeCtr]
  | .dieReading _ => [.therm, .signals, .events, .sent, .freeCtr]
  | .dieTemp _ => [.therm, .pair]
  | .tempHostWrite _ => [.therm]
  | .controlLatch _ _ => [.ctl, .hold, .signals, .events, .sent, .freeCtr]
  | .slotInputTimeout _ => [.ctl, .signals, .events, .sent, .freeCtr]
  | .ctlBankReqWrite _ _ => [.ctl]
  | .latClr _ => [.ctl]
  | .ctlSwap _ _ _ => [.ctl, .signals, .host, .sent]
  | .ctlReadSlot _ _ => [.signals, .host, .sent]
  | .phasorRecordForm => [.hold, .sent, .freeCtr]
  | .phasorRecord _ _ => [.grid, .hold, .sent]
  | .vote => [.grid, .ctl, .hold, .signals, .events, .sent, .freeCtr]
  | .holdingPeriodBoundary => [.hold, .signals, .events, .sent, .freeCtr]
  | .headroomSum _ _ => [.grid, .hold, .sent]
  | .sumSendDeadline => [.hold, .sent]
  | .roundClose => [.grid, .hold, .signals, .events, .sent, .freeCtr]
  | .fraction _ _ => [.grid, .ctl, .hold, .signals, .events, .sent, .freeCtr]
  | .fractionHoldExpiry => [.hold, .signals, .events, .sent, .freeCtr]
  | .planClose => [.hold]
  | .holdSet _ _ _ _ => [.hold, .signals, .host, .sent]
  | .leadMove _ _ _ => [.grid, .signals, .host, .sent]
  | .leadMoveExecute => [.elec, .grid, .hold, .can, .signals, .events, .sent, .freeCtr]
  | .comparatorTrip _ _ => [.prot, .signals, .host, .events, .sent, .freeCtr]
  | .comparatorRelease _ _ => [.prot]
  | .outriderTripReport _ => [.prot, .signals, .events, .sent, .freeCtr]
  | .blindString _ => [.prot, .can, .signals, .host, .events, .sent, .freeCtr]
  | .thresholdWrite _ _ => [.outr, .signals, .events, .sent, .freeCtr]
  | .protectionBoundary => [.prot, .outr, .acting, .par]
  | .comparatorProof _ _ => [.prot, .signals, .host, .events, .par, .sent, .freeCtr]
  | .coilTest _ => [.hold, .prot, .outr, .can, .signals, .host, .events, .sent, .freeCtr]
  | .testOverdue _ _ _ => [.hold, .prot, .signals, .host, .events, .sent, .freeCtr]
  | .contactorDropout _ _ _ => [.hold, .prot, .can, .signals, .host, .events, .sent, .freeCtr]
  | .comparatorTestDue _ => [.signals, .events, .sent, .freeCtr]
  | .stringOpen _ _ => [.hold, .prot, .signals, .host, .events, .sent, .freeCtr]
  | .openCurrentLow _ =>
      [.elec, .clk, .grid, .ring, .front, .fus, .est, .peerBuf, .therm, .ctl, .hold, .prot, .outr, .pair, .can, .signals, .host,
      .events, .records, .acting, .par, .upd, .stores, .sent, .freeCtr]
  | .weldCheck _ => [.prot, .signals, .host, .events, .sent, .freeCtr]
  | .stringClose _ _ => [.prot, .signals, .host, .sent, .freeCtr]
  | .kNegSettled _ _ => [.hold, .prot, .can, .signals, .host, .events, .sent, .freeCtr]
  | .prechargeReached _ => [.prot]
  | .prechargeFail _ => [.prot, .signals, .host, .events, .sent, .freeCtr]
  | .kPosSettled _ _ => [.hold, .prot, .can, .signals, .host, .events, .sent, .freeCtr]
  | .protReset _ _ _ => [.prot, .signals, .host, .events, .sent, .freeCtr]
  | .coilSupply _ => [.outr, .signals, .events, .sent, .freeCtr]
  | .heartbeatAnswer _ _ => [.prot, .outr, .pair, .signals, .events, .sent, .freeCtr]
  | .heartbeatLate => [.prot, .outr, .pair, .signals, .events, .sent, .freeCtr]
  | .ownershipLineFree => [.prot, .outr, .pair, .signals, .events, .sent, .freeCtr]
  | .ownerQualified => [.elec, .prot, .outr, .pair, .can, .signals, .events, .sent, .freeCtr]
  | .releaseOverlapEnd => [.prot, .outr]
  | .releaseRetake => [.prot, .outr, .pair, .signals, .host, .events, .sent, .freeCtr]
  | .holdExpiry => [.prot, .outr, .pair, .signals, .host, .events, .sent, .freeCtr]
  | .holdAck => [.prot, .outr, .pair, .signals, .events, .sent, .freeCtr]
  | .holdDrop _ => [.prot]
  | .takeover => [.elec, .grid, .ring, .fus, .est, .ctl, .hold, .prot, .outr, .pair, .can, .signals, .events, .sent, .freeCtr]
  | .handover _ => [.pair, .signals, .host, .events, .sent, .freeCtr]
  | .orderlyRelease =>
      [.elec, .clk, .grid, .ring, .front, .fus, .est, .peerBuf, .therm, .ctl, .hold, .prot, .outr, .pair, .can, .signals, .host,
      .events, .records, .acting, .par, .upd, .stores, .sent, .freeCtr]
  | .selfRelease _ _ =>
      [.elec, .grid, .ring, .fus, .est, .peerBuf, .ctl, .hold, .prot, .outr, .pair, .can, .signals, .host, .events, .sent,
      .freeCtr]
  | .ejectorOpen => [.pair, .signals, .events, .sent, .freeCtr]
  | .partnerPresence _ => [.pair, .signals, .events, .sent, .freeCtr]
  | .isolate _ =>
      [.elec, .grid, .ring, .fus, .est, .peerBuf, .ctl, .hold, .prot, .outr, .pair, .can, .signals, .host, .events, .sent,
      .freeCtr]
  | .rejoin _ => [.elec, .prot, .outr, .pair, .signals, .host, .events, .sent, .freeCtr]
  | .peerStatus _ =>
      [.elec, .grid, .ring, .fus, .est, .peerBuf, .ctl, .hold, .prot, .outr, .pair, .can, .signals, .host, .events, .sent,
      .freeCtr]
  | .peerStatusSend => [.sent]
  | .peerLinkDown => [.prot, .pair, .signals, .events, .sent, .freeCtr]
  | .pairParamMismatch => [.pair, .signals, .events, .sent, .freeCtr]
  | .stateRec _ => [.est, .peerBuf, .pair, .events]
  | .unitTable _ => [.ring, .pair]
  | .hopComp _ => [.grid, .pair]
  | .holdState _ => [.hold, .pair]
  | .release _ => [.pair]
  | .peerEchoReq _ _ => [.pair, .sent]
  | .peerEchoRep _ _ => [.grid, .pair, .sent]
  | .canFrame _ _ => [.fus, .therm, .can, .signals, .host, .events, .sent, .freeCtr]
  | .rateDwellExpiry _ => [.can]
  | .rateSilentExpiry _ => [.can, .signals, .events, .sent, .freeCtr]
  | .basicCycleStart _ => [.can, .signals, .events, .acting, .sent, .freeCtr]
  | .canWindowStart _ _ _ => [.therm, .can, .signals, .events, .sent, .freeCtr]
  | .canTxDone _ _ => [.therm, .can, .signals, .host, .events, .sent, .freeCtr]
  | .canBusOff _ => [.can, .signals, .host, .events, .sent, .freeCtr]
  | .busOffRecovery _ => [.therm, .can, .signals, .events, .sent, .freeCtr]
  | .canPost _ _ _ _ _ _ _ => [.therm, .can, .signals, .host, .sent, .freeCtr]
  | .canCancel _ _ => [.can, .signals, .host, .sent]
  | .perst _ _ => [.est, .signals, .host, .events, .par, .upd, .sent, .freeCtr]
  | .hostLinkDown _ _ => [.est, .signals, .host, .events, .par, .upd, .sent, .freeCtr]
  | .hostLinkUp _ _ _ => [.signals, .host, .events, .sent, .freeCtr]
  | .mbxDoorbell _ _ _ _ => [.signals, .host, .sent]
  | .commandTimeout _ _ => [.signals, .host, .events, .sent, .freeCtr]
  | .longDone _ => [.signals, .host, .events, .sent, .freeCtr]
  | .longResultExpiry _ => [.host]
  | .nop _ => [.signals, .host, .sent]
  | .identify _ => [.signals, .host, .sent]
  | .longQuery _ _ => [.signals, .host, .sent]
  | .streamOpen _ _ _ _ _ => [.signals, .host, .sent]
  | .streamClose _ _ => [.est, .signals, .host, .sent]
  | .strmTailWrite _ _ _ => [.signals, .host, .sent]
  | .descriptorFetchDone _ _ _ => [.signals, .host, .events, .sent, .freeCtr]
  | .descriptorFetchFail _ _ _ => [.signals, .host, .events, .sent, .freeCtr]
  | .descStarved _ _ => [.signals, .host, .events, .sent, .freeCtr]
  | .bufferWriteDone _ _ => [.est, .signals, .host, .sent]
  | .canrxFlush _ => [.signals, .host, .sent]
  | .capture _ _ => [.signals, .host, .events, .sent, .freeCtr]
  | .captureTrigger _ => [.signals, .host, .events, .sent, .freeCtr]
  | .hostReadDeferred _ _ _ => [.signals, .events, .sent, .freeCtr]
  | .registerWrite _ _ _ =>
      [.clk, .ring, .front, .fus, .est, .therm, .ctl, .hold, .outr, .pair, .can, .signals, .host, .events, .par, .upd, .sent]
  | .evMaskWrite _ _ _ => [.signals, .host, .sent]
  | .ledgerRecordWrite _ _ => [.signals, .events, .records, .sent, .freeCtr]
  | .evLast _ _ => [.signals, .host, .sent, .freeCtr]
  | .ledgerRead _ _ _ => [.signals, .host, .sent]
  | .ledgerExport _ _ _ => [.signals, .host, .events, .sent, .freeCtr]
  | .ledgerFreeze _ _ => [.signals, .host, .events, .records, .sent, .freeCtr]
  | .ledgerUnfreeze _ => [.signals, .host, .events, .sent, .freeCtr]
  | .freezeExpiry => [.signals, .events, .sent, .freeCtr]
  | .ledgerClear _ _ => [.signals, .host, .events, .sent, .freeCtr]
  | .ledgerInfo _ => [.signals, .host, .sent]
  | .evTest _ _ => [.signals, .host, .events, .sent, .freeCtr]
  | .parRead _ _ _ _ _ => [.signals, .host, .sent]
  | .parWrite _ _ => [.signals, .host, .par, .sent]
  | .commit _ => [.ring, .front, .fus, .est, .signals, .host, .events, .acting, .par, .sent, .freeCtr]
  | .parDiscard _ => [.signals, .host, .par, .sent]
  | .persistenceDone _ => [.par]
  | .safetyScan =>
      [.elec, .grid, .ring, .fus, .est, .peerBuf, .ctl, .hold, .prot, .outr, .pair, .can, .signals, .host, .events, .acting,
      .par, .sent, .freeCtr]
  | .updOpen _ _ _ _ _ _ => [.signals, .host, .events, .acting, .upd, .stores, .sent, .freeCtr]
  | .updBlock _ _ _ _ _ => [.signals, .host, .events, .upd, .stores, .sent, .freeCtr]
  | .updVerify _ => [.fus, .signals, .host, .events, .upd, .sent, .freeCtr]
  | .updSchedule _ _ => [.signals, .host, .events, .upd, .sent, .freeCtr]
  | .updCancel _ _ => [.signals, .host, .events, .upd, .sent, .freeCtr]
  | .updConfirm _ _ => [.signals, .host, .events, .upd, .sent, .freeCtr]
  | .updClose _ => [.signals, .host, .events, .upd, .sent, .freeCtr]
  | .updInfo _ => [.signals, .host, .sent]
  | .activation =>
      [.elec, .clk, .grid, .ring, .front, .fus, .est, .peerBuf, .therm, .ctl, .hold, .prot, .outr, .pair, .can, .signals, .host,
      .events, .records, .acting, .par, .upd, .stores, .sent, .freeCtr]
  | .confirmWindowExpiry =>
      [.elec, .clk, .grid, .ring, .front, .fus, .est, .peerBuf, .therm, .ctl, .hold, .prot, .outr, .pair, .can, .signals, .host,
      .events, .records, .acting, .par, .upd, .stores, .sent, .freeCtr]
  | .caravanReenum _ _ _ _ => [.ring, .signals, .host, .events, .acting, .sent, .freeCtr]
  | .compatibilityReply _ _ => [.ring, .fus, .signals, .host, .events, .sent, .freeCtr]
  | .partnerReadyChange _ => [.prot, .outr, .pair, .signals, .events, .sent, .freeCtr]
  | .ownershipLineAsserted _ => [.elec, .outr, .pair, .signals, .host, .events, .sent, .freeCtr]
  | .dieTempSend => [.sent]
  | .pcieError _ _ _ => [.signals, .events, .sent, .freeCtr]
  | .activationOpenTimeout =>
      [.elec, .clk, .grid, .ring, .front, .fus, .est, .peerBuf, .therm, .ctl, .hold, .prot, .outr, .pair, .can, .signals, .host,
      .events, .records, .acting, .par, .upd, .stores, .freeCtr]
  | .chargePumpStep => [.clk]

/-- Every command leaves every part but those it may touch as it was, in every state and with every operand. -/
theorem exec_frame {c : Instr} {s t : State} (h : exec c s = .next t) : sameBut (touched c) s t := by
  cases c <;> dsimp only [touched]
  case powerGood => exact sameBut_of_view _ (execPowerGood_view _ _ _ _ s t (by decide) h)
  case withdrawal => exact sameBut_of_view _ (execWithdrawal_view _ s t (by decide) h)
  case supplyLoss => exact sameBut_of_view _ (execSupplyLoss_view _ s t (by decide) h)
  case referenceDetect => exact sameBut_of_view _ (execReferenceDetect_view _ _ s t (by decide) h)
  case referenceLost => exact sameBut_of_view _ (execReferenceLost_view _ _ s t (by decide) h)
  case refFreqCompare => exact sameBut_of_view _ (execRefFreqCompare_view _ _ s t (by decide) h)
  case bypassRun => exact sameBut_of_view _ (execBypassRun_view _ _ s t (by decide) h)
  case pllLock => exact sameBut_of_view _ (execPllLock_view _ s t (by decide) h)
  case pllLockLost => exact sameBut_of_view _ (execPllLockLost_view _ s t (by decide) h)
  case domainSwitchDone => exact sameBut_of_view _ (execDomainSwitchDone_view _ s t (by decide) h)
  case domainSwitchTimeout => exact sameBut_of_view _ (execDomainSwitchTimeout_view _ s t (by decide) h)
  case pllEnWrite => exact sameBut_of_view _ (execPllEnWrite_view _ _ s t (by decide) h)
  case apply => exact sameBut_of_view _ (execApply_view _ _ s t (by decide) h)
  case watchdogExpiry => exact sameBut_of_view _ (execWatchdogExpiry_view _ s t (by decide) h)
  case clocklessHold => exact sameBut_of_view _ (execClocklessHold_view _ s t (by decide) h)
  case referenceReturnRestart => exact sameBut_of_view _ (execReferenceReturnRestart_view _ _ s t (by decide) h)
  case firmwareBoot => exact sameBut_of_view _ (execFirmwareBoot_view _ _ s t (by decide) h)
  case ledgerScan => exact sameBut_of_view _ (execLedgerScan_view _ s t (by decide) h)
  case ownershipArbitration => exact sameBut_of_view _ (execOwnershipArbitration_view _ s t (by decide) h)
  case ryranEnumeration => exact sameBut_of_view _ (execRyranEnumeration_view _ _ _ s t (by decide) h)
  case caravanEnumeration => exact sameBut_of_view _ (execCaravanEnumeration_view _ _ _ s t (by decide) h)
  case stateRecordRestoreTimeout => exact sameBut_of_view _ (execStateRecordRestoreTimeout_view _ s t (by decide) h)
  case joinDispatch => exact sameBut_of_view _ (execJoinDispatch_view _ s t (by decide) h)
  case dualActiveResolved => exact sameBut_of_view _ (execDualActiveResolved_view _ s t (by decide) h)
  case tickTrigger => exact sameBut_of_view _ (execTickTrigger_view _ _ s t (by decide) h)
  case angleSourceTick => exact sameBut_of_view _ (execAngleSourceTick_view _ _ s t (by decide) h)
  case virtualMainsEntry => exact sameBut_of_view _ (execVirtualMainsEntry_view _ s t (by decide) h)
  case virtualMainsExit off => exact sameBut_of_view _ (execVirtualMainsExit_view _ off s t (by decide) h)
  case waymarkReceived => exact sameBut_of_view _ (execWaymarkReceived_view _ _ _ _ s t (by decide) h)
  case waymarkMissed => exact sameBut_of_view _ (execWaymarkMissed_view _ _ s t (by decide) h)
  case unsynchronised => exact sameBut_of_view _ (execUnsynchronised_view _ s t (by decide) h)
  case resynchronise => exact sameBut_of_view _ (execResynchronise_view _ _ s t (by decide) h)
  case upstreamReturn => exact sameBut_of_view _ (execUpstreamReturn_view _ s t (by decide) h)
  case successorBecomesSource => exact sameBut_of_view _ (execSuccessorBecomesSource_view _ s t (by decide) h)
  case echoReq => exact sameBut_of_view _ (execEchoReq_view _ _ _ _ s t (by decide) h)
  case echoRep => exact sameBut_of_view _ (execEchoRep_view _ _ _ _ s t (by decide) h)
  case echoTimeout => exact sameBut_of_view _ (execEchoTimeout_view _ _ s t (by decide) h)
  case hopRemeasure => exact sameBut_of_view _ (execHopRemeasure_view _ s t (by decide) h)
  case loopTrace => exact sameBut_of_view _ (execLoopTrace_view _ _ _ s t (by decide) h)
  case triggerSend => exact sameBut_of_view _ (execTriggerSend_view _ _ _ s t (by decide) h)
  case snapSend => exact sameBut_of_view _ (execSnapSend_view _ _ s t (by decide) h)
  case featureRec => exact sameBut_of_view _ (execFeatureRec_view _ _ _ s t (by decide) h)
  case deliveryDeadline => exact sameBut_of_view _ (execDeliveryDeadline_view _ _ s t (by decide) h)
  case transactionTimeout => exact sameBut_of_view _ (execTransactionTimeout_view _ _ _ s t (by decide) h)
  case lostUnitPoll => exact sameBut_of_view _ (execLostUnitPoll_view _ _ s t (by decide) h)
  case statusRep => exact sameBut_of_view _ (execStatusRep_view _ _ _ s t (by decide) h)
  case statusPoll => exact sameBut_of_view _ (execStatusPoll_view _ _ s t (by decide) h)
  case ack => exact sameBut_of_view _ (execAck_view _ _ _ s t (by decide) h)
  case nak => exact sameBut_of_view _ (execNak_view _ _ _ s t (by decide) h)
  case watchStream => exact sameBut_of_view _ (execWatchStream_view _ _ _ s t (by decide) h)
  case tickSumSend => exact sameBut_of_view _ (execTickSumSend_view _ _ s t (by decide) h)
  case tickSum => exact sameBut_of_view _ (execTickSum_view _ _ _ _ s t (by decide) h)
  case wrapNotice => exact sameBut_of_view _ (execWrapNotice_view _ _ _ s t (by decide) h)
  case ringLockLoss => exact sameBut_of_view _ (execRingLockLoss_view _ _ _ s t (by decide) h)
  case ringTriggerTimeout => exact sameBut_of_view _ (execRingTriggerTimeout_view _ _ _ s t (by decide) h)
  case ringRestore => exact sameBut_of_view _ (execRingRestore_view _ _ _ s t (by decide) h)
  case compatReenum => exact sameBut_of_view _ (execCompatReenum_view _ _ _ s t (by decide) h)
  case balanceRefresh => exact sameBut_of_view _ (execBalanceRefresh_view _ _ s t (by decide) h)
  case bal12Refresh => exact sameBut_of_view _ (execBal12Refresh_view _ _ s t (by decide) h)
  case faultLoopOpen => exact sameBut_of_view _ (execFaultLoopOpen_view _ _ s t (by decide) h)
  case faultLoopClose => exact sameBut_of_view _ (execFaultLoopClose_view _ _ s t (by decide) h)
  case openwireSchedule => exact sameBut_of_view _ (execOpenwireSchedule_view _ _ s t (by decide) h)
  case openwireRep => exact sameBut_of_view _ (execOpenwireRep_view _ _ _ s t (by decide) h)
  case isoOkChange => exact sameBut_of_view _ (execIsoOkChange_view _ _ _ s t (by decide) h)
  case latchedLoRead => exact sameBut_of_view _ (execLatchedLoRead_view _ _ _ s t (by decide) h)
  case calPoint => exact sameBut_of_view _ (execCalPoint_view _ _ _ _ _ _ s t (by decide) h)
  case calPointDone => exact sameBut_of_view _ (execCalPointDone_view _ _ _ s t (by decide) h)
  case calSolve => exact sameBut_of_view _ (execCalSolve_view _ _ _ _ s t (by decide) h)
  case frameClose => exact sameBut_of_view _ (execFrameClose_view _ _ s t (by decide) h)
  case currentVote => exact sameBut_of_view _ (execCurrentVote_view _ _ s t (by decide) h)
  case sourceClear => exact sameBut_of_view _ (execSourceClear_view _ _ _ _ _ _ s t (by decide) h)
  case tickPropagation => exact sameBut_of_view _ (execTickPropagation_view _ s t (by decide) h)
  case dischargeStop => exact sameBut_of_view _ (execDischargeStop_view _ _ s t (by decide) h)
  case frameUpdate => exact sameBut_of_view _ (execFrameUpdate_view _ s t (by decide) h)
  case learningDurationExpiry => exact sameBut_of_view _ (execLearningDurationExpiry_view _ _ s t (by decide) h)
  case referenceStarved => exact sameBut_of_view _ (execReferenceStarved_view _ _ s t (by decide) h)
  case stateRecordCapture => exact sameBut_of_view _ (execStateRecordCapture_view _ s t (by decide) h)
  case stateOffer => exact sameBut_of_view _ (execStateOffer_view _ _ _ _ _ s t (by decide) h)
  case balanceReview => exact sameBut_of_view _ (execBalanceReview_view _ s t (by decide) h)
  case thermalInputTimeout => exact sameBut_of_view _ (execThermalInputTimeout_view _ _ s t (by decide) h)
  case thermalNodeLost => exact sameBut_of_view _ (execThermalNodeLost_view _ _ s t (by decide) h)
  case dieReading => exact sameBut_of_view _ (execDieReading_view _ _ s t (by decide) h)
  case dieTemp => exact sameBut_of_view _ (execDieTemp_view _ _ s t (by decide) h)
  case tempHostWrite => exact sameBut_of_view _ (execTempHostWrite_view _ _ s t (by decide) h)
  case controlLatch => exact sameBut_of_view _ (execControlLatch_view _ _ _ s t (by decide) h)
  case slotInputTimeout => exact sameBut_of_view _ (execSlotInputTimeout_view _ _ s t (by decide) h)
  case ctlBankReqWrite => exact sameBut_of_view _ (execCtlBankReqWrite_view _ _ _ s t (by decide) h)
  case latClr => exact sameBut_of_view _ (execLatClr_view _ _ s t (by decide) h)
  case ctlSwap => exact sameBut_of_view _ (execCtlSwap_view _ _ _ _ s t (by decide) h)
  case ctlReadSlot => exact sameBut_of_view _ (execCtlReadSlot_view _ _ _ s t (by decide) h)
  case phasorRecordForm => exact sameBut_of_view _ (execPhasorRecordForm_view _ s t (by decide) h)
  case phasorRecord => exact sameBut_of_view _ (execPhasorRecord_view _ _ _ s t (by decide) h)
  case vote => exact sameBut_of_view _ (execVote_view _ s t (by decide) h)
  case holdingPeriodBoundary => exact sameBut_of_view _ (execHoldingPeriodBoundary_view _ s t (by decide) h)
  case headroomSum => exact sameBut_of_view _ (execHeadroomSum_view _ _ _ s t (by decide) h)
  case sumSendDeadline => exact sameBut_of_view _ (execSumSendDeadline_view _ s t (by decide) h)
  case roundClose => exact sameBut_of_view _ (execRoundClose_view _ s t (by decide) h)
  case fraction => exact sameBut_of_view _ (execFraction_view _ _ _ s t (by decide) h)
  case fractionHoldExpiry => exact sameBut_of_view _ (execFractionHoldExpiry_view _ s t (by decide) h)
  case planClose => exact sameBut_of_view _ (execPlanClose_view _ s t (by decide) h)
  case holdSet => exact sameBut_of_view _ (execHoldSet_view _ _ _ _ _ s t (by decide) h)
  case leadMove => exact sameBut_of_view _ (execLeadMove_view _ _ _ _ s t (by decide) h)
  case leadMoveExecute => exact sameBut_of_view _ (execLeadMoveExecute_view _ s t (by decide) h)
  case comparatorTrip => exact sameBut_of_view _ (execComparatorTrip_view _ _ _ s t (by decide) h)
  case comparatorRelease => exact sameBut_of_view _ (execComparatorRelease_view _ _ _ s t (by decide) h)
  case outriderTripReport => exact sameBut_of_view _ (execOutriderTripReport_view _ _ s t (by decide) h)
  case blindString => exact sameBut_of_view _ (execBlindString_view _ _ s t (by decide) h)
  case thresholdWrite => exact sameBut_of_view _ (execThresholdWrite_view _ _ _ s t (by decide) h)
  case protectionBoundary => exact sameBut_of_view _ (execProtectionBoundary_view _ s t (by decide) h)
  case comparatorProof => exact sameBut_of_view _ (execComparatorProof_view _ _ _ s t (by decide) h)
  case coilTest => exact sameBut_of_view _ (execCoilTest_view _ _ s t (by decide) h)
  case testOverdue => exact sameBut_of_view _ (execTestOverdue_view _ _ _ _ s t (by decide) h)
  case contactorDropout => exact sameBut_of_view _ (execContactorDropout_view _ _ _ _ s t (by decide) h)
  case comparatorTestDue => exact sameBut_of_view _ (execComparatorTestDue_view _ _ s t (by decide) h)
  case stringOpen => exact sameBut_of_view _ (execStringOpen_view _ _ _ s t (by decide) h)
  case openCurrentLow => exact sameBut_of_view _ (execOpenCurrentLow_view _ _ s t (by decide) h)
  case weldCheck => exact sameBut_of_view _ (execWeldCheck_view _ _ s t (by decide) h)
  case stringClose => exact sameBut_of_view _ (execStringClose_view _ _ _ s t (by decide) h)
  case kNegSettled => exact sameBut_of_view _ (execKNegSettled_view _ _ _ s t (by decide) h)
  case prechargeReached => exact sameBut_of_view _ (execPrechargeReached_view _ _ s t (by decide) h)
  case prechargeFail => exact sameBut_of_view _ (execPrechargeFail_view _ _ s t (by decide) h)
  case kPosSettled => exact sameBut_of_view _ (execKPosSettled_view _ _ _ s t (by decide) h)
  case protReset => exact sameBut_of_view _ (execProtReset_view _ _ _ _ s t (by decide) h)
  case coilSupply => exact sameBut_of_view _ (execCoilSupply_view _ _ s t (by decide) h)
  case heartbeatAnswer => exact sameBut_of_view _ (execHeartbeatAnswer_view _ _ _ s t (by decide) h)
  case heartbeatLate => exact sameBut_of_view _ (execHeartbeatLate_view _ s t (by decide) h)
  case ownershipLineFree => exact sameBut_of_view _ (execOwnershipLineFree_view _ s t (by decide) h)
  case ownerQualified => exact sameBut_of_view _ (execOwnerQualified_view _ s t (by decide) h)
  case releaseOverlapEnd => exact sameBut_of_view _ (execReleaseOverlapEnd_view _ s t (by decide) h)
  case releaseRetake => exact sameBut_of_view _ (execReleaseRetake_view _ s t (by decide) h)
  case holdExpiry => exact sameBut_of_view _ (execHoldExpiry_view _ s t (by decide) h)
  case holdAck => exact sameBut_of_view _ (execHoldAck_view _ s t (by decide) h)
  case holdDrop => exact sameBut_of_view _ (execHoldDrop_view _ _ s t (by decide) h)
  case takeover => exact sameBut_of_view _ (execTakeover_view _ s t (by decide) h)
  case handover => exact sameBut_of_view _ (execHandover_view _ _ s t (by decide) h)
  case orderlyRelease => exact sameBut_of_view _ (execOrderlyRelease_view _ s t (by decide) h)
  case selfRelease => exact sameBut_of_view _ (execSelfRelease_view _ _ _ s t (by decide) h)
  case ejectorOpen => exact sameBut_of_view _ (execEjectorOpen_view _ s t (by decide) h)
  case partnerPresence => exact sameBut_of_view _ (execPartnerPresence_view _ _ s t (by decide) h)
  case isolate => exact sameBut_of_view _ (execIsolate_view _ _ s t (by decide) h)
  case rejoin => exact sameBut_of_view _ (execRejoin_view _ _ s t (by decide) h)
  case peerStatus => exact sameBut_of_view _ (execPeerStatus_view _ _ s t (by decide) h)
  case peerStatusSend => exact sameBut_of_view _ (execPeerStatusSend_view _ s t (by decide) h)
  case peerLinkDown => exact sameBut_of_view _ (execPeerLinkDown_view _ s t (by decide) h)
  case pairParamMismatch => exact sameBut_of_view _ (execPairParamMismatch_view _ s t (by decide) h)
  case stateRec => exact sameBut_of_view _ (execStateRec_view _ _ s t (by decide) h)
  case unitTable => exact sameBut_of_view _ (execUnitTable_view _ _ s t (by decide) h)
  case hopComp => exact sameBut_of_view _ (execHopComp_view _ _ s t (by decide) h)
  case holdState => exact sameBut_of_view _ (execHoldState_view _ _ s t (by decide) h)
  case release => exact sameBut_of_view _ (execRelease_view _ _ s t (by decide) h)
  case peerEchoReq => exact sameBut_of_view _ (execPeerEchoReq_view _ _ _ s t (by decide) h)
  case peerEchoRep => exact sameBut_of_view _ (execPeerEchoRep_view _ _ _ s t (by decide) h)
  case canFrame => exact sameBut_of_view _ (execCanFrame_view _ _ _ s t (by decide) h)
  case rateDwellExpiry => exact sameBut_of_view _ (execRateDwellExpiry_view _ _ s t (by decide) h)
  case rateSilentExpiry => exact sameBut_of_view _ (execRateSilentExpiry_view _ _ s t (by decide) h)
  case basicCycleStart => exact sameBut_of_view _ (execBasicCycleStart_view _ _ s t (by decide) h)
  case canWindowStart => exact sameBut_of_view _ (execCanWindowStart_view _ _ _ _ s t (by decide) h)
  case canTxDone => exact sameBut_of_view _ (execCanTxDone_view _ _ _ s t (by decide) h)
  case canBusOff => exact sameBut_of_view _ (execCanBusOff_view _ _ s t (by decide) h)
  case busOffRecovery => exact sameBut_of_view _ (execBusOffRecovery_view _ _ s t (by decide) h)
  case canPost => exact sameBut_of_view _ (execCanPost_view _ _ _ _ _ _ _ _ s t (by decide) h)
  case canCancel => exact sameBut_of_view _ (execCanCancel_view _ _ _ s t (by decide) h)
  case perst => exact sameBut_of_view _ (execPerst_view _ _ _ s t (by decide) h)
  case hostLinkDown => exact sameBut_of_view _ (execHostLinkDown_view _ _ _ s t (by decide) h)
  case hostLinkUp => exact sameBut_of_view _ (execHostLinkUp_view _ _ _ _ s t (by decide) h)
  case mbxDoorbell => exact sameBut_of_view _ (execMbxDoorbell_view _ _ _ _ _ s t (by decide) h)
  case commandTimeout => exact sameBut_of_view _ (execCommandTimeout_view _ _ _ s t (by decide) h)
  case longDone => exact sameBut_of_view _ (execLongDone_view _ _ s t (by decide) h)
  case longResultExpiry => exact sameBut_of_view _ (execLongResultExpiry_view _ _ s t (by decide) h)
  case nop => exact sameBut_of_view _ (execNop_view _ _ s t (by decide) h)
  case identify => exact sameBut_of_view _ (execIdentify_view _ _ s t (by decide) h)
  case longQuery => exact sameBut_of_view _ (execLongQuery_view _ _ _ s t (by decide) h)
  case streamOpen => exact sameBut_of_view _ (execStreamOpen_view _ _ _ _ _ _ s t (by decide) h)
  case streamClose => exact sameBut_of_view _ (execStreamClose_view _ _ _ s t (by decide) h)
  case strmTailWrite => exact sameBut_of_view _ (execStrmTailWrite_view _ _ _ _ s t (by decide) h)
  case descriptorFetchDone => exact sameBut_of_view _ (execDescriptorFetchDone_view _ _ _ _ s t (by decide) h)
  case descriptorFetchFail => exact sameBut_of_view _ (execDescriptorFetchFail_view _ _ _ _ s t (by decide) h)
  case descStarved => exact sameBut_of_view _ (execDescStarved_view _ _ _ s t (by decide) h)
  case bufferWriteDone => exact sameBut_of_view _ (execBufferWriteDone_view _ _ _ s t (by decide) h)
  case canrxFlush => exact sameBut_of_view _ (execCanrxFlush_view _ _ s t (by decide) h)
  case capture => exact sameBut_of_view _ (execCapture_view _ _ _ s t (by decide) h)
  case captureTrigger => exact sameBut_of_view _ (execCaptureTrigger_view _ _ s t (by decide) h)
  case hostReadDeferred => exact sameBut_of_view _ (execHostReadDeferred_view _ _ _ _ s t (by decide) h)
  case registerWrite => exact sameBut_of_view _ (execRegisterWrite_view _ _ _ _ s t (by decide) h)
  case evMaskWrite => exact sameBut_of_view _ (execEvMaskWrite_view _ _ _ _ s t (by decide) h)
  case ledgerRecordWrite => exact sameBut_of_view _ (execLedgerRecordWrite_view _ _ _ s t (by decide) h)
  case evLast => exact sameBut_of_view _ (execEvLast_view _ _ _ s t (by decide) h)
  case ledgerRead => exact sameBut_of_view _ (execLedgerRead_view _ _ _ _ s t (by decide) h)
  case ledgerExport => exact sameBut_of_view _ (execLedgerExport_view _ _ _ _ s t (by decide) h)
  case ledgerFreeze => exact sameBut_of_view _ (execLedgerFreeze_view _ _ _ s t (by decide) h)
  case ledgerUnfreeze => exact sameBut_of_view _ (execLedgerUnfreeze_view _ _ s t (by decide) h)
  case freezeExpiry => exact sameBut_of_view _ (execFreezeExpiry_view _ s t (by decide) h)
  case ledgerClear => exact sameBut_of_view _ (execLedgerClear_view _ _ _ s t (by decide) h)
  case ledgerInfo => exact sameBut_of_view _ (execLedgerInfo_view _ _ s t (by decide) h)
  case evTest => exact sameBut_of_view _ (execEvTest_view _ _ _ s t (by decide) h)
  case parRead => exact sameBut_of_view _ (execParRead_view _ _ _ _ _ _ s t (by decide) h)
  case parWrite => exact sameBut_of_view _ (execParWrite_view _ _ _ s t (by decide) h)
  case commit => exact sameBut_of_view _ (execCommit_view _ _ s t (by decide) h)
  case parDiscard => exact sameBut_of_view _ (execParDiscard_view _ _ s t (by decide) h)
  case persistenceDone => exact sameBut_of_view _ (execPersistenceDone_view _ _ s t (by decide) h)
  case safetyScan => exact sameBut_of_view _ (execSafetyScan_view _ s t (by decide) h)
  case updOpen => exact sameBut_of_view _ (execUpdOpen_view _ _ _ _ _ _ _ s t (by decide) h)
  case updBlock _ off addr crc _ => exact sameBut_of_view _ (execUpdBlock_view _ _ off addr crc _ s t (by decide) h)
  case updVerify => exact sameBut_of_view _ (execUpdVerify_view _ _ s t (by decide) h)
  case updSchedule => exact sameBut_of_view _ (execUpdSchedule_view _ _ _ s t (by decide) h)
  case updCancel => exact sameBut_of_view _ (execUpdCancel_view _ _ _ s t (by decide) h)
  case updConfirm => exact sameBut_of_view _ (execUpdConfirm_view _ _ _ s t (by decide) h)
  case updClose => exact sameBut_of_view _ (execUpdClose_view _ _ s t (by decide) h)
  case updInfo => exact sameBut_of_view _ (execUpdInfo_view _ _ s t (by decide) h)
  case activation => exact sameBut_of_view _ (execActivation_view _ s t (by decide) h)
  case confirmWindowExpiry => exact sameBut_of_view _ (execConfirmWindowExpiry_view _ s t (by decide) h)
  case caravanReenum => exact sameBut_of_view _ (execCaravanReenum_view _ _ _ _ _ s t (by decide) h)
  case compatibilityReply => exact sameBut_of_view _ (execCompatibilityReply_view _ _ _ s t (by decide) h)
  case partnerReadyChange => exact sameBut_of_view _ (execPartnerReadyChange_view _ _ s t (by decide) h)
  case ownershipLineAsserted => exact sameBut_of_view _ (execOwnershipLineAsserted_view _ _ s t (by decide) h)
  case dieTempSend => exact sameBut_of_view _ (execDieTempSend_view _ s t (by decide) h)
  case pcieError => exact sameBut_of_view _ (execPcieError_view _ _ _ _ s t (by decide) h)
  case activationOpenTimeout => exact sameBut_of_view _ (execActivationOpenTimeout_view _ s t (by decide) h)
  case chargePumpStep => exact sameBut_of_view _ (execChargePumpStep_view _ s t (by decide) h)

/-! ### The frames of the chapters -/

/-- Settles O32: each clause is the frame of its command. -/
theorem powerAndClockFrames : Obligations.PowerAndClockFrames := by
  unfold Obligations.PowerAndClockFrames
  and_intros <;> intros <;> exact exec_frame ‹_›

/-- Settles O33: each clause is the frame of its command. -/
theorem bringUpAndGridFrames : Obligations.BringUpAndGridFrames := by
  unfold Obligations.BringUpAndGridFrames
  and_intros <;> intros <;> exact exec_frame ‹_›

/-- Settles O34: each clause is the frame of its command. -/
theorem ringAndSensingFrames : Obligations.RingAndSensingFrames := by
  unfold Obligations.RingAndSensingFrames
  and_intros <;> intros <;> exact exec_frame ‹_›

/-- Settles O35: each clause is the frame of its command. -/
theorem estimationAndControlFrames : Obligations.EstimationAndControlFrames := by
  unfold Obligations.EstimationAndControlFrames
  and_intros <;> intros <;> exact exec_frame ‹_›

/-- Settles O36: each clause is the frame of its command. -/
theorem holdAndRoleFrames : Obligations.HoldAndRoleFrames := by
  unfold Obligations.HoldAndRoleFrames
  and_intros <;> intros <;> exact exec_frame ‹_›

/-- Settles O37: each clause is the frame of its command. -/
theorem protectionFrames : Obligations.ProtectionFrames := by
  unfold Obligations.ProtectionFrames
  and_intros <;> intros <;> exact exec_frame ‹_›

/-- Settles O38: each clause is the frame of its command. -/
theorem pairFrames : Obligations.PairFrames := by
  unfold Obligations.PairFrames
  and_intros <;> intros <;> exact exec_frame ‹_›

/-- Settles O39: each clause is the frame of its command. -/
theorem canFrames : Obligations.CanFrames := by
  unfold Obligations.CanFrames
  and_intros <;> intros <;> exact exec_frame ‹_›

/-- Settles O40: each clause is the frame of its command. -/
theorem portFrames : Obligations.PortFrames := by
  unfold Obligations.PortFrames
  and_intros <;> intros <;> exact exec_frame ‹_›

/-- Settles O41: each clause is the frame of its command. -/
theorem ledgerParameterAndUpdateFrames : Obligations.LedgerParameterAndUpdateFrames := by
  unfold Obligations.LedgerParameterAndUpdateFrames
  and_intros <;> intros <;> exact exec_frame ‹_›

/-! ### The queue and the identity -/

/-- No command may touch the IDENT block or the queue. -/
theorem untouched (c : Instr) : Block.ident ∉ touched c ∧ Block.pending ∉ touched c := by
  cases c <;> simp [touched]

/-- Settles O47: the two parts are in no command's frame. -/
theorem queueAndIdentityKept : Obligations.QueueAndIdentityKept := by
  unfold Obligations.QueueAndIdentityKept
  intro c s t ran
  obtain ⟨ident, pending⟩ := untouched c
  exact ⟨exec_frame ran .pending pending, exec_frame ran .ident ident⟩

/-- Settles O46: `step` decides by the queue, and the queue's rest is what `exec` finds. -/
theorem stepRunsTheFrontCommand : Obligations.StepRunsTheFrontCommand := by
  unfold Obligations.StepRunsTheFrontCommand
  refine ⟨fun c rest s queue => ?front, fun c s => rfl, fun s empty => ?idle⟩
  case front => simp only [step, queue]
  case idle => simp only [step, empty]

/-- Settles O50: the reset values of the tables are those that the state of the model starts with, and its stores are empty. -/
theorem resetState : Obligations.ResetState := by
  unfold Obligations.ResetState
  decide

end Sys2Proof.Proofs

/-! PROOFS. The host ports (R393 to R397, R410, R418): what a port is left with as it goes down or comes up, the writes of its registers, and
O25 from these. -/

namespace Sys2Proof.Proofs

open Sys2Proof Sys2Proof.Machine Sys2Proof.Laws

/-! ### A port that goes down -/

theorem other_ne (p : Ix) : p.other ≠ p := by cases p <;> decide
theorem ne_other (p : Ix) : p ≠ p.other := (other_ne p).symm

/-- A run that fails leaves of its port all but the run's own record. -/
theorem failRun_port (s : State) (p : Ix) (m : Nat) :
    ∃ c d, (failRun s p m).host.port.get p = { s.host.port.get p with capture := c, dump := d } := by
  unfold failRun
  dsimp only
  split
  · split
    · exact ⟨_, _, rfl⟩
    · exact ⟨_, _, two_get_modify ..⟩
  · split
    · split
      · exact ⟨_, _, rfl⟩
      · exact ⟨_, _, two_get_modify ..⟩
    · exact ⟨_, _, rfl⟩

/-- The ports once one has gone down: its runs have failed, and the other shows OTHER_LOST. -/
def downed (s : State) (p : Ix) : State :=
  modPort (modPort (failRun (failRun s p 3) p 4) p downPort) p.other fun q => { q with otherLost := true }

/-- What a port gives up as it goes down: the writes of state records to it, its staging session and its update lock. -/
def released (s : State) (p : Ix) : State :=
  let s := { s with est := { s.est with writing := s.est.writing.filter (· != p.num) } }
  let s := if s.par.holder.any (·.1 == p) then { s with par := { s.par with holder := none, staged := [] } } else s
  if s.upd.lock.any (·.1 == p) then { s with upd := { s.upd with lock := none } } else s

theorem goDown_eq (s : State) (p : Ix) (cause : Nat) : goDown s p cause =
    let t := released (downed s p) p
    raise (if t.ev.freeze.any (·.port == p) then endFreeze t 4 else t) 50 (ux p ++ u8 0 ++ u8 cause) := rfl

theorem released_host (s : State) (p : Ix) : (released s p).host = s.host := by
  simp only [released, apply_ite State.host, ite_self]

theorem endFreeze_hostRest (s : State) (cause : Nat) : hostRest (endFreeze s cause).host = hostRest s.host :=
  same_host (m := 201981952) (by simp) (by decide)

theorem goDown_ports (s : State) (p : Ix) (cause : Nat) : hostRest (goDown s p cause).host = hostRest (downed s p).host := by
  rw [goDown_eq]
  dsimp only
  rw [raise_hostRest, apply_ite State.host, apply_ite hostRest, endFreeze_hostRest, released_host, ite_self]

theorem goDown_port (s : State) (p q : Ix) (cause : Nat) :
    portRest ((goDown s p cause).host.port.get q) = portRest ((downed s p).host.port.get q) := port_of_rest (goDown_ports s p cause) q

theorem downed_same (s : State) (p : Ix) :
    ∃ c d, (downed s p).host.port.get p = downPort { s.host.port.get p with capture := c, dump := d } := by
  obtain ⟨c, d, first⟩ := failRun_port s p 3
  obtain ⟨c', d', second⟩ := failRun_port (failRun s p 3) p 4
  refine ⟨c', d', ?_⟩
  unfold downed
  rw [modPort_host, two_get_modify_other _ _ (ne_other p), modPort_host, two_get_modify, second, first]

theorem goDown_up (s : State) (p : Ix) (cause : Nat) : portUp (goDown s p cause) p = false := by
  obtain ⟨c, d, port⟩ := downed_same s p
  have up := congrArg PortState.up (goDown_port s p p cause)
  rw [port] at up
  exact up

theorem goDown_downCnt (s : State) (p : Ix) (cause : Nat) :
    ((goDown s p cause).host.port.get p).downCnt = sat 0xFF ((s.host.port.get p).downCnt + 1) := by
  obtain ⟨c, d, port⟩ := downed_same s p
  have cnt := congrArg PortState.downCnt (goDown_port s p p cause)
  rw [port] at cnt
  exact cnt

theorem goDown_otherLost (s : State) (p : Ix) (cause : Nat) : ((goDown s p cause).host.port.get p.other).otherLost = true := by
  have lost := congrArg PortState.otherLost (goDown_port s p p.other cause)
  unfold downed at lost
  rw [modPort_host, two_get_modify] at lost
  exact lost

theorem goDown_newest (s : State) (p : Ix) (cause : Nat) : newest (goDown s p cause) 50 = some (ux p ++ u8 0 ++ u8 cause) :=
  raise_newest _ 50 _

section Ports

variable {s : State} {p : Ix} (clock : clocked s = true)
include clock

/-- R394, R395: a reset of a port that is up counts the down and is reported. -/
theorem perst_resetsUpPort (c : LinkCause) (up : portUp s p = true) : runs (.perst p c) s fun t =>
    t.host.port.get p = { downCnt := sat 0xFF ((s.host.port.get p).downCnt + 1) } ∧ newest t 50 = some (ux p ++ u8 0 ++ u8 c.code) := by
  have outcome : exec (.perst p c) s = .next (modPort (goDown s p c.code) p resetPort) := by
    show execPerst p c s = _
    simp [execPerst, clock, up]
  refine ⟨_, outcome, ?_, goDown_newest s p c.code⟩
  rw [modPort_host, two_get_modify, resetPort, goDown_downCnt]

theorem perst_resetsDownPort (c : LinkCause) (down : portUp s p = false) : runs (.perst p c) s fun t =>
    t.host.port.get p = { downCnt := (s.host.port.get p).downCnt } := by
  have outcome : exec (.perst p c) s = .next (modPort s p resetPort) := by
    show execPerst p c s = _
    simp [execPerst, clock, down]
  exact ⟨_, outcome, two_get_modify ..⟩

/-- R395: a link that goes down. -/
theorem hostLinkDown_lowersPort (c : LinkCause) (up : portUp s p = true) : runs (.hostLinkDown p c) s fun t =>
    portUp t p = false ∧ (t.host.port.get p.other).otherLost = true ∧ newest t 50 = some (ux p ++ u8 0 ++ u8 c.code) := by
  have outcome : exec (.hostLinkDown p c) s = .next (goDown s p c.code) := by
    show execHostLinkDown p c s = _
    simp [execHostLinkDown, clock, up]
  exact ⟨_, outcome, goDown_up s p c.code, goDown_otherLost s p c.code, goDown_newest s p c.code⟩

/-- R395: a link that comes up. -/
theorem hostLinkUp_raisesPort (v : Nat) (wide : Bool) (down : portUp s p = false) (step : 3 ≤ s.elec.step) :
    runs (.hostLinkUp p v wide) s fun t => portUp t p = true ∧ (t.host.port.get p).responses = [] ∧
      (t.host.port.get p).speed = v % 4 ∧ (t.host.port.get p).wide = wide ∧ newest t 50 = some (ux p ++ u8 1 ++ u8 0) := by
  have outcome : exec (.hostLinkUp p v wide) s = .next (raise (modPort s p fun q =>
      { q with up := true, speed := v % 4, wide := wide, responses := [], streams := List.replicate 5 {},
               rings := q.rings.map fun r => { toCnt := r.toCnt } }) 50 (ux p ++ u8 1 ++ u8 0)) := by
    show execHostLinkUp p v wide s = _
    simp [execHostLinkUp, clock, down, step]
  have rest := port_of_rest (raise_hostRest (modPort s p fun q =>
      { q with up := true, speed := v % 4, wide := wide, responses := [], streams := List.replicate 5 {},
               rings := q.rings.map fun r => { toCnt := r.toCnt } }) 50 (ux p ++ u8 1 ++ u8 0)) p
  rw [modPort_host, two_get_modify] at rest
  exact ⟨_, outcome, (congrArg PortState.up rest :), (congrArg PortState.responses rest :), (congrArg PortState.speed rest :),
    (congrArg PortState.wide rest :), raise_newest _ 50 _⟩

/-- R393: an error of PCI Express is reported with the AER status. -/
theorem pcieError_reports (st : Nat) (b : Bool) (step : 3 ≤ s.elec.step) :
    runs (.pcieError p st b) s fun t => newest t 56 = some (ux p ++ u32 st ++ ub b) := by
  have outcome : exec (.pcieError p st b) s = .next (raise s 56 (ux p ++ u32 st ++ ub b)) := by
    show execPcieError p st b s = _
    simp [execPcieError, clock, step]
  exact ⟨_, outcome, raise_newest _ 56 _⟩

/-! ### Writes of registers -/

/-- R397: a write through a port that is up reaches BAR0. -/
theorem exec_registerWrite (up : portUp s p = true) (off : Nat) (w : Word) :
    exec (.registerWrite p off w) s = .next (bar0Write s p off w.toNat) := by
  show execRegisterWrite p off w s = _
  simp [execRegisterWrite, clock, up]

theorem registerWrite_keepsScratch (up : portUp s p = true) (w : Word) :
    runs (.registerWrite p 0x1C w) s fun t => (t.host.port.get p).scratch = w.toNat := by
  have written : bar0Write s p 0x1C w.toNat = modPort s p fun q => { q with scratch := w.toNat } := rfl
  refine ⟨_, exec_registerWrite clock up 0x1C w, ?_⟩
  simp [written]

/-- Table 15-10: OVERFLOW and FAULT clear where a 1 is written. -/
theorem registerWrite_clearsLedgerStatus (up : portUp s p = true) (w : Word) :
    runs (.registerWrite p 0xE80 w) s fun t => t.ev.overflow = (s.ev.overflow && !testBit w.toNat 6) ∧
      t.ev.fault = (s.ev.fault && !testBit w.toNat 7) :=
  ⟨_, exec_registerWrite clock up 0xE80 w, rfl, rfl⟩

omit clock in
/-- Sending vectors leaves the masks of a port. -/
theorem sendVectors_mask (v : State → Nat → Nat) (l : List Nat) (s : State) (p q : Ix) :
    ((l.foldl (fun s i => sendVector s p (v s i)) s).host.port.get q).mask = (s.host.port.get q).mask := by
  induction l generalizing s with
  | nil => rfl
  | cons i l ih => rw [List.foldl_cons, ih]; exact (congrArg PortState.mask (sendVector_port s p q (v s i)) :)

/-- R418: a write of EV_MASKg is kept whole. -/
theorem evMaskWrite_masks {g : Nat} (w : Word) (up : portUp s p = true) (group : g < 8) (inside : g < (s.host.port.get p).mask.length) :
    runs (.evMaskWrite p g w) s fun t => (t.host.port.get p).mask[g]? = some w.toNat := by
  have outcome : exec (.evMaskWrite p g w) s = .next (maskWrite s p g w.toNat) := by
    show execEvMaskWrite p g w s = _
    simp [execEvMaskWrite, clock, up, group]
  refine ⟨_, outcome, ?_⟩
  unfold maskWrite
  dsimp only
  rw [sendVectors_mask, modPort_host, two_get_modify]
  simp [modAt_getElem?, inside]

end Ports

/-- R397: an access that is not aligned takes nothing. -/
theorem registerWrite_ignoresUnaligned {off : Nat} (s : State) (p : Ix) (w : Word) (unaligned : off % 4 ≠ 0) :
    runs (.registerWrite p off w) s fun t => t = s := by
  have nothing : bar0Write s p off w.toNat = s := if_pos unaligned
  refine ⟨s, ?_, rfl⟩
  show execRegisterWrite p off w s = _
  simp [execRegisterWrite, nothing]

/-- Settles O25: one theorem above for each clause, in the order of the commands. -/
theorem portCommandsTakeEffect : Obligations.PortCommandsTakeEffect := by
  unfold Obligations.PortCommandsTakeEffect
  refine ⟨?perstUp, ?perstDown, ?linkDown, ?linkUp, ?error, ?scratch, ?unaligned, ?status, ?mask⟩
  case perstUp => exact fun s p c clock up => perst_resetsUpPort clock c up
  case perstDown => exact fun s p c clock down => perst_resetsDownPort clock c down
  case linkDown => exact fun s p c clock up => hostLinkDown_lowersPort clock c up
  case linkUp => exact fun s p v wide clock down step => hostLinkUp_raisesPort clock v wide down step
  case error => exact fun s p st b clock step => pcieError_reports clock st b step
  case scratch => exact fun s p w clock up => registerWrite_keepsScratch clock up w
  case unaligned => exact fun s p off w unaligned => registerWrite_ignoresUnaligned s p w unaligned
  case status => exact fun s p w clock up => registerWrite_clearsLedgerStatus clock up w
  case mask => exact fun s p g w clock up group inside => evMaskWrite_masks clock w up group inside

end Sys2Proof.Proofs

/-! PROOFS. Doorbells, time limits and results of mailbox commands (R399, R401, R402, R403), and O26 from these. -/

namespace Sys2Proof.Proofs

open Sys2Proof Sys2Proof.Machine Sys2Proof.Laws

/-! ### Doorbells -/

theorem mbxRing_of_rings {s t : State} {p : Ix} (h : (t.host.port.get p).rings = (s.host.port.get p).rings) (r : Nat) :
    mbxRing t p r = mbxRing s p r := by unfold mbxRing; rw [h]

theorem mbxRing_sendVector (s : State) (p q : Ix) (n r : Nat) : mbxRing (sendVector s p n) q r = mbxRing s q r :=
  mbxRing_of_rings (sendVector_rings s p q n) r

theorem mbxRing_modRing {s : State} {p : Ix} {r : Nat} (inside : r < (s.host.port.get p).rings.length) (f : MbxRing → MbxRing) :
    mbxRing (modRing s p r f) p r = f (mbxRing s p r) := by
  simp [mbxRing, modRing, modAt_getElem?, inside]

/-- A change of a ring that keeps what the host has handed over keeps it on every ring. -/
theorem modRing_prod (s : State) (p : Ix) (r k : Nat) {f : MbxRing → MbxRing} (h : ∀ x, (f x).prod = x.prod) :
    (mbxRing (modRing s p r f) p k).prod = (mbxRing s p k).prod := by
  by_cases same : k = r
  · subst same
    simp only [mbxRing, modRing, modPort_host, two_get_modify, modAt_getElem?]
    cases (s.host.port.get p).rings[k]? <;> simp [h]
  · simp [mbxRing, modRing, modAt_getElem?_other f _ _ _ same]

theorem writeResponse_prod (s : State) (h : Hdr) (op : Nat) (st : Status) (dt id : Nat) (w : Option (Nat × Nat × Nat)) (b : List Byte)
    (k : Nat) : (mbxRing (writeResponse s h op st dt id w b) h.port k).prod = (mbxRing s h.port k).prod := by
  have written (t : State) : mbxRing (if h.raise then sendVector t h.port h.ring else t) h.port k = mbxRing t h.port k := by
    split
    · exact mbxRing_sendVector ..
    · rfl
  unfold writeResponse
  dsimp only
  rw [written, modRing_prod]
  · exact congrArg MbxRing.prod (mbxRing_of_rings (by simp) k)
  · exact fun _ => rfl

theorem answerBad_prod (p : Ix) (ring n : Nat) (s : State) (k : Nat) : (mbxRing (answerBad p ring n s) p k).prod = (mbxRing s p k).prod := by
  induction n generalizing s with
  | zero => rfl
  | succ n ih =>
    unfold answerBad
    split
    · rfl
    · split
      · rfl
      · rw [ih]
        exact writeResponse_prod ..

section Doorbell

variable {s : State} {p : Ix} {r : Nat} (clock : clocked s = true) (serves : (s.elec.fw || s.elec.loader) = true)
  (up : portUp s p = true) (ring : r < 8) (inside : r < (s.host.port.get p).rings.length)
include clock serves up ring inside

omit inside in
theorem exec_mbxDoorbell (w : Word) (l : List MbxEntry) : exec (.mbxDoorbell p r w l) s = .next (doorbell s p r w.toNat l) := by
  show execMbxDoorbell p r w l s = _
  simp only [execMbxDoorbell, clock, serves, up, ring, decide_true, Bool.and_self, if_true]

/-- R399: a doorbell hands its entries over. -/
theorem mbxDoorbell_handsOver {w : Word} (l : List MbxEntry) (fits : (w.toNat % 64 + 64 - (mbxRing s p r).done) % 64 ≤ 32) :
    runs (.mbxDoorbell p r w l) s fun t => (mbxRing t p r).prod = w.toNat % 64 := by
  refine ⟨_, exec_mbxDoorbell clock serves up ring w l, ?_⟩
  unfold doorbell
  dsimp only
  rw [if_neg (Nat.not_lt.mpr fits), answerBad_prod, mbxRing_modRing inside]

/-- R399: one that would hand over more than 32 entries is ignored with DB_ERR. -/
theorem mbxDoorbell_refuses {w : Word} (l : List MbxEntry) (beyond : 32 < (w.toNat % 64 + 64 - (mbxRing s p r).done) % 64) :
    runs (.mbxDoorbell p r w l) s fun t => (mbxRing t p r).dbErr = true ∧ (mbxRing t p r).prod = (mbxRing s p r).prod ∧
      (mbxRing t p r).waiting = (mbxRing s p r).waiting := by
  refine ⟨_, exec_mbxDoorbell clock serves up ring w l, ?_⟩
  unfold doorbell
  dsimp only
  rw [if_pos beyond, mbxRing_modRing inside]
  exact ⟨rfl, rfl, rfl⟩

end Doorbell

/-! ### Long commands -/

/-- R402: the end of a long command is reported once. -/
theorem longDone_reports {s : State} {l : LongRec} (run : running s = true)
    (found : (s.host.longs.find? fun k => k.id == l.id && k.ended && !k.reported) = some l) :
    runs (.longDone l.id) s fun t => newest t 51 = some (ux l.port ++ u8 l.ring ++ u32 l.tag ++ u64 l.id ++ u16 l.status.code) := by
  have outcome : exec (.longDone l.id) s = .next (raise { s with host := { s.host with longs := s.host.longs.map fun k =>
      if k.id = l.id ∧ k.ended = true then { k with reported := true } else k } } 51
        (ux l.port ++ u8 l.ring ++ u32 l.tag ++ u64 l.id ++ u16 l.status.code)) := by
    show execLongDone l.id s = _
    unfold execLongDone
    rw [found]
    simp [run]
  exact ⟨_, outcome, raise_newest _ 51 _⟩

/-- R402: a result is dropped once it has been kept for its time. -/
theorem longResultExpiry_drops {s : State} (run : running s = true) (id : Nat) : runs (.longResultExpiry id) s fun t =>
    t.host.longs = s.host.longs.filter fun l => !(l.id == id && l.ended && passed s l.doneUp (sec (parN s 0x0E05))) := by
  refine ⟨{ s with host := { s.host with longs := s.host.longs.filter fun l =>
    !(l.id == id && l.ended && passed s l.doneUp (sec (parN s 0x0E05))) } }, ?_, rfl⟩
  show execLongResultExpiry id s = _
  rw [execLongResultExpiry, if_pos run]

/-! ### The commands every host has -/

theorem running_of_hostReady {s : State} {h : Hdr} (ready : hostReady s h = true) : running s = true := by
  simp only [hostReady, Bool.and_eq_true] at ready
  exact ready.1.1

theorem ring_of_hostReady {s : State} {h : Hdr} (ready : hostReady s h = true) : h.ring < 8 := by
  simp only [hostReady, Bool.and_eq_true, decide_eq_true_eq] at ready
  exact ready.2

section Answers

variable {s : State} {h : Hdr} (ready : hostReady s h = true) (only : alone s h = true)
include ready only

/-- R401: an ordinary command that cannot finish is answered TIMEOUT and reported. -/
theorem commandTimeout_answers {op : Nat} (known : (opcodeLens op).isSome = true) (ordinary : longOpcode op = false) :
    runs (.commandTimeout h op) s fun t => answered t h op .timeout 0 0 [] ∧
      newest t 55 = some (ux h.port ++ u8 h.ring ++ u16 op ++ u32 h.tag) := by
  have outcome : exec (.commandTimeout h op) s =
      .next (raise (respond s h op .timeout 0) 55 (ux h.port ++ u8 h.ring ++ u16 op ++ u32 h.tag)) := by
    show execCommandTimeout h op s = _
    simp [execCommandTimeout, running_of_hostReady ready, known, ordinary, ring_of_hostReady ready]
  exact ⟨_, outcome, answered_raise _ _ (respond_answered s h op .timeout 0 (hostReady_portUp ready) only), raise_newest _ 55 _⟩

theorem nop_answers : runs (.nop h) s fun t => answered t h 0x0001 .ok 0 0 [] := by
  refine ⟨respondOk s h 0x0001 [], ?_, respondOk_answered s h 0x0001 [] (hostReady_portUp ready) only⟩
  show execNop h s = _
  rw [execNop, if_pos ready]

/-- R402: LONG_QUERY answers what is known of a long command. -/
theorem longQuery_answers {id : Nat} {l : LongRec} (found : (s.host.longs.find? fun k => k.id == id) = some l) :
    runs (.longQuery h id) s fun t => answered t h 0x0003 .ok 0 0
      (u16 l.opcode ++ u16 (if l.ended then l.status else .pending).code ++ u32 l.detail ++ ustamp l.doneAt ++ u32 l.resp.length ++
        l.resp) := by
  refine ⟨_, ?_, respondOk_answered s h 0x0003 _ (hostReady_portUp ready) only⟩
  show execLongQuery h id s = _
  unfold execLongQuery
  rw [found]
  simp [ready]

end Answers

/-- R403, R451: IDENTIFY is answered by the boot loader too. -/
theorem identify_answers {s : State} {h : Hdr} (ready : loaderReady s h = true) (only : alone s h = true) :
    runs (.identify h) s fun t => answered t h 0x0002 .ok 0 0 (identBytes s h.port) := by
  refine ⟨respondOk s h 0x0002 (identBytes s h.port), ?_, respondOk_answered s h 0x0002 _ (loaderReady_portUp ready) only⟩
  show execIdentify h s = _
  rw [execIdentify, if_pos ready]

/-- Settles O26: one theorem above for each clause, in the order of the commands. -/
theorem mailboxCommandsTakeEffect : Obligations.MailboxCommandsTakeEffect := by
  unfold Obligations.MailboxCommandsTakeEffect
  refine ⟨?doorbell, ?doorbellOver, ?timeout, ?done, ?expiry, ?nop, ?identify, ?query⟩
  case doorbell => exact fun s p r w l clock serves up ring inside fits => mbxDoorbell_handsOver clock serves up ring inside l fits
  case doorbellOver => exact fun s p r w l clock serves up ring inside beyond => mbxDoorbell_refuses clock serves up ring inside l beyond
  case timeout => exact fun s h op ready only known ordinary => commandTimeout_answers ready only known ordinary
  case done => exact fun s l run found => longDone_reports run found
  case expiry => exact fun s id run => longResultExpiry_drops run id
  case nop => exact fun s h ready only => nop_answers ready only
  case identify => exact fun s h ready only => identify_answers ready only
  case query => exact fun s h id l ready only found => longQuery_answers ready only found

end Sys2Proof.Proofs

/-! PROOFS. The streams (R404 to R409): what filling, closing and dropping leave of a stream and of its port, then one theorem for each
command, and O27 from these. -/

namespace Sys2Proof.Proofs

open Sys2Proof Sys2Proof.Machine Sys2Proof.Laws

/-! ### One stream of a port -/

theorem strm_of_streams {s t : State} {p : Ix} (h : (t.host.port.get p).streams = (s.host.port.get p).streams) (m : Nat) :
    strm t p m = strm s p m := by unfold strm; rw [h]

@[simp] theorem strm_raise (s : State) (e : Nat) (d : List Byte) (p : Ix) (m : Nat) : strm (raise s e d) p m = strm s p m :=
  strm_of_streams (raise_streams s e d p) m

/-- A change of a port that leaves its streams. -/
theorem strm_modPort (s : State) (p : Ix) {f : PortState → PortState} (h : ∀ q, (f q).streams = q.streams) (q : Ix) (m : Nat) :
    strm (modPort s p f) q m = strm s q m := by
  refine strm_of_streams ?_ m
  by_cases same : q = p
  · rw [same, modPort_host, two_get_modify, h]
  · rw [modPort_host, two_get_modify_other _ _ same]

theorem strm_modStrm {s : State} {p : Ix} {m : Nat} (inside : m < (s.host.port.get p).streams.length)
    (f : StreamState14 → StreamState14) : strm (modStrm s p m f) p m = f (strm s p m) := by
  simp [strm, modStrm, modAt_getElem?, inside]

/-- A stream that the port does not have is not open. -/
theorem inside_of_open {s : State} {p : Ix} {m : Nat} (opened : (strm s p m).isOpen = true) :
    m < (s.host.port.get p).streams.length := by
  by_contra outside
  have none : strm s p m = {} := by simp [strm, List.getElem?_eq_none (Nat.le_of_not_lt outside)]
  simp [none] at opened

/-- A relation that every stream has to itself, and to what a change makes of it, holds of all streams over that change. -/
theorem modStrm_rel {R : StreamState14 → StreamState14 → Prop} (refl : ∀ t, R t t) {f : StreamState14 → StreamState14}
    (h : ∀ t, R t (f t)) (s : State) (p q : Ix) (m k : Nat) : R (strm s q k) (strm (modStrm s p m f) q k) := by
  by_cases port : q = p
  · subst port
    by_cases stream : k = m
    · subst stream
      by_cases inside : k < (s.host.port.get q).streams.length
      · rw [strm_modStrm inside]; exact h _
      · have none : strm (modStrm s q k f) q k = strm s q k := by
          simp [strm, modStrm, modAt_getElem?, List.getElem?_eq_none (Nat.le_of_not_lt inside)]
        rw [none]; exact refl _
    · have same : strm (modStrm s q m f) q k = strm s q k := by simp [strm, modStrm, modAt_getElem?_other f _ _ _ stream]
      rw [same]; exact refl _
  · have same : strm (modStrm s p m f) q k = strm s q k := by simp only [strm, modStrm, modPort_host, two_get_modify_other _ _ port]
    rw [same]; exact refl _

/-- What a change of a stream leaves, it leaves of every stream. -/
theorem modStrm_keeps {α : Type} (g : StreamState14 → α) {f : StreamState14 → StreamState14} (h : ∀ t, g (f t) = g t) (s : State)
    (p q : Ix) (m k : Nat) : g (strm (modStrm s p m f) q k) = g (strm s q k) :=
  modStrm_rel (R := fun t u => g u = g t) (fun _ => rfl) h s p q m k

/-! ### Buffers filled and closed -/

/-- A stream `u` that has come from `t` as records were taken in, buffers closed and records dropped. -/
structure Drawn (t u : StreamState14) : Prop where
  head : u.head = t.head
  tail : u.tail = t.tail
  writing : t.writing <+: u.writing

theorem Drawn.refl (t : StreamState14) : Drawn t t := ⟨rfl, rfl, List.prefix_refl _⟩
theorem Drawn.trans {t u v : StreamState14} (h : Drawn t u) (h' : Drawn u v) : Drawn t v :=
  ⟨h'.head.trans h.head, h'.tail.trans h.tail, h.writing.trans h'.writing⟩
theorem Drawn.of_eq {t u : StreamState14} (h : u = t) : Drawn t u := h ▸ .refl t

section Drawn

variable (s : State) (p : Ix) (m : Nat) (q : Ix) (k : Nat)

theorem modStrm_drawn {f : StreamState14 → StreamState14} (h : ∀ t, Drawn t (f t)) : Drawn (strm s q k) (strm (modStrm s p m f) q k) :=
  modStrm_rel Drawn.refl h s p q m k

theorem openWrite_host : (openWrite s p m).host = s.host := by unfold openWrite; split <;> rfl

theorem closeBuf_drawn : Drawn (strm s q k) (strm (closeBuf s p m) q k) := by
  have opened (t : State) : strm (openWrite t p m) q k = strm t q k := strm_of_streams (by rw [openWrite_host]) k
  unfold closeBuf
  split
  · exact .refl _
  · dsimp only
    split
    · rw [opened]
      exact modStrm_drawn s p m q k fun _ => ⟨rfl, rfl, List.prefix_append _ _⟩
    · exact modStrm_drawn s p m q k fun _ => ⟨rfl, rfl, List.prefix_append _ _⟩

theorem fetchNext_drawn : Drawn (strm s q k) (strm (fetchNext s p m) q k) := by
  unfold fetchNext
  dsimp only
  split
  · exact modStrm_drawn s p m q k fun _ => ⟨rfl, rfl, List.prefix_refl _⟩
  · exact .refl _

theorem takeRecord_drawn : Drawn (strm s q k) (strm (takeRecord s p m) q k) := by
  have marked (t : State) (c : Prop) [Decidable c] (n : Option Nat) :
      strm (if c then modPort t p fun q => { q with rxCycle := n } else t) q k = strm t q k := by
    split
    · rw [strm_modPort]
      exact fun _ => rfl
    · rfl
  have closed (t : State) (c : Prop) [Decidable c] : Drawn (strm t q k) (strm (if c then closeBuf t p m else t) q k) := by
    split
    · exact closeBuf_drawn t p m q k
    · exact .refl _
  unfold takeRecord
  dsimp only
  split
  · split
    · refine .trans ?_ (closed _ _)
      rw [marked]
      exact modStrm_drawn s p m q k fun _ => ⟨rfl, rfl, List.prefix_refl _⟩
    · split
      · refine .trans (modStrm_drawn s p m q k ?_) (closeBuf_drawn _ p m q k)
        exact fun _ => ⟨rfl, rfl, List.prefix_refl _⟩
      · exact closeBuf_drawn s p m q k
  · exact .refl _

theorem pump_drawn (n : Nat) : Drawn (strm s q k) (strm (pump p m n s) q k) := by
  induction n generalizing s with
  | zero => exact fetchNext_drawn s p m q k
  | succ n ih =>
    unfold pump
    split
    · exact (takeRecord_drawn s p m q k).trans (ih _)
    · exact fetchNext_drawn s p m q k

theorem noteNeed_drawn : Drawn (strm s q k) (strm (noteNeed s p m) q k) :=
  modStrm_drawn s p m q k fun _ => ⟨rfl, rfl, List.prefix_refl _⟩

theorem pumpAll_drawn : Drawn (strm s q k) (strm (pumpAll s p m) q k) :=
  (pump_drawn s p m q k _).trans (noteNeed_drawn _ p m q k)

/-- A stream whose oldest waiting record is dropped (R408). -/
def dropped (t : StreamState14) : StreamState14 :=
  { t with waiting := t.waiting.drop 1, lost := t.lost + 1, lostNow := t.lostNow + 1, starved := true }

theorem dropOldest_strm : strm (dropOldest s p m) q k = if (strm s p m).waiting.isEmpty then strm s q k else strm (modStrm s p m dropped) q k := by
  have raised (t : State) (c : Prop) [Decidable c] (ev : EvState) (e : Nat) (d : List Byte) :
      strm (if c then raise { t with ev := ev } e d else t) q k = strm t q k := by
    split
    · exact strm_raise _ e d q k
    · rfl
  unfold dropOldest
  dsimp only
  split
  · rfl
  · exact raised _ _ _ _ _

theorem dropOldest_drawn : Drawn (strm s q k) (strm (dropOldest s p m) q k) := by
  rw [dropOldest_strm]
  split
  · exact .refl _
  · exact modStrm_drawn s p m q k fun _ => ⟨rfl, rfl, List.prefix_refl _⟩

theorem deliver_drawn (stamp : Stamp) (r : List Byte) : Drawn (strm s q k) (strm (deliver s p m stamp r) q k) := by
  unfold deliver
  split
  · exact .refl _
  · refine .trans ?_ (pumpAll_drawn _ p m q k)
    refine .trans ?_ (modStrm_drawn _ p m q k fun _ => ⟨rfl, rfl, List.prefix_refl _⟩)
    split
    · exact dropOldest_drawn s p m q k
    · exact .refl _

/-- The end of a run leaves the streams. -/
theorem endRun_strm : strm (endRun s p m) q k = strm s q k := by
  have ended (f : PortState → PortState) (h : ∀ u, (f u).streams = u.streams) (id : Nat) (l : List Byte) :
      strm (endLong (modPort s p f) id .ok 0 l) q k = strm s q k := strm_modPort s p h q k
  unfold endRun
  dsimp only
  split
  · split
    · rfl
    · rw [ended]; exact fun _ => rfl
  · split
    · split
      · rfl
      · rw [ended]; exact fun _ => rfl
    · rfl

theorem settleRun_drawn : Drawn (strm s q k) (strm (settleRun s p m) q k) := by
  have closed (t : State) (c : Prop) [Decidable c] : Drawn (strm t q k) (strm (if c then closeBuf t p m else t) q k) := by
    split
    · exact closeBuf_drawn t p m q k
    · exact .refl _
  have ended (t : State) (c : Prop) [Decidable c] : strm (if c then endRun t p m else t) q k = strm t q k := by
    split
    · exact endRun_strm t p m q k
    · rfl
  unfold settleRun
  dsimp only
  split
  · rw [ended]; exact closed s _
  · exact .refl _

theorem pullDump_drawn (n : Nat) : Drawn (strm s q k) (strm (pullDump p n s) q k) := by
  have kept (t : State) (f : DumpRun → DumpRun) : strm (modPort t p fun q => { q with dump := q.dump.map f }) q k = strm t q k := by
    rw [strm_modPort]
    exact fun _ => rfl
  induction n generalizing s with
  | zero => exact .refl _
  | succ n ih =>
    unfold pullDump
    split
    · exact .refl _
    · split
      · exact .refl _
      · split
        · exact .refl _
        · dsimp only
          split
          · exact (Drawn.of_eq (kept s _)).trans ((deliver_drawn _ p 3 q k _ _).trans (ih _))
          · exact (Drawn.of_eq (kept s _)).trans (ih _)

theorem feedStream_drawn : Drawn (strm s q k) (strm (feedStream s p m) q k) := by
  unfold feedStream runDump
  refine (pumpAll_drawn s p m q k).trans ?_
  split
  · exact ((pullDump_drawn _ p q k _).trans (noteNeed_drawn _ p 3 q k)).trans (settleRun_drawn _ p 3 q k)
  · exact settleRun_drawn _ p m q k

end Drawn

/-! ### The port while its streams move -/

/-- A port without its streams and its signals. -/
def deskOf (q : PortState) : PortState := { portRest q with streams := [], rxCycle := none }
/-- What a port holds but its streams and its signals. -/
def desk (s : State) (p : Ix) : PortState := deskOf (s.host.port.get p)

section Desk

variable (s : State) (p : Ix) (m : Nat) (q : Ix)

theorem modPort_desk {f : PortState → PortState} (h : ∀ q, deskOf (f q) = deskOf q) : desk (modPort s p f) q = desk s q := by
  unfold desk
  by_cases same : q = p
  · rw [same, modPort_host, two_get_modify, h]
  · rw [modPort_host, two_get_modify_other _ _ same]

theorem modStrm_desk (f : StreamState14 → StreamState14) : desk (modStrm s p m f) q = desk s q := modPort_desk s p q fun _ => rfl

theorem raise_desk (e : Nat) (d : List Byte) : desk (raise s e d) q = desk s q :=
  (congrArg (fun r : PortState => { r with streams := [], rxCycle := none }) (port_of_rest (raise_hostRest s e d) q) :)

theorem desk_of_host {s t : State} (h : t.host = s.host) (q : Ix) : desk t q = desk s q := by unfold desk; rw [h]

theorem closeBuf_desk : desk (closeBuf s p m) q = desk s q := by
  unfold closeBuf
  split
  · rfl
  · dsimp only
    rw [apply_ite (desk · q), desk_of_host (openWrite_host _ p m), ite_self, modStrm_desk]

theorem fetchNext_desk : desk (fetchNext s p m) q = desk s q := by
  unfold fetchNext
  dsimp only
  split
  · exact modStrm_desk s p m q _
  · rfl

theorem takeRecord_desk : desk (takeRecord s p m) q = desk s q := by
  have marked (t : State) (n : Option Nat) : desk (modPort t p fun q => { q with rxCycle := n }) q = desk t q :=
    modPort_desk t p q fun _ => rfl
  unfold takeRecord
  dsimp only
  split
  · split
    · rw [apply_ite (desk · q), closeBuf_desk, ite_self, apply_ite (desk · q), marked, ite_self, modStrm_desk]
    · split
      · rw [closeBuf_desk, modStrm_desk]
      · exact closeBuf_desk s p m q
  · rfl

theorem pump_desk (n : Nat) : desk (pump p m n s) q = desk s q := by
  induction n generalizing s with
  | zero => exact fetchNext_desk s p m q
  | succ n ih =>
    unfold pump
    split
    · rw [ih, takeRecord_desk]
    · exact fetchNext_desk s p m q

theorem pumpAll_desk : desk (pumpAll s p m) q = desk s q := (modStrm_desk _ p m q _).trans (pump_desk s p m q _)

theorem dropOldest_desk : desk (dropOldest s p m) q = desk s q := by
  have raised (t : State) (c : Prop) [Decidable c] (ev : EvState) (e : Nat) (d : List Byte) :
      desk (if c then raise { t with ev := ev } e d else t) q = desk t q := by
    split
    · exact raise_desk _ q e d
    · rfl
  unfold dropOldest
  dsimp only
  split
  · rfl
  · rw [raised, modStrm_desk]

theorem deliver_desk (stamp : Stamp) (r : List Byte) : desk (deliver s p m stamp r) q = desk s q := by
  unfold deliver
  split
  · rfl
  · rw [pumpAll_desk, modStrm_desk]
    split
    · exact dropOldest_desk s p m q
    · rfl

end Desk

/-- A fold of steps that leave the port's desk leaves it. -/
theorem foldl_desk {α : Type} {f : State → α → State} {q : Ix} (h : ∀ s a, desk (f s a) q = desk s q) (l : List α) (s : State) :
    desk (l.foldl f s) q = desk s q := by
  induction l generalizing s with
  | nil => rfl
  | cons a l ih => rw [List.foldl_cons, ih, h]

end Sys2Proof.Proofs

/-! PROOFS. One theorem for each command of the streams, and O27 from these. -/

namespace Sys2Proof.Proofs

open Sys2Proof Sys2Proof.Machine Sys2Proof.Laws

/-! ### What a response leaves of a port -/

/-- A port without its mailbox and its signals. -/
def unmailed (q : PortState) : PortState := { portRest q with responses := [], rings := [] }

section Responses

variable (s : State) (h : Hdr) (op : Nat) (st : Status) (dt id : Nat) (w : Option (Nat × Nat × Nat)) (b : List Byte) (q : Ix)

theorem modPort_unmailed (p : Ix) {f : PortState → PortState} (hf : ∀ q, unmailed (f q) = unmailed q) :
    unmailed ((modPort s p f).host.port.get q) = unmailed (s.host.port.get q) := by
  by_cases same : q = p
  · rw [same, modPort_host, two_get_modify, hf]
  · rw [modPort_host, two_get_modify_other _ _ same]

theorem writeResponse_unmailed : unmailed ((writeResponse s h op st dt id w b).host.port.get q) = unmailed (s.host.port.get q) := by
  have sent (t : State) : unmailed ((if h.raise then sendVector t h.port h.ring else t).host.port.get q) =
      unmailed (t.host.port.get q) := by
    split
    · exact congrArg (fun r : PortState => { r with responses := [], rings := [] }) (sendVector_port t h.port q h.ring)
    · rfl
  unfold writeResponse
  dsimp only
  rw [sent]
  unfold modRing
  rw [modPort_unmailed _ _ _ fun _ => ?_, modPort_unmailed _ _ _ fun _ => ?_]
  all_goals rfl

theorem answerBad_unmailed (p : Ix) (ring n : Nat) :
    unmailed ((answerBad p ring n s).host.port.get q) = unmailed (s.host.port.get q) := by
  induction n generalizing s with
  | zero => rfl
  | succ n ih =>
    unfold answerBad
    split
    · rfl
    · split
      · rfl
      · rw [ih, writeResponse_unmailed]

theorem respondFull_unmailed : unmailed ((respondFull s h op st dt id w b).host.port.get q) = unmailed (s.host.port.get q) := by
  unfold respondFull
  split
  · rfl
  · rw [answerBad_unmailed, writeResponse_unmailed]

/-- A response leaves the streams. -/
theorem respondFull_strm (m : Nat) : strm (respondFull s h op st dt id w b) q m = strm s q m :=
  strm_of_streams (congrArg (·.streams) (respondFull_unmailed s h op st dt id w b q) :) m

end Responses

/-! ### Opening and closing -/

theorem portUp_of_desk {s t : State} {p : Ix} (e : desk t p = desk s p) : portUp t p = portUp s p := (congrArg PortState.up e :)

theorem alone_of_rings {s t : State} {h : Hdr} (e : (t.host.port.get h.port).rings = (s.host.port.get h.port).rings) :
    alone t h = alone s h := by
  unfold alone mbxRing
  rw [e]

theorem alone_of_desk {s t : State} {h : Hdr} (e : desk t h.port = desk s h.port) : alone t h = alone s h :=
  alone_of_rings (congrArg PortState.rings e :)

theorem failRun_strm (s : State) (p : Ix) (m k : Nat) : strm (failRun s p m) p k = strm s p k := by
  obtain ⟨c, d, port⟩ := failRun_port s p m
  exact strm_of_streams (by rw [port]) k

theorem failRun_up (s : State) (p : Ix) (m : Nat) : portUp (failRun s p m) p = portUp s p := by
  obtain ⟨c, d, port⟩ := failRun_port s p m
  unfold portUp
  rw [port]

theorem failRun_alone (s : State) (h : Hdr) (m : Nat) : alone (failRun s h.port m) h = alone s h := by
  obtain ⟨c, d, port⟩ := failRun_port s h.port m
  exact alone_of_rings (by rw [port])

section Mailbox

variable {s : State} {h : Hdr} (ready : hostReady s h = true) (only : alone s h = true)
include ready only

theorem streamOpen_opens {ty a n : Nat} {d : List Desc} (sound : openFault s h.port ty a n d = none)
    (inside : ty < (s.host.port.get h.port).streams.length) :
    runs (.streamOpen h ty a n d) s fun t => answered t h 0x0008 .ok 0 0 [] ∧
      strm t h.port ty = { isOpen := true, addr := a, entries := n, fixed := if ty = 1 then d else [] } := by
  have outcome : exec (.streamOpen h ty a n d) s = .next (respondOk (modStrm s h.port ty fun _ =>
      { isOpen := true, addr := a, entries := n, fixed := if ty = 1 then d else [] }) h 0x0008 []) := by
    show execStreamOpen h ty a n d s = _
    simp [execStreamOpen, ready, sound]
  have kept := modStrm_desk s h.port ty h.port fun _ =>
    { isOpen := true, addr := a, entries := n, fixed := if ty = 1 then d else [] }
  refine ⟨_, outcome, respondOk_answered _ h _ _ ?_ ?_, (respondFull_strm ..).trans (strm_modStrm inside _)⟩
  · exact (portUp_of_desk kept).trans (hostReady_portUp ready)
  · exact (alone_of_desk kept).trans only

theorem streamClose_closes {ty : Nat} (opened : (strm s h.port ty).isOpen = true) (known : ty ≤ 4) :
    runs (.streamClose h ty) s fun t =>
      answered t h 0x0009 .ok 0 0 (u32 (strm s h.port ty).lost) ∧ strm t h.port ty = {} := by
  have outcome : exec (.streamClose h ty) s = .next (respondOk (modStrm (if ty = 1 then
      { failRun s h.port ty with est := { (failRun s h.port ty).est with
        writing := (failRun s h.port ty).est.writing.filter (· != h.port.num) } } else failRun s h.port ty) h.port ty fun _ => {})
      h 0x0009 (u32 (strm s h.port ty).lost)) := by
    show execStreamClose h ty s = _
    simp [execStreamClose, ready, opened, Nat.not_lt.mpr known, failRun_strm]
  generalize freed : (if ty = 1 then _ else failRun s h.port ty) = v at outcome
  have host : v.host = (failRun s h.port ty).host := by
    rw [← freed]
    split <;> rfl
  have inside : ty < (v.host.port.get h.port).streams.length := by
    obtain ⟨c, d, port⟩ := failRun_port s h.port ty
    rw [host, port]
    exact inside_of_open opened
  have kept := modStrm_desk v h.port ty h.port fun _ => {}
  refine ⟨_, outcome, respondOk_answered _ h _ _ ?_ ?_, (respondFull_strm ..).trans (strm_modStrm inside _)⟩
  · rw [portUp_of_desk kept, portUp_host host, failRun_up]
    exact hostReady_portUp ready
  · rw [alone_of_desk kept, alone_host host, failRun_alone]
    exact only

end Mailbox

/-! ### Descriptors -/

section Descriptors

variable {s : State} {p : Ix} {m : Nat} (run : running s = true)
include run

theorem strmTailWrite_setsTail (up : portUp s p = true) (other : m ≠ 1) (known : m ≤ 4)
    (inside : m < (s.host.port.get p).streams.length) (w : Word) :
    runs (.strmTailWrite p m w) s fun t => (strm t p m).tail = w.toNat % 8192 := by
  have outcome : exec (.strmTailWrite p m w) s =
      .next (pumpAll (modStrm s p m fun t => { t with tail := w.toNat % 8192 }) p m) := by
    show execStrmTailWrite p m w s = _
    simp [execStrmTailWrite, writeTail, run, up, other, Nat.not_lt.mpr known]
  refine ⟨_, outcome, ?_⟩
  beta_reduce
  rw [(pumpAll_drawn _ p m p m).tail, strm_modStrm inside]

variable (active : strmRuns s p m = true)
include active

omit run in
theorem inside_of_runs : m < (s.host.port.get p).streams.length := by
  unfold strmRuns at active
  simp only [Bool.and_eq_true] at active
  exact inside_of_open active.1.2

theorem descriptorFetchDone_movesHead (fetching : (strm s p m).fetch.isSome = true) (d : Desc) :
    runs (.descriptorFetchDone p m d) s fun t => (strm t p m).head = ((strm s p m).head + 1) % 8192 := by
  have outcome : exec (.descriptorFetchDone p m d) s = .next (feedStream (modStrm s p m fun t =>
      { t with fetch := none, head := (t.head + 1) % 8192, lostNow := 0,
               buf := some { desc := d, body := [], first := stampTick s, lost := t.lostNow } }) p m) := by
    show execDescriptorFetchDone p m d s = _
    simp [execDescriptorFetchDone, run, active, fetching]
  refine ⟨_, outcome, ?_⟩
  beta_reduce
  rw [(feedStream_drawn _ p m p m).head, strm_modStrm (inside_of_runs active)]

theorem descriptorFetchFail_repeats {n : Nat} (a : Nat) (fetching : (strm s p m).fetch = some n) (left : n < parN s 0x0E02) :
    runs (.descriptorFetchFail p m a) s fun t => (strm t p m).fetch = some (n + 1) ∧ t.sent = s.sent ++ [.fetch p m a] ∧
      (t.host.port.get p).cplTo = true := by
  have outcome : exec (.descriptorFetchFail p m a) s = .next (emit (modStrm (modPort s p fun q => { q with cplTo := true }) p m fun t =>
      { t with fetch := some (n + 1) }) (.fetch p m a)) := by
    show execDescriptorFetchFail p m a s = _
    have left' : n < parN (modPort s p fun q => { q with cplTo := true }) 0x0E02 := left
    simp [execDescriptorFetchFail, run, active, fetching, left']
  refine ⟨_, outcome, ?_, rfl, ?_⟩
  · have inside : m < ((modPort s p fun q => { q with cplTo := true }).host.port.get p).streams.length := by
      rw [modPort_host, two_get_modify]
      exact inside_of_runs active
    exact congrArg StreamState14.fetch (strm_modStrm inside _)
  · simp [modStrm]

theorem descriptorFetchFail_stops {n : Nat} (a : Nat) (fetching : (strm s p m).fetch = some n) (spent : parN s 0x0E02 ≤ n) :
    runs (.descriptorFetchFail p m a) s fun t => (strm t p m).stopped = true ∧ newest t 52 = some (ux p ++ u8 m ++ u64 a) ∧
      newest t 54 = some (ux p ++ u8 m ++ u8 1) := by
  generalize stop : failRun (modPort s p fun q => { q with cplTo := true }) p m = v
  have outcome : exec (.descriptorFetchFail p m a) s = .next (raise (raise (modStrm v p m fun t => { stopStream t with head := t.head }) 52
      (ux p ++ u8 m ++ u64 a)) 54 (ux p ++ u8 m ++ u8 1)) := by
    show execDescriptorFetchFail p m a s = _
    have spent' : ¬ n < parN (modPort s p fun q => { q with cplTo := true }) 0x0E02 := Nat.not_lt.mpr spent
    simp [execDescriptorFetchFail, run, active, fetching, spent', stop]
  have same (k : Nat) : strm v p k = strm s p k := by
    rw [← stop, failRun_strm, strm_modPort]
    exact fun _ => rfl
  have opened : (strm v p m).isOpen = true := by
    unfold strmRuns at active
    simp only [Bool.and_eq_true] at active
    rw [same]
    exact active.1.2
  refine ⟨_, outcome, ?_, ?_, raise_newest ..⟩
  · rw [strm_raise, strm_raise, strm_modStrm (inside_of_open opened)]
    show ((strm v p m).isOpen || _) = true
    rw [opened, Bool.true_or]
  · rw [raise_newest_other _ _ _ _ (by decide) (by decide) (by decide), raise_newest]

end Descriptors

end Sys2Proof.Proofs

/-! PROOFS. The runs over the WAVEFORM and LEDGER_EXPORT streams, the writing of buffers, and O27 with what stands above. -/

namespace Sys2Proof.Proofs

open Sys2Proof Sys2Proof.Machine Sys2Proof.Laws

/-! ### The end of a run -/

/-- What the end of a run makes of a port's desk: its capture and its dump stay or are gone. -/
structure RunsEnd (q r : PortState) : Prop where
  capture : r.capture = none ∨ r.capture = q.capture
  rest : { r with capture := none, dump := none } = { q with capture := none, dump := none }

theorem RunsEnd.refl (q : PortState) : RunsEnd q q := ⟨.inr rfl, rfl⟩

section Settle

variable (s : State) (p : Ix) (m : Nat)

theorem endRun_desk : RunsEnd (desk s p) (desk (endRun s p m) p) := by
  have port (f : PortState → PortState) (id : Nat) (l : List Byte) :
      desk (endLong (modPort s p f) id .ok 0 l) p = deskOf (f (s.host.port.get p)) :=
    congrArg deskOf (two_get_modify ..)
  unfold endRun
  dsimp only
  split
  · split
    · exact .refl _
    · rw [port]; exact ⟨.inl rfl, rfl⟩
  · split
    · split
      · exact .refl _
      · rw [port]; exact ⟨.inr rfl, rfl⟩
    · exact .refl _

theorem settleRun_desk : RunsEnd (desk s p) (desk (settleRun s p m) p) := by
  have closed (c : Prop) [Decidable c] : desk (if c then closeBuf s p m else s) p = desk s p := by
    split
    · exact closeBuf_desk s p m p
    · rfl
  unfold settleRun
  dsimp only
  split
  · generalize shut : (if ((strm s p m).waiting.isEmpty && bufHolds s p m) = true then closeBuf s p m else s) = t
    have same : desk t p = desk s p := shut ▸ closed _
    split
    · exact same ▸ endRun_desk t p m
    · exact same ▸ .refl _
  · exact .refl _

/-- LOST and STARVED of a stream. -/
def losses (t : StreamState14) : Nat × Bool := (t.lost, t.starved)

theorem settleRun_losses (k : Nat) : losses (strm (settleRun s p m) p k) = losses (strm s p k) := by
  have closed (c : Prop) [Decidable c] : losses (strm (if c then closeBuf s p m else s) p k) = losses (strm s p k) := by
    have opened (t : State) : strm (openWrite t p m) p k = strm t p k := strm_of_streams (by rw [openWrite_host]) k
    split
    · unfold closeBuf
      split
      · rfl
      · dsimp only
        rw [apply_ite (strm · p k), opened, ite_self, modStrm_keeps losses fun _ => ?_]
        rfl
    · rfl
  unfold settleRun
  dsimp only
  split
  · generalize shut : (if ((strm s p m).waiting.isEmpty && bufHolds s p m) = true then closeBuf s p m else s) = t
    rw [apply_ite (strm · p k), endRun_strm, ite_self, ← shut, closed]
  · rfl

end Settle

/-! ### A wait for descriptors that is over -/

theorem descStarved_drops {s : State} {p : Ix} {m u : Nat} (run : running s = true) (active : strmRuns s p m = true) (ordinary : m ≠ 1)
    (noDump : m ≠ 3) (bufferless : (strm s p m).buf = none) (waits : (strm s p m).waiting ≠ []) (since : (strm s p m).needUp = some u)
    (long : passed s u (ms (parN s 0x0E01)) = true) : runs (.descStarved p m) s fun t =>
      (strm t p m).lost = (strm s p m).lost + 1 ∧ (strm t p m).starved = true ∧ (t.host.port.get p).descTo = true := by
  let v := modPort s p fun q => { q with descTo := true }
  have same : strm v p m = strm s p m := by
    rw [strm_modPort]
    exact fun _ => rfl
  have outcome : exec (.descStarved p m) s = .next (settleRun (waitAnew (dropOldest v p m) p m) p m) := by
    show execDescStarved p m s = _
    simp only [execDescStarved, run, active, bufferless, since]
    split
    · next none => simp [ordinary, long] at none
    · split
      · exact absurd rfl noDump
      · rw [if_neg (by simpa using waits)]
  have inside : m < (v.host.port.get p).streams.length := by
    rw [modPort_host, two_get_modify]
    exact inside_of_runs active
  have count : losses (strm (settleRun (waitAnew (dropOldest v p m) p m) p m) p m) = losses (dropped (strm s p m)) := by
    rw [settleRun_losses]
    unfold waitAnew noteNeed
    rw [modStrm_keeps losses fun _ => ?_, modStrm_keeps losses fun _ => ?_, dropOldest_strm, same, if_neg (by simpa using waits),
      strm_modStrm inside, same]
    all_goals rfl
  refine ⟨_, outcome, congrArg Prod.fst count, congrArg Prod.snd count, ?_⟩
  have port : desk (waitAnew (dropOldest v p m) p m) p = desk v p := by
    rw [waitAnew, noteNeed, modStrm_desk, modStrm_desk, dropOldest_desk]
  have kept := congrArg PortState.descTo (settleRun_desk (waitAnew (dropOldest v p m) p m) p m).rest
  rw [port] at kept
  refine (kept :).trans ?_
  simp [v, desk, deskOf, portRest]

/-! ### Writing buffers -/

section Sent

variable (s : State) (p : Ix) (m : Nat)

theorem openWrite_sends : s.sent <+: (openWrite s p m).sent := by
  unfold openWrite
  split
  · exact List.prefix_refl _
  · exact List.prefix_append _ _

theorem sendVector_sends (n : Nat) : s.sent <+: (sendVector s p n).sent := by
  unfold sendVector
  split
  · exact List.prefix_refl _
  · split
    · exact List.prefix_refl _
    · split
      · exact List.prefix_refl _
      · exact List.prefix_append _ _

theorem closeBuf_sends : s.sent <+: (closeBuf s p m).sent := by
  unfold closeBuf
  split
  · exact List.prefix_refl _
  · dsimp only
    split
    · exact openWrite_sends (modStrm s p m _) p m
    · exact List.prefix_refl _

theorem endRun_sent : (endRun s p m).sent = s.sent := by
  unfold endRun
  dsimp only
  split
  · split <;> rfl
  · split
    · split <;> rfl
    · rfl

theorem settleRun_sends : s.sent <+: (settleRun s p m).sent := by
  unfold settleRun
  dsimp only
  split
  · rw [apply_ite State.sent, endRun_sent, ite_self, apply_ite State.sent]
    split
    · exact closeBuf_sends s p m
    · exact List.prefix_refl _
  · exact List.prefix_refl _

end Sent

theorem bufferWriteDone_writes {s : State} {p : Ix} {m a : Nat} {b : List Byte} {want : Bool} {rest : List (Nat × List Byte × Bool)}
    (clock : clocked s = true) (active : strmRuns s p m = true) (first : outranked s p m = false)
    (front : (strm s p m).writing = (a, b, want) :: rest) : runs (.bufferWriteDone p m) s fun t =>
      s.sent ++ [.dma p a (b.take (validAt m)), .dma p (a + validAt m + 8) (b.drop (validAt m + 8)),
        .dma p (a + validAt m) (slice b (validAt m) 8)] <+: t.sent := by
  refine ⟨_, by show execBufferWriteDone p m s = _; simp only [execBufferWriteDone, clock, active, first, front]; rfl, ?_⟩
  refine .trans ?_ (settleRun_sends _ p m)
  rw [apply_ite State.sent, modPort_sent, ite_self]
  generalize next : openWrite _ p m = v
  have base : s.sent ++ [.dma p a (b.take (validAt m)), .dma p (a + validAt m + 8) (b.drop (validAt m + 8)),
      .dma p (a + validAt m) (slice b (validAt m) 8)] <+: v.sent := by
    rw [← next]
    show (modStrm (emits s _) p m fun t => { t with writing := rest }).sent <+: _
    exact openWrite_sends _ p m
  have done : (if m = 1 then destDone v p.num else v).sent = v.sent := by split <;> rfl
  split
  · exact (done ▸ base).trans (sendVector_sends _ p _)
  · exact done ▸ base

theorem canrxFlush_closes {s : State} {p : Ix} {c : Nat} (run : running s = true) (mark : (s.host.port.get p).rxCycle = some c)
    (active : strmRuns s p 2 = true) (holds : bufHolds s p 2 = true) (due : c + parN s 0x0E04 ≤ curCycle s) :
    runs (.canrxFlush p) s fun t => (strm t p 2).writing ≠ [] := by
  have outcome : exec (.canrxFlush p) s =
      .next (pumpAll (modPort (closeBuf s p 2) p fun q => { q with rxCycle := none }) p 2) := by
    show execCanrxFlush p s = _
    simp [execCanrxFlush, mark, run, active, holds, due]
  have unmarked : strm (modPort (closeBuf s p 2) p fun q => { q with rxCycle := none }) p 2 = strm (closeBuf s p 2) p 2 := by
    rw [strm_modPort]
    exact fun _ => rfl
  have closed : (strm (closeBuf s p 2) p 2).writing ≠ [] := by
    have opened (t : State) : strm (openWrite t p 2) p 2 = strm t p 2 := strm_of_streams (by rw [openWrite_host]) 2
    obtain ⟨b, buffer, -⟩ : ∃ b, (strm s p 2).buf = some b ∧ (!b.body.isEmpty) = true := by
      simpa [bufHolds, Option.any_eq_true] using holds
    unfold closeBuf
    simp only [buffer]
    rw [apply_ite (strm · p 2), opened, ite_self, strm_modStrm (inside_of_runs active)]
    exact List.append_ne_nil_of_right_ne_nil _ (by simp)
  refine ⟨_, outcome, fun empty => closed ?_⟩
  have grown := (pumpAll_drawn (modPort (closeBuf s p 2) p fun q => { q with rxCycle := none }) p 2 p 2).writing
  rw [unmarked, empty] at grown
  exact List.prefix_nil.mp grown

/-! ### Captures -/

section Capture

variable (s : State) (p : Ix)

theorem waveDeliver_desk (r : CaptureReq) (t : TickRec) (q : Ix) : desk (waveDeliver s p r t) q = desk s q := by
  unfold waveDeliver
  dsimp only
  split
  · rfl
  · exact deliver_desk s p 4 q _ _

/-- What a capture's trigger leaves of a port: a capture that still runs has been triggered, and nothing but the runs changed. -/
structure Fired (trig : Nat) (q r : PortState) : Prop where
  capture : ∀ c, r.capture = some c → c.triggered = some trig
  rest : { r with capture := none, dump := none } = { q with capture := none, dump := none }

theorem waveEnd_fires {c : CaptureRun} {trig : Nat} (marked : ∀ d, (s.host.port.get p).capture = some d → d.triggered = some trig) :
    Fired trig (desk s p) (desk (waveEnd s p c trig) p) := by
  have put (t : State) (x : Ix) (lo hi : Nat) (b : Prop) [Decidable b] :
      desk (if b then (waveCells t x lo hi).foldl (fun s w => deliver s p 4 w.1 w.2) t else t) p = desk t p := by
    split
    · exact foldl_desk (f := fun s (w : Stamp × List Byte) => deliver s p 4 w.1 w.2) (fun s w => deliver_desk s p 4 p w.1 w.2) _ t
    · rfl
  unfold waveEnd
  dsimp only
  generalize cells : (if testBit c.req.watch 1 then _ else _) = t
  have same : desk t p = desk s p := cells ▸ (put _ _ _ _ _).trans (put _ _ _ _ _)
  have ends := settleRun_desk (modPort t p fun q => { q with capture := q.capture.map fun c => { c with full := true } }) p 4
  have full : desk (modPort t p fun q => { q with capture := q.capture.map fun c => { c with full := true } }) p =
      { desk t p with capture := (desk t p).capture.map fun c => { c with full := true } } := congrArg deskOf (two_get_modify ..)
  rw [full, same] at ends
  refine ⟨fun d present => ?_, ends.rest⟩
  obtain gone | kept := ends.capture
  · rw [gone] at present
    cases present
  · rw [kept] at present
    obtain ⟨e, running, rfl⟩ := Option.map_eq_some_iff.mp present
    exact marked e running

theorem fireCapture_fires {c : CaptureRun} (present : (s.host.port.get p).capture = some c) (trig : Nat) :
    Fired trig (desk s p) (desk (fireCapture s p trig) p) := by
  unfold fireCapture
  simp only [present]
  generalize ticks : List.foldl _ _ _ = t
  have same : desk t p = { desk s p with capture := some { c with triggered := some trig } } := by
    rw [← ticks, foldl_desk fun s r => waveDeliver_desk s p c.req r p]
    refine (congrArg deskOf (two_get_modify ..) :).trans ?_
    simp [deskOf, portRest, desk, present]
  have marked (d : CaptureRun) (now : (t.host.port.get p).capture = some d) : d.triggered = some trig := by
    have mine : (t.host.port.get p).capture = some { c with triggered := some trig } := congrArg PortState.capture same
    rw [mine] at now
    cases now
    rfl
  split
  · have ended := waveEnd_fires t p (c := c) marked
    rw [same] at ended
    exact ⟨ended.capture, ended.rest⟩
  · rw [same]
    exact ⟨fun d now => by cases now; rfl, rfl⟩

theorem captureTrigger_fires {s : State} {p : Ix} {c : CaptureRun} (run : running s = true)
    (present : (s.host.port.get p).capture = some c) (armed : c.triggered = none) (cycle : c.req.trigger = 1)
    (come : c.req.cyc * 128 ≤ s.grid.now) : runs (.captureTrigger p) s fun t =>
      ∀ d, (t.host.port.get p).capture = some d → d.triggered = some (c.req.cyc * 128) := by
  have outcome : exec (.captureTrigger p) s = .next (fireCapture s p (c.req.cyc * 128)) := by
    show execCaptureTrigger p s = _
    simp [execCaptureTrigger, present, run, armed, cycle, come]
  exact ⟨_, outcome, (fireCapture_fires s p present _).capture⟩

theorem capture_accepts {s : State} {h : Hdr} {r : CaptureReq} (ready : hostReady s h = true) (only : alone s h = true)
    (idle : (s.host.port.get h.port).capture = none) (sound : captureOk r = true) (active : strmRuns s h.port 4 = true) :
    runs (.capture h r) s fun t => ∃ id, answered t h 0x000A .accepted 0 id [] ∧
      (r.trigger ≠ 0 → ∃ c, (t.host.port.get h.port).capture = some c ∧ c.id = id ∧ c.req = r ∧ c.triggered = none) := by
  generalize accepted : acceptLong s h 0x000A = a
  let c : CaptureRun := { id := a.1, req := r, armed := a.2.grid.now, triggered := none, full := false, buffers := 0,
                          lost0 := (strm a.2 h.port 4).lost }
  let v := modPort a.2 h.port fun q => { q with capture := some c }
  have outcome : exec (.capture h r) s = .next (if r.trigger = 0 then fireCapture v h.port v.grid.now else v) := by
    show execCapture h r s = _
    simp [execCapture, ready, idle, sound, active, accepted, v, c]
  have present : (v.host.port.get h.port).capture = some c := by simp [v]
  have answer : answered v h 0x000A .accepted 0 a.1 [] := by
    have first := acceptLong_answered s h 0x000A (hostReady_portUp ready) only
    rw [accepted] at first
    unfold answered at first ⊢
    simpa [v] using first
  refine ⟨_, outcome, a.1, ?_, fun later => ?_⟩
  · split
    · have kept := congrArg PortState.responses (fireCapture_fires v h.port present v.grid.now).rest
      unfold answered at answer ⊢
      exact (kept :) ▸ answer
    · exact answer
  · rw [if_neg later]
    exact ⟨c, present, rfl, rfl, rfl⟩

end Capture

theorem hostReadDeferred_raises {s : State} {p : Ix} {m : Nat} {delay : F32} (run : running s = true) (active : strmRuns s p m = true)
    (kind : m = 3 ∨ m = 4) (busy : (strm s p m).writing ≠ []) (long : 1 < F32.toRat delay)
    (fresh : KV.get? s.ev.rate (161, 8 * p.num + m) ≠ some (curCycle s)) :
    runs (.hostReadDeferred p m delay) s fun t => newest t 161 = some (u8 m ++ fb delay) := by
  have outcome : exec (.hostReadDeferred p m delay) s =
      .next (raiseOnce s 161 (8 * p.num + m) (curCycle s) (u8 m ++ fb delay)) := by
    show execHostReadDeferred p m delay s = _
    simp [execHostReadDeferred, run, active, kind, busy, long]
  refine ⟨_, outcome, ?_⟩
  unfold raiseOnce
  rw [if_neg fresh]
  exact raise_newest ..

/-- Settles O27: one theorem above for each clause, in the order of the commands. -/
theorem streamCommandsTakeEffect : Obligations.StreamCommandsTakeEffect := by
  unfold Obligations.StreamCommandsTakeEffect
  refine ⟨?opened, ?closed, ?tail, ?fetched, ?repeated, ?stopped, ?starved, ?written, ?flushed, ?capture, ?fired, ?deferred⟩
  case opened => exact fun s h ty a n d ready only sound inside => streamOpen_opens ready only sound inside
  case closed => exact fun s h ty ready only opened known => streamClose_closes ready only opened known
  case tail => exact fun s p m w run up other known inside => strmTailWrite_setsTail run up other known inside w
  case fetched => exact fun s p m d run active fetching => descriptorFetchDone_movesHead run active fetching d
  case repeated => exact fun s p m a n run active fetching left => descriptorFetchFail_repeats run active a fetching left
  case stopped => exact fun s p m a n run active fetching spent => descriptorFetchFail_stops run active a fetching spent
  case starved => exact fun s p m u run active ordinary noDump bufferless waits since long =>
    descStarved_drops run active ordinary noDump bufferless waits since long
  case written => exact fun s p m a b want rest clock active first front => bufferWriteDone_writes clock active first front
  case flushed => exact fun s p c run mark active holds due => canrxFlush_closes run mark active holds due
  case capture => exact fun s h r ready only idle sound active => capture_accepts ready only idle sound active
  case fired => exact fun s p c run present armed cycle come => captureTrigger_fires run present armed cycle come
  case deferred => exact fun s p m delay run active kind busy long fresh => hostReadDeferred_raises run active kind busy long fresh

end Sys2Proof.Proofs

/-! PROOFS. What one bus and one port do leaves the other, and O44 from these. -/

namespace Sys2Proof.Proofs

open Sys2Proof Sys2Proof.Machine Sys2Proof.Laws

/-! ### The other port -/

/-- From `s` to `t` the port other than `p` stays as it is. -/
def Spared (p : Ix) (s t : State) : Prop := t.host.port.get p.other = s.host.port.get p.other

theorem Spared.refl (p : Ix) (s : State) : Spared p s s := rfl
theorem Spared.of_host {p : Ix} {s t : State} (e : t.host = s.host) : Spared p s t := congrArg (fun h : HostBlock => h.port.get p.other) e
theorem Spared.trans {p : Ix} {s t u : State} (h : Spared p s t) (h' : Spared p t u) : Spared p s u := Eq.trans h' h

theorem modPort_spares (s : State) (p : Ix) (f : PortState → PortState) : Spared p s (modPort s p f) :=
  two_get_modify_other _ _ (other_ne p)

theorem modStrm_spares (s : State) (p : Ix) (m : Nat) (f : StreamState14 → StreamState14) : Spared p s (modStrm s p m f) :=
  modPort_spares s p _

theorem modRing_spares (s : State) (p : Ix) (r : Nat) (f : MbxRing → MbxRing) : Spared p s (modRing s p r f) := modPort_spares s p _

theorem sendVector_spares (s : State) (p : Ix) (n : Nat) : Spared p s (sendVector s p n) := by
  unfold sendVector
  split
  · exact .refl p s
  · split
    · exact .refl p s
    · split
      · exact modPort_spares s p _
      · exact .refl p s

section Mailbox

variable (s : State) (h : Hdr) (op : Nat) (st : Status) (dt id : Nat) (w : Option (Nat × Nat × Nat)) (b : List Byte)

theorem writeResponse_spares : Spared h.port s (writeResponse s h op st dt id w b) := by
  have sent (t : State) : Spared h.port t (if h.raise then sendVector t h.port h.ring else t) := by
    split
    · exact sendVector_spares t h.port h.ring
    · exact .refl _ t
  exact ((modPort_spares s h.port _).trans (modRing_spares _ h.port h.ring _)).trans (sent _)

theorem answerBad_spares (p : Ix) (ring n : Nat) : Spared p s (answerBad p ring n s) := by
  induction n generalizing s with
  | zero => exact .refl p s
  | succ n ih =>
    unfold answerBad
    split
    · exact .refl p s
    · split
      · exact .refl p s
      · exact (writeResponse_spares s ⟨p, ring, _, _⟩ ..).trans (ih _)

theorem respondFull_spares : Spared h.port s (respondFull s h op st dt id w b) := by
  unfold respondFull
  split
  · exact .refl _ s
  · exact (writeResponse_spares ..).trans (answerBad_spares _ ..)

theorem respond_spares : Spared h.port s (respond s h op st dt) := respondFull_spares ..
theorem respondBusy_spares (who : Nat × Nat × Nat) : Spared h.port s (respondBusy s h op who) := respondFull_spares ..

/-- OK after work that has left the ports. -/
theorem respondOk_spares {s t : State} (e : t.host = s.host) : Spared h.port s (respondOk t h op b) :=
  (Spared.of_host e).trans (respondFull_spares ..)

theorem doorbell_spares (p : Ix) (ring v : Nat) (l : List MbxEntry) : Spared p s (doorbell s p ring v l) := by
  unfold doorbell
  dsimp only
  split
  · exact modRing_spares s p ring _
  · exact (modRing_spares s p ring _).trans (answerBad_spares _ ..)

end Mailbox

section Streams

variable (s : State) (p : Ix) (m : Nat)

theorem closeBuf_spares : Spared p s (closeBuf s p m) := by
  have opened (t : State) (c : Prop) [Decidable c] : Spared p t (if c then openWrite t p m else t) := by
    split
    · exact .of_host (openWrite_host t p m)
    · exact .refl p t
  unfold closeBuf
  split
  · exact .refl p s
  · exact (modStrm_spares s p m _).trans (opened _ _)

theorem fetchNext_spares : Spared p s (fetchNext s p m) := by
  unfold fetchNext
  dsimp only
  split
  · exact modStrm_spares s p m _
  · exact .refl p s

theorem takeRecord_spares : Spared p s (takeRecord s p m) := by
  have closed (t : State) (c : Prop) [Decidable c] : Spared p t (if c then closeBuf t p m else t) := by
    split
    · exact closeBuf_spares t p m
    · exact .refl p t
  have marked (t : State) (c : Prop) [Decidable c] (f : PortState → PortState) : Spared p t (if c then modPort t p f else t) := by
    split
    · exact modPort_spares t p f
    · exact .refl p t
  unfold takeRecord
  dsimp only
  split
  · split
    · exact ((modStrm_spares s p m _).trans (marked _ _ _)).trans (closed _ _)
    · split
      · exact (modStrm_spares s p m _).trans (closeBuf_spares _ p m)
      · exact closeBuf_spares s p m
  · exact .refl p s

theorem pump_spares (n : Nat) : Spared p s (pump p m n s) := by
  induction n generalizing s with
  | zero => exact fetchNext_spares s p m
  | succ n ih =>
    unfold pump
    split
    · exact (takeRecord_spares s p m).trans (ih _)
    · exact fetchNext_spares s p m

theorem pumpAll_spares : Spared p s (pumpAll s p m) := (pump_spares s p m _).trans (modStrm_spares _ p m _)

theorem writeTail_spares (w : Nat) : Spared p s (writeTail s p m w) := by
  unfold writeTail
  split
  · exact .refl p s
  · exact (modStrm_spares s p m _).trans (pumpAll_spares _ p m)

end Streams

section Registers

variable (s : State) (p : Ix) (off w : Nat)

theorem maskWrite_spares (g : Nat) : Spared p s (maskWrite s p g w) := by
  have sent (v : State → Nat → Nat) (l : List Nat) (t : State) : Spared p t (l.foldl (fun s i => sendVector s p (v s i)) t) := by
    induction l generalizing t with
    | nil => exact .refl p t
    | cons i l ih => exact (sendVector_spares t p _).trans (ih _)
  exact (modPort_spares s p _).trans (sent _ _ _)

theorem writeHost_spares : Spared p s (writeHost s p off w) := by
  unfold writeHost
  split
  · exact modPort_spares s p _
  · split
    · dsimp only
      split
      · exact doorbell_spares s p ..
      · exact modRing_spares s p ..
    · split
      · dsimp only
        split
        · exact writeTail_spares s p ..
        · exact modStrm_spares s p ..
      · exact .refl p s

theorem writeEvents_spares : Spared p s (writeEvents s p off w) := by
  unfold writeEvents
  split
  · exact modPort_spares s p _
  · split
    · exact maskWrite_spares s p ..
    · split <;> exact .refl p s

theorem writeMsix_spares : Spared p s (writeMsix s p off w) := by
  have sent (t : State) (c : Prop) [Decidable c] (n : Nat) : Spared p t (if c then sendVector t p n else t) := by
    split
    · exact sendVector_spares t p n
    · exact .refl p t
  unfold writeMsix
  dsimp only
  split
  · exact modPort_spares s p _
  · exact modPort_spares s p _
  · exact modPort_spares s p _
  · exact (modPort_spares s p _).trans (sent _ _ _)

theorem bar0Write_spares : Spared p s (bar0Write s p off w) := by
  unfold bar0Write
  split
  · exact .refl p s
  split
  · exact modPort_spares s p _
  split
  · exact .of_host (same_host_all (writeClocks_view 33800 s off w (by decide)) (by decide) (by decide))
  split
  · exact .of_host (same_host_all (writeSensing_view 480 s off w (by decide)) (by decide) (by decide))
  split
  · exact .of_host (same_host_all (writeActing_view 88064 s off w (by decide)) (by decide) (by decide))
  split
  · exact writeHost_spares s p off w
  split
  · exact writeEvents_spares s p off w
  split
  · exact writeMsix_spares s p off w
  · exact .refl p s

end Registers

/-! ### One bus -/

/-- From `s` to `t` bus `y` stays as it is. -/
def BusKept (y : Ix) (s t : State) : Prop := t.can.bus.get y = s.can.bus.get y

theorem BusKept.refl (y : Ix) (s : State) : BusKept y s s := rfl
theorem BusKept.trans {y : Ix} {s t u : State} (h : BusKept y s t) (h' : BusKept y t u) : BusKept y s u := Eq.trans h' h
theorem BusKept.of_can {y : Ix} {s t : State} (e : t.can = s.can) : BusKept y s t := congrArg (fun c : CanBlock => c.bus.get y) e
theorem BusKept.ite {y : Ix} {s a b : State} {c : Prop} [Decidable c] (h : BusKept y s a) (h' : BusKept y s b) :
    BusKept y s (if c then a else b) := by
  split
  · exact h
  · exact h'

theorem pcsEvent_keepsBus (s : State) (x y : Ix) (cause : Nat) : BusKept y s (pcsEvent s x cause) := by
  unfold pcsEvent
  exact .ite (.of_can (raise_can ..)) (.refl y s)

theorem modPcs_keepsBus (s : State) (x y : Ix) (f : PcsState → PcsState) : BusKept y s (modPcs s x f) := rfl

theorem countPcs_keepsBus (s : State) (x y : Ix) : BusKept y s (countPcs s x) := by
  have told (s : State) (c : Prop) [Decidable c] : BusKept y s (if c then pcsEvent s x 1 else s) :=
    .ite (pcsEvent_keepsBus s x y 1) (.refl y s)
  unfold countPcs
  exact .ite (.refl y s) ((modPcs_keepsBus s x y _).trans (told _ _))

section Buses

variable {x y : Ix} (s : State) (apart : y ≠ x)
include apart

theorem modBus_keepsBus (f : CanBus → CanBus) : BusKept y s (modBus s x f) := modBus_other s x f apart
theorem setCan_keepsBus (st : CanState) (cause : Nat) : BusKept y s (setCan s x st cause) := setCan_other s x st cause apart
theorem queueMsg_keepsBus (m : CanMsg) : BusKept y s (queueMsg s x m) := queueMsg_other s x m apart
theorem sendNormal_keepsBus : BusKept y s (sendNormal s x) := sendNormal_other s x apart
theorem startTx_keepsBus (m : CanMsg) : BusKept y s (startTx s x m) := startTx_other s x m apart
theorem missWindow_keepsBus (w cause : Nat) (m : CanMsg) : BusKept y s (missWindow s x w cause m) :=
  missWindow_other s x w cause m apart
theorem startDetect_keepsBus : BusKept y s (startDetect s x) := startDetect_other s x apart
theorem judgeErrors_keepsBus : BusKept y s (judgeErrors s x) := judgeErrors_other s x apart

variable {s} {t : State}

theorem rateDwellExpiry_keepsBus (ran : exec (.rateDwellExpiry x) s = .next t) : BusKept y s t := by
  obtain ⟨⟩ : Host.Outcome.next _ = .next t := ran
  exact .ite (nextCandidate_other s x apart) (.refl y s)

theorem rateSilentExpiry_keepsBus (ran : exec (.rateSilentExpiry x) s = .next t) : BusKept y s t := by
  obtain ⟨⟩ : Host.Outcome.next _ = .next t := ran
  exact .ite (.refl y s) (.ite (.ite (adoptRate_other s x _ _ _ apart) (.refl y s)) (.ite (canActive_other s x apart) (.refl y s)))

theorem basicCycleStart_keepsBus (ran : exec (.basicCycleStart x) s = .next t) : BusKept y s t := by
  have pending (s : State) (c : Prop) [Decidable c] (due : Bound → Nat → Bool) : BusKept y s (if c then applyPending s due else s) :=
    .ite (.of_can (applyPending_can s due)) (.refl y s)
  have rates (s : State) (b c : Prop) [Decidable b] [Decidable c] (now : Nat) :
      BusKept y s (if b then adoptRate s x now false true else if c then startDetect s x else checkWindows s x) :=
    .ite (adoptRate_other s x _ _ _ apart) (.ite (startDetect_keepsBus s apart) (checkWindows_other s x apart))
  have counted (s : State) (c : Prop) [Decidable c] : BusKept y s (if c then countPcs (countPcs s .zero) .one else s) :=
    .ite ((countPcs_keepsBus s .zero y).trans (countPcs_keepsBus _ .one y)) (.refl y s)
  have settled (s : State) (b c : Prop) [Decidable b] [Decidable c] (f : CanBus → CanBus) :
      BusKept y s (if b then setCan (modBus s x f) x .scheduled 3 else if c then modBus s x f else s) :=
    .ite ((modBus_keepsBus s apart f).trans (setCan_keepsBus _ apart _ _)) (.ite (modBus_keepsBus s apart f) (.refl y s))
  obtain ⟨⟩ : Host.Outcome.next _ = .next t := ran
  refine .ite (.refl y s) ?_
  refine .trans ?_ (settled _ _ _ _)
  refine .trans ?_ (judgeErrors_keepsBus _ apart)
  refine .trans ?_ (counted _ _)
  refine .trans ?_ (rates _ _ _ _)
  refine .trans ?_ (pending _ _ _)
  exact (modBus_keepsBus s apart _).trans (.of_can (applyPending_can _ _))

theorem canWindowStart_keepsBus {w l : Nat} (ran : exec (.canWindowStart x w l) s = .next t) : BusKept y s t := by
  obtain ⟨⟩ : Host.Outcome.next _ = .next t := ran
  have slot (f : CanBus → CanBus) : BusKept y s (modBus s x f) := modBus_keepsBus s apart f
  dsimp only
  split
  · exact .refl y s
  · split
    · split
      · exact (slot _).trans ((queueMsg_keepsBus _ apart _).trans (sendNormal_keepsBus _ apart))
      · exact slot _
    · split
      · exact ((slot _).trans ((modBus_keepsBus _ apart _).trans (.of_can (raise_can ..)))).trans (startTx_keepsBus _ apart _)
      · split
        · exact slot _
        · refine .ite ((slot _).trans (missWindow_keepsBus _ apart _ _ _)) (.ite ?_ ((slot _).trans (missWindow_keepsBus _ apart _ _ _)))
          exact (slot _).trans ((modBus_keepsBus _ apart _).trans (startTx_keepsBus _ apart _))

theorem canBusOff_keepsBus (ran : exec (.canBusOff x) s = .next t) : BusKept y s t := by
  have failed (s : State) (o : Option CanMsg) : BusKept y s (match o with | some m => txFailed s x m false | none => s) := by
    cases o with
    | none => exact .refl y s
    | some m => exact txFailed_other s x m false apart
  have slowed (s : State) (c : Prop) [Decidable c] : BusKept y s (if c then setCan s x .normal 5 else s) :=
    .ite (setCan_keepsBus s apart _ _) (.refl y s)
  have sought (s : State) (c : Prop) [Decidable c] : BusKept y s (if c then startDetect s x else s) :=
    .ite (startDetect_keepsBus s apart) (.refl y s)
  obtain ⟨⟩ : Host.Outcome.next _ = .next t := ran
  refine .ite (.refl y s) ?_
  refine .trans (.trans ?_ (slowed _ _)) (.ite (.refl y _) ?_)
  · exact ((modBus_keepsBus s apart _).trans (.of_can (raise_can ..))).trans (failed _ _)
  · exact ((modBus_keepsBus _ apart _).trans (setCan_keepsBus _ apart _ _)).trans (sought _ _)

theorem busOffRecovery_keepsBus (ran : exec (.busOffRecovery x) s = .next t) : BusKept y s t := by
  obtain ⟨⟩ : Host.Outcome.next _ = .next t := ran
  refine .ite (.refl y s) ?_
  refine .trans (.trans ?_ (judgeErrors_keepsBus _ apart)) (sendNormal_keepsBus _ apart)
  exact (modBus_keepsBus s apart _).trans (.of_can (raise_can ..))

end Buses

/-! ### Commands through one port -/

theorem Spared.ite {p : Ix} {s a b : State} {c : Prop} [Decidable c] (h : Spared p s a) (h' : Spared p s b) :
    Spared p s (if c then a else b) := by
  split
  · exact h
  · exact h'

section Ports

variable {p : Ix} {h : Hdr} {s t : State}

theorem latchedLoRead_spares {off : Nat} (ran : exec (.latchedLoRead p off) s = .next t) : Spared p s t := by
  obtain ⟨⟩ : Host.Outcome.next _ = .next t := ran
  refine .ite (.refl p s) ?_
  split
  · exact .refl p s
  · exact modPort_spares s p _

theorem registerWrite_spares {off : Nat} {w : Word} (ran : exec (.registerWrite p off w) s = .next t) : Spared p s t := by
  obtain ⟨⟩ : Host.Outcome.next _ = .next t := ran
  exact .ite (bar0Write_spares s p off w.toNat) (.refl p s)

theorem evMaskWrite_spares {g : Nat} {w : Word} (ran : exec (.evMaskWrite p g w) s = .next t) : Spared p s t := by
  obtain ⟨⟩ : Host.Outcome.next _ = .next t := ran
  exact .ite (maskWrite_spares s p w.toNat g) (.refl p s)

theorem strmTailWrite_spares {m : Nat} {w : Word} (ran : exec (.strmTailWrite p m w) s = .next t) : Spared p s t := by
  obtain ⟨⟩ : Host.Outcome.next _ = .next t := ran
  exact .ite (writeTail_spares s p m w.toNat) (.refl p s)

theorem mbxDoorbell_spares {r : Nat} {w : Word} {l : List MbxEntry} (ran : exec (.mbxDoorbell p r w l) s = .next t) : Spared p s t := by
  obtain ⟨⟩ : Host.Outcome.next _ = .next t := ran
  exact .ite (doorbell_spares s p r w.toNat l) (.refl p s)

theorem nop_spares (ran : exec (.nop h) s = .next t) : Spared h.port s t := by
  obtain ⟨⟩ : Host.Outcome.next _ = .next t := ran
  exact .ite (respondOk_spares h _ _ rfl) (.refl _ s)

theorem identify_spares (ran : exec (.identify h) s = .next t) : Spared h.port s t := by
  obtain ⟨⟩ : Host.Outcome.next _ = .next t := ran
  exact .ite (respondOk_spares h _ _ rfl) (.refl _ s)

theorem longQuery_spares {i : Nat} (ran : exec (.longQuery h i) s = .next t) : Spared h.port s t := by
  obtain ⟨⟩ : Host.Outcome.next _ = .next t := ran
  refine .ite (.refl _ s) ?_
  split
  · exact respond_spares ..
  · exact respondOk_spares h _ _ rfl

theorem evLast_spares {e : Nat} (ran : exec (.evLast h e) s = .next t) : Spared h.port s t := by
  obtain ⟨⟩ : Host.Outcome.next _ = .next t := ran
  refine .ite (.refl _ s) ?_
  split
  · exact respond_spares ..
  · exact respondOk_spares h _ _ rfl

theorem ledgerRead_spares {a n : Nat} (ran : exec (.ledgerRead h a n) s = .next t) : Spared h.port s t := by
  obtain ⟨⟩ : Host.Outcome.next _ = .next t := ran
  exact .ite (.refl _ s) (.ite (respond_spares ..) (respondFull_spares ..))

theorem ledgerInfo_spares (ran : exec (.ledgerInfo h) s = .next t) : Spared h.port s t := by
  obtain ⟨⟩ : Host.Outcome.next _ = .next t := ran
  exact .ite (respondOk_spares h _ _ rfl) (.refl _ s)

theorem parRead_spares {g a n k : Nat} (ran : exec (.parRead h g a n k) s = .next t) : Spared h.port s t := by
  obtain ⟨⟩ : Host.Outcome.next _ = .next t := ran
  exact .ite (.refl _ s) (.ite (respond_spares ..) (.ite (respond_spares ..) (respondFull_spares ..)))

theorem parWrite_spares {d : List Byte} (ran : exec (.parWrite h d) s = .next t) : Spared h.port s t := by
  have touched : (touchSession s h).host = s.host := by
    unfold touchSession
    split
    · split <;> rfl
    · rfl
  obtain ⟨⟩ : Host.Outcome.next _ = .next t := ran
  refine .ite (.refl _ s) ?_
  split
  · exact respondBusy_spares ..
  · split
    · exact (Spared.of_host touched).trans (respond_spares ..)
    · exact respondOk_spares h _ _ rfl

theorem parDiscard_spares (ran : exec (.parDiscard h) s = .next t) : Spared h.port s t := by
  obtain ⟨⟩ : Host.Outcome.next _ = .next t := ran
  refine .ite (.refl _ s) ?_
  split
  · exact respondBusy_spares ..
  · exact respondOk_spares h _ _ rfl

theorem updInfo_spares (ran : exec (.updInfo h) s = .next t) : Spared h.port s t := by
  obtain ⟨⟩ : Host.Outcome.next _ = .next t := ran
  exact .ite (.refl _ s) (respondOk_spares h _ _ rfl)

theorem canPost_spares {b f l k i : Nat} {d : List Byte} (ran : exec (.canPost h b f l k i d) s = .next t) : Spared h.port s t := by
  obtain ⟨⟩ : Host.Outcome.next _ = .next t := ran
  refine .ite (.refl _ s) (.ite (respond_spares ..) (.ite (respond_spares ..) ?_))
  split
  · refine respondOk_spares h _ _ ?_
    split
    · exact same_host_all (m := 201393152) (by simp) (by decide) (by decide)
    · split
      · exact same_host_all (m := 201393152) (by simp) (by decide) (by decide)
      · rfl
  · exact respond_spares ..

theorem canCancel_spares {i : Nat} (ran : exec (.canCancel h i) s = .next t) : Spared h.port s t := by
  have waits (b : Ix) (f : CanBus → CanBus) : Spared h.port s (modBus s b f) := .of_host rfl
  have dropped (b : Ix) (f : CanBus → CanBus) : Spared h.port s (respond (modBus s b f) h 0x0081 .cancelled 0) :=
    (waits b f).trans (respond_spares ..)
  obtain ⟨⟩ : Host.Outcome.next _ = .next t := ran
  refine .ite (.refl _ s) (.ite (waits _ _) (.ite (waits _ _) (.ite (dropped _ _) (.ite (dropped _ _) ?_))))
  split
  · exact respondFull_spares ..
  · exact respondFull_spares ..
  · exact respond_spares ..

theorem holdSet_spares {a q : F32} {c : Nat} (ran : exec (.holdSet h a q c) s = .next t) : Spared h.port s t := by
  obtain ⟨⟩ : Host.Outcome.next _ = .next t := ran
  exact .ite (.refl _ s) (.ite (respond_spares ..) (respondOk_spares h _ _ rfl))

theorem ctlSwap_spares {m : Nat} {b : Bool} (ran : exec (.ctlSwap h m b) s = .next t) : Spared h.port s t := by
  obtain ⟨⟩ : Host.Outcome.next _ = .next t := ran
  exact .ite (.refl _ s) (.ite (respond_spares ..) (respondOk_spares h _ _ rfl))

theorem ctlReadSlot_spares {n : Nat} (ran : exec (.ctlReadSlot h n) s = .next t) : Spared h.port s t := by
  obtain ⟨⟩ : Host.Outcome.next _ = .next t := ran
  exact .ite (.refl _ s) (.ite (respond_spares ..) (respondOk_spares h _ _ rfl))

end Ports

/-- Settles O44: one theorem above for each clause, in the order of the commands. -/
theorem busAndPortCommandsLeaveTheOther : Obligations.BusAndPortCommandsLeaveTheOther := by
  unfold Obligations.BusAndPortCommandsLeaveTheOther
  refine ⟨?dwell, ?silent, ?cycle, ?window, ?busOff, ?recovery, ?latched, ?register, ?mask, ?tail, ?doorbell, ?nop, ?identify,
    ?query, ?last, ?read, ?info, ?parRead, ?parWrite, ?discard, ?updInfo, ?post, ?cancel, ?set, ?swap, ?slot⟩
  case dwell => exact fun _ _ _ _ ran apart => rateDwellExpiry_keepsBus apart ran
  case silent => exact fun _ _ _ _ ran apart => rateSilentExpiry_keepsBus apart ran
  case cycle => exact fun _ _ _ _ ran apart => basicCycleStart_keepsBus apart ran
  case window => exact fun _ _ _ _ _ _ ran apart => canWindowStart_keepsBus apart ran
  case busOff => exact fun _ _ _ _ ran apart => canBusOff_keepsBus apart ran
  case recovery => exact fun _ _ _ _ ran apart => busOffRecovery_keepsBus apart ran
  case latched => exact fun _ _ _ _ ran => latchedLoRead_spares ran
  case register => exact fun _ _ _ _ _ ran => registerWrite_spares ran
  case mask => exact fun _ _ _ _ _ ran => evMaskWrite_spares ran
  case tail => exact fun _ _ _ _ _ ran => strmTailWrite_spares ran
  case doorbell => exact fun _ _ _ _ _ _ ran => mbxDoorbell_spares ran
  case nop => exact fun _ _ _ ran => nop_spares ran
  case identify => exact fun _ _ _ ran => identify_spares ran
  case query => exact fun _ _ _ _ ran => longQuery_spares ran
  case last => exact fun _ _ _ _ ran => evLast_spares ran
  case read => exact fun _ _ _ _ _ ran => ledgerRead_spares ran
  case info => exact fun _ _ _ ran => ledgerInfo_spares ran
  case parRead => exact fun _ _ _ _ _ _ _ ran => parRead_spares ran
  case parWrite => exact fun _ _ _ _ ran => parWrite_spares ran
  case discard => exact fun _ _ _ ran => parDiscard_spares ran
  case updInfo => exact fun _ _ _ ran => updInfo_spares ran
  case post => exact fun _ _ _ _ _ _ _ _ _ ran => canPost_spares ran
  case cancel => exact fun _ _ _ _ ran => canCancel_spares ran
  case set => exact fun _ _ _ _ _ _ ran => holdSet_spares ran
  case swap => exact fun _ _ _ _ _ ran => ctlSwap_spares ran
  case slot => exact fun _ _ _ _ ran => ctlReadSlot_spares ran

end Sys2Proof.Proofs

/-! PROOFS. Events and the ledger: what raising, writing and freezing leave of the ledger's state, then O56, O59 and O28. -/

namespace Sys2Proof.Proofs

open Sys2Proof Sys2Proof.Machine Sys2Proof.Laws

/-! ### Latched halves -/

section Latches

variable {p : Ix} {s : State} (clock : clocked s = true) (up : portUp s p = true) (fw : s.elec.fw = true)
include clock up fw

theorem bar0Read_raw {off : Nat} (aligned : off % 4 = 0) : bar0Read s p off = regRaw s p off := by
  simp [bar0Read, clock, up, fw, aligned]

end Latches

/-- The half of a latch pair above a fitted LO register reads what the port has latched. -/
theorem regRaw_hi {u : State} {p : Ix} {off v : Nat} (notLo : pairValue u off = none) (above : 4 ≤ off) (lo : pairValue u (off - 4) = some v)
    (single : off ≠ 0x041C) : regRaw u p off = regWord ((KV.get? (u.host.port.get p).latch (off - 4)).getD 0) := by
  simp [regRaw, notLo, above, lo, single]

/-- A later read of the HI register finds the upper half of the value that the LO read saw. -/
theorem latchedLoRead_keepsHalf {p : Ix} {s u : State} {lo v w : Nat} (clock : clocked s = true) (up : portUp s p = true)
    (fw : s.elec.fw = true) (clock' : clocked u = true) (up' : portUp u p = true) (fw' : u.elec.fw = true) (pair : pairValue s lo = some v)
    (pair' : pairValue u lo = some w) (notLo : pairValue u (lo + 4) = none) (aligned : (lo + 4) % 4 = 0) (single : lo + 4 ≠ 0x041C) :
    runs (.latchedLoRead p lo) s fun t => KV.get? (u.host.port.get p).latch lo = KV.get? (t.host.port.get p).latch lo →
      bar0Read u p (lo + 4) = regWord (v / 2 ^ 32) := by
  refine runs_mono (latchedLoRead_latches clock up pair fw) fun t latched kept => ?_
  rw [bar0Read_raw clock' up' fw' aligned, regRaw_hi notLo (Nat.le_add_left 4 lo) pair' single, Nat.add_sub_cancel, kept, latched]
  simp [regWord, ← BitVec.toNat_inj]

theorem latchedLoRead_keepsOtherLatch (p : Ix) (s : State) : runs (.latchedLoRead p 0x0E84) s fun t =>
    (t.host.port.get p.other).latch = (s.host.port.get p.other).latch :=
  ⟨_, rfl, congrArg PortState.latch (latchedLoRead_spares (s := s) (off := 0x0E84) rfl : _ = _)⟩

/-- Settles O56: a LO read keeps the upper half under its offset, where the HI read looks. -/
theorem ledgerHalvesAreLatched : Obligations.LedgerHalvesAreLatched := by
  unfold Obligations.LedgerHalvesAreLatched
  refine ⟨fun p s clock up fw => ⟨?_, ?_⟩, fun p s u clock up fw clock' up' fw' => ⟨?_, ?_⟩, latchedLoRead_keepsOtherLatch⟩
  · rw [bar0Read_raw clock up fw (by decide)]; rfl
  · rw [bar0Read_raw clock up fw (by decide)]; rfl
  · exact latchedLoRead_keepsHalf clock up fw clock' up' fw' rfl rfl rfl (by decide) (by decide)
  · exact latchedLoRead_keepsHalf clock up fw clock' up' fw' rfl rfl rfl (by decide) (by decide)

/-! ### Newest occurrences -/

theorem raisePast_last (s : State) (e f : Nat) (d : List Byte) :
    KV.get? (raisePast s e d).ev.last f = if f = e then some (mkOcc s e d) else KV.get? s.ev.last f := by
  have stored : (raisePast s e d).ev.last = KV.put s.ev.last e (mkOcc s e d) := by
    unfold raisePast
    dsimp only
    split
    · split
      · rw [enqueue_last, signalBoth_ev]; rfl
      · simp only [signalBoth_ev]; rfl
    · rw [signalBoth_ev]; rfl
  rw [stored, kv_get_put]

theorem endFreeze_last (s : State) (c f : Nat) (h : f ≠ 248) (h' : f ≠ 249) :
    KV.get? (endFreeze s c).ev.last f = KV.get? s.ev.last f := by
  unfold endFreeze
  split
  · rfl
  · dsimp only
    split
    · rw [raisePast_last, if_neg h]
    · rw [applyClear, raisePast_last, if_neg h']
      exact (raisePast_last _ _ _ _).trans (if_neg h)

/-- What raising an event makes of the store of newest occurrences. -/
theorem raise_last (s : State) (e : Nat) (d : List Byte) : (∃ o, KV.get? (raise s e d).ev.last e = some o ∧ o.evt = e ∧ o.data = d) ∧
    ∀ f, f ≠ e → f ≠ 248 → f ≠ 249 → KV.get? (raise s e d).ev.last f = KV.get? s.ev.last f := by
  unfold raise
  split
  · exact ⟨⟨_, (raisePast_last ..).trans (if_pos rfl), rfl, rfl⟩, fun f h _ _ => (raisePast_last ..).trans (if_neg h)⟩
  · split
    · exact ⟨⟨_, (raisePast_last ..).trans (if_pos rfl), rfl, rfl⟩, fun f h _ _ => (raisePast_last ..).trans (if_neg h)⟩
    · split
      · exact ⟨⟨_, (raisePast_last ..).trans (if_pos rfl), rfl, rfl⟩,
          fun f h h' h'' => ((raisePast_last ..).trans (if_neg h)).trans (endFreeze_last s 3 f h' h'')⟩
      · have stored : (signalBoth (storeLast (takeFree s) (mkOcc s e d)) e).ev.last = KV.put s.ev.last e (mkOcc s e d) := by
          rw [signalBoth_ev]; rfl
        refine ⟨⟨mkOcc s e d, ?_, rfl, rfl⟩, fun f h _ _ => ?_⟩
        · simp only [stored, kv_get_put, if_pos]
        · simp only [stored, kv_get_put, if_neg h]

section Mailbox

variable {s : State} {h : Hdr} (ready : hostReady s h = true) (only : alone s h = true)
include ready only

theorem evLast_returns {e : Nat} {o : Occ} (known : KV.get? s.ev.last e = some o) : runs (.evLast h e) s fun t =>
    ∃ n, answered t h 0x0100 .ok 0 0 (ledBytes n o (decide (1 < o.parts)) 0 (o.data.take 36)) := by
  refine ⟨_, by show execEvLast h e s = _; simp only [execEvLast, ready, known]; rfl, ?_⟩
  exact ⟨_, respondOk_answered (takeFree s) h _ _ (hostReady_portUp ready) only⟩

theorem evLast_refuses {e : Nat} (unknown : KV.get? s.ev.last e = none) : runs (.evLast h e) s fun t =>
    answered t h 0x0100 .outOfRange 0 0 [] := by
  refine ⟨_, by show execEvLast h e s = _; simp only [execEvLast, ready, unknown]; rfl, ?_⟩
  exact respond_answered s h _ _ _ (hostReady_portUp ready) only

end Mailbox

theorem watchdogExpiry_restarts {s : State} (run : running s = true) : exec .watchdogExpiry s = .next (restart s 2) := by
  show execWatchdogExpiry s = _
  simp [execWatchdogExpiry, run]

/-- Settles O59: raising puts the occurrence in the store that EV_LAST reads and a restart empties. -/
theorem evLastReturnsTheNewestOccurrence : Obligations.EvLastReturnsTheNewestOccurrence := by
  unfold Obligations.EvLastReturnsTheNewestOccurrence
  refine ⟨fun s e d => (raise_last s e d).1, fun s e f d h h' h'' => (raise_last s e d).2 f h h' h'', ?known, ?unknown, ?restart⟩
  case known => exact fun s h e o ready only known => evLast_returns ready only known
  case unknown => exact fun s h e ready only unknown => evLast_refuses ready only unknown
  case restart => exact fun s e run => ⟨_, watchdogExpiry_restarts run, rfl⟩

end Sys2Proof.Proofs

/-! PROOFS. One theorem for each command of the ledger, and O28 from these. -/

namespace Sys2Proof.Proofs

open Sys2Proof Sys2Proof.Machine Sys2Proof.Laws

/-! ### What an occurrence leaves of the ledger -/

/-- The ledger without the newest occurrences and the queue of those that wait. -/
def logOf (e : EvState) : EvState :=
  { e with last := [], queue := [], part := 0, early := [], dropped := 0, afterDrop := none, overflow := false }

theorem enqueue_log (s : State) (o : Occ) : logOf (enqueue s o).ev = logOf s.ev := by unfold enqueue; split <;> rfl

theorem raisePast_log (s : State) (e : Nat) (d : List Byte) : logOf (raisePast s e d).ev = logOf s.ev := by
  have signalled : logOf (signalBoth (storeLast (takeFree s) (mkOcc s e d)) e).ev = logOf s.ev := by rw [signalBoth_ev]; rfl
  unfold raisePast
  dsimp only
  split
  · split
    · rw [enqueue_log]; exact signalled
    · exact signalled
  · exact signalled

theorem raise_log {s : State} (thawed : s.ev.freeze = none) (e : Nat) (d : List Byte) : logOf (raise s e d).ev = logOf s.ev := by
  unfold raise
  simp only [thawed]
  exact raisePast_log s e d

theorem applyClear_floor (s : State) (u p r t : Nat) :
    (applyClear s u p r t).ev.floor = max s.ev.floor (min (u + 1) s.ev.next) := by
  unfold applyClear
  exact congrArg EvState.floor (raisePast_log _ _ _)

theorem endFreeze_thaws (s : State) (c : Nat) : (endFreeze s c).ev.freeze = none := by
  have thawed (s : State) (e : Nat) (d : List Byte) : (raisePast s e d).ev.freeze = s.ev.freeze :=
    (congrArg EvState.freeze (raisePast_log s e d) :)
  unfold endFreeze
  split
  · next none => exact none
  · dsimp only
    split
    · rw [thawed]
    · rw [applyClear, thawed, thawed]

theorem endFreeze_ports (s : State) (c : Nat) : ports (endFreeze s c) = ports s := congrArg HostBlock.port (endFreeze_hostRest s c)

theorem raise_ports (s : State) (e : Nat) (d : List Byte) : ports (raise s e d) = ports s := congrArg HostBlock.port (raise_hostRest s e d)

/-! ### Records written -/

/-- The part in hand is written: the next one of its occurrence follows, or the next occurrence. -/
def advance (s : State) (o : Occ) (rest : List Occ) : State :=
  if s.ev.part + 1 < o.parts then { s with ev := { s.ev with part := s.ev.part + 1 } }
  else { s with ev := { s.ev with part := 0, queue := rest } }

/-- A queue that has drained after a drop tells of it (R423). -/
def tellDrop (s : State) : State :=
  if s.ev.queue.isEmpty && decide (0 < s.ev.dropped) then
    raise { s with ev := { s.ev with dropped := 0, afterDrop := none } } 250 (u32 s.ev.dropped ++ u64 (s.ev.afterDrop.getD s.ev.next))
  else s

theorem advance_log (s : State) (o : Occ) (rest : List Occ) : logOf (advance s o rest).ev = logOf s.ev := by
  unfold advance
  split <;> rfl

theorem tellDrop_log {s : State} (thawed : s.ev.freeze = none) : logOf (tellDrop s).ev = logOf s.ev := by
  unfold tellDrop
  split
  · exact raise_log (by exact thawed) 250 _
  · rfl

theorem told_log {s : State} (thawed : s.ev.freeze = none) (o : Occ) (rest : List Occ) :
    logOf (tellDrop (advance s o rest)).ev = logOf s.ev := by
  have kept : (advance s o rest).ev.freeze = none := (congrArg EvState.freeze (advance_log s o rest) :).trans thawed
  rw [tellDrop_log kept, advance_log]

section Records

variable {s : State} {o : Occ} {rest : List Occ} (run : running s = true) (scanned : s.elec.scanned = true)
  (thawed : s.ev.freeze = none) (front : s.ev.queue = o :: rest)
include run scanned thawed front

theorem exec_ledgerRecordWrite (a b : Bool) : exec (.ledgerRecordWrite a b) s = .next (
    let v := tellDrop (advance (if fabOver s && !(a || b) then { s with ev := { s.ev with frzCnt := sat 0xFFFF (s.ev.frzCnt + 1) } }
      else writeRecord s o s.ev.part (a || b)) o rest)
    if a || b || (fabOver s && !(a || b)) then v
    else raise { v with ev := { v.ev with fault := true } } 252 (u64 s.ev.next ++ u16 (s.ev.next % 65536))) := by
  show execLedgerRecordWrite a b s = _
  unfold execLedgerRecordWrite
  rw [if_neg (by simp [run, scanned, thawed])]
  split
  · next none => cases front.symm.trans none
  · next here => cases front.symm.trans here; rfl

theorem ledgerRecordWrite_writes {a b : Bool} (good : (a || b) = true) : runs (.ledgerRecordWrite a b) s fun t =>
    t.ev.next = s.ev.next + 1 ∧ ∃ r, KV.get? t.ev.slots (s.ev.next % 65536) = some r ∧ r.seq = s.ev.next ∧ r.occ = o ∧
      r.part = s.ev.part ∧ r.valid = true ∧ r.data = slice o.data (36 * s.ev.part) 36 := by
  have outcome : exec (.ledgerRecordWrite a b) s = .next (tellDrop (advance (writeRecord s o s.ev.part true) o rest)) := by
    rw [exec_ledgerRecordWrite run scanned thawed front, good]
    simp
  have log := told_log (s := writeRecord s o s.ev.part true) thawed o rest
  have slots : (tellDrop (advance (writeRecord s o s.ev.part true) o rest)).ev.slots = (writeRecord s o s.ev.part true).ev.slots :=
    (congrArg EvState.slots log :)
  refine ⟨_, outcome, (congrArg EvState.next log :), ⟨s.ev.next, o, decide (s.ev.part + 1 < o.parts), s.ev.part,
    slice o.data (36 * s.ev.part) 36, true⟩, ?_, rfl, rfl, rfl, rfl, rfl⟩
  rw [slots]
  simp [writeRecord, kv_get_put]

theorem ledgerRecordWrite_faults (fabric : fabOver s = false) : runs (.ledgerRecordWrite false false) s fun t =>
    t.ev.fault = true ∧ t.ev.next = s.ev.next + 1 ∧ newest t 252 = some (u64 s.ev.next ++ u16 (s.ev.next % 65536)) := by
  generalize told : tellDrop (advance (writeRecord s o s.ev.part false) o rest) = v
  have outcome : exec (.ledgerRecordWrite false false) s = .next (raise { v with ev := { v.ev with fault := true } } 252
      (u64 s.ev.next ++ u16 (s.ev.next % 65536))) := by
    rw [exec_ledgerRecordWrite run scanned thawed front, fabric, ← told]
    rfl
  have log : logOf v.ev = logOf (writeRecord s o s.ev.part false).ev := told ▸ told_log (s := writeRecord s o s.ev.part false) thawed o rest
  have still : v.ev.freeze = none := (congrArg EvState.freeze log :).trans thawed
  have after := raise_log (s := { v with ev := { v.ev with fault := true } }) still 252 (u64 s.ev.next ++ u16 (s.ev.next % 65536))
  exact ⟨_, outcome, (congrArg EvState.fault after :), ((congrArg EvState.next after :).trans (congrArg EvState.next log :) :),
    raise_newest ..⟩

theorem ledgerRecordWrite_loses (fabric : fabOver s = true) : runs (.ledgerRecordWrite false false) s fun t =>
    t.ev.next = s.ev.next ∧ t.ev.slots = s.ev.slots ∧ t.ev.frzCnt = sat 0xFFFF (s.ev.frzCnt + 1) := by
  have outcome : exec (.ledgerRecordWrite false false) s = .next (tellDrop (advance
      { s with ev := { s.ev with frzCnt := sat 0xFFFF (s.ev.frzCnt + 1) } } o rest)) := by
    rw [exec_ledgerRecordWrite run scanned thawed front, fabric]
    rfl
  have log := told_log (s := { s with ev := { s.ev with frzCnt := sat 0xFFFF (s.ev.frzCnt + 1) } }) thawed o rest
  exact ⟨_, outcome, (congrArg EvState.next log :), (congrArg EvState.slots log :), (congrArg EvState.frzCnt log :)⟩

end Records

/-! ### The queue drained -/

theorem foldl_writes {α : Type} (g : State → α) (c : Nat → Prop) [DecidablePred c] (o : Occ)
    (h : ∀ s p, g (writeRecord s o p true) = g s) (l : List Nat) (s : State) :
    g (l.foldl (fun t p => if c p then t else writeRecord t o p true) s) = g s := by
  induction l generalizing s with
  | nil => rfl
  | cons p l ih =>
    rw [List.foldl_cons, ih]
    split
    · rfl
    · exact h s p

theorem drainQueue_last (n : Nat) (s : State) : (drainQueue n s).ev.last = s.ev.last := by
  induction n generalizing s with
  | zero => rfl
  | succ n ih =>
    unfold drainQueue
    split
    · rfl
    · next o rest _ =>
      exact (ih _).trans (foldl_writes (fun t => t.ev.last) (· < s.ev.part) o (fun _ _ => rfl) _ s)

/-! ### The commands of the hosts -/

section Mailbox

variable {s : State} {h : Hdr} (ready : hostReady s h = true) (only : alone s h = true)
include ready only

theorem ledgerRead_reads {first count : Nat} (least : 1 ≤ count) (most : count ≤ 63) : runs (.ledgerRead h first count) s fun t =>
    answered t h 0x0101 .ok (((readFrom s 65537 (min s.ev.next (max first (oldestSeq s))) count).2 +
      (min s.ev.next (max first (oldestSeq s)) - first)) % 2 ^ 32) 0
      (readFrom s 65537 (min s.ev.next (max first (oldestSeq s))) count).1 := by
  have sound : ¬(count = 0 ∨ 63 < count) := by omega
  refine ⟨_, ?_, respondFull_answered s h _ _ _ _ none _ (hostReady_portUp ready) only⟩
  show execLedgerRead h first count s = _
  unfold execLedgerRead
  rw [if_neg (by simp [ready]), if_neg sound]

theorem ledgerFreeze_freezes {d : Nat} (thawed : s.ev.freeze = none) (least : 1 ≤ d) (most : d ≤ 10000)
    (apart : ∀ u, s.ev.freezeEnd = some u → passed s u (sec 1) = true) : runs (.ledgerFreeze h d) s fun t =>
      answered t h 0x0103 .ok 0 0 [] ∧ newest t 248 = some (ux h.port ++ u8 h.ring ++ u32 h.tag ++ u16 d) ∧
      ∃ f, t.ev.freeze = some f ∧ f.port = h.port ∧ f.ring = h.ring ∧ f.ms = d := by
  have sound : ¬(d = 0 ∨ 10000 < d) := by omega
  have rested : (s.ev.freezeEnd.any fun u => !passed s u (sec 1)) = false := by
    cases last : s.ev.freezeEnd with
    | none => rfl
    | some u => rw [Option.any_some, apart u last, Bool.not_true]
  generalize begun : raisePast (drainAll s) 248 (ux h.port ++ u8 h.ring ++ u32 h.tag ++ u16 d) = v
  generalize drained : drainQueue v.ev.queue.length v = w
  have outcome : exec (.ledgerFreeze h d) s = .next (respondOk { w with ev := { w.ev with
      freeze := some { port := h.port, ring := h.ring, tag := h.tag, start := stampTick w, up := w.elec.uptime, ms := d,
                       counts := List.replicate 8 0 },
      holder := (h.port, h.ring), frzCnt := 0 } } h 0x0103 []) := by
    show execLedgerFreeze h d s = _
    have mine : freezeOther s h = none := by simp only [freezeOther, thawed]
    unfold execLedgerFreeze
    rw [if_neg (by simp [ready])]
    simp only [mine]
    rw [if_neg sound]
    simp only [thawed, rested]
    rw [if_neg Bool.false_ne_true, ← drained, ← begun]
  have kept : ports w = ports s := by
    rw [← drained, ← begun]
    exact ports_of_view (m := 203030528) (by simp) (by decide)
  refine ⟨_, outcome, respondOk_answered_of_ports _ _ (by exact kept) ready only, ?_, ?_⟩
  · unfold newest
    rw [respondOk_ev]
    show (KV.get? w.ev.last 248).map (·.data) = _
    rw [← drained, drainQueue_last, ← begun, raisePast_last, if_pos rfl]
    rfl
  · rw [respondOk_ev]
    exact ⟨_, rfl, rfl, rfl, rfl⟩

theorem ledgerUnfreeze_thaws (mine : freezeOther s h = none) : runs (.ledgerUnfreeze h) s fun t =>
    answered t h 0x0104 .ok 0 0 [] ∧ t.ev.freeze = none := by
  have outcome : exec (.ledgerUnfreeze h) s = .next (respondOk (endFreeze s 1) h 0x0104 []) := by
    show execLedgerUnfreeze h s = _
    simp [execLedgerUnfreeze, ready, mine]
  refine ⟨_, outcome, respondOk_answered_of_ports _ _ (endFreeze_ports s 1) ready only, ?_⟩
  rw [respondOk_ev]
  exact endFreeze_thaws s 1

theorem ledgerClear_raisesFloor (thawed : s.ev.freeze = none) (u : Nat) : runs (.ledgerClear h u) s fun t =>
    t.ev.floor = max s.ev.floor (min (u + 1) s.ev.next) ∧
      answered t h 0x0105 .ok 0 0 (u64 (max s.ev.floor (min (u + 1) s.ev.next))) := by
  have outcome : exec (.ledgerClear h u) s = .next (respondOk (applyClear s u h.port.num h.ring h.tag) h 0x0105
      (u64 (max s.ev.floor (min (u + 1) s.ev.next)))) := by
    show execLedgerClear h u s = _
    simp [execLedgerClear, freezeOther, ready, thawed, applyClear_floor]
  refine ⟨_, outcome, ?_, respondOk_answered_of_ports _ _ (ports_of_view (m := 201981952) (by simp) (by decide)) ready only⟩
  rw [respondOk_ev, applyClear_floor]

theorem ledgerClear_waits (frozen : s.ev.freeze.isSome = true) (mine : freezeOther s h = none) (u : Nat) :
    runs (.ledgerClear h u) s fun t => t.ev.floor = s.ev.floor ∧ t.ev.clear.isSome = true ∧
      answered t h 0x0105 .ok 0 0 (u64 s.ev.floor) := by
  let v : State := { s with ev := { s.ev with clear := some ((match s.ev.clear with | some c => max c.1 u | none => u), h.port.num, h.ring, h.tag) } }
  have outcome : exec (.ledgerClear h u) s = .next (respondOk v h 0x0105 (u64 s.ev.floor)) := by
    show execLedgerClear h u s = _
    simp only [execLedgerClear, ready, mine, frozen]
    rfl
  refine ⟨_, outcome, ?_, ?_, ?_⟩
  · rw [respondOk_ev]
  · rw [respondOk_ev]; rfl
  · exact respondOk_answered_of_ports _ _ rfl ready only

theorem ledgerInfo_tells : runs (.ledgerInfo h) s fun t => answered t h 0x0106 .ok 0 0 (ledgerInfo s) := by
  refine ⟨_, by show execLedgerInfo h s = _; simp only [execLedgerInfo, ready]; rfl, ?_⟩
  exact respondOk_answered s h _ _ (hostReady_portUp ready) only

theorem evTest_raises {d : List Byte} (eight : d.length = 8) : runs (.evTest h d) s fun t =>
    answered t h 0x0107 .ok 0 0 [] ∧ newest t 255 = some (ux h.port ++ u8 h.ring ++ d) := by
  have outcome : exec (.evTest h d) s = .next (respondOk (raise s 255 (ux h.port ++ u8 h.ring ++ d)) h 0x0107 []) := by
    show execEvTest h d s = _
    simp [execEvTest, ready, eight]
  refine ⟨_, outcome, respondOk_answered_of_ports _ _ (raise_ports s 255 _) ready only, ?_⟩
  unfold newest
  rw [respondOk_ev]
  exact raise_newest ..

end Mailbox

theorem freezeExpiry_thaws {s : State} {f : FreezeRec} (run : running s = true) (frozen : s.ev.freeze = some f)
    (past : passed s f.up (ms (min 10000 f.ms)) = true) : runs .freezeExpiry s fun t => t.ev.freeze = none := by
  have outcome : exec .freezeExpiry s = .next (endFreeze s 2) := by
    show execFreezeExpiry s = _
    simp [execFreezeExpiry, frozen, run, past]
  exact ⟨_, outcome, endFreeze_thaws s 2⟩

/-! ### Exports -/

/-- A port's desk without its runs. -/
def quiet (q : PortState) : PortState := { q with capture := none, dump := none }

theorem pullDump_quiet (p : Ix) (n : Nat) (s : State) : quiet (desk (pullDump p n s) p) = quiet (desk s p) := by
  have put (t : State) (f : DumpRun → DumpRun) : quiet (desk (modPort t p fun q => { q with dump := q.dump.map f }) p) = quiet (desk t p) := by
    unfold desk
    rw [modPort_host, two_get_modify]
    rfl
  induction n generalizing s with
  | zero => rfl
  | succ n ih =>
    unfold pullDump
    split
    · rfl
    · split
      · rfl
      · split
        · rfl
        · dsimp only
          split
          · rw [ih, deliver_desk, put]
          · rw [ih, put]

theorem runDump_quiet (s : State) (p : Ix) : quiet (desk (runDump s p) p) = quiet (desk s p) := by
  unfold runDump
  refine (settleRun_desk _ p 3).rest.trans ?_
  rw [noteNeed, modStrm_desk]
  exact pullDump_quiet p _ s

theorem ledgerExport_accepts {s : State} {h : Hdr} (ready : hostReady s h = true) (only : alone s h = true)
    (active : strmRuns s h.port 3 = true) (idle : (s.host.port.get h.port).dump = none) (a b : Nat) :
    runs (.ledgerExport h a b) s fun t => ∃ id, answered t h 0x0102 .accepted 0 id [] := by
  generalize accepted : acceptLong s h 0x0102 = r
  let d : DumpRun := { id := r.1, left := presentIn s a b, total := (presentIn s a b).length, lost := 0, lost0 := (strm r.2 h.port 3).lost }
  have outcome : exec (.ledgerExport h a b) s = .next (runDump (modPort r.2 h.port fun q => { q with dump := some d }) h.port) := by
    show execLedgerExport h a b s = _
    simp [execLedgerExport, ready, active, idle, accepted, d]
  refine ⟨_, outcome, r.1, ?_⟩
  have first := acceptLong_answered s h 0x0102 (hostReady_portUp ready) only
  generalize armed : (modPort r.2 h.port fun q => { q with dump := some d }) = v
  have base : (v.host.port.get h.port).responses = (r.2.host.port.get h.port).responses := by
    rw [← armed, modPort_host, two_get_modify]
  have kept : ((runDump v h.port).host.port.get h.port).responses = (v.host.port.get h.port).responses :=
    (congrArg PortState.responses (runDump_quiet v h.port) :)
  rw [accepted] at first
  unfold answered at first ⊢
  rw [kept, base]
  exact first

/-- Settles O28: one theorem above for each clause, in the order of the commands. -/
theorem ledgerCommandsTakeEffect : Obligations.LedgerCommandsTakeEffect := by
  unfold Obligations.LedgerCommandsTakeEffect
  refine ⟨?write, ?fault, ?last, ?read, ?dump, ?freeze, ?unfreeze, ?expiry, ?clear, ?wait, ?info, ?test, ?lost⟩
  case write => exact fun s a b o rest run scanned thawed front good => ledgerRecordWrite_writes run scanned thawed front good
  case fault => exact fun s o rest run scanned thawed front fabric => ledgerRecordWrite_faults run scanned thawed front fabric
  case last => exact fun s h e o ready only known => evLast_returns ready only known
  case read => exact fun s h first count start ready only least most at_ => at_ ▸ ledgerRead_reads ready only least most
  case dump => exact fun s h a b ready only active idle => ledgerExport_accepts ready only active idle a b
  case freeze => exact fun s h d ready only thawed least most apart => ledgerFreeze_freezes ready only thawed least most apart
  case unfreeze => exact fun s h ready only mine => ledgerUnfreeze_thaws ready only mine
  case expiry => exact fun s f run frozen past => freezeExpiry_thaws run frozen past
  case clear => exact fun s h u ready only thawed => ledgerClear_raisesFloor ready only thawed u
  case wait => exact fun s h u ready only frozen mine => ledgerClear_waits ready only frozen mine u
  case info => exact fun s h ready only => ledgerInfo_tells ready only
  case test => exact fun s h d ready only eight => evTest_raises ready only eight
  case lost => exact fun s o rest run scanned thawed front fabric => ledgerRecordWrite_loses run scanned thawed front fabric

end Sys2Proof.Proofs

/-! PROOFS. What MRAM and NOR flash hold over a loss of power and a restart, LEDG_NEXT over every command, and O48 from these. -/

namespace Sys2Proof.Proofs

open Sys2Proof Sys2Proof.Machine Sys2Proof.Laws

/-! ### Events while no firmware runs -/

theorem settleCoils_clk (s : State) : (settleCoils s).clk = s.clk := same_clk (m := 8192) (by simp) (by decide)

/-- From `s` to `t` the ledger takes nothing but occurrences deferred to the next start, and the supply and the clocks stay as they are. -/
structure Defers (s t : State) : Prop where
  ev : ∃ l, t.ev = { s.ev with early := s.ev.early ++ l }
  elec : t.elec = s.elec
  clk : t.clk = s.clk

theorem Defers.refl (s : State) : Defers s s := ⟨⟨[], by simp⟩, rfl, rfl⟩
theorem Defers.trans {s t u : State} (h : Defers s t) (h' : Defers t u) : Defers s u := by
  obtain ⟨l, first⟩ := h.ev
  obtain ⟨k, second⟩ := h'.ev
  exact ⟨⟨l ++ k, by rw [second, first, List.append_assoc]⟩, h'.elec.trans h.elec, h'.clk.trans h.clk⟩
theorem Defers.of_kept {s t : State} (ev : t.ev = s.ev) (elec : t.elec = s.elec) (clk : t.clk = s.clk) : Defers s t :=
  ⟨⟨[], by simp [ev]⟩, elec, clk⟩

theorem running_of_blocks {s t : State} (elec : t.elec = s.elec) (clk : t.clk = s.clk) : running t = running s := by
  unfold running clocked refPresent
  rw [elec, clk]

theorem Defers.running {s t : State} (h : Defers s t) : Machine.running t = Machine.running s := running_of_blocks h.elec h.clk

section Dark

variable {s : State} (dark : running s = false)
include dark

theorem raiseOrDefer_defers (e : Nat) (d : List Byte) : Defers s (raiseOrDefer s e d) := by
  unfold raiseOrDefer
  rw [if_neg (by simp [dark])]
  exact ⟨⟨_, rfl⟩, rfl, rfl⟩

theorem judgeState_defers (x : Ix) : Defers s (judgeState s x) := by
  have told (st : StrState) (cause : Nat) : Defers s (ownState s x st cause) := by
    unfold ownState setStrState
    split
    · dsimp only
      split
      · exact .refl s
      · generalize marked : modProt s x _ = v
        have kept : Defers s v := marked ▸ .of_kept rfl rfl rfl
        exact kept.trans (raiseOrDefer_defers (kept.running.trans dark) _ _)
    · exact .refl s
  unfold judgeState
  split
  · exact .refl s
  · dsimp only
    split
    · exact told _ _
    · split
      · exact told _ _
      · exact told _ _

theorem beginHold_defers (c : HoldCause) : Defers s (beginHold s c) := by
  generalize settled : settleCoils { s with outr := { s.outr with hold := c, restart := c == .restart } } = v
  have coils : Defers s v := by
    rw [← settled]
    exact .of_kept (settleCoils_ev _) (settleCoils_elec _) (settleCoils_clk _)
  have zero := coils.trans (judgeState_defers (coils.running.trans dark) .zero)
  have one := zero.trans (judgeState_defers (zero.running.trans dark) .one)
  have outcome : beginHold s c = raiseOrDefer (judgeState (judgeState v .zero) .one) 196
      (u8 c.evCode ++ u8 (heldMask (judgeState (judgeState v .zero) .one)) ++ u8 1 ++ u8 0) := by rw [← settled]; rfl
  rw [outcome]
  exact one.trans (raiseOrDefer_defers (one.running.trans dark) _ _)

end Dark

/-! ### What MRAM and NOR flash hold -/

theorem nonVolatileSame_refl (s : State) : nonVolatileSame s s := ⟨rfl, rfl, rfl, rfl, rfl, rfl, rfl, rfl, rfl⟩

theorem nonVolatileSame_ite {s t u : State} {c : Prop} [Decidable c] (yes : nonVolatileSame s t) (no : nonVolatileSame s u) :
    nonVolatileSame s (if c then t else u) := by
  split <;> assumption

/-- What only defers occurrences, and leaves the parameters and the update as they are, leaves what is stored. -/
theorem Defers.stored {s t : State} (h : Defers s t) (same : view 202006528 t = view 202006528 s) : nonVolatileSame s t := by
  obtain ⟨l, ev⟩ := h.ev
  have par : t.par = s.par := whole_par same (by decide) (by decide)
  have upd : t.upd = s.upd := whole_upd same (by decide) (by decide)
  refine ⟨same_ident same (by decide), ?_, ?_, ?_, ?_, ?_, ?_, ?_, ?_⟩
  · rw [ev]
  · rw [ev]
  · rw [par]
  · rw [par]
  all_goals rw [upd]

theorem powerGood_stores {a b c : Bool} {s t : State} (ran : exec (.powerGood a b c) s = .next t) : nonVolatileSame s t := by
  obtain ⟨⟩ : Host.Outcome.next _ = .next t := ran
  exact nonVolatileSame_ite (nonVolatileSame_refl s) ⟨rfl, rfl, rfl, rfl, rfl, rfl, rfl, rfl, rfl⟩

theorem powerOff_stores (s : State) : nonVolatileSame s (if s.elec.powered then powerOff s else s) :=
  nonVolatileSame_ite ⟨rfl, rfl, rfl, rfl, rfl, rfl, rfl, rfl, rfl⟩ (nonVolatileSame_refl s)

theorem withdrawal_stores {s t : State} (ran : exec .withdrawal s = .next t) : nonVolatileSame s t := by
  obtain ⟨⟩ : Host.Outcome.next _ = .next t := ran
  exact powerOff_stores s

theorem supplyLoss_stores {s t : State} (ran : exec .supplyLoss s = .next t) : nonVolatileSame s t := by
  obtain ⟨⟩ : Host.Outcome.next _ = .next t := ran
  exact powerOff_stores s

theorem watchdogExpiry_stores {s t : State} (ran : exec .watchdogExpiry s = .next t) : nonVolatileSame s t := by
  obtain ⟨⟩ : Host.Outcome.next _ = .next t := ran
  exact nonVolatileSame_ite ⟨rfl, rfl, rfl, rfl, rfl, rfl, rfl, rfl, rfl⟩ (nonVolatileSame_refl s)

/-- Clockless hold with the note of the last waymark in the queue of the next start, before the hold begins. -/
def clockless (s : State) : State :=
  let s' := stopLoops { s with elec := { s.elec with clockless := true } }
  takeFree { s' with ev := { s'.ev with early := s'.ev.early ++
    [{ mkOcc s' 3 (ustamp (lastWaymark s)) with at_ := lastWaymark s, deferred := true }] } }

theorem clocklessHold_eq (s : State) : exec .clocklessHold s = .next (
    if !s.elec.powered || s.elec.clockless || refPresent s || s.elec.step < 3 then s
    else if s.outr.owner then beginHold (clockless s) .clockless else clockless s) := rfl

theorem clockless_dark (s : State) : running (clockless s) = false := by
  simp [clockless, running, clocked, stopLoops]

theorem clocklessHold_stores {s t : State} (ran : exec .clocklessHold s = .next t) : nonVolatileSame s t := by
  have held : nonVolatileSame (clockless s) (beginHold (clockless s) .clockless) :=
    (beginHold_defers (clockless_dark s) .clockless).stored (by simp)
  rw [clocklessHold_eq] at ran
  cases ran
  exact nonVolatileSame_ite (nonVolatileSame_refl s) (nonVolatileSame_ite held ⟨rfl, rfl, rfl, rfl, rfl, rfl, rfl, rfl, rfl⟩)

/-- The restart with which a reference ends clockless hold. -/
def returned (s : State) (r : Ix) : State :=
  restart { s with clk := { s.clk with refOk := ({ zero := false, one := false } : Two Bool).set r true, sel := r } } 3

/-- The hold goes on as a restart hold. -/
def holdReturned (s : State) (r : Ix) : State :=
  let v := raiseOrDefer (returned s r) 196 (u8 3 ++ u8 (heldMask s) ++ u8 0 ++ u8 4)
  beginHold { v with outr := { v.outr with hold := .none } } .restart

theorem referenceReturnRestart_eq (s : State) (r : Ix) : exec (.referenceReturnRestart r) s = .next (
    if !(s.elec.powered && s.elec.clockless) then s
    else if s.outr.hold == .clockless then holdReturned s r else returned s r) := rfl

theorem returned_dark (s : State) (r : Ix) : running (returned s r) = false := by simp [returned, restart, running]

theorem holdReturned_defers (s : State) (r : Ix) : Defers (returned s r) (holdReturned s r) := by
  have told := raiseOrDefer_defers (returned_dark s r) 196 (u8 3 ++ u8 (heldMask s) ++ u8 0 ++ u8 4)
  have freed (v : State) : Defers v { v with outr := { v.outr with hold := .none } } := .of_kept rfl rfl rfl
  have before := told.trans (freed _)
  exact before.trans (beginHold_defers (before.running.trans (returned_dark s r)) .restart)

theorem referenceReturnRestart_stores {r : Ix} {s t : State} (ran : exec (.referenceReturnRestart r) s = .next t) :
    nonVolatileSame s t := by
  have held : nonVolatileSame (returned s r) (holdReturned s r) :=
    (holdReturned_defers s r).stored (by unfold holdReturned; simp)
  rw [referenceReturnRestart_eq] at ran
  cases ran
  exact nonVolatileSame_ite (nonVolatileSame_refl s) (nonVolatileSame_ite held ⟨rfl, rfl, rfl, rfl, rfl, rfl, rfl, rfl, rfl⟩)

/-! ### LEDG_NEXT -/

/-- LEDG_NEXT does not fall, or the module restarts. -/
def KeepsNext (s t : State) : Prop := s.ev.next ≤ t.ev.next ∨ t.elec.step ≤ 3

section Next

variable {s t u : State}

namespace KeepsNext

theorem refl (s : State) : KeepsNext s s := .inl (Nat.le_refl _)
theorem of_next (h : t.ev.next = s.ev.next) : KeepsNext s t := .inl (Nat.le_of_eq h.symm)
theorem of_records (h : Block.records.same s t) : KeepsNext s t := of_next (congrArg Prod.snd h :)
/-- The mask 267386879 leaves out every part but the records. -/
theorem of_view (h : view 267386879 t = view 267386879 s) : KeepsNext s t := of_next (congrArg Prod.snd (same_records h (by decide)) :)
theorem after (same : t.ev.next = s.ev.next) (h : KeepsNext t u) : KeepsNext s u := h.imp_left fun le => same ▸ le
theorem ite {c : Prop} [Decidable c] (yes : KeepsNext s t) (no : KeepsNext s u) : KeepsNext s (if c then t else u) := by
  split <;> assumption
theorem restarted (s t : State) (cause : Nat) : KeepsNext s (restart t cause) := .inr (Nat.le_refl 3)

end KeepsNext

theorem next_of_view (h : view 267386879 t = view 267386879 s) : t.ev.next = s.ev.next := (congrArg Prod.snd (same_records h (by decide)) :)

theorem activateBoot_keepsNext (s : State) : KeepsNext s (activateBoot s) := by
  unfold activateBoot
  split
  · exact .refl s
  · exact .restarted _ _ 5

theorem leaveNow_keepsNext (s : State) : KeepsNext s (leaveNow s) := by
  unfold leaveNow
  split
  · exact activateBoot_keepsNext s
  · exact .restarted _ _ 5
  · exact .refl s

theorem leaveIfOpen_keepsNext (s : State) : KeepsNext s (leaveIfOpen s) := by
  unfold leaveIfOpen
  split
  · exact .ite (leaveNow_keepsNext s) (.refl s)
  · exact .refl s

theorem openAndLeave_keepsNext (s : State) (activation : Bool) : KeepsNext s (openAndLeave s activation) := by
  refine .after (next_of_view ?_) (leaveIfOpen_keepsNext _)
  simp

theorem bootFails_keepsNext (s : State) (r : SelRec) (cause : Nat) : KeepsNext s (bootFails s r cause) := by
  unfold bootFails
  dsimp only
  refine .ite (.restarted _ _ 7) (.ite (.restarted _ _ 7) (.ite (.restarted _ _ 4) (.of_view ?_)))
  simp

theorem bootImage_keepsNext (s : State) (r : SelRec) (selfTest : Bool) : KeepsNext s (bootImage s r selfTest) := by
  have starts : KeepsNext s (startImage s r) := .of_view (by simp)
  exact .ite (bootFails_keepsNext s r 3) (.ite (bootFails_keepsNext s r 2) starts)

theorem powerGood_keepsNext {a b c : Bool} (ran : exec (.powerGood a b c) s = .next t) : KeepsNext s t := by
  obtain ⟨⟩ : Host.Outcome.next _ = .next t := ran
  exact .ite (.refl s) (.inr (Nat.le_succ 2))

theorem withdrawal_keepsNext (ran : exec .withdrawal s = .next t) : KeepsNext s t := by
  obtain ⟨⟩ : Host.Outcome.next _ = .next t := ran
  exact .ite (.inr (Nat.zero_le 3)) (.refl s)

theorem supplyLoss_keepsNext (ran : exec .supplyLoss s = .next t) : KeepsNext s t := withdrawal_keepsNext ran

theorem watchdogExpiry_keepsNext (ran : exec .watchdogExpiry s = .next t) : KeepsNext s t := by
  obtain ⟨⟩ : Host.Outcome.next _ = .next t := ran
  exact .ite (.restarted s s 2) (.refl s)

theorem referenceReturnRestart_keepsNext {r : Ix} (ran : exec (.referenceReturnRestart r) s = .next t) : KeepsNext s t := by
  rw [referenceReturnRestart_eq] at ran
  cases ran
  exact .ite (.refl s) (.ite (.inr (Nat.le_of_eq (congrArg ElecState.step (holdReturned_defers s r).elec :))) (.restarted s _ 3))

theorem firmwareBoot_keepsNext {selfTest : Bool} (ran : exec (.firmwareBoot selfTest) s = .next t) : KeepsNext s t := by
  obtain ⟨⟩ : Host.Outcome.next _ = .next t := ran
  have boots {v : State} (same : view 267386879 v = view 267386879 s) (r : SelRec) : KeepsNext s (bootImage v r selfTest) :=
    .after (next_of_view same) (bootImage_keepsNext v r selfTest)
  split
  · exact .refl s
  · split
    · exact .of_view (by simp)
    · exact .ite (boots rfl _) (.ite (boots (by simp) _) (boots (by simp) _))

theorem openCurrentLow_keepsNext {x : Ix} (ran : exec (.openCurrentLow x) s = .next t) : KeepsNext s t := by
  obtain ⟨⟩ : Host.Outcome.next _ = .next t := ran
  split
  · exact .refl s
  · refine .ite (.refl s) (.after (next_of_view ?_) (leaveIfOpen_keepsNext _))
    simp

theorem orderlyRelease_keepsNext (ran : exec .orderlyRelease s = .next t) : KeepsNext s t := by
  obtain ⟨⟩ : Host.Outcome.next _ = .next t := ran
  split
  · exact .refl s
  · next q _ =>
    have released : ({ giveUp s .standby with pair := { (giveUp s .standby).pair with req := some { q with gone := true } } } :
        State).ev.next = s.ev.next := next_of_view (by simp)
    exact .ite (.ite (.after released (leaveNow_keepsNext _)) (.of_next released)) (.refl s)

theorem activation_keepsNext (ran : exec .activation s = .next t) : KeepsNext s t := by
  obtain ⟨⟩ : Host.Outcome.next _ = .next t := ran
  exact .ite (.refl s) (.ite (.of_view (by simp)) (.ite (activateBoot_keepsNext s) (.ite (openAndLeave_keepsNext s true)
    (.ite (.of_view (by simp)) (.of_view (by simp))))))

theorem confirmWindowExpiry_keepsNext (ran : exec .confirmWindowExpiry s = .next t) : KeepsNext s t := by
  obtain ⟨⟩ : Host.Outcome.next _ = .next t := ran
  exact .ite (.refl s) (.ite (.restarted s _ 5) (.ite (.of_view (by simp)) (openAndLeave_keepsNext s false)))

theorem activationOpenTimeout_keepsNext (ran : exec .activationOpenTimeout s = .next t) : KeepsNext s t := by
  obtain ⟨⟩ : Host.Outcome.next _ = .next t := ran
  exact .ite (leaveNow_keepsNext s) (.refl s)

theorem drainQueue_next (n : Nat) (s : State) : s.ev.next ≤ (drainQueue n s).ev.next := by
  have writes (c : Nat → Prop) [DecidablePred c] (o : Occ) (l : List Nat) (s : State) :
      s.ev.next ≤ (l.foldl (fun t p => if c p then t else writeRecord t o p true) s).ev.next := by
    induction l generalizing s with
    | nil => exact Nat.le_refl _
    | cons p l ih =>
      have step : s.ev.next ≤ (if c p then s else writeRecord s o p true).ev.next := by
        split
        · exact Nat.le_refl _
        · exact Nat.le_succ _
      exact step.trans (ih _)
  induction n generalizing s with
  | zero => exact Nat.le_refl _
  | succ n ih =>
    unfold drainQueue
    split
    · exact Nat.le_refl _
    · refine Nat.le_trans ?_ (ih _)
      exact writes (· < s.ev.part) _ _ s

theorem raise_next (s : State) (e : Nat) (d : List Byte) : (raise s e d).ev.next = s.ev.next := next_of_view (by simp)

/-- EV 250 for the drops that a drained queue has seen. -/
def drops (v : State) : State :=
  raise { v with ev := { v.ev with dropped := 0, afterDrop := none } } 250 (u32 v.ev.dropped ++ u64 (v.ev.afterDrop.getD v.ev.next))

theorem drainAll_eq (s : State) : drainAll s =
    let v := drainQueue s.ev.queue.length s
    if 0 < v.ev.dropped then drainQueue (drops v).ev.queue.length (drops v) else v := rfl

theorem drops_next (v : State) : (drops v).ev.next = v.ev.next := by
  unfold drops
  rw [raise_next]

theorem drainAll_next (s : State) : s.ev.next ≤ (drainAll s).ev.next := by
  have first := drainQueue_next s.ev.queue.length s
  rw [drainAll_eq]
  dsimp only
  split
  · exact (first.trans (Nat.le_of_eq (drops_next _).symm)).trans (drainQueue_next _ _)
  · exact first

theorem tellDrop_next (v : State) : (tellDrop v).ev.next = v.ev.next := by
  unfold tellDrop
  split
  · rw [raise_next]
  · rfl

theorem ledgerRecordWrite_idle {a b : Bool} (idle : ¬(running s = true ∧ s.elec.scanned = true ∧ s.ev.freeze = none) ∨ s.ev.queue = []) :
    exec (.ledgerRecordWrite a b) s = .next s := by
  show execLedgerRecordWrite a b s = _
  unfold execLedgerRecordWrite
  obtain off | empty := idle
  · rw [if_pos (by simpa [Option.isSome_iff_ne_none, imp_iff_not_or, or_assoc] using off)]
  · simp [empty]

theorem ledgerRecordWrite_keepsNext {a b : Bool} (ran : exec (.ledgerRecordWrite a b) s = .next t) : KeepsNext s t := by
  by_cases idle : ¬(running s = true ∧ s.elec.scanned = true ∧ s.ev.freeze = none) ∨ s.ev.queue = []
  · rw [ledgerRecordWrite_idle idle] at ran
    cases ran
    exact .refl s
  · obtain ⟨live, waits⟩ := not_or.mp idle
    obtain ⟨run, scanned, thawed⟩ := not_not.mp live
    obtain ⟨o, rest, front⟩ := List.exists_cons_of_ne_nil waits
    rw [exec_ledgerRecordWrite run scanned thawed front] at ran
    generalize wrote : (if (fabOver s && !(a || b)) = true then { s with ev := { s.ev with frzCnt := sat 0xFFFF (s.ev.frzCnt + 1) } }
      else writeRecord s o s.ev.part (a || b)) = v at ran
    have first : s.ev.next ≤ v.ev.next := by
      rw [← wrote]
      split
      · exact Nat.le_refl _
      · exact Nat.le_succ _
    have moved : (tellDrop (advance v o rest)).ev.next = v.ev.next :=
      (tellDrop_next _).trans (congrArg EvState.next (advance_log v o rest) :)
    cases ran
    refine .ite (.inl (first.trans (Nat.le_of_eq moved.symm))) (.inl ?_)
    rw [raise_next]
    exact first.trans (Nat.le_of_eq moved.symm)

theorem ledgerFreeze_keepsNext {h : Hdr} {d : Nat} (ran : exec (.ledgerFreeze h d) s = .next t) : KeepsNext s t := by
  obtain ⟨⟩ : Host.Outcome.next _ = .next t := ran
  have answer (v : State) (op : Nat) (st : Status) (k : Nat) : (respond v h op st k).ev.next = v.ev.next := by rw [respond_ev]
  refine .ite (.refl s) ?_
  split
  · exact .of_view (by simp)
  · refine .ite (.of_next (answer ..)) ?_
    split
    · exact .of_next (by rw [respondOk_ev])
    · refine .ite (.of_next (answer ..)) (.inl ?_)
      rw [respondOk_ev]
      refine Nat.le_trans (Nat.le_trans (drainAll_next s) (Nat.le_of_eq ?_)) (drainQueue_next _ _)
      exact (next_of_view (by simp)).symm

/-- Over every command LEDG_NEXT does not fall, but for a restart and the scan that finds it anew. -/
theorem exec_keepsNext {c : Instr} (ran : exec c s = .next t) (scan : c ≠ .ledgerScan) : KeepsNext s t := by
  have frame := exec_frame ran .records
  cases c with
  | powerGood _ _ _ => exact powerGood_keepsNext ran
  | withdrawal => exact withdrawal_keepsNext ran
  | supplyLoss => exact supplyLoss_keepsNext ran
  | watchdogExpiry => exact watchdogExpiry_keepsNext ran
  | referenceReturnRestart _ => exact referenceReturnRestart_keepsNext ran
  | firmwareBoot _ => exact firmwareBoot_keepsNext ran
  | ledgerScan => exact absurd rfl scan
  | openCurrentLow _ => exact openCurrentLow_keepsNext ran
  | orderlyRelease => exact orderlyRelease_keepsNext ran
  | ledgerRecordWrite _ _ => exact ledgerRecordWrite_keepsNext ran
  | ledgerFreeze _ _ => exact ledgerFreeze_keepsNext ran
  | activation => exact activation_keepsNext ran
  | confirmWindowExpiry => exact confirmWindowExpiry_keepsNext ran
  | activationOpenTimeout => exact activationOpenTimeout_keepsNext ran
  | _ => exact .of_records (frame (by simp [touched]))

end Next

/-- Settles O48: a loss of power and a restart carry the stores over, clockless hold only defers occurrences, and only a restart or the scan
sets LEDG_NEXT back. -/
theorem nonVolatileKept : Obligations.NonVolatileKept := by
  unfold Obligations.NonVolatileKept
  refine ⟨fun _ _ _ _ _ ran => powerGood_stores ran, fun _ _ ran => withdrawal_stores ran, fun _ _ ran => supplyLoss_stores ran,
    fun _ _ ran => watchdogExpiry_stores ran, fun _ _ ran => clocklessHold_stores ran,
    fun _ _ _ ran => referenceReturnRestart_stores ran, fun c s t ran => ?_⟩
  by_cases scan : c = .ledgerScan
  · exact .inr (.inr scan)
  · exact (exec_keepsNext ran scan).imp_right .inl

end Sys2Proof.Proofs

/-! PROOFS. One theorem for each command of the supply and of a restart, and O1 from these. -/

namespace Sys2Proof.Proofs

open Sys2Proof Sys2Proof.Machine Sys2Proof.Laws

theorem powerGood_powers {s : State} (off : s.elec.powered = false) (slotB strap2s present : Bool) :
    runs (.powerGood slotB strap2s present) s fun t => t.elec.powered = true ∧ t.elec.step = 2 ∧ t.elec.slotB = slotB ∧
      t.elec.strap2s = strap2s ∧ t.pair.present = present ∧ t.outr.owner = false := by
  have outcome : exec (.powerGood slotB strap2s present) s = .next (powerUp s slotB strap2s present) := by
    show execPowerGood slotB strap2s present s = _
    simp [execPowerGood, off]
  exact ⟨_, outcome, rfl, rfl, rfl, rfl, rfl, rfl⟩

/-- Without power nothing drives a switch, and the stores stay as they are. -/
theorem powerOff_opens (s : State) : (powerOff s).elec.powered = false ∧ noSwitchConducts (powerOff s) .zero = true ∧
    noSwitchConducts (powerOff s) .one = true ∧ (powerOff s).par.areas = s.par.areas ∧ (powerOff s).upd.image = s.upd.image ∧
    (powerOff s).ev.slots = s.ev.slots := by
  have conducts (x : Ix) : noSwitchConducts (powerOff s) x = true := by
    have off : (powerOff s).elec.powered = false := rfl
    exact (noSwitchConducts_iff _ _).mpr fun c => ⟨by simp [hsOn, off], by simp [lsOn, off]⟩
  exact ⟨rfl, conducts .zero, conducts .one, rfl, rfl, rfl⟩

theorem withdrawal_unpowers {s : State} (on : s.elec.powered = true) : exec .withdrawal s = .next (powerOff s) := by
  show execWithdrawal s = _
  simp [execWithdrawal, on]

theorem supplyLoss_unpowers {s : State} (on : s.elec.powered = true) : exec .supplyLoss s = .next (powerOff s) :=
  withdrawal_unpowers on

theorem clocklessHold_holds {s : State} (on : s.elec.powered = true) (clocks : s.elec.clockless = false) (lost : refPresent s = false)
    (step : 3 ≤ s.elec.step) : runs .clocklessHold s fun t => t.elec.clockless = true ∧
      (s.outr.owner = true → t.outr.hold = .clockless) ∧ ∃ o ∈ t.ev.early, o.evt = 3 ∧ o.deferred = true ∧ o.at_ = lastWaymark s := by
  have outcome : exec .clocklessHold s = .next (if s.outr.owner then beginHold (clockless s) .clockless else clockless s) := by
    rw [clocklessHold_eq, if_neg (by simp [on, clocks, lost, step])]
  have noted : ∃ o ∈ (clockless s).ev.early, o.evt = 3 ∧ o.deferred = true ∧ o.at_ = lastWaymark s :=
    ⟨_, List.mem_append_right _ (List.mem_singleton_self _), rfl, rfl, rfl⟩
  obtain ⟨l, held⟩ := (beginHold_defers (clockless_dark s) .clockless).ev
  refine ⟨_, outcome, ?_, fun owner => ?_, ?_⟩
  · split
    · rw [(beginHold_defers (clockless_dark s) .clockless).elec]; rfl
    · rfl
  · rw [if_pos owner, beginHold_outr]
  · split
    · rw [held]
      obtain ⟨o, kept, what⟩ := noted
      exact ⟨o, List.mem_append_left _ kept, what⟩
    · exact noted

theorem referenceReturnRestart_restarts {s : State} (r : Ix) (on : s.elec.powered = true) (dark : s.elec.clockless = true) :
    runs (.referenceReturnRestart r) s fun t => t.elec.step = 3 ∧ t.elec.cause = 3 ∧ t.elec.clockless = false ∧ t.clk.sel = r ∧
      t.clk.refOk.get r = true ∧ (s.outr.hold = .clockless → t.outr.hold = .restart) := by
  have outcome : exec (.referenceReturnRestart r) s =
      .next (if s.outr.hold == .clockless then holdReturned s r else returned s r) := by
    rw [referenceReturnRestart_eq, if_neg (by simp [on, dark])]
  have present : (returned s r).clk.refOk.get r = true := by cases r <;> rfl
  have defers := holdReturned_defers s r
  refine ⟨_, outcome, ?_⟩
  split
  · rw [defers.elec, defers.clk]
    exact ⟨rfl, rfl, rfl, rfl, present, fun _ => by rw [holdReturned, beginHold_outr]⟩
  · next other => exact ⟨rfl, rfl, rfl, rfl, present, fun held => absurd (beq_iff_eq.mpr held) other⟩

/-- Settles O1: one theorem above for each clause, in the order of the commands. -/
theorem supplyCommandsTakeEffect : Obligations.SupplyCommandsTakeEffect := by
  unfold Obligations.SupplyCommandsTakeEffect
  refine ⟨?good, ?withdrawal, ?loss, ?watchdog, ?hold, ?back⟩
  case good => exact fun s slotB strap2s present off => powerGood_powers off slotB strap2s present
  case withdrawal => exact fun s on => ⟨_, withdrawal_unpowers on, powerOff_opens s⟩
  case loss => exact fun s on => ⟨_, supplyLoss_unpowers on, powerOff_opens s⟩
  case watchdog => exact fun s run => ⟨_, watchdogExpiry_restarts run, rfl, rfl, rfl, rfl⟩
  case hold => exact fun s on clocks lost step => clocklessHold_holds on clocks lost step
  case back => exact fun s r on dark => referenceReturnRestart_restarts r on dark

end Sys2Proof.Proofs

/-! PROOFS. The CAN buses: what detection, fault confinement and transmission leave of a bus, then one theorem for each command, and O24. -/

namespace Sys2Proof.Proofs

open Sys2Proof Sys2Proof.Machine Sys2Proof.Laws

/-! ### What an operation leaves of a bus -/

/-- From `s` to `t` what `g` takes of bus `b` stays as it is. -/
def Holds {α : Type} (g : CanBus → α) (b : Ix) (s t : State) : Prop := g (canBus t b) = g (canBus s b)

namespace Holds

variable {α β : Type} {g : CanBus → α} {b : Ix} {s t u : State}

theorem refl (g : CanBus → α) (b : Ix) (s : State) : Holds g b s s := rfl
theorem trans (h : Holds g b s t) (h' : Holds g b t u) : Holds g b s u := Eq.trans h' h
theorem eq (h : Holds g b s t) {a : α} (before : g (canBus s b) = a) : g (canBus t b) = a := Eq.trans h before
theorem of_bus (h : BusKept b s t) : Holds g b s t := congrArg g h
theorem of_can (h : t.can = s.can) : Holds g b s t := of_bus (.of_can h)
theorem ite {c : Prop} [Decidable c] (yes : Holds g b s t) (no : Holds g b s u) : Holds g b s (if c then t else u) := by
  split <;> assumption

end Holds

theorem canBus_modBus (s : State) (b : Ix) (f : CanBus → CanBus) : canBus (modBus s b f) b = f (canBus s b) := two_get_modify ..

theorem modBus_holds {α : Type} {g : CanBus → α} (s : State) (b : Ix) {f : CanBus → CanBus}
    (h : ∀ c, g (f c) = g c := by exact fun _ => rfl) : Holds g b s (modBus s b f) := (congrArg g (canBus_modBus s b f)).trans (h _)

theorem raise_holds {α : Type} (g : CanBus → α) (s : State) (b : Ix) (e : Nat) (d : List Byte) : Holds g b s (raise s e d) :=
  .of_can (raise_can s e d)

/-- A change of a bus with its event. -/
theorem noted_holds {α : Type} {g : CanBus → α} (s : State) (b : Ix) (e : Nat) (d : List Byte) {f : CanBus → CanBus}
    (h : ∀ c, g (f c) = g c := by exact fun _ => rfl) : Holds g b s (raise (modBus s b f) e d) := (modBus_holds s b h).trans (raise_holds g _ b e d)

/-- A bus without its state, its messages and its findings: what the operations on these leave. -/
def steady (c : CanBus) : CanBus :=
  { c with st := .listenOnly, winShort := false, queue := [], tx := none, hostBuf := [], done := [], alone := false, warning := false,
           collCnt := 0, collAt := [], collEv := none, schedFault := false }

/-- The counters of a bus and its place in the basic cycle. -/
def tally (c : CanBus) : List Nat := [c.rx, c.recv, c.tec, c.hpn, c.basic, c.busoffCnt]

/-- The message that a bus sends, and its state. -/
def underway (c : CanBus) : Option CanMsg × CanState := (c.tx, c.st)

theorem Holds.tally {b : Ix} {s t : State} (h : Holds steady b s t) : Holds tally b s t := (congrArg Proofs.tally h :)

section Operations

variable (s : State) (b : Ix)

theorem setCan_steady (st : CanState) (cause : Nat) : Holds steady b s (setCan s b st cause) := by
  unfold setCan
  refine .ite (.refl _ b s) (noted_holds s b _ _ fun c => ?_)
  split <;> rfl

theorem checkWindows_steady : Holds steady b s (checkWindows s b) := by
  unfold checkWindows
  refine .ite (.refl _ b s) ?_
  split
  · exact .ite (.refl _ b s) (noted_holds s b _ _)
  · exact .ite (.refl _ b s) (noted_holds s b _ _)

theorem canActive_steady : Holds steady b s (canActive s b) := .ite (setCan_steady s b _ _) (.refl _ b s)

theorem endAlone_steady : Holds steady b s (endAlone s b) := .ite (noted_holds s b _ _) (.refl _ b s)

theorem collide_steady (i w : Nat) : Holds steady b s (collide s b i w) := by
  have faulted (v : State) (h : Holds steady b s v) : Holds steady b s (modBus v b fun c => { c with schedFault := true }) :=
    h.trans (modBus_holds v b)
  have counted : Holds steady b s (modBus s b fun c =>
      { c with collCnt := sat 0xFF (c.collCnt + 1),
               collAt := curCycle s :: c.collAt.filter fun k => decide (curCycle s < k + 64) }) := modBus_holds s b
  unfold collide
  exact .ite counted (.ite (faulted _ counted) ((faulted _ counted).trans (noted_holds _ b _ _)))

theorem keepResult_steady (m : CanMsg) (ok : Bool) : Holds steady b s (keepResult s b m ok) :=
  .ite (.refl _ b s) (modBus_holds s b)

theorem answerLate_can (m : CanMsg) (ok : Bool) : (answerLate s m ok).can = s.can := same_can (m := 67502080) (by simp) (by decide)

theorem txFailed_steady (m : CanMsg) (ack : Bool) : Holds steady b s (txFailed s b m ack) := by
  have kept : Holds steady b s (keepResult (answerLate s m false) b m false) :=
    (Holds.of_can (answerLate_can s m false)).trans (keepResult_steady _ b m false)
  unfold txFailed
  exact .ite kept (.ite (modBus_holds s b) (.ite (kept.trans (noted_holds _ b _ _)) kept))

theorem startTx_steady (m : CanMsg) : Holds steady b s (startTx s b m) := by
  refine .trans (modBus_holds s b : Holds steady b s (modBus s b fun c => { c with tx := some m })) (.of_bus ?_)
  unfold startTx
  split <;> rfl

theorem sendNormal_steady : Holds steady b s (sendNormal s b) := by
  unfold sendNormal startFirst
  refine .ite ?_ (.refl _ b s)
  split
  · exact .refl _ b s
  · next rest _ =>
    exact (modBus_holds s b : Holds steady b s (modBus s b fun c => { c with queue := rest })).trans
      (startTx_steady _ b _)

/-- What R381 finds it finds of the counters, which stay. -/
theorem judgeErrors_holds {α : Type} {g : CanBus → α} (warn : ∀ c w, g { c with warning := w } = g c)
    (passive : ∀ c f, g { c with fc := f } = g c) : Holds g b s (judgeErrors s b) := by
  have warned (v : Bool) (c : Prop) [Decidable c] (d : List Byte) :
      Holds g b s (if c then s else raise (modBus s b fun c => { c with warning := v }) 226 d) :=
    .ite (.refl _ b s) (noted_holds s b 226 d fun c => warn c v)
  unfold judgeErrors
  exact .ite (warned _ _ _) ((warned _ _ _).trans (noted_holds _ b _ _ fun c => passive c _))

theorem judgeErrors_tally : Holds tally b s (judgeErrors s b) := judgeErrors_holds s b (fun _ _ => rfl) fun _ _ => rfl
theorem judgeErrors_underway : Holds underway b s (judgeErrors s b) := judgeErrors_holds s b (fun _ _ => rfl) fun _ _ => rfl

theorem startDetect_tally : Holds tally b s (startDetect s b) := modBus_holds s b

theorem adoptRate_tally (cand : Nat) (assumed fixed : Bool) : Holds tally b s (adoptRate s b cand assumed fixed) := by
  unfold adoptRate
  refine .trans (.trans ?_ (checkWindows_steady _ b).tally) (canActive_steady _ b).tally
  exact .ite (modBus_holds s b) (noted_holds s b _ _)

theorem detectFrame_tally (f : CanFrame) : Holds tally b s (detectFrame s b f) := by
  have tried (r : Nat) (o : Bool) : Holds tally b s (modBus s b fun c => { c with okRun := r, okBrs := o }) :=
    modBus_holds s b
  unfold detectFrame
  exact .ite (.refl _ b s) (.ite ((tried _ _).trans (adoptRate_tally _ b _ false false)) (tried _ _))

end Operations

end Sys2Proof.Proofs

/-! PROOFS. One theorem for each command of the CAN buses, and O24 from these. -/

namespace Sys2Proof.Proofs

open Sys2Proof Sys2Proof.Machine Sys2Proof.Laws

/-! ### Frames received -/

/-- A good frame counted, and what the bus holds of other nodes. -/
def frameCounted (s : State) (b : Ix) : State :=
  let heard (m : CanMsg) : CanMsg := { m with heard := true }
  endAlone (modBus (rxGood (heardFrame s b) b) b fun c =>
    { c with rx := (c.rx + 1) % 65536, queue := c.queue.map heard, tx := c.tx.map heard }) b

/-- A good frame judged: by the candidate on trial, and for a collision. -/
def frameJudged (s : State) (b : Ix) (f : CanFrame) : State :=
  let v := detectFrame (frameCounted s b) b f
  if drives v && (canBus v b).st != .listenOnly && sendsId v b f then collide v b f.id 0xFF else v

/-- What the module takes from a frame of its own range. -/
def frameTaken (s : State) (b : Ix) (f : CanFrame) : State :=
  let k := f.id - idBase s b
  match b with
  | .zero =>
    if k < 2 then (if isActive s || f.data.length ≠ 20 then s else recordSetpoint s (Ix.ofNum k) f.data)
    else if k = 0x10 ∨ k = 0x11 then (if f.data.length ≠ 32 then s else takeStatus s (Ix.ofNum (k - 0x10)) f.data)
    else s
  | .one =>
    if k < 16 then (if isActive s || f.data.length ≠ 12 then s else recordThCmd s k f.data)
    else if f.data.length = 16 ∧ parN s (0x0D10 + (k - 16)) % 256 ≠ 0 then takeThStat s (k - 16) f.data
    else s

theorem placePcsReport_keepsBus (s : State) (x : Ix) (n : Nat) (a : F32) (b : Ix) : BusKept b s (placePcsReport s x n a) := by
  have aligned (k : SrcKey) (ok : Bool) (n : Nat) (d : Rat) : BusKept b s (alignSource s k ok n d) :=
    .of_can (same_can (m := 201982080) (by simp) (by decide))
  unfold placePcsReport
  exact .ite (.refl b s) (.ite ((aligned _ _ _ _).trans (modPcs_keepsBus _ x b _)) (aligned _ _ _ _))

theorem takeStatus_keepsBus (s : State) (x : Ix) (d : List Byte) (b : Ix) : BusKept b s (takeStatus s x d) := by
  have told (s : State) (c : Prop) [Decidable c] (k : Nat) : BusKept b s (if c then pcsEvent s x k else s) :=
    .ite (pcsEvent_keepsBus s x b k) (.refl b s)
  have turned (s : State) (c : Prop) [Decidable c] (k : Nat) : BusKept b s (if c then s else pcsEvent s x k) :=
    .ite (.refl b s) (pcsEvent_keepsBus s x b k)
  unfold takeStatus
  exact (((modPcs_keepsBus s x b _).trans (told _ _ _)).trans (turned _ _ _)).trans (placePcsReport_keepsBus _ x _ _ b)

theorem frameTaken_keepsBus (s : State) (b : Ix) (f : CanFrame) (y : Ix) : BusKept y s (frameTaken s b f) := by
  have setpoint (x : Ix) : BusKept y s (recordSetpoint s x f.data) := .ite (modPcs_keepsBus s x y _) (.refl y s)
  have command (i : Nat) : BusKept y s (recordThCmd s i f.data) := .of_can (same_can (m := 1024) (by simp) (by decide))
  have stat (i : Nat) : BusKept y s (takeThStat s i f.data) := .of_can (same_can (m := 201982976) (by simp) (by decide))
  cases b
  · exact .ite (.ite (.refl y s) (setpoint _)) (.ite (.ite (.refl y s) (takeStatus_keepsBus s _ _ y)) (.refl y s))
  · exact .ite (.ite (.refl y s) (command _)) (.ite (stat _) (.refl y s))

theorem exec_canFrame {s : State} (b : Ix) {f : CanFrame} (run : running s = true) (good : f.err = false) : exec (.canFrame b f) s =
    .next (let v := frameJudged s b f
      if f.rtr then v
      else if f.ext || !inOwnRange v b f.id then deliverBoth (takeFree v) 2 (stampNow v) (canRxRecord b f (stampNow v))
      else frameTaken v b f) := by
  show execCanFrame b f s = _
  unfold execCanFrame
  rw [if_neg (by simp [run]), if_neg (by simp [good])]
  rfl

theorem frameJudged_counts (s : State) (b : Ix) (f : CanFrame) :
    (canBus (frameJudged s b f) b).rx = ((canBus s b).rx + 1) % 65536 := by
  let rx (c : CanBus) : Nat := c.rx
  have heard : Holds rx b s (rxGood (heardFrame s b) b) :=
    (modBus_holds s b).trans ((modBus_holds _ b).trans (judgeErrors_holds _ b (fun _ _ => rfl) fun _ _ => rfl))
  have counted : (canBus (frameCounted s b) b).rx = ((canBus s b).rx + 1) % 65536 := by
    have alone : Holds rx b _ (frameCounted s b) := (congrArg CanBus.rx (endAlone_steady (modBus (rxGood (heardFrame s b) b) b _) b) :)
    refine alone.eq ?_
    rw [canBus_modBus]
    exact congrArg (fun n => (n + 1) % 65536) heard
  have tried := detectFrame_tally (frameCounted s b) b f
  have judged : Holds tally b (frameCounted s b) (frameJudged s b f) := .ite (tried.trans (collide_steady _ b _ _).tally) tried
  exact (List.cons.inj judged).1.trans counted

theorem canFrame_counts {s : State} (b : Ix) {f : CanFrame} (run : running s = true) (good : f.err = false) :
    runs (.canFrame b f) s fun t => (canBus t b).rx = ((canBus s b).rx + 1) % 65536 := by
  refine ⟨_, exec_canFrame b run good, ?_⟩
  have delivered (v : State) (r : List Byte) : BusKept b v (deliverBoth (takeFree v) 2 (stampNow v) r) :=
    .of_can (same_can (m := 202244096) (by simp) (by decide))
  have kept (v : State) (c d : Prop) [Decidable c] [Decidable d] (r : List Byte) : BusKept b v
      (if c then v else if d then deliverBoth (takeFree v) 2 (stampNow v) r else frameTaken v b f) :=
    .ite (.refl b v) (.ite (delivered v r) (frameTaken_keepsBus v b f b))
  exact (congrArg CanBus.rx (kept (frameJudged s b f) _ _ _)).trans (frameJudged_counts s b f)

theorem canFrame_countsError {s : State} (b : Ix) {f : CanFrame} (run : running s = true) (bad : f.err = true) :
    runs (.canFrame b f) s fun t => (canBus t b).recv = sat 255 ((canBus s b).recv + 1) := by
  have outcome : exec (.canFrame b f) s = .next (let v := rxBad (heardFrame s b) b
      if (canBus v b).detecting then nextCandidate v b
      else if (canBus v b).assumed && (canBus v b).st == .listenOnly then startDetect v b else v) := by
    show execCanFrame b f s = _
    unfold execCanFrame
    rw [if_neg (by simp [run]), if_pos bad]
  let recv (c : CanBus) : Nat := c.recv
  have counted : (canBus (rxBad (heardFrame s b) b) b).recv = sat 255 ((canBus s b).recv + 1) := by
    refine (judgeErrors_holds (g := recv) _ b (fun _ _ => rfl) fun _ _ => rfl).eq ?_
    rw [canBus_modBus, heardFrame, canBus_modBus]
  have after (v : State) (c d : Prop) [Decidable c] [Decidable d] :
      Holds recv b v (if c then nextCandidate v b else if d then startDetect v b else v) :=
    .ite (modBus_holds v b) (.ite (modBus_holds v b) (.refl _ b v))
  exact ⟨_, outcome, (after _ _ _).eq counted⟩

/-! ### Detection -/

theorem rateDwellExpiry_tries {s : State} {b : Ix} (run : running s = true) (detecting : (canBus s b).detecting = true)
    (kept : passed s (canBus s b).candUp (ms (parN s 0x0D06)) = true) : runs (.rateDwellExpiry b) s fun t =>
      (canBus t b).cand = (canBus s b).cand % 8 + 1 ∧ (canBus t b).okRun = 0 := by
  have outcome : exec (.rateDwellExpiry b) s = .next (nextCandidate s b) := by
    show execRateDwellExpiry b s = _
    simp only [execRateDwellExpiry, run, detecting, kept, Bool.and_self, if_true]
  have bus := canBus_modBus s b fun c =>
    { c with cand := c.cand % 8 + 1, okRun := 0, okBrs := false, tried := min 8 (c.tried + 1), candUp := s.elec.uptime }
  exact ⟨_, outcome, congrArg CanBus.cand bus, congrArg CanBus.okRun bus⟩

theorem rateSilentExpiry_assumes {s : State} {b : Ix} (run : running s = true) (detecting : (canBus s b).detecting = true)
    (fails : detectFails s b = true) : runs (.rateSilentExpiry b) s fun t =>
      (canBus t b).rate = parN s (0x0D04 + b.num) ∧ (canBus t b).assumed = true ∧ (canBus t b).detecting = false := by
  have outcome : exec (.rateSilentExpiry b) s = .next (adoptRate s b (parN s (0x0D04 + b.num)) true false) := by
    show execRateSilentExpiry b s = _
    simp only [execRateSilentExpiry, run, detecting, fails, Bool.not_true, Bool.false_eq_true, if_false, if_true]
  refine ⟨_, outcome, ?_⟩
  have settled (v : State) : Holds steady b v (canActive (checkWindows v b) b) :=
    (checkWindows_steady v b).trans (canActive_steady _ b)
  have adopted : steady (canBus (adoptRate s b (parN s (0x0D04 + b.num)) true false) b) =
      steady { canBus s b with rate := parN s (0x0D04 + b.num), detecting := false, assumed := true, okRun := 0, okBrs := false,
                               tried := 0 } := by
    refine (settled _).eq ((raise_holds steady _ b _ _).eq ?_)
    rw [canBus_modBus]
    rfl
  exact ⟨(congrArg CanBus.rate adopted :), (congrArg CanBus.assumed adopted :), (congrArg CanBus.detecting adopted :)⟩

/-! ### The basic cycle and its windows -/

theorem basicCycleStart_counts {s : State} (b : Ix) (run : running s = true) (on : s.grid.on = true) :
    runs (.basicCycleStart b) s fun t => (canBus t b).hpn = curHpn s ∧ (canBus t b).basic = curHpn s % 8 := by
  have pending (s : State) (c : Prop) [Decidable c] (due : Bound → Nat → Bool) :
      Holds tally b s (if c then applyPending s due else s) := .ite (.of_can (applyPending_can s due)) (.refl _ b s)
  have rates (s : State) (c d : Prop) [Decidable c] [Decidable d] (now : Nat) :
      Holds tally b s (if c then adoptRate s b now false true else if d then startDetect s b else checkWindows s b) :=
    .ite (adoptRate_tally s b _ _ _) (.ite (startDetect_tally s b) (checkWindows_steady s b).tally)
  have counted (s : State) (c : Prop) [Decidable c] : Holds tally b s (if c then countPcs (countPcs s .zero) .one else s) :=
    .ite (.of_bus ((countPcs_keepsBus s .zero b).trans (countPcs_keepsBus _ .one b))) (.refl _ b s)
  have settled (s : State) (c d : Prop) [Decidable c] [Decidable d] (p : CanMsg → Bool) :
      Holds tally b s (if c then setCan (modBus s b fun k => { k with queue := k.queue.filter p }) b .scheduled 3
        else if d then modBus s b fun k => { k with queue := k.queue.filter p } else s) :=
    .ite ((modBus_holds s b).trans (setCan_steady _ b _ _).tally) (.ite (modBus_holds s b) (.refl _ b s))
  have outcome : ∃ t, exec (.basicCycleStart b) s = .next t ∧
      Holds tally b (modBus s b fun c => { c with hpn := curHpn s, basic := curHpn s % 8, slot := 0 }) t := by
    refine ⟨_, rfl, ?_⟩
    rw [if_neg (by simp [run]), if_pos on]
    refine .trans ?_ (settled _ _ _ _)
    refine .trans ?_ (judgeErrors_tally _ b)
    refine .trans ?_ (counted _ _)
    refine .trans ?_ (rates _ _ _ _)
    refine .trans ?_ (pending _ _ _)
    exact .of_can (applyPending_can _ _)
  obtain ⟨t, ran, kept⟩ := outcome
  have fields : tally (canBus t b) = tally { canBus s b with hpn := curHpn s, basic := curHpn s % 8 } :=
    kept.eq (by rw [canBus_modBus]; rfl)
  simp only [tally, List.cons.injEq] at fields
  obtain ⟨-, -, -, hpn, basic, -⟩ := fields
  exact ⟨t, ran, hpn, basic⟩

theorem canWindowStart_sends {s : State} {b : Ix} {w left : Nat} {m : CanMsg} (drive : drives s = true) (window : w < 32)
    (kind : (canWin s b w).kind ≠ 0) (mask : testBit (canWin s b w).mask (canBus s b).basic = true)
    (scheduled : (canBus s b).st = .scheduled) (confined : (canBus s b).fc ≠ .busOff) (free : (canBus s b).tx = none)
    (own : yieldTo s b (canWin s b w) = none) (message : windowMsg s b w = some m) (fits : msgNs (canBus s b).rate m + 2000 ≤ left) :
    runs (.canWindowStart b w left) s fun t => (canBus t b).tx = some { m with attempts := oneShot } ∧
      Out.can b m.id (sentFormat (canBus s b) m.format) m.data ∈ t.sent := by
  generalize placed : (modBus s b fun c => { c with slot := (canWin s b w).start }) = v
  have sameWin : windowMsg v b w = windowMsg s b w := by rw [← placed]; cases b <;> rfl
  have sameYield : yieldTo v b (canWin s b w) = yieldTo s b (canWin s b w) := by rw [← placed]; cases b <;> rfl
  have outcome : exec (.canWindowStart b w left) s = .next (startTx (modBus v b fun c =>
      { c with queue := c.queue.filter fun a => !sameSlot a m || a.kind == .host }) b { m with attempts := oneShot }) := by
    show execCanWindowStart b w left s = _
    unfold execCanWindowStart
    dsimp only
    rw [if_neg (by simp [drive, window, kind, mask, scheduled]), if_neg (by simp [scheduled]), placed, sameYield, own]
    simp only [Option.filter_none, sameWin, message]
    rw [if_neg (by simpa using confined), if_pos (by simp [free, fits])]
  have bus : canBus v b = { canBus s b with slot := (canWin s b w).start } := by rw [← placed, canBus_modBus]
  generalize ready : (modBus v b fun c => { c with queue := c.queue.filter fun a => !sameSlot a m || a.kind == .host }) = u at outcome
  refine ⟨_, outcome, ?_, ?_⟩
  · have sending (u : State) (n : CanMsg) : (canBus (startTx u b n) b).tx = some n := by
      have put : (canBus (modBus u b fun c => { c with tx := some n }) b).tx = some n := by rw [canBus_modBus]
      unfold startTx
      split <;> exact put
    exact sending u _
  · have format : sentFormat (canBus u b) m.format = sentFormat (canBus s b) m.format := by
      rw [← ready, canBus_modBus, bus]
      rfl
    rw [← format]
    have sent (n : CanMsg) : Out.can b n.id (sentFormat (canBus u b) n.format) n.data ∈ (startTx u b n).sent := by
      have put : sentFormat (canBus (modBus u b fun c => { c with tx := some n }) b) n.format = sentFormat (canBus u b) n.format := by
        rw [canBus_modBus]
        rfl
      rw [← put]
      unfold startTx
      split <;> exact List.mem_append_right _ (List.mem_singleton_self _)
    exact sent { m with attempts := oneShot }

/-! ### The end of a transmission -/

theorem canTxDone_ends {s : State} {b : Ix} {m : CanMsg} (run : running s = true) (sending : (canBus s b).tx = some m)
    (scheduled : (canBus s b).st = .scheduled) : runs (.canTxDone b .success) s fun t =>
      (canBus t b).tx = none ∧ (canBus t b).tec = (canBus s b).tec - 1 := by
  generalize freed : (modBus s b fun c => { c with tx := none }) = v
  generalize done : endAlone (keepResult (answerLate (txGood v b) m true) b m true) b = u
  have outcome : exec (.canTxDone b .success) s = .next (sendNormal u b) := by
    show execCanTxDone b .success s = _
    simp only [execCanTxDone, sending, run, freed, done]
    rfl
  let seen (c : CanBus) : (Option CanMsg × CanState) × Nat := (underway c, c.tec)
  have result (v : State) : Holds seen b v (keepResult v b m true) := .ite (.refl _ b v) (modBus_holds v b)
  have ended (v : State) : Holds seen b v (endAlone v b) := .ite (noted_holds v b _ _) (.refl _ b v)
  have kept : Holds seen b (txGood v b) u :=
    done ▸ ((Holds.of_can (answerLate_can _ m true)).trans (result _)).trans (ended _)
  have good : seen (canBus (txGood v b) b) = ((none, .scheduled), (canBus s b).tec - 1) := by
    refine (judgeErrors_holds (g := seen) _ b (fun _ _ => rfl) fun _ _ => rfl).eq ?_
    rw [canBus_modBus, ← freed, canBus_modBus, ← scheduled]
    rfl
  have final := kept.eq good
  have idle : (canBus u b).st = .scheduled := congrArg (fun c => c.1.2) final
  have quiet : sendNormal u b = u := if_neg (by simp [idle])
  rw [quiet] at outcome
  exact ⟨_, outcome, congrArg (fun c => c.1.1) final, congrArg (fun c => c.2) final⟩

/-- What a bus-off entry leaves of the bus: its confinement, its counters and the count of its entries. -/
def confinement (c : CanBus) : FcState × Nat × Nat := (c.fc, c.tec, c.busoffCnt)

theorem txFailed_newest (s : State) (b : Ix) (m : CanMsg) (ack : Bool) : newest (txFailed s b m ack) 228 = newest s 228 := by
  have result (m' : CanMsg) (ok : Bool) (v : State) : (keepResult v b m' ok).ev = v.ev := by
    unfold keepResult
    split <;> rfl
  have late : (answerLate s m false).ev = s.ev := by
    unfold answerLate
    split
    · rw [respondFull_ev]
    · rfl
  have kept : newest (keepResult (answerLate s m false) b m false) 228 = newest s 228 := newest_of_ev ((result ..).trans late) 228
  unfold txFailed
  dsimp only
  split
  · exact kept
  · split
    · rfl
    · split
      · rw [raise_newest_other _ _ _ _ (by decide) (by decide) (by decide)]
        exact kept
      · exact kept

theorem setCan_newest (s : State) (b : Ix) (st : CanState) (cause : Nat) : newest (setCan s b st cause) 228 = newest s 228 := by
  unfold setCan
  dsimp only
  split
  · rfl
  · rw [raise_newest_other _ _ _ _ (by decide) (by decide) (by decide)]
    rfl


/-- From `s` to `t` the bus stays confined as it is, and EV 228 is not raised anew. -/
def StaysOff (b : Ix) (s t : State) : Prop := Holds confinement b s t ∧ newest t 228 = newest s 228

namespace StaysOff

variable {b : Ix} {s t u : State}

theorem refl (b : Ix) (s : State) : StaysOff b s s := ⟨.refl _ b s, rfl⟩
theorem trans (h : StaysOff b s t) (h' : StaysOff b t u) : StaysOff b s u := ⟨h.1.trans h'.1, h'.2.trans h.2⟩
theorem ite {c : Prop} [Decidable c] (yes : StaysOff b s t) (no : StaysOff b s u) : StaysOff b s (if c then t else u) := by
  split <;> assumption
theorem modBus (s : State) {f : CanBus → CanBus} (h : ∀ c, confinement (f c) = confinement c := by exact fun _ => rfl) :
    StaysOff b s (modBus s b f) := ⟨modBus_holds s b h, rfl⟩
theorem setCan (s : State) (st : CanState) (cause : Nat) : StaysOff b s (setCan s b st cause) :=
  ⟨(congrArg confinement (setCan_steady s b st cause) :), setCan_newest s b st cause⟩
theorem txFailed (s : State) (m : CanMsg) : StaysOff b s (txFailed s b m false) :=
  ⟨(congrArg confinement (txFailed_steady s b m false) :), txFailed_newest s b m false⟩

end StaysOff

theorem canBusOff_confines {s : State} {b : Ix} (run : running s = true) (on : (canBus s b).fc ≠ .busOff)
    (speaks : (canBus s b).st ≠ .listenOnly) : runs (.canBusOff b) s fun t => (canBus t b).fc = .busOff ∧ (canBus t b).tec = 255 ∧
      (canBus t b).busoffCnt = sat 0xFF ((canBus s b).busoffCnt + 1) ∧
      newest t 228 = some (ux b ++ u16 (((canBus s b).offUp.filter fun u => !passed s u (sec 10)).length + 1)) := by
  have failed (v : State) (o : Option CanMsg) : StaysOff b v (match o with | some m => txFailed v b m false | none => v) := by
    cases o with
    | none => exact .refl b v
    | some m => exact .txFailed v m
  have slowed (v : State) (c : Prop) [Decidable c] : StaysOff b v (if c then setCan v b .normal 5 else v) := .ite (.setCan v _ _) (.refl b v)
  have sought (v : State) (c : Prop) [Decidable c] : StaysOff b v (if c then startDetect v b else v) := .ite (.modBus v) (.refl b v)
  have entered (v : State) (n up : Nat) : StaysOff b v (if n < 3 then v else
      let u := setCan (modBus v b fun c => { c with offUp := [], candUp := up }) b .listenOnly 7
      if fixedRate u b = 0 then startDetect u b else u) :=
    .ite (.refl b v) (((StaysOff.modBus v).trans (.setCan _ _ _)).trans (sought _ _))
  generalize list : s.elec.uptime :: (canBus s b).offUp.filter (fun u => !passed s u (sec 10)) = l
  generalize told : raise (modBus s b fun c =>
    { c with fc := .busOff, tec := 255, busoffCnt := sat 0xFF (c.busoffCnt + 1), offUp := l, tx := none }) 228 (ux b ++ u16 l.length) = v
  have outcome : ∃ t, exec (.canBusOff b) s = .next t ∧ StaysOff b v t := by
    refine ⟨_, rfl, ?_⟩
    rw [if_neg (by simp [run, on, speaks]), ← told, ← list]
    exact ((failed _ _).trans (slowed _ _)).trans (entered _ _ _)
  obtain ⟨t, ran, kept, note⟩ := outcome
  have here : confinement (canBus t b) = (.busOff, 255, sat 0xFF ((canBus s b).busoffCnt + 1)) :=
    kept.eq (told ▸ (raise_holds confinement _ b _ _).eq (by rw [canBus_modBus]; rfl))
  refine ⟨t, ran, congrArg (·.1) here, congrArg (·.2.1) here, congrArg (·.2.2) here, ?_⟩
  rw [note, ← told, raise_newest, ← list, List.length_cons]

theorem busOffRecovery_recovers {s : State} {b : Ix} (run : running s = true) (off : (canBus s b).fc = .busOff) :
    runs (.busOffRecovery b) s fun t => (canBus t b).fc = .errorActive ∧ (canBus t b).tec = 0 ∧ (canBus t b).recv = 0 := by
  generalize told : raise (modBus s b fun c => { c with fc := .errorActive, tec := 0, recv := 0 }) 227
    (ux b ++ u16 0 ++ u16 0 ++ ub false) = v
  have outcome : exec (.busOffRecovery b) s = .next (sendNormal (judgeErrors v b) b) := by
    show execBusOffRecovery b s = _
    simp only [execBusOffRecovery, run, off, told]
    rfl
  let level (c : CanBus) : FcState × Nat × Nat := (c.fc, c.tec, c.recv)
  have start : level (canBus v b) = (.errorActive, 0, 0) := told ▸ (raise_holds level _ b _ _).eq (by rw [canBus_modBus])
  have judged : level (canBus (judgeErrors v b) b) = (.errorActive, 0, 0) := by
    have fc : (canBus v b).fc = .errorActive := congrArg (·.1) start
    have tec : (canBus v b).tec = 0 := congrArg (·.2.1) start
    have recv : (canBus v b).recv = 0 := congrArg (·.2.2) start
    have warned (w : Bool) (c : Prop) [Decidable c] (d : List Byte) :
        Holds level b v (if c then v else raise (modBus v b fun c => { c with warning := w }) 226 d) :=
      .ite (.refl _ b v) (noted_holds v b _ _)
    unfold judgeErrors
    rw [if_pos (by simp [fc, tec, recv])]
    exact (warned _ _ _).eq start
  have sent : level (canBus (sendNormal (judgeErrors v b) b) b) = (.errorActive, 0, 0) :=
    (congrArg level (sendNormal_steady (judgeErrors v b) b) :).trans judged
  exact ⟨_, outcome, congrArg (·.1) sent, congrArg (·.2.1) sent, congrArg (·.2.2) sent⟩

end Sys2Proof.Proofs

/-! PROOFS. The host's messages on the CAN buses, and O24 with what stands above. -/

namespace Sys2Proof.Proofs

open Sys2Proof Sys2Proof.Machine Sys2Proof.Laws

theorem busIndex_not_beyond {bus : Nat} (known : bus ≤ 1) : ¬ 1 < bus := Nat.not_lt.mpr known

/-- A message that may be posted has the length it states. -/
theorem length_of_postFault {s : State} {bus fmt len buf i : Nat} {d : List Byte} (sound : postFault s bus fmt len buf i d = 0) :
    d.length = len := by
  by_contra differs
  unfold postFault at sound
  dsimp only at sound
  split at sound
  · cases sound
  · rw [if_pos (by simp [differs])] at sound
    cases sound

/-- The message that a CAN_POST queues. -/
def posted (s : State) (fmt buf i : Nat) (d : List Byte) : CanMsg :=
  { kind := .host, window := none, index := buf, id := i, format := fmt, data := d, handle := (newHandle s).1, attempts := 0,
    ackOnly := true, cancelled := false, waiter := none }

/-- The message in its place: the queue, or a HOST window's buffer. -/
def place (s : State) (b : Ix) (buf : Nat) (m : CanMsg) : State :=
  if buf = 0xFF then sendNormal (queueMsg s b m) b
  else
    let v := match ((canBus s b).hostBuf[buf]?).join with
      | some old => keepResult s b old false
      | none => s
    modBus v b fun c => { c with hostBuf := setAt c.hostBuf buf (some m) }

section Mailbox

variable {s : State} {h : Hdr} (ready : hostReady s h = true) (only : alone s h = true)
include ready only

omit only in
theorem exec_canPost {bus fmt len buf i : Nat} {d : List Byte} (known : bus ≤ 1) (sound : postFault s bus fmt len buf i d = 0) :
    exec (.canPost h bus fmt len buf i d) s = .next (respondOk (place (newHandle s).2 (Ix.ofNum bus) buf (posted s fmt buf i d)) h 0x0080
      (u32 (newHandle s).1)) := by
  show execCanPost h bus fmt len buf i d s = _
  unfold execCanPost
  rw [if_neg (by simp [ready]), if_neg (busIndex_not_beyond known), if_neg (by simp [length_of_postFault sound])]
  simp only [sound]
  rfl

theorem canPost_answers {fmt buf i : Nat} {d : List Byte} (b : Ix) : answered
    (respondOk (place (newHandle s).2 b buf (posted s fmt buf i d)) h 0x0080 (u32 (newHandle s).1)) h 0x0080 .ok 0 0
      (u32 (newHandle s).1) := by
  refine respondOk_answered_of_ports _ _ (ports_of_view (m := 201393152) ?_ (by decide)) ready only
  unfold place
  split
  · simp [newHandle]
  · split <;> simp [newHandle]

theorem canPost_fillsBuffer {bus fmt len buf i : Nat} {d : List Byte} (known : bus ≤ 1) (sound : postFault s bus fmt len buf i d = 0)
    (small : buf < 8) (inside : buf < (canBus s (Ix.ofNum bus)).hostBuf.length) : runs (.canPost h bus fmt len buf i d) s fun t =>
      ∃ m, answered t h 0x0080 .ok 0 0 (u32 m.handle) ∧ (canBus t (Ix.ofNum bus)).hostBuf[buf]? = some (some m) ∧ m.id = i ∧
        m.format = fmt ∧ m.data = d := by
  refine ⟨_, exec_canPost ready known sound, posted s fmt buf i d, canPost_answers ready only _, ?_, rfl, rfl, rfl⟩
  have buffer : buf ≠ 0xFF := by omega
  have kept (v : State) (old : CanMsg) (b : Ix) : (canBus (keepResult v b old false) b).hostBuf = (canBus v b).hostBuf :=
    Holds.ite (g := CanBus.hostBuf) (.refl _ b v) (modBus_holds v b)
  unfold canBus
  rw [respondOk_can]
  show (canBus (place (newHandle s).2 (Ix.ofNum bus) buf (posted s fmt buf i d)) (Ix.ofNum bus)).hostBuf[buf]? = _
  unfold place
  rw [if_neg buffer]
  dsimp only
  have same (v : State) (o : Option CanMsg) (b : Ix) :
      (canBus (match o with | some old => keepResult v b old false | none => v) b).hostBuf = (canBus v b).hostBuf := by
    cases o with
    | none => rfl
    | some old => exact kept v old b
  rw [canBus_modBus]
  dsimp only
  rw [setAt_eq_set, same]
  exact List.getElem?_set_self inside

theorem canCancel_removes {m : CanMsg} (freeZero : (canBus s .zero).tx = none) (freeOne : (canBus s .one).tx = none)
    (waits : m ∈ (canBus s .zero).queue) (own : m.kind = .host) : runs (.canCancel h m.handle) s fun t =>
      answered t h 0x0081 .cancelled 0 0 [] ∧ ∀ x ∈ (canBus t .zero).queue, ¬ (x.kind = .host ∧ x.handle = m.handle) := by
  let v := modBus s .zero fun c =>
    { c with queue := c.queue.filter (fun x => !(x.kind == .host && x.handle == m.handle)),
             hostBuf := c.hostBuf.map fun o => o.filter fun x => x.handle != m.handle,
             done := KV.put c.done m.handle false }
  have found : (((canBus s .zero).queue ++ (canBus s .zero).hostBuf.filterMap id).any fun x => x.kind == .host && x.handle == m.handle) =
      true := List.any_eq_true.mpr ⟨m, List.mem_append_left _ waits, by simp [own]⟩
  have outcome : exec (.canCancel h m.handle) s = .next (respond v h 0x0081 .cancelled 0) := by
    show execCanCancel h m.handle s = _
    unfold execCanCancel
    rw [if_neg (by simp [ready])]
    dsimp only
    rw [if_neg (by simp [freeZero]), if_neg (by simp [freeOne]), if_pos found]
  refine ⟨_, outcome, respond_answered v h _ _ _ (hostReady_portUp ready) only, fun x member => ?_⟩
  have bus : canBus (respond v h 0x0081 .cancelled 0) .zero = canBus v .zero := by
    unfold canBus
    rw [respond_can]
  rw [bus, canBus_modBus] at member
  simpa [← not_and_or] using (List.mem_filter.mp member).2

end Mailbox

theorem canCancel_marks {s : State} {h : Hdr} {m : CanMsg} (ready : hostReady s h = true) (sending : (canBus s .zero).tx = some m)
    (own : m.kind = .host) : runs (.canCancel h m.handle) s fun t =>
      (canBus t .zero).tx = some { m with cancelled := true, waiter := some h } := by
  have outcome : exec (.canCancel h m.handle) s = .next (modBus s .zero fun c =>
      { c with tx := c.tx.map fun x => { x with cancelled := true, waiter := some h },
               hostBuf := c.hostBuf.map fun o => o.filter fun x => x.handle != m.handle }) := by
    show execCanCancel h m.handle s = _
    unfold execCanCancel
    rw [if_neg (by simp [ready])]
    dsimp only
    rw [if_pos (by simp [sending, own])]
  refine ⟨_, outcome, ?_⟩
  beta_reduce
  rw [canBus_modBus, sending]
  rfl

/-- Settles O24: one theorem above for each clause, in the order of the commands. -/
theorem canCommandsTakeEffect : Obligations.CanCommandsTakeEffect := by
  unfold Obligations.CanCommandsTakeEffect
  refine ⟨?frame, ?error, ?dwell, ?silent, ?cycle, ?window, ?done, ?busOff, ?recovery, ?buffer, ?queued, ?removed, ?marked⟩
  case frame => exact fun s b f run good => canFrame_counts b run good
  case error => exact fun s b f run bad => canFrame_countsError b run bad
  case dwell => exact fun s b run detecting kept => rateDwellExpiry_tries run detecting kept
  case silent => exact fun s b run detecting fails => rateSilentExpiry_assumes run detecting fails
  case cycle => exact fun s b run on => basicCycleStart_counts b run on
  case window => exact fun s b w left m drive window kind mask scheduled confined free own message fits =>
    canWindowStart_sends drive window kind mask scheduled confined free own message fits
  case done => exact fun s b m run sending scheduled => canTxDone_ends run sending scheduled
  case busOff => exact fun s b run on speaks => canBusOff_confines run on speaks
  case recovery => exact fun s b run off => busOffRecovery_recovers run off
  case buffer => exact fun s h bus fmt len buf i d ready only known sound small inside =>
    canPost_fillsBuffer ready only known sound small inside
  case queued => exact fun s h bus fmt len i d ready only known sound =>
    ⟨_, exec_canPost ready known sound, _, canPost_answers ready only _⟩
  case removed => exact fun s h m ready only freeZero freeOne waits own => canCancel_removes ready only freeZero freeOne waits own
  case marked => exact fun s h m ready sending own => canCancel_marks ready sending own

end Sys2Proof.Proofs

/-! PROOFS. One theorem for each command of the parameters, and O29 from these. -/

namespace Sys2Proof.Proofs

open Sys2Proof Sys2Proof.Machine Sys2Proof.Laws

/-! ### What the steps of a COMMIT change -/

/-- A session that is used keeps everything but the time of its last use. -/
theorem touchSession_eq (s : State) (h : Hdr) : ∃ o, touchSession s h = { s with par := { s.par with holder := o } } := by
  unfold touchSession
  split
  · split
    · exact ⟨_, rfl⟩
    · exact ⟨s.par.holder, rfl⟩
  · exact ⟨s.par.holder, rfl⟩

theorem releaseModel_eq (s : State) : ∃ b, releaseModel s = { s with fus := { s.fus with modelDue := b } } := by
  unfold releaseModel
  split
  · exact ⟨true, rfl⟩
  · exact ⟨s.fus.modelDue, rfl⟩

theorem startPersist_persisting (s : State) : (startPersist s).par.persisting = true := by
  unfold startPersist
  split
  · assumption
  · rfl

/-- What a persistence writes and how it goes on. -/
def dictOf (p : ParState) : ParState := { p with persisting := false, retried := false, again := false, snap := none }

/-- A persistence that starts leaves the dictionary and the banks. -/
theorem startPersist_dict (s : State) : dictOf (startPersist s).par = dictOf s.par := by
  unfold startPersist
  split <;> rfl

theorem startPersist_persistFault (s : State) : (startPersist s).par.persistFault = s.par.persistFault :=
  (congrArg ParState.persistFault (startPersist_dict s) :)

/-- A change that waits for its boundary is no change of the dictionary in force. -/
theorem schedule_par (s : State) (c : Dict) (a : Nat) : parRest (schedule s c a).par = parRest s.par :=
  same_par (m := 2097152) (by simp) (by decide)

theorem foldl_schedule_par (c : Dict) (l : List Nat) (s : State) :
    parRest (l.foldl (fun s a => schedule s c a) s).par = parRest s.par := by
  induction l generalizing s with
  | nil => rfl
  | cons a l ih => rw [List.foldl_cons, ih, schedule_par]

/-- The units, the learning cycles and the calibrations that a COMMIT reaches after it has installed its dictionary. -/
def carryOut (s : State) (ch : List Nat) (staged : Dict) : State :=
  let s := if ch.any unitSetting then configureUnits s else s
  let shunt (s : State) (x : Ix) : State :=
    if ch.any (fun a => a / 2 == (0x0510 + 8 * x.num) / 2) then disqualify s x 5 s.grid.now 0 0 else s
  commitCal (shunt (shunt s .zero) .one) staged ch

@[simp] theorem carryOut_view (m : Nat) (s ch staged) (h : m &&& 201982304 = 201982304) :
    view m (carryOut s ch staged) = view m s := view_up h (by unfold carryOut; simp)

theorem carryOut_par (s : State) (ch : List Nat) (staged : Dict) : (carryOut s ch staged).par = s.par :=
  whole_par (m := 201982304) (by simp) (by decide) (by decide)

/-- The candidate taken up as the dictionary in force, each change scheduled at its boundary, and the session ended. -/
def takeUp (s : State) (c : Dict) : State :=
  let ch := changedPars s c
  let prot := ch.any fun a => boundOf a == some .protection0 || altersCode s c a
  let comp := ch.foldl (fun d a => withComp s d a (dictGet s.ident.variant c a)) s.par.comp
  let s := ch.foldl (fun s a => schedule s c a) s
  let at_ := some (s.grid.now + 2)
  { s with par := { s.par with seq := s.par.seq + 1, cycle := curCycle s, committed := c, comp := comp, holder := none, staged := [],
                               protAt := if prot then { zero := at_, one := at_ } else s.par.protAt } }

theorem install_eq (s : State) (c : Dict) :
    install s c = startPersist (carryOut (takeUp s c) (changedPars s c) s.par.staged) := rfl

theorem takeUp_seq (s : State) (c : Dict) : (takeUp s c).par.seq = s.par.seq + 1 := by
  have kept := foldl_schedule_par c (changedPars s c) s
  exact congrArg (· + 1) (congrArg ParState.seq kept :)

/-- What a COMMIT that is accepted leaves in the dictionary: the next COMMIT_SEQ, the candidate in force, no session, a persistence. -/
theorem install_installs (s : State) (c : Dict) : (install s c).par.seq = s.par.seq + 1 ∧ (install s c).par.committed = c ∧
    (install s c).par.staged = [] ∧ (install s c).par.holder = none ∧ (install s c).par.persisting = true := by
  have dict : dictOf (install s c).par = dictOf (takeUp s c).par := by rw [install_eq, startPersist_dict, carryOut_par]
  exact ⟨((congrArg ParState.seq dict :).trans (takeUp_seq s c) :), (congrArg ParState.committed dict :),
    (congrArg ParState.staged dict :), (congrArg ParState.holder dict :), by rw [install_eq]; exact startPersist_persisting _⟩

theorem install_ports (s : State) (c : Dict) : ports (install s c) = ports s := ports_of_view (m := 208273760) (by simp) (by decide)

/-- The session of a COMMIT that changes nothing ends; a model set that waits is released. -/
def endStaging (s : State) : State := releaseModel { s with par := { s.par with holder := none, staged := [] } }

/-- A model set that a COMMIT releases is persisted with the dictionary in force. -/
def persistDue (s : State) : State := if s.fus.modelStaged.isSome then startPersist (endStaging s) else endStaging s

theorem endStaging_par (s : State) : (endStaging s).par = { s.par with holder := none, staged := [] } := by
  obtain ⟨b, released⟩ := releaseModel_eq { s with par := { s.par with holder := none, staged := [] } }
  rw [endStaging, released]

theorem endStaging_seq (s : State) : (endStaging s).par.seq = s.par.seq := by rw [endStaging_par]

theorem persistDue_dict (s : State) : dictOf (persistDue s).par = dictOf { s.par with holder := none, staged := [] } := by
  unfold persistDue
  split
  · rw [startPersist_dict, endStaging_par]
  · rw [endStaging_par]

@[simp] theorem persistDue_view (m : Nat) (s) (h : m &&& 4194432 = 4194432) : view m (persistDue s) = view m s :=
  view_up h (by unfold persistDue endStaging; simp)

/-! ### The host's commands -/

section Host

variable {s : State} {h : Hdr} (ready : hostReady s h = true) (only : alone s h = true)
include ready only

theorem parRead_reads {g first n src : Nat} (least : 1 ≤ n) (most : n ≤ 256) (source : src ≤ 3) (start : first ≤ 255) {l : List Nat}
    (known : (((List.range (min n (256 - first))).map fun i => g * 256 + first + i).filter
      fun a => (pInfo s.ident.variant a).isSome) = l) (nonempty : l ≠ []) :
    runs (.parRead h g first n src) s fun t => answered t h 0x0010 .ok
      ((readEntries s src l []).2 + 65536 * bit (src == 3 && (bankInUse s).isNone)) 0 (readEntries s src l []).1 := by
  have sound : ¬ (n = 0 ∨ 256 < n ∨ 3 < src ∨ 255 < first) := by omega
  have listed : ¬ l.isEmpty = true := by simp [nonempty]
  refine ⟨_, ?_, respondFull_answered s h _ _ _ _ none _ (hostReady_portUp ready) only⟩
  show execParRead h g first n src s = _
  unfold execParRead
  rw [if_neg (by simp [ready]), if_neg sound, known]
  dsimp only
  rw [if_neg listed]

theorem parWrite_stages {d : List Byte} {es : List (Nat × Nat)} (free : s.par.holder = none)
    (parsed : parseEntries s d.length d [] = .ok es) : runs (.parWrite h d) s fun t =>
      answered t h 0x0011 .ok 0 0 (u16 es.length) ∧ t.par.staged = es.foldl (fun m e => KV.put m e.1 e.2) [] ∧
      t.par.holder = some (h.port, h.ring, h.tag, s.elec.uptime) := by
  have outcome : exec (.parWrite h d) s = .next (respondOk (stage s h es) h 0x0011 (u16 es.length)) := by
    show execParWrite h d s = _
    simp [execParWrite, ready, stagingHolder, free, parsed]
  refine ⟨_, outcome, respondOk_answered_of_ports _ _ rfl ready only, ?_, ?_⟩ <;> simp [stage, free]

section Session

variable (session : stagingHolder s h false = none)
include session

theorem parDiscard_discards : runs (.parDiscard h) s fun t =>
    answered t h 0x0013 .ok 0 0 [] ∧ t.par.staged = [] ∧ t.par.holder = none := by
  have outcome : exec (.parDiscard h) s = .next (respondOk { s with par := { s.par with holder := none, staged := [] } } h 0x0013 []) := by
    show execParDiscard h s = _
    simp [execParDiscard, ready, session]
  refine ⟨_, outcome, respondOk_answered_of_ports _ _ rfl ready only, ?_, ?_⟩ <;> simp

variable (unscheduled : updState s ≠ .scheduled)
include unscheduled

theorem commit_unchanged (same : ∀ e ∈ s.par.staged, e.2 = parC s e.1) : runs (.commit h) s fun t =>
    answered t h 0x0012 .ok 0 0 (u64 s.par.seq ++ u16 0) ∧ t.par.staged = [] ∧ t.par.committed = s.par.committed := by
  have outcome : exec (.commit h) s = .next (respondOk (persistDue s) h 0x0012 (u64 (endStaging s).par.seq ++ u16 0)) := by
    obtain ⟨o, touched⟩ := touchSession_eq s h
    have all : (s.par.staged.all fun e => e.2 == parC { s with par := { s.par with holder := o } } e.1) = true :=
      List.all_eq_true.mpr fun e mem => beq_iff_eq.mpr (same e mem)
    show execCommit h s = _
    unfold execCommit
    rw [if_neg (by simp [ready]), session]
    dsimp only
    rw [touched, if_neg (by exact unscheduled), if_pos all]
    rfl
  rw [endStaging_seq] at outcome
  have port : ports (persistDue s) = ports s := ports_of_view (m := 4194432) (by simp) (by decide)
  have dict := persistDue_dict s
  refine ⟨_, outcome, respondOk_answered_of_ports _ _ port ready only, ?_, ?_⟩
  · rw [respondOk_par]; exact (congrArg ParState.staged dict :)
  · rw [respondOk_par]; exact (congrArg ParState.committed dict :)

theorem commit_installs {c : Dict} (differs : ∃ e ∈ s.par.staged, e.2 ≠ parC s e.1) (whole : candidate s = c)
    (allowed : ∀ a ∈ changedPars s c, (roleLimited a && isActive s) = false) (sound : commitFault s c = none) :
    runs (.commit h) s fun t => answered t h 0x0012 .ok 0 0 (u64 (s.par.seq + 1) ++ u16 (changedPars s c).length) ∧
      t.par.seq = s.par.seq + 1 ∧ t.par.committed = c ∧ t.par.staged = [] ∧ t.par.holder = none ∧ t.par.persisting = true := by
  obtain ⟨o, touched⟩ := touchSession_eq s h
  obtain ⟨b, released⟩ := releaseModel_eq { s with par := { s.par with holder := o } }
  generalize done : install { s with par := { s.par with holder := o }, fus := { s.fus with modelDue := b } } c = v
  obtain ⟨seq, committed, staged, holder, persisting⟩ := done ▸ install_installs _ c
  have port : ports v = ports s := done ▸ install_ports _ c
  have outcome : exec (.commit h) s = .next (respondOk v h 0x0012 (u64 (s.par.seq + 1) ++ u16 (changedPars s c).length)) := by
    obtain ⟨e, mem, new⟩ := differs
    have changes : ¬ (s.par.staged.all fun e => e.2 == parC { s with par := { s.par with holder := o } } e.1) = true :=
      fun all => new (beq_iff_eq.mp (List.all_eq_true.mp all e mem))
    have free : ((changedPars s c).find? fun a => roleLimited a && isActive s) = none :=
      List.find?_eq_none.mpr fun a mem => by rw [allowed a mem]; exact Bool.false_ne_true
    have whole' : candidate { s with par := { s.par with holder := o } } = c := whole
    have changed : changedPars { s with par := { s.par with holder := o } } c = changedPars s c := rfl
    have active : isActive { s with par := { s.par with holder := o } } = isActive s := rfl
    have sound' : commitFault { s with par := { s.par with holder := o } } c = none := sound
    show execCommit h s = _
    unfold execCommit
    rw [if_neg (by simp [ready]), session]
    dsimp only
    rw [touched, if_neg (by exact unscheduled), if_neg changes, whole', changed, active, free]
    dsimp only
    rw [sound']
    dsimp only
    rw [released, done, seq]
  refine ⟨_, outcome, respondOk_answered_of_ports _ _ port ready only, ?_⟩
  rw [respondOk_par]
  exact ⟨seq, committed, staged, holder, persisting⟩

end Session

end Host

/-! ### Persistence and the safety scan -/

section Bank

variable {s : State} {b : Bank} (run : running s = true) (busy : s.par.persisting = true) (snap : s.par.snap = some b)
include run busy snap

theorem persistenceDone_keeps : runs (.persistenceDone true) s fun t =>
    t.par.areas.get s.par.area = (Two.both none).set (targetBank s) (some b) ∧ t.par.persistedSeq = b.seq ∧
      t.par.bank = targetBank s := by
  generalize kept : ({ s.par with
    areas := s.par.areas.set s.par.area ((Two.both none).set (targetBank s) (some b)), bank := targetBank s,
    persistedSeq := b.seq, retried := false } : ParState) = p
  obtain ⟨t, outcome, dict⟩ : ∃ t, exec (.persistenceDone true) s = .next t ∧ dictOf t.par = dictOf p := by
    show ∃ t, execPersistenceDone true s = .next t ∧ _
    unfold execPersistenceDone
    rw [snap]
    dsimp only
    rw [if_neg (by simp [run, busy]), if_pos rfl, ← kept]
    refine ⟨_, rfl, ?_⟩
    split
    · exact startPersist_dict _
    · rfl
  have areas : t.par.areas = p.areas := (congrArg ParState.areas dict :)
  refine ⟨t, outcome, ?_, ?_, ?_⟩
  · rw [areas, ← kept]
    exact two_get_set _ _ _
  · exact (congrArg ParState.persistedSeq dict :).trans (kept ▸ rfl)
  · exact (congrArg ParState.bank dict :).trans (kept ▸ rfl)

theorem persistenceDone_fails (twice : s.par.retried = true) : runs (.persistenceDone false) s fun t => t.par.persistFault = true := by
  show ∃ t, execPersistenceDone false s = .next t ∧ _
  unfold execPersistenceDone
  rw [snap]
  dsimp only
  rw [if_neg (by simp [run, busy]), if_neg Bool.false_ne_true, if_pos twice]
  refine ⟨_, rfl, ?_⟩
  split
  · rw [startPersist_persistFault]
  · rfl

end Bank

theorem foldl_reloadPair_reloads (b : Bank) (l : List Nat) {s : State} (nonempty : l ≠ []) :
    (l.foldl (fun s a => reloadPair s b a) s).par.safetyReload = true := by
  induction l using List.reverseRecOn with
  | nil => exact absurd rfl nonempty
  | append_singleton l a _ => rw [List.foldl_append]; rfl

theorem failSelfTest_role (s : State) : (failSelfTest s).pair.role = .isolated := goIsolated_role _ 2

theorem failSelfTest_selfTestOk (s : State) : (failSelfTest s).elec.selfTestOk = false := by
  unfold failSelfTest
  dsimp only
  rw [goIsolated_selfTestOk]
  split
  · rw [emit_elec]
  · rfl

section Scan

variable {s : State} (run : running s = true) (bad : badPairs s ≠ [])
include run bad

theorem safetyScan_reloads {x : Ix} {b : Bank} (bank : bankInUse s = some (x, b)) (newest : b.seq = s.par.seq) :
    runs .safetyScan s fun t => t.par.safetyReload = true := by
  refine ⟨(badPairs s).foldl (fun s a => reloadPair s b a) s, ?_, foldl_reloadPair_reloads b _ bad⟩
  show execSafetyScan s = _
  unfold execSafetyScan
  rw [if_neg (by simp [run])]
  split
  · next none => exact absurd none bad
  · rw [bank]
    dsimp only
    rw [if_pos newest]

theorem safetyScan_isolates (lost : bankInUse s = none) : runs .safetyScan s fun t =>
    t.pair.role = .isolated ∧ t.elec.selfTestOk = false := by
  refine ⟨failSelfTest s, ?_, failSelfTest_role s, failSelfTest_selfTestOk s⟩
  show execSafetyScan s = _
  unfold execSafetyScan
  rw [if_neg (by simp [run])]
  split
  · next none => exact absurd none bad
  · rw [lost]

end Scan

/-- Settles O29: each clause is the theorem of its command. -/
theorem parameterCommandsTakeEffect : Obligations.ParameterCommandsTakeEffect := by
  unfold Obligations.ParameterCommandsTakeEffect
  refine ⟨?read, ?write, ?unchanged, ?commit, ?discard, ?kept, ?fault, ?reload, ?isolate⟩
  case read => exact fun s h g first n src l ready only least most source start known nonempty =>
    parRead_reads ready only least most source start known nonempty
  case write => exact fun s h d es ready only free parsed => parWrite_stages ready only free parsed
  case unchanged => exact fun s h ready only session unscheduled same => commit_unchanged ready only session unscheduled same
  case commit => exact fun s h c ready only session unscheduled differs whole allowed sound =>
    commit_installs ready only session unscheduled differs whole allowed sound
  case discard => exact fun s h ready only session => parDiscard_discards ready only session
  case kept => exact fun s b run busy snap => persistenceDone_keeps run busy snap
  case fault => exact fun s b run busy snap twice => persistenceDone_fails run busy snap twice
  case reload => exact fun s x b run bad bank newest => safetyScan_reloads run bad bank newest
  case isolate => exact fun s run bad lost _ => safetyScan_isolates run bad lost

end Sys2Proof.Proofs

/-! PROOFS. The records of a session and of the boot selector as they are written, one theorem for each command of an activation, and O31
from these. -/

namespace Sys2Proof.Proofs

open Sys2Proof Sys2Proof.Machine Sys2Proof.Laws

/-! ### The newer record of two -/

/-- A journal record that is written is the one in force, under a SEQ of its own. -/
theorem journalOf_writeJournal (s : State) (j : Journal) : ∃ n, journalOf (writeJournal s j) = some { j with seq := n } := by
  refine ⟨((journalOf s).map (·.seq)).getD 0 + 1, ?_⟩
  rcases zero : s.upd.journal.zero with _ | a <;> rcases one : s.upd.journal.one with _ | b
  · simp [writeJournal, journalOf, Two.set, zero, one]
  · simp [writeJournal, journalOf, Two.set, zero, one]
  · simp [writeJournal, journalOf, Two.set, zero, one]
  · by_cases newer : a.seq < b.seq <;> simp [writeJournal, journalOf, Two.set, zero, one, newer]

/-- A selector record that is written is the one in force, under a SEQ of its own. -/
theorem selOf_writeSel (s : State) (r : SelRec) : ∃ n, selOf (writeSel s r) = some { r with seq := n } := by
  refine ⟨((selOf s).map (·.seq)).getD 0 + 1, ?_⟩
  rcases zero : s.upd.sel.zero with _ | a <;> rcases one : s.upd.sel.one with _ | b
  · simp [writeSel, selOf, Two.set, zero, one]
  · simp [writeSel, selOf, Two.set, zero, one]
  · simp [writeSel, selOf, Two.set, zero, one]
  · by_cases newer : a.seq < b.seq <;> simp [writeSel, selOf, Two.set, zero, one, newer]

theorem curJournal_writeJournal (s : State) (j : Journal) : ∃ n, curJournal (writeJournal s j) = { j with seq := n } := by
  obtain ⟨n, written⟩ := journalOf_writeJournal s j
  exact ⟨n, by rw [curJournal, written]; rfl⟩

/-- The selector names a slot on trial. -/
def onTrial (s : State) : Bool := (selOf s).any (·.trial)

theorem updState_of_onTrial {s : State} (trial : onTrial s = true) : updState s = .trial := if_pos trial

theorem updState_of_not_onTrial {s : State} (trial : onTrial s = false) : updState s = (curJournal s).st := by
  unfold updState curJournal
  rw [if_neg (by rw [show (selOf s).any (·.trial) = false from trial]; exact Bool.false_ne_true)]
  cases journalOf s <;> rfl

theorem not_onTrial {s : State} {u : UpdState} (state : updState s = u) (other : u ≠ .trial) : onTrial s = false :=
  Bool.eq_false_iff.mpr fun trial => other (state.symm.trans (updState_of_onTrial trial))

/-- Outside a trial the state of an update is that of the journal record written last. -/
theorem updState_writeJournal {s : State} (trial : onTrial s = false) (j : Journal) : updState (writeJournal s j) = j.st := by
  obtain ⟨n, written⟩ := curJournal_writeJournal s j
  rw [updState_of_not_onTrial (show onTrial (writeJournal s j) = false from trial), written]

theorem onTrial_writeSel (s : State) (r : SelRec) : onTrial (writeSel s r) = r.trial := by
  obtain ⟨n, written⟩ := selOf_writeSel s r
  rw [onTrial, written]
  rfl

/-- The records rest on the update block alone. -/
theorem selOf_of_upd {s t : State} (e : t.upd = s.upd) : selOf t = selOf s := by unfold selOf; rw [e]
theorem journalOf_of_upd {s t : State} (e : t.upd = s.upd) : journalOf t = journalOf s := by unfold journalOf; rw [e]
theorem updState_of_upd {s t : State} (e : t.upd = s.upd) : updState t = updState s := by
  rw [updState, updState, selOf_of_upd e, journalOf_of_upd e]
theorem curJournal_of_upd {s t : State} (e : t.upd = s.upd) : curJournal t = curJournal s := by
  rw [curJournal, curJournal, journalOf_of_upd e]

/-- A scheduled update has a journal record. -/
theorem scheduled_journal {s : State} (scheduled : updState s = .scheduled) : ∃ j, journalOf s = some j ∧ j.st = .scheduled := by
  have state := updState_of_not_onTrial (not_onTrial scheduled (by decide))
  rw [scheduled, curJournal] at state
  cases found : journalOf s with
  | none => rw [found] at state; cases state
  | some j => rw [found] at state; exact ⟨j, rfl, state.symm⟩

/-! ### What leaves for a restart -/

/-- R36, R464: a restart begins at power-up step 3 without the image, with the cause named, and keeps the records of the update. -/
theorem windowRestart_restarts (s : State) : (windowRestart s).elec.step = 3 ∧ (windowRestart s).elec.fw = false ∧
    (windowRestart s).upd.failCause = 1 := ⟨rfl, rfl, rfl⟩

/-- R461: an activation restarts the module for a trial of the slot that it was scheduled for. -/
theorem activateBoot_tries {s : State} (journal : (journalOf s).isSome = true) : updState (activateBoot s) = .trial ∧
    (activateBoot s).elec.step = 3 ∧ (activateBoot s).elec.fw = false ∧ (activateBoot s).elec.cause = 5 := by
  unfold activateBoot
  split
  · next none => rw [none] at journal; cases journal
  · exact ⟨updState_of_onTrial (onTrial_writeSel (writeJournal s _) _), rfl, rfl, rfl⟩

theorem leaveNow_of_activation {s : State} {k : Nat} (leaving : s.upd.leaving = some (k, true)) : leaveNow s = activateBoot s := by
  unfold leaveNow
  rw [leaving]

theorem leaveNow_of_window {s : State} {k : Nat} (leaving : s.upd.leaving = some (k, false)) : leaveNow s = windowRestart s := by
  unfold leaveNow
  rw [leaving]

/-- R461, R464: the release before the module leaves is requested, and what it leaves for is kept. -/
theorem releaseAndLeave_requests (s : State) (activation : Bool) :
    (releaseAndLeave s activation).upd.leaving = some (1, activation) ∧ (releaseAndLeave s activation).pair.req.isSome = true := by
  have kept (t : State) : (requestRelease t 6 []).upd = t.upd := whole_upd (m := 67141632) (by simp) (by decide) (by decide)
  exact ⟨congrArg UpdBlock.leaving (kept _), requestRelease_requested _ 6 []⟩

/-- R461: without a partner the strings open first; the restart follows once both are open. -/
theorem openAndLeave_leaves {s : State} (journal : (journalOf s).isSome = true) :
    (openAndLeave s true).upd.leaving = some (2, true) ∨
      ((openAndLeave s true).elec.step = 3 ∧ updState (openAndLeave s true) = .trial) := by
  generalize opened : beginOpen (beginOpen { s with upd := { s.upd with leaving := some (2, true), leaveUp := s.elec.uptime } } .zero [])
    .one [] = t
  have kept (t : State) (x : Ix) : (beginOpen t x []).upd = t.upd := whole_upd (m := 202256384) (by simp) (by decide) (by decide)
  have upd : t.upd = { s.upd with leaving := some (2, true), leaveUp := s.elec.uptime } := by rw [← opened, kept, kept]
  have leaving : t.upd.leaving = some (2, true) := congrArg UpdBlock.leaving upd
  have eq : openAndLeave s true = leaveIfOpen t := by rw [← opened]; rfl
  have leaves : leaveIfOpen t = if bothOpen t then leaveNow t else t := by
    unfold leaveIfOpen
    rw [leaving]
    rfl
  rw [eq, leaves]
  split
  · have here : (journalOf t).isSome = true := by
      unfold journalOf at journal ⊢
      rw [upd]
      exact journal
    obtain ⟨trial, step, -, -⟩ := activateBoot_tries here
    rw [leaveNow_of_activation leaving]
    exact .inr ⟨step, trial⟩
  · exact .inl leaving

/-! ### The commands -/

section Due

variable {s : State} (run : running s = true) (scheduled : updState s = .scheduled) (grid : s.grid.on = true)
  (due : (curJournal s).actCycle * 128 ≤ s.grid.now) (stays : s.upd.leaving = none)
include run scheduled grid due stays

theorem exec_activation : exec .activation s = .next (
    if !synced s then lapseSchedule s 1
    else if !isActive s then activateBoot s
    else if !s.pair.present then openAndLeave s true
    else if pairAgrees s (s.upd.ver.get (curJournal s).slot) && partnerFit s then releaseAndLeave s true
    else lapseSchedule s 2) := by
  show execActivation s = _
  unfold execActivation
  dsimp only
  rw [if_neg (by simp [run, scheduled, grid, due, stays])]

theorem activation_lapses (unsynced : synced s = false) : runs .activation s fun t => updState t = .verified ∧ t.upd.lapsed = true ∧
    newest t 243 = some (u8 3 ++ u48 (curJournal s).actCycle ++ u8 1) := by
  obtain ⟨j, journal, state⟩ := scheduled_journal scheduled
  have cur : curJournal s = j := by rw [curJournal, journal]; rfl
  have lapse : lapseSchedule s 1 = raise { writeJournal s { j with st := .verified } with
      upd := { (writeJournal s { j with st := .verified }).upd with lapsed := true } } 243 (u8 3 ++ u48 j.actCycle ++ u8 1) := by
    unfold lapseSchedule
    rw [journal]
    dsimp only
    rw [if_neg (by simp [state])]
  refine ⟨lapseSchedule s 1, by rw [exec_activation run scheduled grid due stays, unsynced]; rfl, ?_, ?_, ?_⟩
  · rw [lapse, updState_of_upd (raise_upd _ _ _)]
    exact updState_writeJournal (not_onTrial scheduled (by decide)) { j with st := .verified }
  · rw [lapse, raise_upd]
  · rw [lapse, raise_newest, cur]

variable (sync : synced s = true)
include sync

theorem activation_restarts (idle : isActive s = false) : runs .activation s fun t =>
    updState t = .trial ∧ t.elec.step = 3 ∧ t.elec.fw = false ∧ t.elec.cause = 5 := by
  obtain ⟨j, journal, -⟩ := scheduled_journal scheduled
  exact ⟨activateBoot s, by rw [exec_activation run scheduled grid due stays, sync, idle]; rfl, activateBoot_tries (by rw [journal]; rfl)⟩

variable (active : isActive s = true)
include active

theorem activation_releases (partner : s.pair.present = true) (agrees : pairAgrees s (s.upd.ver.get (curJournal s).slot) = true)
    (fit : partnerFit s = true) : runs .activation s fun t => t.upd.leaving = some (1, true) ∧ t.pair.req.isSome = true :=
  ⟨releaseAndLeave s true, by rw [exec_activation run scheduled grid due stays, sync, active, partner, agrees, fit]; rfl,
    releaseAndLeave_requests s true⟩

theorem activation_opens (alone : s.pair.present = false) : runs .activation s fun t =>
    t.upd.leaving = some (2, true) ∨ (t.elec.step = 3 ∧ updState t = .trial) := by
  obtain ⟨j, journal, -⟩ := scheduled_journal scheduled
  exact ⟨openAndLeave s true, by rw [exec_activation run scheduled grid due stays, sync, active, alone]; rfl,
    openAndLeave_leaves (by rw [journal]; rfl)⟩

end Due

section Window

variable {s : State} {w : Nat} (run : running s = true) (trial : updState s = .trial) (window : s.upd.window = some w)
  (past : w ≤ s.elec.uptime) (stays : s.upd.leaving = none)
include run trial window past stays

theorem exec_confirmWindowExpiry : exec .confirmWindowExpiry s = .next (
    if !isActive s then windowRestart s else if partnerFit s then releaseAndLeave s false else openAndLeave s false) := by
  show execConfirmWindowExpiry s = _
  unfold execConfirmWindowExpiry
  rw [if_neg (by simp [run, trial, window, past, stays])]

theorem confirmWindowExpiry_restarts (idle : isActive s = false) : runs .confirmWindowExpiry s fun t =>
    t.elec.step = 3 ∧ t.elec.fw = false ∧ t.upd.failCause = 1 :=
  ⟨windowRestart s, by rw [exec_confirmWindowExpiry run trial window past stays, idle]; rfl, windowRestart_restarts s⟩

theorem confirmWindowExpiry_releases (active : isActive s = true) (fit : partnerFit s = true) : runs .confirmWindowExpiry s fun t =>
    t.upd.leaving = some (1, false) ∧ t.pair.req.isSome = true :=
  ⟨releaseAndLeave s false, by rw [exec_confirmWindowExpiry run trial window past stays, active, fit]; rfl,
    releaseAndLeave_requests s false⟩

end Window

theorem activationOpenTimeout_leaves {s : State} {b : Bool} (run : running s = true) (leaving : s.upd.leaving = some (2, b))
    (past : passed s s.upd.leaveUp (sec 10) = true) : exec .activationOpenTimeout s = .next (leaveNow s) := by
  show execActivationOpenTimeout s = _
  unfold execActivationOpenTimeout
  rw [if_pos]
  rw [run, leaving, past]
  rfl

/-- Settles O31: each clause is the theorem of its command. -/
theorem activationCommandsTakeEffect : Obligations.ActivationCommandsTakeEffect := by
  unfold Obligations.ActivationCommandsTakeEffect
  refine ⟨?lapse, ?restart, ?release, ?opens, ?expiry, ?expiryRelease, ?timeout, ?timeoutTrial⟩
  case lapse => exact fun s run scheduled grid due stays unsynced => activation_lapses run scheduled grid due stays unsynced
  case restart => exact fun s run scheduled grid due stays sync idle => activation_restarts run scheduled grid due stays sync idle
  case release => exact fun s run scheduled grid due stays sync active partner agrees fit =>
    activation_releases run scheduled grid due stays sync active partner agrees fit
  case opens => exact fun s run scheduled grid due stays sync active alone =>
    activation_opens run scheduled grid due stays sync active alone
  case expiry => exact fun s w run trial window past stays idle => confirmWindowExpiry_restarts run trial window past stays idle
  case expiryRelease => exact fun s w run trial window past stays active fit =>
    confirmWindowExpiry_releases run trial window past stays active fit
  case timeout => exact fun s run leaving past =>
    ⟨windowRestart s, by rw [activationOpenTimeout_leaves run leaving past, leaveNow_of_window leaving], windowRestart_restarts s⟩
  case timeoutTrial =>
    intro s run leaving journal past
    obtain ⟨trial, step, -, -⟩ := activateBoot_tries journal
    exact ⟨activateBoot s, by rw [activationOpenTimeout_leaves run leaving past, leaveNow_of_activation leaving], trial, step⟩

end Sys2Proof.Proofs

/-! PROOFS. One theorem for each command of an update session, and O30 from these. -/

namespace Sys2Proof.Proofs

open Sys2Proof Sys2Proof.Machine Sys2Proof.Laws

/-! ### What the steps of a session leave -/

/-- The client that holds the lock finds it held by nobody else. -/
theorem otherHolder_of_holdsLock {s : State} {h : Hdr} (mine : holdsLock s h = true) : otherHolder s h = none := by
  unfold holdsLock at mine
  unfold otherHolder
  split
  · next p r t u held =>
    rw [held, Option.any_some, Bool.and_eq_true, beq_iff_eq, beq_iff_eq] at mine
    exact if_pos mine
  · rfl

theorem onTrial_of_upd {s t : State} (e : t.upd = s.upd) : onTrial t = onTrial s := by rw [onTrial, onTrial, selOf_of_upd e]

theorem sessionEvent_upd (s : State) (h : Hdr) (kind ty ver : Nat) : (sessionEvent s h kind ty ver).upd = s.upd := raise_upd s 240 _

theorem sessionEvent_ports (s : State) (h : Hdr) (kind ty ver : Nat) : ports (sessionEvent s h kind ty ver) = ports s :=
  raise_ports s 240 _

/-- A session that ends leaves the journal idle. -/
theorem endSession_idle {s : State} (trial : onTrial s = false) (h : Option Hdr) : updState (endSession s h) = .idle := by
  generalize cleared : setLock (writeJournal s idleJournal) none = v
  have idle : updState v = .idle := cleared ▸ updState_writeJournal trial idleJournal
  have spoiled (ty : Nat) (p : Ix) : updState (if ty = 1 then { v with upd := { v.upd with
      ver := v.upd.ver.set p 0, shipped := v.upd.shipped.set p false } } else v) = .idle := by
    split <;> exact idle
  unfold endSession
  dsimp only
  rw [cleared]
  split
  · exact (updState_of_upd (sessionEvent_upd ..)).trans (spoiled _ _)
  · exact (updState_of_upd (raise_upd ..)).trans (spoiled _ _)

/-- The lock, the journal and whether a slot is on trial. -/
def sessionOf (s : State) : Option (Ix × Nat × Nat × Nat) × Option Journal × Bool := (s.upd.lock, journalOf s, onTrial s)

/-- A new image gives up the fallback that lies in its slot (R456). -/
def loseFallback (s : State) (ty : Nat) : State :=
  if ty ≠ 1 then s else
    match selOf s with
    | some r => writeSel s { r with fallbackValid := false, fallbackVer := 0 }
    | none => s

/-- The target of a session is erased; an image slot holds no version then (R456). -/
def eraseTarget (s : State) (j : Journal) : State :=
  let s := setTarget s j []
  if j.imgType ≠ 1 then s else
    { s with upd := { s.upd with ver := s.upd.ver.set j.slot 0, shipped := s.upd.shipped.set j.slot false } }

/-- The journal of a session that begins. -/
def freshJournal (s : State) (ty len ver crc : Nat) : Journal :=
  { idleJournal with st := .receiving, imgType := ty, imageLen := len, version := ver, manifestCrc := crc, slot := targetSlot s }

theorem newSession_eq (s : State) (h : Hdr) (ty len ver crc : Nat) : newSession s h ty len ver crc =
    sessionEvent (eraseTarget (loseFallback (writeJournal s (freshJournal s ty len ver crc)) ty) (freshJournal s ty len ver crc)) h 1 ty ver :=
  rfl

theorem loseFallback_session (s : State) (ty : Nat) : sessionOf (loseFallback s ty) = sessionOf s := by
  unfold loseFallback
  split
  · rfl
  · split
    · next r selector =>
      have trial : onTrial s = r.trial := by rw [onTrial, selector]; rfl
      exact congrArg (fun b => (s.upd.lock, journalOf s, b)) ((onTrial_writeSel s _).trans trial.symm)
    · rfl

theorem eraseTarget_session (s : State) (j : Journal) : sessionOf (eraseTarget s j) = sessionOf s := by
  have target : sessionOf (setTarget s j []) = sessionOf s := by
    unfold setTarget
    split <;> rfl
  unfold eraseTarget
  dsimp only
  split
  · exact target
  · exact target

/-- Only the journal of the session is left of a session that begins: receiving, with no block (R456). -/
theorem newSession_session (s : State) (h : Hdr) (ty len ver crc : Nat) : ∃ n, sessionOf (newSession s h ty len ver crc) =
    (s.upd.lock, some { freshJournal s ty len ver crc with seq := n }, onTrial s) := by
  obtain ⟨n, written⟩ := journalOf_writeJournal s (freshJournal s ty len ver crc)
  have told (t : State) : sessionOf (sessionEvent t h 1 ty ver) = sessionOf t := by
    rw [sessionOf, sessionOf, journalOf_of_upd (sessionEvent_upd ..), onTrial_of_upd (sessionEvent_upd ..), sessionEvent_upd]
  refine ⟨n, ?_⟩
  rw [newSession_eq, told, eraseTarget_session, loseFallback_session, ← written]
  rfl

theorem programBlock_journal (s : State) (j : Journal) (off crc : Nat) (d : List Byte) : ∃ n, curJournal (programBlock s j off crc d) =
    { j with blocks := j.blocks ++ [off / 4096], crcs := j.crcs ++ [crc], seq := n } := by
  obtain ⟨n, written⟩ := curJournal_writeJournal (setTarget s j (Mem.writeAll 0xFF (targetMem s j) off d))
    { j with blocks := j.blocks ++ [off / 4096], crcs := j.crcs ++ [crc] }
  exact ⟨n, written⟩

/-- The target is told by the type and the slot that a journal record names. -/
theorem targetMem_of_names {s t : State} {j k : Journal} (image : t.upd.image = s.upd.image) (area : t.upd.modelArea = s.upd.modelArea)
    (ty : k.imgType = j.imgType) (slot : k.slot = j.slot) : targetMem t k = targetMem s j := by
  rw [targetMem, targetMem, image, area, ty, slot]

theorem targetMem_setTarget (s : State) (j : Journal) (m : Mem) : targetMem (setTarget s j m) j = m := by
  unfold targetMem setTarget
  split
  · exact two_get_set ..
  · rfl

/-- R458: the block stands in the target of the session. -/
theorem programBlock_target (s : State) (j : Journal) (off crc : Nat) (d : List Byte) {k : Journal} (ty : k.imgType = j.imgType)
    (slot : k.slot = j.slot) : targetMem (programBlock s j off crc d) k = Mem.writeAll 0xFF (targetMem s j) off d :=
  (targetMem_of_names (s := setTarget s j (Mem.writeAll 0xFF (targetMem s j) off d)) rfl rfl ty slot).trans (targetMem_setTarget ..)

/-- An image is verified by the manifest's rules and the keys in force, and from the bytes of its target alone. -/
theorem verifyImage_congr {s t : State} {j k : Journal} (ident : t.ident = s.ident) (par : t.par = s.par)
    (target : targetMem t k = targetMem s j) (ty : k.imgType = j.imgType) (len : k.imageLen = j.imageLen) :
    verifyImage t k = verifyImage s j := by
  have bytes : targetBytes t k = targetBytes s j := by
    funext off n
    rw [targetBytes, targetBytes, target]
  have manifest (b : List Byte) : manifestFault t b = manifestFault s b := by
    funext ty n
    simp only [manifestFault, parN_congr ident par, ident]
  rw [verifyImage, verifyImage, bytes, manifest, ty, len, parBytes, parBytes, parN_congr ident par, ident]

/-- R459: an image that passes moves the session to verified and ends the lock. -/
theorem verifyFirmware_passes {s : State} {j : Journal} (trial : onTrial s = false) (passes : verifyImage s j = (.ok, 0)) (h : Option Hdr) :
    ∃ t, verifyFirmware s j h = (.ok, 0, t) ∧ updState t = .verified ∧ t.upd.lock = none := by
  unfold verifyFirmware
  rw [passes]
  refine ⟨_, rfl, ?_, ?_⟩
  · rw [updState_of_upd (raise_upd ..)]
    exact updState_writeJournal trial { j with st := .verified, verifying := false }
  · rw [raise_upd]
    rfl

/-- A command whose answer stood before its work is done stands accepted, and ends with the result of the work. -/
theorem endLong_of_work {s u : State} {h : Hdr} {op : Nat} (st : Status) (dt : Nat) (resp : List Byte) (up : portUp s h.port = true)
    (only : alone s h = true) (work : hostRest u.host = hostRest (acceptLong s h op).2.host) :
    (∃ id, answered (endLong u (acceptLong s h op).1 st dt resp) h op .accepted 0 id []) ∧
      longEnded (endLong u (acceptLong s h op).1 st dt resp) h op st dt resp :=
  ⟨⟨_, answered_endLong _ _ _ _ (answered_of_ports (congrArg HostBlock.port work) (acceptLong_answered s h op up only))⟩, _,
    endLong_newest u _ _ ((longs_of_rest work).trans (acceptLong_longs s h op)) rfl st dt resp, rfl, rfl, rfl, rfl, rfl, rfl, rfl, rfl⟩

section Host

variable {s : State} {h : Hdr} (ready : loaderReady s h = true) (only : alone s h = true)
include ready only

theorem respondOk_answered_to_loader {t : State} (op : Nat) (payload : List Byte) (e : ports t = ports s) :
    answered (respondOk t h op payload) h op .ok 0 0 payload :=
  respondOk_answered t h op payload ((portUp_of_ports e h.port).trans (loaderReady_portUp ready)) ((alone_of_ports e h).trans only)

theorem updInfo_tells : runs (.updInfo h) s fun t => answered t h 0x0127 .ok 0 0 (infoBytes s) := by
  refine ⟨_, ?_, respondOk_answered_to_loader ready only 0x0127 (infoBytes s) rfl⟩
  show execUpdInfo h s = _
  unfold execUpdInfo
  rw [if_neg (by simp [ready])]

theorem updClose_releases (receiving : updState s = .receiving) (mine : holdsLock s h = true) : runs (.updClose h) s fun t =>
    answered t h 0x0126 .ok 0 0 [] ∧ t.upd.lock = none ∧ updState t = .receiving := by
  have free : otherHolder s h = none := otherHolder_of_holdsLock mine
  generalize done : sessionEvent (setLock s none) h 4 (curJournal s).imgType (curJournal s).version = v
  have upd : v.upd = (setLock s none).upd := done ▸ sessionEvent_upd ..
  have port : ports v = ports s := done ▸ sessionEvent_ports (setLock s none) h 4 _ _
  have outcome : exec (.updClose h) s = .next (respondOk v h 0x0126 []) := by
    show execUpdClose h s = _
    unfold execUpdClose
    rw [if_neg (by simp [ready]), free, ← done]
    dsimp only
    rw [if_neg (by simp [receiving, mine])]
  refine ⟨_, outcome, respondOk_answered_to_loader ready only 0x0126 [] port, ?_, ?_⟩
  · rw [respondOk_upd, upd]
    rfl
  · rw [updState_of_upd (respondOk_upd ..), updState_of_upd upd]
    exact receiving

theorem updSchedule_schedules {c : Nat} (verified : updState s = .verified) (sync : synced s = true)
    (lead : curCycle s + parN s 0x1006 ≤ c)
    (agrees : isActive s = true → pairAgrees s (s.upd.ver.get (curJournal s).slot) = true) : runs (.updSchedule h c) s fun t =>
      answered t h 0x0123 .ok 0 0 [] ∧ updState t = .scheduled ∧ (curJournal t).actCycle = c ∧
      newest t 243 = some (u8 1 ++ u48 c ++ u8 0) := by
  generalize written : writeJournal s { curJournal s with st := .scheduled, actCycle := c } = v
  have outcome : exec (.updSchedule h c) s = .next (respondOk (raise v 243 (u8 1 ++ u48 c ++ u8 0)) h 0x0123 []) := by
    have paired : ¬ (isActive s && !pairAgrees s (s.upd.ver.get (curJournal s).slot)) = true := by
      cases active : isActive s with
      | false => exact Bool.false_ne_true
      | true => rw [agrees active]; exact Bool.false_ne_true
    show execUpdSchedule h c s = _
    unfold execUpdSchedule
    rw [if_neg (by simp [ready])]
    dsimp only
    rw [if_neg (by simp [verified]), if_neg (by simp [sync]), if_neg (Nat.not_lt.mpr lead), if_neg paired, written]
  have upd : (respondOk (raise v 243 (u8 1 ++ u48 c ++ u8 0)) h 0x0123 []).upd = v.upd := by rw [respondOk_upd, raise_upd]
  have port : ports (raise v 243 (u8 1 ++ u48 c ++ u8 0)) = ports s := (raise_ports ..).trans (written ▸ rfl)
  obtain ⟨n, journal⟩ := curJournal_writeJournal s { curJournal s with st := .scheduled, actCycle := c }
  refine ⟨_, outcome, respondOk_answered_to_loader ready only 0x0123 [] port, ?_, ?_, ?_⟩
  · rw [updState_of_upd upd, ← written]
    exact updState_writeJournal (not_onTrial verified (by decide)) _
  · rw [curJournal_of_upd upd, ← written, journal]
  · rw [newest_of_ev (respondOk_ev ..), raise_newest]

theorem updConfirm_confirms {r : SelRec} (selector : selOf s = some r) (trial : r.trial = true) (served : s.upd.step8 = true) :
    runs (.updConfirm h r.activeVer) s fun t => answered t h 0x0125 .ok 0 0 [] ∧ updState t = .idle ∧ t.upd.window = none ∧
      newest t 245 = some (u64 r.activeVer ++ ux h.port ++ u8 h.ring) := by
  generalize written : writeJournal (writeSel s { r with trial := false, boots := 0, actCycle := 0 }) idleJournal = v
  generalize confirmed : ({ v with upd := { v.upd with
    window := none, leaving := if s.upd.leaving.any (fun l => !l.2) then none else s.upd.leaving, failCause := 0 } } : State) = w
  have outcome : exec (.updConfirm h r.activeVer) s =
      .next (respondOk (raise w 245 (u64 r.activeVer ++ ux h.port ++ u8 h.ring)) h 0x0125 []) := by
    show execUpdConfirm h r.activeVer s = _
    unfold execUpdConfirm
    rw [if_neg (by simp [ready]), selector]
    dsimp only
    rw [if_neg (by simp [trial]), if_neg (by simp), if_neg (by simp [served]), ← confirmed, ← written]
    rfl
  have upd : (respondOk (raise w 245 (u64 r.activeVer ++ ux h.port ++ u8 h.ring)) h 0x0125 []).upd = w.upd := by
    rw [respondOk_upd, raise_upd]
  have port : ports (raise w 245 (u64 r.activeVer ++ ux h.port ++ u8 h.ring)) = ports s := (raise_ports ..).trans (confirmed ▸ written ▸ rfl)
  refine ⟨_, outcome, respondOk_answered_to_loader ready only 0x0125 [] port, ?_, ?_, ?_⟩
  · rw [updState_of_upd upd, ← confirmed]
    show updState v = _
    rw [← written]
    exact updState_writeJournal (onTrial_writeSel s _) idleJournal
  · rw [upd, ← confirmed]
  · rw [newest_of_ev (respondOk_ev ..), raise_newest]

section Lock

variable (free : otherHolder s h = none)
include free

theorem updCancel_receiving {b : Bool} (receiving : updState s = .receiving) : runs (.updCancel h b) s fun t =>
    answered t h 0x0124 .ok 0 0 [] ∧ updState t = .idle := by
  have outcome : exec (.updCancel h b) s = .next (respondOk (endSession s (some h)) h 0x0124 []) := by
    show execUpdCancel h b s = _
    unfold execUpdCancel
    rw [if_neg (by simp [ready]), free]
    dsimp only
    rw [receiving]
  have port : ports (endSession s (some h)) = ports s := ports_of_view (m := 210370560) (by simp) (by decide)
  refine ⟨_, outcome, respondOk_answered_to_loader ready only 0x0124 [] port, ?_⟩
  rw [updState_of_upd (respondOk_upd ..)]
  exact endSession_idle (not_onTrial receiving (by decide)) (some h)

theorem updCancel_verified {b : Bool} (verified : updState s = .verified) : runs (.updCancel h b) s fun t =>
    answered t h 0x0124 .ok 0 0 [] ∧ updState t = .idle := by
  generalize written : writeJournal s idleJournal = v
  have outcome : exec (.updCancel h b) s =
      .next (respondOk (sessionEvent v h 5 (curJournal s).imgType (curJournal s).version) h 0x0124 []) := by
    show execUpdCancel h b s = _
    unfold execUpdCancel
    rw [if_neg (by simp [ready]), free]
    dsimp only
    rw [verified, written]
  have port := (sessionEvent_ports v h 5 (curJournal s).imgType (curJournal s).version).trans (show ports v = ports s from written ▸ rfl)
  refine ⟨_, outcome, respondOk_answered_to_loader ready only 0x0124 [] port, ?_⟩
  rw [updState_of_upd (respondOk_upd ..), updState_of_upd (sessionEvent_upd ..), ← written]
  exact updState_writeJournal (not_onTrial verified (by decide)) idleJournal

theorem updCancel_scheduled {b : Bool} (scheduled : updState s = .scheduled)
    (before : s.grid.on = false ∨ s.grid.now < (curJournal s).actCycle * 128) : runs (.updCancel h b) s fun t =>
      answered t h 0x0124 .ok 0 0 [] ∧ updState t = (if b then .idle else .verified) := by
  generalize kept : (if b then idleJournal else { curJournal s with st := .verified, actCycle := 0 }) = j
  generalize written : writeJournal s j = v
  have early : ¬ (s.grid.on && decide ((curJournal s).actCycle * 128 ≤ s.grid.now)) = true := by
    rw [Bool.and_eq_true, decide_eq_true_eq]
    rintro ⟨on, reached⟩
    obtain off | ahead := before
    · exact Bool.false_ne_true (off.symm.trans on)
    · omega
  have outcome : exec (.updCancel h b) s =
      .next (respondOk (raise v 243 (u8 2 ++ u48 (curJournal s).actCycle ++ u8 0)) h 0x0124 []) := by
    show execUpdCancel h b s = _
    unfold execUpdCancel
    rw [if_neg (by simp [ready]), free]
    dsimp only
    rw [scheduled]
    dsimp only
    rw [if_neg early, kept, written]
  have port := (raise_ports v 243 (u8 2 ++ u48 (curJournal s).actCycle ++ u8 0)).trans (show ports v = ports s from written ▸ rfl)
  refine ⟨_, outcome, respondOk_answered_to_loader ready only 0x0124 [] port, ?_⟩
  rw [updState_of_upd (respondOk_upd ..), updState_of_upd (raise_upd ..), ← written,
    updState_writeJournal (not_onTrial scheduled (by decide)), ← kept]
  cases b <;> rfl

theorem updOpen_opens {ty len ver crc : Nat} {brk : Bool} (idle : updState s = .idle) (known : ty = 1 ∨ ty = 2) :
    runs (.updOpen h ty brk len ver crc) s fun t => (∃ id, answered t h 0x0120 .accepted 0 id []) ∧
      longEnded t h 0x0120 .ok 0 (openResult (curJournal t)) ∧ updState t = .receiving ∧ (curJournal t).imageLen = len ∧
      (curJournal t).version = ver ∧ (curJournal t).blocks = [] ∧ t.upd.lock = some (h.port, h.ring, h.tag, s.elec.uptime) := by
  have sound : ¬ (ty = 0 ∨ 2 < ty) := by omega
  generalize accepted : (acceptLong s h 0x0120).2 = a
  generalize broke : (if brk && lockIdle s then sessionEvent a h 3 (curJournal s).imgType (curJournal s).version else a) = b
  generalize locked : setLock (applyBound b .session) (some (h.port, h.ring, h.tag, b.elec.uptime)) = c
  generalize opened : newSession c h ty len ver crc = d
  have outcome : exec (.updOpen h ty brk len ver crc) s =
      .next (endLong d (acceptLong s h 0x0120).1 .ok 0 (openResult (curJournal d))) := by
    have nobody : (if brk && lockIdle s then none else otherHolder s h) = none := by rw [free]; exact ite_self none
    show execUpdOpen h ty brk len ver crc s = _
    unfold execUpdOpen
    rw [if_neg (by simp [ready])]
    dsimp only
    rw [nobody]
    dsimp only
    rw [idle, if_neg (by simp), if_neg sound, ← opened, ← locked, ← broke, ← accepted]
    rfl
  have broken : hostRest b.host = hostRest a.host := by
    rw [← broke]
    split
    · exact raise_hostRest ..
    · rfl
  have begun : hostRest d.host = hostRest c.host := by
    rw [← opened]
    exact same_host (m := 227147776) (by simp) (by decide)
  have taken : hostRest c.host = hostRest b.host := locked ▸ rfl
  have rest : hostRest d.host = hostRest a.host := begun.trans (taken.trans broken)
  have uptime : b.elec.uptime = s.elec.uptime := by
    rw [← broke, ← accepted]
    split
    · rw [sessionEvent, raise_elec, acceptLong_elec]
    · rw [acceptLong_elec]
  have updB : b.upd = s.upd := by
    rw [← broke, ← accepted]
    split
    · rw [sessionEvent_upd, acceptLong_upd]
    · rw [acceptLong_upd]
  have updC : c.upd = { s.upd with lock := some (h.port, h.ring, h.tag, s.elec.uptime) } := by
    rw [← locked, ← updB, ← uptime]
    rfl
  have trial : onTrial c = false := by
    have selector : selOf c = selOf s := by
      rw [selOf, updC]
      rfl
    rw [onTrial, selector]
    exact not_onTrial idle (by decide)
  obtain ⟨n, session⟩ := newSession_session c h ty len ver crc
  rw [opened, trial, updC] at session
  have journal : curJournal d = { freshJournal c ty len ver crc with seq := n } :=
    congrArg (·.getD idleJournal) (congrArg (·.2.1) session :)
  obtain ⟨answer, ended⟩ := endLong_of_work .ok 0 (openResult (curJournal d)) (loaderReady_portUp ready) only (accepted ▸ rest)
  refine ⟨_, outcome, answer, ended, ?_, ?_, ?_, ?_, (congrArg (·.1) session :)⟩
  · show updState d = _
    rw [updState_of_not_onTrial (congrArg (·.2.2) session :), journal]
    rfl
  · exact congrArg Journal.imageLen journal
  · exact congrArg Journal.version journal
  · exact congrArg Journal.blocks journal

theorem updBlock_programs {off a crc : Nat} {d : List Byte} (receiving : updState s = .receiving) (mine : holdsLock s h = true)
    (quiet : s.par.persisting = false) (aligned : off % 4096 = 0) (inside : off < (curJournal s).imageLen)
    (fits : off < targetLen (curJournal s).imgType) (whole : d.length = 4096) (sum : crc32c d = crc)
    (fresh : markedCrc (curJournal s) (off / 4096) = none)
    (header : off = 0 → blockFault s d (curJournal s).imgType (curJournal s).imageLen = none)
    (wf : (targetMem s (curJournal s)).wf 0xFF = true) : runs (.updBlock h off a crc d) s fun t =>
      answered t h 0x0121 .ok 0 0 [] ∧ (curJournal t).blocks = (curJournal s).blocks ++ [off / 4096] ∧
      targetBytes t (curJournal t) off 4096 = d := by
  generalize touched : touchLock s h = u
  have journal : curJournal u = curJournal s := touched ▸ rfl
  have idle : u.par.persisting = false := touched ▸ quiet
  have fault : blockFault u = blockFault s := touched ▸ rfl
  have target : targetMem u (curJournal s) = targetMem s (curJournal s) := touched ▸ rfl
  generalize programmed : programBlock u (curJournal s) off crc d = v
  have outcome : exec (.updBlock h off a crc d) s = .next (respondOk v h 0x0121 []) := by
    have place : ¬ (off % 4096 ≠ 0 ∨ (curJournal s).imageLen ≤ off ∨ targetLen (curJournal s).imgType ≤ off) := by omega
    have sound : (if off = 0 then blockFault s d (curJournal s).imgType (curJournal s).imageLen else none) = none := by
      split
      · next first => exact header first
      · rfl
    show execUpdBlock h off a crc d s = _
    unfold execUpdBlock
    rw [if_neg (by simp [ready]), free]
    dsimp only
    rw [if_neg (by simp [receiving, mine]), touched, journal, idle, if_neg Bool.false_ne_true, if_neg place,
      if_neg (by simp [whole, sum]), fresh]
    dsimp only
    rw [fault, sound, ← programmed]
  have port : ports v = ports s := by
    rw [← programmed, ← touched]
    exact ports_of_view (m := 25165824) (by simp) (by decide)
  obtain ⟨n, cur⟩ := programBlock_journal u (curJournal s) off crc d
  rw [programmed] at cur
  refine ⟨_, outcome, respondOk_answered_to_loader ready only 0x0121 [] port, ?_, ?_⟩
  · rw [curJournal_of_upd (respondOk_upd ..), cur]
  · have bytes : targetMem v (curJournal v) = Mem.writeAll 0xFF (targetMem s (curJournal s)) off d := by
      rw [cur, ← target, ← programmed]
      exact programBlock_target u (curJournal s) off crc d rfl rfl
    have held : targetMem (respondOk v h 0x0121 []) = targetMem v := by
      funext j
      rw [targetMem, targetMem, respondOk_upd]
    rw [curJournal_of_upd (respondOk_upd ..), targetBytes, held, bytes, ← whole]
    exact readAll_writeAll off d wf

theorem updVerify_verifies (receiving : updState s = .receiving) (mine : holdsLock s h = true)
    (complete : missingBlocks (curJournal s) = 0) : runs (.updVerify h) s fun t => (∃ id, answered t h 0x0122 .accepted 0 id []) ∧
      ((curJournal s).imgType = 1 → verifyImage s (curJournal s) = (.ok, 0) →
        longEnded t h 0x0122 .ok 0 [] ∧ updState t = .verified ∧ t.upd.lock = none) := by
  generalize touched : touchLock s h = u
  have journal : curJournal u = curJournal s := touched ▸ rfl
  have port : ports u = ports s := touched ▸ rfl
  have up : portUp u h.port = true := (portUp_of_ports port h.port).trans (loaderReady_portUp ready)
  have single : alone u h = true := (alone_of_ports port h).trans only
  generalize begun : writeJournal (acceptLong u h 0x0122).2 { curJournal s with verifying := true } = v
  have outcome : exec (.updVerify h) s = .next (endLong (verifySession v (some h)).2.2 (acceptLong u h 0x0122).1
      (verifySession v (some h)).1 (verifySession v (some h)).2.1 []) := by
    show execUpdVerify h s = _
    unfold execUpdVerify
    rw [if_neg (by simp [ready]), free]
    dsimp only
    rw [if_neg (by simp [receiving, mine]), touched, journal, if_neg (by simp [complete]), ← begun]
  have work : hostRest (verifySession v (some h)).2.2.host = hostRest (acceptLong u h 0x0122).2.host := by
    rw [← begun]
    exact same_host (m := 210370688) (by simp) (by decide)
  obtain ⟨answer, ended⟩ := endLong_of_work (verifySession v (some h)).1 (verifySession v (some h)).2.1 [] up single work
  refine ⟨_, outcome, answer, fun image passes => ?_⟩
  obtain ⟨n, cur⟩ := curJournal_writeJournal (acceptLong u h 0x0122).2 { curJournal s with verifying := true }
  rw [begun] at cur
  have trial : onTrial v = false := by
    have selector : selOf v = selOf s := by
      rw [← begun, ← touched]
      exact selOf_of_upd (t := (acceptLong (touchLock s h) h 0x0122).2) (s := touchLock s h) (acceptLong_upd ..)
    rw [onTrial, selector]
    exact not_onTrial receiving (by decide)
  have verdict : verifyImage v (curJournal v) = (.ok, 0) := by
    rw [← passes, cur]
    refine verifyImage_congr ?_ ?_ ?_ rfl rfl
    · rw [← begun, ← touched]; exact acceptLong_ident ..
    · rw [← begun, ← touched]; exact acceptLong_par ..
    · have upd : (acceptLong u h 0x0122).2.upd = u.upd := acceptLong_upd ..
      refine targetMem_of_names ?_ ?_ rfl rfl
      · rw [← begun]; exact (congrArg UpdBlock.image upd).trans (touched ▸ rfl)
      · rw [← begun]; exact (congrArg UpdBlock.modelArea upd).trans (touched ▸ rfl)
  obtain ⟨t, verified, state, lock⟩ := verifyFirmware_passes trial verdict (some h)
  have session : verifySession v (some h) = (.ok, 0, t) := by
    rw [← verified, verifySession]
    exact if_pos (by rw [cur]; exact image)
  rw [session] at ended ⊢
  exact ⟨ended, state, lock⟩

end Lock

end Host

/-- Settles O30: each clause is the theorem of its command. -/
theorem updateCommandsTakeEffect : Obligations.UpdateCommandsTakeEffect := by
  unfold Obligations.UpdateCommandsTakeEffect
  refine ⟨?opens, ?block, ?verify, ?schedule, ?cancel, ?unschedule, ?confirm, ?close, ?info⟩
  case opens => exact fun s h ty brk len ver crc ready only free idle known => updOpen_opens ready only free idle known
  case block => exact fun s h off a crc d ready only free receiving mine quiet aligned inside fits whole sum fresh header wf =>
    updBlock_programs ready only free receiving mine quiet aligned inside fits whole sum fresh header wf
  case verify => exact fun s h ready only free receiving mine complete => updVerify_verifies ready only free receiving mine complete
  case schedule => exact fun s h c ready only verified sync lead agrees =>
    updSchedule_schedules ready only verified sync lead agrees
  case cancel =>
    rintro s h b ready only free (receiving | verified)
    · exact updCancel_receiving ready only free receiving
    · exact updCancel_verified ready only free verified
  case unschedule => exact fun s h b ready only free scheduled before => updCancel_scheduled ready only free scheduled before
  case confirm => exact fun s h r ready only selector trial served => updConfirm_confirms ready only selector trial served
  case close => exact fun s h ready only receiving mine => updClose_releases ready only receiving mine
  case info => exact fun s h ready only => updInfo_tells ready only

end Sys2Proof.Proofs

/-! PROOFS. One theorem for each step of the power-up order, and O3 from these. -/

namespace Sys2Proof.Proofs

open Sys2Proof Sys2Proof.Machine Sys2Proof.Laws

/-! ### The image starts -/

/-- The firmware takes over from the boot loader (R47 step 6). -/
def beginImage (s : State) (r : SelRec) : State :=
  let s := if r.failBoots = 0 then s else writeSel s { r with failBoots := 0 }
  { s with
    elec := { s.elec with fw := true, loader := false, imageSlot := r.slot, step := 6, selfTestOk := true },
    outr := { s.outr with seenOwned := partnerOwns s }, upd := { s.upd with running := r.activeVer } }

/-- What the firmware sets up before its first step (R445). -/
def prepareImage (s : State) (r : SelRec) : State :=
  let s := loadSettings (convertSettings s { r with failBoots := 0 }) r.slot
  let s := loadThresholds (loadCal (loadModel s))
  let s := { s with hold := { s.hold with pSet := parF s 0x0A1A, qSet := parF s 0x0A1B } }
  let s := canBegin (canBegin s .zero) .one
  let s := if r.trial then { s with upd := { s.upd with window := some (s.elec.uptime + sec (60 * parN s 0x1001)) } } else s
  missedWhileDown (verifyAgain (takeHoldBits (mirrorLoop (mirrorLoop s .zero) .one)))

theorem startImage_eq (s : State) (r : SelRec) : startImage s r = prepareImage (beginImage s r) r := by
  unfold startImage prepareImage beginImage
  rfl

@[simp] theorem prepareImage_view (m : Nat) (s r) (h : m &&& 216756448 = 216756448) : view m (prepareImage s r) = view m s :=
  view_up h (by unfold prepareImage; simp)

theorem startImage_elec (s : State) (r : SelRec) : (startImage s r).elec = (beginImage s r).elec := by
  rw [startImage_eq]
  exact same_elec (m := 216756448) (by simp) (by decide)

/-- R451: a confirmed image whose signature and self-test hold starts. -/
theorem firmwareBoot_starts {s : State} {r : SelRec} (clocks : clocked s = true) (fw : s.elec.fw = false) (free : s.elec.isolation = 0)
    (step : s.elec.step = 4 ∨ s.elec.step = 5) (selector : selOf s = some r) (confirmed : r.trial = false)
    (signed : slotSigned s r = true) : runs (.firmwareBoot true) s fun t =>
      t.elec.fw = true ∧ t.elec.loader = false ∧ t.elec.step = 6 ∧ t.elec.imageSlot = r.slot := by
  have outcome : exec (.firmwareBoot true) s = .next (startImage s r) := by
    have due : (s.elec.step == 4 || s.elec.step == 5) = true := by simpa using step
    show execFirmwareBoot true s = _
    unfold execFirmwareBoot
    rw [if_neg (by simp [clocks, fw, free, due]), selector]
    dsimp only
    rw [if_pos (by simp [confirmed]), bootImage, if_neg (by simp [signed]), if_neg (by simp)]
  have begun : (beginImage s r).elec.fw = true ∧ (beginImage s r).elec.loader = false ∧ (beginImage s r).elec.step = 6 ∧
      (beginImage s r).elec.imageSlot = r.slot := ⟨rfl, rfl, rfl, rfl⟩
  rw [← startImage_elec] at begun
  exact ⟨_, outcome, begun⟩

/-! ### The ledger scan -/

/-- The records of the ledger that the scan finds valid. -/
def foundRecs (s : State) : List LedRec := s.ev.slots.filterMap fun p => if p.2.valid then some p.2 else none

/-- The highest SEQ of a list of records. -/
def newestSeq (l : List LedRec) : Option Nat := l.foldl (fun (m : Option Nat) r => some (max (m.getD 0) r.seq)) none

/-- The SEQ that the ledger goes on with after a scan (R424). -/
def nextAfterScan (s : State) : Nat :=
  match newestSeq (foundRecs s) with
  | some n => n + 1
  | none => 0

/-- The ledger's registers as the scan finds them, before anything is written. -/
def scanLedger (s : State) : State :=
  let bad := s.ev.floorMram.2 != complement 8 s.ev.floorMram.1
  { s with
    ev := { s.ev with next := nextAfterScan s, floor := if bad then 0 else s.ev.floorMram.1, floorReset := bad, ready := true,
                      early := [], aborted := [] },
    grid := { s.grid with foundCycle := (foundRecs s).foldl (fun m r => max m r.occ.at_.cycle) s.grid.foundCycle },
    elec := { s.elec with scanned := true } }

/-- EV 253 and what waited for the scan (R421, R402). -/
def writeWaiting (s : State) (early : List Occ) (aborted : List (Nat × Nat × Nat × Nat × Nat)) : State :=
  let s := raise s 253 (u8 s.elec.cause ++ ux s.elec.imageSlot ++ u64 s.upd.running ++ u8 s.ident.variant ++ u8 (bit s.elec.slotB) ++
    u64 ((newestSeq (foundRecs s)).getD 0))
  let s := (early.filter (·.deferred)).foldl writeEarly s
  let s := aborted.foldl writeAborted s
  (early.filter fun o => !o.deferred).foldl writeEarly s

theorem writeWaiting_view (m : Nat) (s early aborted) (h : m &&& 201981952 = 201981952) :
    view m (writeWaiting s early aborted) = view m s := view_up h (by
  unfold writeWaiting
  rw [view_foldl _ _ (by simp), view_foldl _ _ (by simp), view_foldl _ _ (by simp), raise_view _ _ _ _ (by decide)])

theorem ledgerScan_outcome {s : State} (run : running s = true) (fresh : s.elec.scanned = false) :
    exec .ledgerScan s = .next (writeWaiting (scanLedger s) s.ev.early s.ev.aborted) := by
  show execLedgerScan s = _
  unfold execLedgerScan
  rw [if_neg (by simp [run, fresh])]
  rfl

/-- No record of a list lies above the highest SEQ found. -/
theorem seq_le_newestSeq {l : List LedRec} {r : LedRec} (mem : r ∈ l) : ∃ n, newestSeq l = some n ∧ r.seq ≤ n := by
  induction l using List.reverseRecOn with
  | nil => cases mem
  | append_singleton l x ih =>
    have found : newestSeq (l ++ [x]) = some (max ((newestSeq l).getD 0) x.seq) := by rw [newestSeq, List.foldl_append]; rfl
    refine ⟨_, found, ?_⟩
    obtain earlier | last := List.mem_append.mp mem
    · obtain ⟨n, newest, le⟩ := ih earlier
      rw [newest]
      exact le.trans (Nat.le_max_left n x.seq)
    · rw [List.mem_singleton.mp last]
      exact Nat.le_max_right _ _

theorem seq_lt_nextAfterScan {s : State} {p : Nat × LedRec} (mem : p ∈ s.ev.slots) (valid : p.2.valid = true) :
    p.2.seq < nextAfterScan s := by
  obtain ⟨n, newest, le⟩ := seq_le_newestSeq (l := foundRecs s) (List.mem_filterMap.mpr ⟨p, mem, if_pos valid⟩)
  rw [nextAfterScan, newest]
  exact Nat.lt_succ_of_le le

theorem ledgerScan_scans {s : State} (run : running s = true) (fresh : s.elec.scanned = false) : runs .ledgerScan s fun t =>
    t.elec.scanned = true ∧ t.ev.slots = s.ev.slots ∧ (∀ p ∈ s.ev.slots, p.2.valid = true → p.2.seq < t.ev.next) := by
  have kept := writeWaiting_view 201981952 (scanLedger s) s.ev.early s.ev.aborted (by decide)
  have elec := same_elec kept (by decide)
  have records := same_records kept (by decide)
  refine ⟨_, ledgerScan_outcome run fresh, congrArg ElecState.scanned elec, congrArg Prod.fst records, fun p mem valid => ?_⟩
  have next : (writeWaiting (scanLedger s) s.ev.early s.ev.aborted).ev.next = nextAfterScan s := congrArg Prod.snd records
  rw [next]
  exact seq_lt_nextAfterScan mem valid

/-! ### Arbitration -/

theorem assertTakeover_role (s : State) (retake : Bool) : (assertTakeover s retake).pair.role = s.pair.role := by
  unfold assertTakeover
  rw [beginHold_pair]

theorem takeFreeLine_role (s : State) : (takeFreeLine s).pair.role = s.pair.role := by
  unfold takeFreeLine
  split
  · exact assertTakeover_role s false
  · rfl

/-- A line that does not read free is not taken. -/
theorem takeFreeLine_of_held {s : State} (held : s.outr.line ≠ .free) : takeFreeLine s = s := by
  unfold takeFreeLine
  rw [if_neg (by simp [held])]

theorem ownershipArbitration_arbitrates {s : State} (run : running s = true) (step : s.elec.step = 6) (idle : s.pair.arbitrating = false)
    (role : s.pair.role ≠ .isolated) (fresh : ¬ (s.outr.owner = true ∧ s.outr.hold = .restart))
    (agrees : s.pair.peer = none ∨ s.pair.variantMatch = true) : runs .ownershipArbitration s fun t => t.pair.role = s.pair.role ∧
      (s.outr.seenOwned = false → partnerOwns s = false → s.outr.hbGood = true → s.outr.line = .free →
        t.outr.asserting = true ∧ t.pair.arbitrating = true) ∧
      (s.outr.line ≠ .free → t.elec.step = 7 ∧ t.outr = s.outr) := by
  have outcome : exec .ownershipArbitration s = .next (
      if s.outr.seenOwned || partnerOwns s || !s.outr.hbGood || s.outr.line != .free then
        takeFreeLine { s with elec := { s.elec with step := 7 } }
      else { s with outr := { s.outr with asserting := true }, pair := { s.pair with arbitrating := true } }) := by
    have alike : ¬ (s.pair.peer.isSome && !s.pair.variantMatch) = true := by
      obtain none | same := agrees
      · simp [none]
      · simp [same]
    have unheld : ¬ (s.outr.owner && s.outr.hold == .restart) = true := by simpa using fresh
    show execOwnershipArbitration s = _
    unfold execOwnershipArbitration
    rw [if_neg (by simp [run, step, idle])]
    dsimp only
    rw [if_neg role, if_neg alike, if_neg unheld]
  refine ⟨_, outcome, ?_, fun seen owns good free => ?_, fun held => ?_⟩
  · split
    · exact takeFreeLine_role _
    · rfl
  · rw [if_neg (by simp [seen, owns, good, free])]
    exact ⟨rfl, rfl⟩
  · rw [if_pos (by simp [held]), takeFreeLine_of_held (by exact held)]
    exact ⟨rfl, rfl⟩

theorem dualActiveResolved_stepsDown {s : State} (run : running s = true) (active : isActive s = true) (free : s.outr.owner = false) :
    runs .dualActiveResolved s fun t => t.pair.role = .standby ∧ newest t 42 = some [] := by
  refine ⟨raise (giveUp s .standby) 42 [], ?_, ?_, raise_newest ..⟩
  · show execDualActiveResolved s = _
    simp [execDualActiveResolved, run, active, free]
  · rw [raise_pair, giveUp_role]

/-! ### Enumeration -/

/-- The standby takes the owner's delays (R49). -/
def takeHop (s : State) : State :=
  match s.pair.hop with
  | none => s
  | some (d0, d1, depth, sel, _) =>
    { s with grid := { s.grid with
        depth := depth, sel := Ix.ofNum sel,
        u0 := { s.grid.u0 with d := d0, dGoal := d0 }, u1 := { s.grid.u1 with d := d1, dGoal := d1 } } }

/-- The owner measures its ports and selects one (R74, R78, R86). -/
def measurePorts (s : State) (e0 e1 : Option EchoRun) : State :=
  let s := enumPort (enumPort s .u0 e0) .u1 e1
  let s := if !s.grid.on && !s.grid.u0.linkUp && s.grid.u1.linkUp then { s with grid := { s.grid with sel := .one } } else s
  let t := stream s (upOf s.grid.sel)
  let s := { s with grid := { s.grid with depth := if s.grid.head || !t.linkUp then 0 else t.upDepth + 1 } }
  let short := (s.grid.u0.linkUp && advanceShort s s.grid.u0.d) || (s.grid.u1.linkUp && advanceShort s s.grid.u1.d)
  let s := raiseIf { s with grid := { s.grid with advShort := short } } (short && !s.grid.advShort) 15 []
  if s.grid.u1.linkUp && !s.grid.u1Loop then
    emit { s with grid := { s.grid with traceAt := some s.elec.uptime } }
      (.ryran false .one 0x06 (beBytes 2 (treePosition s) ++ beBytes 2 0))
  else s

/-- A rank 1 position without a stream becomes angle source; the delays are told (R67, R273). -/
def leadOrFollow (s : State) (first : Bool) : State :=
  let s := if first && ownRank s = 1 && !s.grid.head && !s.grid.u0.accepted && !s.grid.u1.accepted then becomeHead s 1 else s
  sendHopComp (if s.grid.head then budgetCheck s s.grid.dMax else s)

theorem takeHop_elec (s : State) : (takeHop s).elec = s.elec := by
  unfold takeHop
  split <;> rfl

theorem measurePorts_elec (s : State) (e0 e1 : Option EchoRun) : (measurePorts s e0 e1).elec = s.elec := by
  have measured (t : State) (p : UpPort) (e : Option EchoRun) : (enumPort t p e).elec = t.elec :=
    same_elec (m := 67108880) (by simp) (by decide)
  have told (t : State) (c : Bool) (e : Nat) (d : List Byte) : (raiseIf t c e d).elec = t.elec :=
    same_elec (m := 201981952) (by simp) (by decide)
  unfold measurePorts
  simp only [apply_ite State.elec, emit_elec, told, measured, ite_self]

theorem leadOrFollow_step (s : State) (first : Bool) : (leadOrFollow s first).elec.step = s.elec.step := by
  have told (t : State) : (sendHopComp t).elec = t.elec := same_elec (m := 67108864) (by simp) (by decide)
  have budget (t : State) (d : Nat) : (budgetCheck t d).elec = t.elec := same_elec (m := 201986064) (by simp) (by decide)
  unfold leadOrFollow
  simp only [told, apply_ite State.elec, budget, ite_self, apply_ite ElecState.step, becomeHead_step]

theorem ryranEnumeration_ends {s : State} (run : running s = true) (step : s.elec.step = 7) (e0 e1 : Option EchoRun) :
    runs (.ryranEnumeration e0 e1) s fun t => t.elec.step = 8 := by
  generalize begun : ({ s with elec := { s.elec with step := 8 } } : State) = v
  have eight : v.elec.step = 8 := begun ▸ rfl
  have outcome : exec (.ryranEnumeration e0 e1) s =
      .next (if !drives v then takeHop v else leadOrFollow (measurePorts v e0 e1) true) := by
    show execRyranEnumeration e0 e1 s = _
    unfold execRyranEnumeration
    rw [if_neg (by simp [run, step]), step, ← begun]
    rfl
  refine ⟨_, outcome, ?_⟩
  split
  · rw [takeHop_elec, eight]
  · rw [leadOrFollow_step, measurePorts_elec, eight]

theorem caravanEnumeration_ends {s : State} (run : running s = true) (step : s.elec.step = 8) (f0 f1 : RingFind) :
    runs (.caravanEnumeration f0 f1) s fun t => t.elec.step = 9 ∧ t.pair.stepsDone = true := by
  generalize enumerated : (if drives s then enumerate (enumerate s .zero f0) .one f1 else s) = v
  refine ⟨{ v with elec := { v.elec with step := 9 }, upd := { v.upd with step8 := true }, pair := { v.pair with stepsDone := true } },
    ?_, rfl, rfl⟩
  show execCaravanEnumeration f0 f1 s = _
  unfold execCaravanEnumeration
  rw [if_neg (by simp [run, step]), ← enumerated]

/-! ### Records and dispatch -/

theorem stateRecordRestoreTimeout_proceeds {s : State} (run : running s = true) (step : s.elec.step = 9) :
    runs .stateRecordRestoreTimeout s fun t => t.elec.step = 10 ∧ (isActive s = true → t.est.began = true) := by
  refine ⟨{ s with elec := { s.elec with step := 10 }, est := { s.est with began := s.est.began || isActive s } }, ?_, rfl, fun active => ?_⟩
  · show execStateRecordRestoreTimeout s = _
    simp [execStateRecordRestoreTimeout, run, step]
  · show (s.est.began || isActive s) = true
    rw [active, Bool.or_true]

theorem joinDispatch_joins {s : State} (drive : drives s = true) (step : s.elec.step = 10 ∨ s.elec.step = 11) (boundary : atBoundary s = true)
    (sync : s.grid.sync = true) (permits : s.grid.holdFrom.any (fun c => decide (c ≤ curCycle s)) = true) :
    runs .joinDispatch s fun t => t.elec.step = 12 := by
  have kept (t : State) : (rejoinHold t).elec = t.elec := same_elec (m := 201986048) (by simp) (by decide)
  refine ⟨rejoinHold { s with elec := { s.elec with step := 12 }, hold := { s.hold with fracUp := s.elec.uptime } }, ?_, ?_⟩
  · have due : (s.elec.step == 10 || s.elec.step == 11) = true := by simpa using step
    show execJoinDispatch s = _
    unfold execJoinDispatch
    dsimp only
    rw [if_pos (by rw [drive, due, boundary, sync, permits]; rfl)]
  · exact congrArg ElecState.step (kept _)

/-- Settles O3: each clause is the theorem of its command. -/
theorem powerUpStepsTakeEffect : Obligations.PowerUpStepsTakeEffect := by
  unfold Obligations.PowerUpStepsTakeEffect
  refine ⟨?boot, ?scan, ?arbitrate, ?resolve, ?ryran, ?caravan, ?restore, ?join⟩
  case boot => exact fun s r clocks fw free step selector confirmed signed =>
    firmwareBoot_starts clocks fw free step selector confirmed signed
  case scan => exact fun s run fresh => ledgerScan_scans run fresh
  case arbitrate => exact fun s run step idle role fresh agrees => ownershipArbitration_arbitrates run step idle role fresh agrees
  case resolve => exact fun s run active free => dualActiveResolved_stepsDown run active free
  case ryran => exact fun s e0 e1 run step => ryranEnumeration_ends run step e0 e1
  case caravan => exact fun s f0 f1 run step => caravanEnumeration_ends run step f0 f1
  case restore => exact fun s run step => stateRecordRestoreTimeout_proceeds run step
  case join => exact fun s drive step boundary sync permits => joinDispatch_joins drive step boundary sync permits

end Sys2Proof.Proofs
